-- ==== Sys2Proof/Word.lean ====
section
/-!
DEFINITION. The word types of the hub (R1): 32-bit register words, bytes, the 64-bit line time, and a bit range
of a register.
-/

namespace Sys2Proof

/-- A register or memory word (R452: aligned 32-bit words only). -/
abbrev Word := BitVec 32

/-- A byte. -/
abbrev Byte := BitVec 8

/-- A value of the 64-bit Line Time Counter, in line ticks (R3). -/
abbrev Time := BitVec 64

/-- A bit range [lsb + width − 1 : lsb] of a register. -/
structure Fld where
  lsb : Nat
  width : Nat
  deriving DecidableEq, Repr

end Sys2Proof
end

