-- ==== Sys2Proof/Machine/Units.lean ====
section
/-!
DEFINITION. Parts of the hub's state that the two hubs of a pair send each other, as plain data: triggers, mappings,
filter chain channels, field channels, Loupe cores (R386, R389, R398).
-/

namespace Sys2Proof.Machine

/-- A trigger (R246): line, source code, instant, arrival, ARG0 of its mark, and whether others merged into it. -/
structure Trigger where
  line : Nat
  src : Nat
  inst : Time
  arr : Time
  arg0 : Nat
  merged : Bool
  partner : Bool
  deriving DecidableEq, Repr

/-- What a TIME_MAP record shows beside the mapping (R376): STATE, MASTER_CHG, HOLDOVER, UTC_OFFSET, OFFSET, MPD, GM_ID. -/
structure TimeView where
  state : Nat
  chg : Bool
  holdover : Bool
  utc : Int
  offset : Word
  mpd : Word
  gm : Nat
  deriving DecidableEq, Repr

/-- A mapping that has been formed (R372, R373): RATE, its correction at the limit, the offset that a step removes, in
2^-44 ns, whether RESTEP asked for it, from when its boundary may be taken, and, in a pair, what its record shows on both
hubs (R377). -/
structure MapNext where
  rate : Nat
  slewing : Bool
  step : Option Int
  restep : Bool
  notBefore : Time
  view : Option TimeView
  deriving DecidableEq, Repr

/-- What the inputs of an output's support amount to (R209, R211): highest rank, when it last occurred, its tag and
SUB, and the number of the input after the last that carries SETTLE, 0 for none. -/
structure TagSum where
  rank : Nat
  no : Nat
  tag : Nat
  sub : Nat
  last : Nat
  deriving DecidableEq, Repr

/-- The summary of no input. -/
def TagSum.none : TagSum := ⟨8, 0, 0, 0, 0⟩

/-- An envelope interval in progress (R264). -/
structure EnvAcc where
  count : Nat
  used : Nat
  min : Int
  max : Int
  worst : Nat
  deriving DecidableEq, Repr

/-- An empty envelope interval. -/
def EnvAcc.init : EnvAcc := ⟨0, 0, 0, 0, 0⟩

/-- The state of a chain channel (R199 to R215, R264): boxcar sum and summary; half-band histories, oldest first; the
blocker's m; the notch's x1, x2, y1, y2; previous result; output number; the output number from which outputs no longer
carry SETTLE; the SAMPLES record in progress: words, instant of the first, its number, flags, period; flags of the next
record; thresholds A and B; latest VALID linearised value and its latches for field and for node outputs; the last output's word and instant; the
envelope in progress, finished envelopes of the record, its instant and first number, intervals so far, flags. -/
structure ChainCh where
  sum : Int
  box : TagSum
  hb : List (List (Int × TagSum))
  m : Option Int
  notch : Option (Int × Int × Int × Int)
  prev : Int
  out : Nat
  settleTo : Nat
  words : List Word
  recInst : Time
  recNo : Nat
  recFlags : Nat
  recPeriod : Nat
  nextFlags : Nat
  thrA : Bool
  thrB : Bool
  lastVal : Option Word
  /-- When the last VALID sample was formed (R216). -/
  validAt : Option Time
  latch : Option Word
  latchN : Option Word
  word : Word
  wordInst : Option Time
  env : EnvAcc
  envs : List Byte
  envN : Nat
  envInst : Time
  envNo : Nat
  envDone : Nat
  envFlags : Nat
  envNext : Nat
  /-- Input number from which decimation phases count, and for a node channel the superframe that restarts them (R206,
  R207). -/
  k0 : Nat
  resyncAt : Option Nat
  deriving DecidableEq, Repr

/-- A chain channel before its first input. -/
def ChainCh.init : ChainCh :=
  { sum := 0, box := TagSum.none, hb := [], m := Option.none, notch := Option.none, prev := 0, out := 0, settleTo := 0,
    words := [], recInst := 0, recNo := 0, recFlags := 0, recPeriod := 0, nextFlags := 0, thrA := false, thrB := false,
    lastVal := Option.none, validAt := Option.none, latch := Option.none, latchN := Option.none, word := 0, wordInst := Option.none, env := EnvAcc.init, envs := [], envN := 0,
    envInst := 0, envNo := 0, envDone := 0, envFlags := 0, envNext := 0, k0 := 0,
    resyncAt := Option.none }

/-- A converted result (R162): code, range, and the over-range comparator's finding at its hold: 0 none, 1 high,
2 low. -/
structure Conv where
  code : Int
  range : Nat
  ovr : Nat
  deriving DecidableEq, Repr

/-- An injected outcome that waits to become visible (R179). -/
structure InjDone where
  ch : Nat
  tag : Nat
  src : Nat
  hold : Time
  resTag : Nat
  code : Nat
  range : Nat
  visible : Time
  /-- The requesting Loupe core plus 1; 0 for a host. -/
  core : Nat
  deriving DecidableEq, Repr

/-- A field channel beside its registers (R164 to R175, R185, R190): range in force; this tick's result, with the tags
that its conversion gave (CALSUB by the redundancy check); the findings of the tick in progress: over-range, test tick,
loop, terminal and limit conditions; previous result as code and range; OPEN and SHORT latches with their SUB bits; the
tick whose burn-out test latched OPEN; good ticks toward clearing OPEN and SHORT; raw SETTLE results left; autorange:
dwell, the hold from which a change may be applied, decided ranges with the ticks that decided them, oldest first;
comparators A and B and the input at their limit amplifier in 10 V / 2^41; hold of R190: 0 none, 1 safe states, 2 kept
states. -/
structure FldCh where
  range : Nat
  conv : Option Conv
  badConv : Bool
  ovr : Nat
  test : Bool
  loopBad : Bool
  sensBad : Nat
  termBad : Bool
  limBad : Bool
  prevCode : Int
  prevRange : Nat
  prevVal : Int
  openL : Nat
  openTest : Option Nat
  shortL : Nat
  goodO : Nat
  goodS : Nat
  settle : Nat
  dwell : Nat
  free : Nat
  pend : List (Nat × Nat)
  lim : Int
  cmpA : Bool
  cmpB : Bool
  hold : Nat
  holdTo : Time
  /-- Comparator states A and B at the latch, for the safe state "held" (R175). -/
  keepA : Bool
  keepB : Bool
  deriving DecidableEq, Repr

/-- A field channel at plan start. -/
def FldCh.init : FldCh :=
  { range := 0, conv := Option.none, badConv := false, ovr := 0, test := false, loopBad := false, sensBad := 0, termBad := false,
    limBad := false, prevCode := 0, prevRange := 0, prevVal := 0, openL := 0, openTest := Option.none, shortL := 0, goodO := 0, goodS := 0,
    settle := 0, dwell := 0, free := 0, pend := [], lim := 0, cmpA := false, cmpB := false, hold := 0, holdTo := 0,
    keepA := false, keepB := false }

/-- An input item (R308): its type in G3, its bytes, SRC, SEQ and LTC of its header. -/
structure LpeItem where
  type : Nat
  bytes : List Byte
  src : Word
  seq : Nat
  ref : Time
  deriving DecidableEq, Repr

/-- A channel selected as a source (R308): samples gathered, instant and number of the first, flags and period, and the
items of this core and channel so far. -/
structure LpeChan where
  words : List Word
  inst : Time
  no : Nat
  flags : Nat
  period : Nat
  seq : Nat
  deriving DecidableEq, Repr

/-- A selected channel before its first sample. -/
def LpeChan.init : LpeChan := ⟨[], 0, 0, 0, 0, 0⟩

/-- An injected conversion of a core (R319): its INJ_STAT word, and the LTC from which it is shown. -/
structure LpeInj where
  stat : Word
  code : Word
  ltc : Word
  at_ : Time
  deriving DecidableEq, Repr

/-- A Loupe core (R300 to R319). Registers; program counter; results not yet usable, as (instructions left, register,
value); the accumulator that the last instruction changed, with the value before; a taken branch with the delay slots
left; the last instruction was a load; the repeat in progress as (first, last, passes left); interrupt and I/O
registers; activation in progress with its item and whether one runs; buffered events as (stream, kind, data); queue of
items with their place in the ring; activation count; for each enabled IP bit that has set, CYC then. -/
structure LpeCore where
  g : List Word
  acc : List Int
  ad : List Word
  of_ : List Word
  md : List Nat
  flg : Nat
  epc : Nat
  pc : Nat
  cyc : Nat
  bud : Nat
  late : List (Nat × Nat × Word)
  accOld : Option (Nat × Int)
  br : Option (Nat × Nat)
  loadSlot : Bool
  rpt : Option (Nat × Nat × Nat)
  ie : Nat
  ip : Nat
  tmr : Nat
  dma : Option (Nat × Nat × Nat)
  dmaDone : Bool
  injPend : Bool
  injStat : Word
  injCode : Word
  injLtc : Word
  injNext : Option LpeInj
  running : Bool
  waiting : Bool
  inIrq : Bool
  item : Option LpeItem
  events : List (Nat × Nat × List Byte)
  queue : List (LpeItem × Nat)
  qTail : Nat
  initDue : Bool
  acts : Nat
  actNo : Nat
  cause : Nat
  irqAt : List (Nat × Nat)
  chans : List (Nat × LpeChan)
  tmrSeq : Nat
  tmrNext : Nat
  /-- Activations of the last second: LTC of the start and cycles. -/
  log : List (Time × Nat)
  startAt : Time
  /-- An overrun with cause BUDGET since OVERRUNS was last read. -/
  budSeen : Bool
  /-- A switch has changed the program; it is loaded once the items accepted before are handled (R321). -/
  reload : Bool
  deriving DecidableEq, Repr

/-- A core at plan load (R300). -/
def LpeCore.init : LpeCore :=
  { g := List.replicate 16 0, acc := [0, 0, 0, 0], ad := List.replicate 8 0, of_ := List.replicate 8 0,
    md := List.replicate 8 0, flg := 0, epc := 0, pc := 0, cyc := 0, bud := 0, late := [], accOld := none, br := none,
    loadSlot := false, rpt := none, ie := 0, ip := 0, tmr := 0, dma := none, dmaDone := false, injPend := false,
    injStat := 0, injCode := 0, injLtc := 0, injNext := none, running := false, waiting := false, inIrq := false,
    item := none, events := [], queue := [], qTail := 0, initDue := false, acts := 0, actNo := 0, cause := 0,
    irqAt := [], chans := [], tmrSeq := 0, tmrNext := 0, log := [], startAt := 0,
    budSeen := false, reload := false }

end Sys2Proof.Machine
end

