-- ==== Sys2Proof/Syntax.lean ====
section
/-!
DEFINITION. The commands the block takes: one constructor per row of spec/opcode_table.json, with the row's operands,
and the data types of those operands. What the hub cannot know by itself (a converter's result, the bytes of a frame,
a measured time) is an operand of the command that brings it.
-/

namespace Sys2Proof

/-- Who makes a register access (R460, R461): a host context over Ethernet, the management port, or Winch. -/
inductive Accessor where
  | ctx (c : Fin 4)
  | mgmt
  | winch
  deriving DecidableEq, Repr

/-- A Slozon message from a host, as it arrives (R349): the port, the sender's addresses, the header fields, the body
and the tag bytes that follow it. TYPE is the command's row. -/
structure SlzMsg where
  port : Fin 2
  ip : Nat
  udp : Nat
  mac : Nat
  magic : Nat
  ver : Nat
  ctx : Nat
  flags : Nat
  len : Nat
  session : Nat
  seq : Nat
  ack : Nat
  boot : Nat
  body : List Byte
  tag : List Byte
  deriving DecidableEq, Repr

/-- An accepted edge on a SHUT_IN ball (R248): the input, the ball's new level, and the edge's LTC at the ball. -/
structure ShutEdge where
  n : Fin 4
  level : Bool
  t : Time
  deriving DecidableEq, Repr

/-- A word of a write that meets another source's write of the same word in the same register-fabric cycle (R363, R460):
its place in the write, the other source, a context 0 to 3 or 4 for Winch, and whether the data are equal. -/
structure Met where
  word : Nat
  other : Fin 5
  equal : Bool
  deriving DecidableEq, Repr

/-- A record a producer hands to the spool engine (R11, R274). -/
structure RawRecord where
  kind : Nat
  cls : Nat
  idx : Nat
  ref : Time
  payload : List Byte
  deriving DecidableEq, Repr

/-- What a protected memory read meets (R116, R283): nothing, a corrected word, an uncorrectable word in the header or
payload, or an uncorrectable descriptor word. -/
inductive Ecc where
  | clean | corrected | body | descriptor
  deriving DecidableEq, Repr

/-- The strap balls as they stood before the end of reset (R35, R364). -/
structure Straps where
  pair : Bool
  mgmt : Fin 4
  stable : Bool
  deriving DecidableEq, Repr

/-- The functions a progress monitor watches (R30). -/
inductive MonFn where
  | fibreEngine | fieldSequencer | driariPort | spoolEngine | compression
  deriving DecidableEq, Repr

/-- The tamper detectors (R442). -/
inductive TamperSrc where
  | glitch | mesh | overtemp
  deriving DecidableEq, Repr

/-- Why a received frame or datagram is dropped (R343, R347 to R349, R370). -/
inductive FrameFault where
  | fcs | vlan | tooLong | ipOptions | fragment | ipChecksum | udpChecksum | udpPort | etherType | protocol
  | slozonType | malformed | ptpMessage
  deriving DecidableEq, Repr

/-- What the eye monitor and the lane controller measure on a lane in one millisecond (R327, R329): margins, equaliser
settings, and the bits and errors the PRBS checker saw. -/
structure LaneMeasure where
  height : Nat
  width : Nat
  eq : Nat
  dfeLo : Word
  dfeHi : Word
  bits : Nat
  errs : Nat
  deriving DecidableEq, Repr

/-- What a PTP event message bears beside its times (R370): the port it came on, its domain, its sender and its
sequence number. -/
structure PtpHead where
  port : Fin 2
  domain : Nat
  src : Nat
  seq : Nat
  deriving DecidableEq, Repr

/-- An Announce message (R371): port, domain, sender, the fields of the dataset comparison in its order, currentUtcOffset
and the announce interval as a power of two seconds. -/
structure Announce where
  port : Fin 2
  domain : Nat
  src : Nat
  prio1 : Nat
  cls : Nat
  acc : Nat
  var : Nat
  prio2 : Nat
  gm : Nat
  steps : Nat
  utc : Int
  interval_ : Int
  deriving DecidableEq, Repr

/-- What the compliance monitor of an excited channel sees (R171): a current source at its compliance limit, and the
current in the bridge or the loop in µA, where it measures one. -/
structure LoopObs where
  limit : Bool
  cur : Option Nat
  deriving DecidableEq, Repr

/-- A finding of the compliance monitor of channel `ch` (R171). -/
structure LoopFind where
  ch : Fin 64
  obs : LoopObs
  deriving DecidableEq, Repr

/-- What the field die finds on a channel at a hold (R163, R171 to R173): the over-range comparator (0 none, 1 high,
2 low), the compliance monitor, the terminal voltage |V(EXA) − V(EXB)| in nV where it was measured, a supply limit in
force, and which of the leads SNP and SNN drove the input of a burn-out test beyond range. A channel without an entry
shows nothing. -/
structure WireObs where
  ch : Fin 64
  ovf : Fin 3
  loop : LoopObs
  vTerm : Option Nat
  limit : Bool
  snp : Bool
  snn : Bool
  deriving DecidableEq, Repr

/-- What a receiver or Raman converter delivered over a window (R57, R83): clipped samples, least and largest sample. -/
structure AdcRange where
  clips : Nat
  lo : Int
  hi : Int
  deriving DecidableEq, Repr

/-- A raw receiver sample of an acquisition window (R57, R59): X-I, X-Q, Y-I and Y-Q. -/
structure RawSample where
  xi : Int
  xq : Int
  yi : Int
  yq : Int
  deriving DecidableEq, Repr

/-- What a read of a point record meets (R116): nothing, corrected words, an uncorrectable word, or both kinds. -/
inductive PssRead where
  | clean
  | corrected (words : Nat)
  | uncorr (word : Fin 6)
  | mixed (words : Nat) (lost : List (Fin 6))
  deriving DecidableEq, Repr

/-- A REG_READ message and what its reads of words of the PSS window meet, in order (R116, R355). -/
structure ReadMsg where
  msg : SlzMsg
  ecc : List PssRead
  deriving DecidableEq, Repr

/-- What an injected conversion shows beside its code: over-range (0 none, 1 high, 2 low), and a failed redundancy check
(R178, R184). -/
structure InjFind where
  ovf : Fin 3
  bad : Bool
  deriving DecidableEq, Repr

/-- Words that a read of a record found corrected, and the words it found uncorrectable (R116). -/
def PssRead.fixed : PssRead → Nat
  | .corrected n => n
  | .mixed n _ => n
  | _ => 0
def PssRead.lost : PssRead → List Nat
  | .uncorr w => [w.val]
  | .mixed _ ws => ws.map Fin.val
  | _ => []

/-- The reply slot of an upstream frame (R227, R232); `ok` says its CRC held. -/
structure NodeReply where
  addr : Nat
  code : Nat
  dat : List Byte
  ok : Bool
  deriving DecidableEq, Repr

/-- A shutter slot of an upstream frame (R238). -/
structure NodeEvent where
  addr : Nat
  evt : Nat
  offset : Nat
  ok : Bool
  deriving DecidableEq, Repr

/-- An upstream frame as decoded (R227): arrival LTC of its U_SOF, its SFN, whether the header CRC held, invalid code
words, the reply, the status slots (word and CRC finding), the shutter slots, and per port slot its sample words, none
where its CRC failed or it held an invalid code word. -/
structure UpFrame where
  arr : Time
  sfn : Nat
  hdrOk : Bool
  bad : Nat
  reply : NodeReply
  status : List (Nat × Bool)
  events : List NodeEvent
  blocks : List (Nat × Option (List Word))
  deriving DecidableEq, Repr

/-- A card in the SD slot (R435, R449): 1 SDHC, 2 SDXC, 3 not supported; whether it holds a FAT32 volume, and the file
CX6424.IMG in its root directory. -/
structure SdCard where
  type : Fin 4
  fat32 : Bool
  file : Option (List Byte)
  deriving DecidableEq, Repr

/-- How a maintenance step that ends has gone (R411, R413): it was the activity's last, the block failed its pattern,
the block needed a refresh. -/
structure StepEnd where
  last : Bool
  fail : Bool
  refresh : Bool
  deriving DecidableEq, Repr

/-- A reading of the monitors (R418): the nine rails in mV, core temperature in 0.01 K, power in mW, I_VDD in mA. -/
structure Monitors where
  rails : List Nat
  tCore : Int
  power : Nat
  iVdd : Nat
  deriving DecidableEq, Repr


/-- An HB message (R384, R386): role (4 TRAINING), sync state, serial number, preference, selected source (3 none),
holdover and park flags, ACTIVE_SINCE (0 on a hub that is not active), LTC at transmission, the LTC at transmission of
the last HB that the sender received on this lane with the ticks it held it, the number of the last COPY it received,
its health bits, the handover instant it names, whether it asks for the active role back (R397), its IPv4 address and
Slozon port. -/
structure HbMsg where
  role : Nat
  sync : Nat
  serial : Nat
  pref : Bool
  source : Nat
  holdover : Bool
  park : Bool
  since : Time
  tx : Time
  echo : Option Time
  hold : Nat
  ack : Nat
  health : Word
  handover : Option Time
  ask : Bool
  ip : Nat
  udp : Nat
  deriving DecidableEq, Repr

/-- A FEED_F message (R94, R152, R386): shot number, slot, launch LTC, dark, holdover and SAT flags, Z by slot and point, and
Raman samples in order. -/
structure FeedF where
  shot : Nat
  slot : Nat
  launch : Time
  dark : Bool
  holdover : Bool
  sat : Bool
  z : List (Nat × Nat × Int × Int)
  raman : List (Nat × Nat)
  deriving DecidableEq, Repr

/-- A FEED_W message (R191, R213, R242, R386): at a tick boundary its number, the hold of the tick before, whose results
pass there, and the die temperature latch, with the results as channel and word of FCH.LAST; node sample words as node
channel, superframe and words; at a superframe boundary its instant and the die temperature latch of the node channels. -/
structure FeedW where
  field : Option (Nat × Time × Word)
  results : List (Nat × Word)
  nodes : List (Nat × Nat × List Word)
  latch : Option (Time × Word)
  deriving DecidableEq, Repr

/-- One item of the shot-end copy (R389): a register write that stood; a release to a lane's item number; a word of
context state; a mapping; an outcome of an injected conversion, for a host and for a Loupe core; a notch set, a band and
a resynchronisation with the LTC from which their boundary is taken; a budget change; the instant of a plan switch. -/
inductive CopyOp where
  | write (who : Accessor) (addr : Nat) (v : Word)
  | free (lane n : Nat)
  | ctx (key : Nat) (v : Word)
  | mapping (m : Machine.MapNext)
  | timeState (v : Machine.TimeView) (t : Time)
  | inj (d : Machine.InjDone)
  | coreInj (core : Nat) (i : Machine.LpeInj)
  | notch (set : Nat) (t : Time)
  | band (b : Nat) (t : Time)
  | resync (t : Time)
  | budget (two : Bool) (t : Time)
  | switchAt (t : Time)
  deriving DecidableEq, Repr

/-- A COPY message (R389): its number, the LTC of the shot end, the shot number with its digest where the plan has shots,
and the items. -/
structure CopyMsg where
  no : Nat
  shotEnd : Time
  digest : Option (Nat × Nat)
  ops : List CopyOp
  deriving DecidableEq, Repr

/-- A stored item without its content (R398): stored size, and KIND, SRC class and index, SEQ and reference instant of its
record. -/
structure StoredItem where
  size : Nat
  kind : Nat
  cls : Nat
  idx : Nat
  seq : Nat
  ref : Time
  deriving DecidableEq, Repr

/-- What a hub knows of a node of a chain (R230, R233, R239): its home side is at the chain's second end, TYPE is not that of
the plan, what ASSIGN replied, D_i, OFFSET_i and OFFSET_REV_i. -/
structure Bridle where
  far : Bool
  typeBad : Bool
  type : Nat
  repLat : Nat
  serial : Nat
  d : Nat
  ofs : Nat
  ofsRev : Nat
  deriving DecidableEq, Repr

/-- A BULK message (R55, R239, R240, R398): part of the image of a plan slot; plan slot states with their digests and the running slot;
schedule epoch, registers, SEQ counters, NODE_STATUS cycle bases by port, and whether the two-port budgets hold; a lane's
item numbers with the stored size and record header of each item; the end of the lanes; an item of a producer that is not in sync, as lane, stored size and record header; a point
record; filter chains with their phase and, for field channels, the channels; an area of memory swept, as base, size and the bytes that are not 0; a core; D_total
of a port; the bridle table entry of a node; a split that begins, with the last node on the first end's side, or ends; an
order that the second end trains the nodes beyond one. -/
inductive BulkPart where
  | plan (slot offset : Nat) (bytes : List Byte) (last : Bool)
  | slots (a b : Nat × List Byte) (run : Option Nat)
  | join (epoch : Time) (regs : List (Nat × Word)) (seqs cycles : List (Nat × Nat)) (two : Bool)
  | lane (k rel mark rd wr : Nat) (items : List StoredItem)
  | lanesEnd
  | item (k : Nat) (it : StoredItem)
  | record (point : Nat) (words : List Nat)
  | chains (node : Bool) (k0 : Nat) (chans : List (Nat × Machine.ChainCh)) (fields : List (Nat × Machine.FldCh))
  | bytes (lo size : Nat) (cells : List (Nat × Byte))
  | core (n : Nat) (c : Machine.LpeCore)
  | dTotal (port total : Nat)
  | bridle (port a : Nat) (b : Bridle)
  | split (port : Nat) (on : Bool) (last : Nat)
  | farTrain (port found : Nat)
  deriving DecidableEq, Repr

/-- A pair claim as a datagram on the hub's Slozon port (R395). -/
structure ClaimMsg where
  port : Fin 2
  magic : Nat
  serial : Nat
  since : Time
  tag : List Byte
  deriving DecidableEq, Repr

/-- The commands of the hub, one constructor per row of the opcode table. -/
inductive Instr where
  /-- RAIL_OUT_OF_WINDOW (R468): A supply rail leaves its monitor window for 2 µs or longer, and full reset with cause SUPPLY is held. -/
  | railOutOfWindow (rails : Nat)
  /-- RAIL_VALID_TIMER (R425): Every rail has been within its window for 1 ms, so full reset is released and the straps are latched. -/
  | railValidTimer (straps : Straps)
  /-- RESET_N_LOW (R429): RESET_N is accepted low through its filter, and the hub performs a full reset with cause RESET_N. -/
  | resetNLow
  /-- PROGRESS_MONITOR_MISS (R30): A function misses its progress check, so the block code is logged and a full reset with cause WEDGED follows. -/
  | progressMonitorMiss (f : MonFn) (inst : Nat)
  /-- WATCHDOG_EXPIRY (R30): Winch fails to serve its watchdog within 100 ms, and a full reset with cause WATCHDOG follows. -/
  | watchdogExpiry
  /-- SYS_RESET (R429): SYS.CMD RESET from C0 causes a full reset with cause COMMAND; a write from another context is dropped with SYS_OWNER. -/
  | sysReset (ctx : Fin 4)
  /-- PFW_FALL (R430): PFW_N is accepted low: the hub parks at the next fix boundary, commits settings and the fault log, and reports PWR_FAIL. -/
  | pfwFall
  /-- PFW_COMMIT_DONE (R414): The commit of settings and the fault log after PFW_N completes, and PWR.STAT.COMMITTED is set. -/
  | pfwCommitDone (us : Nat)
  /-- PFW_RESUME (R430): PFW_N has stayed high for RESUME_MS, so the park for PFW_N ends and acquisition resumes at the next shot boundary. -/
  | pfwResume
  /-- TAMPER_TRIP (R442): A GLITCH, MESH or OVERTEMP detector trips: the Darkroom is wiped, SEC.TAMPER is counted and SEC_TAMPER is reported. -/
  | tamperTrip (src : TamperSrc)
  /-- JTAG_TAP_RESET (R35): JTRST_N is low, and the TAP is held in Test-Logic-Reset without affecting any other function. -/
  | jtagTapReset
  /-- LANE_LOCKED (R328): A lane's CDR reaches LOCKED after a valid signal returns; the first such lock fixes t0 of start-up. -/
  | laneLocked (lane : Fin 4)
  /-- LOS_DETECT (R328): A lane's amplitude stays below 65 mV for 64 ticks: the lane enters LOS, squelches its clock and counts LOS_EVT. -/
  | losDetect (lane : Fin 4)
  /-- CDR_UNLOCK_TIMEOUT (R328): A lane's CDR stays unlocked for 4,096 ticks, so the lane returns to ACQUIRE and reports LN_LOL. -/
  | cdrUnlockTimeout (lane : Fin 4)
  /-- FREQ_COMPARE_DONE (R332): A 65,536-cycle frequency comparison of a candidate source completes, updating FREQn and READY, with a window exit treated as loss of lock. -/
  | freqCompareDone (src : Fin 3) (offset : Int)
  /-- SYNTH_TROUBLE (R331): The selected source shows LOS, CDR unlock or a phase error, and the synthesiser freezes its control word. -/
  | synthTrouble
  /-- HOLDOVER_TIMEOUT (R16): Holdover reaches 8 ms with no ready source, and the hub parks at the next shot boundary. -/
  | holdoverTimeout
  /-- RESUME (R16): A source is ready and the ramp is complete, so acquisition resumes at the next scheduled shot boundary with a MARK of kind RESUME. -/
  | clkResume
  /-- CLK_SWITCH (R334): CLK.CMD SWITCH asks for a switch to a named source, and the switch is refused unless the command comes from C0 and the target is ready. -/
  | clkSwitch (ctx : Fin 4) (src : Fin 4)
  /-- SWITCH_HANDSHAKE (R335): The old LCK domain's handshake arrives, and the switch completes onto the target and starts the ramp. -/
  | switchHandshake
  /-- SWITCH_HANDSHAKE_TIMEOUT (R335): No handshake arrives within 64 target cycles, so the switch completes anyway and SW_TIMEOUT is reported. -/
  | switchHandshakeTimeout
  /-- RAMP_STEP (R336): A 4,125-tick step of the divider ramp ends, and the reference divider halves. -/
  | rampStep
  /-- RAMP_COMPLETE (R336): The divider ramp completes: the clock state becomes LOCKED, and at start or after a park the acquisition clocks are released. -/
  | rampComplete (pbo : Int)
  /-- REVERT_HOLD_ELAPSED (R333): With REVERT set, a higher-priority source has been ready for REVERT_HOLD seconds, and the hub switches to it. -/
  | revertHoldElapsed
  /-- EYE_MEASURE (R327): Every 1 ms the eye monitor measures a lane's margins into LN.EYE. -/
  | eyeMeasure (lane : Fin 4) (e : LaneMeasure)
  /-- PRBS_INJ1 (R329): LN.PRBS_CMD.INJ1 injects one bit error into the generator. -/
  | prbsInj1 (ctx : Fin 4) (lane : Fin 4)
  /-- PRBS_CLR (R341): LN.PRBS_CMD.CLR clears PRBS_ERR and PRBS_BITS. -/
  | prbsClr (ctx : Fin 4) (lane : Fin 4)
  /-- PRBS_RATE_INJECT (R329): The INJ_RATE count of 2^k bits expires, and one error is injected. -/
  | prbsRateInject (lane : Fin 4)
  /-- PRBS_SYNC (R329): The checker sees 64 correct bits after its seed and declares SYNC. -/
  | prbsSync (lane : Fin 4)
  /-- GATE_WRITE (R338): A write of CLK.GATE0, GATE1 or GATE2 gates or ungates blocks, and a bit for a used block is ignored with CLK_GATE_USED. -/
  | gateWrite (g : Fin 3) (v : Word)
  /-- GATE_EFFECTIVE (R339): The register access in flight to a block being gated completes, and the block is held in reset. -/
  | gateEffective (g : Fin 3)
  /-- UNGATE_DONE (R339): The ramp of an ungated block ends, and its reset is released with its registers at their Reset values. -/
  | ungateDone (g : Fin 3)
  /-- FIRMWARE_LOADED (R427): The loader finishes loading and checking the firmware image named by the activation record, and Winch starts or Safelight starts. -/
  | firmwareLoaded (good readable : Bool) (ver : Word) (fmt : Nat)
  /-- STARTUP_CAL_DONE (R78): The start-up calibration of the receiver, Raman and field converters completes, and TEMP_CAL takes the die temperature. -/
  | startupCalDone (tempRx tempFld : Int)
  /-- PLAN_LOAD_DONE (R48): The loaded sections of the activated plan are in place and checked, or the CRC check fails and the other slot or no plan is used. -/
  | planLoadDone
  /-- PLAN_DATA (R360): A Slozon PLAN_DATA message writes image bytes at OFFSET into a plan slot, or is refused with a status. -/
  | planData (m : SlzMsg)
  /-- PLAN_DATA_WRITTEN (R360): The bytes of a PLAN_DATA message are in flash, PLAN_ACK OK is sent, and a LAST message makes the slot LOADED. -/
  | planDataWritten
  /-- COMMIT (R43): PLN.CMD COMMIT from C0 moves a LOADED slot to CHECKING and starts the commit checks. -/
  | plnCommit (ctx : Fin 4) (slot : Bool)
  /-- COMMIT_CHECK_DONE (R43): The commit checks end, and the slot becomes COMMITTED or REJECTED with PLN.RESULT set. -/
  | commitCheckDone
  /-- SWITCH (R45): PLN.CMD SWITCH starts loading a COMMITTED plan into the shadow tables and sets SWITCH_PEND. -/
  | plnSwitch (ctx : Fin 4) (slot : Bool) (useAt : Bool)
  /-- SHADOW_LOAD_DONE (R45): Loading of the shadow tables completes or fails, and the switch boundary is chosen or the switch is abandoned. -/
  | shadowLoadDone (ok : Bool)
  /-- SWITCH_INSTANT (R45): At the switch instant the old schedules end, the new ones begin with E, the slots swap and a MARK of kind PLAN_SWITCH is written. -/
  | switchInstant
  /-- ACTIVATION_RECORD_WRITTEN (R47): The plan activation record naming the new slot is written to flash after a switch. -/
  | activationRecordWritten
  /-- ABORT (R46): PLN.CMD ABORT cancels a pending switch before its switch instant. -/
  | plnAbort (ctx : Fin 4) (slot : Bool)
  /-- ERASE (R44): PLN.CMD ERASE erases a plan slot whose state permits it. -/
  | plnErase (ctx : Fin 4) (slot : Bool)
  /-- LIVE_WRITE (R51): A write to a live field is range-checked and waits, counted in LIVE_PEND, for its BOUNDARY. -/
  | liveWrite (who : Accessor) (addr : Nat) (v : Word)
  /-- REGISTER_WRITE (R355): A context writes a register word that has no behaviour of its own; the write is checked for access, range, lock and owner, and then stands or is dropped. -/
  | registerWrite (who : Accessor) (addr : Nat) (v : Word)
  /-- READ_CLEAR (R7): A read of an RC field returns its value and clears it in the same access. -/
  | readClear (who : Accessor) (addr : Nat) (ev : Word)
  /-- LO_READ (R461): A read of the LO word of a 64-bit pair latches the HI word for the reading context. -/
  | loRead (who : Accessor) (addr : Nat)
  /-- HI_READ (R461): A read of the HI word returns the latched value and ends the latch, or returns the current value when no latch is held. -/
  | hiRead (who : Accessor) (addr : Nat)
  /-- IRQ_CLR_WRITE (R455): A write of 1 bits to IRQ_CLR clears those IRQ_RAW bits, unless an event sets them in the same cycle. -/
  | irqClrWrite (who : Accessor) (page : Nat) (v : Word) (ev : Word)
  /-- IRQ_EN_WRITE (R455): A write of IRQ_EN_Cx sets a context's enables, and an enabled bit that is already set causes a NOTICE or drives IRQ_N. -/
  | irqEnWrite (who : Accessor) (page : Nat) (x : Fin 4) (v : Word)
  /-- PAGE_CTRL_WRITE (R457): A write of PAGE_CTRL by C0 sets EN or LOCK, and is dropped with PAGE_OWNER or PAGE_LOCKED as the rule gives. -/
  | pageCtrlWrite (who : Accessor) (page : Nat) (v : Word)
  /-- SNAPSHOT_READ (R120): A read of the PSS snapshot window returns a record word, and a read at offset 0 latches the whole 16-byte word. -/
  | snapshotRead (who : Accessor) (addr : Nat) (ecc : PssRead)
  /-- POP_DATA_READ (R295): A read of SPL.DATA returns the next data word of the popped item and advances. -/
  | popDataRead (who : Accessor)
  /-- SHOT_BOUNDARY (R39): At a shot boundary, shot n launches, or is dark, and boundary-bound changes and pair copies take effect. -/
  | shotBoundary
  /-- SLOT_LAUNCH (R61): In Mode Q-stagger, slot j of a shot launches at its own offset. -/
  | slotLaunch
  /-- PULSE_START (R58): The pulse DACs begin playing a slot's waveform d_tx plus half its length before the launch LTC. -/
  | pulseStart (slot : Fin 4)
  /-- RMN_TRIG_RISE (R72): RMN_TRIG rises LEAD ticks before the launch of a taking-part shot, for WIDTH ticks. -/
  | rmnTrigRise
  /-- ACQUISITION_WINDOW_END (R80): A shot's acquisition window ends, and a calibrated spare is exchanged for the element longest in service. -/
  | acquisitionWindowEnd (rx : List AdcRange)
  /-- POINT_UPDATE (R97): The engine processes one slot point through stages 5 to 7 and the temporal chain, and writes the point record. -/
  | pointUpdate (slot : Fin 4) (point : Nat) (new : List RawSample) (ecc : PssRead)
  /-- PSS_SCRUB (R118): At a scrub position, scrub reads one PSS word and corrects it or initialises it. -/
  | pssScrub (ecc : PssRead)
  /-- RAMAN_CONVERSION (R144): After the Raman window of an interval's last taking-part shot, the accumulators are converted to temperatures and TEMP_PROFILE records are pushed. -/
  | ramanConversion
  /-- HSPI_GO (R73): OFE.CMD HSPI_GO starts a head SPI transaction, or is refused with HSPI_BUSY. -/
  | hspiGo
  /-- HSPI_TRANSACTION_DONE (R73): A head SPI transaction ends, its reply is checked, and the result or the next script transaction follows. -/
  | hspiTransactionDone (reply : List Byte)
  /-- HSPI_START_BYTE_TIMEOUT (R75): The start byte has not arrived within 100 µs, so the transaction repeats once or fails with HEAD_SPI. -/
  | hspiStartByteTimeout
  /-- RECAL (R79): OFE.CMD RECAL requests a receiver and Raman converter rotation through the maintenance coordinator. -/
  | ofeRecal
  /-- LAS_ON (R70): OFE.CMD LAS_ON raises LAS_EN, or holds the request until the interlock is released. -/
  | lasOn
  /-- LAS_OFF (R71): OFE.CMD LAS_OFF drops LAS_EN at once and stops launches from the next shot boundary. -/
  | lasOff
  /-- SCRIPT (R76): OFE.CMD SCRIPT runs the plan's head script, and LAS_EN is raised on success. -/
  | headScript
  /-- ILK_ACCEPT (R69): HEAD_ILK_N low passes its filter: the DACs are blanked, LAS_EN and RMN_TRIG drop, and launches stop. -/
  | ilkAccept
  /-- ILK_RELEASE (R70): HEAD_ILK_N has been high for 1 ms, so the interlock is released and LAS_EN follows ILK_AUTO. -/
  | ilkRelease
  /-- LAS_STAT_RISE (R68): The filtered LAS_STAT becomes ready, and launches begin at the next shot boundary. -/
  | lasStatRise
  /-- LAS_STAT_FALL (R68): The filtered LAS_STAT falls, so HEAD_NOT_READY is reported and launches stop from the next shot boundary. -/
  | lasStatFall
  /-- LAS_STAT_TIMEOUT (R67): LAS_STAT is not ready within 100 ms of LAS_EN, and HEAD_NOT_READY is reported. -/
  | lasStatTimeout
  /-- CONV_TEMP_READ (R79): The converter temperature is read every 1 ms, and a DT trigger requests a rotation. -/
  | convTempRead (temp : Int)
  /-- RX_RECAL_PERIOD (R79): RECAL_CFG.PERIOD seconds have passed since the last rotation, so a rotation is requested. -/
  | rxRecalPeriod
  /-- SPARE_CALIBRATED (R80): A spare converter element finishes its 180 µs calibration, or fails it and is removed. -/
  | spareCalibrated (conv : Fin 5) (good : Bool)
  /-- FIELD_TICK_HOLD (R164): All 64 track-and-holds close, and the previous tick's results pass to the filter chains with their tags. -/
  | fieldTickHold (obs : List WireObs)
  /-- CONVERSION_SLOT (R165): A converter slot converts one held channel, or an injected request, and completes after 500 ticks. -/
  | conversionSlot (conv : Fin 8) (slot : Nat) (code : Int) (bad : Bool)
  /-- COMPLIANCE_LATCH (R171): The compliance monitor detects an excitation loop break and latches OPEN, putting the comparators in their safe state. -/
  | complianceLatch (o : LoopFind)
  /-- START_HOLD_END (R190): The 100 µs comparator hold after excitation switch-on ends. -/
  | startHoldEnd
  /-- INJ_CMD (R178): FLD.INJ_CMD queues an injected conversion, or refuses it with INJ_NO_SLOT or INJ_BUSY. -/
  | injCmd (v : Word)
  /-- INJECTED_CONVERSION_DONE (R178): An injected conversion completes, and its outcome waits for its visibility boundary. -/
  | injectedConversionDone (conv : Fin 8) (code : Int) (found : InjFind)
  /-- FLD_CAL (R181): FLD.CMD CAL requests a rotation, or the calibration of one converter, through the coordinator. -/
  | fldCal (conv : Fin 16)
  /-- FIELD_RECAL_TRIGGER (R181): A field-die DT or PERIOD trigger requests a field converter rotation. -/
  | fieldRecalTrigger (temp : Int)
  /-- FIELD_CONVERTER_CAL_DONE (R182): One field converter ends its 1.2 ms calibration and returns to service, or the rotation ends. -/
  | fieldConverterCalDone
  /-- RECOVERY_DONE (R184): A converter recovery ends, and three failures within 1 s put the converter out of service. -/
  | recoveryDone (conv : Fin 8) (good : Bool)
  /-- COMPARATOR_CROSSING (R185): A limit comparator's input crosses its level, the comparator and the TSW outputs change state, and a trigger is issued. -/
  | comparatorCrossing (ch : Fin 64) (v : Int)
  /-- LATCHED_RELEASE (R187): A write of 1 to THC.LATCHED releases a latched output unless its condition is still active. -/
  | latchedRelease (v : Word)
  /-- BAND_SELECT (R216): Every 10 ms Winch reads the band source and decides a band change, or reports BAND_SRC_LOST. -/
  | bandSelect
  /-- LSYNC_EDGE (R204): A rising LSYNC edge updates the line frequency measurement, notch set selection and dip detection. -/
  | lsyncEdge
  /-- LSYNC_LOST (R204): No LSYNC edge arrives for 50 ms, so the notch set is kept and LSYNC_LOST is reported. -/
  | lsyncLost
  /-- SYNC (R207): FLT.CMD SYNC requests a resynchronisation of every chain channel at the next boundary. -/
  | chainSync
  /-- SUPERFRAME_BOUNDARY (R226): At a superframe boundary S_j, node sampling and node-chain fix-boundary changes take effect. -/
  | superframeBoundary
  /-- D_SOF_SEND (R226): A port sends the downstream frame of a superframe LEAD ticks before S_j, with its command and shutter slots. -/
  | dSofSend (port : Fin 16)
  /-- UPSTREAM_FRAME (R227): An upstream frame arrives and its replies, status, shutter events and sample blocks are decoded. -/
  | upstreamFrame (port : Fin 16) (f : UpFrame)
  /-- U_SOF_MISSING (R242): An expected U_SOF is missing, or a frame holds 4 invalid code words, so the port enters LINK. -/
  | uSofMissing (port : Fin 16) (bad : Nat)
  /-- LINK_RETRAIN_TIMEOUT (R242): A port in LINK has not seen two valid frames within 10 ms and retrains. -/
  | linkRetrainTimeout (port : Fin 16)
  /-- TRAINING_ATTEMPT_TIMEOUT (R233): No two valid upstream frames arrive within 10 ms of RESET, so another attempt starts, or NO_PARTNER after three. -/
  | trainingAttemptTimeout (port : Fin 16)
  /-- NO_PARTNER_RETRY (R233): A NO_PARTNER port restarts training every 1 s. -/
  | noPartnerRetry (port : Fin 16)
  /-- ASSIGN_REPLY_TIMEOUT (R234): An ASSIGN reply is missing after 50 µs, so it is retried, or the chain is truncated after three retries. -/
  | assignReplyTimeout (port : Fin 16)
  /-- RETRAIN (R233): DRP.CMD RETRAIN starts training of the port. -/
  | drpRetrain (port : Fin 16)
  /-- REJOIN (R241): DRP.CMD REJOIN rejoins a split chain by sending FORWARD to the node at BREAK_AT. -/
  | drpRejoin (port : Fin 16)
  /-- NODE_CMD (R244): DRP.CMD NODE_CMD sends the NCMD command in the next free slot, or is refused with DRP_BUSY. -/
  | nodeCmd (port : Fin 16)
  /-- NODE_CMD_TIMEOUT (R244): No reply to a NODE_CMD arrives within 51,563 ticks of its expected arrival, so TIMEOUT is set. -/
  | nodeCmdTimeout (port : Fin 16)
  /-- SPLIT_DETECT (R240): A second end sees no valid D_SOF for one superframe plus 8 ticks, and starts serving the chain as FAR_SERVING. -/
  | splitDetect (port : Fin 16)
  /-- AUTO_REJOIN (R241): With AUTO_REJOIN set, the node at BREAK_AT has reported B_SIGNAL for 1 s, so the chain rejoins. -/
  | autoRejoin (port : Fin 16)
  /-- SHUT_IN_EDGE (R248): A filtered SHUT_IN edge selected by EDGE issues a trigger with its compensated instant. -/
  | shutInEdge (edges : List ShutEdge)
  /-- SHUT_IN_STUCK (R248): A SHUT_IN stays asserted longer than STUCK, is ignored until released and reports SHUT_STUCK. -/
  | shutInStuck (n : Fin 4)
  /-- LINE_STATE_EXPIRY (R250): A line's WIDTH time after its last trigger ends, and its state and SHUT_OUT fall. -/
  | lineStateExpiry (n : Fin 16)
  /-- SCHEDULER_FIRE (R251): A scheduler's compare value is reached, so it issues a trigger and advances by SCHED_PER. -/
  | schedulerFire (k : Fin 8)
  /-- SCHED_CFG_WRITE (R251): A write of SCHED_CFGs starts or stops a scheduler and reloads SCHED_LEFT when COUNT or REPEAT changes. -/
  | schedCfgWrite (who : Accessor) (k : Fin 8) (v : Word)
  /-- SCHED_AT_WRITE (R251): A write of SCHED_ATs sets the compare value, and a value already reached gives one late trigger. -/
  | schedAtWrite (who : Accessor) (k : Fin 8) (v : Word)
  /-- SHB_TRIG (R251): SHB.CMD TRIG issues one host trigger at once, or waits for CMD_AT when AT is set. -/
  | shbTrig (ctx : Fin 4) (line : Fin 16) (useAt : Bool)
  /-- CMD_AT_REACHED (R251): The CMD_AT compare value of a waiting host trigger is reached, and the trigger is issued. -/
  | cmdAtReached
  /-- SEGMENT_COPY_DONE (R257): The copy of a segment buffer into the spool lane ends, and the SEGMENT record is pushed and the buffer freed. -/
  | segmentCopyDone (u : Fin 32) (bad : List Nat)
  /-- SPOOL_PUSH (R275): A record reaches its spool lane, which accepts it or drops it and accounts the drop in a GAP account. -/
  | spoolPush (r : RawRecord)
  /-- COMPRESSION_JOB_START (R290): The engine starts or resumes the highest-ranked ready job, flushing a lower-ranked running job. -/
  | compressionJobStart
  /-- COMPRESSION_JOB_DONE (R290): A compression job ends, verified or failed, and its item becomes visible. -/
  | compressionJobDone (mismatch : Bool)
  /-- STALE_EXPIRY (R282): A lane's stale timer reaches STALE with an unread item, so STALE is set and a NOTICE follows if enabled. -/
  | staleExpiry (spool : Fin 64) (lane : Fin 4)
  /-- POP (R276): SPL.POP_CTRL GO pops the next item of the highest non-empty lane, or returns NOT_VALID. -/
  | lanePop (who : Accessor) (lane : Fin 4) (oneLane : Bool) (ecc : Ecc)
  /-- MARK (R277): MARK_CTRL MARK sets a lane's MARK_NO to RD_NO. -/
  | laneMark (who : Accessor) (lane : Fin 4) (all : Bool)
  /-- REWIND (R277): MARK_CTRL REWIND sets a lane's RD_NO to MARK_NO, so items are delivered again. -/
  | laneRewind (who : Accessor) (lane : Fin 4) (all : Bool)
  /-- RELEASE_MARK (R277): MARK_CTRL RELEASE_MARK sets REL_NO to MARK_NO and frees space. -/
  | laneReleaseMark (who : Accessor) (lane : Fin 4) (all : Bool)
  /-- RELEASE_READ (R277): MARK_CTRL RELEASE_READ sets REL_NO and MARK_NO to RD_NO and frees space. -/
  | laneReleaseRead (who : Accessor) (lane : Fin 4) (all : Bool)
  /-- LOUPE_ITEM_DISPATCH (R308): A zone or channel item is written into a core's queue, or dropped at a full queue with an OVERRUN of cause QUEUE. -/
  | loupeItemDispatch
  /-- LOUPE_TIMER_ITEM (R308): A core's timer source reaches E + i·TPER and queues a timer item. -/
  | loupeTimerItem (core : Fin 16)
  /-- ACTIVATION_START (R309): An idle core with a queued item starts an activation at ENTRY with G1 to G3 and BUD loaded. -/
  | activationStart (core : Fin 16)
  /-- BUDGET_EXPIRY (R312): BUD reaches 0 before END, so the activation is cut and an OVERRUN of cause BUDGET is emitted. -/
  | budgetExpiry (core : Fin 16)
  /-- INTERRUPT_ENTRY (R314): An enabled pending interrupt is taken at an instruction boundary, saving EPC and jumping to IVEC. -/
  | interruptEntry (core : Fin 16)
  /-- DMA_DONE (R316): A DMOV move completes, and DONE and IP bit 0 are set. -/
  | dmaDone (core : Fin 16) (cycles : Nat)
  /-- TMR_EXPIRY (R318): A core's TMR counts down to zero, and IP bit 2 is set. -/
  | tmrExpiry (core : Fin 16)
  /-- NOP (R304): The instruction NOP does nothing. -/
  | lpNop (core : Fin 16)
  /-- ADD (R304): ADD writes a + b modulo 2^32 to d. -/
  | lpAdd (core : Fin 16)
  /-- SUB (R304): SUB writes a − b to d. -/
  | lpSub (core : Fin 16)
  /-- AND (R304): AND writes the bitwise and of a and b to d. -/
  | lpAnd (core : Fin 16)
  /-- OR (R304): OR writes the bitwise or of a and b to d. -/
  | lpOr (core : Fin 16)
  /-- XOR (R304): XOR writes the bitwise exclusive or of a and b to d. -/
  | lpXor (core : Fin 16)
  /-- SLT (R304): SLT writes 1 to d when a < b, signed, and 0 otherwise. -/
  | lpSlt (core : Fin 16)
  /-- MIN (R304): MIN writes the signed smaller of a and b to d. -/
  | lpMin (core : Fin 16)
  /-- MAX (R304): MAX writes the signed larger of a and b to d. -/
  | lpMax (core : Fin 16)
  /-- ABS (R304): ABS writes |a| to d, saturating and setting SAT for −2^31. -/
  | lpAbs (core : Fin 16)
  /-- ADDI (R304): ADDI writes a + imm to d. -/
  | lpAddi (core : Fin 16)
  /-- LUI (R304): LUI writes imm[15:0] shifted left by 16 to d. -/
  | lpLui (core : Fin 16)
  /-- ORI (R304): ORI writes a | imm[15:0] to d. -/
  | lpOri (core : Fin 16)
  /-- SHL (R304): SHL shifts a left by imm[4:0] into d. -/
  | lpShl (core : Fin 16)
  /-- SHR (R304): SHR shifts a right logically by imm[4:0] into d. -/
  | lpShr (core : Fin 16)
  /-- SRA (R304): SRA shifts a right arithmetically by imm[4:0] into d. -/
  | lpSra (core : Fin 16)
  /-- MUL (R304): MUL writes the 32-bit product of the low halfwords of a and b to G[d]. -/
  | lpMul (core : Fin 16)
  /-- MPY (R304): MPY sets an accumulator to a × b. -/
  | lpMpy (core : Fin 16)
  /-- MAC (R304): MAC adds a × b to an accumulator with saturation. -/
  | lpMac (core : Fin 16)
  /-- MSU (R304): MSU subtracts a × b from an accumulator with saturation. -/
  | lpMsu (core : Fin 16)
  /-- MOVA (R304): MOVA writes an accumulator shifted, rounded and saturated to 32 bits into d. -/
  | lpMova (core : Fin 16)
  /-- MOVTA (R304): MOVTA loads an accumulator with a, sign-extended. -/
  | lpMovta (core : Fin 16)
  /-- FTM (R304): FTM performs a filter tap: it multiplies and accumulates two halfwords, shifts the delay line and post-modifies both address registers. -/
  | lpFtm (core : Fin 16) (ex ey : Ecc)
  /-- LDH (R304): LDH loads a sign-extended halfword into g. -/
  | lpLdh (core : Fin 16) (ecc : Ecc)
  /-- LDHU (R304): LDHU loads a zero-extended halfword into g. -/
  | lpLdhu (core : Fin 16) (ecc : Ecc)
  /-- LDW (R304): LDW loads a word into g. -/
  | lpLdw (core : Fin 16) (ecc : Ecc)
  /-- STH (R304): STH stores g[15:0] as a halfword. -/
  | lpSth (core : Fin 16)
  /-- STW (R304): STW stores g as a word. -/
  | lpStw (core : Fin 16)
  /-- BEQ (R304): BEQ branches after its delay slots when a equals b. -/
  | lpBeq (core : Fin 16)
  /-- BNE (R304): BNE branches after its delay slots when a differs from b. -/
  | lpBne (core : Fin 16)
  /-- BLT (R304): BLT branches after its delay slots when a < b, signed. -/
  | lpBlt (core : Fin 16)
  /-- BGE (R304): BGE branches after its delay slots when a ≥ b, signed. -/
  | lpBge (core : Fin 16)
  /-- BR (R304): BR branches unconditionally after its delay slots. -/
  | lpBr (core : Fin 16)
  /-- CALL (R304): CALL writes its own address + 3 to G15 and branches after its delay slots. -/
  | lpCall (core : Fin 16)
  /-- JR (R304): JR branches to G[a][13:0] after its delay slots. -/
  | lpJr (core : Fin 16)
  /-- RPT (R307): RPT repeats the following LEN instructions a counted number of times without overhead. -/
  | lpRpt (core : Fin 16)
  /-- END (R310): END ends the activation, frees the item's queue space and pushes the buffered events. -/
  | lpEnd (core : Fin 16)
  /-- WAIT (R304): WAIT idles the core until an enabled interrupt is pending. -/
  | lpWait (core : Fin 16)
  /-- RETI (R314): RETI sets GIE and returns to EPC after its delay slots. -/
  | lpReti (core : Fin 16)
  /-- EMIT (R310): EMIT buffers one event of a given KIND, stream and data, or faults with cause EMIT. -/
  | lpEmit (core : Fin 16)
  /-- DMOV (R316): DMOV starts a DMA move between data memory and an owned scratch bank, or faults with cause DMA. -/
  | lpDmov (core : Fin 16)
  /-- IOR (R318): IOR reads a core I/O register into G[a]. -/
  | lpIor (core : Fin 16)
  /-- IOW (R318): IOW writes G[a] to a core I/O register, which may start TMR, clear IP or place an injected request. -/
  | lpIow (core : Fin 16)
  /-- MOVS (R300): MOVS reads a special register into G[a]. -/
  | lpMovs (core : Fin 16)
  /-- MOVTS (R300): MOVTS writes G[a] to a special register, ignoring read-only registers. -/
  | lpMovts (core : Fin 16)
  /-- ILLEGAL_INSTRUCTION (R313): An unlisted OP, or an instruction forbidden in a delay slot or repeat body, ends the activation with cause ILLEGAL. -/
  | illegalInstruction (core : Fin 16)
  /-- PAUSE_FRAME (R343): A received PAUSE frame is counted in RX_PAUSE and ignored. -/
  | pauseFrame (port : Fin 2)
  /-- ARP_REQUEST (R346): An ARP request for the hub's address is answered with the port's MAC, and link-local conflicts are detected. -/
  | arpRequest (port : Fin 2) (senderMac : Nat) (senderIp : Nat) (targetIp : Nat)
  /-- ICMP_ECHO_REQUEST (R347): An ICMP echo request is answered with the same payload, up to 1,000 per second. -/
  | icmpEchoRequest (port : Fin 2) (mac : Nat) (payload : List Byte)
  /-- ESMC_PDU (R345): An ESMC PDU updates the port's SSM quality level. -/
  | esmcPdu (port : Fin 2) (level : Fin 16)
  /-- SSM_EXPIRY (R345): A quality level not refreshed within 5 s becomes invalid. -/
  | ssmExpiry (port : Fin 2)
  /-- PORT_IN_SERVICE (R344): A port's service conditions have held for 1 s, so it enters service and sends a gratuitous ARP. -/
  | portInService (port : Fin 2)
  /-- OPEN (R351): A Slozon OPEN opens or replaces a session for a context and is answered with OPEN_ACK, or refused. -/
  | sessOpen (m : SlzMsg)
  /-- CLOSE (R352): A Slozon CLOSE ends a session, stops delivery and rewinds the context's lanes. -/
  | sessClose (m : SlzMsg)
  /-- KEEPALIVE (R352): A host KEEPALIVE renews its session's expiry timer. -/
  | sessKeepalive (m : SlzMsg)
  /-- CREDIT (R357): A Slozon CREDIT raises the session's credit limit, unless it lies behind. -/
  | sessCredit (m : SlzMsg)
  /-- REG_READ (R355): A Slozon REG_READ reads COUNT words and answers with REG_RESP, stopping at the first refused word. -/
  | regRead (m : ReadMsg)
  /-- REG_WRITE (R355): A Slozon REG_WRITE writes COUNT words in order and answers with REG_RESP, after the standby's acknowledgement in a pair. -/
  | regWrite (m : SlzMsg) (met : List Met)
  /-- SPOOL_OP_POP (R358): SPOOL_OP POP delivers up to MAX items of a pull spool in ITEM messages under credit. -/
  | spoolOpPop (m : SlzMsg) (ecc : List Ecc)
  /-- SPOOL_OP_MARK (R358): SPOOL_OP MARK sets the mark of one lane or all lanes. -/
  | spoolOpMark (m : SlzMsg)
  /-- SPOOL_OP_REWIND (R358): SPOOL_OP REWIND rewinds lanes to their mark. -/
  | spoolOpRewind (m : SlzMsg)
  /-- SPOOL_OP_RELEASE_MARK (R358): SPOOL_OP RELEASE_MARK releases items up to the mark. -/
  | spoolOpReleaseMark (m : SlzMsg)
  /-- SPOOL_OP_RELEASE_READ (R358): SPOOL_OP RELEASE_READ releases items up to the read position. -/
  | spoolOpReleaseRead (m : SlzMsg)
  /-- ITEM_SEND (R357): The push path sends an ITEM message with item chunks whenever credit and the spool's budget allow. -/
  | itemSend (port : Fin 2) (ecc : Ecc)
  /-- KEEPALIVE_SEND (R352): The hub sends KEEPALIVE on a session to which it has sent nothing for SESS_TO/4. -/
  | keepaliveSend (ctx : Fin 4)
  /-- SESSION_EXPIRY (R352): No valid message arrives for SESS_TO, so the session expires and its lanes are rewound. -/
  | sessionExpiry (ctx : Fin 4)
  /-- NOTICE_SEND (R359): An enabled IRQ_RAW rise leads to a NOTICE to the context within 100 µs. -/
  | noticeSend (ctx : Fin 4) (page : Nat)
  /-- NOTICE_HOLD_EXPIRY (R359): The NOTICE_HOLD time ends, and the gathered events are sent as one NOTICE. -/
  | noticeHoldExpiry (ctx : Fin 4) (page : Nat)
  /-- NOTICE_REPEAT (R359): Every 100 ms, unacknowledged notices are sent again. -/
  | noticeRepeat (ctx : Fin 4)
  /-- MSPI_READ (R364): A management port transaction with CMD 0x0B reads COUNT words. -/
  | mspiRead (addr : Nat) (count : Nat) (got : Nat)
  /-- MSPI_WRITE (R364): A management port transaction with CMD 0x02 writes each word as its fourth byte arrives. -/
  | mspiWrite (addr : Nat) (count : Nat) (data : List Byte) (met : List Met)
  /-- MSPI_TIMEOUT (R35): MSPI_CS_N is low for 10 ms, so the transaction is aborted with MSPI_TIMEOUT. -/
  | mspiTimeout
  /-- PTP_SYNC (R370): A PTP Sync message from the selected master is time-stamped for the offset measurement. -/
  | ptpSync (m : PtpHead) (ip origin : Nat) (corr : Int) (arr : Nat) (twoStep : Bool)
  /-- PTP_FOLLOW_UP (R370): A PTP Follow_Up gives the precise origin time of a two-step Sync. -/
  | ptpFollowUp (m : PtpHead) (origin : Nat) (corr : Int)
  /-- PTP_DELAY_RESP (R372): A PTP Delay_Resp completes an exchange, updating the offset, and the first lock steps the mapping. -/
  | ptpDelayResp (m : PtpHead) (received : Nat) (corr : Int) (interval : Int)
  /-- PTP_ANNOUNCE (R371): A PTP Announce enters master selection by dataset comparison. -/
  | ptpAnnounce (a : Announce)
  /-- DELAY_REQ_SEND (R370): At the master's interval the hub sends a Delay_Req. -/
  | delayReqSend (t3 : Nat)
  /-- DELAY_RESP_MISS (R370): A Delay_Resp is missing after 1 s and counted in DRESP_MISS. -/
  | delayRespMiss
  /-- ANNOUNCE_TIMEOUT (R374): The master's announce times out, so the hub enters FREERUN or moves its PTP port. -/
  | announceTimeout
  /-- MAPPING_UPDATE (R373): Every UPD_MS a new RATE is formed, and it applies at the next shot boundary with a TIME_MAP record. -/
  | mappingUpdate (ratio : Nat)
  /-- RESTEP (R375): TIM.CMD RESTEP steps the mapping at the next offset measurement and writes a TIME_STEP mark. -/
  | timRestep (ctx : Fin 4)
  /-- TETHER_BLOCK_LOCK (R384): A tether lane gains block lock, and HB messages start on it. -/
  | tetherBlockLock (lane : Fin 2)
  /-- HB_SEND (R386): Every 1,031 ticks the hub sends an HB on each tether lane and a beat on PAIR_HB_TX. -/
  | hbSend
  /-- HB (R386): A tether HB message arrives, updating training, role, acknowledgements and the LTC slip check. -/
  | tetherHb (lane : Fin 2) (crcOk : Bool) (hb : HbMsg)
  /-- PAIR_HB_BEAT (R32): A filtered PAIR_HB_RX beat arrives within its acceptance window. -/
  | pairHbBeat
  /-- HEARTBEAT_MISS (R32): A heartbeat acceptance window closes empty, and four misses on both paths declare failure. -/
  | heartbeatMiss (l0 l1 beat : Bool)
  /-- TETHER_TRAIN_TIMEOUT (R383): Neither tether lane trains within 10 ms, so the hub runs as active alone and reports TTH_TRAIN. -/
  | tetherTrainTimeout
  /-- TETHER_TRAIN_RETRY (R383): Every 1 s an untrained tether tries again. -/
  | tetherTrainRetry
  /-- FEED_F (R94): A FEED_F message delivers a shot's forwarded Z and Raman samples to the standby's datapath. -/
  | tetherFeedF (lane : Fin 2) (crcOk : Bool) (f : FeedF)
  /-- FEED_W (R191): A FEED_W message delivers forwarded field results and node words to the standby's chains. -/
  | tetherFeedW (lane : Fin 2) (crcOk : Bool) (f : FeedW)
  /-- TRIG (R265): A tether TRIG message delivers forwarded triggers to the standby's capture units and marks. -/
  | tetherTrig (lane : Fin 2) (crcOk : Bool) (ts : List Machine.Trigger)
  /-- COPY (R389): A COPY message delivers the shot-end remainder, which the standby applies and whose digest it compares. -/
  | tetherCopy (lane : Fin 2) (crcOk : Bool) (c : CopyMsg)
  /-- HEALTH_SEND (R392): Every 1 s the standby sends its HEALTH report. -/
  | healthSend
  /-- HEALTH (R392): A HEALTH message updates PARTNER_HEALTH on the active hub. -/
  | tetherHealth (lane : Fin 2) (crcOk : Bool) (h : Word)
  /-- BULK (R398): A BULK message delivers plan image or resynchronisation data to a joining standby. -/
  | tetherBulk (lane : Fin 2) (crcOk : Bool) (b : BulkPart)
  /-- CLAIM_SEND (R395): For 1 s after a takeover, a pair claim is sent every 1 ms on each uplink port. -/
  | claimSend
  /-- PAIR_CLAIM (R395): A valid pair claim reaches an ACTIVE hub that has lost both heartbeat paths, and it becomes DEPOSED. -/
  | pairClaim (c : ClaimMsg)
  /-- HANDOVER (R397): PAI.CMD HANDOVER starts a handover at a named shot boundary, or is refused. -/
  | pairHandover (ctx : Fin 4)
  /-- HANDOVER_REVERT_HOLD (R397): The preferred hub has been IN_SYNC for REVERT_HOLD with REVERT set, so an automatic handover starts. -/
  | handoverRevertHold
  /-- HANDOVER_OSW_SWITCH (R397): 8,250 ticks before the handover boundary the standby raises OSW_SEL and the active hub lowers it. -/
  | handoverOswSwitch
  /-- RESYNC (R399): PAI.CMD RESYNC restarts SYNCING on the standby. -/
  | pairResync (ctx : Fin 4)
  /-- BALLAST_WRITE (R407): A write of MEM.BALLAST puts unowned banks into Ballast or starts waking them. -/
  | ballastWrite (who : Accessor) (v : Word)
  /-- BALLAST_WAKE_DONE (R407): A waking bank finishes waking, and scrub passes it once. -/
  | ballastWakeDone (bank : Fin 32)
  /-- MEM_SCRUB (R410): In an idle cycle, scrub reads a word of segment, spool, scratch or Darkroom memory and corrects it. -/
  | memScrub (mem : Fin 4) (ecc : Ecc) (passEnd : Bool)
  /-- WIPE (R409): DKR.CMD WIPE from C0 wipes the Darkroom and its sealed copy. -/
  | dkrWipe (ctx : Fin 4)
  /-- MAINTENANCE_STEP_START (R417): At a step boundary or activity end, the coordinator starts the next non-conflicting queued or running activity step. -/
  | maintenanceStepStart (cls : Fin 7) (r : StepEnd)
  /-- MNT_START (R422): MNT.CMD START requests a class's activity as its own trigger would. -/
  | mntStart (ctx : Fin 4) (cls : Fin 8)
  /-- MNT_ABORT (R422): MNT.CMD ABORT ends a FLASH_PATROL, MEMTEST or TEL activity at its next step boundary. -/
  | mntAbort (ctx : Fin 4) (cls : Fin 8)
  /-- MEMTEST_BLOCK_RESTORE (R412): A processor access reaches a borrowed block, so the test restores it, the access completes and the block is abandoned. -/
  | memtestBlockRestore (core : Option (Fin 16)) (cycles : Nat)
  /-- FLASH_TIMEOUT (R28): A flash program or erase takes 20 ms, so FLASH_TIMEOUT is logged and the block retired. -/
  | flashTimeout (reserve : Nat)
  /-- TEL_PERIOD (R418): Every TEL PERIOD seconds the monitors are read and a TELEMETRY record is pushed and stored in history. -/
  | telPeriod (m : Monitors)
  /-- UPD_START (R435): UPD.CMD START mounts the card and downloads or resumes the firmware image into the target bank. -/
  | updStart (ctx : Fin 4)
  /-- ACTIVATE (R435): UPD.CMD ACTIVATE verifies the target bank if needed, rewrites the activation record as TRIAL and restarts Winch. -/
  | updActivate (ctx : Fin 4) (bank : Fin 2) (useBank : Bool)
  /-- CONFIRM (R435): UPD.CMD CONFIRM rewrites the activation record as CONFIRMED. -/
  | updConfirm (ctx : Fin 4)
  /-- UPD_ABORT (R435): UPD.CMD ABORT ends DOWNLOADING or VERIFYING at the next step boundary. -/
  | updAbort (ctx : Fin 4)
  /-- AUTO_CONFIRM (R437): An image on trial has run AUTO_S seconds with a plan running, and it confirms itself. -/
  | autoConfirm
  /-- WINCH_RESTART_DONE (R436): Winch finishes restarting into a new image without resetting any block. -/
  | winchRestartDone (good readable : Bool) (ver : Word) (fmt : Nat)
  /-- SD_CARD_INSERT (R449): A card insertion is debounced and counted. -/
  | sdCardInsert (card : SdCard)
  /-- SD_CARD_REMOVE (R435): A card removal is debounced and ends the running update step. -/
  | sdCardRemove
  /-- SD_TIMEOUT (R35): An SD command or data block times out, so the update step fails and can be resumed. -/
  | sdTimeout (crc : Bool)
  /-- INSTALL (R441): SEC.CMD INSTALL installs a plan or context key from KEY_DATA and seals it. -/
  | keyInstall (ctx : Fin 4) (slot : Fin 8)
  /-- REMOVE (R441): SEC.CMD REMOVE deletes a context key. -/
  | keyRemove (ctx : Fin 4) (slot : Fin 8)
  /-- RETURN_ARM (R443): SEC.CMD RETURN_ARM arms RETURN for 1 s. -/
  | returnArm (ctx : Fin 4)
  /-- RETURN_ARM_EXPIRY (R443): 1 s passes after RETURN_ARM without a RETURN, and the arming lapses. -/
  | returnArmExpiry
  /-- RETURN (R443): SEC.CMD RETURN wipes and erases the plan slots, settings and history, then performs a full reset with cause LIFECYCLE. -/
  | partReturn (ctx : Fin 4)
  /-- BLOCK_LOCK_LOSS (R344): An uplink PCS loses block lock or FEC alignment, or a tether lane loses Clause 49 block lock, so the port leaves service or the tether lane returns to step 2. -/
  | blockLockLoss (lane : Fin 4) (fec : Bool)
  /-- UPLINK_BLOCK_LOCK (R344): An uplink PCS gains block lock, and with FEC alignment it starts the 1 s count before the port returns to service. -/
  | uplinkBlockLock (port : Fin 2) (fec : Bool)
  /-- PRBS_SYNC_LOSS (R329): A 1,024-bit block holds 64 or more errors, so the PRBS checker loses SYNC and seeds again. -/
  | prbsSyncLoss (lane : Fin 4)
  /-- DOWNSTREAM_FRAME (R239): A downstream frame arrives at a second-end port, which checks it, acts as an end node, measures D_total at training and returns to FAR_END on a rejoin. -/
  | downstreamFrame (port : Fin 16) (arr : Time) (sfn : Nat) (valid : Bool)
  /-- RAMAN_SAMPLE (R143): Raw Raman sample q of a taking-part shot is taken at launch + RMN_DELAY + 4q and added to its position's sum, and the last one ends the Raman window. -/
  | ramanSample (st as_ : Fin 4096)
  /-- SOURCE_RECOVERS (R331): The selected source's trouble clears before loss is declared, so the loop resumes on it without a switch and CLK.HITS counts the event. -/
  | sourceRecovers
  /-- RESET_N_RELEASE (R429): RESET_N returns high after a full reset that it held, and the start runs again from step 2. -/
  | resetNRelease (straps : Straps)
  /-- RX_FRAME_DROPPED (R347): A received frame or datagram with an FCS error, a wrong VLAN tag, excess length, IPv4 options, a fragment, a bad checksum, an unknown port, EtherType or Slozon TYPE, or a malformed layout is dropped and counted. -/
  | rxFrameDropped (port : Fin 2) (why : FrameFault)
  /-- FLASH_PATROL_PERIOD (R413): The NVS patrol period comes due, so flash patrol is requested from the maintenance coordinator. -/
  | flashPatrolPeriod
  /-- MEMTEST_PERIOD (R411): The next evenly spread memory-test step of a TEST_CFG.PERIOD pass comes due, and the test is requested from the coordinator. -/
  | memtestPeriod
  /-- LINK_LOCAL_PROBE_END (R346): The RFC 3927 probing of a link-local address ends without a conflict, and the hub starts to use the address. -/
  | linkLocalProbeEnd
  deriving DecidableEq, Repr

end Sys2Proof
end

