-- ==== Sys2Proof/Decode.lean ====
section
/-!
DEFINITION. Table words. The block has no instruction encoding: no row of spec/opcode_table.json gives bits, so no word
spells a command.
-/

namespace Sys2Proof

/-- The command that a word of `nbits` bits spells by the bits of the opcode table: none, for any word. -/
def decodeTableWord (_nbits _w : Nat) : Option Instr := none

end Sys2Proof
end

