-- ==== Sys2Proof/Config.lean ====
section
/-!
DEFINITION. What an implementation fixes and the spec leaves open, and the free values: constants without a body, so
that nothing in Lean can evaluate them and a statement about one holds for every value. `n` is the counter `free` of
the state, which each use advances.
-/

namespace Sys2Proof

/-- The value a read-clear event counter takes when an event comes while it holds 0xFFFF_FFFF (the chapters say
neither that it wraps nor that it saturates). -/
opaque Config.counterOver : Nat → Word

/-- The KEY_ID and the P-256 public key of Tolihel's firmware update key, held in ROM (R434). -/
opaque Config.updateKeyId : Word
opaque Config.updateKey : List Byte

/-- The DEFLATE stream of a job: level, pre-filtered input. Used where R289 does not fix the bits: dynamic Huffman
blocks (levels 3 and 4) and streams with a flush. -/
opaque Config.deflateStream : Nat → List Byte → Nat → List Byte

/-- A stored word as the SPM raw window shows it (R283 gives no layout for check symbols and ring addresses). -/
opaque Config.spmRaw : Nat → Nat → Word

/-- How many 32-byte entries the fault-log ring holds, and where its partition starts in the flash window: the spec
gives neither (R444). -/
opaque Config.faultCap : Nat
opaque Config.faultBase : Word

/-- Bytes of flash whose layout the spec does not give, by offset in the window. -/
opaque Config.flashByte : Nat → Nat → Byte

/-- The correction by which the time servo drives the offset toward 0, before its limit (R373). -/
opaque Config.servo : Nat → Int

/-- The inputs a half-band stage finds before its first one after a chain reset (R201 gives none). -/
opaque Config.halfBandInit : Nat → Nat → Int

/-- Where the entries of the 18-bit cosine and sine tables of the oscillators (tables 0 and 1) and of the rotations (tables
2 and 3) lie within their rounding, by table and phase: R88 and R97 give the width, no entries. -/
opaque Config.tableErr : Nat → Nat → Nat

/-- The coefficients of the engine's 47-tap half-band at odd distances 3, 5, … 23 from its centre, by pair 1 to 11: R89 gives
requirements, no values. -/
opaque Config.engineTap : Nat → Nat

/-- Which of the values that R97 allows for a phase the engine takes, by the vector's parts, and which of those that R99
allows for a quality, by |R|², Σ|V|, M and NOISE. The active hub and its standby take the same ones (R94). -/
opaque Config.phaseErr : Int → Int → Nat
opaque Config.qualErr : Nat → Nat → Nat → Nat → Nat

/-- FW_VER of Safelight, and the size of the flash wear reserve at manufacture in KiB: the spec gives neither (R445,
R450). -/
opaque Config.safelightVer : Word
opaque Config.reserveSize : Nat

/-- How many 112-byte records the telemetry history partition holds: the spec gives no size (R418). -/
opaque Config.histCap : Nat

/-- A 32-bit value that the spec leaves without a statement, at the use that the counter numbers. -/
opaque Config.openWord : Nat → Word

end Sys2Proof
end

