-- ==== Sys2Proof/Machine/Bits.lean ====
section
/-!
DEFINITION. Bit fields, sign extension, byte order, saturation and rounding, as the chapters use them.
-/

namespace Sys2Proof

/-- The value of a field, as an unsigned number. -/
def Word.get (w : Word) (f : Fld) : Nat := (w.toNat / 2 ^ f.lsb) % 2 ^ f.width

/-- The word with a field replaced by the low bits of `v`; every other bit kept. -/
def Word.put (w : Word) (f : Fld) (v : Nat) : Word :=
  let hi := w.toNat / 2 ^ (f.lsb + f.width)
  BitVec.ofNat 32 (w.toNat % 2 ^ f.lsb + 2 ^ f.lsb * (v % 2 ^ f.width) + 2 ^ (f.lsb + f.width) * hi)

/-- Bit `i` of a word, as a truth value. -/
def Word.bit (w : Word) (i : Nat) : Bool := w.getLsbD i

/-- The word with bit `i` set. -/
def Word.setBit (w : Word) (i : Nat) : Word := w ||| BitVec.ofNat 32 (2 ^ i)

/-- The word with bit `i` cleared. -/
def Word.clrBit (w : Word) (i : Nat) : Word := w &&& ~~~ BitVec.ofNat 32 (2 ^ i)

/-- The word with bit `i` at `b`. -/
def Word.putBit (w : Word) (i : Nat) (b : Bool) : Word := if b then Word.setBit w i else Word.clrBit w i

namespace Machine

/-- A truth value as 0 or 1. -/
def b2n (b : Bool) : Nat := if b then 1 else 0

/-- The low `n` bits of a number read as two's complement. -/
def signed (n : Nat) (v : Nat) : Int :=
  let m := v % 2 ^ n
  if m < 2 ^ (n - 1) then (m : Int) else (m : Int) - (2 ^ n : Nat)

/-- A number as an `n`-bit two's-complement pattern. -/
def unsigned (n : Nat) (v : Int) : Nat := (v % (2 ^ n : Nat)).toNat

/-- A number limited to lie from `lo` to `hi`. -/
def clampI (lo hi v : Int) : Int := if v < lo then lo else if hi < v then hi else v

/-- A number limited to the range of an `n`-bit two's-complement word. -/
def satS (n : Nat) (v : Int) : Int := clampI (-(2 ^ (n - 1) : Nat)) ((2 ^ (n - 1) : Nat) - 1) v

/-- A count that stops at the largest `n`-bit value. -/
def satU (n : Nat) (v : Nat) : Nat := min v (2 ^ n - 1)

/-- `a / b` rounded to the nearest integer, ties away from zero; 0 for a divisor of 0. -/
def roundDiv (a : Int) (b : Nat) : Int :=
  if b = 0 then 0
  else if 0 ≤ a then (2 * a + b) / (2 * b) else -((2 * (-a) + b) / (2 * b))

/-- `v / 2^n` rounded to the nearest integer, ties away from zero. -/
def roundShr (v : Int) (n : Nat) : Int := roundDiv v (2 ^ n)

/-- `v / 2^n` rounded towards minus infinity. -/
def floorShr (v : Int) (n : Nat) : Int := Int.fdiv v (2 ^ n : Nat)

/-- The smallest whole number at or above `a / b`; 0 for a divisor of 0. -/
def ceilDiv (a b : Nat) : Nat := if b = 0 then 0 else (a + b - 1) / b

/-- Little-endian bytes of a number (R1), `n` of them. -/
def leBytes : Nat → Nat → List Byte
  | 0, _ => []
  | n + 1, v => BitVec.ofNat 8 (v % 256) :: leBytes n (v / 256)

/-- The number little-endian bytes spell (R1). -/
def leNat : List Byte → Nat
  | [] => 0
  | b :: bs => b.toNat + 256 * leNat bs

/-- The number big-endian bytes spell (R488). -/
def beNat (bs : List Byte) : Nat := bs.foldl (fun acc b => acc * 256 + b.toNat) 0

/-- Big-endian bytes of a number, `n` of them. -/
def beBytes (n v : Nat) : List Byte := (leBytes n v).reverse

/-- Two, four and eight little-endian bytes. -/
def le2 (v : Nat) : List Byte := leBytes 2 v
def le4 (v : Nat) : List Byte := leBytes 4 v
def le8 (v : Nat) : List Byte := leBytes 8 v

/-- One byte. -/
def by1 (v : Nat) : List Byte := [BitVec.ofNat 8 v]

/-- The first `n` bytes at offset `o` of a byte string, missing bytes read as 0. -/
def sliceB (bs : List Byte) (o n : Nat) : List Byte :=
  let x := (bs.drop o).take n
  x ++ List.replicate (n - x.length) 0

/-- The little-endian number of `n` bytes at offset `o`. -/
def fieldAt (bs : List Byte) (o n : Nat) : Nat := leNat (sliceB bs o n)

/-- Byte `o` of a byte string, 0 beyond its end. -/
def byteAt (bs : List Byte) (o : Nat) : Nat := ((bs.drop o).head?.getD 0).toNat

/-- A word from its number. -/
def w32 (v : Nat) : Word := BitVec.ofNat 32 v

/-- The little-endian bytes of a word. -/
def wordBytes (w : Word) : List Byte := le4 w.toNat

/-- Low and high half of a 64-bit time. -/
def loW (t : Time) : Word := BitVec.ofNat 32 t.toNat
def hiW (t : Time) : Word := BitVec.ofNat 32 (t.toNat / 2 ^ 32)

/-- A compare value is reached when (LTC[31:0] − V), as a signed 32-bit number, is ≥ 0 (R4). -/
def reached (now v : Word) : Bool := (now - v).toNat < 2 ^ 31

/-- The signed difference of two short time-stamps, which orders them (R4). -/
def tsDiff (a b : Word) : Int := signed 32 (a - b).toNat

/-- Replace element `i` of a list, the list unchanged where it has no such element. -/
def setAt {α : Type} (l : List α) (i : Nat) (v : α) : List α := l.set i v

/-- Element `i` of a list, `d` beyond its end. -/
def nth {α : Type} (l : List α) (i : Nat) (d : α) : α := l.getD i d

/-- Apply `f` for each number below `n`, in rising order. -/
def iter {σ : Type} (n : Nat) (f : Nat → σ → σ) (s : σ) : σ := (List.range n).foldl (fun acc i => f i acc) s

end Machine

end Sys2Proof
end

