-- ==== Sys2Proof/Machine/Deflate.lean ====
section
/-!
DEFINITION. The compression engine's functions (R288 to R293): pre-filters, and raw DEFLATE with fixed Huffman blocks
for levels 1 and 2. The stream of levels 3 and 4, whose Huffman codes R289 does not fix, is a free value.
-/

namespace Sys2Proof.Machine

/-- The little-endian words of a payload, and the bytes that remain (R288). -/
def wordsOf : List Byte → List Nat
  | a :: b :: c :: d :: t => leNat [a, b, c, d] :: wordsOf t
  | _ => []

/-- Differences of consecutive words modulo 2^32, the word before the first being 0. -/
def deltas : Nat → List Nat → List Nat
  | _, [] => []
  | p, w :: ws => (w + 2 ^ 32 - p) % 2 ^ 32 :: deltas w ws

/-- Byte planes: byte 0 of every word, then bytes 1, 2 and 3. -/
def planes (ws : List Nat) : List Byte :=
  (List.range 4).flatMap (fun k => ws.map (fun w => BitVec.ofNat 8 (w / 256 ^ k)))

/-- The pre-filter PF on a payload (R288). -/
def preFilter (pf : Nat) (p : List Byte) : List Byte :=
  let ws := wordsOf p
  let rest := p.drop (4 * ws.length)
  if pf = 1 then (deltas 0 ws).flatMap le4 ++ rest
  else if pf = 2 then planes ws ++ rest
  else if pf = 3 then planes (deltas 0 ws) ++ rest
  else p

/-- How many leading bytes two strings share, at most `n`. -/
def sharedLen : Nat → List Byte → List Byte → Nat
  | n + 1, a :: as, b :: bs => if a = b then sharedLen n as bs + 1 else 0
  | _, _, _ => 0

/-- The longest match among the candidates, given newest first as (distance, text); the nearest on a tie; 0 for no
match of 3 bytes. -/
def bestMatch (here : List Byte) : List (Nat × List Byte) → Nat × Nat
  | [] => (0, 0)
  | (d, t) :: cs =>
    let r := bestMatch here cs
    let n := sharedLen 258 here t
    if 3 ≤ n ∧ r.1 ≤ n then (n, d) else r

/-- Bits of a Huffman code, most significant first. -/
def codeBits (len v : Nat) : List Bool := (List.range len).map (fun i => (v / 2 ^ (len - 1 - i)) % 2 = 1)

/-- Extra bits, least significant first. -/
def extraBits (len v : Nat) : List Bool := (List.range len).map (fun i => (v / 2 ^ i) % 2 = 1)

/-- The fixed Huffman code of a literal or length symbol (RFC 1951). -/
def fixedLit (v : Nat) : List Bool :=
  if v < 144 then codeBits 8 (0x30 + v) else if v < 256 then codeBits 9 (0x190 + (v - 144))
  else if v < 280 then codeBits 7 (v - 256) else codeBits 8 (0xC0 + (v - 280))

/-- Bases and extra-bit counts of the length symbols 257 to 285 and the distance symbols 0 to 29 (RFC 1951). -/
def lenTable : List (Nat × Nat) :=
  [(3, 0), (4, 0), (5, 0), (6, 0), (7, 0), (8, 0), (9, 0), (10, 0), (11, 1), (13, 1), (15, 1), (17, 1), (19, 2),
   (23, 2), (27, 2), (31, 2), (35, 3), (43, 3), (51, 3), (59, 3), (67, 4), (83, 4), (99, 4), (115, 4), (131, 5),
   (163, 5), (195, 5), (227, 5), (258, 0)]

def distTable : List (Nat × Nat) :=
  [(1, 0), (2, 0), (3, 0), (4, 0), (5, 1), (7, 1), (9, 2), (13, 2), (17, 3), (25, 3), (33, 4), (49, 4), (65, 5),
   (97, 5), (129, 6), (193, 6), (257, 7), (385, 7), (513, 8), (769, 8), (1025, 9), (1537, 9), (2049, 10), (3073, 10),
   (4097, 11), (6145, 11), (8193, 12), (12289, 12), (16385, 13), (24577, 13)]

/-- The last row whose base is not above `v`: its number, base and extra bits. -/
def symbolOf (tbl : List (Nat × Nat)) (v : Nat) : Nat × Nat × Nat :=
  (tbl.zipIdx.foldl (fun acc e => if e.1.1 ≤ v then (e.2, e.1.1, e.1.2) else acc) (0, 0, 0))

/-- The bits of a match. -/
def matchBits (len dist : Nat) : List Bool :=
  let l := symbolOf lenTable len
  let d := symbolOf distTable dist
  fixedLit (257 + l.1) ++ extraBits l.2.2 (len - l.2.1) ++ codeBits 5 d.1 ++ extraBits d.2.2 (dist - d.2.1)

/-- One symbol at a time, greedy: `fuel` symbols at most, `seen` the job's earlier bytes newest first with their
texts, `inBlk` the input bytes of the block so far. A block ends after 16,384 input bytes (R289). -/
def deflateGo (depth : Nat) : Nat → Nat → Nat → List (Nat × List Byte) → List Byte → List Bool
  | 0, _, _, _, _ => []
  | _ + 1, _, _, _, [] => fixedLit 256
  | fuel + 1, pos, inBlk, seen, b :: rest =>
    if 16384 ≤ inBlk then
      fixedLit 256 ++ (decide (rest.length + 1 ≤ 16384) :: [true, false]) ++
        deflateGo depth fuel pos 0 seen (b :: rest)
    else
      let here := (b :: rest).take (16384 - inBlk)
      let cands := (seen.filter (fun c => pos - c.1 ≤ 32768 && decide (3 ≤ sharedLen 3 here c.2))).take depth
      let m := bestMatch here (cands.map (fun c => (pos - c.1, c.2)))
      if m.1 < 3 then
        fixedLit b.toNat ++ deflateGo depth fuel (pos + 1) (inBlk + 1) ((pos, b :: rest) :: seen) rest
      else
        let news := (List.range m.1).map (fun i => (pos + (m.1 - 1 - i), (b :: rest).drop (m.1 - 1 - i)))
        matchBits m.1 m.2 ++
          deflateGo depth fuel (pos + m.1) (inBlk + m.1) (news ++ seen) ((b :: rest).drop m.1)

/-- Bits packed into bytes, the first bit lowest. -/
def packBits : Nat → List Bool → List Byte
  | 0, _ => []
  | _ + 1, [] => []
  | n + 1, bs =>
    let v := (bs.take 8).zipIdx.foldl (fun acc e => acc + b2n e.1 * 2 ^ e.2) 0
    BitVec.ofNat 8 v :: packBits n (bs.drop 8)

/-- A job's stream (R289, R290, R293): at levels 1 and 2 computed, unless the job was cut by a flush; then, and at levels 3 and
4, a free value. -/
def deflate (level : Nat) (cut : Bool) (input : List Byte) (free : Nat) : List Byte :=
  if input = [] then [0x03, 0x00]
  else if (level = 1 ∨ level = 2) ∧ !cut then
    let bits := decide (input.length ≤ 16384) :: [true, false] ++
      deflateGo (if level = 1 then 4 else 16) (2 * input.length + 8) 0 0 [] input
    packBits (bits.length / 8 + 1) bits
  else Config.deflateStream level input free

end Sys2Proof.Machine
end

