-- ==== Sys2Proof/Machine/Errors.lean ====
section
/-!
DEFINITION. The error codes of every page by name (R43, R464 and the error table of each chapter).
-/

namespace Sys2Proof.Err

/-- fewer than 160 bytes transferred; MAGIC, FORMAT, HDR_LEN or HDR_CRC wrong; SECTION_COUNT outside 1 to 16; or a reserved part of the header not 0, whic -/
abbrev PLAN_FORMAT : Nat := 0x3001
/-- TARGET not 0x6424, or MIN_REV above the silicon revision -/
abbrev PLAN_TARGET : Nat := 0x3002
/-- IMAGE_LEN is 0, above 16,777,216, or differs from the bytes transferred -/
abbrev PLAN_LENGTH : Nat := 0x3003
/-- BODY_DIGEST differs -/
abbrev PLAN_DIGEST : Nat := 0x3004
/-- KEY_ID unknown or SIGNATURE invalid against the plan key installed through the SEC page -/
abbrev PLAN_SIG : Nat := 0x3005
/-- section directory reaching beyond IMAGE_LEN; section CRC wrong; unknown TYPE or VERSION; duplicate type; OFFSET not a multiple of 64; overlap; extent  -/
abbrev PLAN_SECTION : Nat := 0x3006
/-- SHOT_PERIOD below WINDOW + GUARD, GUARD below 1,032, rate above 100 kHz, WINDOW inconsistent with mode and points -/
abbrev PLAN_SHOT : Nat := 0x3007
/-- points above the mode's maximum, gauge outside 1 to 64, K outside (1, 2, 4, 8), taps above 256, waveform beyond 64 KiB -/
abbrev PLAN_FIBRE : Nat := 0x3008
/-- more than 4,096 zones, or a zone beyond the last point -/
abbrev PLAN_ZONE : Nat := 0x3009
/-- channel configuration, M, h or FIELD_TICK outside its limits -/
abbrev PLAN_FIELD : Nat := 0x300A
/-- above 128 nodes, 32 sampled channels or 4.125 MS/s on a port, or a ring on ports other than 2k and 2k + 1 -/
abbrev PLAN_NODE : Nat := 0x300B
/-- an entry breaks R40, including a segment or spool region whose BASE or SIZE is not a multiple of 64; regions overlap or exceed 12 MiB of segment memor -/
abbrev PLAN_MEMORY : Nat := 0x300C
/-- two-port budgets exceed two ports, one-port budgets exceed one port, or compression throughput exceeds the engine at the chosen levels -/
abbrev PLAN_UPLINK : Nat := 0x300D
/-- program above 64 KiB, data above 128 KiB, worst-case cycles above the declared budget, or budgets above a core's capacity at the activation rate -/
abbrev PLAN_LOUPE : Nat := 0x300E
/-- a reference to an undefined or empty spool, lane, zone, channel, shutter line, coefficient set or program -/
abbrev PLAN_REF : Nat := 0x300F
/-- FLAGS.PAIR differs from STRAP_PAIR, or in a pair the partner's committed image differs -/
abbrev PLAN_PAIR : Nat := 0x3010
/-- loaded sections exceed 2 MiB together -/
abbrev PLAN_START : Nat := 0x3011
/-- command from a context other than C0 -/
abbrev PLAN_OWNER : Nat := 0x3012
/-- command not permitted in the slot's present state -/
abbrev PLAN_SLOT : Nat := 0x3013
/-- interlock accepted (R69) -/
abbrev HEAD_ILK : Nat := 0x6001
/-- LAS_STAT not ready (R67, R68) -/
abbrev HEAD_NOT_READY : Nat := 0x6002
/-- transaction failed twice (R75) -/
abbrev HEAD_SPI : Nat := 0x6003
/-- GO refused (R76) -/
abbrev HSPI_BUSY : Nat := 0x6004
/-- R83 -/
abbrev RX_STUCK : Nat := 0x6005
/-- R83 -/
abbrev RAMAN_STUCK : Nat := 0x6006
/-- element failed calibration (R81) -/
abbrev CAL_ELEM_FAIL : Nat := 0x6007
/-- converter without a healthy spare (R81) -/
abbrev CAL_NO_SPARE : Nat := 0x6008
/-- write outside a field's range, or unknown OP -/
abbrev OFE_RANGE : Nat := 0x6009
/-- write outside a field's range (R111) -/
abbrev FEN_RANGE : Nat := 0x6010
/-- first saturation in stage 3 or 4 since SAT_COUNT was last read (R92) -/
abbrev FEN_SAT : Nat := 0x6011
/-- NOISE_MEAS above 2 × NOISE (R100) -/
abbrev NOISE_HIGH : Nat := 0x6012
/-- PSS : write outside a field's range, or a write to the snapshot window (R119, R138) -/
abbrev PSS_RANGE : Nat := 0x6020
/-- PSS : uncorrectable PSS word (R116) -/
abbrev PSS_UNCORR : Nat := 0x6021
/-- ZON : write outside a field's range (R139) -/
abbrev ZON_RANGE : Nat := 0x6022
/-- ZON : first zone completed with ESAT since the flag was last cleared -/
abbrev ZON_ESAT : Nat := 0x6023
/-- write outside a field's range (R154) -/
abbrev TMP_RANGE : Nat := 0x6030
/-- no VALID reference sample in an interval (R149) -/
abbrev TMP_REF_OLD : Nat := 0x6031
/-- no T_ref available since plan start (R149) -/
abbrev TMP_REF_NONE : Nat := 0x6032
/-- a profile emitted with INVALID set (R149) -/
abbrev TMP_INVALID : Nat := 0x6033
/-- FLD, THC : write outside a field's range, or unknown OP -/
abbrev FLD_RANGE : Nat := 0x6040
/-- FCH : write outside a field's range (R157, R196) -/
abbrev FCH_RANGE : Nat := 0x6041
/-- FCH : OPEN latched (R171, R172) -/
abbrev FCH_OPEN : Nat := 0x6042
/-- FCH : SHORT latched (R173) -/
abbrev FCH_SHORT : Nat := 0x6043
/-- FLD : no usable free slot (R178) -/
abbrev INJ_NO_SLOT : Nat := 0x6044
/-- FLD : converter already has an injected conversion (R178) -/
abbrev INJ_BUSY : Nat := 0x6045
/-- FLD : converter out of service (R184) -/
abbrev CONV_FAIL : Nat := 0x6046
/-- FLT : write outside a field's range, or unknown OP -/
abbrev FLT_RANGE : Nat := 0x6050
/-- FLT : LSYNC lost or out of range (R204) -/
abbrev LSYNC_LOST : Nat := 0x6051
/-- FLT : band source without a VALID value for 1 s (R216) -/
abbrev BAND_SRC_LOST : Nat := 0x6052
/-- LIN : write outside a field's range -/
abbrev LIN_RANGE : Nat := 0x6053
/-- LIN : first non-finite result since NONFINITE was last read (R214) -/
abbrev LIN_NONFINITE : Nat := 0x6054
/-- write outside a field's range, unknown OP, or an NCMD OP not permitted -/
abbrev DRP_RANGE : Nat := 0x6060
/-- no first node (R233) -/
abbrev DRP_NO_PARTNER : Nat := 0x6061
/-- node silent after three retries (R234) -/
abbrev DRP_TRUNCATED : Nat := 0x6062
/-- D_i above 130,680 ticks (R234) -/
abbrev DRP_CHAIN_LONG : Nat := 0x6063
/-- port entered LINK (R242) -/
abbrev DRP_LINK : Nat := 0x6064
/-- TYPE differs from the plan (R234) -/
abbrev DRP_NODE_TYPE : Nat := 0x6065
/-- chain split and served from the second end (R240) -/
abbrev DRP_HEALED : Nat := 0x6066
/-- NODE_CMD refused -/
abbrev DRP_BUSY : Nat := 0x6067
/-- SHB : write outside a field's range, or unknown OP -/
abbrev SHB_RANGE : Nat := 0x6070
/-- SHB : input asserted beyond STUCK (R248) -/
abbrev SHUT_STUCK : Nat := 0x6071
/-- SHB : standby's own trigger differs from the forwarded one (R265) -/
abbrev SHB_DIVERGE : Nat := 0x6072
/-- SCUnn : write outside a field's range -/
abbrev SCU_RANGE : Nat := 0x6073
/-- SCUnn : first blind trigger since BLIND was last read (R256) -/
abbrev SCU_BLIND : Nat := 0x6074
/-- SCU : uncorrectable segment memory word (R259) -/
abbrev SGM_UNCORR : Nat := 0x6075
/-- ENV : write outside a field's range -/
abbrev ENV_RANGE : Nat := 0x6076
/-- SPL, SPLnn : write outside a field's range, or unknown OP -/
abbrev SPL_RANGE : Nat := 0x6080
/-- SPL : operation by a context other than CTX (R284) -/
abbrev SPL_NOT_OWNER : Nat := 0x6081
/-- SPL : register pop of a push spool (R284) -/
abbrev SPL_PUSH : Nat := 0x6082
/-- SPLnn : first drop since DROPS was last read (R280) -/
abbrev SPL_GAP : Nat := 0x6083
/-- SPLnn : a lane became stale (R282) -/
abbrev SPL_STALE : Nat := 0x6084
/-- SPL : uncorrectable SPM word (R283) -/
abbrev SPM_UNCORR : Nat := 0x6085
/-- CMP : verification mismatch (R291) -/
abbrev CMP_VERIFY : Nat := 0x6086
/-- LPE : write outside a field's range -/
abbrev LPE_RANGE : Nat := 0x6090
/-- LPE : first overrun with cause BUDGET since OVERRUNS was last read (R312) -/
abbrev LPE_OVERRUN : Nat := 0x6091
/-- LPE : activation ended with cause ILLEGAL, ACCESS, ALIGN, EMIT or DMA (R313) -/
abbrev LPE_FAULT : Nat := 0x6092
/-- LPE : write to the core's memory window or to a bank it owns dropped (R299, R316) -/
abbrev LOUPE_RO : Nat := 0x6093
/-- LPE : item dropped at a full queue (R309) -/
abbrev LPE_QDROP : Nat := 0x6094
/-- CLK : write outside a field's range, or unknown OP -/
abbrev CLK_RANGE : Nat := 0x60A0
/-- CLK : SWITCH from a context other than C0 (R334) -/
abbrev CLK_OWNER : Nat := 0x60A1
/-- CLK : SWITCH to a source that is not ready (R334) -/
abbrev CLK_NOT_READY : Nat := 0x60A2
/-- CLK : SWITCH during a switch or ramp (R334) -/
abbrev CLK_BUSY : Nat := 0x60A3
/-- CLK : switch completed without handshake (R335) -/
abbrev CLK_SW_TIMEOUT : Nat := 0x60A4
/-- CLK : holdover entered (R15) -/
abbrev CLK_HOLDOVER : Nat := 0x60A5
/-- CLK : hub parked (R16) -/
abbrev CLK_PARK : Nat := 0x60A6
/-- CLK : gate bit refused (R338) -/
abbrev CLK_GATE_USED : Nat := 0x60A7
/-- CLK : LN2 held back (R332) -/
abbrev CLK_TETHER_LOOP : Nat := 0x60A8
/-- LN : write outside a field's range -/
abbrev LN_RANGE : Nat := 0x60B0
/-- LN : R328 -/
abbrev LN_LOS : Nat := 0x60B1
/-- LN : R328 -/
abbrev LN_LOL : Nat := 0x60B2
/-- LN : R328 -/
abbrev LN_WINDOW : Nat := 0x60B3
/-- LN : test write refused (R330) -/
abbrev LN_LAST : Nat := 0x60B4
/-- LN : write from a context other than C0 (R330) -/
abbrev LN_OWNER : Nat := 0x60B5
/-- ULA, ULB : write outside a field's range -/
abbrev UL_RANGE : Nat := 0x60C0
/-- ULA, ULB : write from a context other than C0 (R361) -/
abbrev UL_OWNER : Nat := 0x60C1
/-- ULA, ULB : port left service (R344) -/
abbrev UL_DOWN : Nat := 0x60C2
/-- ULA, ULB : sessions moved to the other port (R367) -/
abbrev UL_ONE_PORT : Nat := 0x60C3
/-- SLZ : a lane was shed (R368) -/
abbrev UL_SHED : Nat := 0x60C4
/-- SLZ : link-local address conflict (R346) -/
abbrev UL_IP_CONFLICT : Nat := 0x60C5
/-- SLZ : write outside a field's range -/
abbrev SLZ_RANGE : Nat := 0x60D0
/-- SLZ : message dropped for its tag (R354) -/
abbrev SLZ_AUTH : Nat := 0x60D1
/-- SLZ : session expired (R352) -/
abbrev SLZ_SESS_EXPIRED : Nat := 0x60D2
/-- CTX : write outside a field's range -/
abbrev CTX_RANGE : Nat := 0x60E0
/-- CTX : write from a context other than C0 (R361) -/
abbrev CTX_OWNER : Nat := 0x60E1
/-- CTX : access refused by a mask (R362) -/
abbrev CTX_DENIED : Nat := 0x60E2
/-- TIM : write outside a field's range, or unknown OP -/
abbrev TIM_RANGE : Nat := 0x60F0
/-- TIM : CMD from a context other than C0 (R361) -/
abbrev TIM_OWNER : Nat := 0x60F1
/-- TIM : announce timeout with no master left (R374) -/
abbrev TIM_ANN_LOSS : Nat := 0x60F2
/-- TIM : mapping stepped by RESTEP (R375) -/
abbrev TIM_STEP : Nat := 0x60F3
/-- TTH : both tether lanes lost (R394) -/
abbrev TTH_DOWN : Nat := 0x6100
/-- TTH : one tether lane lost (R400) -/
abbrev TTH_ONE_LANE : Nat := 0x6101
/-- TTH : training timeout; running without partner (R383) -/
abbrev TTH_TRAIN : Nat := 0x6102
/-- TTH : one-way delay above 2,063 ticks (R387) -/
abbrev TTH_DELAY : Nat := 0x6103
/-- PAI : PAIR_HB missing while the tether runs (R394) -/
abbrev PAI_HB_LOST : Nat := 0x6104
/-- PAI : digest mismatch (R391) -/
abbrev PAI_DIGEST : Nat := 0x6105
/-- PAI : this hub took over (R393) -/
abbrev PAI_TAKEOVER : Nat := 0x6106
/-- PAI : this hub was deposed (R395) -/
abbrev PAI_DEPOSED : Nat := 0x6107
/-- PAI : a health bit set (R392) -/
abbrev PAI_HEALTH : Nat := 0x6108
/-- PAI : write outside a field's range, or unknown OP -/
abbrev PAI_RANGE : Nat := 0x6109
/-- PAI : CMD from a context other than C0 (R397) -/
abbrev PAI_OWNER : Nat := 0x610A
/-- PAI : HANDOVER while the standby is not IN_SYNC (R397) -/
abbrev PAI_NOT_SYNC : Nat := 0x610B
/-- MEM : write outside a field's range -/
abbrev MEM_RANGE : Nat := 0x6110
/-- MEM : host write to a Winch-owned bank dropped (R405) -/
abbrev MEM_OWNED : Nat := 0x6111
/-- MEM : uncorrectable scratch word (R406) -/
abbrev MEM_SCM_UNCORR : Nat := 0x6112
/-- MEM : access to a bank in Ballast or waking (R407) -/
abbrev MEM_BALLAST : Nat := 0x6113
/-- MEM : Ballast bit of an owned bank ignored (R407) -/
abbrev MEM_BALLAST_USED : Nat := 0x6114
/-- MEM : block failed its pattern (R412) -/
abbrev MEM_TEST_FAIL : Nat := 0x6115
/-- DKR : unknown OP -/
abbrev DKR_RANGE : Nat := 0x6120
/-- DKR : access to the Darkroom window (R408) -/
abbrev DKR_DENIED : Nat := 0x6121
/-- DKR : WIPE from a context other than C0 (R409) -/
abbrev DKR_OWNER : Nat := 0x6122
/-- DKR : Darkroom wiped (R409) -/
abbrev DKR_WIPED : Nat := 0x6123
/-- MNT : write outside a field's range, or a CLASS or OP not permitted (R422) -/
abbrev MNT_RANGE : Nat := 0x6130
/-- MNT : CMD from a context other than C0 (R422) -/
abbrev MNT_OWNER : Nat := 0x6131
/-- TEL : write outside a field's range -/
abbrev TEL_RANGE : Nat := 0x6140
/-- SYS : unknown OP -/
abbrev SYS_RANGE : Nat := 0x6150
/-- SYS : CMD from a context other than C0 (R429) -/
abbrev SYS_OWNER : Nat := 0x6151
/-- SYS : plan check failed at start (R48) -/
abbrev PLAN_START_FAIL : Nat := 0x6152
/-- PWR : PFW_N accepted low (R430) -/
abbrev PWR_FAIL : Nat := 0x6153
/-- PWR : mains dip (R432) -/
abbrev PWR_DIP : Nat := 0x6154
/-- UPD : write outside a field's range, or unknown OP -/
abbrev UPD_RANGE : Nat := 0x6160
/-- UPD : CMD from a context other than C0 (R435) -/
abbrev UPD_OWNER : Nat := 0x6161
/-- UPD : no card, no FAT32 volume, or no file (R435) -/
abbrev UPD_NO_CARD : Nat := 0x6162
/-- UPD : header field or HDR_CRC wrong (R435) -/
abbrev UPD_HEADER : Nat := 0x6163
/-- UPD : written block fails its check value (R435) -/
abbrev UPD_BLOCK : Nat := 0x6164
/-- UPD : BODY_DIGEST differs (R435) -/
abbrev UPD_DIGEST : Nat := 0x6165
/-- UPD : KEY_ID unknown or SIGNATURE invalid (R435) -/
abbrev UPD_SIG : Nat := 0x6166
/-- UPD : command not permitted in the stage (R435, R447) -/
abbrev UPD_STAGE : Nat := 0x6167
/-- UPD : start went to Safelight (R437) -/
abbrev UPD_FALLBACK : Nat := 0x6168
/-- UPD : settings returned to Reset values (R438) -/
abbrev SETTINGS_RESET : Nat := 0x6169
/-- SEC : write outside a field's range, or unknown OP -/
abbrev SEC_RANGE : Nat := 0x6170
/-- SEC : CMD from a context other than C0 (R441) -/
abbrev SEC_OWNER : Nat := 0x6171
/-- SEC : command not permitted in the life-cycle state (R441, R443) -/
abbrev SEC_STATE : Nat := 0x6172
/-- SEC : tamper detector tripped (R442) -/
abbrev SEC_TAMPER : Nat := 0x6173
/-- SDC : write outside a field's range -/
abbrev SDC_RANGE : Nat := 0x6180
/-- SDC : card not supported or initialisation failed -/
abbrev SDC_CARD : Nat := 0x6181
/-- SDC : CRC error or timeout in a transfer (R35) -/
abbrev SDC_IO : Nat := 0x6182
/-- NVS : write outside a field's range -/
abbrev NVS_RANGE : Nat := 0x6190
/-- NVS : wear reserve below RES_WARN (R450) -/
abbrev NVS_RESERVE : Nat := 0x6191
/-- NVS : program or erase timeout; block retired (R28) -/
abbrev FLASH_TIMEOUT : Nat := 0x6192
/-- write to a field that the running plan locks (R41) -/
abbrev LIVE_LOCKED : Nat := 0x2001
/-- live write outside MIN to MAX (R52) -/
abbrev LIVE_RANGE : Nat := 0x2002
/-- while LOCK is 1, a write to an RWL field, or a PAGE_CTRL write whose EN bit differs from the EN held (R457) -/
abbrev PAGE_LOCKED : Nat := 0x2003
/-- context write while EN is 0 (R457) -/
abbrev PAGE_DISABLED : Nat := 0x2004
/-- PAGE_CTRL written by a context other than C0 (R457) -/
abbrev PAGE_OWNER : Nat := 0x2005

end Sys2Proof.Err
end

