-- ==== Sys2Proof/Machine/RegTable.lean ====
section
/-!
DEFINITION. The register tables of every page as rows: offset, how often the register repeats, access type,
Reset value and the mask of the bits that are not listed as "write 0, read 0" (R5, R6, R454).
-/

namespace Sys2Proof.Machine

/-- Access types of R5. -/
inductive Acc where
  | rw | ro | wo | w1c | rc
  deriving DecidableEq, Repr

/-- One row of a register table: `count` repeats at distance `stride`, `words` words each. -/
structure RegRow where
  off : Nat
  count : Nat
  stride : Nat
  words : Nat
  acc : Acc
  reset : Word
  mask : Word
  deriving DecidableEq, Repr

/-- Rows of the page header (R454). -/
def rowsHDR : List RegRow := [
  ⟨0x0, 1, 4, 1, .ro, 0x0, 0xffffffff⟩,
  ⟨0x4, 1, 4, 1, .ro, 0x0, 0xffffffff⟩,
  ⟨0x8, 1, 4, 1, .rw, 0x1, 0xffffffff⟩,
  ⟨0xc, 1, 4, 1, .ro, 0x0, 0xffffffff⟩,
  ⟨0x10, 1, 4, 1, .ro, 0x0, 0xffffffff⟩,
  ⟨0x14, 1, 4, 1, .w1c, 0x0, 0xffffffff⟩,
  ⟨0x18, 4, 4, 1, .rw, 0x0, 0xffffffff⟩,
  ⟨0x28, 1, 4, 1, .ro, 0x0, 0xffff⟩,
  ⟨0x2c, 1, 4, 1, .rc, 0x0, 0xffffffff⟩,
  ⟨0x30, 1, 4, 1, .ro, 0x0, 0xffffffff⟩]

/-- Rows of SYS (R445). -/
def rowsSYS : List RegRow := [
  ⟨0x40, 1, 4, 1, .ro, 0x642400b0, 0xffff00ff⟩,
  ⟨0x44, 1, 4, 1, .ro, 0x0, 0xff⟩,
  ⟨0x48, 1, 4, 1, .ro, 0x0, 0xffff000f⟩,
  ⟨0x4c, 1, 4, 1, .ro, 0x0, 0xffffffff⟩,
  ⟨0x50, 1, 4, 1, .wo, 0x0, 0xf⟩,
  ⟨0x54, 1, 4, 1, .ro, 0x0, 0xffffffff⟩,
  ⟨0x58, 1, 4, 1, .ro, 0x0, 0xffffffff⟩,
  ⟨0x5c, 1, 4, 1, .ro, 0x0, 0xffffffff⟩,
  ⟨0x60, 1, 4, 1, .ro, 0x0, 0xffffffff⟩]

/-- Rows of CLK (R340). -/
def rowsCLK : List RegRow := [
  ⟨0x40, 1, 4, 1, .rw, 0xa3200, 0xffff03⟩,
  ⟨0x44, 1, 4, 1, .rw, 0x24, 0x3f⟩,
  ⟨0x48, 1, 4, 1, .wo, 0x0, 0x3f⟩,
  ⟨0x4c, 1, 4, 1, .ro, 0x0, 0x1f77⟩,
  ⟨0x50, 1, 4, 1, .ro, 0x0, 0xffffff⟩,
  ⟨0x54, 1, 4, 1, .rc, 0x0, 0xffffffff⟩,
  ⟨0x58, 1, 4, 1, .rc, 0x0, 0xffffffff⟩,
  ⟨0x5c, 1, 4, 1, .rc, 0x0, 0xffffffff⟩,
  ⟨0x60, 1, 4, 1, .rc, 0x0, 0xffffffff⟩,
  ⟨0x64, 1, 4, 1, .ro, 0x0, 0xffffffff⟩,
  ⟨0x68, 1, 4, 1, .ro, 0x0, 0xffffffff⟩,
  ⟨0x6c, 3, 4, 1, .ro, 0x8000, 0xffff⟩,
  ⟨0x78, 1, 4, 1, .ro, 0x0, 0xffffffff⟩,
  ⟨0x80, 1, 4, 1, .rw, 0x0, 0xff⟩,
  ⟨0x84, 1, 4, 1, .rw, 0x0, 0xffff⟩,
  ⟨0x88, 1, 4, 1, .rw, 0x0, 0xffff⟩,
  ⟨0x8c, 1, 4, 1, .ro, 0x0, 0x7⟩]

/-- Rows of PWR (R446). -/
def rowsPWR : List RegRow := [
  ⟨0x40, 1, 4, 1, .ro, 0x0, 0x7ff⟩,
  ⟨0x44, 1, 4, 1, .rw, 0xa, 0xff⟩,
  ⟨0x48, 1, 4, 1, .rc, 0x0, 0xffffffff⟩,
  ⟨0x4c, 1, 4, 1, .ro, 0x0, 0xffff⟩,
  ⟨0x50, 1, 4, 1, .rc, 0x0, 0xffffffff⟩,
  ⟨0x54, 1, 4, 1, .ro, 0x0, 0xffff⟩,
  ⟨0x58, 1, 4, 1, .ro, 0x0, 0x1ff⟩]

/-- Rows of PLN (R55). -/
def rowsPLN : List RegRow := [
  ⟨0x40, 1, 4, 1, .wo, 0x0, 0x30f⟩,
  ⟨0x44, 1, 4, 1, .rw, 0x0, 0x1⟩,
  ⟨0x48, 1, 4, 1, .ro, 0x0, 0xf⟩,
  ⟨0x4c, 1, 4, 1, .ro, 0x0, 0xf⟩,
  ⟨0x50, 1, 4, 1, .ro, 0x0, 0x7⟩,
  ⟨0x54, 1, 4, 1, .ro, 0x0, 0xfffff⟩,
  ⟨0x58, 1, 4, 1, .ro, 0x0, 0xffffffff⟩,
  ⟨0x5c, 1, 4, 1, .rw, 0x0, 0xffffffff⟩,
  ⟨0x60, 1, 4, 1, .ro, 0x0, 0xffffffff⟩,
  ⟨0x64, 1, 4, 1, .ro, 0x0, 0xffffffff⟩,
  ⟨0x68, 1, 4, 1, .ro, 0x0, 0xffffffff⟩,
  ⟨0x6c, 1, 4, 1, .ro, 0x0, 0xffffffff⟩,
  ⟨0x70, 1, 4, 1, .ro, 0x0, 0xffffffff⟩,
  ⟨0x74, 1, 4, 1, .ro, 0x0, 0xffffffff⟩,
  ⟨0x78, 1, 4, 1, .ro, 0x0, 0xffffffff⟩,
  ⟨0x7c, 1, 4, 1, .ro, 0x0, 0xffffffff⟩,
  ⟨0x80, 1, 4, 1, .ro, 0x0, 0xffffffff⟩,
  ⟨0x84, 1, 4, 1, .ro, 0x0, 0xffffffff⟩,
  ⟨0x88, 1, 4, 1, .ro, 0x0, 0xffffffff⟩,
  ⟨0x8c, 1, 4, 1, .ro, 0x0, 0xffffffff⟩,
  ⟨0x90, 1, 4, 1, .ro, 0x0, 0xffffffff⟩,
  ⟨0x94, 1, 4, 1, .ro, 0x0, 0xffffffff⟩]

/-- Rows of MNT (R422). -/
def rowsMNT : List RegRow := [
  ⟨0x40, 1, 4, 1, .rw, 0x7f0a, 0x7fff⟩,
  ⟨0x44, 1, 4, 1, .wo, 0x0, 0x7f⟩,
  ⟨0x48, 1, 4, 1, .ro, 0x0, 0x3fff⟩,
  ⟨0x4c, 1, 4, 1, .rc, 0x0, 0xffffffff⟩,
  ⟨0x50, 1, 4, 1, .rc, 0x0, 0xffffffff⟩,
  ⟨0x54, 1, 4, 1, .ro, 0x0, 0xffffffff⟩]

/-- Rows of SEC (R448). -/
def rowsSEC : List RegRow := [
  ⟨0x40, 1, 4, 1, .ro, 0x0, 0x3⟩,
  ⟨0x44, 1, 4, 1, .wo, 0x0, 0x7f⟩,
  ⟨0x48, 1, 4, 1, .ro, 0x0, 0x3f⟩,
  ⟨0x4c, 1, 4, 1, .rw, 0x0, 0xffffffff⟩,
  ⟨0x50, 1, 4, 1, .ro, 0x0, 0xffffffff⟩,
  ⟨0x60, 16, 4, 1, .wo, 0x0, 0xffffffff⟩,
  ⟨0xa0, 1, 4, 1, .rc, 0x0, 0xffffffff⟩,
  ⟨0xa4, 1, 4, 1, .ro, 0x0, 0x7⟩]

/-- Rows of UPD (R447). -/
def rowsUPD : List RegRow := [
  ⟨0x40, 1, 4, 1, .wo, 0x0, 0x3f⟩,
  ⟨0x44, 1, 4, 1, .rw, 0x0, 0xffff⟩,
  ⟨0x48, 1, 4, 1, .ro, 0x0, 0x1ff⟩,
  ⟨0x4c, 1, 4, 1, .ro, 0x0, 0x3f3f⟩,
  ⟨0x50, 1, 4, 1, .ro, 0x0, 0xffff⟩,
  ⟨0x54, 1, 4, 1, .ro, 0x0, 0xffffffff⟩,
  ⟨0x58, 1, 4, 1, .ro, 0x0, 0xffffffff⟩,
  ⟨0x5c, 1, 4, 1, .rc, 0x0, 0xffffffff⟩]

/-- Rows of TIM (R381). -/
def rowsTIM : List RegRow := [
  ⟨0x40, 1, 4, 1, .rw, 0x320c00, 0xff3fff⟩,
  ⟨0x44, 1, 4, 1, .rw, 0x3e8, 0xffff⟩,
  ⟨0x48, 1, 4, 1, .rw, 0x0, 0xffffffff⟩,
  ⟨0x4c, 1, 4, 1, .wo, 0x0, 0xf⟩,
  ⟨0x50, 1, 4, 1, .ro, 0x0, 0x3f⟩,
  ⟨0x54, 1, 4, 1, .ro, 0x0, 0xffffffff⟩,
  ⟨0x58, 1, 4, 1, .ro, 0x0, 0xffffffff⟩,
  ⟨0x5c, 1, 4, 1, .ro, 0x0, 0xffffffff⟩,
  ⟨0x60, 1, 4, 1, .ro, 0x0, 0xffffffff⟩,
  ⟨0x64, 1, 4, 1, .ro, 0x0, 0xffffffff⟩,
  ⟨0x68, 1, 4, 1, .ro, 0x3e0f83e0, 0xffffffff⟩,
  ⟨0x6c, 1, 4, 1, .ro, 0xf8, 0xffffffff⟩,
  ⟨0x70, 1, 4, 1, .ro, 0x0, 0xffffffff⟩,
  ⟨0x74, 1, 4, 1, .ro, 0x0, 0xffffffff⟩,
  ⟨0x78, 1, 4, 1, .ro, 0x0, 0xffffffff⟩,
  ⟨0x7c, 1, 4, 1, .ro, 0x0, 0xffffffff⟩,
  ⟨0x80, 1, 4, 1, .rc, 0x0, 0xffffffff⟩,
  ⟨0x84, 1, 4, 1, .rc, 0x0, 0xffffffff⟩,
  ⟨0x88, 1, 4, 1, .rc, 0x0, 0xffffffff⟩]

/-- Rows of CTX (R380). -/
def rowsCTX : List RegRow := [
  ⟨0x40, 1, 4, 1, .ro, 0x0, 0x1f⟩,
  ⟨0x44, 1, 4, 1, .rw, 0x20, 0x7f⟩,
  ⟨0x48, 1, 4, 1, .rw, 0x0, 0xffffffff⟩,
  ⟨0x4c, 1, 4, 1, .ro, 0x0, 0xf⟩,
  ⟨0x50, 4, 4, 1, .rc, 0x0, 0xffffffff⟩,
  ⟨0x60, 1, 4, 1, .rc, 0x0, 0xffffffff⟩]

/-- Rows of OFE (R490). -/
def rowsOFE : List RegRow := [
  ⟨0x40, 1, 4, 1, .rw, 0x1001, 0xff0f⟩,
  ⟨0x44, 1, 4, 1, .rw, 0x0, 0xffff⟩,
  ⟨0x48, 1, 4, 1, .rw, 0x0, 0xffff⟩,
  ⟨0x4c, 1, 4, 1, .rw, 0x1f4, 0x3ff⟩,
  ⟨0x50, 1, 4, 1, .rw, 0x0, 0xffffff⟩,
  ⟨0x54, 1, 4, 1, .rw, 0x0, 0xffff⟩,
  ⟨0x58, 1, 4, 1, .rw, 0x10, 0xffffff⟩,
  ⟨0x60, 16, 4, 1, .rw, 0x0, 0xffffffff⟩,
  ⟨0xc0, 1, 4, 1, .wo, 0x0, 0xf⟩,
  ⟨0xc4, 1, 4, 1, .ro, 0x1, 0xfff⟩,
  ⟨0xc8, 1, 4, 1, .rw, 0x0, 0x3f3f⟩,
  ⟨0xcc, 1, 4, 1, .ro, 0x0, 0x1f⟩,
  ⟨0xd0, 8, 4, 1, .rw, 0x0, 0xffffffff⟩,
  ⟨0xf0, 8, 4, 1, .ro, 0x0, 0xffffffff⟩,
  ⟨0x110, 1, 4, 1, .ro, 0x0, 0xffffffff⟩,
  ⟨0x114, 1, 4, 1, .ro, 0x0, 0xffffffff⟩,
  ⟨0x118, 1, 4, 1, .ro, 0x0, 0xffffffff⟩,
  ⟨0x11c, 1, 4, 1, .ro, 0x0, 0xffffffff⟩,
  ⟨0x120, 1, 4, 1, .ro, 0x0, 0xff⟩,
  ⟨0x124, 1, 4, 1, .rc, 0x0, 0xffffffff⟩,
  ⟨0x128, 1, 4, 1, .rc, 0x0, 0xffffffff⟩,
  ⟨0x12c, 1, 4, 1, .rc, 0x0, 0xffffffff⟩,
  ⟨0x130, 1, 4, 1, .rc, 0x0, 0xffffffff⟩]

/-- Rows of FEN (R111). -/
def rowsFEN : List RegRow := [
  ⟨0x40, 1, 4, 1, .rw, 0x0, 0xf37f3⟩,
  ⟨0x44, 1, 4, 1, .rw, 0x0, 0x7ffff⟩,
  ⟨0x48, 4, 4, 1, .rw, 0x0, 0xffffffff⟩,
  ⟨0x58, 1, 4, 1, .rw, 0x0, 0xf1ff⟩,
  ⟨0x5c, 1, 4, 1, .rw, 0x8, 0xf⟩,
  ⟨0x60, 1, 4, 1, .rw, 0x20, 0xff⟩,
  ⟨0x64, 1, 4, 1, .rw, 0x0, 0xffffffff⟩,
  ⟨0x68, 1, 4, 1, .rw, 0x177dbf49, 0xffffffff⟩,
  ⟨0x6c, 1, 4, 1, .rw, 0x0, 0xffffff⟩,
  ⟨0x80, 16, 12, 1, .rw, 0x0, 0x7ffff⟩,
  ⟨0x84, 16, 12, 1, .rw, 0x0, 0x7ffff⟩,
  ⟨0x88, 16, 12, 1, .rw, 0x0, 0xf3fff⟩,
  ⟨0x140, 1, 4, 1, .ro, 0x0, 0x7⟩,
  ⟨0x144, 1, 4, 1, .ro, 0x0, 0xffffffff⟩,
  ⟨0x148, 1, 4, 1, .rc, 0x0, 0xffffffff⟩,
  ⟨0x14c, 1, 4, 1, .rc, 0x0, 0xffffffff⟩,
  ⟨0x150, 1, 4, 1, .ro, 0x0, 0xffffffff⟩,
  ⟨0x154, 1, 4, 1, .ro, 0x0, 0xffff⟩,
  ⟨0x158, 1, 4, 1, .ro, 0x0, 0xffffff⟩]

/-- Rows of PSS (R138). -/
def rowsPSS : List RegRow := [
  ⟨0x40, 1, 4, 1, .rw, 0x0, 0x1f1fffff⟩,
  ⟨0x44, 1, 4, 1, .ro, 0x0, 0x3⟩,
  ⟨0x48, 1, 4, 1, .rw, 0x3e8, 0xffff⟩,
  ⟨0x4c, 1, 4, 1, .ro, 0x0, 0xffffffff⟩,
  ⟨0x50, 1, 4, 1, .rc, 0x0, 0xffffffff⟩,
  ⟨0x54, 1, 4, 1, .rc, 0x0, 0xffffffff⟩,
  ⟨0x58, 1, 4, 1, .ro, 0x0, 0x7fffff⟩,
  ⟨0x5c, 1, 4, 1, .rc, 0x0, 0xffffffff⟩,
  ⟨0x60, 1, 4, 1, .ro, 0x0, 0xffffffff⟩,
  ⟨0x80, 16, 12, 1, .rw, 0x0, 0x7ffff⟩,
  ⟨0x84, 16, 12, 1, .rw, 0x0, 0x7ffff⟩,
  ⟨0x88, 16, 12, 1, .rw, 0x0, 0x11fff⟩]

/-- Rows of ZON (R139). -/
def rowsZON : List RegRow := [
  ⟨0x40, 1, 4, 1, .rw, 0x0, 0x1fff⟩,
  ⟨0x44, 1, 4, 1, .ro, 0x0, 0x1⟩,
  ⟨0x48, 1, 4, 1, .rw, 0x0, 0xfff⟩,
  ⟨0x4c, 1, 4, 1, .ro, 0x0, 0xffffffff⟩,
  ⟨0x50, 1, 4, 1, .ro, 0x0, 0xffffffff⟩,
  ⟨0x54, 1, 4, 1, .ro, 0x0, 0xffffffff⟩,
  ⟨0x58, 1, 4, 1, .ro, 0x0, 0xffffffff⟩,
  ⟨0x5c, 1, 4, 1, .rc, 0x0, 0xffffffff⟩,
  ⟨0x60, 1, 4, 1, .rc, 0x0, 0xffffffff⟩,
  ⟨0x64, 1, 4, 1, .ro, 0x0, 0xffffffff⟩,
  ⟨0x80, 64, 8, 1, .rw, 0x0, 0xffffffff⟩,
  ⟨0x84, 64, 8, 1, .rw, 0x0, 0xffffffff⟩]

/-- Rows of TMP (R154). -/
def rowsTMP : List RegRow := [
  ⟨0x40, 1, 4, 1, .rw, 0x0, 0x71f07⟩,
  ⟨0x44, 1, 4, 1, .rw, 0x0, 0x3ffff⟩,
  ⟨0x48, 1, 4, 1, .rw, 0x0, 0x1ffff⟩,
  ⟨0x4c, 1, 4, 1, .rw, 0x0, 0x1ffff⟩,
  ⟨0x50, 1, 4, 1, .rw, 0x0, 0x3f⟩,
  ⟨0x54, 1, 4, 1, .rw, 0x0, 0xffffffff⟩,
  ⟨0x58, 1, 4, 1, .rw, 0x0, 0xffffffff⟩,
  ⟨0x5c, 1, 4, 1, .rw, 0x0, 0xffffffff⟩,
  ⟨0x60, 1, 4, 1, .rw, 0x0, 0xffffffff⟩,
  ⟨0x64, 1, 4, 1, .rw, 0x0, 0x1ffff⟩,
  ⟨0x68, 1, 4, 1, .rw, 0x0, 0x1ffff⟩,
  ⟨0x6c, 1, 4, 1, .rw, 0x0, 0xffffffff⟩,
  ⟨0x70, 1, 4, 1, .rw, 0x0, 0xffffffff⟩,
  ⟨0x74, 1, 4, 1, .rw, 0x0, 0x7fff⟩,
  ⟨0x78, 8, 8, 1, .rw, 0x0, 0x1ffff⟩,
  ⟨0x7c, 8, 8, 1, .rw, 0x0, 0xffffffff⟩,
  ⟨0xc0, 1, 4, 1, .ro, 0x0, 0xf⟩,
  ⟨0xc4, 1, 4, 1, .ro, 0x0, 0xffffffff⟩,
  ⟨0xc8, 1, 4, 1, .ro, 0x0, 0xffffffff⟩,
  ⟨0xcc, 1, 4, 1, .ro, 0x8000, 0xffff⟩,
  ⟨0xd0, 1, 4, 1, .rc, 0x0, 0xffffffff⟩,
  ⟨0xd4, 1, 4, 1, .rc, 0x0, 0xffffffff⟩]

/-- Rows of FLD (R195). -/
def rowsFLD : List RegRow := [
  ⟨0x40, 1, 4, 1, .rw, 0x10, 0xffffff⟩,
  ⟨0x44, 1, 4, 1, .wo, 0x0, 0xff⟩,
  ⟨0x48, 1, 4, 1, .wo, 0x0, 0xfff⟩,
  ⟨0x4c, 1, 4, 1, .ro, 0x0, 0x3f⟩,
  ⟨0x50, 1, 4, 1, .ro, 0x0, 0xffffffff⟩,
  ⟨0x54, 1, 4, 1, .ro, 0x0, 0xffff⟩,
  ⟨0x58, 1, 4, 1, .ro, 0x0, 0xffff⟩,
  ⟨0x5c, 1, 4, 1, .ro, 0x0, 0xffffffff⟩,
  ⟨0x60, 1, 4, 1, .ro, 0x0, 0xffffffff⟩,
  ⟨0x64, 1, 4, 1, .ro, 0x0, 0xffffffff⟩,
  ⟨0x68, 1, 4, 1, .ro, 0x0, 0xffffffff⟩,
  ⟨0x6c, 1, 4, 1, .ro, 0x0, 0xffffffff⟩,
  ⟨0x70, 1, 4, 1, .ro, 0x0, 0xffffffff⟩,
  ⟨0x74, 1, 4, 1, .ro, 0x0, 0xffffffff⟩,
  ⟨0x78, 1, 4, 1, .ro, 0x0, 0xffffffff⟩,
  ⟨0x7c, 1, 4, 1, .rc, 0x0, 0xffffffff⟩,
  ⟨0x80, 1, 4, 1, .rc, 0x0, 0xffffffff⟩,
  ⟨0x84, 1, 4, 1, .rc, 0x0, 0xffffffff⟩]

/-- Rows of FLT (R220). -/
def rowsFLT : List RegRow := [
  ⟨0x40, 1, 4, 1, .wo, 0x0, 0xf⟩,
  ⟨0x44, 1, 4, 1, .rw, 0x0, 0x1f⟩,
  ⟨0x48, 1, 4, 1, .ro, 0x0, 0xffff⟩,
  ⟨0x4c, 1, 4, 1, .ro, 0x0, 0x3ff⟩,
  ⟨0x50, 1, 4, 1, .rw, 0x64, 0x1ff⟩,
  ⟨0x54, 1, 4, 1, .rw, 0x0, 0xfffff⟩,
  ⟨0x58, 1, 4, 1, .ro, 0x0, 0xffffffff⟩,
  ⟨0x5c, 1, 4, 1, .ro, 0x0, 0xffffffff⟩,
  ⟨0x60, 1, 4, 1, .rw, 0x0, 0x3ff⟩,
  ⟨0x64, 1, 4, 1, .rw, 0x0, 0x1fffffff⟩,
  ⟨0x68, 1, 4, 1, .rw, 0x0, 0xff07ff⟩,
  ⟨0x6c, 1, 4, 1, .rw, 0x0, 0xfff⟩,
  ⟨0x70, 1, 4, 1, .rw, 0x0, 0xffffffff⟩,
  ⟨0x74, 1, 4, 1, .rw, 0x0, 0xffffffff⟩,
  ⟨0x78, 1, 4, 1, .rw, 0x0, 0xffffffff⟩,
  ⟨0x7c, 1, 4, 1, .ro, 0x0, 0x3ff⟩,
  ⟨0x80, 1, 4, 1, .rc, 0x0, 0xffffffff⟩,
  ⟨0x84, 1, 4, 1, .rc, 0x0, 0xffffffff⟩,
  ⟨0xc4, 15, 4, 1, .rw, 0x0, 0xffffffff⟩]

/-- Rows of LIN (R221). -/
def rowsLIN : List RegRow := [
  ⟨0x40, 1, 4, 1, .rw, 0x0, 0x3ff⟩,
  ⟨0x44, 1, 4, 1, .rw, 0x0, 0x3ffff⟩,
  ⟨0x48, 1, 4, 1, .rw, 0x0, 0xffffffff⟩,
  ⟨0x4c, 1, 4, 1, .rw, 0x0, 0xffffffff⟩,
  ⟨0x50, 18, 4, 1, .rw, 0x0, 0xffffffff⟩,
  ⟨0x98, 1, 4, 1, .ro, 0x0, 0xffffffff⟩,
  ⟨0x9c, 1, 4, 1, .rc, 0x0, 0xffffffff⟩]

/-- Rows of THC (R197). -/
def rowsTHC : List RegRow := [
  ⟨0x40, 1, 4, 1, .rw, 0x0, 0x1f⟩,
  ⟨0x44, 1, 4, 1, .ro, 0x0, 0x1ff⟩,
  ⟨0x48, 1, 4, 1, .ro, 0x0, 0xffffffff⟩,
  ⟨0x4c, 1, 4, 1, .ro, 0x0, 0xffffffff⟩,
  ⟨0x50, 1, 4, 1, .w1c, 0x0, 0xffffffff⟩,
  ⟨0x54, 4, 4, 1, .ro, 0x0, 0xffffffff⟩,
  ⟨0x80, 32, 32, 1, .rw, 0x0, 0xf⟩,
  ⟨0x84, 32, 32, 4, .rw, 0x0, 0xffffffff⟩,
  ⟨0x480, 1, 4, 1, .rw, 0x0, 0x7f0f⟩,
  ⟨0x484, 1, 4, 1, .ro, 0x0, 0x3f03ff⟩]

/-- Rows of DRP (R244). -/
def rowsDRP : List RegRow := [
  ⟨0x40, 1, 4, 1, .rw, 0x0, 0x7ff⟩,
  ⟨0x44, 1, 4, 1, .ro, 0x0, 0x1fff⟩,
  ⟨0x48, 1, 4, 1, .wo, 0x0, 0xf⟩,
  ⟨0x4c, 1, 4, 1, .ro, 0x0, 0xfffff⟩,
  ⟨0x50, 1, 4, 1, .ro, 0x0, 0x7ffff⟩,
  ⟨0x54, 1, 4, 1, .rw, 0x0, 0x3f⟩,
  ⟨0x58, 1, 4, 1, .rw, 0x0, 0xffffffff⟩,
  ⟨0x5c, 1, 4, 1, .rw, 0x0, 0xffffffff⟩,
  ⟨0x60, 1, 4, 1, .rw, 0x0, 0xffff⟩,
  ⟨0x64, 1, 4, 1, .rw, 0x1, 0xff⟩,
  ⟨0x68, 1, 4, 1, .ro, 0x0, 0x3ffff⟩,
  ⟨0x6c, 1, 4, 1, .ro, 0x0, 0x3ffff⟩,
  ⟨0x70, 1, 4, 1, .ro, 0x0, 0x3ffff⟩,
  ⟨0x74, 1, 4, 1, .ro, 0x0, 0xffffffff⟩,
  ⟨0x78, 1, 4, 1, .ro, 0x0, 0x3ffff⟩,
  ⟨0x7c, 1, 4, 1, .rw, 0x0, 0xffffffff⟩,
  ⟨0x80, 1, 4, 1, .rw, 0x0, 0xffffff⟩,
  ⟨0x84, 1, 4, 1, .ro, 0x0, 0xffffffff⟩,
  ⟨0x88, 1, 4, 1, .ro, 0x0, 0x3ffffff⟩,
  ⟨0x8c, 1, 4, 1, .rc, 0x0, 0xffffffff⟩,
  ⟨0x90, 1, 4, 1, .rc, 0x0, 0xffffffff⟩,
  ⟨0x94, 1, 4, 1, .rc, 0x0, 0xffffffff⟩,
  ⟨0x98, 1, 4, 1, .rc, 0x0, 0xffffffff⟩,
  ⟨0x9c, 1, 4, 1, .rc, 0x0, 0xffffffff⟩,
  ⟨0xa0, 1, 4, 1, .rc, 0x0, 0xffffffff⟩,
  ⟨0x100, 32, 4, 1, .rw, 0x0, 0x1fffff⟩]

/-- Rows of SHB (R268). -/
def rowsSHB : List RegRow := [
  ⟨0x40, 4, 4, 1, .rw, 0x64400, 0xfffffff⟩,
  ⟨0x50, 4, 4, 1, .rw, 0x0, 0xffff⟩,
  ⟨0x60, 4, 4, 1, .rw, 0x0, 0xffffffff⟩,
  ⟨0x70, 16, 4, 1, .rw, 0x0, 0xffffffff⟩,
  ⟨0xb0, 16, 4, 1, .rw, 0x0, 0xffff01f1⟩,
  ⟨0xf0, 4, 4, 1, .rw, 0x0, 0xf3⟩,
  ⟨0x100, 8, 16, 1, .rw, 0x0, 0xffffffff⟩,
  ⟨0x104, 8, 16, 1, .rw, 0x0, 0xffffffff⟩,
  ⟨0x108, 8, 16, 1, .rw, 0x0, 0xffff003f⟩,
  ⟨0x10c, 8, 16, 1, .ro, 0x0, 0xffff⟩,
  ⟨0x180, 1, 4, 1, .wo, 0x0, 0x1ff⟩,
  ⟨0x184, 1, 4, 1, .rw, 0x0, 0xffffffff⟩,
  ⟨0x188, 1, 4, 1, .ro, 0x0, 0x1ffffff⟩,
  ⟨0x18c, 1, 4, 1, .rc, 0x0, 0xffffffff⟩,
  ⟨0x190, 1, 4, 1, .rc, 0x0, 0xffffffff⟩,
  ⟨0x194, 1, 4, 1, .rc, 0x0, 0xffffffff⟩,
  ⟨0x1a0, 16, 4, 1, .rc, 0x0, 0xffffffff⟩]

/-- Rows of SCU (R269). -/
def rowsSCU : List RegRow := [
  ⟨0x40, 1, 4, 1, .ro, 0x0, 0xffffffff⟩,
  ⟨0x44, 1, 4, 1, .ro, 0x0, 0xffffffff⟩,
  ⟨0x48, 1, 4, 1, .rc, 0x0, 0xffffffff⟩,
  ⟨0x4c, 1, 4, 1, .ro, 0x0, 0xffffffff⟩,
  ⟨0x50, 1, 4, 1, .rc, 0x0, 0xffffffff⟩,
  ⟨0x54, 1, 4, 1, .rc, 0x0, 0xffffffff⟩]

/-- Rows of ENV (R270). -/
def rowsENV : List RegRow := [
  ⟨0x40, 1, 4, 1, .rw, 0x0, 0x3ff⟩,
  ⟨0x44, 1, 4, 1, .rw, 0x0, 0xffffff⟩,
  ⟨0x48, 1, 4, 1, .ro, 0x0, 0xffffff⟩,
  ⟨0x4c, 1, 4, 1, .ro, 0x0, 0xffffffff⟩]

/-- Rows of SPL (R295). -/
def rowsSPL : List RegRow := [
  ⟨0x40, 1, 4, 1, .rw, 0x0, 0x3f⟩,
  ⟨0x44, 1, 4, 1, .wo, 0x0, 0xf⟩,
  ⟨0x48, 1, 4, 1, .wo, 0x0, 0x77⟩,
  ⟨0x4c, 1, 4, 1, .ro, 0x0, 0xff⟩,
  ⟨0x50, 4, 4, 1, .ro, 0x0, 0xffffffff⟩,
  ⟨0x60, 4, 4, 1, .ro, 0x0, 0xffffffff⟩,
  ⟨0x70, 1, 4, 1, .ro, 0x0, 0xffffffff⟩,
  ⟨0x74, 1, 4, 1, .ro, 0x0, 0x1ffff⟩,
  ⟨0x78, 1, 4, 1, .rc, 0x0, 0xffffffff⟩,
  ⟨0x7c, 1, 4, 1, .rc, 0x0, 0xffffffff⟩,
  ⟨0x80, 1, 4, 1, .ro, 0x0, 0xffffffff⟩,
  ⟨0x84, 1, 4, 1, .rc, 0x0, 0xffffffff⟩,
  ⟨0x88, 1, 4, 1, .ro, 0x0, 0xffffffff⟩,
  ⟨0x8c, 1, 4, 1, .ro, 0x0, 0xffffffff⟩]

/-- Rows of CMP (R297). -/
def rowsCMP : List RegRow := [
  ⟨0x40, 1, 4, 1, .ro, 0x0, 0x3ff⟩,
  ⟨0x44, 1, 4, 1, .ro, 0x0, 0x1ff⟩,
  ⟨0x48, 1, 4, 1, .ro, 0x0, 0xffffffff⟩,
  ⟨0x4c, 1, 4, 1, .ro, 0x0, 0xffffffff⟩,
  ⟨0x50, 1, 4, 1, .ro, 0x0, 0xffffffff⟩,
  ⟨0x54, 1, 4, 1, .ro, 0x0, 0xffffffff⟩,
  ⟨0x58, 1, 4, 1, .ro, 0x0, 0xffffffff⟩,
  ⟨0x5c, 1, 4, 1, .rc, 0x0, 0xffffffff⟩,
  ⟨0x60, 1, 4, 1, .rc, 0x0, 0xffffffff⟩,
  ⟨0x64, 1, 4, 1, .rc, 0x0, 0xffffffff⟩,
  ⟨0x68, 1, 4, 1, .rc, 0x0, 0xffffffff⟩,
  ⟨0x6c, 1, 4, 1, .ro, 0x0, 0x3ff⟩,
  ⟨0x70, 1, 4, 1, .rc, 0x0, 0xffffffff⟩]

/-- Rows of LPC (R323). -/
def rowsLPC : List RegRow := [
  ⟨0x40, 1, 4, 1, .ro, 0x0, 0xffff⟩,
  ⟨0x44, 1, 4, 1, .ro, 0x0, 0xffff⟩,
  ⟨0x48, 1, 4, 1, .rc, 0x0, 0xffffffff⟩,
  ⟨0x4c, 1, 4, 1, .ro, 0x0, 0xffffffff⟩]

/-- Rows of ULA and ULB (R378). -/
def rowsUL : List RegRow := [
  ⟨0x40, 1, 4, 1, .rw, 0x5dc0001, 0x3fff0003⟩,
  ⟨0x44, 1, 4, 1, .rw, 0x0, 0xffff⟩,
  ⟨0x48, 1, 4, 1, .ro, 0x0, 0xff⟩,
  ⟨0x4c, 1, 4, 1, .ro, 0x0, 0xffffffff⟩,
  ⟨0x50, 1, 4, 1, .ro, 0x0, 0xffff⟩,
  ⟨0x54, 1, 4, 1, .ro, 0x0, 0x1f⟩,
  ⟨0x58, 1, 4, 1, .rc, 0x0, 0xffffffff⟩,
  ⟨0x5c, 1, 4, 1, .rc, 0x0, 0xffffffff⟩,
  ⟨0x60, 1, 4, 1, .rc, 0x0, 0xffffffff⟩,
  ⟨0x64, 1, 4, 1, .rc, 0x0, 0xffffffff⟩,
  ⟨0x68, 1, 4, 1, .rc, 0x0, 0xffffffff⟩,
  ⟨0x6c, 1, 4, 1, .rc, 0x0, 0xffffffff⟩,
  ⟨0x70, 1, 4, 1, .rc, 0x0, 0xffffffff⟩,
  ⟨0x74, 1, 4, 1, .rc, 0x0, 0xffffffff⟩,
  ⟨0x78, 1, 4, 1, .rc, 0x0, 0xffffffff⟩,
  ⟨0x7c, 1, 4, 1, .rc, 0x0, 0xffffffff⟩,
  ⟨0x80, 1, 4, 1, .ro, 0x0, 0x3ff⟩,
  ⟨0x84, 1, 4, 1, .rc, 0x0, 0xffffffff⟩]

/-- Rows of SLZ (R379). -/
def rowsSLZ : List RegRow := [
  ⟨0x40, 1, 4, 1, .rw, 0x103e8, 0xffffff⟩,
  ⟨0x44, 1, 4, 1, .ro, 0x0, 0xfff⟩,
  ⟨0x48, 1, 4, 1, .ro, 0x0, 0xffffffff⟩,
  ⟨0x4c, 1, 4, 1, .ro, 0x0, 0xffffffff⟩,
  ⟨0x50, 1, 4, 1, .ro, 0x0, 0xffff⟩,
  ⟨0x54, 1, 4, 1, .ro, 0x0, 0xffffffff⟩,
  ⟨0x58, 1, 4, 1, .rc, 0x0, 0xffffffff⟩,
  ⟨0x5c, 1, 4, 1, .rc, 0x0, 0xffffffff⟩,
  ⟨0x60, 1, 4, 1, .rc, 0x0, 0xffffffff⟩,
  ⟨0x64, 1, 4, 1, .rc, 0x0, 0xffffffff⟩,
  ⟨0x68, 1, 4, 1, .ro, 0x0, 0xffffffff⟩,
  ⟨0x6c, 1, 4, 1, .ro, 0x0, 0xffffffff⟩]

/-- Rows of TTH (R402). -/
def rowsTTH : List RegRow := [
  ⟨0x40, 1, 4, 1, .ro, 0x0, 0x1f⟩,
  ⟨0x44, 1, 4, 1, .ro, 0x0, 0xfff⟩,
  ⟨0x48, 1, 4, 1, .ro, 0x0, 0x3ff⟩,
  ⟨0x4c, 1, 4, 1, .ro, 0x0, 0x3ff⟩,
  ⟨0x50, 1, 4, 1, .rc, 0x0, 0xffffffff⟩,
  ⟨0x54, 1, 4, 1, .rc, 0x0, 0xffffffff⟩,
  ⟨0x58, 1, 4, 1, .rc, 0x0, 0xffffffff⟩,
  ⟨0x5c, 1, 4, 1, .rc, 0x0, 0xffffffff⟩,
  ⟨0x60, 1, 4, 1, .rc, 0x0, 0xffffffff⟩,
  ⟨0x64, 1, 4, 1, .ro, 0x0, 0xffffffff⟩]

/-- Rows of PAI (R403). -/
def rowsPAI : List RegRow := [
  ⟨0x40, 1, 4, 1, .rw, 0x143c04, 0xffff07⟩,
  ⟨0x44, 1, 4, 1, .wo, 0x0, 0xf⟩,
  ⟨0x48, 1, 4, 1, .ro, 0x0, 0xff⟩,
  ⟨0x4c, 1, 4, 1, .ro, 0x0, 0xffffffff⟩,
  ⟨0x50, 1, 4, 1, .ro, 0x0, 0xffffffff⟩,
  ⟨0x54, 1, 4, 1, .ro, 0x0, 0x3f3f⟩,
  ⟨0x58, 1, 4, 1, .ro, 0x0, 0xffffffff⟩,
  ⟨0x5c, 1, 4, 1, .ro, 0x0, 0xffff⟩,
  ⟨0x60, 1, 4, 1, .ro, 0x0, 0xffffffff⟩,
  ⟨0x64, 1, 4, 1, .rc, 0x0, 0xffffffff⟩,
  ⟨0x68, 1, 4, 1, .rc, 0x0, 0xffffffff⟩,
  ⟨0x6c, 1, 4, 1, .ro, 0x0, 0xffffffff⟩,
  ⟨0x70, 1, 4, 1, .ro, 0x0, 0xffffffff⟩,
  ⟨0x74, 1, 4, 1, .ro, 0x0, 0x3fff⟩,
  ⟨0x78, 1, 4, 1, .ro, 0x0, 0xffffffff⟩,
  ⟨0x7c, 1, 4, 1, .rc, 0x0, 0xffffffff⟩]

/-- Rows of LN (R341). -/
def rowsLN : List RegRow := [
  ⟨0x40, 1, 4, 1, .rw, 0x3, 0x7f⟩,
  ⟨0x44, 1, 4, 1, .rw, 0x100800, 0x1f1f0f⟩,
  ⟨0x48, 1, 4, 1, .ro, 0x0, 0xff⟩,
  ⟨0x4c, 1, 4, 1, .ro, 0x0, 0xf⟩,
  ⟨0x50, 1, 4, 1, .ro, 0x0, 0xffff⟩,
  ⟨0x54, 1, 4, 1, .ro, 0x0, 0xffffffff⟩,
  ⟨0x58, 1, 4, 1, .ro, 0x0, 0xffffffff⟩,
  ⟨0x5c, 1, 4, 1, .rw, 0x0, 0x1f1f⟩,
  ⟨0x60, 1, 4, 1, .wo, 0x0, 0x3⟩,
  ⟨0x64, 1, 4, 1, .rc, 0x0, 0xffffffff⟩,
  ⟨0x68, 1, 4, 1, .ro, 0x0, 0xffffffff⟩,
  ⟨0x6c, 1, 4, 1, .ro, 0x0, 0xffffffff⟩,
  ⟨0x70, 1, 4, 1, .rc, 0x0, 0xffffffff⟩,
  ⟨0x74, 1, 4, 1, .rc, 0x0, 0xffffffff⟩,
  ⟨0x78, 1, 4, 1, .rc, 0x0, 0xffffffff⟩]

/-- Rows of MEM (R420). -/
def rowsMEM : List RegRow := [
  ⟨0x40, 8, 4, 1, .ro, 0x0, 0xffffffff⟩,
  ⟨0x60, 1, 4, 1, .rw, 0x0, 0xffffffff⟩,
  ⟨0x64, 1, 4, 1, .ro, 0x0, 0xffffffff⟩,
  ⟨0x68, 1, 4, 1, .ro, 0x0, 0xffffffff⟩,
  ⟨0x6c, 1, 4, 1, .rw, 0x3c, 0xffff⟩,
  ⟨0x70, 1, 4, 1, .ro, 0x0, 0xffffffff⟩,
  ⟨0x74, 1, 4, 1, .rc, 0x0, 0xffffffff⟩,
  ⟨0x78, 1, 4, 1, .rc, 0x0, 0xffffffff⟩,
  ⟨0x7c, 1, 4, 1, .ro, 0x0, 0xffffffff⟩,
  ⟨0x80, 1, 4, 1, .rw, 0x70018, 0x7ffff⟩,
  ⟨0x84, 1, 4, 1, .ro, 0x0, 0xffffffff⟩,
  ⟨0x88, 1, 4, 1, .rc, 0x0, 0xffffffff⟩,
  ⟨0x8c, 1, 4, 1, .rc, 0x0, 0xffffffff⟩,
  ⟨0x90, 1, 4, 1, .ro, 0x0, 0xffffffff⟩]

/-- Rows of DKR (R421). -/
def rowsDKR : List RegRow := [
  ⟨0x40, 1, 4, 1, .wo, 0x0, 0xf⟩,
  ⟨0x44, 1, 4, 1, .ro, 0x0, 0x3f⟩,
  ⟨0x48, 1, 4, 1, .ro, 0x0, 0x3ffff⟩,
  ⟨0x4c, 1, 4, 1, .rc, 0x0, 0xffffffff⟩,
  ⟨0x50, 1, 4, 1, .ro, 0x0, 0xffffffff⟩,
  ⟨0x54, 1, 4, 1, .ro, 0x0, 0xffffffff⟩]

/-- Rows of TEL (R423). -/
def rowsTEL : List RegRow := [
  ⟨0x40, 1, 4, 1, .rw, 0x160001, 0x1fffff⟩,
  ⟨0x44, 1, 4, 1, .ro, 0x0, 0xffff⟩,
  ⟨0x48, 1, 4, 1, .ro, 0x0, 0xffffffff⟩,
  ⟨0x4c, 1, 4, 1, .rw, 0x0, 0xf⟩,
  ⟨0x50, 1, 4, 1, .ro, 0x0, 0xffff⟩,
  ⟨0x54, 1, 4, 1, .ro, 0x0, 0xffffffff⟩,
  ⟨0x58, 1, 4, 1, .ro, 0x0, 0xffffffff⟩,
  ⟨0x5c, 1, 4, 1, .ro, 0x0, 0xffffffff⟩,
  ⟨0x60, 1, 4, 1, .ro, 0x0, 0xffffffff⟩]

/-- Rows of SDC (R449). -/
def rowsSDC : List RegRow := [
  ⟨0x40, 1, 4, 1, .rw, 0x3, 0x3⟩,
  ⟨0x44, 1, 4, 1, .ro, 0x0, 0xff⟩,
  ⟨0x48, 1, 4, 1, .rc, 0x0, 0xffffffff⟩,
  ⟨0x4c, 1, 4, 1, .rc, 0x0, 0xffffffff⟩,
  ⟨0x50, 1, 4, 1, .rc, 0x0, 0xffffffff⟩]

/-- Rows of NVS (R450). -/
def rowsNVS : List RegRow := [
  ⟨0x40, 1, 4, 1, .rw, 0xa0018, 0xffffff⟩,
  ⟨0x44, 1, 4, 1, .ro, 0x0, 0x7⟩,
  ⟨0x48, 1, 4, 1, .ro, 0x0, 0xffffffff⟩,
  ⟨0x4c, 1, 4, 1, .ro, 0x0, 0xffffffff⟩,
  ⟨0x50, 1, 4, 1, .ro, 0x0, 0xffffffff⟩,
  ⟨0x54, 1, 4, 1, .ro, 0x0, 0xffffffff⟩,
  ⟨0x58, 1, 4, 1, .rc, 0x0, 0xffffffff⟩,
  ⟨0x5c, 1, 4, 1, .rc, 0x0, 0xffffffff⟩,
  ⟨0x60, 1, 4, 1, .ro, 0x0, 0xffffffff⟩,
  ⟨0x64, 1, 4, 1, .ro, 0x0, 0xffffffff⟩,
  ⟨0x68, 1, 4, 1, .ro, 0x0, 0xffffffff⟩,
  ⟨0x6c, 1, 4, 1, .ro, 0x0, 0xffff⟩]

/-- Rows of FCH (R196). -/
def rowsFCH : List RegRow := [
  ⟨0x40, 1, 4, 1, .rw, 0x0, 0xf77f7⟩,
  ⟨0x44, 1, 4, 1, .rw, 0x0, 0xfff⟩,
  ⟨0x48, 1, 4, 1, .rw, 0x40, 0xff⟩,
  ⟨0x4c, 1, 4, 1, .rw, 0xa, 0xffff⟩,
  ⟨0x50, 1, 4, 1, .rw, 0x0, 0x7ff⟩,
  ⟨0x54, 1, 4, 1, .ro, 0x0, 0x3ffff⟩,
  ⟨0x58, 1, 4, 1, .ro, 0x0, 0xff1fffff⟩,
  ⟨0x5c, 1, 4, 1, .ro, 0x0, 0x3ff7⟩,
  ⟨0x60, 1, 4, 1, .ro, 0x0, 0x1fffff⟩,
  ⟨0x64, 1, 4, 1, .ro, 0x0, 0xffffffff⟩,
  ⟨0x68, 1, 4, 1, .ro, 0x0, 0xffffffff⟩,
  ⟨0x6c, 1, 4, 1, .rc, 0x0, 0xffffffff⟩,
  ⟨0x70, 1, 4, 1, .rc, 0x0, 0xffffffff⟩,
  ⟨0x74, 1, 4, 1, .rc, 0x0, 0xffffffff⟩]

/-- Rows of SCUnn (R269). -/
def rowsSCUN : List RegRow := [
  ⟨0x40, 1, 4, 1, .rw, 0x0, 0x1ffff03⟩,
  ⟨0x44, 1, 4, 1, .rw, 0x0, 0xffff07ff⟩,
  ⟨0x48, 1, 4, 1, .rw, 0x0, 0x7f07ffff⟩,
  ⟨0x4c, 1, 4, 1, .rw, 0x0, 0x7ffff⟩,
  ⟨0x50, 1, 4, 1, .ro, 0x0, 0xf⟩,
  ⟨0x54, 1, 4, 1, .ro, 0x0, 0xffffffff⟩,
  ⟨0x58, 1, 4, 1, .ro, 0x0, 0xffffffff⟩,
  ⟨0x5c, 1, 4, 1, .rc, 0x0, 0xffffffff⟩,
  ⟨0x60, 1, 4, 1, .ro, 0x0, 0xffffffff⟩,
  ⟨0x64, 1, 4, 1, .ro, 0x0, 0xffffffff⟩,
  ⟨0x68, 1, 4, 1, .ro, 0x0, 0xffffffff⟩,
  ⟨0x6c, 1, 4, 1, .ro, 0x0, 0xffffffff⟩,
  ⟨0x70, 1, 4, 1, .ro, 0x0, 0xffffffff⟩,
  ⟨0x74, 1, 4, 1, .ro, 0x0, 0xffff⟩,
  ⟨0x78, 1, 4, 1, .rc, 0x0, 0xffffffff⟩]

/-- Rows of SPLnn (R296). -/
def rowsSPLN : List RegRow := [
  ⟨0x40, 1, 4, 1, .rw, 0x0, 0xffff0fff⟩,
  ⟨0x44, 1, 4, 1, .ro, 0x0, 0x3ffff⟩,
  ⟨0x80, 4, 64, 1, .ro, 0x0, 0xffffffff⟩,
  ⟨0x84, 4, 64, 1, .ro, 0x0, 0xffffffff⟩,
  ⟨0x88, 4, 64, 1, .ro, 0x0, 0xffff⟩,
  ⟨0x8c, 4, 64, 1, .rw, 0x0, 0xffff⟩,
  ⟨0x90, 4, 64, 1, .ro, 0x0, 0xfffff⟩,
  ⟨0x94, 4, 64, 1, .ro, 0x0, 0xffffffff⟩,
  ⟨0x98, 4, 64, 1, .ro, 0x0, 0xffffffff⟩,
  ⟨0x9c, 4, 64, 1, .ro, 0x0, 0xffffffff⟩,
  ⟨0xa0, 4, 64, 1, .ro, 0x0, 0xffffffff⟩,
  ⟨0xa4, 4, 64, 1, .ro, 0x0, 0xffffffff⟩,
  ⟨0xa8, 4, 64, 1, .rc, 0x0, 0xffffffff⟩,
  ⟨0xac, 4, 64, 1, .rc, 0x0, 0xffffffff⟩,
  ⟨0xb0, 4, 64, 1, .rc, 0x0, 0xffffffff⟩]

/-- Rows of LPE (R324). -/
def rowsLPE : List RegRow := [
  ⟨0x40, 1, 4, 1, .rw, 0x0, 0x3fff⟩,
  ⟨0x44, 1, 4, 1, .rw, 0x0, 0x3fff⟩,
  ⟨0x48, 1, 4, 1, .rw, 0x0, 0xffffff⟩,
  ⟨0x4c, 1, 4, 1, .rw, 0x0, 0xffffffff⟩,
  ⟨0x50, 1, 4, 1, .rw, 0x0, 0xffffffff⟩,
  ⟨0x54, 1, 4, 1, .rw, 0x0, 0x1ffff⟩,
  ⟨0x58, 1, 4, 1, .rw, 0x0, 0x3ffff⟩,
  ⟨0x5c, 1, 4, 1, .rw, 0x0, 0xffffffff⟩,
  ⟨0x60, 1, 4, 1, .rw, 0x0, 0x1ff⟩,
  ⟨0x64, 8, 4, 1, .rw, 0x0, 0x83ff⟩,
  ⟨0x84, 1, 4, 1, .ro, 0x0, 0x3fff⟩,
  ⟨0x88, 1, 4, 1, .ro, 0x0, 0x3fff⟩,
  ⟨0xc0, 1, 4, 1, .ro, 0x0, 0xffff007f⟩,
  ⟨0xc4, 1, 4, 1, .ro, 0x0, 0xffffffff⟩,
  ⟨0xc8, 1, 4, 1, .rc, 0x0, 0xffffffff⟩,
  ⟨0xcc, 1, 4, 1, .ro, 0x0, 0x3fff⟩,
  ⟨0xd0, 1, 4, 1, .rc, 0x0, 0xffffffff⟩,
  ⟨0xd4, 1, 4, 1, .rc, 0x0, 0xffffffff⟩,
  ⟨0xd8, 1, 4, 1, .rc, 0x0, 0xffffffff⟩,
  ⟨0xdc, 1, 4, 1, .rc, 0x0, 0xffffffff⟩,
  ⟨0xe0, 1, 4, 1, .ro, 0x0, 0xffffffff⟩,
  ⟨0xe4, 1, 4, 1, .rc, 0x0, 0xffffffff⟩,
  ⟨0xe8, 1, 4, 1, .ro, 0x0, 0x3ff⟩]

/-- The rows of a page beside its header; none for a page the directory of R453 skips. -/
def pageRows (page : Nat) : Option (List RegRow) :=
  if page < 0x10 then
    match page with
    | 0x0 => some rowsSYS
    | 0x1 => some rowsCLK
    | 0x2 => some rowsPWR
    | 0x3 => some rowsPLN
    | 0x4 => some rowsMNT
    | 0x5 => some rowsSEC
    | 0x6 => some rowsUPD
    | 0x7 => some rowsTIM
    | 0x8 => some rowsCTX
    | _ => none
  else if page < 0x20 then
    match page with
    | 0x10 => some rowsOFE
    | 0x11 => some rowsFEN
    | 0x12 => some rowsPSS
    | 0x13 => some rowsZON
    | 0x14 => some rowsTMP
    | 0x18 => some rowsFLD
    | 0x19 => some rowsFLT
    | 0x1a => some rowsLIN
    | 0x1b => some rowsTHC
    | _ => none
  else if page < 0x30 then some rowsDRP
  else if page < 0x60 then
    if page = 0x48 ∨ page = 0x49 then some rowsUL
    else if 0x50 ≤ page ∧ page < 0x54 then some rowsLN
    else match page with
    | 0x30 => some rowsSHB
    | 0x31 => some rowsSCU
    | 0x32 => some rowsENV
    | 0x38 => some rowsSPL
    | 0x39 => some rowsCMP
    | 0x40 => some rowsLPC
    | 0x4a => some rowsSLZ
    | 0x4c => some rowsTTH
    | 0x4d => some rowsPAI
    | 0x58 => some rowsMEM
    | 0x59 => some rowsDKR
    | 0x5a => some rowsTEL
    | 0x5b => some rowsSDC
    | 0x5c => some rowsNVS
    | _ => none
  else if page < 0x100 then none
  else if page < 0x140 then some rowsFCH
  else if page < 0x160 then some rowsSCUN
  else if page < 0x1a0 then some rowsSPLN
  else if page < 0x1b0 then some rowsLPE
  else none

/-- Whether a row holds the word at page offset `o`. -/
def RegRow.holds (r : RegRow) (o : Nat) : Bool :=
  r.off ≤ o && (o - r.off) / r.stride < r.count && (o - r.off) % r.stride < 4 * r.words && o % 4 == 0

/-- The row of a register address below 0x0100_0000, if the address is one of a listed register. -/
def rowAt (addr : Nat) : Option RegRow :=
  let o := addr % 0x1000
  match pageRows (addr / 0x1000) with
  | none => none
  | some rs => if o < 0x40 then rowsHDR.find? (·.holds o) else rs.find? (·.holds o)

/-- The Reset value of a register (R6); 0 where nothing is listed. Addresses above the register pages are the
model's own keys for the copies a page holds per context, per channel or per entry; they share the listed Reset value
of the register they are copies of. -/
def resetWord (addr : Nat) : Word :=
  match rowAt (addr % 0x1000000) with
  | none => 0
  | some r => r.reset

end Sys2Proof.Machine
end

