-- ==== Sys2Proof/Machine/Regs.lean ====
section
/-!
DEFINITION. The byte address of every register the chapters list (R452 to R454), under the names of the
spec: PAGE_REGISTER, with the page instance and the repeat index as arguments.
DEFINITION. The bit ranges of the fields of those registers stand in the second half, in the namespace `Fd`.
-/
namespace Sys2Proof.Reg

/-! ### Page header (R454) -/
/-- HDR.PAGE_ID (RO): block identity. -/
abbrev HDR_PAGE_ID (page : Nat) : Nat := 0x1000 * page + 0x0
/-- HDR.PAGE_CAPS (RO): page properties. -/
abbrev HDR_PAGE_CAPS (page : Nat) : Nat := 0x1000 * page + 0x4
/-- HDR.PAGE_CTRL (RW): write enable and lock. -/
abbrev HDR_PAGE_CTRL (page : Nat) : Nat := 0x1000 * page + 0x8
/-- HDR.PAGE_STAT (RO): page status. -/
abbrev HDR_PAGE_STAT (page : Nat) : Nat := 0x1000 * page + 0xc
/-- HDR.IRQ_RAW (RO): [30:0] event bits as the chapter gives; [31] ERR, set at each error report of the page. -/
abbrev HDR_IRQ_RAW (page : Nat) : Nat := 0x1000 * page + 0x10
/-- HDR.IRQ_CLR (W1C): reads as IRQ_RAW; a 1 clears that IRQ_RAW bit. -/
abbrev HDR_IRQ_CLR (page : Nat) : Nat := 0x1000 * page + 0x14
/-- HDR.IRQ_EN_C0–IRQ_EN_C3 (RW): bit i enables IRQ_RAW bit i for context x. -/
abbrev HDR_IRQ_EN_C (page i : Nat) : Nat := 0x1000 * page + 0x18 + 4 * i
/-- HDR.ERR_CODE (RO): [15:0] code of the most recent error report; [31:16] write 0, read 0. -/
abbrev HDR_ERR_CODE (page : Nat) : Nat := 0x1000 * page + 0x28
/-- HDR.ERR_COUNT (RC): error reports since the last read, saturating at 0xFFFF_FFFF. -/
abbrev HDR_ERR_COUNT (page : Nat) : Nat := 0x1000 * page + 0x2c
/-- HDR.SEQ (RO): page events since full reset, modulo 2^32. -/
abbrev HDR_SEQ (page : Nat) : Nat := 0x1000 * page + 0x30

/-! ### SYS (R445) -/
/-- SYS.ID (RO): [7:0] silicon revision; [15:8] write 0, read 0; [31:16] part. -/
abbrev SYS_ID : Nat := 0x40
/-- SYS.STAT (RO): [0] READY; [1] SAFELIGHT; [2] TRIAL; [3] PFW_PARK; [5:4] STRAP_MGMT; [6] STRAP_PAIR; [7] STRAP_ERR; [31:8] write 0, read 0. -/
abbrev SYS_STAT : Nat := 0x44
/-- SYS.RESET_CAUSE (RO): [3:0] cause (R429); [15:4] write 0, read 0; [31:16] block code for WEDGED. -/
abbrev SYS_RESET_CAUSE : Nat := 0x48
/-- SYS.BOOT (RO): boot count, as SLZ.BOOT. -/
abbrev SYS_BOOT : Nat := 0x4c
/-- SYS.CMD (WO): [3:0] OP: 0x1 RESET, C0 only; other values dropped with SYS_RANGE; [31:4] write 0, read 0. -/
abbrev SYS_CMD : Nat := 0x50
/-- SYS.SERIAL_LO (RO): serial number [31:0], from the identity block. -/
abbrev SYS_SERIAL_LO : Nat := 0x54
/-- SYS.SERIAL_HI (RO): [63:32]. -/
abbrev SYS_SERIAL_HI : Nat := 0x58
/-- SYS.FW_VER (RO): FW_VER of the running image or of Safelight. -/
abbrev SYS_FW_VER : Nat := 0x5c
/-- SYS.READY_LTC (RO): LTC[31:0] at which READY set. -/
abbrev SYS_READY_LTC : Nat := 0x60

/-! ### CLK (R340) -/
/-- CLK.CFG (RW): selection options. -/
abbrev CLK_CFG : Nat := 0x1040
/-- CLK.PRIO (RW): source order. -/
abbrev CLK_PRIO : Nat := 0x1044
/-- CLK.CMD (WO): switch command. -/
abbrev CLK_CMD : Nat := 0x1048
/-- CLK.STAT (RO): status. -/
abbrev CLK_STAT : Nat := 0x104c
/-- CLK.HOLD_US (RO): [23:0] µs in the present holdover or park, saturating; 0 otherwise; [31:24] write 0, read 0. -/
abbrev CLK_HOLD_US : Nat := 0x1050
/-- CLK.SWITCHES (RC): completed switches (R335). -/
abbrev CLK_SWITCHES : Nat := 0x1054
/-- CLK.HITS (RC): recoveries without a switch (R331). -/
abbrev CLK_HITS : Nat := 0x1058
/-- CLK.HOLDOVERS (RC): entries into holdover. -/
abbrev CLK_HOLDOVERS : Nat := 0x105c
/-- CLK.PARKS (RC): entries into park. -/
abbrev CLK_PARKS : Nat := 0x1060
/-- CLK.SW_LTC_LO (RO): LTC[31:0] of the last switch completion. -/
abbrev CLK_SW_LTC_LO : Nat := 0x1064
/-- CLK.SW_LTC_HI (RO): LTC[63:32] of the last switch completion. -/
abbrev CLK_SW_LTC_HI : Nat := 0x1068
/-- CLK.FREQ0–FREQ2 (RO): [15:0] offset of source n, signed, 0.1 ppm; 0x8000 when not measured or selected; [31:16] write 0, read 0. -/
abbrev CLK_FREQ (i : Nat) : Nat := 0x106c + 4 * i
/-- CLK.PBO (RO): phase build-out absorbed since full reset, signed, ps. -/
abbrev CLK_PBO : Nat := 0x1078
/-- CLK.GATE0 (RW): [7:0] gate bits (R338); [31:8] write 0, read 0. -/
abbrev CLK_GATE0 : Nat := 0x1080
/-- CLK.GATE1 (RW): [15:0] bit n gates DRPn; [31:16] write 0, read 0. -/
abbrev CLK_GATE1 : Nat := 0x1084
/-- CLK.GATE2 (RW): [15:0] bit n gates LPEn; [31:16] write 0, read 0. -/
abbrev CLK_GATE2 : Nat := 0x1088
/-- CLK.GATE_PEND (RO): [0] GATE0, [1] GATE1, [2] GATE2 change pending (R339); [31:3] write 0, read 0. -/
abbrev CLK_GATE_PEND : Nat := 0x108c

/-! ### PWR (R446) -/
/-- PWR.STAT (RO): [8:0] bit r: rail r in window; [9] PFW, PFW_N accepted low; [10] COMMITTED, commit of R430 done; [31:11] write 0, read 0. -/
abbrev PWR_STAT : Nat := 0x2040
/-- PWR.CFG (RW): [7:0] RESUME_MS, ms; 0 means at the next boundary; [31:8] write 0, read 0. -/
abbrev PWR_CFG : Nat := 0x2044
/-- PWR.PFW_EVT (RC): PFW_N acceptances. -/
abbrev PWR_PFW_EVT : Nat := 0x2048
/-- PWR.COMMIT_US (RO): [15:0] length of the last commit, µs; [31:16] write 0, read 0. -/
abbrev PWR_COMMIT_US : Nat := 0x204c
/-- PWR.DIPS (RC): dips (R432). -/
abbrev PWR_DIPS : Nat := 0x2050
/-- PWR.DIP_LAST (RO): [15:0] length of the last dip, ms; [31:16] write 0, read 0. -/
abbrev PWR_DIP_LAST : Nat := 0x2054
/-- PWR.RAIL_FAIL (RO): [8:0] rails out of window at the last SUPPLY reset; [31:9] write 0, read 0. -/
abbrev PWR_RAIL_FAIL : Nat := 0x2058

/-! ### PLN (R55) -/
/-- PLN.CMD (WO): plan command. -/
abbrev PLN_CMD : Nat := 0x3040
/-- PLN.CFG (RW): options. -/
abbrev PLN_CFG : Nat := 0x3044
/-- PLN.SLOT_A_STATE (RO): state of slot A, read from flash at start. -/
abbrev PLN_SLOT_A_STATE : Nat := 0x3048
/-- PLN.SLOT_B_STATE (RO): state of slot B. -/
abbrev PLN_SLOT_B_STATE : Nat := 0x304c
/-- PLN.ACTIVE (RO): running plan. -/
abbrev PLN_ACTIVE : Nat := 0x3050
/-- PLN.RESULT (RO): result of the last COMMIT. -/
abbrev PLN_RESULT : Nat := 0x3054
/-- PLN.RESULT_ENTRY (RO): failing entry index within the section. -/
abbrev PLN_RESULT_ENTRY : Nat := 0x3058
/-- PLN.SWITCH_AT (RW): switch compare value, short time-stamp. -/
abbrev PLN_SWITCH_AT : Nat := 0x305c
/-- PLN.SWITCH_LTC_LO (RO): LTC[31:0] of the last switch instant. -/
abbrev PLN_SWITCH_LTC_LO : Nat := 0x3060
/-- PLN.SWITCH_LTC_HI (RO): LTC[63:32] of the last switch instant. -/
abbrev PLN_SWITCH_LTC_HI : Nat := 0x3064
/-- PLN.ID_A_LO (RO): PLAN_ID[31:0] of slot A; 0 when EMPTY. -/
abbrev PLN_ID_A_LO : Nat := 0x3068
/-- PLN.ID_A_HI (RO): PLAN_ID[63:32] of slot A. -/
abbrev PLN_ID_A_HI : Nat := 0x306c
/-- PLN.ID_B_LO (RO): PLAN_ID[31:0] of slot B. -/
abbrev PLN_ID_B_LO : Nat := 0x3070
/-- PLN.ID_B_HI (RO): PLAN_ID[63:32] of slot B. -/
abbrev PLN_ID_B_HI : Nat := 0x3074
/-- PLN.LOADED_A (RO): bytes transferred into slot A. -/
abbrev PLN_LOADED_A : Nat := 0x3078
/-- PLN.LOADED_B (RO): bytes transferred into slot B. -/
abbrev PLN_LOADED_B : Nat := 0x307c
/-- PLN.SWITCH_COUNT (RO): switches since full reset. -/
abbrev PLN_SWITCH_COUNT : Nat := 0x3080
/-- PLN.LIVE_PEND (RO): live writes waiting for their boundary. -/
abbrev PLN_LIVE_PEND : Nat := 0x3084
/-- PLN.USE_PSS (RO): engine slot use of the running plan, 0.1 % units. -/
abbrev PLN_USE_PSS : Nat := 0x3088
/-- PLN.USE_SPM (RO): spool memory assigned, 0.1 % units. -/
abbrev PLN_USE_SPM : Nat := 0x308c
/-- PLN.USE_SGM (RO): segment memory assigned, 0.1 % units. -/
abbrev PLN_USE_SGM : Nat := 0x3090
/-- PLN.USE_UP1 (RO): one-port uplink budget, 0.1 % units of one port. -/
abbrev PLN_USE_UP1 : Nat := 0x3094

/-! ### MNT (R422) -/
/-- MNT.CFG (RW): coordinator settings. -/
abbrev MNT_CFG : Nat := 0x4040
/-- MNT.CMD (WO): [3:0] OP: 0x1 START, 0x2 ABORT; [6:4] CLASS; [31:7] write 0, read 0. -/
abbrev MNT_CMD : Nat := 0x4044
/-- MNT.STATE (RO): class k in [2k+1:2k]: 0 IDLE, 1 QUEUED, 2 RUNNING, 3 DISABLED; [31:14] write 0, read 0. -/
abbrev MNT_STATE : Nat := 0x4048
/-- MNT.QUEUED_CNT (RC): requests that became QUEUED. -/
abbrev MNT_QUEUED_CNT : Nat := 0x404c
/-- MNT.MAX_WAIT (RC): longest time QUEUED, ms. -/
abbrev MNT_MAX_WAIT : Nat := 0x4050
/-- MNT.STEP_LTC (RO): LTC[31:0] of the last step start. -/
abbrev MNT_STEP_LTC : Nat := 0x4054

/-! ### SEC (R448) -/
/-- SEC.STATE (RO): [1:0] life-cycle state (R440); [31:2] write 0, read 0. -/
abbrev SEC_STATE : Nat := 0x5040
/-- SEC.CMD (WO): key and life-cycle command. -/
abbrev SEC_CMD : Nat := 0x5044
/-- SEC.KEY_STAT (RO): [0] PLAN; [4:1] context keys C0 to C3; [5] UPDATE; [31:6] write 0, read 0. -/
abbrev SEC_KEY_STAT : Nat := 0x5048
/-- SEC.INSTALL_ID (RW): KEY_ID for an INSTALL of the plan key. -/
abbrev SEC_INSTALL_ID : Nat := 0x504c
/-- SEC.PLAN_KEY_ID (RO): KEY_ID of the installed plan key; 0 when none. -/
abbrev SEC_PLAN_KEY_ID : Nat := 0x5050
/-- SEC.KEY_DATA0–KEY_DATA15 (WO): key bytes, byte 0 in KEY_DATA0[7:0]; cleared after each CMD. -/
abbrev SEC_KEY_DATA (i : Nat) : Nat := 0x5060 + 4 * i
/-- SEC.TAMPER (RC): tamper trips (R442). -/
abbrev SEC_TAMPER : Nat := 0x50a0
/-- SEC.TAMPER_SRC (RO): [0] GLITCH; [1] MESH; [2] OVERTEMP; last trip; [31:3] write 0, read 0. -/
abbrev SEC_TAMPER_SRC : Nat := 0x50a4

/-! ### UPD (R447) -/
/-- UPD.CMD (WO): update command. -/
abbrev UPD_CMD : Nat := 0x6040
/-- UPD.CFG (RW): [15:0] AUTO_S, s; 0 means confirmation by command only; [31:16] write 0, read 0. -/
abbrev UPD_CFG : Nat := 0x6044
/-- UPD.STAT (RO): update status. -/
abbrev UPD_STAT : Nat := 0x6048
/-- UPD.PROGRESS (RO): [5:0] blocks checked or written; [7:6] write 0, read 0; [13:8] BLOCKS of the file; [31:14] write 0, read 0. -/
abbrev UPD_PROGRESS : Nat := 0x604c
/-- UPD.RESULT (RO): [15:0] error code of the last failure; 0 none; [31:16] write 0, read 0. -/
abbrev UPD_RESULT : Nat := 0x6050
/-- UPD.NEW_VER (RO): FW_VER of the target bank's header; 0 when none. -/
abbrev UPD_NEW_VER : Nat := 0x6054
/-- UPD.ACT_SEQ (RO): SEQ of the governing activation record. -/
abbrev UPD_ACT_SEQ : Nat := 0x6058
/-- UPD.RESUMES (RC): downloads resumed beyond block 0. -/
abbrev UPD_RESUMES : Nat := 0x605c

/-! ### TIM (R381) -/
/-- TIM.CFG (RW): PTP settings. -/
abbrev TIM_CFG : Nat := 0x7040
/-- TIM.UPD (RW): [15:0] UPD_MS, 125 to 60,000, other values dropped with TIM_RANGE; [31:16] write 0, read 0. -/
abbrev TIM_UPD : Nat := 0x7044
/-- TIM.ASYM (RW): delayAsymmetry, ns, signed. -/
abbrev TIM_ASYM : Nat := 0x7048
/-- TIM.CMD (WO): [3:0] OP: 0x1 RESTEP, other values dropped with TIM_RANGE; [31:4] write 0, read 0. -/
abbrev TIM_CMD : Nat := 0x704c
/-- TIM.STAT (RO): [1:0] STATE as TIME_MAP; [2] MASTER, a master selected; [3] SLEWING; [4] RESTEP_PEND; [5] PORT, 0 A, 1 B; [31:6] write 0, read 0. -/
abbrev TIM_STAT : Nat := 0x7050
/-- TIM.MAP_NO (RO): number of the mapping in use. -/
abbrev TIM_MAP_NO : Nat := 0x7054
/-- TIM.L0_LO (RO): L0[31:0]. -/
abbrev TIM_L0_LO : Nat := 0x7058
/-- TIM.L0_HI (RO): L0[63:32]. -/
abbrev TIM_L0_HI : Nat := 0x705c
/-- TIM.T0_LO (RO): T0[31:0]. -/
abbrev TIM_T0_LO : Nat := 0x7060
/-- TIM.T0_HI (RO): T0[63:32]. -/
abbrev TIM_T0_HI : Nat := 0x7064
/-- TIM.RATE_LO (RO): RATE[31:0]. -/
abbrev TIM_RATE_LO : Nat := 0x7068
/-- TIM.RATE_HI (RO): RATE[63:32]. -/
abbrev TIM_RATE_HI : Nat := 0x706c
/-- TIM.OFFSET (RO): last offset, ns, signed. -/
abbrev TIM_OFFSET : Nat := 0x7070
/-- TIM.MPD (RO): mean path delay, ns. -/
abbrev TIM_MPD : Nat := 0x7074
/-- TIM.GM_ID_LO (RO): grandmaster clockIdentity [31:0]. -/
abbrev TIM_GM_ID_LO : Nat := 0x7078
/-- TIM.GM_ID_HI (RO): [63:32]. -/
abbrev TIM_GM_ID_HI : Nat := 0x707c
/-- TIM.ANN_LOSS (RC): announce timeouts. -/
abbrev TIM_ANN_LOSS : Nat := 0x7080
/-- TIM.DRESP_MISS (RC): Delay_Resp missing. -/
abbrev TIM_DRESP_MISS : Nat := 0x7084
/-- TIM.MASTER_CHG (RC): grandmaster changes. -/
abbrev TIM_MASTER_CHG : Nat := 0x7088

/-! ### CTX (R380) -/
/-- CTX.WHO (RO): [1:0] context of the reading access; [3:2] management context (R364); [4] STRAP_ERR; [31:5] write 0, read 0. -/
abbrev CTX_WHO : Nat := 0x8040
/-- CTX.MASK_SEL (RW): [4:0] GROUP, pages 16·GROUP to 16·GROUP + 15; [6:5] context 1 to 3, 0 dropped with CTX_RANGE; [31:7] write 0, read 0. -/
abbrev CTX_MASK_SEL : Nat := 0x8044
/-- CTX.MASK_DATA (RW): for page 16·GROUP + i: bit 2i READ, bit 2i + 1 WRITE (R362). -/
abbrev CTX_MASK_DATA : Nat := 0x8048
/-- CTX.KEY_STAT (RO): [3:0] bit x: key installed for context x; [31:4] write 0, read 0. -/
abbrev CTX_KEY_STAT : Nat := 0x804c
/-- CTX.WLOST_C0–WLOST_C3 (RC): writes lost by context x (R363). -/
abbrev CTX_WLOST_C (i : Nat) : Nat := 0x8050 + 4 * i
/-- CTX.DENIED (RC): accesses refused by masks (R362). -/
abbrev CTX_DENIED : Nat := 0x8060

/-! ### OFE (R490) -/
/-- OFE.HEAD_CFG (RW): interlock and SPI options. -/
abbrev OFE_HEAD_CFG : Nat := 0x10040
/-- OFE.HEAD_DELAY (RW): [15:0] DELAY, loop delay H in ticks; [31:16] write 0, read 0. -/
abbrev OFE_HEAD_DELAY : Nat := 0x10044
/-- OFE.WAVE_SEL (RW): waveform per slot. -/
abbrev OFE_WAVE_SEL : Nat := 0x10048
/-- OFE.DAC_FS (RW): [9:0] FS, full-scale code (R65); [31:10] write 0, read 0. -/
abbrev OFE_DAC_FS : Nat := 0x1004c
/-- OFE.RMN_TRIG (RW): Raman trigger lead and width. -/
abbrev OFE_RMN_TRIG : Nat := 0x10050
/-- OFE.RMN_DELAY (RW): [15:0] Raman sampling delay in ticks; [31:16] write 0, read 0. -/
abbrev OFE_RMN_DELAY : Nat := 0x10054
/-- OFE.RECAL_CFG (RW): recalibration triggers. -/
abbrev OFE_RECAL_CFG : Nat := 0x10058
/-- OFE.WAVE_DIR0–WAVE_DIR15 (RW): waveform directory. -/
abbrev OFE_WAVE_DIR (i : Nat) : Nat := 0x10060 + 4 * i
/-- OFE.CMD (WO): command. -/
abbrev OFE_CMD : Nat := 0x100c0
/-- OFE.STAT (RO): status. -/
abbrev OFE_STAT : Nat := 0x100c4
/-- OFE.HSPI_LEN (RW): transaction lengths. -/
abbrev OFE_HSPI_LEN : Nat := 0x100c8
/-- OFE.HSPI_RESULT (RO): result of the last transaction. -/
abbrev OFE_HSPI_RESULT : Nat := 0x100cc
/-- OFE.HSPI_TX0–HSPI_TX7 (RW): command bytes, byte 0 in HSPI_TX0[7:0]. -/
abbrev OFE_HSPI_TX (i : Nat) : Nat := 0x100d0 + 4 * i
/-- OFE.HSPI_RX0–HSPI_RX7 (RO): reply bytes, byte 0 in HSPI_RX0[7:0]. -/
abbrev OFE_HSPI_RX (i : Nat) : Nat := 0x100f0 + 4 * i
/-- OFE.TEMP_NOW (RO): [15:0] converter die temperature, signed, °C, LSB 0.01 K; read every 1 ms. -/
abbrev OFE_TEMP_NOW : Nat := 0x10110
/-- OFE.TEMP_CAL (RO): [15:0] temperature at the last completed calibration, same format. -/
abbrev OFE_TEMP_CAL : Nat := 0x10114
/-- OFE.CAL_COUNT (RO): rotations completed since full reset. -/
abbrev OFE_CAL_COUNT : Nat := 0x10118
/-- OFE.ELEM_RX (RO): element state per receiver ADC. -/
abbrev OFE_ELEM_RX : Nat := 0x1011c
/-- OFE.ELEM_RMN (RO): [3:0] element under calibration (0xF none); [7:4] idle spare (0xF none); [31:8] write 0, read 0. -/
abbrev OFE_ELEM_RMN : Nat := 0x10120
/-- OFE.CLIP_RX (RC): clipped receiver samples. -/
abbrev OFE_CLIP_RX : Nat := 0x10124
/-- OFE.CLIP_RMN (RC): clipped Raman samples. -/
abbrev OFE_CLIP_RMN : Nat := 0x10128
/-- OFE.DARK_SHOTS (RC): dark shots. -/
abbrev OFE_DARK_SHOTS : Nat := 0x1012c
/-- OFE.ILK_COUNT (RC): interlock activations. -/
abbrev OFE_ILK_COUNT : Nat := 0x10130

/-! ### FEN (R111) -/
/-- FEN.CFG (RW): mode, gauge, K, combining window. -/
abbrev FEN_CFG : Nat := 0x11040
/-- FEN.POINTS (RW): [18:0] N, points per slot, 0 to the mode's maximum; 0 means engine idle; [31:19] write 0, read 0. -/
abbrev FEN_POINTS : Nat := 0x11044
/-- FEN.NCO_FREQ0–NCO_FREQ3 (RW): signed slot frequency word (R88). -/
abbrev FEN_NCO_FREQ (i : Nat) : Nat := 0x11048 + 4 * i
/-- FEN.MF_CFG (RW): matched filter. -/
abbrev FEN_MF_CFG : Nat := 0x11058
/-- FEN.RVS_CFG (RW): [3:0] BETA, 4 to 15; a write below 4 is dropped with FEN_RANGE; [31:4] write 0, read 0. -/
abbrev FEN_RVS_CFG : Nat := 0x1105c
/-- FEN.FADE_CFG (RW): [7:0] THR, in 1/16 units; 0 means no fade test; [31:8] write 0, read 0. -/
abbrev FEN_FADE_CFG : Nat := 0x11060
/-- FEN.NOISE (RW): [31:0] noise floor in \. -/
abbrev FEN_NOISE : Nat := 0x11064
/-- FEN.GROUP_INDEX (RW): [31:0] n_g, unsigned, 28 fraction bits (1.4682); 0 means not given. -/
abbrev FEN_GROUP_INDEX : Nat := 0x11068
/-- FEN.WAVELENGTH (RW): [23:0] λ in pm; 0 means not given; [31:24] write 0, read 0. -/
abbrev FEN_WAVELENGTH : Nat := 0x1106c
/-- FEN.PB_FIRSTn (RW): [18:0] first point of range n; [31:19] write 0, read 0. -/
abbrev FEN_PB_FIRST (i : Nat) : Nat := 0x11080 + 12 * i
/-- FEN.PB_COUNTn (RW): [18:0] points in range n; 0 means unused; [31:19] write 0, read 0. -/
abbrev FEN_PB_COUNT (i : Nat) : Nat := 0x11084 + 12 * i
/-- FEN.PB_CFGn (RW): block size and decimation of range n. -/
abbrev FEN_PB_CFG (i : Nat) : Nat := 0x11088 + 12 * i
/-- FEN.STAT (RO): status. -/
abbrev FEN_STAT : Nat := 0x11140
/-- FEN.SHOT_COUNT (RO): slot launches processed since plan start, modulo 2^32. -/
abbrev FEN_SHOT_COUNT : Nat := 0x11144
/-- FEN.SAT_COUNT (RC): saturated outputs of stages 3 and 4. -/
abbrev FEN_SAT_COUNT : Nat := 0x11148
/-- FEN.FADE_COUNT (RC): faded point updates, saturating at 0xFFFF_FFFF. -/
abbrev FEN_FADE_COUNT : Nat := 0x1114c
/-- FEN.NOISE_MEAS (RO): mean \. -/
abbrev FEN_NOISE_MEAS : Nat := 0x11150
/-- FEN.LATENCY (RO): [15:0] A in ticks (R105), set at plan load; [31:16] write 0, read 0. -/
abbrev FEN_LATENCY : Nat := 0x11154
/-- FEN.SPACING (RO): [23:0] Δz in µm from GROUP_INDEX, set at plan load; 0 when GROUP_INDEX is 0; [31:24] write 0, read 0. -/
abbrev FEN_SPACING : Nat := 0x11158

/-! ### PSS (R138) -/
/-- PSS.CHAIN_CFG (RW): temporal chain settings. -/
abbrev PSS_CHAIN_CFG : Nat := 0x12040
/-- PSS.CHAIN_STAT (RO): [0] ACTIVE, chain running; [1] FROZEN, FREEZE in force; [31:2] write 0, read 0. -/
abbrev PSS_CHAIN_STAT : Nat := 0x12044
/-- PSS.SCRUB_CFG (RW): [15:0] PERIOD, ms per pass; 0 means none; 1 to 8 dropped with PSS_RANGE; [31:16] write 0, read 0. -/
abbrev PSS_SCRUB_CFG : Nat := 0x12048
/-- PSS.SCRUB_PASS (RO): completed scrub passes since full reset. -/
abbrev PSS_SCRUB_PASS : Nat := 0x1204c
/-- PSS.CORR (RC): corrected reads. -/
abbrev PSS_CORR : Nat := 0x12050
/-- PSS.UNCORR (RC): uncorrectable reads. -/
abbrev PSS_UNCORR : Nat := 0x12054
/-- PSS.LAST_UNCORR (RO): last uncorrectable word. -/
abbrev PSS_LAST_UNCORR : Nat := 0x12058
/-- PSS.REINIT (RC): records rebuilt under R117. -/
abbrev PSS_REINIT : Nat := 0x1205c
/-- PSS.UPDATE_NO (RO): u[31:0] of the last processed update. -/
abbrev PSS_UPDATE_NO : Nat := 0x12060
/-- PSS.CS_FIRSTn (RW): [18:0] first point of range n; [31:19] write 0, read 0. -/
abbrev PSS_CS_FIRST (i : Nat) : Nat := 0x12080 + 12 * i
/-- PSS.CS_COUNTn (RW): [18:0] points; 0 means unused; [31:19] write 0, read 0. -/
abbrev PSS_CS_COUNT (i : Nat) : Nat := 0x12084 + 12 * i
/-- PSS.CS_CFGn (RW): block size and bands of range n. -/
abbrev PSS_CS_CFG (i : Nat) : Nat := 0x12088 + 12 * i

/-! ### ZON (R139) -/
/-- ZON.ZCFG (RW): [12:0] ZONES, 0 to 4,096; above dropped with ZON_RANGE; [31:13] write 0, read 0. -/
abbrev ZON_ZCFG : Nat := 0x13040
/-- ZON.ZSTAT (RO): [0] ACTIVE, zones in use; [31:1] write 0, read 0. -/
abbrev ZON_ZSTAT : Nat := 0x13044
/-- ZON.ZT_INDEX (RW): [11:0] entry shown in ZT_FIRST to ZT_LOUPE; [31:12] write 0, read 0. -/
abbrev ZON_ZT_INDEX : Nat := 0x13048
/-- ZON.ZT_FIRST (RO): zone table entry (R129). -/
abbrev ZON_ZT_FIRST : Nat := 0x1304c
/-- ZON.ZT_COUNT (RO): zone table entry. -/
abbrev ZON_ZT_COUNT : Nat := 0x13050
/-- ZON.ZT_CTRL (RO): zone table entry. -/
abbrev ZON_ZT_CTRL : Nat := 0x13054
/-- ZON.ZT_LOUPE (RO): zone table entry. -/
abbrev ZON_ZT_LOUPE : Nat := 0x13058
/-- ZON.SHOT_TRIG (RC): shot-threshold triggers. -/
abbrev ZON_SHOT_TRIG : Nat := 0x1305c
/-- ZON.INT_TRIG (RC): interval-threshold triggers. -/
abbrev ZON_INT_TRIG : Nat := 0x13060
/-- ZON.ZREC (RO): ZONE_FEATURES records since plan start, modulo 2^32. -/
abbrev ZON_ZREC : Nat := 0x13064
/-- ZON.THR_SHOTn (RW): threshold set n, shot comparison. -/
abbrev ZON_THR_SHOT (i : Nat) : Nat := 0x13080 + 8 * i
/-- ZON.THR_INTn (RW): threshold set n, interval comparison. -/
abbrev ZON_THR_INT (i : Nat) : Nat := 0x13084 + 8 * i

/-! ### TMP (R154) -/
/-- TMP.CFG (RW): stride, depth and binning. -/
abbrev TMP_CFG : Nat := 0x14040
/-- TMP.POSITIONS (RW): [17:0] P, 0 to 131,072; 0 means idle; above 131,072 dropped with TMP_RANGE; [31:18] write 0, read 0. -/
abbrev TMP_POSITIONS : Nat := 0x14044
/-- TMP.REF_FIRST (RW): [16:0] first reference position; [31:17] write 0, read 0. -/
abbrev TMP_REF_FIRST : Nat := 0x14048
/-- TMP.REF_COUNT (RW): [16:0] reference positions; 0 means none; [31:17] write 0, read 0. -/
abbrev TMP_REF_COUNT : Nat := 0x1404c
/-- TMP.REF_CH (RW): [5:0] field channel of the coil RTD; [31:6] write 0, read 0. -/
abbrev TMP_REF_CH : Nat := 0x14050
/-- TMP.REF_GAIN (RW): binary32, K per unit of the channel's linearised value. -/
abbrev TMP_REF_GAIN : Nat := 0x14054
/-- TMP.REF_OFFS (RW): binary32, K. -/
abbrev TMP_REF_OFFS : Nat := 0x14058
/-- TMP.GAMMA (RW): binary32, K. -/
abbrev TMP_GAMMA : Nat := 0x1405c
/-- TMP.ALPHA (RW): binary32, ln units per position. -/
abbrev TMP_ALPHA : Nat := 0x14060
/-- TMP.DARK_FIRST (RW): [16:0] first dark position; [31:17] write 0, read 0. -/
abbrev TMP_DARK_FIRST : Nat := 0x14064
/-- TMP.DARK_COUNT (RW): [16:0] dark positions; 0 means fixed offsets; [31:17] write 0, read 0. -/
abbrev TMP_DARK_COUNT : Nat := 0x14068
/-- TMP.OFFS_S (RW): binary32, Stokes dark level in codes. -/
abbrev TMP_OFFS_S : Nat := 0x1406c
/-- TMP.OFFS_AS (RW): binary32, anti-Stokes dark level in codes. -/
abbrev TMP_OFFS_AS : Nat := 0x14070
/-- TMP.BLOCK (RW): [14:0] bins per record, multiple of 128, 128 to 16,384; [31:15] write 0, read 0. -/
abbrev TMP_BLOCK : Nat := 0x14074
/-- TMP.STEP_POSi (RW): [16:0] position of step i, i = 0 to 7; 0 means unused; [31:17] write 0, read 0. -/
abbrev TMP_STEP_POS (i : Nat) : Nat := 0x14078 + 8 * i
/-- TMP.STEP_VALi (RW): binary32, step in ln units. -/
abbrev TMP_STEP_VAL (i : Nat) : Nat := 0x1407c + 8 * i
/-- TMP.STAT (RO): status. -/
abbrev TMP_STAT : Nat := 0x140c0
/-- TMP.ACC_SHOTS (RO): shots accumulated in the interval in progress. -/
abbrev TMP_ACC_SHOTS : Nat := 0x140c4
/-- TMP.PROFILES (RO): profiles completed since plan start, modulo 2^32. -/
abbrev TMP_PROFILES : Nat := 0x140c8
/-- TMP.T_REF (RO): [15:0] last T_ref, same format as the payload field; [31:16] write 0, read 0. -/
abbrev TMP_T_REF : Nat := 0x140cc
/-- TMP.INVALID_POS (RC): invalid bins emitted. -/
abbrev TMP_INVALID_POS : Nat := 0x140d0
/-- TMP.MISSED (RC): dark taking-part shots (R142). -/
abbrev TMP_MISSED : Nat := 0x140d4

/-! ### FLD (R195) -/
/-- FLD.RECAL_CFG (RW): [7:0] DT, 0.25 K units, 0 means none; [23:8] PERIOD, s, 0 means none; [31:24] write 0, read 0. -/
abbrev FLD_RECAL_CFG : Nat := 0x18040
/-- FLD.CMD (WO): command. -/
abbrev FLD_CMD : Nat := 0x18044
/-- FLD.INJ_CMD (WO): injected conversion request. -/
abbrev FLD_INJ_CMD : Nat := 0x18048
/-- FLD.STAT (RO): status. -/
abbrev FLD_STAT : Nat := 0x1804c
/-- FLD.CONV_STAT (RO): converter c in [4c+3:4c]. -/
abbrev FLD_CONV_STAT : Nat := 0x18050
/-- FLD.TEMP_NOW (RO): [15:0] field die temperature, signed, °C, LSB 0.01 K; [31:16] write 0, read 0. -/
abbrev FLD_TEMP_NOW : Nat := 0x18054
/-- FLD.TEMP_CAL (RO): [15:0] temperature at the last completed calibration, same format; [31:16] write 0, read 0. -/
abbrev FLD_TEMP_CAL : Nat := 0x18058
/-- FLD.CAL_COUNT (RO): rotations completed since full reset. -/
abbrev FLD_CAL_COUNT : Nat := 0x1805c
/-- FLD.TICK_NO (RO): k[31:0] of the last hold. -/
abbrev FLD_TICK_NO : Nat := 0x18060
/-- FLD.OPEN_LO (RO): bit n: FCHn OPEN, n = 0 to 31. -/
abbrev FLD_OPEN_LO : Nat := 0x18064
/-- FLD.OPEN_HI (RO): bit n: FCH(32 + n) OPEN. -/
abbrev FLD_OPEN_HI : Nat := 0x18068
/-- FLD.SHORT_LO (RO): as OPEN_LO, for SHORT. -/
abbrev FLD_SHORT_LO : Nat := 0x1806c
/-- FLD.SHORT_HI (RO): as OPEN_HI, for SHORT. -/
abbrev FLD_SHORT_HI : Nat := 0x18070
/-- FLD.OVR_LO (RO): as OPEN_LO, over-range on the last tick. -/
abbrev FLD_OVR_LO : Nat := 0x18074
/-- FLD.OVR_HI (RO): as OPEN_HI, over-range on the last tick. -/
abbrev FLD_OVR_HI : Nat := 0x18078
/-- FLD.CALSUB_COUNT (RC): results substituted (R182). -/
abbrev FLD_CALSUB_COUNT : Nat := 0x1807c
/-- FLD.INJ_COUNT (RC): injected conversions completed. -/
abbrev FLD_INJ_COUNT : Nat := 0x18080
/-- FLD.DEFER_COUNT (RC): calibrations deferred (R183). -/
abbrev FLD_DEFER_COUNT : Nat := 0x18084

/-! ### FLT (R220) -/
/-- FLT.CMD (WO): [3:0] OP, 0x1 SYNC, other values dropped with FLT_RANGE; [31:4] write 0, read 0. -/
abbrev FLT_CMD : Nat := 0x19040
/-- FLT.SYNC_CFG (RW): [3:0] LINE; [4] LINE_EN; [31:5] write 0, read 0. -/
abbrev FLT_SYNC_CFG : Nat := 0x19044
/-- FLT.LINE_FREQ (RO): [15:0] f, 0.01 Hz; 0 while lost; [31:16] write 0, read 0. -/
abbrev FLT_LINE_FREQ : Nat := 0x19048
/-- FLT.NOTCH (RO): [8:0] SET in use; [9] LOST; [31:10] write 0, read 0. -/
abbrev FLT_NOTCH : Nat := 0x1904c
/-- FLT.NOTCH_DEF (RW): [8:0] set before the first measurement, 0 to 300; [31:9] write 0, read 0. -/
abbrev FLT_NOTCH_DEF : Nat := 0x19050
/-- FLT.BAND_CFG (RW): band source. -/
abbrev FLT_BAND_CFG : Nat := 0x19054
/-- FLT.BAND_T (RO): binary32, last band-source value, °C. -/
abbrev FLT_BAND_T : Nat := 0x19058
/-- FLT.RESYNCS (RO): resynchronisations since plan start. -/
abbrev FLT_RESYNCS : Nat := 0x1905c
/-- FLT.CH_INDEX (RW): [9:0] chain channel 0 to 575; [31:10] write 0, read 0. -/
abbrev FLT_CH_INDEX : Nat := 0x19060
/-- FLT.CH_CFG (RW): filter settings. -/
abbrev FLT_CH_CFG : Nat := 0x19064
/-- FLT.CH_OUT (RW): [10:0] SPC, 0 means no records; [15:11] write 0, read 0; [23:16] NS; [31:24] write 0, read 0. -/
abbrev FLT_CH_OUT : Nat := 0x19068
/-- FLT.THR_CFG (RW): digital thresholds. -/
abbrev FLT_THR_CFG : Nat := 0x1906c
/-- FLT.THR_A (RW): binary32, engineering units. -/
abbrev FLT_THR_A : Nat := 0x19070
/-- FLT.THR_B (RW): binary32. -/
abbrev FLT_THR_B : Nat := 0x19074
/-- FLT.THR_HYS (RW): binary32, not negative. -/
abbrev FLT_THR_HYS : Nat := 0x19078
/-- FLT.CH_STAT (RO): [3:0] TAG and [7:4] SUB of the last sample; [8] THR_A set; [9] THR_B set; [31:10] write 0, read 0. -/
abbrev FLT_CH_STAT : Nat := 0x1907c
/-- FLT.THR_TRIG (RC): threshold triggers. -/
abbrev FLT_THR_TRIG : Nat := 0x19080
/-- FLT.SAT_COUNT (RC): saturated outputs of stages 2, 4 and 7. -/
abbrev FLT_SAT_COUNT : Nat := 0x19084
/-- FLT.BAND_EDGEi (RW): binary32, °C, i = 1 to 15. -/
abbrev FLT_BAND_EDGE (i : Nat) : Nat := 0x190c0 + 4 * i

/-! ### LIN (R221) -/
/-- LIN.CH_INDEX (RW): [9:0] chain channel; [31:10] write 0, read 0. -/
abbrev LIN_CH_INDEX : Nat := 0x1a040
/-- LIN.LCFG (RW): polynomial settings. -/
abbrev LIN_LCFG : Nat := 0x1a044
/-- LIN.XSCALE (RW): binary32, x units per chain unit. -/
abbrev LIN_XSCALE : Nat := 0x1a048
/-- LIN.OUT_SCALE (RW): binary32. -/
abbrev LIN_OUT_SCALE : Nat := 0x1a04c
/-- LIN.COEF0–COEF17 (RW): binary32; COEF[3i + j] multiplies x^i·T^j. -/
abbrev LIN_COEF (i : Nat) : Nat := 0x1a050 + 4 * i
/-- LIN.T_LATCH (RO): binary32, T used for the last sample. -/
abbrev LIN_T_LATCH : Nat := 0x1a098
/-- LIN.NONFINITE (RC): non-finite results (R214). -/
abbrev LIN_NONFINITE : Nat := 0x1a09c

/-! ### THC (R197) -/
/-- THC.CFG (RW): [4:0] BANDS, 0 to 16, 0 means none; above 16 dropped with FLD_RANGE; [31:5] write 0, read 0. -/
abbrev THC_CFG : Nat := 0x1b040
/-- THC.BAND (RO): [3:0] ACTIVE; [7:4] NEXT; [8] PEND; [31:9] write 0, read 0. -/
abbrev THC_BAND : Nat := 0x1b044
/-- THC.SWAPS (RO): band swaps since plan start. -/
abbrev THC_SWAPS : Nat := 0x1b048
/-- THC.TSW_STATE (RO): bit j: output j active. -/
abbrev THC_TSW_STATE : Nat := 0x1b04c
/-- THC.LATCHED (W1C): bit j: output j latched; 1 releases (R187). -/
abbrev THC_LATCHED : Nat := 0x1b050
/-- THC.CMP_STATE0–CMP_STATE3 (RO): bit i of CMP_STATEw: comparator 32w + i active. -/
abbrev THC_CMP_STATE (i : Nat) : Nat := 0x1b054 + 4 * i
/-- THC.OUT_CFGj (RW): output j configuration. -/
abbrev THC_OUT_CFG (i : Nat) : Nat := 0x1b080 + 32 * i
/-- THC.OUT_MASKj_0–OUT_MASKj_3 (RW): bit i of OUT_MASKj_w selects comparator 32w + i. -/
abbrev THC_OUT_MASK (i w : Nat) : Nat := 0x1b084 + 32 * i + 4 * w
/-- THC.BT_INDEX (RW): [3:0] BAND; [7:4] write 0, read 0; [14:8] CMP, comparator 0 to 127; [31:15] write 0, read 0. -/
abbrev THC_BT_INDEX : Nat := 0x1b480
/-- THC.BT_DATA (RO): [9:0] THR; [15:10] write 0, read 0; [21:16] HYS; [31:22] write 0, read 0. -/
abbrev THC_BT_DATA : Nat := 0x1b484

/-! ### DRP (R244) -/
/-- DRP.CFG (RW): mode and node count. -/
abbrev DRP_CFG (n : Nat) : Nat := 0x20000 + 0x1000 * n + 0x40
/-- DRP.SF_INFO (RO): [7:0] QLAG; [12:8] C; [31:13] write 0, read 0. -/
abbrev DRP_SF_INFO (n : Nat) : Nat := 0x20000 + 0x1000 * n + 0x44
/-- DRP.CMD (WO): [3:0] OP: 0x1 RETRAIN, 0x2 REJOIN, 0x3 NODE_CMD; other values dropped with DRP_RANGE; [31:4] write 0, read 0. -/
abbrev DRP_CMD (n : Nat) : Nat := 0x20000 + 0x1000 * n + 0x48
/-- DRP.STAT (RO): status. -/
abbrev DRP_STAT (n : Nat) : Nat := 0x20000 + 0x1000 * n + 0x4c
/-- DRP.RT_END (RO): [18:0] RT_end in ticks; [31:19] write 0, read 0. -/
abbrev DRP_RT_END (n : Nat) : Nat := 0x20000 + 0x1000 * n + 0x50
/-- DRP.STAT_CFG (RW): [3:0] EVERY_EXP; [4] ON_CHANGE; [5] EN, 1 emits NODE_STATUS; [31:6] write 0, read 0. -/
abbrev DRP_STAT_CFG (n : Nat) : Nat := 0x20000 + 0x1000 * n + 0x54
/-- DRP.EVT_LINE0 (RW): shutter line of event e in [4e+3:4e], e = 0 to 7. -/
abbrev DRP_EVT_LINE0 (n : Nat) : Nat := 0x20000 + 0x1000 * n + 0x58
/-- DRP.EVT_LINE1 (RW): as EVT_LINE0 for e = 8 to 15. -/
abbrev DRP_EVT_LINE1 (n : Nat) : Nat := 0x20000 + 0x1000 * n + 0x5c
/-- DRP.EVT_EN (RW): [15:0] bit e enables event e; [31:16] write 0, read 0. -/
abbrev DRP_EVT_EN (n : Nat) : Nat := 0x20000 + 0x1000 * n + 0x60
/-- DRP.NODE_INDEX (RW): [7:0] node address 1 to 128; [31:8] write 0, read 0. -/
abbrev DRP_NODE_INDEX (n : Nat) : Nat := 0x20000 + 0x1000 * n + 0x64
/-- DRP.NODE_D (RO): [17:0] D_i in ticks; [31:18] write 0, read 0. -/
abbrev DRP_NODE_D (n : Nat) : Nat := 0x20000 + 0x1000 * n + 0x68
/-- DRP.NODE_OFS (RO): [17:0] OFFSET_i; [31:18] write 0, read 0. -/
abbrev DRP_NODE_OFS (n : Nat) : Nat := 0x20000 + 0x1000 * n + 0x6c
/-- DRP.NODE_OFS_REV (RO): [17:0] OFFSET_REV_i, 0 without a second end; [31:18] write 0, read 0. -/
abbrev DRP_NODE_OFS_REV (n : Nat) : Nat := 0x20000 + 0x1000 * n + 0x70
/-- DRP.NODE_ID (RO): [7:0] TYPE; [15:8] REP_LAT; [31:16] SERIAL[15:0]. -/
abbrev DRP_NODE_ID (n : Nat) : Nat := 0x20000 + 0x1000 * n + 0x74
/-- DRP.NODE_ST (RO): [15:0] last status word; [16] MISSING; [17] FLIPPED; [31:18] write 0, read 0. -/
abbrev DRP_NODE_ST (n : Nat) : Nat := 0x20000 + 0x1000 * n + 0x78
/-- DRP.NCMD0 (RW): [7:0] ADDR; [15:8] OP, IDENT, READ or WRITE only; [23:16] ARG0; [31:24] ARG1. -/
abbrev DRP_NCMD0 (n : Nat) : Nat := 0x20000 + 0x1000 * n + 0x7c
/-- DRP.NCMD1 (RW): [23:0] ARG2–ARG4; [31:24] write 0, read 0. -/
abbrev DRP_NCMD1 (n : Nat) : Nat := 0x20000 + 0x1000 * n + 0x80
/-- DRP.NRSP0 (RO): [7:0] ADDR; [15:8] CODE; [23:16] DATA0; [31:24] DATA1. -/
abbrev DRP_NRSP0 (n : Nat) : Nat := 0x20000 + 0x1000 * n + 0x84
/-- DRP.NRSP1 (RO): [23:0] DATA2–DATA4; [24] DONE; [25] TIMEOUT; [31:26] write 0, read 0. -/
abbrev DRP_NRSP1 (n : Nat) : Nat := 0x20000 + 0x1000 * n + 0x88
/-- DRP.CRC_ERR (RC): failed sample blocks. -/
abbrev DRP_CRC_ERR (n : Nat) : Nat := 0x20000 + 0x1000 * n + 0x8c
/-- DRP.CW_ERR (RC): invalid code words. -/
abbrev DRP_CW_ERR (n : Nat) : Nat := 0x20000 + 0x1000 * n + 0x90
/-- DRP.LINK_EVT (RC): entries into LINK. -/
abbrev DRP_LINK_EVT (n : Nat) : Nat := 0x20000 + 0x1000 * n + 0x94
/-- DRP.HEALS (RC): splits served from the second end. -/
abbrev DRP_HEALS (n : Nat) : Nat := 0x20000 + 0x1000 * n + 0x98
/-- DRP.RETRAINS (RC): trainings after plan start. -/
abbrev DRP_RETRAINS (n : Nat) : Nat := 0x20000 + 0x1000 * n + 0x9c
/-- DRP.BAD_TAG (RC): node words with a tag not permitted (R235). -/
abbrev DRP_BAD_TAG (n : Nat) : Nat := 0x20000 + 0x1000 * n + 0xa0
/-- DRP.CH_CFGc (RW): port slot c, c = 0 to 31. -/
abbrev DRP_CH_CFG (n i : Nat) : Nat := 0x20000 + 0x1000 * n + 0x100 + 4 * i

/-! ### SHB (R268) -/
/-- SHB.IN_CFG0–IN_CFG3 (RW): SHUT_IN n. -/
abbrev SHB_IN_CFG (i : Nat) : Nat := 0x30040 + 4 * i
/-- SHB.IN_DLY0–IN_DLY3 (RW): [15:0] IN_DLY, signed ticks; [31:16] write 0, read 0. -/
abbrev SHB_IN_DLY (i : Nat) : Nat := 0x30050 + 4 * i
/-- SHB.CMP_EN0–CMP_EN3 (RW): bit i of CMP_ENw enables comparator 32w + i. -/
abbrev SHB_CMP_EN (i : Nat) : Nat := 0x30060 + 4 * i
/-- SHB.CMP_LINE0–CMP_LINE15 (RW): line of comparator 8r + i in [4i+3:4i] of CMP_LINEr. -/
abbrev SHB_CMP_LINE (i : Nat) : Nat := 0x30070 + 4 * i
/-- SHB.LINE_CFG0–LINE_CFG15 (RW): line n. -/
abbrev SHB_LINE_CFG (i : Nat) : Nat := 0x300b0 + 4 * i
/-- SHB.OUT_CFG0–OUT_CFG3 (RW): [0] EN; [1] POL; [3:2] write 0, read 0; [7:4] LINE; [31:8] write 0, read 0. -/
abbrev SHB_OUT_CFG (i : Nat) : Nat := 0x300f0 + 4 * i
/-- SHB.SCHED_ATs (RW): compare value, short time-stamp (R4), s = 0 to 7. -/
abbrev SHB_SCHED_AT (i : Nat) : Nat := 0x30100 + 16 * i
/-- SHB.SCHED_PERs (RW): period in ticks; 0 means a single trigger. -/
abbrev SHB_SCHED_PER (i : Nat) : Nat := 0x30104 + 16 * i
/-- SHB.SCHED_CFGs (RW): scheduler s. -/
abbrev SHB_SCHED_CFG (i : Nat) : Nat := 0x30108 + 16 * i
/-- SHB.SCHED_LEFTs (RO): [15:0] triggers left; 0xFFFF while REPEAT is 1 (R251); [31:16] write 0, read 0. -/
abbrev SHB_SCHED_LEFT (i : Nat) : Nat := 0x3010c + 16 * i
/-- SHB.CMD (WO): host trigger. -/
abbrev SHB_CMD : Nat := 0x30180
/-- SHB.CMD_AT (RW): instant for CMD with AT. -/
abbrev SHB_CMD_AT : Nat := 0x30184
/-- SHB.STAT (RO): [15:0] line states; [19:16] SHUT_IN active; [23:20] STUCK per input; [24] FWD; [31:25] write 0, read 0. -/
abbrev SHB_STAT : Nat := 0x30188
/-- SHB.MERGED (RC): merged triggers (R246). -/
abbrev SHB_MERGED : Nat := 0x3018c
/-- SHB.STUCK_EVT (RC): stuck inputs (R248). -/
abbrev SHB_STUCK_EVT : Nat := 0x30190
/-- SHB.DIVERGE (RC): mismatches on a standby (R265). -/
abbrev SHB_DIVERGE : Nat := 0x30194
/-- SHB.TRIG0–TRIG15 (RC): triggers passed by line n. -/
abbrev SHB_TRIG (i : Nat) : Nat := 0x301a0 + 4 * i

/-! ### SCU (R269) -/
/-- SCU.ARMED (RO): bit u: unit u armed and holding no accepted trigger. -/
abbrev SCU_ARMED : Nat := 0x31040
/-- SCU.BUSY (RO): bit u: trigger accepted, segment incomplete or being copied. -/
abbrev SCU_BUSY : Nat := 0x31044
/-- SCU.BLIND_ALL (RC): blind triggers of all units. -/
abbrev SCU_BLIND_ALL : Nat := 0x31048
/-- SCU.SEGS_ALL (RO): segments completed since plan start, modulo 2^32. -/
abbrev SCU_SEGS_ALL : Nat := 0x3104c
/-- SCU.SGM_CORR (RC): corrected segment memory reads. -/
abbrev SCU_SGM_CORR : Nat := 0x31050
/-- SCU.SGM_UNCORR (RC): uncorrectable segment memory reads. -/
abbrev SCU_SGM_UNCORR : Nat := 0x31054

/-! ### ENV (R270) -/
/-- ENV.CH_INDEX (RW): [9:0] chain channel 0 to 575; [31:10] write 0, read 0. -/
abbrev ENV_CH_INDEX : Nat := 0x32040
/-- ENV.CH_CFG (RW): [15:0] N, 0 means none; [23:16] EPR, envelopes per record; [31:24] write 0, read 0. -/
abbrev ENV_CH_CFG : Nat := 0x32044
/-- ENV.CH_STAT (RO): [15:0] samples in the interval in progress; [23:16] envelopes in the record in progress; [31:24] write 0, read 0. -/
abbrev ENV_CH_STAT : Nat := 0x32048
/-- ENV.RECORDS (RO): ENVELOPE records since plan start, modulo 2^32. -/
abbrev ENV_RECORDS : Nat := 0x3204c

/-! ### SPL (R295) -/
/-- SPL.SPOOL (RW): [5:0] spool for this context's operations; [31:6] write 0, read 0. -/
abbrev SPL_SPOOL : Nat := 0x38040
/-- SPL.POP_CTRL (WO): pop request. -/
abbrev SPL_POP_CTRL : Nat := 0x38044
/-- SPL.MARK_CTRL (WO): lane operation. -/
abbrev SPL_MARK_CTRL : Nat := 0x38048
/-- SPL.POP_STAT (RO): result of the last operation. -/
abbrev SPL_POP_STAT : Nat := 0x3804c
/-- SPL.DESC0–DESC3 (RO): descriptor of the popped item. -/
abbrev SPL_DESC (i : Nat) : Nat := 0x38050 + 4 * i
/-- SPL.HDR0–HDR3 (RO): record header of the popped item. -/
abbrev SPL_HDR (i : Nat) : Nat := 0x38060 + 4 * i
/-- SPL.DATA (RO): next 32-bit data word of the popped item; each read advances; 0 after the end. -/
abbrev SPL_DATA : Nat := 0x38070
/-- SPL.DATA_LEFT (RO): [16:0] data bytes not yet read; [31:17] write 0, read 0. -/
abbrev SPL_DATA_LEFT : Nat := 0x38074
/-- SPL.SPM_CORR (RC): corrected SPM reads. -/
abbrev SPL_SPM_CORR : Nat := 0x38078
/-- SPL.SPM_UNCORR (RC): uncorrectable SPM reads. -/
abbrev SPL_SPM_UNCORR : Nat := 0x3807c
/-- SPL.GAP_ALL (RO): GAP records written since plan start, modulo 2^32. -/
abbrev SPL_GAP_ALL : Nat := 0x38080
/-- SPL.DROP_ALL (RC): items dropped, all lanes. -/
abbrev SPL_DROP_ALL : Nat := 0x38084
/-- SPL.STALE_LO (RO): bit s: spool s has a stale lane, s = 0 to 31. -/
abbrev SPL_STALE_LO : Nat := 0x38088
/-- SPL.STALE_HI (RO): bit s: spool 32 + s has a stale lane. -/
abbrev SPL_STALE_HI : Nat := 0x3808c

/-! ### CMP (R297) -/
/-- CMP.STAT (RO): [0] BUSY; [6:1] SPOOL of the running job; [8:7] LANE; [9] FLUSHED, a job waits at a flush; [31:10] write 0, read 0. -/
abbrev CMP_STAT : Nat := 0x39040
/-- CMP.QUEUE (RO): [8:0] jobs ready; [31:9] write 0, read 0. -/
abbrev CMP_QUEUE : Nat := 0x39044
/-- CMP.JOBS (RO): jobs completed since plan start, modulo 2^32. -/
abbrev CMP_JOBS : Nat := 0x39048
/-- CMP.IN_LO (RO): input bytes [31:0]. -/
abbrev CMP_IN_LO : Nat := 0x3904c
/-- CMP.IN_HI (RO): input bytes [63:32]. -/
abbrev CMP_IN_HI : Nat := 0x39050
/-- CMP.OUT_LO (RO): output bytes of successful jobs [31:0]. -/
abbrev CMP_OUT_LO : Nat := 0x39054
/-- CMP.OUT_HI (RO): [63:32]. -/
abbrev CMP_OUT_HI : Nat := 0x39058
/-- CMP.FAIL_SPACE (RC): R292. -/
abbrev CMP_FAIL_SPACE : Nat := 0x3905c
/-- CMP.FAIL_VERIFY (RC): R291. -/
abbrev CMP_FAIL_VERIFY : Nat := 0x39060
/-- CMP.BYPASS (RC): items below MIN_LEN. -/
abbrev CMP_BYPASS : Nat := 0x39064
/-- CMP.FLUSHES (RC): R290. -/
abbrev CMP_FLUSHES : Nat := 0x39068
/-- CMP.LOAD (RO): [9:0] engine busy over the last 1 s, 0.1 % units; [31:10] write 0, read 0. -/
abbrev CMP_LOAD : Nat := 0x3906c
/-- CMP.MAX_WAIT (RC): longest wait from job ready to job start, ticks. -/
abbrev CMP_MAX_WAIT : Nat := 0x39070

/-! ### LPC (R323) -/
/-- LPC.LOADED (RO): [15:0] bit c: core c holds a program; [31:16] write 0, read 0. -/
abbrev LPC_LOADED : Nat := 0x40040
/-- LPC.BUSY (RO): [15:0] bit c: activation running; [31:16] write 0, read 0. -/
abbrev LPC_BUSY : Nat := 0x40044
/-- LPC.OVR_ALL (RC): OVERRUN events of all cores. -/
abbrev LPC_OVR_ALL : Nat := 0x40048
/-- LPC.ACTS_ALL (RO): activations since plan load, modulo 2^32. -/
abbrev LPC_ACTS_ALL : Nat := 0x4004c

/-! ### ULA and ULB (R378) -/
/-- ULA and ULB.CFG (RW): port settings. -/
abbrev UL_CFG (n : Nat) : Nat := 0x48000 + 0x1000 * n + 0x40
/-- ULA and ULB.VLAN (RW): [11:0] VID; [14:12] PCP; [15] EN; [31:16] write 0, read 0. -/
abbrev UL_VLAN (n : Nat) : Nat := 0x48000 + 0x1000 * n + 0x44
/-- ULA and ULB.STAT (RO): [0] BLOCK_LOCK; [1] FEC_ALIGN; [2] IN_SERVICE (R344); [3] PTP, PTP port bound here; [7:4] bit x: session of context x homed here; [31:8] write 0, read 0. -/
abbrev UL_STAT (n : Nat) : Nat := 0x48000 + 0x1000 * n + 0x48
/-- ULA and ULB.MAC_LO (RO): MAC[31:0] from the identity block. -/
abbrev UL_MAC_LO (n : Nat) : Nat := 0x48000 + 0x1000 * n + 0x4c
/-- ULA and ULB.MAC_HI (RO): [15:0] MAC[47:32]; [31:16] write 0, read 0. -/
abbrev UL_MAC_HI (n : Nat) : Nat := 0x48000 + 0x1000 * n + 0x50
/-- ULA and ULB.SSM (RO): [3:0] quality level code; [4] VALID (R345); [31:5] write 0, read 0. -/
abbrev UL_SSM (n : Nat) : Nat := 0x48000 + 0x1000 * n + 0x54
/-- ULA and ULB.RX_FRAMES (RC): frames received. -/
abbrev UL_RX_FRAMES (n : Nat) : Nat := 0x48000 + 0x1000 * n + 0x58
/-- ULA and ULB.TX_FRAMES (RC): frames sent. -/
abbrev UL_TX_FRAMES (n : Nat) : Nat := 0x48000 + 0x1000 * n + 0x5c
/-- ULA and ULB.RX_FCS (RC): FCS errors. -/
abbrev UL_RX_FCS (n : Nat) : Nat := 0x48000 + 0x1000 * n + 0x60
/-- ULA and ULB.RX_PAUSE (RC): PAUSE frames. -/
abbrev UL_RX_PAUSE (n : Nat) : Nat := 0x48000 + 0x1000 * n + 0x64
/-- ULA and ULB.RX_VLAN (RC): dropped for tagging. -/
abbrev UL_RX_VLAN (n : Nat) : Nat := 0x48000 + 0x1000 * n + 0x68
/-- ULA and ULB.RX_FRAG (RC): IPv4 fragments dropped. -/
abbrev UL_RX_FRAG (n : Nat) : Nat := 0x48000 + 0x1000 * n + 0x6c
/-- ULA and ULB.RX_OPT (RC): IPv4 options dropped. -/
abbrev UL_RX_OPT (n : Nat) : Nat := 0x48000 + 0x1000 * n + 0x70
/-- ULA and ULB.RX_OTHER (RC): other frames dropped (R347, R348, R370). -/
abbrev UL_RX_OTHER (n : Nat) : Nat := 0x48000 + 0x1000 * n + 0x74
/-- ULA and ULB.FEC_CORR (RC): RS-FEC corrected code words. -/
abbrev UL_FEC_CORR (n : Nat) : Nat := 0x48000 + 0x1000 * n + 0x78
/-- ULA and ULB.FEC_UNCORR (RC): RS-FEC uncorrectable code words. -/
abbrev UL_FEC_UNCORR (n : Nat) : Nat := 0x48000 + 0x1000 * n + 0x7c
/-- ULA and ULB.LOAD (RO): [9:0] transmit load over the last 1 s, 0.1 % units; [31:10] write 0, read 0. -/
abbrev UL_LOAD (n : Nat) : Nat := 0x48000 + 0x1000 * n + 0x80
/-- ULA and ULB.OOS_EVT (RC): exits from service. -/
abbrev UL_OOS_EVT (n : Nat) : Nat := 0x48000 + 0x1000 * n + 0x84

/-! ### SLZ (R379) -/
/-- SLZ.CFG (RW): session settings. -/
abbrev SLZ_CFG : Nat := 0x4a040
/-- SLZ.STAT (RO): [3:0] bit x: context x has a session; [7:4] bit x: context x authenticated; [8] ONE_PORT; [9] SHEDDING; [11:10] ROLE; [31:12] write 0, read 0. -/
abbrev SLZ_STAT : Nat := 0x4a044
/-- SLZ.IP_ADDR (RO): IPv4 address in use, first byte in [7:0]. -/
abbrev SLZ_IP_ADDR : Nat := 0x4a048
/-- SLZ.IP_MASK (RO): subnet mask, same order. -/
abbrev SLZ_IP_MASK : Nat := 0x4a04c
/-- SLZ.UDP_PORT (RO): [15:0] Slozon port; [31:16] write 0, read 0. -/
abbrev SLZ_UDP_PORT : Nat := 0x4a050
/-- SLZ.BOOT (RO): boot count (R349). -/
abbrev SLZ_BOOT : Nat := 0x4a054
/-- SLZ.AUTH_FAIL (RC): messages dropped for their tag (R354). -/
abbrev SLZ_AUTH_FAIL : Nat := 0x4a058
/-- SLZ.REPLAY (RC): messages dropped by MSG_SEQ (R353). -/
abbrev SLZ_REPLAY : Nat := 0x4a05c
/-- SLZ.SESS_EXP (RC): sessions expired (R352). -/
abbrev SLZ_SESS_EXP : Nat := 0x4a060
/-- SLZ.BAD_MSG (RC): malformed messages (R349). -/
abbrev SLZ_BAD_MSG : Nat := 0x4a064
/-- SLZ.SHED_LO (RO): bit s: spool s has a shed lane, s = 0 to 31. -/
abbrev SLZ_SHED_LO : Nat := 0x4a068
/-- SLZ.SHED_HI (RO): bit s: spool 32 + s has a shed lane. -/
abbrev SLZ_SHED_HI : Nat := 0x4a06c

/-! ### TTH (R402) -/
/-- TTH.STAT (RO): [2:0] STATE: 0 OFF, 1 TRAINING, 2 UP, 3 ONE_LANE, 4 DOWN; [3] L0_UP; [4] L1_UP; [31:5] write 0, read 0. -/
abbrev TTH_STAT : Nat := 0x4c040
/-- TTH.DELAY (RO): [11:0] one-way delay, ticks (R387); [31:12] write 0, read 0. -/
abbrev TTH_DELAY : Nat := 0x4c044
/-- TTH.LOAD0 (RO): [9:0] lane 0 load over the last 1 s, 0.1 % units; [31:10] write 0, read 0. -/
abbrev TTH_LOAD0 : Nat := 0x4c048
/-- TTH.LOAD1 (RO): [9:0] lane 1 load, same units; [31:10] write 0, read 0. -/
abbrev TTH_LOAD1 : Nat := 0x4c04c
/-- TTH.MSG_ERR (RC): messages discarded (R386). -/
abbrev TTH_MSG_ERR : Nat := 0x4c050
/-- TTH.HB_MISS (RC): tether heartbeats missing. -/
abbrev TTH_HB_MISS : Nat := 0x4c054
/-- TTH.PHB_MISS (RC): PAIR_HB beats missing. -/
abbrev TTH_PHB_MISS : Nat := 0x4c058
/-- TTH.TRAIN_FAIL (RC): training timeouts (R383). -/
abbrev TTH_TRAIN_FAIL : Nat := 0x4c05c
/-- TTH.ONE_LANE_EVT (RC): entries into ONE_LANE (R400). -/
abbrev TTH_ONE_LANE_EVT : Nat := 0x4c060
/-- TTH.PARTNER_IP (RO): partner IPv4 address, first byte in [7:0]. -/
abbrev TTH_PARTNER_IP : Nat := 0x4c064

/-! ### PAI (R403) -/
/-- PAI.CFG (RW): pair options. -/
abbrev PAI_CFG : Nat := 0x4d040
/-- PAI.CMD (WO): [3:0] OP: 0x1 HANDOVER, 0x2 RESYNC; other values dropped with PAI_RANGE; [31:4] write 0, read 0. -/
abbrev PAI_CMD : Nat := 0x4d044
/-- PAI.STAT (RO): [1:0] ROLE: 0 STANDALONE, 1 ACTIVE, 2 STANDBY, 3 DEPOSED; [3:2] SYNC: 0 NONE, 1 JOINING, 2 SYNCING, 3 IN_SYNC; [5:4] PARTNER_ROLE; [6] PARTNER_SEEN; [7] HANDOVER_PEND; [31:8] write 0, read 0. -/
abbrev PAI_STAT : Nat := 0x4d048
/-- PAI.PARTNER_SN_LO (RO): partner serial number [31:0]. -/
abbrev PAI_PARTNER_SN_LO : Nat := 0x4d04c
/-- PAI.PARTNER_SN_HI (RO): [63:32]. -/
abbrev PAI_PARTNER_SN_HI : Nat := 0x4d050
/-- PAI.HEALTH (RO): own checks (R392): [0] RX_DEGRADED, [1] FLD_MISMATCH, [2] TRIG_DIVERGE, [3] CONV_FAIL, [4] NO_SOURCE, [5] LTC_SLIP; [7:6] write 0, read 0; [13:8] channel of the last FLD_MISMATCH; [31:14] write 0, read 0. -/
abbrev PAI_HEALTH : Nat := 0x4d054
/-- PAI.PARTNER_HEALTH (RO): the partner's last HEALTH, same layout. -/
abbrev PAI_PARTNER_HEALTH : Nat := 0x4d058
/-- PAI.RX_MATCH (RO): [15:0] RX_MATCH, 0.1 dB; [31:16] write 0, read 0. -/
abbrev PAI_RX_MATCH : Nat := 0x4d05c
/-- PAI.DIGEST (RO): last digest compared (R391). -/
abbrev PAI_DIGEST : Nat := 0x4d060
/-- PAI.DIGEST_MISS (RC): digest mismatches. -/
abbrev PAI_DIGEST_MISS : Nat := 0x4d064
/-- PAI.TAKEOVERS (RC): takeovers and handovers by this hub. -/
abbrev PAI_TAKEOVERS : Nat := 0x4d068
/-- PAI.LAST_TO_LO (RO): LTC[31:0] of the last takeover. -/
abbrev PAI_LAST_TO_LO : Nat := 0x4d06c
/-- PAI.LAST_TO_HI (RO): LTC[63:32]. -/
abbrev PAI_LAST_TO_HI : Nat := 0x4d070
/-- PAI.RESYNC_PROG (RO): [9:0] point records in sync, 0.1 % units; [10] ZONES; [11] RAMAN; [12] CAPTURE; [13] LOUPE; [31:14] write 0, read 0. -/
abbrev PAI_RESYNC_PROG : Nat := 0x4d074
/-- PAI.PLACEHOLDERS (RO): placeholders held in all lanes. -/
abbrev PAI_PLACEHOLDERS : Nat := 0x4d078
/-- PAI.RESYNCS (RC): resynchronisations begun. -/
abbrev PAI_RESYNCS : Nat := 0x4d07c

/-! ### LN (R341) -/
/-- LN.CFG (RW): lane control. -/
abbrev LN_CFG (n : Nat) : Nat := 0x50000 + 0x1000 * n + 0x40
/-- LN.TX_EQ (RW): transmit equalisation. -/
abbrev LN_TX_EQ (n : Nat) : Nat := 0x50000 + 0x1000 * n + 0x44
/-- LN.STAT (RO): status. -/
abbrev LN_STAT (n : Nat) : Nat := 0x50000 + 0x1000 * n + 0x48
/-- LN.RX_EQ (RO): [3:0] continuous-time equaliser code; [31:4] write 0, read 0. -/
abbrev LN_RX_EQ (n : Nat) : Nat := 0x50000 + 0x1000 * n + 0x4c
/-- LN.EYE (RO): [7:0] height, mV; [15:8] width, 1/64 UI; [31:16] write 0, read 0. -/
abbrev LN_EYE (n : Nat) : Nat := 0x50000 + 0x1000 * n + 0x50
/-- LN.DFE_LO (RO): taps 1 to 4, signed 8-bit, tap t in [8t−1:8t−8]. -/
abbrev LN_DFE_LO (n : Nat) : Nat := 0x50000 + 0x1000 * n + 0x54
/-- LN.DFE_HI (RO): taps 5 to 8, same layout. -/
abbrev LN_DFE_HI (n : Nat) : Nat := 0x50000 + 0x1000 * n + 0x58
/-- LN.PRBS_CFG (RW): test patterns (R329). -/
abbrev LN_PRBS_CFG (n : Nat) : Nat := 0x50000 + 0x1000 * n + 0x5c
/-- LN.PRBS_CMD (WO): [0] INJ1, inject one error; [1] CLR, clear PRBS_ERR and PRBS_BITS; [31:2] write 0, read 0. -/
abbrev LN_PRBS_CMD (n : Nat) : Nat := 0x50000 + 0x1000 * n + 0x60
/-- LN.PRBS_ERR (RC): bit errors, saturating at 0xFFFF_FFFF. -/
abbrev LN_PRBS_ERR (n : Nat) : Nat := 0x50000 + 0x1000 * n + 0x64
/-- LN.PRBS_BITS_LO (RO): bits checked [31:0]. -/
abbrev LN_PRBS_BITS_LO (n : Nat) : Nat := 0x50000 + 0x1000 * n + 0x68
/-- LN.PRBS_BITS_HI (RO): bits checked [63:32]. -/
abbrev LN_PRBS_BITS_HI (n : Nat) : Nat := 0x50000 + 0x1000 * n + 0x6c
/-- LN.LOS_EVT (RC): LOS entries. -/
abbrev LN_LOS_EVT (n : Nat) : Nat := 0x50000 + 0x1000 * n + 0x70
/-- LN.LOL_EVT (RC): losses of lock. -/
abbrev LN_LOL_EVT (n : Nat) : Nat := 0x50000 + 0x1000 * n + 0x74
/-- LN.WIN_EVT (RC): window exits. -/
abbrev LN_WIN_EVT (n : Nat) : Nat := 0x50000 + 0x1000 * n + 0x78

/-! ### MEM (R420) -/
/-- MEM.OWN0–OWN7 (RO): owner of bank 4r + i in [8i+7:8i] of OWNr: 0x00 none, 0x01 Winch, 0x10 + c Loupe core c. -/
abbrev MEM_OWN (i : Nat) : Nat := 0x58040 + 4 * i
/-- MEM.BALLAST (RW): bit b: bank b to Ballast (R407). -/
abbrev MEM_BALLAST : Nat := 0x58060
/-- MEM.RETAINED (RO): bit b: bank b in Ballast. -/
abbrev MEM_RETAINED : Nat := 0x58064
/-- MEM.WAKING (RO): bit b: bank b waking. -/
abbrev MEM_WAKING : Nat := 0x58068
/-- MEM.SCRUB_CFG (RW): [15:0] PERIOD, s; 0 means none; [31:16] write 0, read 0. -/
abbrev MEM_SCRUB_CFG : Nat := 0x5806c
/-- MEM.SCRUB_PASS (RO): scrub passes of scratch since full reset. -/
abbrev MEM_SCRUB_PASS : Nat := 0x58070
/-- MEM.SCM_CORR (RC): corrected scratch reads. -/
abbrev MEM_SCM_CORR : Nat := 0x58074
/-- MEM.SCM_UNCORR (RC): uncorrectable scratch reads. -/
abbrev MEM_SCM_UNCORR : Nat := 0x58078
/-- MEM.LAST_UNCORR (RO): address of the last uncorrectable scratch word. -/
abbrev MEM_LAST_UNCORR : Nat := 0x5807c
/-- MEM.TEST_CFG (RW): memory test settings. -/
abbrev MEM_TEST_CFG : Nat := 0x58080
/-- MEM.TEST_PASS (RO): test passes completed. -/
abbrev MEM_TEST_PASS : Nat := 0x58084
/-- MEM.TEST_ABANDON (RC): blocks abandoned (R412). -/
abbrev MEM_TEST_ABANDON : Nat := 0x58088
/-- MEM.TEST_FAIL (RC): blocks failed. -/
abbrev MEM_TEST_FAIL : Nat := 0x5808c
/-- MEM.TEST_FAIL_ADDR (RO): address of the last failed block. -/
abbrev MEM_TEST_FAIL_ADDR : Nat := 0x58090

/-! ### DKR (R421) -/
/-- DKR.CMD (WO): [3:0] OP: 0x1 WIPE, C0 only; other values dropped with DKR_RANGE; [31:4] write 0, read 0. -/
abbrev DKR_CMD : Nat := 0x59040
/-- DKR.STAT (RO): status. -/
abbrev DKR_STAT : Nat := 0x59044
/-- DKR.USED (RO): [17:0] bytes in use; [31:18] write 0, read 0. -/
abbrev DKR_USED : Nat := 0x59048
/-- DKR.WIPES (RC): wipes since full reset. -/
abbrev DKR_WIPES : Nat := 0x5904c
/-- DKR.WIPE_LTC_LO (RO): LTC[31:0] of the last wipe. -/
abbrev DKR_WIPE_LTC_LO : Nat := 0x59050
/-- DKR.WIPE_LTC_HI (RO): LTC[63:32]. -/
abbrev DKR_WIPE_LTC_HI : Nat := 0x59054

/-! ### TEL (R423) -/
/-- TEL.CFG (RW): telemetry settings. -/
abbrev TEL_CFG : Nat := 0x5a040
/-- TEL.T_CORE (RO): [15:0] core die temperature, as T_CORE; [31:16] write 0, read 0. -/
abbrev TEL_T_CORE : Nat := 0x5a044
/-- TEL.POWER (RO): estimated total power, mW. -/
abbrev TEL_POWER : Nat := 0x5a048
/-- TEL.RAIL_SEL (RW): [3:0] rail 0 to 8, in RAIL order; above 8 dropped with TEL_RANGE; [31:4] write 0, read 0. -/
abbrev TEL_RAIL_SEL : Nat := 0x5a04c
/-- TEL.RAIL_V (RO): [15:0] selected rail, mV; [31:16] write 0, read 0. -/
abbrev TEL_RAIL_V : Nat := 0x5a050
/-- TEL.RECORDS (RO): TELEMETRY records since full reset, modulo 2^32. -/
abbrev TEL_RECORDS : Nat := 0x5a054
/-- TEL.HIST_USED (RO): records held in the history partition. -/
abbrev TEL_HIST_USED : Nat := 0x5a058
/-- TEL.HIST_NEXT (RO): byte offset of the next history write within the partition. -/
abbrev TEL_HIST_NEXT : Nat := 0x5a05c
/-- TEL.UPTIME (RO): s since full reset. -/
abbrev TEL_UPTIME : Nat := 0x5a060

/-! ### SDC (R449) -/
/-- SDC.CFG (RW): [0] WIDE, 4-bit bus; [1] HS, High Speed at 41.25 MHz, else Default Speed at 20.625 MHz; [31:2] write 0, read 0. -/
abbrev SDC_CFG : Nat := 0x5b040
/-- SDC.STAT (RO): [0] PRESENT; [1] READY; [3:2] TYPE: 0 none, 1 SDHC, 2 SDXC, 3 not supported; [4] FAT32; [5] FILE, CX6424.IMG found; [6] HS in use; [7] WIDE in use; [31:8] write 0, read 0. -/
abbrev SDC_STAT : Nat := 0x5b044
/-- SDC.CRC_ERR (RC): command and data CRC errors. -/
abbrev SDC_CRC_ERR : Nat := 0x5b048
/-- SDC.TIMEOUTS (RC): timeouts (R35). -/
abbrev SDC_TIMEOUTS : Nat := 0x5b04c
/-- SDC.INSERTS (RC): card insertions. -/
abbrev SDC_INSERTS : Nat := 0x5b050

/-! ### NVS (R450) -/
/-- NVS.CFG (RW): [15:0] PATROL, hours per patrol pass, 0 means none; [23:16] RES_WARN, %; [31:24] write 0, read 0. -/
abbrev NVS_CFG : Nat := 0x5c040
/-- NVS.STAT (RO): [0] RES_WARN; [1] SETTINGS_RESET (R438); [2] JOURNAL, settings commit in progress; [31:3] write 0, read 0. -/
abbrev NVS_STAT : Nat := 0x5c044
/-- NVS.RESERVE (RO): wear reserve left, KiB. -/
abbrev NVS_RESERVE : Nat := 0x5c048
/-- NVS.ERASE_MAX (RO): highest block erase count. -/
abbrev NVS_ERASE_MAX : Nat := 0x5c04c
/-- NVS.ERASE_MEAN (RO): mean block erase count. -/
abbrev NVS_ERASE_MEAN : Nat := 0x5c050
/-- NVS.RETIRED (RO): blocks retired. -/
abbrev NVS_RETIRED : Nat := 0x5c054
/-- NVS.FLASH_TO (RC): program and erase timeouts (R28). -/
abbrev NVS_FLASH_TO : Nat := 0x5c058
/-- NVS.REFRESHED (RC): blocks rewritten by patrol (R413). -/
abbrev NVS_REFRESHED : Nat := 0x5c05c
/-- NVS.FLOG_BASE (RO): offset of the fault-log partition in the flash window. -/
abbrev NVS_FLOG_BASE : Nat := 0x5c060
/-- NVS.FLOG_HEAD (RO): byte offset of the next entry in the partition. -/
abbrev NVS_FLOG_HEAD : Nat := 0x5c064
/-- NVS.FLOG_COUNT (RO): entries held. -/
abbrev NVS_FLOG_COUNT : Nat := 0x5c068
/-- NVS.SET_FMT (RO): [15:0] settings format version in use; [31:16] write 0, read 0. -/
abbrev NVS_SET_FMT : Nat := 0x5c06c

/-! ### FCH (R196) -/
/-- FCH.CFG (RW): connection, range and excitation. -/
abbrev FCH_CFG (n : Nat) : Nat := 0x100000 + 0x1000 * n + 0x40
/-- FCH.EXC (RW): [11:0] I_UA (R157); [31:12] write 0, read 0. -/
abbrev FCH_EXC (n : Nat) : Nat := 0x100000 + 0x1000 * n + 0x44
/-- FCH.AUTO_CFG (RW): [7:0] DWELL, ticks, 0 means no narrowing; [31:8] write 0, read 0. -/
abbrev FCH_AUTO_CFG (n : Nat) : Nat := 0x100000 + 0x1000 * n + 0x48
/-- FCH.DIAG (RW): [7:0] LOOP_MIN, 0.1 mA units; [15:8] SHORT_OHM, Ω, 0 means none; [31:16] write 0, read 0. -/
abbrev FCH_DIAG (n : Nat) : Nat := 0x100000 + 0x1000 * n + 0x4c
/-- FCH.LIM_CFG (RW): limit comparators. -/
abbrev FCH_LIM_CFG (n : Nat) : Nat := 0x100000 + 0x1000 * n + 0x50
/-- FCH.STAT (RO): status. -/
abbrev FCH_STAT (n : Nat) : Nat := 0x100000 + 0x1000 * n + 0x54
/-- FCH.LAST (RO): last regular result. -/
abbrev FCH_LAST (n : Nat) : Nat := 0x100000 + 0x1000 * n + 0x58
/-- FCH.INJ_STAT (RO): injected conversion status. -/
abbrev FCH_INJ_STAT (n : Nat) : Nat := 0x100000 + 0x1000 * n + 0x5c
/-- FCH.INJ_CODE (RO): [17:0] code; [20:18] range; [31:21] write 0, read 0. -/
abbrev FCH_INJ_CODE (n : Nat) : Nat := 0x100000 + 0x1000 * n + 0x60
/-- FCH.INJ_LTC_LO (RO): LTC[31:0] of the injected hold. -/
abbrev FCH_INJ_LTC_LO (n : Nat) : Nat := 0x100000 + 0x1000 * n + 0x64
/-- FCH.INJ_LTC_HI (RO): LTC[63:32] of the injected hold. -/
abbrev FCH_INJ_LTC_HI (n : Nat) : Nat := 0x100000 + 0x1000 * n + 0x68
/-- FCH.RANGE_CHG (RC): range changes applied. -/
abbrev FCH_RANGE_CHG (n : Nat) : Nat := 0x100000 + 0x1000 * n + 0x6c
/-- FCH.OPEN_EVT (RC): entries into OPEN. -/
abbrev FCH_OPEN_EVT (n : Nat) : Nat := 0x100000 + 0x1000 * n + 0x70
/-- FCH.SHORT_EVT (RC): entries into SHORT. -/
abbrev FCH_SHORT_EVT (n : Nat) : Nat := 0x100000 + 0x1000 * n + 0x74

/-! ### SCUnn (R269) -/
/-- SCUnn.CFG (RW): [1:0] TAP (R252); [7:2] write 0, read 0; [23:8] LINES, bit n selects line n; [24] ARM, live (R258); [31:25] write 0, read 0. -/
abbrev SCUN_CFG (n : Nat) : Nat := 0x140000 + 0x1000 * n + 0x40
/-- SCUnn.SIZE (RW): [10:0] SEG_SIZE, 64-byte units, 0 to 1,024, 0 means unused, above 1,024 dropped with SCU_RANGE; [15:11] write 0, read 0; [31:16] PRE. -/
abbrev SCUN_SIZE (n : Nat) : Nat := 0x140000 + 0x1000 * n + 0x44
/-- SCUnn.SEL (RW): [18:0] FIRST; [23:19] write 0, read 0; [30:24] NUM, 0 means none; [31] write 0, read 0. -/
abbrev SCUN_SEL (n : Nat) : Nat := 0x140000 + 0x1000 * n + 0x48
/-- SCUnn.REF (RW): [18:0] P_REF; [31:19] write 0, read 0. -/
abbrev SCUN_REF (n : Nat) : Nat := 0x140000 + 0x1000 * n + 0x4c
/-- SCUnn.STAT (RO): [1:0] STATE: 0b00 unused, 0b01 armed, 0b10 accepted, 0b11 disarmed; [2] SHORT_PRE and [3] LATE of the last segment; [31:4] write 0, read 0. -/
abbrev SCUN_STAT (n : Nat) : Nat := 0x140000 + 0x1000 * n + 0x50
/-- SCUnn.CAP (RO): [13:0] C, 1 to 16,372; [31:14] NBUF, up to 196,608; both set at plan load. -/
abbrev SCUN_CAP (n : Nat) : Nat := 0x140000 + 0x1000 * n + 0x54
/-- SCUnn.SEGS (RO): segments completed since plan start. -/
abbrev SCUN_SEGS (n : Nat) : Nat := 0x140000 + 0x1000 * n + 0x58
/-- SCUnn.BLIND (RC): blind triggers (R256). -/
abbrev SCUN_BLIND (n : Nat) : Nat := 0x140000 + 0x1000 * n + 0x5c
/-- SCUnn.DEAD_LO (RO): dead time [31:0], ticks. -/
abbrev SCUN_DEAD_LO (n : Nat) : Nat := 0x140000 + 0x1000 * n + 0x60
/-- SCUnn.DEAD_HI (RO): dead time [63:32]. -/
abbrev SCUN_DEAD_HI (n : Nat) : Nat := 0x140000 + 0x1000 * n + 0x64
/-- SCUnn.ARM_AT (RO): LTC[31:0] of a_k. -/
abbrev SCUN_ARM_AT (n : Nat) : Nat := 0x140000 + 0x1000 * n + 0x68
/-- SCUnn.LAST_TRIG (RO): LTC[31:0] of the last accepted instant. -/
abbrev SCUN_LAST_TRIG (n : Nat) : Nat := 0x140000 + 0x1000 * n + 0x6c
/-- SCUnn.LAST_BUF (RO): address of the last completed buffer (R260). -/
abbrev SCUN_LAST_BUF (n : Nat) : Nat := 0x140000 + 0x1000 * n + 0x70
/-- SCUnn.LAST_ROT (RO): [15:0] ring slot of its oldest item; [31:16] write 0, read 0. -/
abbrev SCUN_LAST_ROT (n : Nat) : Nat := 0x140000 + 0x1000 * n + 0x74
/-- SCUnn.IGNORED (RC): triggers while disarmed (R258). -/
abbrev SCUN_IGNORED (n : Nat) : Nat := 0x140000 + 0x1000 * n + 0x78

/-! ### SPLnn (R296) -/
/-- SPLnn.CFG (RW): spool settings. -/
abbrev SPLN_CFG (n : Nat) : Nat := 0x160000 + 0x1000 * n + 0x40
/-- SPLnn.STAT (RO): spool status. -/
abbrev SPLN_STAT (n : Nat) : Nat := 0x160000 + 0x1000 * n + 0x44
/-- SPLnn.BASE (RO): byte offset of the lane's region in SPM. -/
abbrev SPLN_BASE (n i : Nat) : Nat := 0x160000 + 0x1000 * n + 0x80 + 64 * i
/-- SPLnn.SIZE (RO): region bytes; 0 means none. -/
abbrev SPLN_SIZE (n i : Nat) : Nat := 0x160000 + 0x1000 * n + 0x84 + 64 * i
/-- SPLnn.LINES (RO): [15:0] subscribed shutter lines; [31:16] write 0, read 0. -/
abbrev SPLN_LINES (n i : Nat) : Nat := 0x160000 + 0x1000 * n + 0x88 + 64 * i
/-- SPLnn.STALE_CFG (RW): [15:0] STALE, ms, 0 means none, live; [31:16] write 0, read 0. -/
abbrev SPLN_STALE_CFG (n i : Nat) : Nat := 0x160000 + 0x1000 * n + 0x8c + 64 * i
/-- SPLnn.DEPTH (RO): [19:0] visible unread items; [31:20] write 0, read 0. -/
abbrev SPLN_DEPTH (n i : Nat) : Nat := 0x160000 + 0x1000 * n + 0x90 + 64 * i
/-- SPLnn.USED (RO): bytes held from REL_NO to WR_NO. -/
abbrev SPLN_USED (n i : Nat) : Nat := 0x160000 + 0x1000 * n + 0x94 + 64 * i
/-- SPLnn.WR_NO (RO): next item number to be accepted. -/
abbrev SPLN_WR_NO (n i : Nat) : Nat := 0x160000 + 0x1000 * n + 0x98 + 64 * i
/-- SPLnn.RD_NO (RO): next item number to be read. -/
abbrev SPLN_RD_NO (n i : Nat) : Nat := 0x160000 + 0x1000 * n + 0x9c + 64 * i
/-- SPLnn.MARK_NO (RO): mark. -/
abbrev SPLN_MARK_NO (n i : Nat) : Nat := 0x160000 + 0x1000 * n + 0xa0 + 64 * i
/-- SPLnn.REL_NO (RO): first unreleased item. -/
abbrev SPLN_REL_NO (n i : Nat) : Nat := 0x160000 + 0x1000 * n + 0xa4 + 64 * i
/-- SPLnn.DROPS (RC): items dropped. -/
abbrev SPLN_DROPS (n i : Nat) : Nat := 0x160000 + 0x1000 * n + 0xa8 + 64 * i
/-- SPLnn.GAPS (RC): GAP records written. -/
abbrev SPLN_GAPS (n i : Nat) : Nat := 0x160000 + 0x1000 * n + 0xac + 64 * i
/-- SPLnn.LOST_BYTES (RC): stored bytes dropped. -/
abbrev SPLN_LOST_BYTES (n i : Nat) : Nat := 0x160000 + 0x1000 * n + 0xb0 + 64 * i

/-! ### LPE (R324) -/
/-- LPE.ENTRY (RW): [13:0] activation entry; [31:14] write 0, read 0. -/
abbrev LPE_ENTRY (n : Nat) : Nat := 0x1a0000 + 0x1000 * n + 0x40
/-- LPE.IVEC (RW): [13:0] interrupt vector; [31:14] write 0, read 0. -/
abbrev LPE_IVEC (n : Nat) : Nat := 0x1a0000 + 0x1000 * n + 0x44
/-- LPE.BUD_ZONE (RW): [23:0] zone budget, cycles; 0 means source off; [31:24] write 0, read 0. -/
abbrev LPE_BUD_ZONE (n : Nat) : Nat := 0x1a0000 + 0x1000 * n + 0x48
/-- LPE.BUD_CHAN (RW): [23:0] channel budget; as BUD_ZONE. -/
abbrev LPE_BUD_CHAN (n : Nat) : Nat := 0x1a0000 + 0x1000 * n + 0x4c
/-- LPE.BUD_TMR (RW): [23:0] timer budget; as BUD_ZONE. -/
abbrev LPE_BUD_TMR (n : Nat) : Nat := 0x1a0000 + 0x1000 * n + 0x50
/-- LPE.QBASE (RW): [16:0] queue offset in data memory, multiple of 16; [31:17] write 0, read 0. -/
abbrev LPE_QBASE (n : Nat) : Nat := 0x1a0000 + 0x1000 * n + 0x54
/-- LPE.QSIZE (RW): [17:0] queue bytes; 0 means no queue; [31:18] write 0, read 0. -/
abbrev LPE_QSIZE (n : Nat) : Nat := 0x1a0000 + 0x1000 * n + 0x58
/-- LPE.TPER (RW): timer period in ticks; 0 means none. -/
abbrev LPE_TPER (n : Nat) : Nat := 0x1a0000 + 0x1000 * n + 0x5c
/-- LPE.CHAN_BLK (RW): [8:0] BLK, 1 to 256; 0 means none; above 256 dropped with LPE_RANGE; [31:9] write 0, read 0. -/
abbrev LPE_CHAN_BLK (n : Nat) : Nat := 0x1a0000 + 0x1000 * n + 0x60
/-- LPE.CHAN_SEL0–CHAN_SEL7 (RW): [9:0] chain channel; [14:10] write 0, read 0; [15] EN; [31:16] write 0, read 0. -/
abbrev LPE_CHAN_SEL (n i : Nat) : Nat := 0x1a0000 + 0x1000 * n + 0x64 + 4 * i
/-- LPE.RMAX (RO): [13:0] L_rep in cycles, set at plan load; [31:14] write 0, read 0. -/
abbrev LPE_RMAX (n : Nat) : Nat := 0x1a0000 + 0x1000 * n + 0x84
/-- LPE.INT_LAT (RO): [13:0] 20 + L_rep (R315); [31:14] write 0, read 0. -/
abbrev LPE_INT_LAT (n : Nat) : Nat := 0x1a0000 + 0x1000 * n + 0x88
/-- LPE.STAT (RO): [0] BUSY; [1] WAITING; [2] IN_IRQ; [3] STALLED; [6:4] last CAUSE; [15:7] write 0, read 0; [31:16] queued items. -/
abbrev LPE_STAT (n : Nat) : Nat := 0x1a0000 + 0x1000 * n + 0xc0
/-- LPE.ACTS (RO): activations since plan load, modulo 2^32. -/
abbrev LPE_ACTS (n : Nat) : Nat := 0x1a0000 + 0x1000 * n + 0xc4
/-- LPE.OVERRUNS (RC): OVERRUN events of any cause. -/
abbrev LPE_OVERRUNS (n : Nat) : Nat := 0x1a0000 + 0x1000 * n + 0xc8
/-- LPE.LAST_PC (RO): [13:0] PC of the last OVERRUN; [31:14] write 0, read 0. -/
abbrev LPE_LAST_PC (n : Nat) : Nat := 0x1a0000 + 0x1000 * n + 0xcc
/-- LPE.CYC_MAX (RC): largest CYC at an END. -/
abbrev LPE_CYC_MAX (n : Nat) : Nat := 0x1a0000 + 0x1000 * n + 0xd0
/-- LPE.QMAX (RC): largest queue fill, bytes. -/
abbrev LPE_QMAX (n : Nat) : Nat := 0x1a0000 + 0x1000 * n + 0xd4
/-- LPE.LAT_MAX (RC): longest interrupt latency, cycles. -/
abbrev LPE_LAT_MAX (n : Nat) : Nat := 0x1a0000 + 0x1000 * n + 0xd8
/-- LPE.STALL (RC): memory-test stall cycles (R317). -/
abbrev LPE_STALL (n : Nat) : Nat := 0x1a0000 + 0x1000 * n + 0xdc
/-- LPE.EMITS (RO): events pushed since plan load, modulo 2^32. -/
abbrev LPE_EMITS (n : Nat) : Nat := 0x1a0000 + 0x1000 * n + 0xe0
/-- LPE.QDROP (RC): items dropped at a full queue (R309). -/
abbrev LPE_QDROP (n : Nat) : Nat := 0x1a0000 + 0x1000 * n + 0xe4
/-- LPE.LOAD (RO): [9:0] busy over the last 1 s, 0.1 % units; [31:10] write 0, read 0. -/
abbrev LPE_LOAD (n : Nat) : Nat := 0x1a0000 + 0x1000 * n + 0xe8

end Sys2Proof.Reg

namespace Sys2Proof.Fd
/-- SYS.STAT.READY, 1 bit(s) from bit 0. -/
abbrev SYS_STAT_READY : Fld := ⟨0, 1⟩
/-- SYS.STAT.SAFELIGHT, 1 bit(s) from bit 1. -/
abbrev SYS_STAT_SAFELIGHT : Fld := ⟨1, 1⟩
/-- SYS.STAT.TRIAL, 1 bit(s) from bit 2. -/
abbrev SYS_STAT_TRIAL : Fld := ⟨2, 1⟩
/-- SYS.STAT.PFW_PARK, 1 bit(s) from bit 3. -/
abbrev SYS_STAT_PFW_PARK : Fld := ⟨3, 1⟩
/-- SYS.STAT.STRAP_MGMT, 2 bit(s) from bit 4. -/
abbrev SYS_STAT_STRAP_MGMT : Fld := ⟨4, 2⟩
/-- SYS.STAT.STRAP_PAIR, 1 bit(s) from bit 6. -/
abbrev SYS_STAT_STRAP_PAIR : Fld := ⟨6, 1⟩
/-- SYS.STAT.STRAP_ERR, 1 bit(s) from bit 7. -/
abbrev SYS_STAT_STRAP_ERR : Fld := ⟨7, 1⟩
/-- SYS.CMD.OP, 4 bit(s) from bit 0. -/
abbrev SYS_CMD_OP : Fld := ⟨0, 4⟩
/-- CLK.CFG.REVERT, 1 bit(s) from bit 0. -/
abbrev CLK_CFG_REVERT : Fld := ⟨0, 1⟩
/-- CLK.CFG.AUTO_GATE, 1 bit(s) from bit 1. -/
abbrev CLK_CFG_AUTO_GATE : Fld := ⟨1, 1⟩
/-- CLK.CFG.TOL, 8 bit(s) from bit 8. -/
abbrev CLK_CFG_TOL : Fld := ⟨8, 8⟩
/-- CLK.CFG.REVERT_HOLD, 8 bit(s) from bit 16. -/
abbrev CLK_CFG_REVERT_HOLD : Fld := ⟨16, 8⟩
/-- CLK.PRIO.FIRST, 2 bit(s) from bit 0. -/
abbrev CLK_PRIO_FIRST : Fld := ⟨0, 2⟩
/-- CLK.PRIO.SECOND, 2 bit(s) from bit 2. -/
abbrev CLK_PRIO_SECOND : Fld := ⟨2, 2⟩
/-- CLK.PRIO.THIRD, 2 bit(s) from bit 4. -/
abbrev CLK_PRIO_THIRD : Fld := ⟨4, 2⟩
/-- CLK.CMD.OP, 4 bit(s) from bit 0. -/
abbrev CLK_CMD_OP : Fld := ⟨0, 4⟩
/-- CLK.CMD.SRC, 2 bit(s) from bit 4. -/
abbrev CLK_CMD_SRC : Fld := ⟨4, 2⟩
/-- CLK.STAT.SEL, 2 bit(s) from bit 0. -/
abbrev CLK_STAT_SEL : Fld := ⟨0, 2⟩
/-- CLK.STAT.VALID, 1 bit(s) from bit 2. -/
abbrev CLK_STAT_VALID : Fld := ⟨2, 1⟩
/-- CLK.STAT.STATE, 3 bit(s) from bit 4. -/
abbrev CLK_STAT_STATE : Fld := ⟨4, 3⟩
/-- CLK.STAT.READY, 3 bit(s) from bit 8. -/
abbrev CLK_STAT_READY : Fld := ⟨8, 3⟩
/-- CLK.STAT.SW_TIMEOUT, 1 bit(s) from bit 11. -/
abbrev CLK_STAT_SW_TIMEOUT : Fld := ⟨11, 1⟩
/-- CLK.STAT.TETHER_LOOP, 1 bit(s) from bit 12. -/
abbrev CLK_STAT_TETHER_LOOP : Fld := ⟨12, 1⟩
/-- CLK.GATE_PEND.GATE0, 1 bit(s) from bit 0. -/
abbrev CLK_GATE_PEND_GATE0 : Fld := ⟨0, 1⟩
/-- CLK.GATE_PEND.GATE1, 1 bit(s) from bit 1. -/
abbrev CLK_GATE_PEND_GATE1 : Fld := ⟨1, 1⟩
/-- CLK.GATE_PEND.GATE2, 1 bit(s) from bit 2. -/
abbrev CLK_GATE_PEND_GATE2 : Fld := ⟨2, 1⟩
/-- PWR.STAT.PFW, 1 bit(s) from bit 9. -/
abbrev PWR_STAT_PFW : Fld := ⟨9, 1⟩
/-- PWR.STAT.COMMITTED, 1 bit(s) from bit 10. -/
abbrev PWR_STAT_COMMITTED : Fld := ⟨10, 1⟩
/-- PWR.CFG.RESUME_MS, 8 bit(s) from bit 0. -/
abbrev PWR_CFG_RESUME_MS : Fld := ⟨0, 8⟩
/-- PLN.CMD.OP, 4 bit(s) from bit 0. -/
abbrev PLN_CMD_OP : Fld := ⟨0, 4⟩
/-- PLN.CMD.SLOT, 1 bit(s) from bit 8. -/
abbrev PLN_CMD_SLOT : Fld := ⟨8, 1⟩
/-- PLN.CMD.AT, 1 bit(s) from bit 9. -/
abbrev PLN_CMD_AT : Fld := ⟨9, 1⟩
/-- PLN.CFG.KEEP_LIVE, 1 bit(s) from bit 0. -/
abbrev PLN_CFG_KEEP_LIVE : Fld := ⟨0, 1⟩
/-- PLN.SLOT_A_STATE.STATE, 4 bit(s) from bit 0. -/
abbrev PLN_SLOT_A_STATE_STATE : Fld := ⟨0, 4⟩
/-- PLN.SLOT_B_STATE.STATE, 4 bit(s) from bit 0. -/
abbrev PLN_SLOT_B_STATE_STATE : Fld := ⟨0, 4⟩
/-- PLN.ACTIVE.SLOT, 1 bit(s) from bit 0. -/
abbrev PLN_ACTIVE_SLOT : Fld := ⟨0, 1⟩
/-- PLN.ACTIVE.VALID, 1 bit(s) from bit 1. -/
abbrev PLN_ACTIVE_VALID : Fld := ⟨1, 1⟩
/-- PLN.ACTIVE.SWITCH_PEND, 1 bit(s) from bit 2. -/
abbrev PLN_ACTIVE_SWITCH_PEND : Fld := ⟨2, 1⟩
/-- PLN.RESULT.CODE, 16 bit(s) from bit 0. -/
abbrev PLN_RESULT_CODE : Fld := ⟨0, 16⟩
/-- PLN.RESULT.SECTION, 4 bit(s) from bit 16. -/
abbrev PLN_RESULT_SECTION : Fld := ⟨16, 4⟩
/-- MNT.CFG.AGE, 8 bit(s) from bit 0. -/
abbrev MNT_CFG_AGE : Fld := ⟨0, 8⟩
/-- MNT.CFG.EN, 7 bit(s) from bit 8. -/
abbrev MNT_CFG_EN : Fld := ⟨8, 7⟩
/-- MNT.CMD.OP, 4 bit(s) from bit 0. -/
abbrev MNT_CMD_OP : Fld := ⟨0, 4⟩
/-- MNT.CMD.CLASS, 3 bit(s) from bit 4. -/
abbrev MNT_CMD_CLASS : Fld := ⟨4, 3⟩
/-- SEC.CMD.OP, 4 bit(s) from bit 0. -/
abbrev SEC_CMD_OP : Fld := ⟨0, 4⟩
/-- SEC.CMD.SLOT, 3 bit(s) from bit 4. -/
abbrev SEC_CMD_SLOT : Fld := ⟨4, 3⟩
/-- SEC.KEY_STAT.PLAN, 1 bit(s) from bit 0. -/
abbrev SEC_KEY_STAT_PLAN : Fld := ⟨0, 1⟩
/-- SEC.KEY_STAT.UPDATE, 1 bit(s) from bit 5. -/
abbrev SEC_KEY_STAT_UPDATE : Fld := ⟨5, 1⟩
/-- SEC.TAMPER_SRC.GLITCH, 1 bit(s) from bit 0. -/
abbrev SEC_TAMPER_SRC_GLITCH : Fld := ⟨0, 1⟩
/-- SEC.TAMPER_SRC.MESH, 1 bit(s) from bit 1. -/
abbrev SEC_TAMPER_SRC_MESH : Fld := ⟨1, 1⟩
/-- SEC.TAMPER_SRC.OVERTEMP, 1 bit(s) from bit 2. -/
abbrev SEC_TAMPER_SRC_OVERTEMP : Fld := ⟨2, 1⟩
/-- UPD.CMD.OP, 4 bit(s) from bit 0. -/
abbrev UPD_CMD_OP : Fld := ⟨0, 4⟩
/-- UPD.CMD.BANK, 1 bit(s) from bit 4. -/
abbrev UPD_CMD_BANK : Fld := ⟨4, 1⟩
/-- UPD.CMD.USE_BANK, 1 bit(s) from bit 5. -/
abbrev UPD_CMD_USE_BANK : Fld := ⟨5, 1⟩
/-- UPD.CFG.AUTO_S, 16 bit(s) from bit 0. -/
abbrev UPD_CFG_AUTO_S : Fld := ⟨0, 16⟩
/-- UPD.STAT.STAGE, 4 bit(s) from bit 0. -/
abbrev UPD_STAT_STAGE : Fld := ⟨0, 4⟩
/-- UPD.STAT.RUN_BANK, 1 bit(s) from bit 4. -/
abbrev UPD_STAT_RUN_BANK : Fld := ⟨4, 1⟩
/-- UPD.STAT.TRIAL, 1 bit(s) from bit 5. -/
abbrev UPD_STAT_TRIAL : Fld := ⟨5, 1⟩
/-- UPD.STAT.TRIALS, 2 bit(s) from bit 6. -/
abbrev UPD_STAT_TRIALS : Fld := ⟨6, 2⟩
/-- UPD.STAT.FALLBACK, 1 bit(s) from bit 8. -/
abbrev UPD_STAT_FALLBACK : Fld := ⟨8, 1⟩
/-- UPD.PROGRESS.BLOCKS, 6 bit(s) from bit 8. -/
abbrev UPD_PROGRESS_BLOCKS : Fld := ⟨8, 6⟩
/-- TIM.CFG.DOMAIN, 8 bit(s) from bit 0. -/
abbrev TIM_CFG_DOMAIN : Fld := ⟨0, 8⟩
/-- TIM.CFG.PTP_PORT, 2 bit(s) from bit 8. -/
abbrev TIM_CFG_PTP_PORT : Fld := ⟨8, 2⟩
/-- TIM.CFG.ANN_TO, 4 bit(s) from bit 10. -/
abbrev TIM_CFG_ANN_TO : Fld := ⟨10, 4⟩
/-- TIM.CFG.SLEW_MAX, 8 bit(s) from bit 16. -/
abbrev TIM_CFG_SLEW_MAX : Fld := ⟨16, 8⟩
/-- TIM.UPD.UPD_MS, 16 bit(s) from bit 0. -/
abbrev TIM_UPD_UPD_MS : Fld := ⟨0, 16⟩
/-- TIM.CMD.OP, 4 bit(s) from bit 0. -/
abbrev TIM_CMD_OP : Fld := ⟨0, 4⟩
/-- TIM.STAT.STATE, 2 bit(s) from bit 0. -/
abbrev TIM_STAT_STATE : Fld := ⟨0, 2⟩
/-- TIM.STAT.MASTER, 1 bit(s) from bit 2. -/
abbrev TIM_STAT_MASTER : Fld := ⟨2, 1⟩
/-- TIM.STAT.SLEWING, 1 bit(s) from bit 3. -/
abbrev TIM_STAT_SLEWING : Fld := ⟨3, 1⟩
/-- TIM.STAT.RESTEP_PEND, 1 bit(s) from bit 4. -/
abbrev TIM_STAT_RESTEP_PEND : Fld := ⟨4, 1⟩
/-- TIM.STAT.PORT, 1 bit(s) from bit 5. -/
abbrev TIM_STAT_PORT : Fld := ⟨5, 1⟩
/-- CTX.WHO.STRAP_ERR, 1 bit(s) from bit 4. -/
abbrev CTX_WHO_STRAP_ERR : Fld := ⟨4, 1⟩
/-- CTX.MASK_SEL.GROUP, 5 bit(s) from bit 0. -/
abbrev CTX_MASK_SEL_GROUP : Fld := ⟨0, 5⟩
/-- OFE.HEAD_CFG.ILK_AUTO, 1 bit(s) from bit 0. -/
abbrev OFE_HEAD_CFG_ILK_AUTO : Fld := ⟨0, 1⟩
/-- OFE.HEAD_CFG.HSPI_CHK, 1 bit(s) from bit 1. -/
abbrev OFE_HEAD_CFG_HSPI_CHK : Fld := ⟨1, 1⟩
/-- OFE.HEAD_CFG.HSPI_MODE, 2 bit(s) from bit 2. -/
abbrev OFE_HEAD_CFG_HSPI_MODE : Fld := ⟨2, 2⟩
/-- OFE.HEAD_CFG.HSPI_DIV, 8 bit(s) from bit 8. -/
abbrev OFE_HEAD_CFG_HSPI_DIV : Fld := ⟨8, 8⟩
/-- OFE.HEAD_DELAY.DELAY, 16 bit(s) from bit 0. -/
abbrev OFE_HEAD_DELAY_DELAY : Fld := ⟨0, 16⟩
/-- OFE.WAVE_SEL.SLOT0, 4 bit(s) from bit 0. -/
abbrev OFE_WAVE_SEL_SLOT0 : Fld := ⟨0, 4⟩
/-- OFE.WAVE_SEL.SLOT1, 4 bit(s) from bit 4. -/
abbrev OFE_WAVE_SEL_SLOT1 : Fld := ⟨4, 4⟩
/-- OFE.WAVE_SEL.SLOT2, 4 bit(s) from bit 8. -/
abbrev OFE_WAVE_SEL_SLOT2 : Fld := ⟨8, 4⟩
/-- OFE.WAVE_SEL.SLOT3, 4 bit(s) from bit 12. -/
abbrev OFE_WAVE_SEL_SLOT3 : Fld := ⟨12, 4⟩
/-- OFE.DAC_FS.FS, 10 bit(s) from bit 0. -/
abbrev OFE_DAC_FS_FS : Fld := ⟨0, 10⟩
/-- OFE.RMN_TRIG.LEAD, 16 bit(s) from bit 0. -/
abbrev OFE_RMN_TRIG_LEAD : Fld := ⟨0, 16⟩
/-- OFE.RMN_TRIG.WIDTH, 8 bit(s) from bit 16. -/
abbrev OFE_RMN_TRIG_WIDTH : Fld := ⟨16, 8⟩
/-- OFE.RECAL_CFG.DT, 8 bit(s) from bit 0. -/
abbrev OFE_RECAL_CFG_DT : Fld := ⟨0, 8⟩
/-- OFE.RECAL_CFG.PERIOD, 16 bit(s) from bit 8. -/
abbrev OFE_RECAL_CFG_PERIOD : Fld := ⟨8, 16⟩
/-- OFE.WAVE_DIR.START, 16 bit(s) from bit 0. -/
abbrev OFE_WAVE_DIR_START : Fld := ⟨0, 16⟩
/-- OFE.WAVE_DIR.LEN, 16 bit(s) from bit 16. -/
abbrev OFE_WAVE_DIR_LEN : Fld := ⟨16, 16⟩
/-- OFE.CMD.OP, 4 bit(s) from bit 0. -/
abbrev OFE_CMD_OP : Fld := ⟨0, 4⟩
/-- OFE.STAT.ILK, 1 bit(s) from bit 0. -/
abbrev OFE_STAT_ILK : Fld := ⟨0, 1⟩
/-- OFE.STAT.LAS_EN, 1 bit(s) from bit 1. -/
abbrev OFE_STAT_LAS_EN : Fld := ⟨1, 1⟩
/-- OFE.STAT.LAS_READY, 1 bit(s) from bit 2. -/
abbrev OFE_STAT_LAS_READY : Fld := ⟨2, 1⟩
/-- OFE.STAT.LAUNCH, 1 bit(s) from bit 3. -/
abbrev OFE_STAT_LAUNCH : Fld := ⟨3, 1⟩
/-- OFE.STAT.CAL_BUSY, 1 bit(s) from bit 4. -/
abbrev OFE_STAT_CAL_BUSY : Fld := ⟨4, 1⟩
/-- OFE.STAT.CAL_PEND, 1 bit(s) from bit 5. -/
abbrev OFE_STAT_CAL_PEND : Fld := ⟨5, 1⟩
/-- OFE.STAT.HSPI_BUSY, 1 bit(s) from bit 6. -/
abbrev OFE_STAT_HSPI_BUSY : Fld := ⟨6, 1⟩
/-- OFE.STAT.SCRIPT_OK, 1 bit(s) from bit 7. -/
abbrev OFE_STAT_SCRIPT_OK : Fld := ⟨7, 1⟩
/-- OFE.STAT.RX_STUCK, 1 bit(s) from bit 8. -/
abbrev OFE_STAT_RX_STUCK : Fld := ⟨8, 1⟩
/-- OFE.STAT.RAMAN_STUCK, 1 bit(s) from bit 9. -/
abbrev OFE_STAT_RAMAN_STUCK : Fld := ⟨9, 1⟩
/-- OFE.STAT.OSW_SEL, 1 bit(s) from bit 10. -/
abbrev OFE_STAT_OSW_SEL : Fld := ⟨10, 1⟩
/-- OFE.STAT.LAS_HELD, 1 bit(s) from bit 11. -/
abbrev OFE_STAT_LAS_HELD : Fld := ⟨11, 1⟩
/-- OFE.HSPI_LEN.TX_LEN, 6 bit(s) from bit 0. -/
abbrev OFE_HSPI_LEN_TX_LEN : Fld := ⟨0, 6⟩
/-- OFE.HSPI_LEN.RX_LEN, 6 bit(s) from bit 8. -/
abbrev OFE_HSPI_LEN_RX_LEN : Fld := ⟨8, 6⟩
/-- OFE.HSPI_RESULT.STATUS, 2 bit(s) from bit 0. -/
abbrev OFE_HSPI_RESULT_STATUS : Fld := ⟨0, 2⟩
/-- OFE.HSPI_RESULT.ATTEMPTS, 2 bit(s) from bit 2. -/
abbrev OFE_HSPI_RESULT_ATTEMPTS : Fld := ⟨2, 2⟩
/-- OFE.HSPI_RESULT.DONE, 1 bit(s) from bit 4. -/
abbrev OFE_HSPI_RESULT_DONE : Fld := ⟨4, 1⟩
/-- OFE.ELEM_RX.XI, 8 bit(s) from bit 0. -/
abbrev OFE_ELEM_RX_XI : Fld := ⟨0, 8⟩
/-- OFE.ELEM_RX.XQ, 8 bit(s) from bit 8. -/
abbrev OFE_ELEM_RX_XQ : Fld := ⟨8, 8⟩
/-- OFE.ELEM_RX.YI, 8 bit(s) from bit 16. -/
abbrev OFE_ELEM_RX_YI : Fld := ⟨16, 8⟩
/-- OFE.ELEM_RX.YQ, 8 bit(s) from bit 24. -/
abbrev OFE_ELEM_RX_YQ : Fld := ⟨24, 8⟩
/-- FEN.CFG.MODE, 2 bit(s) from bit 0. -/
abbrev FEN_CFG_MODE : Fld := ⟨0, 2⟩
/-- FEN.CFG.GAUGE, 7 bit(s) from bit 4. -/
abbrev FEN_CFG_GAUGE : Fld := ⟨4, 7⟩
/-- FEN.CFG.KSEL, 2 bit(s) from bit 12. -/
abbrev FEN_CFG_KSEL : Fld := ⟨12, 2⟩
/-- FEN.CFG.POL_W, 4 bit(s) from bit 16. -/
abbrev FEN_CFG_POL_W : Fld := ⟨16, 4⟩
/-- FEN.POINTS.N, 19 bit(s) from bit 0. -/
abbrev FEN_POINTS_N : Fld := ⟨0, 19⟩
/-- FEN.MF_CFG.TAPS, 9 bit(s) from bit 0. -/
abbrev FEN_MF_CFG_TAPS : Fld := ⟨0, 9⟩
/-- FEN.MF_CFG.SHIFT, 4 bit(s) from bit 12. -/
abbrev FEN_MF_CFG_SHIFT : Fld := ⟨12, 4⟩
/-- FEN.RVS_CFG.BETA, 4 bit(s) from bit 0. -/
abbrev FEN_RVS_CFG_BETA : Fld := ⟨0, 4⟩
/-- FEN.FADE_CFG.THR, 8 bit(s) from bit 0. -/
abbrev FEN_FADE_CFG_THR : Fld := ⟨0, 8⟩
/-- FEN.PB_CFG.BLOCK, 14 bit(s) from bit 0. -/
abbrev FEN_PB_CFG_BLOCK : Fld := ⟨0, 14⟩
/-- FEN.PB_CFG.DECIM_EXP, 4 bit(s) from bit 16. -/
abbrev FEN_PB_CFG_DECIM_EXP : Fld := ⟨16, 4⟩
/-- FEN.STAT.ACTIVE, 1 bit(s) from bit 0. -/
abbrev FEN_STAT_ACTIVE : Fld := ⟨0, 1⟩
/-- FEN.STAT.LAST_DARK, 1 bit(s) from bit 1. -/
abbrev FEN_STAT_LAST_DARK : Fld := ⟨1, 1⟩
/-- FEN.STAT.HOLDOVER, 1 bit(s) from bit 2. -/
abbrev FEN_STAT_HOLDOVER : Fld := ⟨2, 1⟩
/-- FEN.LATENCY.A, 16 bit(s) from bit 0. -/
abbrev FEN_LATENCY_A : Fld := ⟨0, 16⟩
/-- PSS.CHAIN_CFG.DCB_SHIFT, 4 bit(s) from bit 0. -/
abbrev PSS_CHAIN_CFG_DCB_SHIFT : Fld := ⟨0, 4⟩
/-- PSS.CHAIN_CFG.FREEZE, 1 bit(s) from bit 4. -/
abbrev PSS_CHAIN_CFG_FREEZE : Fld := ⟨4, 1⟩
/-- PSS.CHAIN_CFG.STAGES, 3 bit(s) from bit 5. -/
abbrev PSS_CHAIN_CFG_STAGES : Fld := ⟨5, 3⟩
/-- PSS.CHAIN_CFG.IN_SHIFT, 4 bit(s) from bit 8. -/
abbrev PSS_CHAIN_CFG_IN_SHIFT : Fld := ⟨8, 4⟩
/-- PSS.CHAIN_CFG.AMP_SHIFT, 4 bit(s) from bit 12. -/
abbrev PSS_CHAIN_CFG_AMP_SHIFT : Fld := ⟨12, 4⟩
/-- PSS.CHAIN_CFG.EN_SHIFT, 5 bit(s) from bit 16. -/
abbrev PSS_CHAIN_CFG_EN_SHIFT : Fld := ⟨16, 5⟩
/-- PSS.CHAIN_CFG.INT_EXP, 5 bit(s) from bit 24. -/
abbrev PSS_CHAIN_CFG_INT_EXP : Fld := ⟨24, 5⟩
/-- PSS.CHAIN_STAT.ACTIVE, 1 bit(s) from bit 0. -/
abbrev PSS_CHAIN_STAT_ACTIVE : Fld := ⟨0, 1⟩
/-- PSS.CHAIN_STAT.FROZEN, 1 bit(s) from bit 1. -/
abbrev PSS_CHAIN_STAT_FROZEN : Fld := ⟨1, 1⟩
/-- PSS.SCRUB_CFG.PERIOD, 16 bit(s) from bit 0. -/
abbrev PSS_SCRUB_CFG_PERIOD : Fld := ⟨0, 16⟩
/-- PSS.LAST_UNCORR.POINT, 18 bit(s) from bit 0. -/
abbrev PSS_LAST_UNCORR_POINT : Fld := ⟨0, 18⟩
/-- PSS.LAST_UNCORR.WORD, 3 bit(s) from bit 18. -/
abbrev PSS_LAST_UNCORR_WORD : Fld := ⟨18, 3⟩
/-- PSS.LAST_UNCORR.BY_SCRUB, 1 bit(s) from bit 21. -/
abbrev PSS_LAST_UNCORR_BY_SCRUB : Fld := ⟨21, 1⟩
/-- PSS.LAST_UNCORR.BY_SNAP, 1 bit(s) from bit 22. -/
abbrev PSS_LAST_UNCORR_BY_SNAP : Fld := ⟨22, 1⟩
/-- PSS.CS_CFG.BLOCK, 13 bit(s) from bit 0. -/
abbrev PSS_CS_CFG_BLOCK : Fld := ⟨0, 13⟩
/-- PSS.CS_CFG.BANDS, 1 bit(s) from bit 16. -/
abbrev PSS_CS_CFG_BANDS : Fld := ⟨16, 1⟩
/-- ZON.ZCFG.ZONES, 13 bit(s) from bit 0. -/
abbrev ZON_ZCFG_ZONES : Fld := ⟨0, 13⟩
/-- ZON.ZSTAT.ACTIVE, 1 bit(s) from bit 0. -/
abbrev ZON_ZSTAT_ACTIVE : Fld := ⟨0, 1⟩
/-- ZON.THR_SHOT.THR, 16 bit(s) from bit 0. -/
abbrev ZON_THR_SHOT_THR : Fld := ⟨0, 16⟩
/-- ZON.THR_SHOT.HYS, 16 bit(s) from bit 16. -/
abbrev ZON_THR_SHOT_HYS : Fld := ⟨16, 16⟩
/-- ZON.THR_INT.THR, 16 bit(s) from bit 0. -/
abbrev ZON_THR_INT_THR : Fld := ⟨0, 16⟩
/-- ZON.THR_INT.HYS, 16 bit(s) from bit 16. -/
abbrev ZON_THR_INT_HYS : Fld := ⟨16, 16⟩
/-- TMP.CFG.STRIDE_EXP, 3 bit(s) from bit 0. -/
abbrev TMP_CFG_STRIDE_EXP : Fld := ⟨0, 3⟩
/-- TMP.CFG.DEPTH_EXP, 5 bit(s) from bit 8. -/
abbrev TMP_CFG_DEPTH_EXP : Fld := ⟨8, 5⟩
/-- TMP.CFG.BIN_EXP, 3 bit(s) from bit 16. -/
abbrev TMP_CFG_BIN_EXP : Fld := ⟨16, 3⟩
/-- TMP.POSITIONS.P, 18 bit(s) from bit 0. -/
abbrev TMP_POSITIONS_P : Fld := ⟨0, 18⟩
/-- TMP.STAT.ACTIVE, 1 bit(s) from bit 0. -/
abbrev TMP_STAT_ACTIVE : Fld := ⟨0, 1⟩
/-- TMP.STAT.CONVERTING, 1 bit(s) from bit 1. -/
abbrev TMP_STAT_CONVERTING : Fld := ⟨1, 1⟩
/-- TMP.STAT.REF_OLD, 1 bit(s) from bit 2. -/
abbrev TMP_STAT_REF_OLD : Fld := ⟨2, 1⟩
/-- TMP.STAT.REF_NONE, 1 bit(s) from bit 3. -/
abbrev TMP_STAT_REF_NONE : Fld := ⟨3, 1⟩
/-- FLD.RECAL_CFG.DT, 8 bit(s) from bit 0. -/
abbrev FLD_RECAL_CFG_DT : Fld := ⟨0, 8⟩
/-- FLD.RECAL_CFG.PERIOD, 16 bit(s) from bit 8. -/
abbrev FLD_RECAL_CFG_PERIOD : Fld := ⟨8, 16⟩
/-- FLD.CMD.OP, 4 bit(s) from bit 0. -/
abbrev FLD_CMD_OP : Fld := ⟨0, 4⟩
/-- FLD.CMD.CONV, 4 bit(s) from bit 4. -/
abbrev FLD_CMD_CONV : Fld := ⟨4, 4⟩
/-- FLD.INJ_CMD.CH, 6 bit(s) from bit 0. -/
abbrev FLD_INJ_CMD_CH : Fld := ⟨0, 6⟩
/-- FLD.INJ_CMD.SRC, 2 bit(s) from bit 6. -/
abbrev FLD_INJ_CMD_SRC : Fld := ⟨6, 2⟩
/-- FLD.INJ_CMD.TAG, 4 bit(s) from bit 8. -/
abbrev FLD_INJ_CMD_TAG : Fld := ⟨8, 4⟩
/-- FLD.STAT.TICKING, 1 bit(s) from bit 0. -/
abbrev FLD_STAT_TICKING : Fld := ⟨0, 1⟩
/-- FLD.STAT.CAL_BUSY, 1 bit(s) from bit 1. -/
abbrev FLD_STAT_CAL_BUSY : Fld := ⟨1, 1⟩
/-- FLD.STAT.CAL_PEND, 1 bit(s) from bit 2. -/
abbrev FLD_STAT_CAL_PEND : Fld := ⟨2, 1⟩
/-- FLD.STAT.CAL_DEFERRED, 1 bit(s) from bit 3. -/
abbrev FLD_STAT_CAL_DEFERRED : Fld := ⟨3, 1⟩
/-- FLD.STAT.START_HOLD, 1 bit(s) from bit 4. -/
abbrev FLD_STAT_START_HOLD : Fld := ⟨4, 1⟩
/-- FLD.STAT.PASSIVE, 1 bit(s) from bit 5. -/
abbrev FLD_STAT_PASSIVE : Fld := ⟨5, 1⟩
/-- FLT.CMD.OP, 4 bit(s) from bit 0. -/
abbrev FLT_CMD_OP : Fld := ⟨0, 4⟩
/-- FLT.SYNC_CFG.LINE, 4 bit(s) from bit 0. -/
abbrev FLT_SYNC_CFG_LINE : Fld := ⟨0, 4⟩
/-- FLT.SYNC_CFG.LINE_EN, 1 bit(s) from bit 4. -/
abbrev FLT_SYNC_CFG_LINE_EN : Fld := ⟨4, 1⟩
/-- FLT.NOTCH.SET, 9 bit(s) from bit 0. -/
abbrev FLT_NOTCH_SET : Fld := ⟨0, 9⟩
/-- FLT.NOTCH.LOST, 1 bit(s) from bit 9. -/
abbrev FLT_NOTCH_LOST : Fld := ⟨9, 1⟩
/-- FLT.BAND_CFG.SRC, 2 bit(s) from bit 0. -/
abbrev FLT_BAND_CFG_SRC : Fld := ⟨0, 2⟩
/-- FLT.BAND_CFG.BAND_CH, 10 bit(s) from bit 2. -/
abbrev FLT_BAND_CFG_BAND_CH : Fld := ⟨2, 10⟩
/-- FLT.BAND_CFG.BAND_HYS, 8 bit(s) from bit 12. -/
abbrev FLT_BAND_CFG_BAND_HYS : Fld := ⟨12, 8⟩
/-- FLT.CH_CFG.M, 17 bit(s) from bit 0. -/
abbrev FLT_CH_CFG_M : Fld := ⟨0, 17⟩
/-- FLT.CH_CFG.H, 3 bit(s) from bit 17. -/
abbrev FLT_CH_CFG_H : Fld := ⟨17, 3⟩
/-- FLT.CH_CFG.FREEZE, 1 bit(s) from bit 20. -/
abbrev FLT_CH_CFG_FREEZE : Fld := ⟨20, 1⟩
/-- FLT.CH_CFG.DCB_SHIFT, 4 bit(s) from bit 21. -/
abbrev FLT_CH_CFG_DCB_SHIFT : Fld := ⟨21, 4⟩
/-- FLT.CH_CFG.NOTCH_EN, 1 bit(s) from bit 25. -/
abbrev FLT_CH_CFG_NOTCH_EN : Fld := ⟨25, 1⟩
/-- FLT.CH_CFG.NOTCH_CLASS, 3 bit(s) from bit 26. -/
abbrev FLT_CH_CFG_NOTCH_CLASS : Fld := ⟨26, 3⟩
/-- FLT.CH_OUT.SPC, 11 bit(s) from bit 0. -/
abbrev FLT_CH_OUT_SPC : Fld := ⟨0, 11⟩
/-- FLT.CH_OUT.NS, 8 bit(s) from bit 16. -/
abbrev FLT_CH_OUT_NS : Fld := ⟨16, 8⟩
/-- FLT.THR_CFG.A_EN, 1 bit(s) from bit 0. -/
abbrev FLT_THR_CFG_A_EN : Fld := ⟨0, 1⟩
/-- FLT.THR_CFG.A_DIR, 1 bit(s) from bit 1. -/
abbrev FLT_THR_CFG_A_DIR : Fld := ⟨1, 1⟩
/-- FLT.THR_CFG.A_LINE, 4 bit(s) from bit 2. -/
abbrev FLT_THR_CFG_A_LINE : Fld := ⟨2, 4⟩
/-- FLT.THR_CFG.B_EN, 1 bit(s) from bit 6. -/
abbrev FLT_THR_CFG_B_EN : Fld := ⟨6, 1⟩
/-- FLT.THR_CFG.B_DIR, 1 bit(s) from bit 7. -/
abbrev FLT_THR_CFG_B_DIR : Fld := ⟨7, 1⟩
/-- FLT.THR_CFG.B_LINE, 4 bit(s) from bit 8. -/
abbrev FLT_THR_CFG_B_LINE : Fld := ⟨8, 4⟩
/-- FLT.CH_STAT.TAG, 4 bit(s) from bit 0. -/
abbrev FLT_CH_STAT_TAG : Fld := ⟨0, 4⟩
/-- FLT.CH_STAT.SUB, 4 bit(s) from bit 4. -/
abbrev FLT_CH_STAT_SUB : Fld := ⟨4, 4⟩
/-- FLT.CH_STAT.THR_A, 1 bit(s) from bit 8. -/
abbrev FLT_CH_STAT_THR_A : Fld := ⟨8, 1⟩
/-- FLT.CH_STAT.THR_B, 1 bit(s) from bit 9. -/
abbrev FLT_CH_STAT_THR_B : Fld := ⟨9, 1⟩
/-- LIN.LCFG.EN, 1 bit(s) from bit 0. -/
abbrev LIN_LCFG_EN : Fld := ⟨0, 1⟩
/-- LIN.LCFG.DEG_X, 3 bit(s) from bit 1. -/
abbrev LIN_LCFG_DEG_X : Fld := ⟨1, 3⟩
/-- LIN.LCFG.DEG_T, 2 bit(s) from bit 4. -/
abbrev LIN_LCFG_DEG_T : Fld := ⟨4, 2⟩
/-- LIN.LCFG.TSRC, 2 bit(s) from bit 6. -/
abbrev LIN_LCFG_TSRC : Fld := ⟨6, 2⟩
/-- LIN.LCFG.TCH, 10 bit(s) from bit 8. -/
abbrev LIN_LCFG_TCH : Fld := ⟨8, 10⟩
/-- THC.CFG.BANDS, 5 bit(s) from bit 0. -/
abbrev THC_CFG_BANDS : Fld := ⟨0, 5⟩
/-- THC.BAND.ACTIVE, 4 bit(s) from bit 0. -/
abbrev THC_BAND_ACTIVE : Fld := ⟨0, 4⟩
/-- THC.BAND.NEXT, 4 bit(s) from bit 4. -/
abbrev THC_BAND_NEXT : Fld := ⟨4, 4⟩
/-- THC.BAND.PEND, 1 bit(s) from bit 8. -/
abbrev THC_BAND_PEND : Fld := ⟨8, 1⟩
/-- THC.OUT_CFG.MODE, 2 bit(s) from bit 0. -/
abbrev THC_OUT_CFG_MODE : Fld := ⟨0, 2⟩
/-- THC.OUT_CFG.POL, 1 bit(s) from bit 2. -/
abbrev THC_OUT_CFG_POL : Fld := ⟨2, 1⟩
/-- THC.OUT_CFG.LATCH, 1 bit(s) from bit 3. -/
abbrev THC_OUT_CFG_LATCH : Fld := ⟨3, 1⟩
/-- THC.BT_INDEX.BAND, 4 bit(s) from bit 0. -/
abbrev THC_BT_INDEX_BAND : Fld := ⟨0, 4⟩
/-- THC.BT_INDEX.CMP, 7 bit(s) from bit 8. -/
abbrev THC_BT_INDEX_CMP : Fld := ⟨8, 7⟩
/-- THC.BT_DATA.THR, 10 bit(s) from bit 0. -/
abbrev THC_BT_DATA_THR : Fld := ⟨0, 10⟩
/-- THC.BT_DATA.HYS, 6 bit(s) from bit 16. -/
abbrev THC_BT_DATA_HYS : Fld := ⟨16, 6⟩
/-- DRP.CFG.MODE, 2 bit(s) from bit 0. -/
abbrev DRP_CFG_MODE : Fld := ⟨0, 2⟩
/-- DRP.CFG.NODES, 8 bit(s) from bit 2. -/
abbrev DRP_CFG_NODES : Fld := ⟨2, 8⟩
/-- DRP.CFG.AUTO_REJOIN, 1 bit(s) from bit 10. -/
abbrev DRP_CFG_AUTO_REJOIN : Fld := ⟨10, 1⟩
/-- DRP.SF_INFO.QLAG, 8 bit(s) from bit 0. -/
abbrev DRP_SF_INFO_QLAG : Fld := ⟨0, 8⟩
/-- DRP.SF_INFO.C, 5 bit(s) from bit 8. -/
abbrev DRP_SF_INFO_C : Fld := ⟨8, 5⟩
/-- DRP.CMD.OP, 4 bit(s) from bit 0. -/
abbrev DRP_CMD_OP : Fld := ⟨0, 4⟩
/-- DRP.STAT.STATE, 3 bit(s) from bit 0. -/
abbrev DRP_STAT_STATE : Fld := ⟨0, 3⟩
/-- DRP.STAT.FOUND, 8 bit(s) from bit 3. -/
abbrev DRP_STAT_FOUND : Fld := ⟨3, 8⟩
/-- DRP.STAT.BREAK_AT, 8 bit(s) from bit 11. -/
abbrev DRP_STAT_BREAK_AT : Fld := ⟨11, 8⟩
/-- DRP.STAT.SPLIT, 1 bit(s) from bit 19. -/
abbrev DRP_STAT_SPLIT : Fld := ⟨19, 1⟩
/-- DRP.STAT_CFG.EVERY_EXP, 4 bit(s) from bit 0. -/
abbrev DRP_STAT_CFG_EVERY_EXP : Fld := ⟨0, 4⟩
/-- DRP.STAT_CFG.ON_CHANGE, 1 bit(s) from bit 4. -/
abbrev DRP_STAT_CFG_ON_CHANGE : Fld := ⟨4, 1⟩
/-- DRP.STAT_CFG.EN, 1 bit(s) from bit 5. -/
abbrev DRP_STAT_CFG_EN : Fld := ⟨5, 1⟩
/-- DRP.NODE_ID.TYPE, 8 bit(s) from bit 0. -/
abbrev DRP_NODE_ID_TYPE : Fld := ⟨0, 8⟩
/-- DRP.NODE_ID.REP_LAT, 8 bit(s) from bit 8. -/
abbrev DRP_NODE_ID_REP_LAT : Fld := ⟨8, 8⟩
/-- DRP.NODE_ID.SERIAL, 16 bit(s) from bit 16. -/
abbrev DRP_NODE_ID_SERIAL : Fld := ⟨16, 16⟩
/-- DRP.NODE_ST.MISSING, 1 bit(s) from bit 16. -/
abbrev DRP_NODE_ST_MISSING : Fld := ⟨16, 1⟩
/-- DRP.NODE_ST.FLIPPED, 1 bit(s) from bit 17. -/
abbrev DRP_NODE_ST_FLIPPED : Fld := ⟨17, 1⟩
/-- DRP.NCMD0.ADDR, 8 bit(s) from bit 0. -/
abbrev DRP_NCMD0_ADDR : Fld := ⟨0, 8⟩
/-- DRP.NCMD0.OP, 8 bit(s) from bit 8. -/
abbrev DRP_NCMD0_OP : Fld := ⟨8, 8⟩
/-- DRP.NCMD0.ARG0, 8 bit(s) from bit 16. -/
abbrev DRP_NCMD0_ARG0 : Fld := ⟨16, 8⟩
/-- DRP.NCMD0.ARG1, 8 bit(s) from bit 24. -/
abbrev DRP_NCMD0_ARG1 : Fld := ⟨24, 8⟩
/-- DRP.NCMD1.ARG2, 24 bit(s) from bit 0. -/
abbrev DRP_NCMD1_ARG2 : Fld := ⟨0, 24⟩
/-- DRP.NRSP0.ADDR, 8 bit(s) from bit 0. -/
abbrev DRP_NRSP0_ADDR : Fld := ⟨0, 8⟩
/-- DRP.NRSP0.CODE, 8 bit(s) from bit 8. -/
abbrev DRP_NRSP0_CODE : Fld := ⟨8, 8⟩
/-- DRP.NRSP0.DATA0, 8 bit(s) from bit 16. -/
abbrev DRP_NRSP0_DATA0 : Fld := ⟨16, 8⟩
/-- DRP.NRSP0.DATA1, 8 bit(s) from bit 24. -/
abbrev DRP_NRSP0_DATA1 : Fld := ⟨24, 8⟩
/-- DRP.NRSP1.DATA2, 24 bit(s) from bit 0. -/
abbrev DRP_NRSP1_DATA2 : Fld := ⟨0, 24⟩
/-- DRP.NRSP1.DONE, 1 bit(s) from bit 24. -/
abbrev DRP_NRSP1_DONE : Fld := ⟨24, 1⟩
/-- DRP.NRSP1.TIMEOUT, 1 bit(s) from bit 25. -/
abbrev DRP_NRSP1_TIMEOUT : Fld := ⟨25, 1⟩
/-- DRP.CH_CFG.NODE, 8 bit(s) from bit 0. -/
abbrev DRP_CH_CFG_NODE : Fld := ⟨0, 8⟩
/-- DRP.CH_CFG.LOCAL, 4 bit(s) from bit 8. -/
abbrev DRP_CH_CFG_LOCAL : Fld := ⟨8, 4⟩
/-- DRP.CH_CFG.SPF, 8 bit(s) from bit 12. -/
abbrev DRP_CH_CFG_SPF : Fld := ⟨12, 8⟩
/-- DRP.CH_CFG.EN, 1 bit(s) from bit 20. -/
abbrev DRP_CH_CFG_EN : Fld := ⟨20, 1⟩
/-- SHB.IN_CFG.EN, 1 bit(s) from bit 0. -/
abbrev SHB_IN_CFG_EN : Fld := ⟨0, 1⟩
/-- SHB.IN_CFG.POL, 1 bit(s) from bit 1. -/
abbrev SHB_IN_CFG_POL : Fld := ⟨1, 1⟩
/-- SHB.IN_CFG.EDGE, 2 bit(s) from bit 2. -/
abbrev SHB_IN_CFG_EDGE : Fld := ⟨2, 2⟩
/-- SHB.IN_CFG.LINE, 4 bit(s) from bit 4. -/
abbrev SHB_IN_CFG_LINE : Fld := ⟨4, 4⟩
/-- SHB.IN_CFG.FILT, 4 bit(s) from bit 8. -/
abbrev SHB_IN_CFG_FILT : Fld := ⟨8, 4⟩
/-- SHB.IN_CFG.STUCK, 16 bit(s) from bit 12. -/
abbrev SHB_IN_CFG_STUCK : Fld := ⟨12, 16⟩
/-- SHB.IN_DLY.IN_DLY, 16 bit(s) from bit 0. -/
abbrev SHB_IN_DLY_IN_DLY : Fld := ⟨0, 16⟩
/-- SHB.LINE_CFG.EN, 1 bit(s) from bit 0. -/
abbrev SHB_LINE_CFG_EN : Fld := ⟨0, 1⟩
/-- SHB.LINE_CFG.PART_LINE, 4 bit(s) from bit 4. -/
abbrev SHB_LINE_CFG_PART_LINE : Fld := ⟨4, 4⟩
/-- SHB.LINE_CFG.PART_EN, 1 bit(s) from bit 8. -/
abbrev SHB_LINE_CFG_PART_EN : Fld := ⟨8, 1⟩
/-- SHB.LINE_CFG.WIDTH, 16 bit(s) from bit 16. -/
abbrev SHB_LINE_CFG_WIDTH : Fld := ⟨16, 16⟩
/-- SHB.OUT_CFG.EN, 1 bit(s) from bit 0. -/
abbrev SHB_OUT_CFG_EN : Fld := ⟨0, 1⟩
/-- SHB.OUT_CFG.POL, 1 bit(s) from bit 1. -/
abbrev SHB_OUT_CFG_POL : Fld := ⟨1, 1⟩
/-- SHB.OUT_CFG.LINE, 4 bit(s) from bit 4. -/
abbrev SHB_OUT_CFG_LINE : Fld := ⟨4, 4⟩
/-- SHB.SCHED_CFG.LINE, 4 bit(s) from bit 0. -/
abbrev SHB_SCHED_CFG_LINE : Fld := ⟨0, 4⟩
/-- SHB.SCHED_CFG.EN, 1 bit(s) from bit 4. -/
abbrev SHB_SCHED_CFG_EN : Fld := ⟨4, 1⟩
/-- SHB.SCHED_CFG.REPEAT, 1 bit(s) from bit 5. -/
abbrev SHB_SCHED_CFG_REPEAT : Fld := ⟨5, 1⟩
/-- SHB.SCHED_CFG.COUNT, 16 bit(s) from bit 16. -/
abbrev SHB_SCHED_CFG_COUNT : Fld := ⟨16, 16⟩
/-- SHB.CMD.OP, 4 bit(s) from bit 0. -/
abbrev SHB_CMD_OP : Fld := ⟨0, 4⟩
/-- SHB.CMD.LINE, 4 bit(s) from bit 4. -/
abbrev SHB_CMD_LINE : Fld := ⟨4, 4⟩
/-- SHB.CMD.AT, 1 bit(s) from bit 8. -/
abbrev SHB_CMD_AT : Fld := ⟨8, 1⟩
/-- SHB.STAT.SHUT_IN, 4 bit(s) from bit 16. -/
abbrev SHB_STAT_SHUT_IN : Fld := ⟨16, 4⟩
/-- SHB.STAT.STUCK, 4 bit(s) from bit 20. -/
abbrev SHB_STAT_STUCK : Fld := ⟨20, 4⟩
/-- SHB.STAT.FWD, 1 bit(s) from bit 24. -/
abbrev SHB_STAT_FWD : Fld := ⟨24, 1⟩
/-- ENV.CH_CFG.N, 16 bit(s) from bit 0. -/
abbrev ENV_CH_CFG_N : Fld := ⟨0, 16⟩
/-- ENV.CH_CFG.EPR, 8 bit(s) from bit 16. -/
abbrev ENV_CH_CFG_EPR : Fld := ⟨16, 8⟩
/-- SPL.POP_CTRL.GO, 1 bit(s) from bit 0. -/
abbrev SPL_POP_CTRL_GO : Fld := ⟨0, 1⟩
/-- SPL.POP_CTRL.LANE, 2 bit(s) from bit 1. -/
abbrev SPL_POP_CTRL_LANE : Fld := ⟨1, 2⟩
/-- SPL.POP_CTRL.ONE_LANE, 1 bit(s) from bit 3. -/
abbrev SPL_POP_CTRL_ONE_LANE : Fld := ⟨3, 1⟩
/-- SPL.MARK_CTRL.OP, 3 bit(s) from bit 0. -/
abbrev SPL_MARK_CTRL_OP : Fld := ⟨0, 3⟩
/-- SPL.MARK_CTRL.LANE, 2 bit(s) from bit 4. -/
abbrev SPL_MARK_CTRL_LANE : Fld := ⟨4, 2⟩
/-- SPL.MARK_CTRL.ALL, 1 bit(s) from bit 6. -/
abbrev SPL_MARK_CTRL_ALL : Fld := ⟨6, 1⟩
/-- SPL.POP_STAT.TAG, 4 bit(s) from bit 0. -/
abbrev SPL_POP_STAT_TAG : Fld := ⟨0, 4⟩
/-- SPL.POP_STAT.LANE, 2 bit(s) from bit 4. -/
abbrev SPL_POP_STAT_LANE : Fld := ⟨4, 2⟩
/-- SPL.POP_STAT.DONE, 1 bit(s) from bit 6. -/
abbrev SPL_POP_STAT_DONE : Fld := ⟨6, 1⟩
/-- SPL.POP_STAT.REFUSED, 1 bit(s) from bit 7. -/
abbrev SPL_POP_STAT_REFUSED : Fld := ⟨7, 1⟩
/-- CMP.STAT.BUSY, 1 bit(s) from bit 0. -/
abbrev CMP_STAT_BUSY : Fld := ⟨0, 1⟩
/-- CMP.STAT.SPOOL, 6 bit(s) from bit 1. -/
abbrev CMP_STAT_SPOOL : Fld := ⟨1, 6⟩
/-- CMP.STAT.LANE, 2 bit(s) from bit 7. -/
abbrev CMP_STAT_LANE : Fld := ⟨7, 2⟩
/-- CMP.STAT.FLUSHED, 1 bit(s) from bit 9. -/
abbrev CMP_STAT_FLUSHED : Fld := ⟨9, 1⟩
/-- ULA and ULB.CFG.EN, 1 bit(s) from bit 0. -/
abbrev UL_CFG_EN : Fld := ⟨0, 1⟩
/-- ULA and ULB.CFG.RS_FEC, 1 bit(s) from bit 1. -/
abbrev UL_CFG_RS_FEC : Fld := ⟨1, 1⟩
/-- ULA and ULB.CFG.MTU, 14 bit(s) from bit 16. -/
abbrev UL_CFG_MTU : Fld := ⟨16, 14⟩
/-- ULA and ULB.VLAN.VID, 12 bit(s) from bit 0. -/
abbrev UL_VLAN_VID : Fld := ⟨0, 12⟩
/-- ULA and ULB.VLAN.PCP, 3 bit(s) from bit 12. -/
abbrev UL_VLAN_PCP : Fld := ⟨12, 3⟩
/-- ULA and ULB.VLAN.EN, 1 bit(s) from bit 15. -/
abbrev UL_VLAN_EN : Fld := ⟨15, 1⟩
/-- ULA and ULB.STAT.BLOCK_LOCK, 1 bit(s) from bit 0. -/
abbrev UL_STAT_BLOCK_LOCK : Fld := ⟨0, 1⟩
/-- ULA and ULB.STAT.FEC_ALIGN, 1 bit(s) from bit 1. -/
abbrev UL_STAT_FEC_ALIGN : Fld := ⟨1, 1⟩
/-- ULA and ULB.STAT.IN_SERVICE, 1 bit(s) from bit 2. -/
abbrev UL_STAT_IN_SERVICE : Fld := ⟨2, 1⟩
/-- ULA and ULB.STAT.PTP, 1 bit(s) from bit 3. -/
abbrev UL_STAT_PTP : Fld := ⟨3, 1⟩
/-- ULA and ULB.MAC_HI.MAC, 16 bit(s) from bit 0. -/
abbrev UL_MAC_HI_MAC : Fld := ⟨0, 16⟩
/-- ULA and ULB.SSM.VALID, 1 bit(s) from bit 4. -/
abbrev UL_SSM_VALID : Fld := ⟨4, 1⟩
/-- SLZ.CFG.SESS_TO, 16 bit(s) from bit 0. -/
abbrev SLZ_CFG_SESS_TO : Fld := ⟨0, 16⟩
/-- SLZ.CFG.NOTICE_HOLD, 8 bit(s) from bit 16. -/
abbrev SLZ_CFG_NOTICE_HOLD : Fld := ⟨16, 8⟩
/-- SLZ.STAT.ONE_PORT, 1 bit(s) from bit 8. -/
abbrev SLZ_STAT_ONE_PORT : Fld := ⟨8, 1⟩
/-- SLZ.STAT.SHEDDING, 1 bit(s) from bit 9. -/
abbrev SLZ_STAT_SHEDDING : Fld := ⟨9, 1⟩
/-- SLZ.STAT.ROLE, 2 bit(s) from bit 10. -/
abbrev SLZ_STAT_ROLE : Fld := ⟨10, 2⟩
/-- TTH.STAT.STATE, 3 bit(s) from bit 0. -/
abbrev TTH_STAT_STATE : Fld := ⟨0, 3⟩
/-- TTH.STAT.L0_UP, 1 bit(s) from bit 3. -/
abbrev TTH_STAT_L0_UP : Fld := ⟨3, 1⟩
/-- TTH.STAT.L1_UP, 1 bit(s) from bit 4. -/
abbrev TTH_STAT_L1_UP : Fld := ⟨4, 1⟩
/-- PAI.CFG.PREF, 1 bit(s) from bit 0. -/
abbrev PAI_CFG_PREF : Fld := ⟨0, 1⟩
/-- PAI.CFG.REVERT, 1 bit(s) from bit 1. -/
abbrev PAI_CFG_REVERT : Fld := ⟨1, 1⟩
/-- PAI.CFG.HOLD_HANDOVER, 1 bit(s) from bit 2. -/
abbrev PAI_CFG_HOLD_HANDOVER : Fld := ⟨2, 1⟩
/-- PAI.CFG.REVERT_HOLD, 8 bit(s) from bit 8. -/
abbrev PAI_CFG_REVERT_HOLD : Fld := ⟨8, 8⟩
/-- PAI.CFG.RX_MIN, 8 bit(s) from bit 16. -/
abbrev PAI_CFG_RX_MIN : Fld := ⟨16, 8⟩
/-- PAI.CMD.OP, 4 bit(s) from bit 0. -/
abbrev PAI_CMD_OP : Fld := ⟨0, 4⟩
/-- PAI.STAT.ROLE, 2 bit(s) from bit 0. -/
abbrev PAI_STAT_ROLE : Fld := ⟨0, 2⟩
/-- PAI.STAT.SYNC, 2 bit(s) from bit 2. -/
abbrev PAI_STAT_SYNC : Fld := ⟨2, 2⟩
/-- PAI.STAT.PARTNER_ROLE, 2 bit(s) from bit 4. -/
abbrev PAI_STAT_PARTNER_ROLE : Fld := ⟨4, 2⟩
/-- PAI.STAT.PARTNER_SEEN, 1 bit(s) from bit 6. -/
abbrev PAI_STAT_PARTNER_SEEN : Fld := ⟨6, 1⟩
/-- PAI.STAT.HANDOVER_PEND, 1 bit(s) from bit 7. -/
abbrev PAI_STAT_HANDOVER_PEND : Fld := ⟨7, 1⟩
/-- PAI.HEALTH.RX_DEGRADED, 1 bit(s) from bit 0. -/
abbrev PAI_HEALTH_RX_DEGRADED : Fld := ⟨0, 1⟩
/-- PAI.HEALTH.FLD_MISMATCH, 1 bit(s) from bit 1. -/
abbrev PAI_HEALTH_FLD_MISMATCH : Fld := ⟨1, 1⟩
/-- PAI.HEALTH.TRIG_DIVERGE, 1 bit(s) from bit 2. -/
abbrev PAI_HEALTH_TRIG_DIVERGE : Fld := ⟨2, 1⟩
/-- PAI.HEALTH.CONV_FAIL, 1 bit(s) from bit 3. -/
abbrev PAI_HEALTH_CONV_FAIL : Fld := ⟨3, 1⟩
/-- PAI.HEALTH.NO_SOURCE, 1 bit(s) from bit 4. -/
abbrev PAI_HEALTH_NO_SOURCE : Fld := ⟨4, 1⟩
/-- PAI.HEALTH.LTC_SLIP, 1 bit(s) from bit 5. -/
abbrev PAI_HEALTH_LTC_SLIP : Fld := ⟨5, 1⟩
/-- PAI.RX_MATCH.RX_MATCH, 16 bit(s) from bit 0. -/
abbrev PAI_RX_MATCH_RX_MATCH : Fld := ⟨0, 16⟩
/-- PAI.RESYNC_PROG.ZONES, 1 bit(s) from bit 10. -/
abbrev PAI_RESYNC_PROG_ZONES : Fld := ⟨10, 1⟩
/-- PAI.RESYNC_PROG.RAMAN, 1 bit(s) from bit 11. -/
abbrev PAI_RESYNC_PROG_RAMAN : Fld := ⟨11, 1⟩
/-- PAI.RESYNC_PROG.CAPTURE, 1 bit(s) from bit 12. -/
abbrev PAI_RESYNC_PROG_CAPTURE : Fld := ⟨12, 1⟩
/-- PAI.RESYNC_PROG.LOUPE, 1 bit(s) from bit 13. -/
abbrev PAI_RESYNC_PROG_LOUPE : Fld := ⟨13, 1⟩
/-- LN.CFG.TX_EN, 1 bit(s) from bit 0. -/
abbrev LN_CFG_TX_EN : Fld := ⟨0, 1⟩
/-- LN.CFG.RX_EN, 1 bit(s) from bit 1. -/
abbrev LN_CFG_RX_EN : Fld := ⟨1, 1⟩
/-- LN.CFG.TX_INV, 1 bit(s) from bit 2. -/
abbrev LN_CFG_TX_INV : Fld := ⟨2, 1⟩
/-- LN.CFG.RX_INV, 1 bit(s) from bit 3. -/
abbrev LN_CFG_RX_INV : Fld := ⟨3, 1⟩
/-- LN.CFG.ADAPT_FREEZE, 1 bit(s) from bit 4. -/
abbrev LN_CFG_ADAPT_FREEZE : Fld := ⟨4, 1⟩
/-- LN.CFG.LOOP, 2 bit(s) from bit 5. -/
abbrev LN_CFG_LOOP : Fld := ⟨5, 2⟩
/-- LN.TX_EQ.PRE, 4 bit(s) from bit 0. -/
abbrev LN_TX_EQ_PRE : Fld := ⟨0, 4⟩
/-- LN.TX_EQ.POST, 5 bit(s) from bit 8. -/
abbrev LN_TX_EQ_POST : Fld := ⟨8, 5⟩
/-- LN.TX_EQ.SWING, 5 bit(s) from bit 16. -/
abbrev LN_TX_EQ_SWING : Fld := ⟨16, 5⟩
/-- LN.STAT.STATE, 3 bit(s) from bit 0. -/
abbrev LN_STAT_STATE : Fld := ⟨0, 3⟩
/-- LN.STAT.LOS, 1 bit(s) from bit 3. -/
abbrev LN_STAT_LOS : Fld := ⟨3, 1⟩
/-- LN.STAT.CDR_LOCK, 1 bit(s) from bit 4. -/
abbrev LN_STAT_CDR_LOCK : Fld := ⟨4, 1⟩
/-- LN.STAT.IN_WINDOW, 1 bit(s) from bit 5. -/
abbrev LN_STAT_IN_WINDOW : Fld := ⟨5, 1⟩
/-- LN.STAT.OUT_OF_SERVICE, 1 bit(s) from bit 6. -/
abbrev LN_STAT_OUT_OF_SERVICE : Fld := ⟨6, 1⟩
/-- LN.STAT.PRBS_SYNC, 1 bit(s) from bit 7. -/
abbrev LN_STAT_PRBS_SYNC : Fld := ⟨7, 1⟩
/-- LN.PRBS_CFG.GEN, 2 bit(s) from bit 0. -/
abbrev LN_PRBS_CFG_GEN : Fld := ⟨0, 2⟩
/-- LN.PRBS_CFG.CHK, 2 bit(s) from bit 2. -/
abbrev LN_PRBS_CFG_CHK : Fld := ⟨2, 2⟩
/-- LN.PRBS_CFG.INV, 1 bit(s) from bit 4. -/
abbrev LN_PRBS_CFG_INV : Fld := ⟨4, 1⟩
/-- LN.PRBS_CFG.INJ_RATE, 5 bit(s) from bit 8. -/
abbrev LN_PRBS_CFG_INJ_RATE : Fld := ⟨8, 5⟩
/-- LN.PRBS_CMD.INJ1, 1 bit(s) from bit 0. -/
abbrev LN_PRBS_CMD_INJ1 : Fld := ⟨0, 1⟩
/-- LN.PRBS_CMD.CLR, 1 bit(s) from bit 1. -/
abbrev LN_PRBS_CMD_CLR : Fld := ⟨1, 1⟩
/-- MEM.SCRUB_CFG.PERIOD, 16 bit(s) from bit 0. -/
abbrev MEM_SCRUB_CFG_PERIOD : Fld := ⟨0, 16⟩
/-- MEM.TEST_CFG.PERIOD, 16 bit(s) from bit 0. -/
abbrev MEM_TEST_CFG_PERIOD : Fld := ⟨0, 16⟩
/-- MEM.TEST_CFG.SGM, 1 bit(s) from bit 16. -/
abbrev MEM_TEST_CFG_SGM : Fld := ⟨16, 1⟩
/-- MEM.TEST_CFG.SPM, 1 bit(s) from bit 17. -/
abbrev MEM_TEST_CFG_SPM : Fld := ⟨17, 1⟩
/-- MEM.TEST_CFG.SCM, 1 bit(s) from bit 18. -/
abbrev MEM_TEST_CFG_SCM : Fld := ⟨18, 1⟩
/-- DKR.CMD.OP, 4 bit(s) from bit 0. -/
abbrev DKR_CMD_OP : Fld := ⟨0, 4⟩
/-- DKR.STAT.KEYS, 1 bit(s) from bit 0. -/
abbrev DKR_STAT_KEYS : Fld := ⟨0, 1⟩
/-- DKR.STAT.WIPED, 1 bit(s) from bit 1. -/
abbrev DKR_STAT_WIPED : Fld := ⟨1, 1⟩
/-- DKR.STAT.CAUSE, 4 bit(s) from bit 2. -/
abbrev DKR_STAT_CAUSE : Fld := ⟨2, 4⟩
/-- TEL.CFG.PERIOD, 16 bit(s) from bit 0. -/
abbrev TEL_CFG_PERIOD : Fld := ⟨0, 16⟩
/-- TEL.CFG.HIST_EXP, 4 bit(s) from bit 16. -/
abbrev TEL_CFG_HIST_EXP : Fld := ⟨16, 4⟩
/-- TEL.CFG.HIST_EN, 1 bit(s) from bit 20. -/
abbrev TEL_CFG_HIST_EN : Fld := ⟨20, 1⟩
/-- SDC.CFG.WIDE, 1 bit(s) from bit 0. -/
abbrev SDC_CFG_WIDE : Fld := ⟨0, 1⟩
/-- SDC.CFG.HS, 1 bit(s) from bit 1. -/
abbrev SDC_CFG_HS : Fld := ⟨1, 1⟩
/-- SDC.STAT.PRESENT, 1 bit(s) from bit 0. -/
abbrev SDC_STAT_PRESENT : Fld := ⟨0, 1⟩
/-- SDC.STAT.READY, 1 bit(s) from bit 1. -/
abbrev SDC_STAT_READY : Fld := ⟨1, 1⟩
/-- SDC.STAT.TYPE, 2 bit(s) from bit 2. -/
abbrev SDC_STAT_TYPE : Fld := ⟨2, 2⟩
/-- SDC.STAT.FAT32, 1 bit(s) from bit 4. -/
abbrev SDC_STAT_FAT32 : Fld := ⟨4, 1⟩
/-- SDC.STAT.FILE, 1 bit(s) from bit 5. -/
abbrev SDC_STAT_FILE : Fld := ⟨5, 1⟩
/-- SDC.STAT.HS, 1 bit(s) from bit 6. -/
abbrev SDC_STAT_HS : Fld := ⟨6, 1⟩
/-- SDC.STAT.WIDE, 1 bit(s) from bit 7. -/
abbrev SDC_STAT_WIDE : Fld := ⟨7, 1⟩
/-- NVS.CFG.PATROL, 16 bit(s) from bit 0. -/
abbrev NVS_CFG_PATROL : Fld := ⟨0, 16⟩
/-- NVS.CFG.RES_WARN, 8 bit(s) from bit 16. -/
abbrev NVS_CFG_RES_WARN : Fld := ⟨16, 8⟩
/-- NVS.STAT.RES_WARN, 1 bit(s) from bit 0. -/
abbrev NVS_STAT_RES_WARN : Fld := ⟨0, 1⟩
/-- NVS.STAT.SETTINGS_RESET, 1 bit(s) from bit 1. -/
abbrev NVS_STAT_SETTINGS_RESET : Fld := ⟨1, 1⟩
/-- NVS.STAT.JOURNAL, 1 bit(s) from bit 2. -/
abbrev NVS_STAT_JOURNAL : Fld := ⟨2, 1⟩
/-- FCH.CFG.CONN, 3 bit(s) from bit 0. -/
abbrev FCH_CFG_CONN : Fld := ⟨0, 3⟩
/-- FCH.CFG.RANGE, 3 bit(s) from bit 4. -/
abbrev FCH_CFG_RANGE : Fld := ⟨4, 3⟩
/-- FCH.CFG.AUTO, 1 bit(s) from bit 7. -/
abbrev FCH_CFG_AUTO : Fld := ⟨7, 1⟩
/-- FCH.CFG.WIDE, 3 bit(s) from bit 8. -/
abbrev FCH_CFG_WIDE : Fld := ⟨8, 3⟩
/-- FCH.CFG.NARROW, 3 bit(s) from bit 12. -/
abbrev FCH_CFG_NARROW : Fld := ⟨12, 3⟩
/-- FCH.CFG.EXC_V, 2 bit(s) from bit 16. -/
abbrev FCH_CFG_EXC_V : Fld := ⟨16, 2⟩
/-- FCH.CFG.BURN, 1 bit(s) from bit 18. -/
abbrev FCH_CFG_BURN : Fld := ⟨18, 1⟩
/-- FCH.CFG.LOOP_PWR, 1 bit(s) from bit 19. -/
abbrev FCH_CFG_LOOP_PWR : Fld := ⟨19, 1⟩
/-- FCH.EXC.I_UA, 12 bit(s) from bit 0. -/
abbrev FCH_EXC_I_UA : Fld := ⟨0, 12⟩
/-- FCH.AUTO_CFG.DWELL, 8 bit(s) from bit 0. -/
abbrev FCH_AUTO_CFG_DWELL : Fld := ⟨0, 8⟩
/-- FCH.DIAG.LOOP_MIN, 8 bit(s) from bit 0. -/
abbrev FCH_DIAG_LOOP_MIN : Fld := ⟨0, 8⟩
/-- FCH.DIAG.SHORT_OHM, 8 bit(s) from bit 8. -/
abbrev FCH_DIAG_SHORT_OHM : Fld := ⟨8, 8⟩
/-- FCH.LIM_CFG.A_EN, 1 bit(s) from bit 0. -/
abbrev FCH_LIM_CFG_A_EN : Fld := ⟨0, 1⟩
/-- FCH.LIM_CFG.A_DIR, 1 bit(s) from bit 1. -/
abbrev FCH_LIM_CFG_A_DIR : Fld := ⟨1, 1⟩
/-- FCH.LIM_CFG.A_SAFE, 2 bit(s) from bit 2. -/
abbrev FCH_LIM_CFG_A_SAFE : Fld := ⟨2, 2⟩
/-- FCH.LIM_CFG.B_EN, 1 bit(s) from bit 4. -/
abbrev FCH_LIM_CFG_B_EN : Fld := ⟨4, 1⟩
/-- FCH.LIM_CFG.B_DIR, 1 bit(s) from bit 5. -/
abbrev FCH_LIM_CFG_B_DIR : Fld := ⟨5, 1⟩
/-- FCH.LIM_CFG.B_SAFE, 2 bit(s) from bit 6. -/
abbrev FCH_LIM_CFG_B_SAFE : Fld := ⟨6, 2⟩
/-- FCH.LIM_CFG.LIM_RANGE, 3 bit(s) from bit 8. -/
abbrev FCH_LIM_CFG_LIM_RANGE : Fld := ⟨8, 3⟩
/-- FCH.STAT.RANGE_NOW, 3 bit(s) from bit 0. -/
abbrev FCH_STAT_RANGE_NOW : Fld := ⟨0, 3⟩
/-- FCH.STAT.OPEN, 1 bit(s) from bit 3. -/
abbrev FCH_STAT_OPEN : Fld := ⟨3, 1⟩
/-- FCH.STAT.SHORT, 1 bit(s) from bit 4. -/
abbrev FCH_STAT_SHORT : Fld := ⟨4, 1⟩
/-- FCH.STAT.OVR_HI, 1 bit(s) from bit 5. -/
abbrev FCH_STAT_OVR_HI : Fld := ⟨5, 1⟩
/-- FCH.STAT.OVR_LO, 1 bit(s) from bit 6. -/
abbrev FCH_STAT_OVR_LO : Fld := ⟨6, 1⟩
/-- FCH.STAT.SETTLE, 1 bit(s) from bit 7. -/
abbrev FCH_STAT_SETTLE : Fld := ⟨7, 1⟩
/-- FCH.STAT.CALSUB, 1 bit(s) from bit 8. -/
abbrev FCH_STAT_CALSUB : Fld := ⟨8, 1⟩
/-- FCH.STAT.HOLD, 1 bit(s) from bit 9. -/
abbrev FCH_STAT_HOLD : Fld := ⟨9, 1⟩
/-- FCH.STAT.LIM_A, 1 bit(s) from bit 10. -/
abbrev FCH_STAT_LIM_A : Fld := ⟨10, 1⟩
/-- FCH.STAT.LIM_B, 1 bit(s) from bit 11. -/
abbrev FCH_STAT_LIM_B : Fld := ⟨11, 1⟩
/-- FCH.STAT.SAFE, 1 bit(s) from bit 12. -/
abbrev FCH_STAT_SAFE : Fld := ⟨12, 1⟩
/-- FCH.STAT.GOOD, 5 bit(s) from bit 13. -/
abbrev FCH_STAT_GOOD : Fld := ⟨13, 5⟩
/-- FCH.LAST.CODE, 18 bit(s) from bit 0. -/
abbrev FCH_LAST_CODE : Fld := ⟨0, 18⟩
/-- FCH.LAST.RANGE, 3 bit(s) from bit 18. -/
abbrev FCH_LAST_RANGE : Fld := ⟨18, 3⟩
/-- FCH.LAST.TAG, 4 bit(s) from bit 24. -/
abbrev FCH_LAST_TAG : Fld := ⟨24, 4⟩
/-- FCH.LAST.SUB, 4 bit(s) from bit 28. -/
abbrev FCH_LAST_SUB : Fld := ⟨28, 4⟩
/-- FCH.INJ_STAT.QUEUED, 1 bit(s) from bit 0. -/
abbrev FCH_INJ_STAT_QUEUED : Fld := ⟨0, 1⟩
/-- FCH.INJ_STAT.RUNNING, 1 bit(s) from bit 1. -/
abbrev FCH_INJ_STAT_RUNNING : Fld := ⟨1, 1⟩
/-- FCH.INJ_STAT.DONE, 1 bit(s) from bit 2. -/
abbrev FCH_INJ_STAT_DONE : Fld := ⟨2, 1⟩
/-- FCH.INJ_STAT.TAG, 4 bit(s) from bit 4. -/
abbrev FCH_INJ_STAT_TAG : Fld := ⟨4, 4⟩
/-- FCH.INJ_STAT.RES_TAG, 4 bit(s) from bit 8. -/
abbrev FCH_INJ_STAT_RES_TAG : Fld := ⟨8, 4⟩
/-- FCH.INJ_STAT.SRC, 2 bit(s) from bit 12. -/
abbrev FCH_INJ_STAT_SRC : Fld := ⟨12, 2⟩
/-- SCUnn.CFG.TAP, 2 bit(s) from bit 0. -/
abbrev SCUN_CFG_TAP : Fld := ⟨0, 2⟩
/-- SCUnn.CFG.LINES, 16 bit(s) from bit 8. -/
abbrev SCUN_CFG_LINES : Fld := ⟨8, 16⟩
/-- SCUnn.CFG.ARM, 1 bit(s) from bit 24. -/
abbrev SCUN_CFG_ARM : Fld := ⟨24, 1⟩
/-- SCUnn.SIZE.SEG_SIZE, 11 bit(s) from bit 0. -/
abbrev SCUN_SIZE_SEG_SIZE : Fld := ⟨0, 11⟩
/-- SCUnn.SIZE.PRE, 16 bit(s) from bit 16. -/
abbrev SCUN_SIZE_PRE : Fld := ⟨16, 16⟩
/-- SCUnn.SEL.FIRST, 19 bit(s) from bit 0. -/
abbrev SCUN_SEL_FIRST : Fld := ⟨0, 19⟩
/-- SCUnn.SEL.NUM, 7 bit(s) from bit 24. -/
abbrev SCUN_SEL_NUM : Fld := ⟨24, 7⟩
/-- SCUnn.REF.P_REF, 19 bit(s) from bit 0. -/
abbrev SCUN_REF_P_REF : Fld := ⟨0, 19⟩
/-- SCUnn.STAT.STATE, 2 bit(s) from bit 0. -/
abbrev SCUN_STAT_STATE : Fld := ⟨0, 2⟩
/-- SCUnn.STAT.SHORT_PRE, 1 bit(s) from bit 2. -/
abbrev SCUN_STAT_SHORT_PRE : Fld := ⟨2, 1⟩
/-- SCUnn.STAT.LATE, 1 bit(s) from bit 3. -/
abbrev SCUN_STAT_LATE : Fld := ⟨3, 1⟩
/-- SCUnn.CAP.C, 14 bit(s) from bit 0. -/
abbrev SCUN_CAP_C : Fld := ⟨0, 14⟩
/-- SCUnn.CAP.NBUF, 18 bit(s) from bit 14. -/
abbrev SCUN_CAP_NBUF : Fld := ⟨14, 18⟩
/-- SPLnn.CFG.CTX, 2 bit(s) from bit 0. -/
abbrev SPLN_CFG_CTX : Fld := ⟨0, 2⟩
/-- SPLnn.CFG.PUSH, 1 bit(s) from bit 2. -/
abbrev SPLN_CFG_PUSH : Fld := ⟨2, 1⟩
/-- SPLnn.CFG.REL_ON_READ, 1 bit(s) from bit 3. -/
abbrev SPLN_CFG_REL_ON_READ : Fld := ⟨3, 1⟩
/-- SPLnn.CFG.LEVEL, 3 bit(s) from bit 4. -/
abbrev SPLN_CFG_LEVEL : Fld := ⟨4, 3⟩
/-- SPLnn.CFG.PF, 2 bit(s) from bit 7. -/
abbrev SPLN_CFG_PF : Fld := ⟨7, 2⟩
/-- SPLnn.CFG.SYS_EN, 1 bit(s) from bit 9. -/
abbrev SPLN_CFG_SYS_EN : Fld := ⟨9, 1⟩
/-- SPLnn.CFG.SYS_LANE, 2 bit(s) from bit 10. -/
abbrev SPLN_CFG_SYS_LANE : Fld := ⟨10, 2⟩
/-- SPLnn.CFG.MIN_LEN, 16 bit(s) from bit 16. -/
abbrev SPLN_CFG_MIN_LEN : Fld := ⟨16, 16⟩
/-- SPLnn.STAT.USED, 1 bit(s) from bit 0. -/
abbrev SPLN_STAT_USED : Fld := ⟨0, 1⟩
/-- SPLnn.STAT.RETIRED, 1 bit(s) from bit 1. -/
abbrev SPLN_STAT_RETIRED : Fld := ⟨1, 1⟩
/-- SPLnn.STAT.NONEMPTY, 4 bit(s) from bit 2. -/
abbrev SPLN_STAT_NONEMPTY : Fld := ⟨2, 4⟩
/-- SPLnn.STAT.STALE, 4 bit(s) from bit 6. -/
abbrev SPLN_STAT_STALE : Fld := ⟨6, 4⟩
/-- SPLnn.STAT.FULL, 4 bit(s) from bit 10. -/
abbrev SPLN_STAT_FULL : Fld := ⟨10, 4⟩
/-- SPLnn.STAT.GAP_OPEN, 4 bit(s) from bit 14. -/
abbrev SPLN_STAT_GAP_OPEN : Fld := ⟨14, 4⟩
/-- SPLnn.STALE_CFG.STALE, 16 bit(s) from bit 0. -/
abbrev SPLN_STALE_CFG_STALE : Fld := ⟨0, 16⟩
/-- LPE.CHAN_BLK.BLK, 9 bit(s) from bit 0. -/
abbrev LPE_CHAN_BLK_BLK : Fld := ⟨0, 9⟩
/-- LPE.CHAN_SEL.EN, 1 bit(s) from bit 15. -/
abbrev LPE_CHAN_SEL_EN : Fld := ⟨15, 1⟩
/-- LPE.STAT.BUSY, 1 bit(s) from bit 0. -/
abbrev LPE_STAT_BUSY : Fld := ⟨0, 1⟩
/-- LPE.STAT.WAITING, 1 bit(s) from bit 1. -/
abbrev LPE_STAT_WAITING : Fld := ⟨1, 1⟩
/-- LPE.STAT.IN_IRQ, 1 bit(s) from bit 2. -/
abbrev LPE_STAT_IN_IRQ : Fld := ⟨2, 1⟩
/-- LPE.STAT.STALLED, 1 bit(s) from bit 3. -/
abbrev LPE_STAT_STALLED : Fld := ⟨3, 1⟩
/-- LPE.LAST_PC.PC, 14 bit(s) from bit 0. -/
abbrev LPE_LAST_PC_PC : Fld := ⟨0, 14⟩

end Sys2Proof.Fd
end

