-- ==== Sys2Proof/Machine/Parts.lean ====
section
/-!
DEFINITION. The parts of the hub's state, chapter by chapter: plans, spools, shutter bus, capture, hosts and time.
Every part is plain data.
-/

namespace Sys2Proof.Machine

/-! ### Flight plans -/

/-- A LIVE entry (R41). -/
structure LiveEnt where
  page : Nat
  off : Nat
  lsb : Nat
  width : Nat
  boundary : Nat
  init : Word
  min : Word
  max : Word
  deriving DecidableEq, Repr

/-- A MEMORY entry (R40). -/
structure MemEnt where
  res : Nat
  index : Nat
  base : Nat
  size : Nat
  owner : Nat
  deriving DecidableEq, Repr

/-- A spool entry of the SPOOLS section (R274). -/
structure SpoolEnt where
  ctx : Nat
  flags : Nat
  level : Nat
  pf : Nat
  minLen : Nat
  jobRate : Nat
  deriving DecidableEq, Repr

/-- A lane entry of the SPOOLS section (R274). -/
structure LaneEnt where
  lines : Nat
  stale : Nat
  allow : Nat
  inRate : Nat
  maxItem : Nat
  deriving DecidableEq, Repr

/-- A route entry of the SPOOLS section (R274). -/
structure RouteEnt where
  cls : Nat
  kind : Nat
  first : Nat
  count : Nat
  dest : Nat
  dest2 : Nat
  dest2En : Bool
  deriving DecidableEq, Repr

/-- One head-script transaction (R489, HEAD_SCRIPT). -/
structure ScriptEnt where
  tx : Nat
  rx : Nat
  cmd : List Byte
  deriving DecidableEq, Repr

/-- The parsed sections of a plan: what the hub loads into its blocks (R37 to R41, R274, R489). `regs` holds the
register words the plan loads, by register key; `tab` the waveforms, taps, notch sets, node types, programs and data,
by table key. -/
structure Plan where
  id : Nat
  flags : Nat
  digest : List Byte
  sections : List Nat
  shotPeriod : Nat
  guardT : Nat
  window : Nat
  fieldTick : Nat
  superframe : Nat
  mem : List MemEnt
  live : List LiveEnt
  spools : List SpoolEnt
  lanes : List LaneEnt
  routes : List RouteEnt
  script : List ScriptEnt
  regs : List (Nat × Word)
  tab : List (Nat × Word)
  deriving DecidableEq, Repr

/-- A plan slot in flash (R43 to R45): its state code, the bytes transferred, in order. -/
structure PlanSlot where
  state : Nat
  image : List Byte
  deriving DecidableEq, Repr

/-- A live write that waits for its boundary (R51, R54). -/
structure LivePend where
  addr : Nat
  lsb : Nat
  width : Nat
  value : Nat
  boundary : Nat
  /-- LTC from which the boundary may be taken: the completion, or in a pair the copied instant plus 4,125 (R54). -/
  notBefore : Time
  deriving DecidableEq, Repr

/-- A plan transfer message whose bytes are on their way to flash (R360). -/
structure Xfer where
  slot : Nat
  offset : Nat
  data : List Byte
  last : Bool
  ctx : Nat
  seq : Nat
  deriving DecidableEq, Repr

/-- The running plan and the plan commands in progress. -/
structure PlnState where
  /-- Tables of the running plan; none while no plan runs. -/
  run : Option Plan
  /-- The slot that runs, while `run` holds a plan. -/
  slot : Nat
  /-- The slot whose plan loads at a start and its tables, from the arrival of its FIBRE section on (R427). -/
  loading : Option (Nat × Plan)
  /-- Slot whose commit checks run. -/
  checking : Option Nat
  /-- SWITCH accepted, its target slot and AT bit (R45). -/
  target : Option (Nat × Bool)
  /-- Shadow tables, once loaded. -/
  shadow : Option Plan
  /-- From when the boundary of a switch may be taken, once known (R45, R54). -/
  swFrom : Option Time
  /-- The switch instant, once chosen. -/
  instant : Option Time
  /-- Transfers on their way to flash, oldest first. -/
  xfers : List Xfer
  /-- Live writes that wait, oldest first. -/
  live : List LivePend
  /-- An activation record that is still to be written after a switch (R47). -/
  recordDue : Bool
  deriving DecidableEq, Repr

/-- The schedules: epoch E and the numbers of the next shot, field tick and superframe (R39). -/
structure Sched where
  epoch : Time
  shotNo : Nat
  tickNo : Nat
  sfNo : Nat
  deriving DecidableEq, Repr

/-! ### Spools -/

/-- A record (R11): header fields and payload. `ref` is the 64-bit reference instant whose low half the header bears. -/
structure Rec where
  kind : Nat
  cls : Nat
  idx : Nat
  seq : Nat
  ref : Time
  payload : List Byte
  deriving DecidableEq, Repr

/-- A stored item (R273). `out` is the data it delivers; `vis` is VIS_LTC, none while its compression job has not
ended. -/
structure Item where
  no : Nat
  record : Rec
  size : Nat
  out : List Byte
  flags : Nat
  pf : Nat
  level : Nat
  vis : Option Word
  /-- A placeholder (R398): its place and size, without content. -/
  ph : Bool
  deriving DecidableEq, Repr

/-- A GAP account (R280, R281). -/
structure GapAcct where
  cause : Nat
  items : Nat
  firstLtc : Time
  lastLtc : Word
  bytes : Nat
  firstSrc : Word
  firstSeq : Nat
  multi : Bool
  sat : Bool
  deriving DecidableEq, Repr

/-- A spool lane (R276): the items from REL_NO to WR_NO, the four item numbers, the GAP accounts not yet written
(oldest first), the stale timer, and whether the last push was dropped. In a pair `freeTo` is
a release that the next copy carries, `freeNow` one that has been copied and takes effect at the next boundary (R285). -/
structure Lane where
  items : List Item
  rel : Nat
  mark : Nat
  rd : Nat
  wr : Nat
  freeTo : Option Nat
  freeNow : Option Nat
  gaps : List GapAcct
  stale : Bool
  staleFrom : Time
  full : Bool
  retired : Bool
  shed : Bool
  deriving DecidableEq, Repr

/-- A lane at full reset. -/
def Lane.init : Lane :=
  { items := [], rel := 0, mark := 0, rd := 0, wr := 0, freeTo := none, freeNow := none, gaps := [], stale := false, staleFrom := 0,
    full := false, retired := false, shed := false }

/-- The popped item a context reads through the SPL page (R295). -/
structure PopView where
  stat : Word
  desc : List Word
  hdr : List Word
  data : List Byte
  deriving DecidableEq, Repr

/-- A context's popped-item registers before its first pop. -/
def PopView.init : PopView := { stat := 0, desc := [0, 0, 0, 0], hdr := [0, 0, 0, 0], data := [] }

/-- A compression job (R287 to R290): the lane, the item number, when it became ready and when it started; it waits at a flush;
it has been flushed. -/
structure Job where
  lane : Nat
  no : Nat
  level : Nat
  pf : Nat
  ready : Time
  started : Option Time
  flushed : Bool
  cut : Bool
  deriving DecidableEq, Repr

/-! ### Shutter bus and capture -/

/-- Shutter bus state: line states, input states, scheduler state, waiting host commands. -/
structure ShbState where
  /-- Per line: the LTC until which its state is 1 (R250). -/
  lineUntil : List Time
  /-- Per line: arrival ECK cycle of the last trigger that passed, plus 1; 0 for none (R246). -/
  lineCycle : List Nat
  /-- Filtered, polarity-corrected input states. -/
  inState : List Bool
  inStuck : List Bool
  /-- Host triggers that wait for CMD_AT (R251): context, line, compare value. -/
  cmdAt : List (Nat × Nat × Word)
  /-- The triggers passed last, newest first, at most 64 (R265). -/
  recent : List Trigger
  /-- Instant of the last forwarded trigger, on a standby. -/
  lastFwd : Time
  /-- Per scheduler: its compare value has not been issued yet (R251). -/
  armed : List Bool
  /-- Triggers of the command in progress that reach the bus together at its end (R246). -/
  gather : List Trigger
  deriving DecidableEq, Repr

/-- Resynchronisations that wait for their boundary, of the field channels and of the node channels (R207): from when
the boundary may be taken. -/
structure Resync where
  field : Option Time
  node : Option Time
  deriving DecidableEq, Repr

/-- One item in a capture ring: instant, words, and condition bits HOLDOVER 0, DARK 1, after-a-park 2. -/
structure RingItem where
  inst : Time
  words : List Word
  cond : Nat
  deriving DecidableEq, Repr

/-- A completed segment that waits for its copy (R257). -/
structure Segment where
  payload : List Byte
  ref : Time
  addr : Nat
  /-- Items, bytes of one, and the ring slot of the oldest. -/
  items : Nat
  itemBytes : Nat
  rot : Nat
  deriving DecidableEq, Repr

/-- A segment that a plan switch found in progress (R49, R259): its ring, trigger and place, and the words of CFG, SIZE,
SEL and REF and the region of the old plan, under which it completes. -/
structure CapOld where
  ring : List RingItem
  gone : Option Time
  armAt : Option Time
  acc : Option (Trigger × Option Time)
  parked : Bool
  gap : Bool
  written : Nat
  buffer : Nat
  part : List (Nat × List (Nat × Word))
  words : List Word
  region : Nat × Nat
  deriving DecidableEq, Repr

/-- A capture unit (R254 to R259). -/
structure CapUnit where
  /-- Items held, oldest first. -/
  ring : List RingItem
  /-- Instant of the newest item that has left the ring. -/
  gone : Option Time
  /-- a_k; none before the first item after plan start. -/
  armAt : Option Time
  /-- The accepted trigger and, for a late one, the instant of the item taken as its anchor. -/
  acc : Option (Trigger × Option Time)
  segno : Nat
  /-- Blind triggers since the previous segment. -/
  blind : Nat
  /-- Blind triggers since plan start. -/
  blindAll : Nat
  /-- The accepted trigger lives through a park (R259). -/
  parked : Bool
  /-- A park has begun since the newest item: the next one follows a gap (R259). -/
  gap : Bool
  /-- Items written since plan start, which places the ring slot. -/
  written : Nat
  buffer : Nat
  copies : List Segment
  /-- Items of TAP 2 of which some channels are still to come: instant, and words by channel, oldest first (R252). -/
  part : List (Nat × List (Nat × Word))
  /-- ARM has returned to 1 during a segment: the boundary at which it acted (R258). -/
  rearm : Option Time
  /-- Triggers that arrived during a segment and whose instant lies after its re-arm instant, or before a_0 is known
  (R254). -/
  held : List Trigger
  /-- Segments that plan switches found in progress. -/
  olds : List CapOld
  /-- The region of such a segment while it is dealt with. -/
  oldRegion : Option (Nat × Nat)
  deriving DecidableEq, Repr

/-- A capture unit at plan start. -/
def CapUnit.init : CapUnit :=
  { ring := [], gone := none, armAt := none, acc := none, segno := 0, blind := 0, blindAll := 0, parked := false,
    gap := false, written := 0, buffer := 0, copies := [], part := [], rearm := none, held := [], olds := [],
    oldRegion := none }

/-! ### Clocks -/

/-- The synthesiser and the parks (R331 to R339): control word frozen; the source last lost; since when holdover and
park have lasted; a park asked for at the next boundary (R16); the causes of the park in force, clock and PFW_N; the
target of a switch; the divider of the ramp, 0 outside one, and whether the ramp is that of a start; per source the LTC
since which it has been ready; per lane the LTC of its last lock; the partner's report that holds LN2 back; the gates in
effect. -/
structure ClkState where
  frozen : Bool
  lost : Nat
  holdFrom : Option Time
  parkAsk : Bool
  parkClk : Bool
  parkPfw : Bool
  parkFrom : Time
  target : Option Nat
  ramp : Nat
  starting : Bool
  readyFrom : List (Option Time)
  /-- The most recent comparison since the source's lane locked lay within the window (R332). -/
  passed : List Bool
  held : Bool
  gates : List Word
  deriving DecidableEq, Repr

/-! ### Hosts -/

/-- A notice sent and not yet acknowledged (R359). -/
structure Notice where
  no : Nat
  page : Nat
  body : List Byte
  sentAt : Time
  deriving DecidableEq, Repr

/-- An item on its way to a host: spool, lane, the bytes as delivered, and the next offset (R356). -/
structure Sending where
  spool : Nat
  lane : Nat
  bytes : List Byte
  off : Nat
  deriving DecidableEq, Repr

/-- A Slozon session (R351 to R359). -/
structure Session where
  ctx : Nat
  ip : Nat
  udp : Nat
  /-- The host's MAC address by port, as its last valid frame there bore it (R347). -/
  macs : List Nat
  home : Nat
  number : Nat
  rxSeq : Nat
  txSeq : Nat
  limit : Word
  sentBytes : Nat
  lastRx : Time
  lastTx : Time
  auth : Bool
  noticeNo : Nat
  acked : Nat
  notices : List Notice
  /-- Pages with an event that waits for its notice: page, gathering until. -/
  due : List (Nat × Option Time)
  /-- Pages and the time of their last notice, for gathering. -/
  recent : List (Nat × Time)
  /-- The last 16 messages performed: MSG_SEQ, and type and body of the response, type 0 for none (R353). -/
  answers : List (Nat × Nat × List Byte)
  /-- Items in delivery. -/
  sending : List Sending
  deriving DecidableEq, Repr

/-- The uplink beside its sessions (R344 to R347, R366 to R369): per port the LTC since which the service conditions
have held and the last refresh of the quality level; the ICMP reply window; the budgets in force and a change that
waits; the allowances of the spools in units of 1/8,250,000 byte and the LTC they stand at; link-local probing. -/
structure UplState where
  holdFrom : List (Option Time)
  ssmAt : List Time
  icmpAt : Time
  icmpN : Nat
  twoPort : Bool
  next : Option (Bool × Time)
  allow : List (Nat × Int)
  allowAt : Time
  probing : Bool
  candidate : Nat
  deriving DecidableEq, Repr

/-- One access the register fabric has answered: status, and the words read (R355). -/
structure Answer where
  status : Nat
  index : Nat
  words : List Word
  deriving DecidableEq, Repr

/-- The content of a tether message (R386). -/
inductive TethMsg where
  | hb (h : HbMsg)
  | feedF (f : FeedF)
  | feedW (f : FeedW)
  | trig (ts : List Trigger)
  | copy (c : CopyMsg)
  | health (h : Word)
  | bulk (b : BulkPart)
  deriving DecidableEq, Repr

/-- Where a message to a host goes (R347): MAC address, IPv4 address, UDP port. -/
structure HostAddr where
  mac : Nat
  ip : Nat
  udp : Nat
  deriving DecidableEq, Repr

/-- Everything the hub sends out, in order. -/
inductive Out where
  /-- A Slozon message on a port: context, type, flags, header words SESSION, MSG_SEQ, ACK, BOOT, body, tag, and where it
  goes. -/
  | slozon (port ctx type flags session seq ack boot : Nat) (body tag : List Byte) (dst : HostAddr)
  /-- The frame sent next on the port bears a VLAN tag with this priority and VID (R343). -/
  | vlan (port pcp vid : Nat)
  /-- Another Ethernet frame on a port: what it is, and its payload. -/
  | frame (port : Nat) (what : Nat) (bytes : List Byte)
  /-- A tether message on a lane (R386): KIND, SEQ, content. -/
  | tether (lane kind seq : Nat) (msg : TethMsg)
  /-- A Driari frame or training command on a port. -/
  | driari (port what : Nat) (at_ : Time) (symbols : List Nat) (fill : Nat)
  /-- An edge or pulse on a ball: which, its level, and when. -/
  | pin (ball level : Nat) (t : Time)
  /-- Bytes sent on the head SPI. -/
  | hspi (bytes : List Byte)
  /-- Bytes sent on MSPI_MISO. -/
  | mspi (bytes : List Byte)
  /-- A pulse launched from the DACs (R58, R65): slot, the instant of sample pair 0 in half line ticks (pair i follows i DCK
  cycles later), full-scale current in 0.01 mA, and the sample pairs, I low and Q high. -/
  | launch (slot half fullScale : Nat) (pairs : List Word)
  deriving DecidableEq, Repr

/-! ### Wall time -/

/-- A master heard: its last Announce and when. -/
structure Master where
  ann : Announce
  seenAt : Time
  deriving DecidableEq, Repr

/-- A Sync of the selected master: sequence number, its corrected origin time in 2^-16 ns, once known, its correction,
its arrival in 1/16 tick, and the address it came from. -/
structure SyncStamp where
  seq : Nat
  t1 : Option Int
  corr : Int
  t2 : Nat
  ip : Nat
  deriving DecidableEq, Repr

/-- The PTP port and the servo (R370 to R377): masters heard, the selected one, the exchange in progress (the Delay_Req
with sequence number, departure and send time), the Delay_Req interval as a power of two seconds, the last eight offsets
before the first lock, newest first, the mapping that waits, changes of state that wait for their boundary in a pair, the
last update, and a change of grandmaster that the next TIME_MAP bears. -/
structure TimState where
  masters : List Master
  sel : Option Master
  utc : Int
  sync : Option SyncStamp
  req : Option (Nat × Nat × Time)
  reqAt : Option Time
  reqSeq : Nat
  reqLog : Int
  offs : List Int
  next : Option MapNext
  pubs : List (TimeView × Time)
  updAt : Time
  hadGm : Bool
  gmChanged : Bool
  deriving DecidableEq, Repr

/-- Wall time at full reset. -/
def TimState.init : TimState :=
  { masters := [], sel := none, utc := 0, sync := none, req := none, reqAt := none, reqSeq := 0, reqLog := 0,
    offs := [], next := none, pubs := [], updAt := 0, hadGm := false, gmChanged := false }

/-! ### Filter chains -/

/-- Filter state beside the channels: reference tick of the decimation phases; notch set that waits for
its boundary; the last LSYNC edges, newest first; whether a measurement has been made; the die temperature and its
latches; when the plan started, from which the band source's 1 s count; the notch set of the node channels, and the one
that waits for their superframe boundary (R199, R204). -/
structure FltState where
  chans : List (Nat × ChainCh)
  k0 : Nat
  setNext : Option (Nat × Time)
  edges : List Time
  measured : Bool
  dieLatch : Word
  dieLatchN : Word
  bandAt : Time
  bandLost : Bool
  /-- A band decision that waits for its boundary (R186, R205). -/
  bandNext : Option (Nat × Time)
  setNode : Nat
  setNextN : Option (Nat × Time)
  deriving DecidableEq, Repr

/-- Filters at full reset. -/
def FltState.init : FltState :=
  { chans := [], k0 := 0, setNext := Option.none, edges := [], measured := false, dieLatch := 0, dieLatchN := 0, bandAt := 0,
    bandLost := false, bandNext := Option.none, setNode := 0, setNextN := Option.none }

/-! ### Field channels -/

/-- An injected request (R177 to R179): requester tag, source, whether it runs, the hold instant once it has one, the
requester (a Loupe core's number plus 1, 0 for a host). -/
structure InjReq where
  ch : Nat
  tag : Nat
  src : Nat
  hold : Option Time
  core : Nat
  deriving DecidableEq, Repr

/-- The field die (R177 to R184): channels; injected requests queued or running; outcomes not yet visible; the single
converter a CMD CAL asked for, and one that waits; the converter whose turn it is; a turn deferred by an injected
conversion; per converter the LTCs of its last failed recoveries; converters in recovery; the instant of the hold
before; the end of the last rotation. -/
structure FldState where
  chans : List (Nat × FldCh)
  inj : List InjReq
  done : List InjDone
  calOne : Option Nat
  calWait : List Nat
  calTurn : Nat
  deferred : Bool
  failAt : List (List Time)
  recovering : List Bool
  lastHold : Option Time
  /-- Converters that were out of service at some time since the last hold: new coefficients apply from the next (R182). -/
  outTick : List Bool
  /-- Converters whose calibration has ended well since the last hold (R182, R184). -/
  calEnd : List Bool
  calAt : Time
  /-- Levels of the TSW balls, 1 driven low (R188). -/
  balls : Word
  /-- In RTD3 source 2 feeds EXA and source 1 EXB in the tick of the last hold (R158). -/
  swapped : Bool
  deriving DecidableEq, Repr

/-- The field die at full reset. -/
def FldState.init : FldState :=
  { chans := [], inj := [], done := [], calOne := Option.none, calWait := [], calTurn := 0, deferred := false,
    failAt := List.replicate 8 [], recovering := List.replicate 8 false, lastHold := Option.none,
    outTick := List.replicate 8 false, calEnd := List.replicate 8 false, calAt := 0, balls := 0, swapped := false }

/-! ### Background work -/

/-- The maintenance coordinator (R415 to R417), by class code: 0 idle, 1 queued, 2 running; since when queued; a step
or one-piece activity is in execution. With it the memory test's borrowed block, the next block it takes, and the
figures telemetry counts from full reset. -/
structure MntState where
  st : List Nat
  since : List Time
  busy : List Bool
  borrowed : Option Nat
  cursor : Nat
  /-- ABORT asked for, by class (R422). -/
  abort : List Bool
  /-- LTC of the next telemetry reading's predecessor, and records so far. -/
  telAt : Time
  /-- Corrected and uncorrectable reads of PSS, SGM, SPM and SCM since full reset (R418). -/
  corr : List Nat
  uncorr : List Nat
  faultCount : Nat
  /-- The monitor readings last taken (R418, R423). -/
  rails : List Nat
  tCore : Int
  power : Nat
  iVdd : Nat
  deriving DecidableEq, Repr

/-- The coordinator at full reset. -/
def MntState.init : MntState :=
  { st := List.replicate 7 0, since := List.replicate 7 0, busy := List.replicate 7 false, borrowed := none,
    cursor := 0, abort := List.replicate 7 false, telAt := 0, corr := [0, 0, 0, 0], uncorr := [0, 0, 0, 0],
    faultCount := 0, rails := List.replicate 9 0, tCore := 0, power := 0, iVdd := 0 }

/-! ### Optical head -/

/-- Elements of a converter (R80): in service, longest first; out of service, longest first; the one under
calibration; the calibrated one that waits for its exchange; those calibrated in this rotation; whether the rotation
still works on this converter. -/
structure Elems where
  serving : List Nat
  spares : List Nat
  cal : Option Nat
  ready : Option Nat
  done : List Nat
  active : Bool
  deriving DecidableEq, Repr

/-- A head SPI transaction in progress (R73 to R76): bytes to send, reply length, attempts made, whether it belongs to
the head script. -/
structure HspiTx where
  tx : List Byte
  rx : Nat
  attempt : Nat
  script : Bool
  deriving DecidableEq, Repr

/-- The optical head interface beside its registers: elements of the four receiver converters and of the Raman pair;
the transaction in progress and the script's remaining ones; a LAS_ON held until the interlock releases; LAS_EN held
low after a release with ILK_AUTO 0; when LAS_EN rose; the end of the last pulse, its shot and slot, and its full scale;
whether the present shot is dark; runs of shots with a small range per receiver ADC and per Raman ADC; the least and largest
receiver samples, per ADC, and raw Raman samples of the shot; ends of the acquisition windows in progress, oldest first,
and whether each is its shot's last. -/
structure OfeState where
  elems : List Elems
  hspi : Option HspiTx
  script : List ScriptEnt
  lasOnHeld : Bool
  ilkHold : Bool
  enAt : Option Time
  pulseTo : Option Time
  pulse : Option (Nat × Nat)
  pulseFs : Nat
  dark : Bool
  rxLow : List Nat
  rmnLow : List Nat
  rmnMin : List Nat
  rmnMax : List Nat
  rxMin : List Int
  rxMax : List Int
  wins : List (Time × Bool)
  /-- LTC of the end of the last rotation (R79). -/
  calAt : Time
  /-- RMN_TRIG is high until then (R72). -/
  trigTo : Option Time
  deriving DecidableEq, Repr

/-- The head interface at full reset. -/
def OfeState.init : OfeState :=
  { elems := List.replicate 4 ⟨[0, 1, 2, 3, 4, 5, 6, 7], [8, 9], none, none, [], false⟩ ++
      [⟨[0, 1], [2], none, none, [], false⟩],
    hspi := none, script := [], lasOnHeld := false, ilkHold := false, enAt := none, pulseTo := none, pulse := none,
    pulseFs := 0, dark := false,
    rxLow := [0, 0, 0, 0], rmnLow := [0, 0], rmnMin := [4095, 4095], rmnMax := [0, 0],
    rxMin := List.replicate 4 8191, rxMax := List.replicate 4 (-8192), wins := [], calAt := 0,
    trigTo := none }

/-! ### Fibre phase engine, point records and zones -/

/-- A complex number of the engine: real and imaginary part. -/
structure Cplx where
  re : Int
  im : Int
  deriving DecidableEq, Repr

/-- What the engine holds of one slot of the launch in progress (R88 to R93): the outputs of stage 3, X and Y, and of
stage 4, Z, by point. -/
structure SlotStream where
  s3 : List (Cplx × Cplx)
  z : List Cplx
  deriving DecidableEq, Repr

/-- A slot before its first output. -/
def SlotStream.init : SlotStream := ⟨[], []⟩

/-- A zone beside its table entry (R130 to R132): shot state, interval state, THR_COUNT and the number of the interval it
counts. -/
structure ZoneSt where
  shot : Bool
  int : Bool
  count : Nat
  ivl : Nat
  deriving DecidableEq, Repr

/-- A zone at plan start. -/
def ZoneSt.init : ZoneSt := ⟨false, false, 0, 0⟩

/-- A launch in progress (R86 to R137): whether points are still to come; launch LTC, shot number, slot, update number,
next point; raw samples, slots, quality of the points written, their records, newest first; dark, HOLDOVER, SAT; first
shot after a switch; chains restart; interval: starts from this update alone, this update begins one, DARK, HOLDOVER,
PARKED, first after a switch; the zones in progress with a point above SHOT_THR − SHOT_HYS, and those whose shot state
was set during this update; Z forwarded by the active hub, by slot and point (R94). -/
structure FibRun where
  live : Bool
  launch : Time
  shotNo : Nat
  slot : Nat
  u : Nat
  next : Nat
  raw : List (Int × Int × Int × Int)
  slots : List SlotStream
  quals : List Nat
  recs : List (Nat × List Nat)
  dark : Bool
  holdover : Bool
  afterSwitch : Bool
  restart : Bool
  fresh : Bool
  newInt : Bool
  intDark : Bool
  intHold : Bool
  intParked : Bool
  intAfterSwitch : Bool
  hot : List Nat
  seen : List Nat
  fed : List (Nat × Cplx)
  /-- The first point that the active hub forwarded of the launch as dark, where it was not dark from the start (R66). -/
  darkFrom : Option Nat
  /-- The first point that the active hub forwarded of the launch with SAT (R92, R94). -/
  satFrom : Option Nat
  /-- Registers that changed at a shot boundary after the launch began, with the words that hold for it (R50, R107). -/
  regs : List (Nat × Word)
  deriving DecidableEq, Repr

/-- No launch. -/
def FibRun.init : FibRun :=
  { live := false, launch := 0, shotNo := 0, slot := 0, u := 0, next := 0, raw := [], slots := [], quals := [], recs := [],
    dark := false, holdover := false, afterSwitch := false, restart := false, fresh := false, newInt := false,
    intDark := false, intHold := false, intParked := false, intAfterSwitch := false, hot := [], seen := [], fed := [],
    darkFrom := none, satFrom := none, regs := [] }

/-- What the launches of one shot share: the first phases of slot 0 by point, none where faded (R102); sum of |V_0| of a
dark shot in 2^-24 and its points (R100); running digest (R391); SAT (R92). -/
structure ShotAcc where
  theta0 : List (Nat × Option Nat)
  nSum : Nat
  nPts : Nat
  crc : Nat
  sat : Bool
  deriving DecidableEq, Repr

/-- A shot before its first point. -/
def ShotAcc.init : ShotAcc := ⟨[], 0, 0, 0xFFFFFFFF, false⟩

/-- The fibre phase engine (R86 to R137): the newest launch, and older ones in progress, oldest first; per shot number what
its launches share; digests of the last complete shots, newest first; number of the last update begun; first launch and
first interval after a switch; chains restart; point records; zones; snapshot latches by reader: word number and value. -/
structure FibState where
  cur : FibRun
  older : List FibRun
  acc : List (Nat × ShotAcc)
  digests : List (Nat × Nat)
  lastU : Option Nat
  afterSwitch : Bool
  intAfterSwitch : Bool
  restart : Bool
  /-- Launches since the last processed one were lost in a takeover (R393). -/
  lost : Bool
  pss : List (Nat × List Nat)
  zones : List (Nat × ZoneSt)
  snap : List (Nat × (Nat × Nat))
  /-- Number of the word the scrub reads next. -/
  scrub : Nat
  /-- Sums of |Z_own − Z_fwd|² and |Z_fwd|² on a standby (R392). -/
  matchD : Nat
  matchF : Nat
  deriving DecidableEq, Repr

/-- The engine at full reset. -/
def FibState.init : FibState :=
  { cur := FibRun.init, older := [], acc := [], digests := [], lastU := none, afterSwitch := false,
    intAfterSwitch := false, restart := false, lost := false, pss := [], zones := [], snap := [], scrub := 0, matchD := 0, matchF := 0 }

/-! ### Temperature profile -/

/-- An interval of the Raman path (R143 to R151): shots accumulated, the two sums by position, launch LTC of its first
taking-part shot and of its first accumulated one, flags as the record bears them. -/
structure RmnInt where
  shots : Nat
  st : List (Nat × Nat)
  as_ : List (Nat × Nat)
  start : Time
  first : Option Time
  flags : Nat
  /-- Sum and number of the VALID values in the interval by field channel (R148). -/
  refs : List (Nat × (Word × Nat))
  /-- The interval has started; the end of its last Raman window. -/
  started : Bool
  stop : Option Time
  deriving DecidableEq, Repr

/-- An interval that has not started. -/
def RmnInt.init : RmnInt := ⟨0, [], [], 0, none, 0, [], false, none⟩

/-- The Raman path: the interval in progress; the shot in progress, its launch LTC and next position, its samples so far and
whether one of them clipped; the intervals that wait for conversion, oldest first; profile number; the last T_ref since
plan start. -/
structure TmpState where
  cur : RmnInt
  shot : Option (Nat × Time)
  pos : Nat
  buf : List (Nat × Nat)
  clip : Bool
  conv : List RmnInt
  profile : Nat
  tRef : Option Word
  /-- The last taking-part shot processed since plan start. -/
  lastNo : Option Nat
  deriving DecidableEq, Repr

/-- The Raman path at full reset. -/
def TmpState.init : TmpState :=
  { cur := RmnInt.init, shot := none, pos := 0, buf := [], clip := false, conv := [], profile := 0, tRef := none, lastNo := none }

/-! ### Loupe cores -/

/-- The cores, and items that the dispatcher has not yet written into a queue: core and item, in order. -/
structure LpeState where
  cores : List (Nat × LpeCore)
  disp : List (Nat × LpeItem)
  deriving DecidableEq, Repr

/-- The cores at full reset. -/
def LpeState.init : LpeState := ⟨[], []⟩

/-! ### Driari ports -/

/-- A node as its hub knows it (R230, R233, R236, R239): assigned, and from the second end; of another TYPE than
planned; what ASSIGN replied; D_i, OFFSET_i, OFFSET_REV_i; last valid status word, that of the cycle before, and a CRC
failure in this cycle; since when it has reported B_SIGNAL; a valid word in this cycle, and none in the cycle before. -/
structure DrpNode where
  assigned : Bool
  far : Bool
  typeBad : Bool
  type : Nat
  repLat : Nat
  serial : Nat
  d : Nat
  ofs : Nat
  ofsRev : Nat
  word : Nat
  prev : Nat
  crc : Bool
  bSince : Option Time
  got : Bool
  miss : Bool
  deriving DecidableEq, Repr

/-- A node that nothing is known of. -/
def DrpNode.init : DrpNode :=
  { assigned := false, far := false, typeBad := false, type := 0, repLat := 0, serial := 0, d := 0, ofs := 0,
    ofsRev := 0, word := 0, prev := 0, crc := false, bSince := none, got := false, miss := true }

/-- A command to nodes (R232); `host` marks that of NODE_CMD. -/
structure DrpCmd where
  addr : Nat
  op : Nat
  args : List Byte
  host : Bool
  deriving DecidableEq, Repr

/-- A Driari port beside its registers (R226 to R243): training step (0 none, 1 waits for two frames, 2 assigns, 3
configures), the address being assigned and the last one, whether addresses descend; attempts, retries and consecutive
valid frames; commands that wait, and those sent and not yet replied to with the frame that carried them; the node
MEASURE was last sent to; the last frame sent and the last one looked for upstream; superframe that START named; last
round trip; nodes; per slot the next superframe whose inputs are due and the raw SETTLE inputs left; LINK in this status
cycle; second end: D_total and consecutive valid downstream frames; a NODE_CMD is pending. -/
structure DrpPort where
  step : Nat
  asg : Nat
  asgEnd : Nat
  down : Bool
  attempt : Nat
  retry : Nat
  good : Nat
  queue : List DrpCmd
  outs : List (Nat × DrpCmd)
  meas : Nat
  sent : Option Nat
  lastUp : Option Nat
  startSf : Option Nat
  lastRt : Option Nat
  nodes : List (Nat × DrpNode)
  nextIn : List Nat
  settle : List Nat
  linkCyc : Bool
  dTotal : Option Nat
  farGood : Nat
  busy : Bool
  /-- Status cycles of the plans before, from which CYCLE runs on (R491). -/
  cycBase : Nat
  /-- EN of sample slots before the superframe at which a live write changed it: slot, superframe, EN before (R235). -/
  enOld : List (Nat × Nat × Bool)
  deriving DecidableEq, Repr

/-- A port that is off. -/
def DrpPort.init : DrpPort :=
  { step := 0, asg := 0, asgEnd := 0, down := false, attempt := 0, retry := 0, good := 0, queue := [], outs := [],
    meas := 0, sent := none, lastUp := none, startSf := none, lastRt := none, nodes := [],
    nextIn := List.replicate 32 0, settle := List.replicate 32 0, linkCyc := false, dTotal := none, farGood := 0,
    busy := false, cycBase := 0, enOld := [] }

/-! ### Pair -/

/-- A tether lane (R384): block lock; consecutive HB messages of one partner serial number, and that number; the partner
receives this hub's HBs; trained; HBs missed in a row; LTC at transmission and arrival of the last HB received. -/
structure TethLane where
  block : Bool
  run : Nat
  serial : Nat
  echoed : Bool
  up : Bool
  miss : Nat
  tx : Option Time
  arr : Time
  deriving DecidableEq, Repr

/-- A lane without block lock. -/
def TethLane.init : TethLane :=
  { block := false, run := 0, serial := 0, echoed := false, up := false, miss := 0, tx := none, arr := 0 }

/-- A response that waits for the acknowledgement of a COPY (R390): the COPY's number, context, the request's MSG_SEQ,
type and body. -/
structure Held where
  no : Nat
  ctx : Nat
  seq : Nat
  type : Nat
  body : List Byte
  deriving DecidableEq, Repr

/-- What has come into sync (R398): point records from 0 up, and the window of the launch in progress; zones, Raman
accumulators, field and node chains, cores; items each capture unit has taken since the join. -/
structure SyncState where
  points : Nat
  window : Nat
  /-- A launch has begun since, so that its window goes over whole. -/
  begun : Bool
  zones : Bool
  raman : Bool
  field : Bool
  node : Bool
  cores : List Nat
  seen : List (Nat × Nat)
  deriving DecidableEq, Repr

/-- Nothing in sync. -/
def SyncState.init : SyncState :=
  { points := 0, window := 0, begun := false, zones := false, raman := false, field := false, node := false, cores := [], seen := [] }

/-- Pair operation (R383 to R400): tether lanes; role settled; the loss of both lanes has been reported; heartbeats missed
in a row on the tether and on PAIR_HB; ACTIVE_SINCE; the partner's serial number, port, ACTIVE_SINCE and preference;
until when claims are sent; the boundary of a handover; since when this hub, or its partner, has been IN_SYNC; items
gathered for the next COPY, its number, the last COPY acknowledged by the partner or received by this hub; responses that
wait; LTC slips in a row; heartbeats stopped; the LTC start value has been taken; the join has been sent. -/
structure PaiState where
  lanes : List TethLane
  settled : Bool
  down : Bool
  tMiss : Nat
  pMiss : Nat
  since : Time
  serial : Nat
  udp : Nat
  pSince : Time
  pPref : Bool
  pAsk : Bool
  ask : Bool
  claimTo : Option Time
  handover : Option Time
  syncAt : Option Time
  ops : List CopyOp
  copyNo : Nat
  acked : Nat
  held : List Held
  slip : Nat
  silent : Bool
  ltcTaken : Bool
  joinSent : Bool
  /-- This hub masters Driari chains from what were their second ends (R242). -/
  far : Bool
  /-- SEQ of the next tether message by lane × 256 + KIND. -/
  seqs : List (Nat × Nat)
  prog : SyncState
  /-- Records of the launch in progress that the standby stores in place of its own (R398). -/
  copies : List (Nat × List Nat)
  /-- Field results of the tick that waits to be forwarded: channel and word. -/
  results : List (Nat × Word)
  /-- RX_MATCH of the shots since the last report: sum in 0.1 dB and shots; reports in a row below RX_MIN. -/
  rxSum : Int
  rxN : Nat
  rxBad : Nat
  /-- Ticks in a row with a mismatch, by channel. -/
  mism : List (Nat × Nat)
  /-- SHB.DIVERGE rose since the last report. -/
  diverged : Bool
  /-- Forwarded triggers, and own triggers, that have not met their counterpart (R265). -/
  fwdOpen : List Trigger
  ownOpen : List Trigger
  /-- The partner's plan slots and the slot it runs (R55). -/
  pSlots : Option ((Nat × List Byte) × (Nat × List Byte) × Option Nat)
  /-- LTC of the shot end of the COPY that is being applied. -/
  copyEnd : Option Time
  /-- Until when launches are not performed after a takeover (R32). -/
  quietTo : Time
  /-- Records are being accounted as lost in the takeover (R393). -/
  lost : Bool
  /-- The digest of the last COPY, until this hub has its own of that shot (R391). -/
  digestDue : Option (Nat × Nat)
  /-- The tick after the last one whose forwarded results a standby has passed (R388). -/
  fedTick : Option Nat
  deriving DecidableEq, Repr

/-- Pair operation at full reset. -/
def PaiState.init : PaiState :=
  { lanes := [TethLane.init, TethLane.init], settled := false, down := false, tMiss := 0, pMiss := 0, since := 0,
    serial := 0, udp := 0, pSince := 0, pPref := false, pAsk := false, ask := false, claimTo := none, handover := none, syncAt := none,
    ops := [], copyNo := 0, acked := 0, held := [], slip := 0, silent := false, ltcTaken := false, joinSent := false, far := false,
    seqs := [], prog := SyncState.init, copies := [], results := [], rxSum := 0, rxN := 0, rxBad := 0, mism := [],
    diverged := false, fwdOpen := [], ownOpen := [], pSlots := none, copyEnd := none, quietTo := 0, lost := false, digestDue := none, fedTick := none }

/-! ### Non-volatile contents -/

/-- A fault-log entry (R444). -/
structure FaultEnt where
  ltc : Time
  boot : Nat
  err : Nat
  page : Nat
  data : Nat
  uptime : Nat
  deriving DecidableEq, Repr

/-- One copy of the plan activation record (R47): sequence number, slot, and whether the copy is valid. -/
structure PlanRec where
  seq : Word
  slot : Nat
  valid : Bool
  deriving DecidableEq, Repr

/-- One copy of the firmware activation record (R433); `confirmed` is STATE. -/
structure FwRec where
  seq : Word
  bank : Nat
  confirmed : Bool
  trials : Nat
  valid : Bool
  deriving DecidableEq, Repr

/-- What full reset keeps: the flash contents and the Darkroom (R31). -/
structure NonVol where
  slotA : PlanSlot
  slotB : PlanSlot
  planRec0 : PlanRec
  planRec1 : PlanRec
  fwRec0 : FwRec
  fwRec1 : FwRec
  /-- The firmware banks' bytes (R433, R434). -/
  bank0 : List Byte
  bank1 : List Byte
  /-- Identity block: serial number, MAC addresses, IPv4 address and mask (first byte lowest), Slozon port. -/
  serial : Nat
  macA : Nat
  macB : Nat
  ip : Nat
  mask : Nat
  udp : Nat
  boot : Nat
  /-- Stored board settings by register key, and the format version they are written in. -/
  settings : List (Nat × Word)
  setFmt : Nat
  faults : List FaultEnt
  /-- Entries written to the fault-log ring, modulo its size: the next entry's place (R450). -/
  faultNext : Nat
  /-- Life-cycle state (R440). -/
  life : Nat
  /-- Keys in the Darkroom: the plan key with its KEY_ID, the context keys, the update key (R441). -/
  planKey : Option (Word × List Byte)
  ctxKeys : List (Option (List Byte))
  updKey : Bool
  /-- Darkroom wiped since the last key was installed, and the cause of the last wipe (R409). -/
  wiped : Bool
  wipeCause : Nat
  /-- Telemetry history records, oldest first (R418). -/
  history : List (List Byte)
  histNext : Nat
  /-- Flash wear: reserve left in KiB, highest and mean erase count, blocks retired. -/
  reserve : Nat
  eraseMax : Nat
  eraseMean : Nat
  retired : Nat
  deriving DecidableEq, Repr

/-- Start-up and supply (R425 to R430). `step` is the start-up phase reached: 0 held in reset, 1 waiting for a clock,
2 ramp, 3 register access served, 4 Winch runs, 5 plan loading, 9 ready. -/
structure SysState where
  step : Nat
  railsBad : Nat
  resetLow : Bool
  laneSeen : Bool
  calDone : Bool
  planDone : Bool
  /-- A park for PFW_N is asked for or in force (R430). -/
  pfw : Bool
  /-- RETURN is armed (R443). -/
  returnArmed : Bool
  /-- A restart of Winch is running (R436). -/
  restarting : Bool
  /-- The card in the slot. -/
  card : Option SdCard
  /-- Update: the next step (0 header and comparison, i block i − 1, BLOCKS + 1 header, then digest and signature), ABORT
  asked for, activation follows verification, its bank, the target bank was verified since the last start (R435). -/
  updPos : Nat
  updAbort : Bool
  updAct : Bool
  updBank : Nat
  verified : Bool
  /-- LTC of the start of the running image, and since when a plan has run (R437). -/
  fwAt : Time
  planAt : Option Time
  /-- A MARK of kind SETTINGS_RESET to write once a plan runs: old and new format (R438). -/
  setMark : Option (Nat × Nat)
  /-- Status of the last management port transaction (R364). -/
  mspi : Nat
  deriving DecidableEq, Repr

end Sys2Proof.Machine
end

