-- ==== Sys2Proof/Machine/State.lean ====
section
/-!
DEFINITION. The state of the hub: every register, queue, table, memory and mode the spec gives it, as plain data, with
the queue of waiting commands; the state after full reset; the reasons a step can stop.
-/

namespace Sys2Proof.Machine

structure State where
  /-- Register words by key, in the canonical form of `NMap` over the Reset values. -/
  regs : List (Nat × Word)
  /-- Bytes of the scratch banks and Loupe core memories by address (R452), in canonical form. -/
  mem : List Host.Cell
  /-- The Line Time Counter, and whether it runs (R3, R14). -/
  ltc : Time
  ltcRun : Bool
  /-- The model's own count of free values used. -/
  free : Nat
  nv : NonVol
  sys : SysState
  pln : PlnState
  sched : Sched
  /-- Spool lanes by spool × 4 + lane; an unlisted lane is as at full reset. -/
  lanes : List (Nat × Lane)
  /-- SEQ counters by SRC and KIND (R11). -/
  seqs : List (Nat × Nat)
  /-- Popped-item registers by accessor (R462). -/
  pops : List (Nat × PopView)
  jobs : List Job
  clk : ClkState
  shb : ShbState
  resync : Resync
  /-- Capture units by number; an unlisted unit is as at plan start. -/
  units : List (Nat × CapUnit)
  sessions : List Session
  upl : UplState
  tim : TimState
  mnt : MntState
  flt : FltState
  fld : FldState
  ofe : OfeState
  fib : FibState
  tmp : TmpState
  lpe : LpeState
  /-- Driari ports by number; an unlisted one is off. -/
  drp : List (Nat × DrpPort)
  pai : PaiState
  /-- Session numbers given out. -/
  sessNo : Nat
  /-- HI latches by accessor and HI register (R461). -/
  latches : List (Nat × Word)
  /-- What the last register access answered. -/
  ans : Answer
  /-- Everything sent, in order. -/
  sent : List Out
  /-- Commands waiting, first in, first out. -/
  pending : List Instr
  deriving DecidableEq, Repr

/-- Why a step faults: never, in this model. -/
inductive Fault where
  /-- Not raised by any command: every command of the table has an effect. Safe. -/
  | none
  deriving DecidableEq, Repr

/-- Why a step is refused. -/
inductive Refusal where
  /-- The command's meaning is not written; raised by the dispatch, by mnemonic. Safe. -/
  | notModelled (mnemonic : String)
  deriving DecidableEq, Repr

def State.reset : State :=
  { regs := [], mem := [], ltc := 0, ltcRun := false, free := 0,
    nv := { slotA := ⟨0, []⟩, slotB := ⟨0, []⟩, planRec0 := ⟨0, 0, false⟩, planRec1 := ⟨0, 0, false⟩,
            fwRec0 := ⟨1, 0, true, 0, true⟩, fwRec1 := ⟨0, 0, false, 0, false⟩, bank0 := [], bank1 := [],
            serial := 0, macA := 0, macB := 0, ip := 0, mask := 0, udp := 48620, boot := 0, settings := [],
            setFmt := 0, faults := [], faultNext := 0, life := 0, planKey := Option.none, ctxKeys := [Option.none, Option.none, Option.none, Option.none],
            updKey := true, wiped := false, wipeCause := 0, history := [], histNext := 0, reserve := 0,
            eraseMax := 0, eraseMean := 0, retired := 0 },
    sys := { step := 0, railsBad := 0, resetLow := false, laneSeen := false, calDone := false, planDone := false,
             pfw := false, returnArmed := false, restarting := false, card := Option.none,
             updPos := 0, updAbort := false, updAct := false, updBank := 1, verified := false, fwAt := 0,
             planAt := Option.none, setMark := Option.none, mspi := 0 },
    pln := { run := Option.none, slot := 0, loading := Option.none, checking := Option.none, target := Option.none, shadow := Option.none,
             swFrom := Option.none, instant := Option.none, xfers := [], live := [], recordDue := false },
    sched := { epoch := 0, shotNo := 0, tickNo := 0, sfNo := 0 },
    lanes := [], seqs := [], pops := [], jobs := [],
    clk := { frozen := false, lost := 0, holdFrom := Option.none, parkAsk := false, parkClk := false, parkPfw := false,
             parkFrom := 0, target := Option.none, ramp := 0, starting := true,
             readyFrom := [Option.none, Option.none, Option.none], passed := [false, false, false], held := false, gates := [0, 0, 0] },
    shb := { lineUntil := List.replicate 16 0, lineCycle := List.replicate 16 0, inState := List.replicate 4 false,
             inStuck := List.replicate 4 false, cmdAt := [], recent := [], lastFwd := 0,
             armed := List.replicate 8 false, gather := [] },
    resync := ⟨Option.none, Option.none⟩,
    units := [], sessions := [],
    upl := { holdFrom := [Option.none, Option.none], ssmAt := [0, 0], icmpAt := 0, icmpN := 0, twoPort := true, next := Option.none,
             allow := [], allowAt := 0, probing := false, candidate := 0 },
    tim := TimState.init, mnt := MntState.init, flt := FltState.init, fld := FldState.init, ofe := OfeState.init,
    fib := FibState.init, tmp := TmpState.init, lpe := LpeState.init,
    drp := [], pai := PaiState.init,
    sessNo := 0, latches := [], ans := ⟨0, 0, []⟩, sent := [], pending := [] }

end Sys2Proof.Machine
end

