-- ==== Sys2Proof/Machine/Store.lean ====
section
/-!
DEFINITION. Finite maps from numbers as sorted lists in one canonical form: keys strictly rising, and no entry equal
to what an unlisted key reads as. Registers, plan tables and memories of the hub are held in this form.
-/

namespace Sys2Proof.Machine

variable {α : Type}

/-- The value at a key; an unlisted key reads as `d` gives. -/
def NMap.get (d : Nat → α) : List (Nat × α) → Nat → α
  | [], k => d k
  | (a, v) :: t, k => if a = k then v else NMap.get d t k

/-- Put an entry before the first entry with a larger key. -/
def NMap.insert (k : Nat) (v : α) : List (Nat × α) → List (Nat × α)
  | [] => [(k, v)]
  | (a, w) :: t => if k < a then (k, v) :: (a, w) :: t else (a, w) :: NMap.insert k v t

/-- Drop every entry of a key. -/
def NMap.erase (k : Nat) : List (Nat × α) → List (Nat × α)
  | [] => []
  | (a, w) :: t => if a = k then NMap.erase k t else (a, w) :: NMap.erase k t

/-- Write a value at a key; writing what an unlisted key reads as removes the entry. -/
def NMap.set [DecidableEq α] (d : Nat → α) (m : List (Nat × α)) (k : Nat) (v : α) : List (Nat × α) :=
  if v = d k then NMap.erase k m else NMap.insert k v (NMap.erase k m)

/-- Drop every entry whose key lies from `lo` below `hi`. -/
def NMap.clear (lo hi : Nat) (m : List (Nat × α)) : List (Nat × α) :=
  m.filter (fun e => e.1 < lo || hi ≤ e.1)

/-- Write consecutive values from a key on, the keys `stride` apart. -/
def NMap.setMany [DecidableEq α] (d : Nat → α) (stride : Nat) :
    List (Nat × α) → Nat → List α → List (Nat × α)
  | m, _, [] => m
  | m, k, v :: vs => NMap.setMany d stride (NMap.set d m k v) (k + stride) vs

/-- The canonical form. -/
def NMap.wf [DecidableEq α] (d : Nat → α) : List (Nat × α) → Bool
  | [] => true
  | [(a, v)] => decide (v ≠ d a)
  | (a, v) :: (b, w) :: t => decide (v ≠ d a) && decide (a < b) && NMap.wf d ((b, w) :: t)

end Sys2Proof.Machine
end

