-- ==== Sys2Proof/Machine/Ops.lean ====
section
/-!
DEFINITION. The named operations every chapter uses: register words and fields, counters, error reports, event bits
and notices, time, memory bytes, free values.
-/

namespace Sys2Proof.Machine

/-- The outcome of a command that completes. -/
abbrev ok (s : State) : Host.Outcome State Fault Refusal := .next s

/-! ### Registers -/

/-- The key of a copy of a register that a page holds per context, per channel or per entry (R462). -/
abbrev copyKey (addr idx : Nat) : Nat := addr + 0x1000000 * (idx + 1)

/-- The word a register holds. -/
def State.rd (s : State) (a : Nat) : Word := NMap.get resetWord s.regs a

/-- The state with a register word replaced. -/
def State.wr (s : State) (a : Nat) (w : Word) : State := { s with regs := NMap.set resetWord s.regs a w }

/-- A field of a register, as an unsigned number. -/
def State.rf (s : State) (a : Nat) (f : Fld) : Nat := (s.rd a).get f

/-- The state with a field of a register replaced. -/
def State.wf (s : State) (a : Nat) (f : Fld) (v : Nat) : State := s.wr a ((s.rd a).put f v)

/-- A one-bit field as a truth value. -/
def State.flag (s : State) (a : Nat) (f : Fld) : Bool := s.rf a f != 0

/-- A 64-bit value held in a LO and HI register. -/
def State.wr64 (s : State) (lo hi : Nat) (v : Nat) : State := (s.wr lo (w32 v)).wr hi (w32 (v / 2 ^ 32))

/-- The value of a LO and HI register pair. -/
def State.rd64 (s : State) (lo hi : Nat) : Nat := (s.rd lo).toNat + 2 ^ 32 * (s.rd hi).toNat

/-- A fresh index for a free value. -/
def State.fresh (s : State) : State := { s with free := s.free + 1 }

/-- Place of a counter of corrected reads, or of uncorrectable reads, in the TELEMETRY record (R418). -/
def corrPlace (a : Nat) : Option Nat :=
  if a = Reg.PSS_CORR then some 0 else if a = Reg.SCU_SGM_CORR then some 1
  else if a = Reg.SPL_SPM_CORR then some 2 else if a = Reg.MEM_SCM_CORR then some 3 else none
def uncorrPlace (a : Nat) : Option Nat :=
  if a = Reg.PSS_UNCORR then some 0 else if a = Reg.SCU_SGM_UNCORR then some 1
  else if a = Reg.SPL_SPM_UNCORR then some 2 else if a = Reg.MEM_SCM_UNCORR then some 3 else none

/-- Add to the totals that telemetry reports since full reset; they saturate (R418). -/
def State.tally (s : State) (a n : Nat) : State :=
  match corrPlace a, uncorrPlace a with
  | some i, _ => { s with mnt := { s.mnt with corr := setAt s.mnt.corr i (satU 32 (nth s.mnt.corr i 0 + n)) } }
  | _, some i => { s with mnt := { s.mnt with uncorr := setAt s.mnt.uncorr i (satU 32 (nth s.mnt.uncorr i 0 + n)) } }
  | _, _ => s

/-- Add one to a read-clear event counter. What it holds after an event at 0xFFFF_FFFF is open: a free value. -/
def State.count (s : State) (a : Nat) : State :=
  let s1 := s.tally a 1
  if s.rd a = 0xFFFFFFFF then (s1.wr a (Config.counterOver s.free)).fresh else s1.wr a (s.rd a + 1)

/-- Add `n` to a read-clear event counter, with the same free value past 0xFFFF_FFFF. -/
def State.countN (s : State) (a n : Nat) : State :=
  let s1 := s.tally a n
  if (s.rd a).toNat + n < 2 ^ 32 then s1.wr a (s.rd a + w32 n) else (s1.wr a (Config.counterOver s.free)).fresh

/-- Add one to a counter that the chapter counts modulo 2^32. -/
def State.countMod (s : State) (a : Nat) : State := s.wr a (s.rd a + 1)

/-- Keep the larger of a register and `v`. -/
def State.keepMax (s : State) (a v : Nat) : State := if (s.rd a).toNat < v then s.wr a (w32 (min v 0xFFFFFFFF)) else s

/-- The page number of a page name's first register address. -/
abbrev pageOf (addr : Nat) : Nat := addr / 0x1000

/-! ### Time -/

/-- One millisecond, one second in line ticks (R3). -/
abbrev tickMs : Nat := 1031250
abbrev tickS : Nat := 1031250000

/-- The short time-stamp now (R4). -/
def State.now (s : State) : Word := loW s.ltc

/-- Let the LTC run up to an instant that the schedule names. The LTC never steps back (R3, R14). -/
def State.advance (s : State) (t : Time) : State :=
  if s.ltcRun && decide (s.ltc.toNat < t.toNat) then { s with ltc := t } else s

/-! ### Pages: gates, events and notices -/

/-- The gate bit of a page (R453): register and bit number. -/
def gateBit (page : Nat) : Option (Nat × Nat) :=
  if page = 0x10 ∨ page = 0x11 ∨ page = 0x13 then some (Reg.CLK_GATE0, 0)
  else if page = 0x14 then some (Reg.CLK_GATE0, 1)
  else if page = 0x18 ∨ page = 0x1b ∨ (0x100 ≤ page ∧ page < 0x140) then some (Reg.CLK_GATE0, 2)
  else if page = 0x31 ∨ (0x140 ≤ page ∧ page < 0x160) then some (Reg.CLK_GATE0, 3)
  else if page = 0x39 then some (Reg.CLK_GATE0, 4)
  else if page = 0x49 ∨ page = 0x51 then some (Reg.CLK_GATE0, 5)
  else if page = 0x4c ∨ page = 0x4d ∨ page = 0x52 ∨ page = 0x53 then some (Reg.CLK_GATE0, 6)
  else if page = 0x5b then some (Reg.CLK_GATE0, 7)
  else if 0x20 ≤ page ∧ page < 0x30 then some (Reg.CLK_GATE1, page - 0x20)
  else if 0x1a0 ≤ page ∧ page < 0x1b0 then some (Reg.CLK_GATE2, page - 0x1a0)
  else none

/-- The context the management port serves (R364); C3 with STRAP_ERR. -/
def State.mgmtCtx (s : State) : Nat :=
  if s.flag Reg.SYS_STAT Fd.SYS_STAT_STRAP_ERR then 3 else 3 - s.rf Reg.SYS_STAT Fd.SYS_STAT_STRAP_MGMT

/-- Change a context's session where it has one. -/
def State.onSession (s : State) (x : Nat) (f : Session → Session) : State :=
  { s with sessions := s.sessions.map (fun q => if q.ctx = x then f q else q) }

/-- Note for one session that a page has an event to send (R359): at once, or when the gathering time of the page's
last notice ends. -/
def Session.noteDue (q : Session) (page hold : Nat) (now : Time) : Session :=
  if q.due.any (fun d => d.1 = page) then q
  else
    match q.recent.find? (fun r => r.1 = page) with
    | some r =>
      let t := r.2 + BitVec.ofNat 64 (hold * tickMs)
      if now.toNat < t.toNat then { q with due := q.due ++ [(page, some t)] }
      else { q with due := q.due ++ [(page, none)] }
    | none => { q with due := q.due ++ [(page, none)] }

/-- A set and enabled bit of a page causes the notice of every context that enables it (R359, R455). -/
def State.noteEvent (s : State) (page bit : Nat) : State :=
  let hold := s.rf Reg.SLZ_CFG Fd.SLZ_CFG_NOTICE_HOLD
  { s with sessions := s.sessions.map (fun q =>
      if Word.bit (s.rd (Reg.HDR_IRQ_EN_C page q.ctx)) bit then q.noteDue page hold s.ltc else q) }

/-- Set IRQ_RAW bit `bit` of a page by its event. A rise adds one to SEQ and causes notices (R455, R456). -/
def State.raise (s : State) (page bit : Nat) : State :=
  let raw := s.rd (Reg.HDR_IRQ_RAW page)
  if Word.bit raw bit then s
  else
    let s1 := s.wr (Reg.HDR_IRQ_RAW page) (Word.setBit raw bit)
    (s1.countMod (Reg.HDR_SEQ page)).noteEvent page bit

/-- An error report of a page: ERR_CODE, ERR_COUNT, IRQ_RAW.ERR, SEQ (R456). ERR_COUNT saturates. -/
def State.err (s : State) (page code : Nat) : State :=
  let n := s.rd (Reg.HDR_ERR_COUNT page)
  let s1 := s.wr (Reg.HDR_ERR_CODE page) (w32 code)
  let s2 := if n = 0xFFFFFFFF then s1 else s1.wr (Reg.HDR_ERR_COUNT page) (n + 1)
  let raw := s2.rd (Reg.HDR_IRQ_RAW page)
  let s3 := (s2.wr (Reg.HDR_IRQ_RAW page) (Word.setBit raw 31)).countMod (Reg.HDR_SEQ page)
  if Word.bit raw 31 then s3 else s3.noteEvent page 31

/-- IRQ_N is driven low while any page has a set bit that the management context enables, once Winch has loaded the
settings (R365). -/
def State.irqLow (s : State) : Bool :=
  decide (4 < s.sys.step) &&
  (List.range 0x1b0).any (fun p => (s.rd (Reg.HDR_IRQ_RAW p) &&& s.rd (Reg.HDR_IRQ_EN_C p s.mgmtCtx)) != 0)

/-- PAGE_ID (R453, R454): version 1, instance, block code. -/
def pageId (page : Nat) : Word :=
  let first :=
    if 0x20 ≤ page ∧ page < 0x30 then 0x20 else if 0x50 ≤ page ∧ page < 0x54 then 0x50
    else if 0x100 ≤ page ∧ page < 0x140 then 0x100 else if 0x140 ≤ page ∧ page < 0x160 then 0x140
    else if 0x160 ≤ page ∧ page < 0x1a0 then 0x160 else if 0x1a0 ≤ page then 0x1a0 else page
  w32 (1 + 0x100 * (page - first) + 0x10000 * (0x1000 + first))

/-- PAGE_CAPS (R459). -/
def pageCaps (page : Nat) : Word :=
  let plan := page = 0x10 ∨ page = 0x11 ∨ page = 0x12 ∨ page = 0x13 ∨ page = 0x14 ∨ page = 0x18 ∨ page = 0x19 ∨
    page = 0x1a ∨ page = 0x1b ∨ (0x20 ≤ page ∧ page < 0x30) ∨ page = 0x30 ∨ page = 0x32 ∨ page = 0x58 ∨ 0x100 ≤ page
  let sel := page = 0x19 ∨ page = 0x1a ∨ page = 0x32 ∨ page = 0x38 ∨ page = 0x5a
  let irq :=
    if page = 0x3 ∨ page = 0x31 then 0
    else if page = 0x0 ∨ page = 0x8 ∨ page = 0x1a ∨ page = 0x32 ∨ page = 0x38 ∨ page = 0x39 ∨ page = 0x40 ∨
      page = 0x59 ∨ page = 0x5a then 1
    else if page = 0x2 ∨ page = 0x4 ∨ page = 0x5 ∨ page = 0x6 ∨ page = 0x1b ∨ page = 0x5b ∨ page = 0x5c then 2
    else if page = 0x1 ∨ page = 0x19 ∨ page = 0x4d ∨ (0x50 ≤ page ∧ page < 0x54) then 4
    else if page = 0x10 ∨ (0x20 ≤ page ∧ page < 0x30) ∨ (0x100 ≤ page ∧ page < 0x140) then 5
    else if page = 0x18 then 7
    else 3
  w32 (b2n (gateBit page).isSome + 2 * b2n (decide plan) + 4 * b2n (decide sel) + 0x100 * irq)

/-! ### Memory bytes -/

/-- What a byte of memory reads as that nothing has written since full reset. -/
def memDefault (_ : Nat) : Byte := 0

/-- One byte of the memories held by address. -/
def State.rdByte (s : State) (a : Nat) : Byte := NMap.get memDefault s.mem a

/-- Store one byte. -/
def State.wrByte (s : State) (a : Nat) (b : Byte) : State := { s with mem := NMap.set memDefault s.mem a b }

/-- Store bytes at rising addresses. -/
def State.wrBytes (s : State) : Nat → List Byte → State
  | _, [] => s
  | a, b :: bs => (s.wrByte a b).wrBytes (a + 1) bs

/-- Bytes at rising addresses. -/
def State.rdBytes (s : State) (a : Nat) : Nat → List Byte
  | 0 => []
  | n + 1 => s.rdByte a :: s.rdBytes (a + 1) n

/-- A little-endian word of memory. -/
def State.rdWord (s : State) (a : Nat) : Word := w32 (leNat (s.rdBytes a 4))

/-- Store a little-endian word. -/
def State.wrWord (s : State) (a : Nat) (w : Word) : State := s.wrBytes a (wordBytes w)

/-- The invariant of the two maps: canonical form of registers and memory. -/
def State.memWf (s : State) : Bool := NMap.wf memDefault s.mem && NMap.wf resetWord s.regs

/-- Append to what the hub has sent. -/
def State.emitOut (s : State) (o : Out) : State := { s with sent := s.sent ++ [o] }

/-- An error is logged in the fault log: a ring, of which a full one overwrites its oldest entry (R444). -/
def State.logFault (s : State) (err page data : Nat) : State :=
  let e : FaultEnt := ⟨s.ltc, s.nv.boot, err, page, data, s.ltc.toNat / tickS⟩
  let l := s.nv.faults ++ [e]
  { s with nv := { s.nv with
             faults := l.drop (l.length - Config.faultCap)
             faultNext := if Config.faultCap = 0 then 0 else (s.nv.faultNext + 1) % Config.faultCap },
           mnt := { s.mnt with faultCount := satU 32 (s.mnt.faultCount + 1) } }

/-- The role of the hub in a pair: 0 STANDALONE, 1 ACTIVE, 2 STANDBY, 3 DEPOSED (R403). -/
def State.role (s : State) : Nat := s.rf Reg.PAI_STAT Fd.PAI_STAT_ROLE

/-- The hub launches, excites and drives outputs (R77, R385): it is standalone or active, and its role is settled. -/
def State.drives (s : State) : Bool :=
  s.role == 1 || (s.role == 0 && (!s.flag Reg.SYS_STAT Fd.SYS_STAT_STRAP_PAIR || s.pai.settled))

/-- SYNC of PAI.STAT (R403): 0 NONE, 1 JOINING, 2 SYNCING, 3 IN_SYNC. On an active hub it is that of its standby. -/
def State.syncState (s : State) : Nat := s.rf Reg.PAI_STAT Fd.PAI_STAT_SYNC

/-- A tether lane. -/
def State.tlane (s : State) (i : Nat) : TethLane := nth s.pai.lanes i TethLane.init

/-- A tether message on lane `i`, numbered per kind and lane (R386). -/
def State.sendTether (s : State) (i kind : Nat) (m : TethMsg) : State :=
  let key := 256 * i + kind
  let n := NMap.get (fun _ => 0) s.pai.seqs key
  { s with
    pai := { s.pai with seqs := NMap.set (fun _ => 0) s.pai.seqs key ((n + 1) % 2 ^ 32) },
    sent := s.sent ++ [.tether i kind n m] }

/-- A message on the lane that carries its kind, or on the remaining lane (R386, R400). -/
def State.sendLane (s : State) (i kind : Nat) (m : TethMsg) : State :=
  if (s.tlane i).up then s.sendTether i kind m
  else if (s.tlane (1 - i)).up then s.sendTether (1 - i) kind m else s

/-- A message on both lanes. -/
def State.sendBoth (s : State) (kind : Nat) (m : TethMsg) : State :=
  let s1 := if (s.tlane 0).up then s.sendTether 0 kind m else s
  if (s1.tlane 1).up then s1.sendTether 1 kind m else s1

/-- The active hub of a pair has a standby that joins, syncs or is in sync. -/
def State.hasStandby (s : State) : Bool := s.role == 1 && s.syncState != 0

/-- No schedule runs, so that no boundary comes: no plan, or one without periods (R54). -/
def State.unscheduled (s : State) : Bool :=
  match s.pln.run with
  | some p => p.shotPeriod == 0 && p.superframe == 0 && p.fieldTick == 0
  | none => true

/-- Gather an item for the next shot-end copy (R389). DESIGN CHOICE (log 141): without a schedule, which has no shot end,
the item is copied at once. -/
def State.copyItem (s : State) (o : CopyOp) : State :=
  if !s.hasStandby then s
  else if s.unscheduled then
    let no := s.pai.copyNo + 1
    { s with pai := { s.pai with ops := [], copyNo := no } }.sendBoth 5 (.copy ⟨no, s.ltc, none, s.pai.ops ++ [o]⟩)
  else { s with pai := { s.pai with ops := s.pai.ops ++ [o] } }

/-- A standby is being brought into sync: on either hub (R398). -/
def State.syncing (s : State) : Bool := decide (1 ≤ s.role) && decide (s.role ≤ 2) && (s.syncState == 1 || s.syncState == 2)

/-- A producer's SRC class is in sync (R398); outside resynchronisation every one is. -/
def State.producerSynced (s : State) (cls idx size : Nat) : Bool :=
  if !s.syncing then true
  else
    let g := s.pai.prog
    match cls with
    | 1 | 2 => g.zones
    | 3 => g.raman
    | 4 => g.field
    | 5 => g.node
    | 6 => decide (size ≤ NMap.get (fun _ => 0) g.seen idx)
    | 7 => g.cores.contains (idx / 256)
    | _ => s.syncState == 2

/-- The hub is one of a pair whose two hubs act together at the boundaries of a schedule, from the standby's joining on
(R54, R285, R398). -/
def State.paired (s : State) : Bool := (s.hasStandby || s.role == 2) && !s.unscheduled

end Sys2Proof.Machine
end

