-- ==== Sys2Proof/Machine/SpoolOps.lean ====
section
/-!
DEFINITION. Shared operations on spools: routing, acceptance, GAP accounts, pops and lane operations (R272 to R286).
-/

namespace Sys2Proof.Machine

/-- The lane numbered spool × 4 + lane. -/
def State.lane (s : State) (k : Nat) : Lane := NMap.get (fun _ => Lane.init) s.lanes k

/-- Items C of a capture unit (R252, R253). -/
def State.capItems (s : State) (u : Nat) : Nat :=
  let n := s.rf (Reg.SCUN_SEL u) Fd.SCUN_SEL_NUM
  if n = 0 then 0 else (64 * s.rf (Reg.SCUN_SIZE u) Fd.SCUN_SIZE_SEG_SIZE - 48) / (4 * n)

/-- The state with a lane replaced. -/
def State.setLane (s : State) (k : Nat) (l : Lane) : State :=
  { s with lanes := NMap.set (fun _ => Lane.init) s.lanes k l }

/-- The running plan's entry for a spool has USED set (R272, R274). -/
def Plan.spoolUsed (p : Plan) (sp : Nat) : Bool :=
  match p.spools[sp]? with
  | some e => e.flags % 2 == 1
  | none => false

/-- The running plan uses the spool. -/
def State.spoolUsed (s : State) (sp : Nat) : Bool :=
  match s.pln.run with
  | some p => p.spoolUsed sp
  | none => false

/-- The spool may be read: it is used, or one of its lanes is RETIRED (R286). -/
def State.spoolReadable (s : State) (sp : Nat) : Bool :=
  s.spoolUsed sp || (List.range 4).any (fun l => (s.lane (4 * sp + l)).retired)

/-- Bytes a lane holds from REL_NO to WR_NO (R276). -/
def Lane.used (l : Lane) : Nat := (l.items.map Item.size).sum

/-- Visible unread items (R276). -/
def Lane.unread (l : Lane) : List Item := (l.items.drop (l.rd - l.rel)).takeWhile (fun i => i.vis.isSome)

/-- Depth of a lane (R276). -/
def Lane.depth (l : Lane) : Nat := l.unread.length

/-- SRC word of a record header (R11). -/
def srcWord (cls idx : Nat) : Word := w32 (cls * 2 ^ 28 + idx % 2 ^ 28)

/-- The key of a SEQ counter: SRC and KIND (R11). -/
def seqKey (cls idx kind : Nat) : Nat := (cls * 2 ^ 28 + idx) * 2 ^ 16 + kind

/-- The SEQ of the next record of a source and kind. -/
def State.seqOf (s : State) (cls idx kind : Nat) : Nat := NMap.get (fun _ => 0) s.seqs (seqKey cls idx kind)

/-- Count a record of a source and kind, modulo 2^32. -/
def State.bumpSeq (s : State) (cls idx kind : Nat) : State :=
  { s with seqs := NMap.set (fun _ => 0) s.seqs (seqKey cls idx kind) ((s.seqOf cls idx kind + 1) % 2 ^ 32) }

/-- The 16 header bytes of a record (R11). -/
def Rec.header (r : Rec) : List Byte :=
  le2 r.kind ++ le2 r.payload.length ++ wordBytes (srcWord r.cls r.idx) ++ le4 r.seq ++ wordBytes (loW r.ref)

/-- The 16 descriptor bytes of an item (R273). -/
def Item.descriptor (i : Item) (lane : Nat) : List Byte :=
  le4 i.no ++ le2 i.out.length ++ by1 lane ++ by1 i.flags ++ by1 i.pf ++ by1 i.level ++ le2 0 ++
    wordBytes (i.vis.getD 0)

/-- Region size of a lane. -/
def State.laneSize (s : State) (k : Nat) : Nat := (s.rd (Reg.SPLN_SIZE (k / 4) (k % 4))).toNat

/-- Compression level of a spool, 0 for none. -/
def State.spoolLevel (s : State) (sp : Nat) : Nat := s.rf (Reg.SPLN_CFG sp) Fd.SPLN_CFG_LEVEL

/-- A record of LEN `n` is a compression job in this spool (R287). -/
def State.isJob (s : State) (sp n : Nat) : Bool :=
  let lv := s.spoolLevel sp
  decide (1 ≤ lv) && decide (lv ≤ 4) && decide (s.rf (Reg.SPLN_CFG sp) Fd.SPLN_CFG_MIN_LEN ≤ n)

/-- Stored size S of a record (R273). -/
def State.storedSize (s : State) (sp n : Nat) : Nat :=
  32 + 16 * (if s.isJob sp n then max 1 (ceilDiv n 16) else ceilDiv n 16)

/-- Store an accepted record as the lane's next item (R273, R275, R287): visible at once, or with its job, or behind
an item that still waits for its job. -/
def State.storeItem (s : State) (k : Nat) (r : Rec) : State :=
  let sp := k / 4
  let l := s.lane k
  let n := r.payload.length
  let job := s.isJob sp n
  let held := l.items.any (fun i => i.vis.isNone)
  let vis := if job || held then none else some s.now
  let bypass := decide (1 ≤ s.spoolLevel sp) && decide (s.spoolLevel sp ≤ 4) && !job
  let it : Item := ⟨l.wr % 2 ^ 32, r, s.storedSize sp n, r.payload, if bypass then 8 else 0, 0, 0, vis, false⟩
  let s1 := s.setLane k { l with
    items := l.items ++ [it], wr := l.wr + 1,
    staleFrom := if l.depth = 0 ∧ vis.isSome then s.ltc else l.staleFrom }
  let s2 := if bypass then s1.count Reg.CMP_BYPASS else s1
  if job then
    { s2 with jobs := s2.jobs ++
        [⟨k, l.wr % 2 ^ 32, s.spoolLevel sp, s.rf (Reg.SPLN_CFG sp) Fd.SPLN_CFG_PF, s.ltc, none, false, false⟩] }
  else s2

/-- The payload of a GAP record (R281). -/
def GapAcct.payload (g : GapAcct) (lane : Nat) : List Byte :=
  by1 g.cause ++ by1 lane ++ le2 (b2n g.multi + 2 * b2n g.sat) ++ le4 g.items ++ le8 g.firstLtc.toNat ++
    wordBytes g.lastLtc ++ le4 g.bytes ++ wordBytes g.firstSrc ++ le4 g.firstSeq

/-- Write the lane's oldest GAP account as a GAP record (R280, R281). -/
def State.writeGap (s : State) (k : Nat) : State :=
  match (s.lane k).gaps with
  | [] => s
  | g :: gs =>
    let r : Rec := ⟨0x7, 0x8, 0x200 + k, s.seqOf 0x8 (0x200 + k) 0x7, g.firstLtc, g.payload (k % 4)⟩
    let s1 := ((s.setLane k { s.lane k with gaps := gs }).bumpSeq 0x8 (0x200 + k) 0x7).storeItem k r
    ((s1.count (Reg.SPLN_GAPS (k / 4) (k % 4))).countMod Reg.SPL_GAP_ALL).raise (0x160 + k / 4) 1

/-- Write all the lane's GAP accounts, oldest first. -/
def State.writeGaps (s : State) (k : Nat) : State := iter (s.lane k).gaps.length (fun _ a => a.writeGap k) s

/-- Add a drop to a GAP account; counts stop at 0xFFFF_FFFF and set SAT (R281). -/
def GapAcct.add (g : GapAcct) (r : Rec) (size : Nat) : GapAcct :=
  { g with
    items := satU 32 (g.items + 1), bytes := satU 32 (g.bytes + size), lastLtc := loW r.ref,
    multi := g.multi || decide (g.firstSrc ≠ srcWord r.cls r.idx),
    sat := g.sat || decide (2 ^ 32 ≤ g.items + 1) || decide (2 ^ 32 ≤ g.bytes + size) }

/-- The account a first drop opens. -/
def GapAcct.first (cause : Nat) (r : Rec) (size : Nat) : GapAcct :=
  ⟨cause, 1, r.ref, loW r.ref, size, srcWord r.cls r.idx, r.seq, false, false⟩

/-- Drop a record: its lane's account, the drop counters and the reports (R280, R298). An open account of another
cause is closed first. -/
def State.dropItem (s : State) (k cause : Nat) (r : Rec) : State :=
  let sp := k / 4
  let L := k % 4
  let l := s.lane k
  let size := s.storedSize sp r.payload.length
  let gaps :=
    match l.gaps.getLast? with
    | some g => if g.cause = cause then l.gaps.dropLast ++ [g.add r size] else l.gaps ++ [GapAcct.first cause r size]
    | none => [GapAcct.first cause r size]
  let firstDrop := decide (s.rd (Reg.SPLN_DROPS sp L) = 0)
  let s1 := s.setLane k { l with gaps := gaps, full := cause == 1 || l.full }
  let s2 := ((s1.count (Reg.SPLN_DROPS sp L)).countN (Reg.SPLN_LOST_BYTES sp L) size).count Reg.SPL_DROP_ALL
  let s3 := if cause = 1 then s2.raise (0x160 + sp) 2 else s2
  if firstDrop then s3.err (0x160 + sp) Err.SPL_GAP else s3

/-- A record reaches a lane: accepted with its GAP records before it, or dropped (R275, R280). An unused or retired
lane takes nothing; a shed lane drops with CAUSE SHED (R368); what a takeover lost is accounted with CAUSE TAKEOVER
(R393). -/
def State.pushOwn (s : State) (k : Nat) (r : Rec) : State :=
  let l := s.lane k
  if !s.spoolUsed (k / 4) || l.retired || s.laneSize k == 0 then s
  else if s.pai.lost then s.dropItem k 3 r
  else if l.shed then s.dropItem k 2 r
  else
    let need := 64 * l.gaps.length + s.storedSize (k / 4) r.payload.length + 64
    if l.used + need ≤ s.laneSize k then
      let s1 := (s.writeGaps k).storeItem k r
      s1.setLane k { s1.lane k with full := false }
    else s.dropItem k 1 r

/-- A producer's record reaches a lane. Until the producer is in sync, the active hub forwards the item's lane and size,
and the standby takes only that (R398). -/
def State.push (s : State) (k : Nat) (r : Rec) : State :=
  let need := if r.cls = 6 then s.capItems r.idx else 0
  if s.producerSynced r.cls r.idx need then s.pushOwn k r
  else if s.role = 2 then s
  else
    (s.pushOwn k r).sendLane 1 7
      (.bulk (.item k ⟨s.storedSize (k / 4) r.payload.length, r.kind, r.cls, r.idx, r.seq, r.ref⟩))

/-- A placeholder takes the place of an item that a producer of the active hub pushed (R398). -/
def State.pushPlaceholder (s : State) (k size : Nat) (r : Rec) : State :=
  let l := s.lane k
  if !s.spoolUsed (k / 4) || l.retired || s.laneSize k == 0 then s
  else if l.shed || decide (s.laneSize k < l.used + 64 * l.gaps.length + size + 64) then
    s.dropItem k (if l.shed then 2 else 1) { r with payload := List.replicate (size - 32) 0 }
  else
    let s1 := s.writeGaps k
    let l1 := s1.lane k
    let it : Item := ⟨l1.wr % 2 ^ 32, r, size, [], 0, 0, 0, some s.now, true⟩
    s1.setLane k { l1 with
      items := l1.items ++ [it], wr := l1.wr + 1, full := false, staleFrom := if l1.depth = 0 then s.ltc else l1.staleFrom }

/-- The GAP accounts of a lane are written at a boundary, the oldest first, each when 64 bytes are free (R280). -/
def State.gapBoundary (s : State) (k : Nat) : State :=
  iter (s.lane k).gaps.length (fun _ a =>
    let l := a.lane k
    if l.used + 64 ≤ a.laneSize k then a.writeGap k else a) s

/-- The route of a record (R274): the first entry that matches class, index and kind. -/
def findRoute (p : Plan) (cls idx kind : Nat) : Option RouteEnt :=
  p.routes.find? (fun e =>
    e.cls == cls && decide (e.first ≤ idx) && decide (idx < e.first + e.count) && (e.kind == 0 || e.kind == kind))

/-- The lane a DEST byte names: [5:0] spool, [7:6] lane. -/
def destLane (d : Nat) : Nat := 4 * (d % 64) + d / 64 % 4

/-- Hand a record to the spools its route names; a record that no route takes is not made (R274). -/
def State.emit (s : State) (kind cls idx : Nat) (ref : Time) (payload : List Byte) : State :=
  match s.pln.run with
  | none => s
  | some p =>
    match findRoute p cls idx kind with
    | none => s
    | some e =>
      let r : Rec := ⟨kind, cls, idx, s.seqOf cls idx kind, ref, payload⟩
      let s1 := (s.bumpSeq cls idx kind).push (destLane e.dest) r
      if e.dest2En then s1.push (destLane e.dest2) r else s1

/-- The payload of a MARK record (R262). -/
def markPayload (kind line source unit flags : Nat) (t : Time) (arg0 arg1 : Nat) : List Byte :=
  by1 kind ++ by1 line ++ le2 source ++ by1 unit ++ by1 flags ++ le2 0 ++ le8 t.toNat ++ le8 arg0 ++ le8 arg1

/-- Spools that receive system marks under a plan, each with its lane (R274, R262). -/
def Plan.sysLanes (p : Plan) : List Nat :=
  (List.range 64).filterMap (fun sp =>
    match p.spools[sp]? with
    | some e => if e.flags % 2 = 1 ∧ e.flags / 8 % 2 = 1 then some (4 * sp + e.flags / 16 % 4) else none
    | none => none)

/-- Write a system mark into the given lanes: one record, one SEQ (R262). -/
def State.sysMarkTo (s : State) (lanes : List Nat) (kind : Nat) (t : Time) (arg0 arg1 : Nat) : State :=
  if lanes = [] then s
  else
    let r : Rec := ⟨0x6, 0x8, 0, s.seqOf 0x8 0 0x6, t, markPayload kind 0xFF 0xFFFF 0xFF 0 t arg0 arg1⟩
    lanes.foldl (fun a k => a.push k r) (s.bumpSeq 0x8 0 0x6)

/-- Write a system mark into every spool to which the running plan routes system marks. -/
def State.sysMark (s : State) (kind : Nat) (t : Time) (arg0 arg1 : Nat) : State :=
  match s.pln.run with
  | none => s
  | some p => s.sysMarkTo p.sysLanes kind t arg0 arg1

/-- The context of an access (R462, R364): index of its copies; Winch has its own. -/
def State.whoIdx (s : State) : Accessor → Nat
  | .ctx c => c.val
  | .mgmt => s.mgmtCtx
  | .winch => 4

/-- Free a lane's items up to an item number (R276); on a standby, whose lanes nobody reads, MARK_NO and RD_NO go along. -/
def Lane.freeUpTo (l : Lane) (n : Nat) : Lane :=
  { l with items := l.items.drop (n - l.rel), rel := max l.rel n, mark := max l.mark n, rd := max l.rd n }

/-- Move REL_NO of a lane to `n`: at once, or in a pair at the next boundary (R285). -/
def Lane.release (l : Lane) (pair : Bool) (n : Nat) : Lane :=
  if pair then { l with freeTo := some n } else l.freeUpTo n

/-- A freed lane of a spool the plan has retired stops being RETIRED once it is empty (R286). -/
def Lane.settle (l : Lane) : Lane :=
  if l.retired && decide (l.items = []) && decide (l.gaps = []) then { l with retired := false } else l

/-- At a boundary (R285): the release that was copied at the shot end before takes effect, and one made since is copied
now. Without a standby in sync every release takes effect. -/
def Lane.applyFree (l : Lane) (pair : Bool) : Lane :=
  let a : Lane := match l.freeNow with
    | some n => ({ l with freeNow := none }.freeUpTo n).settle
    | none => l
  match a.freeTo with
  | none => a
  | some n => if pair then { a with freeTo := none, freeNow := some n } else ({ a with freeTo := none }.freeUpTo n).settle

/-- A lane operation (R277): 1 MARK, 2 REWIND, 3 RELEASE_MARK, 4 RELEASE_READ. -/
def Lane.operate (l : Lane) (pair : Bool) (op : Nat) : Lane :=
  if op = 1 then { l with mark := l.rd }
  else if op = 2 then { l with rd := l.mark }
  else if op = 3 then (l.release pair l.mark).settle
  else if op = 4 then (({ l with mark := l.rd }).release pair l.rd).settle
  else l

/-- The state with a lane replaced; a release that it now waits for is copied to the standby (R389). -/
def State.setReleased (s : State) (k : Nat) (l : Lane) : State :=
  let s1 := s.setLane k l
  if l.freeTo = (s.lane k).freeTo then
    (if l.rel = (s.lane k).rel then s1 else s1.copyItem (.free k l.rel))
  else
    match l.freeTo with
    | some n => s1.copyItem (.free k n)
    | none => s1

/-- The operation on one lane, or on all four lanes of a spool (R277, R282). -/
def State.laneOp (s : State) (sp lane : Nat) (all : Bool) (op : Nat) : State :=
  let go (a : State) (k : Nat) : State :=
    let l := (a.lane k).operate s.paired op
    -- a REWIND may make the lane non-empty
    a.setReleased k (if (a.lane k).depth = 0 ∧ l.depth ≠ 0 then { l with staleFrom := s.ltc } else l)
  if all then [0, 1, 2, 3].foldl (fun a i => go a (4 * sp + i)) s else go s (4 * sp + lane)

/-- The lanes a pop looks at (R276): the named one, or all in priority order. -/
def popLanes (sp lane : Nat) (oneLane : Bool) : List Nat :=
  if oneLane then [4 * sp + lane] else [4 * sp, 4 * sp + 1, 4 * sp + 2, 4 * sp + 3]

/-- The GAP record that a pop returns in place of items it cannot read (R283). -/
def uncorrItem (s : State) (k : Nat) (it : Item) (count : Nat) : Item :=
  let g : GapAcct := { GapAcct.first 4 it.record it.size with items := count }
  let r : Rec := ⟨0x7, 0x8, 0x200 + k, s.seqOf 0x8 (0x200 + k) 0x7, it.record.ref, g.payload (k % 4)⟩
  { it with record := r, out := r.payload, flags := 0, pf := 0, level := 0 }

/-- After a pop from a lane: RD_NO advances, the stale timer restarts, and REL_ON_READ releases (R276, R277, R282). -/
def Lane.afterPop (l : Lane) (pair : Bool) (relOnRead : Bool) (rd : Nat) (now : Time) : Lane :=
  let l1 := { l with rd := rd, stale := false, staleFrom := now }
  if relOnRead then (({ l1 with mark := rd }).release pair rd).settle else l1

/-- Pop an item (R276, R283): the item with its lane, or nothing where every lane looked at has depth 0. -/
def State.popItem (s : State) (sp lane : Nat) (oneLane : Bool) (ecc : Ecc) : Option (Nat × Item) × State :=
  match (popLanes sp lane oneLane).find? (fun k => decide ((s.lane k).depth ≠ 0)) with
  | none => (none, s)
  | some k =>
    let l := s.lane k
    match l.unread with
    | [] => (none, s)
    | it :: _ =>
      let ror := s.flag (Reg.SPLN_CFG sp) Fd.SPLN_CFG_REL_ON_READ
      let moved := s.setReleased k (l.afterPop s.paired ror (l.rd + 1) s.ltc)
      match ecc with
      | .clean => (some (k, it), moved)
      | .corrected => (some (k, it), moved.count Reg.SPL_SPM_CORR)
      | .body =>
        (some (k, uncorrItem s k it 1),
          (((moved.count Reg.SPL_SPM_UNCORR).bumpSeq 0x8 (0x200 + k) 0x7).err 0x38 Err.SPM_UNCORR).raise 0x38 0)
      | .descriptor =>
        let all := s.setReleased k (({ l with mark := l.wr }).afterPop s.paired ror l.wr s.ltc)
        (some (k, uncorrItem s k it (l.wr - l.rd)),
          (((all.count Reg.SPL_SPM_UNCORR).bumpSeq 0x8 (0x200 + k) 0x7).err 0x38 Err.SPM_UNCORR).raise 0x38 0)

/-- The bytes an item delivers (R273): descriptor, header, data. -/
def Item.delivered (i : Item) (k : Nat) : List Byte := i.descriptor (k % 4) ++ i.record.header ++ i.out

/-- A register read of a status that the lanes give (R296): SPLnn.STAT. -/
def State.spoolStat (s : State) (sp : Nat) : Word :=
  let f (g : Lane → Bool) : Nat := (List.range 4).foldl (fun a i => a + b2n (g (s.lane (4 * sp + i))) * 2 ^ i) 0
  w32 (b2n (s.spoolUsed sp) + 2 * b2n ((List.range 4).any (fun i => (s.lane (4 * sp + i)).retired)) +
    2 ^ 2 * f (fun l => decide (l.depth ≠ 0)) + 2 ^ 6 * f (fun l => l.stale) + 2 ^ 10 * f (fun l => l.full) +
    2 ^ 14 * f (fun l => decide (l.gaps ≠ [])))

/-- A word with bit i set where spool `base + i` has a lane for which `g` holds. -/
def State.spoolBits (s : State) (base : Nat) (g : Lane → Bool) : Word :=
  w32 ((List.range 32).foldl (fun a i =>
    a + b2n ((List.range 4).any (fun L => g (s.lane (4 * (base + i) + L)))) * 2 ^ i) 0)

end Sys2Proof.Machine
end

