-- ==== Sys2Proof/Machine/Spool.lean ====
section
/-!
DEFINITION. The meanings of the spool and compression commands (R275 to R293, R295).
-/

namespace Sys2Proof.Machine

/-! ### Pushes -/

/-- SPOOL_PUSH: a producer's record reaches the lanes its route names (R274, R275, R280). -/
def opSpoolPush (r : RawRecord) (s : State) : State := s.emit r.kind r.cls r.idx r.ref r.payload

def execSpoolPush (r : RawRecord) (s : State) : Host.Outcome State Fault Refusal := ok (opSpoolPush r s)

/-! ### Compression -/

/-- Rank of a job: lane first, then spool (R290); the smaller goes first. -/
def Job.rank (j : Job) : Nat := 64 * (j.lane % 4) + j.lane / 4

/-- The job of best rank, the earliest pushed on a tie. -/
def bestJob : List Job → Option Job
  | [] => none
  | j :: js =>
    match bestJob js with
    | none => some j
    | some b => if b.rank < j.rank then some b else some j

/-- The running job: started, and not waiting at a flush. -/
def runningJob (js : List Job) : Option Job := js.find? (fun j => j.started.isSome && !j.flushed)

/-- COMPRESSION_JOB_START: the engine takes the ready job of best rank; a running job of lower rank flushes and waits
(R290). -/
def opJobStart (s : State) : State :=
  match bestJob s.jobs with
  | none => s
  | some b =>
    let same (j : Job) : Bool := j.lane == b.lane && j.no == b.no
    match runningJob s.jobs with
    | some r =>
      if same r then s
      else
        let js := s.jobs.map (fun j =>
          if j.lane = r.lane ∧ j.no = r.no then { j with flushed := true, cut := true }
          else if same j then { j with started := some (j.started.getD s.ltc), flushed := false } else j)
        (({ s with jobs := js }).count Reg.CMP_FLUSHES).keepMax Reg.CMP_MAX_WAIT
          (if b.started.isSome then 0 else s.ltc.toNat - b.ready.toNat)
    | none =>
      let js := s.jobs.map (fun j =>
        if same j then { j with started := some (j.started.getD s.ltc), flushed := false } else j)
      ({ s with jobs := js }).keepMax Reg.CMP_MAX_WAIT
        (if b.started.isSome then 0 else s.ltc.toNat - b.ready.toNat)

def execCompressionJobStart (s : State) : Host.Outcome State Fault Refusal := ok (opJobStart s)

/-- Items that no longer wait for a job become visible, in order (R275). -/
def showItems (jobs : List Job) (k : Nat) (now : Word) : List Item → List Item
  | [] => []
  | i :: is =>
    if i.vis.isNone && jobs.any (fun j => j.lane == k && j.no == i.no) then i :: is
    else { i with vis := some (i.vis.getD now) } :: showItems jobs k now is

/-- COMPRESSION_JOB_DONE: the running job ends. `mismatch` is the outcome of the engine's own decoding (R291). A job
whose stream passes O fails as a whole (R292); either failure leaves the item uncompressed. -/
def opJobDone (mismatch : Bool) (s : State) : State :=
  match runningJob s.jobs with
  | none => s
  | some j =>
    let l := s.lane j.lane
    let payload := ((l.items.find? (fun i => i.no == j.no)).map (fun i => i.record.payload)).getD []
    let n := payload.length
    let jobs := s.jobs.filter (fun q => !(q.lane == j.lane && q.no == j.no))
    let stream := deflate j.level j.cut (preFilter j.pf payload) s.free
    let fits := decide (stream.length ≤ 16 * max 1 (ceilDiv n 16))
    let upd (i : Item) : Item :=
      if i.no ≠ j.no then i
      else if mismatch then { i with flags := 4 }
      else if fits then { i with flags := 1, pf := j.pf, level := j.level, out := stream }
      else { i with flags := 2 }
    let items := showItems jobs j.lane s.now (l.items.map upd)
    let l1 : Lane := { l with items := items }
    let l2 : Lane := if l.depth = 0 ∧ l1.depth ≠ 0 then { l1 with staleFrom := s.ltc } else l1
    let s1 := (({ s with jobs := jobs }.fresh).setLane j.lane l2).countMod Reg.CMP_JOBS
    let s2 := s1.wr64 Reg.CMP_IN_LO Reg.CMP_IN_HI (s1.rd64 Reg.CMP_IN_LO Reg.CMP_IN_HI + n)
    if mismatch then ((s2.count Reg.CMP_FAIL_VERIFY).err 0x39 Err.CMP_VERIFY).raise 0x39 0
    else if fits then s2.wr64 Reg.CMP_OUT_LO Reg.CMP_OUT_HI (s2.rd64 Reg.CMP_OUT_LO Reg.CMP_OUT_HI + stream.length)
    else s2.count Reg.CMP_FAIL_SPACE

def execCompressionJobDone (mismatch : Bool) (s : State) : Host.Outcome State Fault Refusal :=
  ok (opJobDone mismatch s)

/-! ### Stale lanes -/

/-- STALE_EXPIRY: with an unread item and the STALE time in force elapsed, the lane becomes stale (R282). -/
def opStaleExpiry (sp L : Nat) (s : State) : State :=
  let k := 4 * sp + L
  let l := s.lane k
  let ms := s.rf (Reg.SPLN_STALE_CFG sp L) Fd.SPLN_STALE_CFG_STALE
  if l.stale ∨ l.depth = 0 ∨ ms = 0 ∨ s.ltc.toNat - l.staleFrom.toNat < ms * tickMs then s
  else ((s.setLane k { l with stale := true }).err (0x160 + sp) Err.SPL_STALE).raise (0x160 + sp) 0

def execStaleExpiry (spool : Fin 64) (lane : Fin 4) (s : State) : Host.Outcome State Fault Refusal :=
  ok (opStaleExpiry spool.val lane.val s)

/-! ### The SPL page's operations -/

/-- The popped-item registers of an accessor. -/
def State.pop (s : State) (x : Nat) : PopView := NMap.get (fun _ => PopView.init) s.pops x

/-- The state with an accessor's popped-item registers replaced. -/
def State.setPop (s : State) (x : Nat) (v : PopView) : State :=
  { s with pops := NMap.set (fun _ => PopView.init) s.pops x v }

/-- The spool an accessor's SPL operations act on (R462). -/
def State.selSpool (s : State) (who : Accessor) : Nat := (s.rd (copyKey Reg.SPL_SPOOL (s.whoIdx who))).toNat % 64

/-- POP_STAT with DONE and REFUSED set, everything else kept (R295). -/
def State.popStat (s : State) (x : Nat) (refused : Bool) : State :=
  let v := s.pop x
  s.setPop x { v with stat := Word.putBit (Word.setBit v.stat 6) 7 refused }

/-- POP_STAT after a pop that returned no item: TAG NOT_VALID, DONE, and REFUSED where it was refused (R276, R295). LANE
is still that of the last item. -/
def State.popNone (s : State) (x : Nat) (refused : Bool) : State :=
  let v := s.pop x
  s.setPop x { v with stat := w32 (0x4F + 16 * (v.stat.toNat / 16 % 4) + 128 * b2n refused) }

/-- Why a register operation of the SPL page is refused (R272, R284): the error code reported. -/
def State.splRefusal (s : State) (who : Accessor) (isPop : Bool) : Option Nat :=
  let sp := s.selSpool who
  if !s.spoolReadable sp then (if isPop then none else some Err.SPL_RANGE)
  else if s.whoIdx who ≠ s.rf (Reg.SPLN_CFG sp) Fd.SPLN_CFG_CTX then some Err.SPL_NOT_OWNER
  else if isPop && s.flag (Reg.SPLN_CFG sp) Fd.SPLN_CFG_PUSH &&
      decide (s.rf (Reg.SPLN_CFG sp) Fd.SPLN_CFG_CTX ≠ s.mgmtCtx) then some Err.SPL_PUSH
  else none

/-- The registers after a pop that returned an item: TAG VALID, the lane, the descriptor, the header, the data. -/
def PopView.ofItem (k : Nat) (it : Item) : PopView :=
  { stat := w32 (16 * (k % 4) + 64), desc := (wordsOf (it.descriptor (k % 4))).map w32,
    hdr := (wordsOf it.record.header).map w32, data := it.out }

/-- POP_CTRL GO (R276, R284, R295). -/
def opSplPop (who : Accessor) (lane : Nat) (oneLane : Bool) (ecc : Ecc) (s : State) : State :=
  let x := s.whoIdx who
  match s.splRefusal who true with
  | some code => (s.popNone x true).err 0x38 code
  | none =>
    if !s.spoolReadable (s.selSpool who) then s.popNone x false
    else
      match s.popItem (s.selSpool who) lane oneLane ecc with
      | (some (k, it), s1) => s1.setPop x (PopView.ofItem k it)
      | (none, s1) => s1.popNone x false

/-- MARK_CTRL with a listed OP (R277, R284, R295): only DONE and REFUSED of the popped-item registers change. -/
def opSplLane (op : Nat) (who : Accessor) (lane : Nat) (all : Bool) (s : State) : State :=
  let x := s.whoIdx who
  match s.splRefusal who false with
  | some code => (s.popStat x true).err 0x38 code
  | none => (s.laneOp (s.selSpool who) lane all op).popStat x false

def execLanePop (who : Accessor) (lane : Fin 4) (oneLane : Bool) (ecc : Ecc) (s : State) :
    Host.Outcome State Fault Refusal := ok (opSplPop who lane.val oneLane ecc s)

def execLaneMark (who : Accessor) (lane : Fin 4) (all : Bool) (s : State) : Host.Outcome State Fault Refusal :=
  ok (opSplLane 1 who lane.val all s)

def execLaneRewind (who : Accessor) (lane : Fin 4) (all : Bool) (s : State) : Host.Outcome State Fault Refusal :=
  ok (opSplLane 2 who lane.val all s)

def execLaneReleaseMark (who : Accessor) (lane : Fin 4) (all : Bool) (s : State) :
    Host.Outcome State Fault Refusal := ok (opSplLane 3 who lane.val all s)

def execLaneReleaseRead (who : Accessor) (lane : Fin 4) (all : Bool) (s : State) :
    Host.Outcome State Fault Refusal := ok (opSplLane 4 who lane.val all s)

/-- POP_DATA_READ: SPL.DATA returns the next data word, and each read advances; 0 after the end (R295). -/
def opPopData (who : Accessor) (s : State) : State :=
  let x := s.whoIdx who
  let v := s.pop x
  { s.setPop x { v with data := v.data.drop 4 } with ans := ⟨0, 0, [w32 (leNat (v.data.take 4))]⟩ }

def execPopDataRead (who : Accessor) (s : State) : Host.Outcome State Fault Refusal := ok (opPopData who s)

end Sys2Proof.Machine
end

