-- ==== Sys2Proof/Machine/Crypto.lean ====
section
/-!
DEFINITION. The check values and signatures the chapters name: CRC-32C, CRC-8, SHA-256, ECDSA P-256 verification
and AES-128 CMAC, over byte strings in the order of R488.
-/

namespace Sys2Proof.Machine

/-! ### CRC -/

/-- One bit step of the reflected CRC-32C. -/
def crc32cStep (c : Nat) : Nat := if c % 2 = 1 then (c / 2) ^^^ 0x82F63B78 else c / 2

/-- The CRC-32C register after one byte. -/
def crc32cByte (c : Nat) (b : Byte) : Nat := iter 8 (fun _ a => crc32cStep a) (c ^^^ b.toNat)

/-- CRC-32C of a byte string. -/
def crc32c (bs : List Byte) : Nat := (bs.foldl crc32cByte 0xFFFFFFFF) ^^^ 0xFFFFFFFF

/-! ### SHA-256 -/

/-- The `n` 32-bit words of a number, first word most significant. -/
def words32 (n v : Nat) : List Nat := (List.range n).map (fun i => v / 2 ^ (32 * (n - 1 - i)) % 2 ^ 32)

/-- The round constants, eight to a number. -/
def shaK : List Nat := List.flatMap (words32 8) [
  0x428a2f9871374491b5c0fbcfe9b5dba53956c25b59f111f1923f82a4ab1c5ed5,
  0xd807aa9812835b01243185be550c7dc372be5d7480deb1fe9bdc06a7c19bf174,
  0xe49b69c1efbe47860fc19dc6240ca1cc2de92c6f4a7484aa5cb0a9dc76f988da,
  0x983e5152a831c66db00327c8bf597fc7c6e00bf3d5a7914706ca635114292967,
  0x27b70a852e1b21384d2c6dfc53380d13650a7354766a0abb81c2c92e92722c85,
  0xa2bfe8a1a81a664bc24b8b70c76c51a3d192e819d6990624f40e3585106aa070,
  0x19a4c1161e376c082748774c34b0bcb5391c0cb34ed8aa4a5b9cca4f682e6ff3,
  0x748f82ee78a5636f84c878148cc7020890befffaa4506cebbef9a3f7c67178f2]

/-- The hash value before the first block. -/
def shaH : List Nat := words32 8 0x6a09e667bb67ae853c6ef372a54ff53a510e527f9b05688c1f83d9ab5be0cd19

/-- Rotate a 32-bit number right. -/
def rotr (n v : Nat) : Nat := (v / 2 ^ n + v * 2 ^ (32 - n)) % 2 ^ 32

/-- The exclusive or of a 32-bit number rotated right by each of several distances. -/
def rotXor (ns : List Nat) (v : Nat) : Nat := ns.foldl (fun r n => r ^^^ rotr n v) 0

/-- The 64 schedule words, extended 48 times from the sixteen words of a block. -/
def shaSched (ws : List Nat) : List Nat :=
  iter 48 (fun i (r : List Nat) =>
    let near := nth r (i + 14) 0
    let far := nth r (i + 1) 0
    r ++ [(nth r i 0 + nth r (i + 9) 0 + (rotXor [7, 18] far ^^^ far / 8) + (rotXor [17, 19] near ^^^ near / 1024)) % 2 ^ 32]) ws

/-- One round on the eight working values, with round constant plus schedule word `k`. -/
def shaRound (v : List Nat) (k : Nat) : List Nat :=
  let x (i : Nat) : Nat := nth v i 0
  -- bit choice by value 4, and majority of values 0, 1 and 2
  let pick := (x 4 &&& (x 5 ^^^ x 6)) ^^^ x 6
  let most := (x 0 &&& (x 1 ||| x 2)) ||| (x 1 &&& x 2)
  let t := x 7 + rotXor [6, 11, 25] (x 4) + pick + k
  let down := setAt (v.take 7) 3 ((x 3 + t) % 2 ^ 32)
  (t + rotXor [2, 13, 22] (x 0) + most) % 2 ^ 32 :: down

/-- One block of 64 bytes. -/
def shaBlock (h : List Nat) (blk : List Byte) : List Nat :=
  let ws := (List.range 16).map (fun i => beNat ((blk.drop (4 * i)).take 4))
  let v := (List.zipWith (· + ·) shaK (shaSched ws)).foldl shaRound h
  List.zipWith (fun a b => (a + b) % 2 ^ 32) h v

/-- The padded message. -/
def shaPad (m : List Byte) : List Byte :=
  m ++ [0x80] ++ List.replicate ((119 - m.length % 64) % 64) 0 ++ beBytes 8 (8 * m.length)

/-- SHA-256, 32 bytes in output order. -/
def sha256 (m : List Byte) : List Byte :=
  let p := shaPad m
  let h := iter (p.length / 64) (fun i h => shaBlock h ((p.drop (64 * i)).take 64)) shaH
  h.flatMap (beBytes 4)

/-! ### ECDSA on P-256 -/

def p256p : Nat := 0xffffffff00000001000000000000000000000000ffffffffffffffffffffffff
def p256n : Nat := 0xffffffff00000000ffffffffffffffffbce6faada7179e84f3b9cac2fc632551
def p256b : Nat := 0x5ac635d8aa3a93e7b3ebbd55769886bc651d06b0cc53b0f63bce3c3e27d2604b
def p256g : Nat × Nat :=
  (0x6b17d1f2e12c4247f8bce6e563a440f277037d812deb33a0f4a13945d898c296,
   0x4fe342e2fe1a7f9b8ee7eb4a7c0f9e162bce33576b315ececbb6406837bf51f5)

/-- `b^e mod m` by squaring, over the low 256 bits of the exponent. -/
def powMod (m b e : Nat) : Nat :=
  (iter 256 (fun i (a : Nat × Nat) =>
    (if (e / 2 ^ i) % 2 = 1 then a.1 * a.2 % m else a.1, a.2 * a.2 % m)) (1, b % m)).1

/-- Inverse modulo a prime. -/
def invMod (m a : Nat) : Nat := powMod m a (m - 2)

/-- Difference modulo the field prime. -/
def subP (a b : Nat) : Nat := (a + p256p - b % p256p) % p256p

/-- Point addition; none is the point at infinity. -/
def ecAdd (p q : Option (Nat × Nat)) : Option (Nat × Nat) :=
  match p, q with
  | none, _ => q
  | _, none => p
  | some (x1, y1), some (x2, y2) =>
    if x1 = x2 ∧ (y1 + y2) % p256p = 0 then none
    else
      let l := if x1 = x2 ∧ y1 = y2 then (subP (3 * x1 * x1) 3) * invMod p256p (2 * y1) % p256p
        else (subP y2 y1) * invMod p256p (subP x2 x1) % p256p
      let x3 := subP (subP (l * l % p256p) x1) x2
      some (x3, subP (l * subP x1 x3 % p256p) y1)

/-- Scalar multiplication. -/
def ecMul (k : Nat) (p : Option (Nat × Nat)) : Option (Nat × Nat) :=
  (iter 256 (fun i (a : Option (Nat × Nat) × Option (Nat × Nat)) =>
    (if (k / 2 ^ i) % 2 = 1 then ecAdd a.1 a.2 else a.1, ecAdd a.2 a.2)) (none, p)).1

/-- Verify an ECDSA P-256 signature (r, s) over SHA-256 of `msg` against a public key X‖Y (R488). -/
def ecdsaOk (key sig msg : List Byte) : Bool :=
  let x := beNat (sliceB key 0 32)
  let y := beNat (sliceB key 32 32)
  let r := beNat (sliceB sig 0 32)
  let s := beNat (sliceB sig 32 32)
  let onCurve := decide (x < p256p ∧ y < p256p ∧ y * y % p256p = (x * x * x + (p256p - 3) * x + p256b) % p256p)
  if onCurve && decide (0 < r ∧ r < p256n ∧ 0 < s ∧ s < p256n) then
    let e := beNat (sha256 msg)
    let w := invMod p256n s
    match ecAdd (ecMul (e * w % p256n) (some p256g)) (ecMul (r * w % p256n) (some (x, y))) with
    | some (vx, _) => vx % p256n == r
    | none => false
  else false

/-! ### AES-128 and CMAC -/

/-- Doubling in GF(2^8) with the AES polynomial. -/
def xtime (a : Nat) : Nat := if a < 128 then 2 * a else (2 * a % 256) ^^^ 0x1b

/-- Product in GF(2^8). -/
def gmul (a b : Nat) : Nat :=
  (iter 8 (fun i (r : Nat × Nat) => (if (b / 2 ^ i) % 2 = 1 then r.1 ^^^ r.2 else r.1, xtime r.2)) (0, a)).1

/-- The AES S-box: inverse, then the affine map. -/
def sbox (a : Nat) : Nat :=
  let i := iter 253 (fun _ r => gmul r a) a
  let rot (n : Nat) : Nat := (i * 2 ^ n + i / 2 ^ (8 - n)) % 256
  i ^^^ rot 1 ^^^ rot 2 ^^^ rot 3 ^^^ rot 4 ^^^ 0x63

/-- The next round key. -/
def nextKey (rcon : Nat) (k : List Nat) : List Nat :=
  let g := [sbox (nth k 13 0) ^^^ rcon, sbox (nth k 14 0), sbox (nth k 15 0), sbox (nth k 12 0)]
  let x (a b : List Nat) : List Nat := (a.zip b).map (fun p => p.1 ^^^ p.2)
  let w0 := x (k.take 4) g
  let w1 := x ((k.drop 4).take 4) w0
  let w2 := x ((k.drop 8).take 4) w1
  w0 ++ w1 ++ w2 ++ x (k.drop 12) w2

/-- ShiftRows on column-major bytes. -/
def shiftRows (b : List Nat) : List Nat := (List.range 16).map (fun i => nth b ((i + 4 * (i % 4)) % 16) 0)

/-- MixColumns. -/
def mixCols (b : List Nat) : List Nat :=
  (List.range 16).map (fun i =>
    let c := 4 * (i / 4)
    let at_ (n : Nat) : Nat := nth b (c + (i + n) % 4) 0
    gmul (at_ 0) 2 ^^^ gmul (at_ 1) 3 ^^^ at_ 2 ^^^ at_ 3)

/-- AES-128 encryption of one block. -/
def aes128 (key blk : List Byte) : List Byte :=
  let k0 := (sliceB key 0 16).map BitVec.toNat
  let x (a b : List Nat) : List Nat := (a.zip b).map (fun p => p.1 ^^^ p.2)
  let r := iter 10 (fun i (a : List Nat × List Nat × Nat) =>
    let k := nextKey a.2.2 a.2.1
    let t := shiftRows (a.1.map sbox)
    (x (if i = 9 then t else mixCols t) k, k, xtime a.2.2)) (x ((sliceB blk 0 16).map BitVec.toNat) k0, k0, 1)
  r.1.map (BitVec.ofNat 8)

/-- CMAC subkey doubling. -/
def cmacDouble (v : Nat) : Nat := if v < 2 ^ 127 then 2 * v else (2 * v % 2 ^ 128) ^^^ 0x87

/-- AES-CMAC over a byte string: the 16-byte tag. -/
def aesCmac (key msg : List Byte) : List Byte :=
  let l := beNat (aes128 key (List.replicate 16 0))
  let k1 := cmacDouble l
  let n := max 1 ((msg.length + 15) / 16)
  let lastB := msg.drop (16 * (n - 1))
  let m := if lastB.length = 16 then beNat lastB ^^^ k1
    else beNat (sliceB (lastB ++ [0x80]) 0 16) ^^^ cmacDouble k1
  let c := iter (n - 1) (fun i c => beNat (aes128 key (beBytes 16 (c ^^^ beNat (sliceB msg (16 * i) 16))))) 0
  aes128 key (beBytes 16 (c ^^^ m))

/-- The truncated tag of R488: the first 8 bytes. -/
def tag64 (key msg : List Byte) : List Byte := (aesCmac key msg).take 8

end Sys2Proof.Machine
end

