-- ==== Sys2Proof/Machine/Shutter.lean ====
section
/-!
DEFINITION. Shared operations of schedules, the shutter bus and the capture units (R39, R54, R246 to R263), and the
meanings of the shutter commands.
-/

namespace Sys2Proof.Machine

/-! ### Schedules -/

/-- SHOT_PERIOD, FIELD_TICK and SUPERFRAME of the running plan; 0 while no plan runs (R39). -/
def State.shotPeriod (s : State) : Nat := (s.pln.run.map Plan.shotPeriod).getD 0
def State.fieldTick (s : State) : Nat := (s.pln.run.map Plan.fieldTick).getD 0
def State.superframe (s : State) : Nat := (s.pln.run.map Plan.superframe).getD 0

/-- The LTC `n` periods after the epoch (R39). -/
def State.atPeriod (s : State) (n period : Nat) : Time := s.sched.epoch + BitVec.ofNat 64 (n * period)

/-- The instant of the next shot boundary; of the next superframe or field tick where the plan has no shots (R54). -/
def State.nextBoundary (s : State) : Time :=
  if s.shotPeriod ≠ 0 then s.atPeriod s.sched.shotNo s.shotPeriod
  else if s.superframe ≠ 0 then s.atPeriod s.sched.sfNo s.superframe
  else if s.fieldTick ≠ 0 then s.atPeriod s.sched.tickNo s.fieldTick
  else s.ltc

/-- The kind of boundary that R54 and R258 use under the running plan: 1 shot, 3 superframe, 2 field tick, 0 none. -/
def State.mainBoundary (s : State) : Nat :=
  if s.shotPeriod ≠ 0 then 1 else if s.superframe ≠ 0 then 3 else if s.fieldTick ≠ 0 then 2 else 0

/-- From when a change made now may take effect: at a boundary after now (R50, R51), or in a pair 4,125 ticks after the
end of the shot at which it is copied (R54). -/
def State.changeFrom (s : State) : Time :=
  match s.pai.copyEnd with
  | some t => t + 4125
  | none => if s.paired then s.nextBoundary + 4125 else s.ltc + 1

/-- The hub is parked, for its clock or its supply (R16, R430). -/
def State.parked (s : State) : Bool := s.clk.parkClk || s.clk.parkPfw

/-! ### Capture units -/

/-- A capture unit. -/
def State.unit (s : State) (u : Nat) : CapUnit := NMap.get (fun _ => CapUnit.init) s.units u

/-- The state with a unit replaced. -/
def State.setUnit (s : State) (u : Nat) (c : CapUnit) : State :=
  { s with units := NMap.set (fun _ => CapUnit.init) s.units u c }

/-- Words per item, capacity C, PRE and POST of a unit (R252, R253). -/
def State.capNum (s : State) (u : Nat) : Nat := s.rf (Reg.SCUN_SEL u) Fd.SCUN_SEL_NUM
def State.capC (s : State) (u : Nat) : Nat :=
  let b := 64 * s.rf (Reg.SCUN_SIZE u) Fd.SCUN_SIZE_SEG_SIZE
  if s.capNum u = 0 then 0 else (b - 48) / (4 * s.capNum u)
def State.capPre (s : State) (u : Nat) : Nat := min (s.rf (Reg.SCUN_SIZE u) Fd.SCUN_SIZE_PRE) (s.capC u)
def State.capPost (s : State) (u : Nat) : Nat := s.capC u - s.capPre u
def State.capTap (s : State) (u : Nat) : Nat := s.rf (Reg.SCUN_CFG u) Fd.SCUN_CFG_TAP

/-- The first instant at or after `t` of items that follow `last` one period apart. -/
def nextItem (last t : Time) (period : Nat) : Time :=
  if period = 0 then t else last + BitVec.ofNat 64 (ceilDiv (t.toNat - last.toNat) period * period)

/-- The segment memory region of a unit: base and size (R253, RES 0x01). -/
def State.planRegion (s : State) (u : Nat) : Nat × Nat :=
  match s.pln.run with
  | none => (0, 0)
  | some p =>
    match p.mem.find? (fun e => e.res == 1 && e.index == u) with
    | some e => (e.base, e.size)
    | none => (0, 0)

/-- The region in use: a segment that outlasts a plan switch keeps its own (R259). -/
def State.capRegion (s : State) (u : Nat) : Nat × Nat := (s.unit u).oldRegion.getD (s.planRegion u)

/-- Number of buffers of a unit (R253). -/
def State.capBufs (s : State) (u : Nat) : Nat :=
  let b := 64 * s.rf (Reg.SCUN_SIZE u) Fd.SCUN_SIZE_SEG_SIZE
  if b = 0 then 0 else (s.capRegion u).2 / b

/-- SCUN_CAP of a unit (R253, R269). -/
def State.showCap (s : State) (u : Nat) : State :=
  s.wr (Reg.SCUN_CAP u) (w32 (s.capC u % 2 ^ 14 + 2 ^ 14 * s.capBufs u))

/-- The payload of a SEGMENT record (R261); `flags` as the table gives. -/
def segmentPayload (unit tap flags segno : Nat) (trig : Time) (anchor : Word) (period pre post source num blind : Nat)
    (items : List (List Word)) : List Byte :=
  let body := items.flatMap (fun ws => ws.flatMap wordBytes)
  by1 unit ++ by1 tap ++ le2 flags ++ le4 segno ++ le8 trig.toNat ++ wordBytes anchor ++ le4 period ++ le2 pre ++
    le2 post ++ le2 source ++ by1 num ++ by1 blind ++ body ++ List.replicate ((16 - body.length % 16) % 16) 0

/-- Condition flags that the items of a segment bear: 3 HOLDOVER, 4 PARKED, 5 DARK. -/
def segConds (items : List RingItem) (parked : Bool) : Nat :=
  8 * b2n (items.any (fun i => i.cond % 2 == 1)) + 32 * b2n (items.any (fun i => i.cond / 2 % 2 == 1)) +
    16 * b2n (parked || (items.drop 1).any (fun i => i.cond / 4 % 2 == 1))

/-- Close the segment of a unit, with the items from `first` on, `npre` of them before the anchor: the record waits for
its copy, the counts and the next arm instant follow (R254, R256, R257, R258). -/
def State.closeSegment (s : State) (u period : Nat) (t : Trigger) (anchorInst : Time) (pre post : List RingItem)
    (flags : Nat) (lastInst : Time) (rest : List RingItem) : State :=
  let c := s.unit u
  let items := pre ++ post
  let end_ := (if t.inst.toNat < lastInst.toNat then lastInst else t.inst) + 825
  let arm := match c.rearm with
    | some b => if end_.toNat < b.toNat then b else end_
    | none => end_
  let all := flags ||| segConds items c.parked
  let payload := segmentPayload u (s.capTap u) all c.segno t.inst (loW anchorInst) period pre.length post.length
    t.src (s.capNum u) (satU 8 c.blind) (items.map RingItem.words)
  let size := 64 * s.rf (Reg.SCUN_SIZE u) Fd.SCUN_SIZE_SEG_SIZE
  let addr := 0x30000000 + (s.capRegion u).1 + c.buffer * size
  let rot := if s.capC u = 0 then 0 else (c.written - items.length - rest.length) % s.capC u
  let seg : Segment := ⟨payload, t.inst, addr, items.length, 4 * s.capNum u, rot⟩
  let c' : CapUnit := { c with
    ring := rest, gone := if rest.length < c.ring.length then some lastInst else c.gone, acc := none, armAt := some arm, rearm := none,
    segno := c.segno + 1, blind := 0, parked := false,
    written := rest.length, buffer := if s.capBufs u = 0 then 0 else (c.buffer + 1) % s.capBufs u,
    copies := c.copies ++ [seg] }
  let s1 := ((s.setUnit u c').countMod (Reg.SCUN_SEGS u)).countMod Reg.SCU_SEGS_ALL
  let s2 := s1.wr64 (Reg.SCUN_DEAD_LO u) (Reg.SCUN_DEAD_HI u)
    (s1.rd64 (Reg.SCUN_DEAD_LO u) (Reg.SCUN_DEAD_HI u) + (arm - t.inst).toNat)
  let s3 := (((s2.wr (Reg.SCUN_ARM_AT u) (loW arm)).wr (Reg.SCUN_LAST_BUF u) (w32 addr)).wr (Reg.SCUN_LAST_ROT u)
    (w32 rot)).wf (Reg.SCUN_STAT u) Fd.SCUN_STAT_SHORT_PRE (all % 2)
  (s3.wf (Reg.SCUN_STAT u) Fd.SCUN_STAT_LATE (all / 2 % 2)).raise (0x140 + u) 0

/-- Complete the accepted segment of a unit if its last item e_k has been written (R254, R255). -/
def State.capTry (s : State) (u period : Nat) : State :=
  let c := s.unit u
  match c.acc with
  | none => s
  | some (t, late) =>
    let a := c.armAt.getD 0
    let from_ := late.getD t.inst
    let before := c.ring.filter (fun i => decide (i.inst.toNat < from_.toNat))
    let after := c.ring.filter (fun i => decide (from_.toNat ≤ i.inst.toNat))
    let post := s.capPost u
    let pres := if late.isSome then [] else before.filter (fun i => decide (a.toNat ≤ i.inst.toNat))
    let pre := pres.drop (pres.length - s.capPre u)
    let short := late.isSome || decide (pre.length < s.capPre u)
    let flags := b2n short + 2 * b2n late.isSome
    if post = 0 then
      let prior := match before.getLast? with
        | some e => some e.inst
        | none => c.gone
      let anchor : Option Time := match after.head?, prior with
        | some i, _ => some i.inst
        | none, some e => if t.inst.toNat ≤ e.toNat + period then some (e + BitVec.ofNat 64 period) else none
        | none, none => none
      match anchor with
      | some n => s.closeSegment u period t n pre [] flags (n - BitVec.ofNat 64 period) after
      | none => s
    else if post ≤ after.length then
      let its := after.take post
      let anchor := ((its.head?).map RingItem.inst).getD t.inst
      let last := ((its.getLast?).map RingItem.inst).getD t.inst
      s.closeSegment u period t anchor pre its flags last (after.drop post)
    else s

/-- The lane of a unit's SEGMENT records (R274). -/
def State.segLane (s : State) (u : Nat) : Option Nat :=
  (s.pln.run.bind (fun p => findRoute p 6 u 5)).map (fun e => destLane e.dest)

/-- An instant of the grid of a unit's items; none for TAP 2, where the first output gives it (R252, R254). -/
def State.capOrigin (s : State) (u : Nat) : Option Time :=
  let raw := nth [2, 4, 8, 8] (s.rf Reg.FEN_CFG Fd.FEN_CFG_MODE) 2
  if s.capTap u = 1 then some s.sched.epoch
  else if s.capTap u = 3 then some (s.sched.epoch + BitVec.ofNat 64 (s.rf (Reg.SCUN_REF u) Fd.SCUN_REF_P_REF * raw))
  else none

/-- A trigger that arrives during a segment has its instant at or after the re-arm instant that the segment will have: it
is held until then (R254). -/
def State.capAfter (s : State) (u period : Nat) (t : Trigger) : Bool :=
  let c := s.unit u
  match c.acc with
  | none => false
  | some (t0, late) =>
    let from_ := late.getD t0.inst
    let after := c.ring.filter (fun i => decide (from_.toNat ≤ i.inst.toNat))
    -- an instant of the items' grid; without one (TAP 2 before its first item) every trigger waits
    let base : Option Time := match (c.ring.getLast?).map RingItem.inst, c.gone with
      | some i, _ => some i
      | none, some g => some g
      | none, none => s.capOrigin u
    match (after.head?).map RingItem.inst, base with
    | none, none => true
    | some a, _ => decide ((max t0.inst.toNat (a.toNat + s.capPost u * period - period)) + 825 ≤ t.inst.toNat)
    | none, some l =>
      decide ((max t0.inst.toNat ((nextItem l from_ period).toNat + s.capPost u * period - period)) + 825 ≤ t.inst.toNat)

/-- A trigger reaches a capture unit: accepted, counted as ignored while disarmed, or blind (R254 to R256, R258). -/
def State.capTrigger (s : State) (u period : Nat) (t : Trigger) : State :=
  let c := s.unit u
  if s.capTap u = 0 then s
  else if !s.flag (Reg.SCUN_CFG u) Fd.SCUN_CFG_ARM then s.count (Reg.SCUN_IGNORED u)
  else
    let known := c.armAt.isSome
    let early := match c.armAt with | some a => decide (t.inst.toNat < a.toNat) | none => true
    if c.acc.isNone && !early then
      let left := match c.gone with | some g => decide (t.inst.toNat ≤ g.toNat) | none => false
      let late := if left then (c.ring.head?).map RingItem.inst else none
      ((s.setUnit u { c with acc := some (t, late), parked := s.parked }).wr (Reg.SCUN_LAST_TRIG u) (loW t.inst)).capTry u period
    else if !known || s.capAfter u period t then s.setUnit u { c with held := c.held ++ [t] }
    else
      let first := decide (s.rd (Reg.SCUN_BLIND u) = 0)
      let s1 := ((s.setUnit u { c with blind := c.blind + 1, blindAll := c.blindAll + 1 }).count
        (Reg.SCUN_BLIND u)).count Reg.SCU_BLIND_ALL
      let s2 := (if first then s1.err (0x140 + u) Err.SCU_BLIND else s1).raise (0x140 + u) 1
      match s2.segLane u with
      | none => s2
      | some k =>
        let late := decide (t.inst.toNat < t.arr.toNat)
        let r : Rec := ⟨0x6, 0x6, u, s2.seqOf 0x6 u 0x6, t.inst,
          markPayload 2 t.line t.src u (b2n late + 2 * b2n t.merged + 4 * b2n t.partner) t.inst (c.blindAll + 1)
            t.arr.toNat⟩
        (s2.bumpSeq 0x6 u 0x6).push k r

/-! ### Lines -/

/-- After a segment, the triggers that its unit held are treated (R254). -/
def State.capHeld (s : State) (u period : Nat) : State :=
  let c := s.unit u
  if c.acc.isSome ∨ c.held = [] then s
  else c.held.foldl (fun (a : State) t => a.capTrigger u period t) (s.setUnit u { c with held := [] })

/-- The period between the items of a unit's tap (R252); TAP 2 takes its channels' output period, given by the
caller. -/
def State.capItem (s : State) (u period : Nat) (it : RingItem) : State :=
  let c := s.unit u
  let C := s.capC u
  let ring := c.ring ++ [if c.gap then { it with cond := it.cond ||| 4 } else it]
  let ovf := ring.length - C
  let gone := if ovf = 0 then c.gone else ((ring.take ovf).getLast?).map RingItem.inst
  let arm := match c.armAt with | some a => some a | none => some it.inst
  let g := s.pai.prog
  let s1 : State := if s.syncing then
      { s with pai := { s.pai with prog := { g with
        seen := NMap.set (fun _ => 0) g.seen u (NMap.get (fun _ => 0) g.seen u + 1) } } }
    else s
  ((s1.setUnit u { c with
    ring := ring.drop ovf, gone := gone, armAt := arm, gap := false, written := c.written + 1 }).capTry u period).capHeld u period

/-- The output period of a chain channel in ticks of its own input, as the capture tap needs it: M·2^h input periods
(R208, R252). -/
def State.chanPeriod (s : State) (c : Nat) : Nat :=
  let cfg := s.rd (copyKey Reg.FLT_CH_CFG c)
  let base := if c < 64 then s.fieldTick else
    s.superframe / max 1 ((s.rd (Reg.DRP_CH_CFG ((c - 64) / 32) ((c - 64) % 32))).get Fd.DRP_CH_CFG_SPF)
  base * cfg.get Fd.FLT_CH_CFG_M * 2 ^ cfg.get Fd.FLT_CH_CFG_H

/-- The period of a unit's tap (R252): in Mode Q-stagger a quarter of the shot period. -/
def State.capPeriod (s : State) (u : Nat) : Nat :=
  let tap := s.capTap u
  if tap = 1 then s.fieldTick
  else if tap = 2 then s.chanPeriod (s.rf (Reg.SCUN_SEL u) Fd.SCUN_SEL_FIRST)
  else if tap = 3 then (if s.rf Reg.FEN_CFG Fd.FEN_CFG_MODE = 3 then s.shotPeriod / 4 else s.shotPeriod)
  else 0

/-- A TRIGGER mark goes to every lane that the plan subscribes to the line (R262). -/
def State.triggerMark (s : State) (t : Trigger) : State :=
  let lanes := (List.range 256).filter (fun k =>
    s.spoolUsed (k / 4) && Word.bit (s.rd (Reg.SPLN_LINES (k / 4) (k % 4))) t.line)
  if lanes = [] then s
  else
    let late := decide (t.inst.toNat < t.arr.toNat)
    let r : Rec := ⟨0x6, 0x8, 0x100 + t.line, s.seqOf 0x8 (0x100 + t.line) 0x6, t.inst,
      markPayload 1 t.line t.src 0xFF (b2n late + 2 * b2n t.merged + 4 * b2n t.partner) t.inst t.arg0 t.arr.toNat⟩
    lanes.foldl (fun a k => a.push k r) (s.bumpSeq 0x8 (0x100 + t.line) 0x6)

/-- A resynchronisation is to take place from `t` on (R207): it merges, for the field channels and for the node channels,
with a request whose boundary has not come. -/
def State.setSyncFrom (s : State) (t : Time) : State :=
  { s with resync := ⟨some (s.resync.field.getD t), some (s.resync.node.getD t)⟩ }

/-- A request to resynchronise every chain channel (R207). -/
def State.requestSync (s : State) : State :=
  if s.resync.field.isSome && s.resync.node.isSome then s
  else (s.setSyncFrom s.changeFrom).copyItem (.resync s.changeFrom)

/-- A trigger is on its line (R246, R250): state, counters, mark, resynchronisation. -/
def State.lineTrigger (s : State) (t : Trigger) : State :=
  let w := s.rf (Reg.SHB_LINE_CFG t.line) Fd.SHB_LINE_CFG_WIDTH
  let s1 := { s with shb := { s.shb with
    lineUntil := if w = 0 then s.shb.lineUntil else setAt s.shb.lineUntil t.line (t.arr + BitVec.ofNat 64 w),
    lineCycle := setAt s.shb.lineCycle t.line (t.arr.toNat / 2 + 1) } }
  let s2 := ((s1.count (Reg.SHB_TRIG t.line)).raise 0x30 0).triggerMark t
  if s2.flag Reg.FLT_SYNC_CFG Fd.FLT_SYNC_CFG_LINE_EN && s2.rf Reg.FLT_SYNC_CFG Fd.FLT_SYNC_CFG_LINE == t.line then
    s2.requestSync
  else s2

/-- A trigger reaches the capture units that select its line (R249, R254). -/
def State.unitTrigger (s : State) (t : Trigger) : State :=
  iter 32 (fun u a =>
    if Word.bit (a.rd (Reg.SCUN_CFG u)) (8 + t.line) then a.capTrigger u (a.capPeriod u) t else a) s

/-- A trigger passes its line (R246, R250, R254). -/
def State.passTrigger (s : State) (t : Trigger) : State := (s.lineTrigger t).unitTrigger t

/-- Of the triggers that reach a line together, the one with the earliest instant, the lowest source on a tie. -/
def earliest : List Trigger → Option Trigger
  | [] => none
  | t :: ts =>
    match earliest ts with
    | none => some t
    | some b => if b.inst.toNat < t.inst.toNat ∨ (b.inst = t.inst ∧ b.src < t.src) then some b else some t

/-- A trigger of a deterministic source: zones, digital thresholds, node events and schedulers (R265). -/
def Trigger.deterministic (t : Trigger) : Bool :=
  (decide (0x2000 ≤ t.src) && decide (t.src < 0x6000)) || (decide (0x7000 ≤ t.src) && decide (t.src < 0x8000))

/-- Two triggers that stand for one: line, source and instant (R265). -/
def Trigger.same (t u : Trigger) : Bool := t.line == u.line && t.src == u.src && t.inst == u.inst

/-- A mismatch between own and forwarded triggers (R265). -/
def State.diverge (s : State) : State :=
  ({ s with pai := { s.pai with diverged := true } }.count Reg.SHB_DIVERGE).err 0x30 Err.SHB_DIVERGE

/-- A standby compares a trigger of its own with those forwarded; of 64 that wait for a counterpart the oldest is a
mismatch (R265). -/
def State.ownTrigger (s : State) (t : Trigger) : State :=
  if !t.deterministic then s
  else if s.pai.fwdOpen.any (fun u => u.same t) then
    { s with pai := { s.pai with fwdOpen := s.pai.fwdOpen.filter (fun u => !u.same t) } }
  else
    let l := s.pai.ownOpen ++ [t]
    let s1 := { s with pai := { s.pai with ownOpen := l.drop (l.length - 64) } }
    if 64 < l.length then s1.diverge else s1

/-- The same for a forwarded trigger. -/
def State.fwdTrigger (s : State) (t : Trigger) : State :=
  if !t.deterministic then s
  else if s.pai.ownOpen.any (fun u => u.same t) then
    { s with pai := { s.pai with ownOpen := s.pai.ownOpen.filter (fun u => !u.same t) } }
  else
    let l := s.pai.fwdOpen ++ [t]
    let s1 := { s with pai := { s.pai with fwdOpen := l.drop (l.length - 64) } }
    if 64 < l.length then s1.diverge else s1

/-- Put a trigger into a list in the order of instants, the lower line first on a tie. -/
def insertTrig (t : Trigger) : List Trigger → List Trigger
  | [] => [t]
  | a :: l => if t.inst.toNat < a.inst.toNat then t :: a :: l else a :: insertTrig t l

/-- Triggers from the hub's own sources that reach one line in one ECK cycle (R246). A line that is off discards them.
A standby only remembers them, to compare with the forwarded ones (R265). In a pair each hub forwards what passes its
lines; a standby does not send back what came from its partner. The trigger that passes waits for the units. -/
def State.issueLine (s : State) (line : Nat) (ts : List Trigger) : State × List Trigger :=
  match earliest ts with
  | none => (s, [])
  | some t =>
    if !s.flag (Reg.SHB_LINE_CFG line) Fd.SHB_LINE_CFG_EN then (s, [])
    else if nth s.shb.lineCycle line 0 = t.arr.toNat / 2 + 1 then (s.countN Reg.SHB_MERGED ts.length, [])
    else
      let t1 := { t with merged := decide (1 < ts.length) }
      let s1 := { s with shb := { s.shb with recent := (t1 :: s.shb.recent).take 64 } }
      let s2 := if s.role = 2 ∧ t1.partner then s1 else s1.sendBoth 0x04 (.trig [t1])
      if s.role = 2 then (s2.ownTrigger t1, [])
      else ((s2.countN Reg.SHB_MERGED (ts.length - 1)).lineTrigger t1, [t1])

/-- Triggers that arise together reach their lines (R246), and those that pass reach the units, the earliest instant first
(R254). -/
def State.issue (s : State) (ts : List Trigger) : State :=
  let r := iter 16 (fun l (a : State × List Trigger) =>
    let b := a.1.issueLine l (ts.filter (fun t => t.line == l))
    (b.1, b.2.foldl (fun x t => insertTrig t x) a.2)) (s, [])
  r.2.foldl (fun a t => a.unitTrigger t) r.1

/-- A trigger of a source, arriving now. -/
def State.mkTrigger (s : State) (line src : Nat) (inst : Time) (arg0 : Nat) : Trigger :=
  ⟨line, src, inst, s.ltc, arg0, false, false⟩

/-- The 64-bit instant a short time-stamp near now names (R4). -/
def State.fullTime (s : State) (v : Word) : Time := s.ltc + BitVec.ofInt 64 (tsDiff v s.now)

/-! ### Inputs -/

/-- One accepted edge: the new input state, and the trigger it issues if EDGE selects it (R248). -/
def State.inputEdge (s : State) (e : ShutEdge) : State × List Trigger :=
  let n := e.n.val
  let cfg := s.rd (Reg.SHB_IN_CFG n)
  let on := e.level != (cfg.get Fd.SHB_IN_CFG_POL == 1)
  let was := nth s.shb.inState n false
  let stuck := nth s.shb.inStuck n false
  let s1 := { s with shb := { s.shb with
    inState := setAt s.shb.inState n on, inStuck := if on then s.shb.inStuck else setAt s.shb.inStuck n false } }
  let sel := cfg.get Fd.SHB_IN_CFG_EDGE
  let hit := if on then sel % 2 == 1 else sel / 2 == 1
  if cfg.get Fd.SHB_IN_CFG_EN = 1 ∧ on ≠ was ∧ stuck = false ∧ hit then
    (s1, [s1.mkTrigger (cfg.get Fd.SHB_IN_CFG_LINE) n
      (e.t - BitVec.ofInt 64 (signed 16 (s.rf (Reg.SHB_IN_DLY n) Fd.SHB_IN_DLY_IN_DLY))) 0])
  else (s1, [])

/-- SHUT_IN_EDGE: accepted edges of the inputs, those that come together (R246, R248). -/
def opShutInEdge (edges : List ShutEdge) (s : State) : State :=
  let r := edges.foldl (fun (a : State × List Trigger) e =>
    let q := a.1.inputEdge e
    (q.1, a.2 ++ q.2)) (s, [])
  r.1.issue r.2

def execShutInEdge (edges : List ShutEdge) (s : State) : Host.Outcome State Fault Refusal := ok (opShutInEdge edges s)

/-- SHUT_IN_STUCK: an input asserted for longer than STUCK × 10 ms is ignored until it is released (R248). -/
def opShutInStuck (n : Nat) (s : State) : State :=
  if s.flag (Reg.SHB_IN_CFG n) Fd.SHB_IN_CFG_EN && nth s.shb.inState n false && !nth s.shb.inStuck n false &&
      s.rf (Reg.SHB_IN_CFG n) Fd.SHB_IN_CFG_STUCK != 0 then
    ((({ s with shb := { s.shb with inStuck := setAt s.shb.inStuck n true } }).count Reg.SHB_STUCK_EVT).err 0x30
      Err.SHUT_STUCK).raise 0x30 1
  else s

def execShutInStuck (n : Fin 4) (s : State) : Host.Outcome State Fault Refusal := ok (opShutInStuck n.val s)

/-- A line's state (R250); a WIDTH of 0 keeps it at 0. -/
def State.lineState (s : State) (n : Nat) : Bool :=
  s.rf (Reg.SHB_LINE_CFG n) Fd.SHB_LINE_CFG_WIDTH != 0 && decide (s.ltc.toNat < (nth s.shb.lineUntil n 0).toNat)

/-- LINE_STATE_EXPIRY: the WIDTH time after a line's last trigger has ended and its state is 0 (R250). -/
def opLineExpiry (n : Nat) (s : State) : State :=
  if s.lineState n then s else { s with shb := { s.shb with lineUntil := setAt s.shb.lineUntil n 0 } }

def execLineStateExpiry (n : Fin 16) (s : State) : Host.Outcome State Fault Refusal := ok (opLineExpiry n.val s)

/-- The level of a SHUT_OUT ball (R250, R265); none at high impedance, on a standby. Low while no plan runs. -/
def State.shutOut (s : State) (m : Nat) : Option Bool :=
  if 2 ≤ s.role then none
  else if s.pln.run.isNone then some false
  else if s.rf (Reg.SHB_OUT_CFG m) Fd.SHB_OUT_CFG_EN = 0 then some false
  else some (s.lineState (s.rf (Reg.SHB_OUT_CFG m) Fd.SHB_OUT_CFG_LINE) != s.flag (Reg.SHB_OUT_CFG m) Fd.SHB_OUT_CFG_POL)

/-! ### Schedulers and host triggers -/

/-- A scheduler may issue: EN, an unissued compare value, and REPEAT or triggers left (R251). -/
def State.schedReady (s : State) (k : Nat) : Bool :=
  s.flag (Reg.SHB_SCHED_CFG k) Fd.SHB_SCHED_CFG_EN && nth s.shb.armed k false &&
    (s.flag (Reg.SHB_SCHED_CFG k) Fd.SHB_SCHED_CFG_REPEAT || (s.rd (Reg.SHB_SCHED_LEFT k)).toNat % 65536 != 0)

/-- A scheduler issues its trigger, counts it, and advances by `steps` periods; without a period its compare value is
spent (R251). -/
def State.schedIssue (s : State) (k steps : Nat) : State :=
  let v := s.rd (Reg.SHB_SCHED_AT k)
  let per := (s.rd (Reg.SHB_SCHED_PER k)).toNat
  let line := s.rf (Reg.SHB_SCHED_CFG k) Fd.SHB_SCHED_CFG_LINE
  let t := s.mkTrigger line (0x7000 + k) (s.fullTime v) 0
  let s1 := if s.flag (Reg.SHB_SCHED_CFG k) Fd.SHB_SCHED_CFG_REPEAT then s
    else s.wr (Reg.SHB_SCHED_LEFT k) (s.rd (Reg.SHB_SCHED_LEFT k) - 1)
  let s2 := if per = 0 then { s1 with shb := { s1.shb with armed := setAt s1.shb.armed k false } }
    else s1.wr (Reg.SHB_SCHED_AT k) (v + w32 (steps * per))
  s2.issue [t]

/-- A compare value already reached when the scheduler starts or is written: one late trigger at once, then the first
value not yet reached (R251). -/
def State.schedLate (s : State) (k : Nat) : State :=
  let v := s.rd (Reg.SHB_SCHED_AT k)
  let per := (s.rd (Reg.SHB_SCHED_PER k)).toNat
  if s.schedReady k && reached s.now v then
    s.schedIssue k (if per = 0 then 0 else (s.now - v).toNat / per + 1)
  else s

/-- SCHED_LEFTs as it reads (R251). -/
def State.schedLeft (s : State) (k : Nat) : Word :=
  if s.flag (Reg.SHB_SCHED_CFG k) Fd.SHB_SCHED_CFG_REPEAT then 0xFFFF else s.rd (Reg.SHB_SCHED_LEFT k)

/-- What a new value of SCHED_CFGs does (R251): `old` is the value before. -/
def State.schedCfgSet (s : State) (k : Nat) (old : Word) : State :=
  let w := s.rd (Reg.SHB_SCHED_CFG k)
  let rise := old.get Fd.SHB_SCHED_CFG_EN = 0 ∧ w.get Fd.SHB_SCHED_CFG_EN = 1
  let chg := w.get Fd.SHB_SCHED_CFG_EN = 1 ∧ (old.get Fd.SHB_SCHED_CFG_COUNT ≠ w.get Fd.SHB_SCHED_CFG_COUNT ∨
    old.get Fd.SHB_SCHED_CFG_REPEAT ≠ w.get Fd.SHB_SCHED_CFG_REPEAT)
  let s1 := if rise ∨ chg then
      s.wr (Reg.SHB_SCHED_LEFT k) (w32 (w.get Fd.SHB_SCHED_CFG_COUNT))
    else s
  if rise then ({ s1 with shb := { s1.shb with armed := setAt s1.shb.armed k true } }).schedLate k else s1

/-- What a new value of SCHED_ATs does (R251). -/
def State.schedAtSet (s : State) (k : Nat) : State :=
  ({ s with shb := { s.shb with armed := setAt s.shb.armed k true } }).schedLate k

/-- SCHEDULER_FIRE: the trigger of scheduler s arrives 24 ticks before the compare value (R247, R251). -/
def opSchedulerFire (k : Nat) (s : State) : State :=
  if s.schedReady k && reached (s.now + 24) (s.rd (Reg.SHB_SCHED_AT k)) then s.schedIssue k 1 else s

def execSchedulerFire (k : Fin 8) (s : State) : Host.Outcome State Fault Refusal := ok (opSchedulerFire k.val s)

/-- SHB.CMD TRIG: one host trigger at once; with AT it waits for CMD_AT, a value already reached being late (R251). -/
def opShbTrig (x line : Nat) (useAt : Bool) (s : State) : State :=
  let v := s.rd Reg.SHB_CMD_AT
  if !useAt then s.issue [s.mkTrigger line (0x6000 + x) s.ltc 0]
  else if reached s.now v then s.issue [s.mkTrigger line (0x6000 + x) (s.fullTime v) 0]
  else { s with shb := { s.shb with cmdAt := s.shb.cmdAt ++ [(x, line, v)] } }

def execShbTrig (ctx : Fin 4) (line : Fin 16) (useAt : Bool) (s : State) : Host.Outcome State Fault Refusal :=
  ok (opShbTrig ctx.val line.val useAt s)

/-- CMD_AT_REACHED: the waiting host triggers whose compare value is reached are issued (R251). -/
def opCmdAtReached (s : State) : State :=
  let due := s.shb.cmdAt.filter (fun q => reached s.now q.2.2)
  let s1 := { s with shb := { s.shb with cmdAt := s.shb.cmdAt.filter (fun q => !reached s.now q.2.2) } }
  s1.issue (due.map (fun q => s1.mkTrigger q.2.1 (0x6000 + q.1) (s1.fullTime q.2.2) 0))

def execCmdAtReached (s : State) : Host.Outcome State Fault Refusal := ok (opCmdAtReached s)

/-! ### Segment copies -/

/-- Write zeros over item `i` of a SEGMENT payload. -/
def blankItem (p : List Byte) (itemBytes i : Nat) : List Byte :=
  let o := 32 + i * itemBytes
  p.take o ++ List.replicate ((p.drop o).take itemBytes).length 0 ++ p.drop (o + itemBytes)

/-- The payload of a copied segment: each item with an uncorrectable word is 0, and UNCORR is set (R259). -/
def Segment.copied (g : Segment) (bad : List Nat) : List Byte :=
  let p := bad.foldl (fun a i => if i < g.items then blankItem a g.itemBytes i else a) g.payload
  if bad.any (fun i => decide (i < g.items)) then
    p.take 2 ++ le2 (fieldAt p 2 2 ||| 64) ++ p.drop 4
  else p

/-- SEGMENT_COPY_DONE: the copy of a unit's oldest complete segment ends: the record is pushed and the buffer is free.
`bad` numbers the items that held an uncorrectable word (R257, R259). -/
def opSegmentCopy (u : Nat) (bad : List Nat) (s : State) : State :=
  let c := s.unit u
  match c.copies with
  | [] => s
  | g :: gs =>
    let n := (bad.filter (fun i => decide (i < g.items))).length
    let s1 := s.setUnit u { c with copies := gs }
    let s2 := if n = 0 then s1
      else ((s1.countN Reg.SCU_SGM_UNCORR n).err 0x31 Err.SGM_UNCORR).raise (0x140 + u) 2
    s2.emit 0x5 0x6 u g.ref (g.copied bad)

def execSegmentCopyDone (u : Fin 32) (bad : List Nat) (s : State) : Host.Outcome State Fault Refusal :=
  ok (opSegmentCopy u.val bad s)

/-- Close an accepted segment with the items it has, with extra flags (4 CUT, 128 TAKEOVER) (R259). -/
def State.cutSegment (s : State) (u period flags : Nat) : State :=
  let c := s.unit u
  match c.acc with
  | none => s
  | some (t, late) =>
    let a := c.armAt.getD 0
    let from_ := late.getD t.inst
    let before := c.ring.filter (fun i => decide (i.inst.toNat < from_.toNat) && decide (a.toNat ≤ i.inst.toNat))
    let after := c.ring.filter (fun i => decide (from_.toNat ≤ i.inst.toNat))
    let pre := if late.isSome then [] else before.drop (before.length - s.capPre u)
    let last := ((c.ring.getLast?).map RingItem.inst).getD t.inst
    let anchor := ((after.head?).map RingItem.inst).getD (nextItem last from_ period)
    s.closeSegment u period t anchor pre after
      (flags + b2n (late.isSome || decide (pre.length < s.capPre u)) + 2 * b2n late.isSome) last []

/-- Deal with an old segment of a unit: `f` acts on the unit as it was under the old plan; the counts go on, the table of
the new plan returns after it (R259). -/
def State.inOld (s : State) (u : Nat) (o : CapOld) (f : State → State) : State :=
  let c := s.unit u
  let keys := [Reg.SCUN_CFG u, Reg.SCUN_SIZE u, Reg.SCUN_SEL u, Reg.SCUN_REF u, Reg.SCUN_ARM_AT u]
  let put (a : State) (ws : List Word) : State := (keys.zip ws).foldl (fun (b : State) e => b.wr e.1 e.2) a
  let s1 := f ((put s o.words).setUnit u { c with
    ring := o.ring, gone := o.gone, armAt := o.armAt, acc := o.acc, parked := o.parked, gap := o.gap, written := o.written,
    buffer := o.buffer, part := o.part, rearm := none, held := [], olds := [], oldRegion := some o.region })
  let d := s1.unit u
  let left : List CapOld := if d.acc.isNone then []
    else [⟨d.ring, d.gone, d.armAt, d.acc, d.parked, d.gap, d.written, d.buffer, d.part, o.words, o.region⟩]
  (put s1 (keys.map s.rd)).setUnit u { c with
    segno := d.segno, blind := d.blind, blindAll := d.blindAll, copies := d.copies, olds := c.olds ++ left }

/-- Deal with every old segment of a unit. -/
def State.eachOld (s : State) (u : Nat) (f : State → State) : State :=
  let c := s.unit u
  if c.olds = [] then s
  else c.olds.foldl (fun (a : State) o => a.inOld u o f) (s.setUnit u { c with olds := [] })

/-- What taps deliver reaches every unit, and the old segments of each (R259). -/
def State.tapUnits (s : State) (f : Nat → State → State) : State := iter 32 (fun u a => (f u a).eachOld u (f u)) s

/-- The state bits of a unit (R269): 0 unused, 1 armed, 2 accepted, 3 disarmed. -/
def State.unitState (s : State) (u : Nat) : Nat :=
  if s.capTap u = 0 then 0
  else if (s.unit u).acc.isSome then 2
  else if s.flag (Reg.SCUN_CFG u) Fd.SCUN_CFG_ARM then 1 else 3

end Sys2Proof.Machine
end

