-- ==== Sys2Proof/Machine/Slozon.lean ====
section
/-!
DEFINITION. What the hub sends on its Ethernet ports: frames and Slozon messages (R349, R354).
-/

namespace Sys2Proof.Machine

/-- A port is in service (R344). -/
def State.inService (s : State) (p : Nat) : Bool := s.flag (Reg.UL_STAT p) Fd.UL_STAT_IN_SERVICE

/-- A frame is sent on a port, with the port's VLAN tag while VLAN.EN is 1 (R343). -/
def State.txFrame (s : State) (p : Nat) (o : Out) : State :=
  let s1 := s.count (Reg.UL_TX_FRAMES p)
  let v := s.rd (Reg.UL_VLAN p)
  (if v.get Fd.UL_VLAN_EN = 1 then s1.emitOut (.vlan p (v.get Fd.UL_VLAN_PCP) (v.get Fd.UL_VLAN_VID)) else s1).emitOut o

/-- The 24 header bytes of a Slozon message (R349). -/
def slzHeader (type ctx flags len session seq ack boot : Nat) : List Byte :=
  le2 0x5A53 ++ by1 1 ++ by1 type ++ by1 ctx ++ by1 flags ++ le2 len ++ le4 session ++ le4 seq ++ le4 ack ++ le4 boot

/-- The key of a context, if one is installed (R354). -/
def State.ctxKey (s : State) (x : Nat) : Option (List Byte) := nth s.nv.ctxKeys x none

/-- Send a message outside a session, to a host that has none (ERROR): its SESSION, MSG_SEQ and ACK are 0. -/
def State.sendBare (s : State) (port ctx type : Nat) (dst : HostAddr) (body : List Byte) : State :=
  let flags := b2n (s.ctxKey ctx).isSome
  let tag := match s.ctxKey ctx with
    | some k => tag64 k (slzHeader type ctx flags body.length 0 0 0 s.nv.boot ++ body)
    | none => []
  s.txFrame port (.slozon port ctx type flags 0 0 0 s.nv.boot body tag dst)

/-- Where a session's host is reached on the port that the session is homed on (R347). -/
def Session.dst (q : Session) : HostAddr := ⟨nth q.macs q.home 0, q.ip, q.udp⟩

/-- The session of a context. -/
def State.session (s : State) (x : Nat) : Option Session := s.sessions.find? (fun q => q.ctx == x)

/-- Send a message on a context's session: the next MSG_SEQ, ACK, BOOT, and a tag where the context has a key
(R349, R354). -/
def State.sendMsg (s : State) (x type : Nat) (body : List Byte) : State :=
  match s.session x with
  | none => s
  | some q =>
    let seq := (q.txSeq + 1) % 2 ^ 32
    let flags := b2n (s.ctxKey x).isSome
    let tag := match s.ctxKey x with
      | some k => tag64 k (slzHeader type x flags body.length q.number seq q.rxSeq s.nv.boot ++ body)
      | none => []
    (s.onSession x (fun q => { q with txSeq := seq, lastTx := s.ltc })).txFrame q.home
      (.slozon q.home x type flags q.number seq q.rxSeq s.nv.boot body tag q.dst)

end Sys2Proof.Machine
end

