-- ==== Sys2Proof/Machine/TimeMap.lean ====
section
/-!
DEFINITION. Wall time (R370 to R377): the PTP port, the choice of its master, the mapping and its records.
-/

namespace Sys2Proof.Machine

/-! ### The mapping -/

/-- TIM.STAT.STATE: 0 UNSET, 1 LOCKED, 2 FREERUN. -/
def State.timState (s : State) : Nat := s.rf Reg.TIM_STAT Fd.TIM_STAT_STATE

/-- L0, T0 and RATE of the mapping in use. -/
def State.mapL0 (s : State) : Nat := s.rd64 Reg.TIM_L0_LO Reg.TIM_L0_HI
def State.mapT0 (s : State) : Nat := s.rd64 Reg.TIM_T0_LO Reg.TIM_T0_HI
def State.mapRate (s : State) : Nat := s.rd64 Reg.TIM_RATE_LO Reg.TIM_RATE_HI

/-- The nominal RATE, rounded (R373). -/
abbrev nominalRate : Nat := 0x000000F83E0F83E1

/-- RATE of the mapping in use, the rounded nominal one before the first mapping (R373). -/
def State.rateNow (s : State) : Nat := if s.timState = 0 then nominalRate else s.mapRate

/-- TAI of a time-stamp in 1/16 line tick under the mapping in use, in units of 2^-44 ns (R370, R372). -/
def State.tai16 (s : State) (t : Nat) : Int :=
  (s.mapT0 : Int) * 2 ^ 44 + ((t : Int) - 16 * (s.mapL0 : Int)) * (s.rateNow : Int)

/-- What this hub shows in a TIME_MAP record, in a state (R376). -/
def State.timeView (s : State) (state : Nat) : TimeView :=
  ⟨state, s.tim.gmChanged, s.rf Reg.CLK_STAT Fd.CLK_STAT_STATE == 4, s.tim.utc, s.rd Reg.TIM_OFFSET, s.rd Reg.TIM_MPD,
    s.rd64 Reg.TIM_GM_ID_LO Reg.TIM_GM_ID_HI⟩

/-- The TIME_MAP payload (R376): the mapping in use, with what the record shows. -/
def State.timeMapPayload (s : State) (v : TimeView) (step : Bool) : List Byte :=
  by1 v.state ++
    by1 (b2n step + 2 * b2n v.chg + 4 * b2n v.holdover + 8 * s.rf Reg.TIM_STAT Fd.TIM_STAT_SLEWING) ++
    le2 (unsigned 16 v.utc) ++ wordBytes (s.rd Reg.TIM_MAP_NO) ++ le8 s.mapL0 ++ le8 s.mapT0 ++
    le8 s.rateNow ++ wordBytes v.offset ++ wordBytes v.mpd ++ le8 v.gm

/-- Emit a TIME_MAP record, and send it as a TIME message on every open session (R359, R376). -/
def State.publish (s : State) (v : TimeView) (step : Bool) : State :=
  let payload := s.timeMapPayload v step
  let seq := s.seqOf 0x8 0x400 0xC
  let l0 : Time := BitVec.ofNat 64 s.mapL0
  let routed := match s.pln.run with
    | some p => (findRoute p 0x8 0x400 0xC).isSome
    | none => false
  if !routed then s
  else
    let s1 := { s.emit 0xC 0x8 0x400 l0 payload with tim := { s.tim with gmChanged := s.tim.gmChanged && !v.chg } }
    let r : Rec := ⟨0xC, 0x8, 0x400, seq, l0, payload⟩
    s1.sessions.foldl (fun a q => a.sendMsg q.ctx 0xC1 (r.header ++ payload)) s1

/-- The hub's own TIME_MAP record (R376). -/
def State.emitTimeMap (s : State) (step : Bool) : State := s.publish (s.timeView s.timState) step

/-- Put STATE of TIM.STAT at a value; a change raises STATE (R374). -/
def State.setTimState (s : State) (v : Nat) : State :=
  if s.timState = v then s else (s.wf Reg.TIM_STAT Fd.TIM_STAT_STATE v).raise 0x7 1

/-- A mapping that was formed takes effect at instant `t` (R372, R373): L0 is `t`; T0 is the old mapping's value
there, with a step of the given ns. -/
def State.applyMap (s : State) (m : MapNext) (t : Time) : State :=
  let old := floorShr (s.tai16 (16 * t.toNat)) 44
  let stepNs := match m.step with
    | some f => floorShr (s.tai16 (16 * t.toNat) - f) 44 - old
    | none => 0
  let s1 := (((s.wr64 Reg.TIM_L0_LO Reg.TIM_L0_HI t.toNat).wr64 Reg.TIM_T0_LO Reg.TIM_T0_HI
    (unsigned 64 (old + stepNs))).wr64 Reg.TIM_RATE_LO Reg.TIM_RATE_HI m.rate).countMod Reg.TIM_MAP_NO
  let s2 := (s1.wf Reg.TIM_STAT Fd.TIM_STAT_SLEWING (b2n m.slewing)).setTimState
    (if s.timState = 0 then 1 else s.timState)
  let s3 := { s2 with tim := { s2.tim with next := none } }
  let s4 :=
    if m.step.isSome then (s3.raise 0x7 2).sysMark 7 t (unsigned 64 stepNs) 0 else s3
  let s5 := if m.restep then (s4.wf Reg.TIM_STAT Fd.TIM_STAT_RESTEP_PEND 0).err 0x7 Err.TIM_STEP else s4
  let s6 := s5.raise 0x7 0
  s6.publish (m.view.getD (s6.timeView s6.timState)) m.step.isSome

/-- A formed mapping waits for its boundary; without boundaries it applies at once (R373). In a pair the copy carries what
its record shows (R377). -/
def State.mapFormed (s : State) (m0 : MapNext) : State :=
  let m : MapNext := if s.hasStandby then { m0 with view := some (s.timeView (if s.timState = 0 then 1 else s.timState)) } else m0
  let s1 := if s.hasStandby then { s with tim := { s.tim with gmChanged := false } } else s
  if s1.mainBoundary = 0 then (s1.applyMap m s1.ltc).copyItem (.mapping m)
  else { s1 with tim := { s1.tim with next := some m } }.copyItem (.mapping m)

/-- A change of state is published (R374, R376). In a pair both hubs publish the active hub's, at the boundary that a
mapping formed now would take (R377, log 150). -/
def State.tellState (s : State) : State :=
  if s.role = 2 then s
  else if s.hasStandby then
    let v := s.timeView s.timState
    let s1 := { s with tim := { s.tim with gmChanged := false } }
    if s1.mainBoundary = 0 then (s1.publish v false).copyItem (.timeState v s1.ltc)
    else { s1 with tim := { s1.tim with pubs := s1.tim.pubs ++ [(v, s1.changeFrom)] } }.copyItem (.timeState v s1.changeFrom)
  else s.emitTimeMap false

/-- At a boundary: changes of state and a mapping that wait and whose time has come (R373, R377). -/
def State.mapBoundary (s : State) : State :=
  let due := s.tim.pubs.filter (fun e => decide (e.2.toNat ≤ s.ltc.toNat))
  let s1 := due.foldl (fun (a : State) e => a.publish e.1 false)
    { s with tim := { s.tim with pubs := s.tim.pubs.filter (fun e => !decide (e.2.toNat ≤ s.ltc.toNat)) } }
  match s1.tim.next with
  | some m => if m.notBefore.toNat ≤ s1.ltc.toNat then s1.applyMap m s1.ltc else s1
  | none => s1

/-! ### The master -/

/-- The dataset of an Announce as a list compared in order (R371): priorities and clock quality, the grandmaster, then
the distance and the sender. -/
def annRank (a : Announce) : List Nat :=
  [a.prio1, a.cls, a.acc, a.var, a.prio2, a.gm, a.steps, a.src, a.port.val]

/-- `a` is better than `b`: the first number that differs is lower. -/
def rankLess : List Nat → List Nat → Bool
  | x :: xs, y :: ys => decide (x < y) || (x == y && rankLess xs ys)
  | _, _ => false

/-- The best announcing master. -/
def bestMaster : List Master → Option Master
  | [] => none
  | m :: ms =>
    match bestMaster ms with
    | none => some m
    | some b => if rankLess (annRank b.ann) (annRank m.ann) then some b else some m

/-- The announce interval of a master in ticks: 2^k seconds. -/
def annInterval (a : Announce) : Nat :=
  if 0 ≤ a.interval_ then tickS * 2 ^ a.interval_.toNat else tickS / 2 ^ (-a.interval_).toNat

/-- A master's announce has timed out (R370). -/
def State.annExpired (s : State) (m : Master) : Bool :=
  decide (s.rf Reg.TIM_CFG Fd.TIM_CFG_ANN_TO * annInterval m.ann ≤ s.ltc.toNat - m.seenAt.toNat)

/-- A port may carry the PTP port (R371): TIM.CFG.PTP_PORT names it or is auto. -/
def State.ptpPortOk (s : State) (p : Nat) : Bool :=
  let c := s.rf Reg.TIM_CFG Fd.TIM_CFG_PTP_PORT
  c == 0 || c == p + 1

/-- Bind the PTP port to a port, shown in TIM.STAT and ULx.STAT. -/
def State.ptpBind (s : State) (p : Nat) : State :=
  ((s.wf Reg.TIM_STAT Fd.TIM_STAT_PORT p).wf (Reg.UL_STAT p) Fd.UL_STAT_PTP 1).wf (Reg.UL_STAT (1 - p)) Fd.UL_STAT_PTP 0

/-- A master is selected (R371, R374): a new grandmaster counts; FREERUN returns to LOCKED with no step. -/
def State.ptpTake (s : State) (m : Master) : State :=
  let oldGm := s.rd64 Reg.TIM_GM_ID_LO Reg.TIM_GM_ID_HI
  let chg := s.tim.hadGm && oldGm != m.ann.gm
  let s1 : State := (s.ptpBind m.ann.port.val).wf Reg.TIM_STAT Fd.TIM_STAT_MASTER 1
  let s2 : State := { s1.wr64 Reg.TIM_GM_ID_LO Reg.TIM_GM_ID_HI m.ann.gm with
    tim := { s1.tim with sel := some m, hadGm := true, utc := m.ann.utc, gmChanged := s1.tim.gmChanged || chg } }
  let s3 : State := if chg then s2.count Reg.TIM_MASTER_CHG else s2
  if s3.timState = 2 then (s3.setTimState 1).tellState else s3

/-- A master that the hub may select (R370, R371): of the domain, on a port that is in service, its announce not timed
out. -/
def State.ptpMay (s : State) (m : Master) : Bool :=
  s.inService m.ann.port.val && s.ptpPortOk m.ann.port.val && !s.annExpired m &&
    m.ann.domain == s.rf Reg.TIM_CFG Fd.TIM_CFG_DOMAIN

/-- Select the master again (R371): the best announcing master on a port that is in service. With none, the present
one stays until its announce times out. -/
def State.ptpSelect (s : State) : State :=
  match bestMaster (s.tim.masters.filter s.ptpMay) with
  | none => s
  | some m =>
    let same := match s.tim.sel with
      | some o => o.ann.src == m.ann.src && o.ann.port == m.ann.port
      | none => false
    if same then { s with tim := { s.tim with sel := some m, utc := m.ann.utc } }
    else
      { s with tim := { s.tim with sync := none, req := none } }.ptpTake m

/-- PTP_ANNOUNCE: an Announce message of the domain enters master selection (R371, R374). -/
def opPtpAnnounce (a : Announce) (s : State) : State :=
  let s0 := s.count (Reg.UL_RX_FRAMES a.port.val)
  if a.domain ≠ s.rf Reg.TIM_CFG Fd.TIM_CFG_DOMAIN then s0
  else
    let keep := s0.tim.masters.filter (fun m => !(m.ann.src == a.src && m.ann.port == a.port))
    let s1 : State := { s0 with tim := { s0.tim with masters := keep ++ [⟨a, s.ltc⟩] } }
    let s2 := match s1.tim.sel with
      | some o => if o.ann.src = a.src ∧ o.ann.port = a.port ∧
          s1.rd64 Reg.TIM_GM_ID_LO Reg.TIM_GM_ID_HI ≠ a.gm then s1.ptpTake (Master.mk a s.ltc) else s1
      | none => s1
    s2.ptpSelect

def execPtpAnnounce (a : Announce) (s : State) : Host.Outcome State Fault Refusal := ok (opPtpAnnounce a s)

/-- ANNOUNCE_TIMEOUT: the selected master's announce has timed out: another master, else FREERUN (R371, R374). -/
def opAnnTimeout (s : State) : State :=
  match s.tim.sel with
  | none => s
  | some o =>
    let expired := s.tim.masters.all (fun m => !(m.ann.src == o.ann.src && m.ann.port == o.ann.port) || s.annExpired m)
    if !expired then s
    else
      let s1 := { s with tim := { s.tim with
        masters := s.tim.masters.filter (fun m => !s.annExpired m), sel := none, sync := none, req := none } }
      let s2 := ((s1.count Reg.TIM_ANN_LOSS).wf Reg.TIM_STAT Fd.TIM_STAT_MASTER 0).ptpSelect
      if s2.tim.sel.isSome then s2
      else
        let s3 := s2.err 0x7 Err.TIM_ANN_LOSS
        if s3.timState = 1 then (s3.setTimState 2).tellState else s3

def execAnnounceTimeout (s : State) : Host.Outcome State Fault Refusal := ok (opAnnTimeout s)

/-! ### Exchanges -/

/-- The selected master sent the message: port, domain and sender agree. -/
def State.fromMaster (s : State) (m : PtpHead) : Bool :=
  match s.tim.sel with
  | some o => o.ann.src == m.src && o.ann.port == m.port && m.domain == s.rf Reg.TIM_CFG Fd.TIM_CFG_DOMAIN
  | none => false

/-- PTP_SYNC: time-stamped on arrival; a one-step Sync gives its origin time too (R370). Times of the master are in
2^-16 ns. -/
def opPtpSync (m : PtpHead) (ip origin : Nat) (corr : Int) (arr : Nat) (twoStep : Bool) (s : State) : State :=
  let s0 := s.count (Reg.UL_RX_FRAMES m.port.val)
  if !s0.fromMaster m then s0
  else { s0 with tim := { s0.tim with
    sync := some ⟨m.seq, if twoStep then none else some (65536 * origin + corr), corr, arr, ip⟩ } }

def execPtpSync (m : PtpHead) (ip origin : Nat) (corr : Int) (arr : Nat) (twoStep : Bool) (s : State) :
    Host.Outcome State Fault Refusal := ok (opPtpSync m ip origin corr arr twoStep s)

/-- PTP_FOLLOW_UP: the precise origin time of a two-step Sync (R370). -/
def opPtpFollowUp (m : PtpHead) (origin : Nat) (corr : Int) (s : State) : State :=
  let s0 := s.count (Reg.UL_RX_FRAMES m.port.val)
  match s0.tim.sync with
  | some y =>
    if s0.fromMaster m && y.seq == m.seq && y.t1.isNone then
      { s0 with tim := { s0.tim with sync := some { y with t1 := some (65536 * origin + corr + y.corr) } } }
    else s0
  | none => s0

def execPtpFollowUp (m : PtpHead) (origin : Nat) (corr : Int) (s : State) : Host.Outcome State Fault Refusal :=
  ok (opPtpFollowUp m origin corr s)

/-- The least time between two Delay_Req: the master's interval, and 2^-7 s (R370). -/
def State.reqInterval (s : State) : Nat :=
  max (tickS / 128) (if 0 ≤ s.tim.reqLog then tickS * 2 ^ s.tim.reqLog.toNat else tickS / 2 ^ (-s.tim.reqLog).toNat)

/-- DELAY_REQ_SEND: a Delay_Req goes to the address from which the Sync came; `t3` is its departure in 1/16 tick
(R370). Frame kind 5: address and sequence number. -/
def opDelayReq (t3 : Nat) (s : State) : State :=
  match s.tim.sel, s.tim.sync with
  | some o, some y =>
    let due := match s.tim.reqAt with
      | some t => decide (s.reqInterval ≤ s.ltc.toNat - t.toNat)
      | none => true
    if due then
      let seq := (s.tim.reqSeq + 1) % 65536
      { s with tim := { s.tim with req := some (seq, t3, s.ltc), reqAt := some s.ltc, reqSeq := seq } }.txFrame
        o.ann.port.val (.frame o.ann.port.val 5 (le4 y.ip ++ le2 seq))
    else s
  | _, _ => s

def execDelayReqSend (t3 : Nat) (s : State) : Host.Outcome State Fault Refusal := ok (opDelayReq t3 s)

/-- DELAY_RESP_MISS: no Delay_Resp for 1 s (R370). -/
def opDelayRespMiss (s : State) : State :=
  match s.tim.req with
  | some (_, _, t) =>
    if tickS ≤ s.ltc.toNat - t.toNat then { s with tim := { s.tim with req := none } }.count Reg.TIM_DRESP_MISS else s
  | none => s

def execDelayRespMiss (s : State) : Host.Outcome State Fault Refusal := ok (opDelayRespMiss s)

/-- Mean path delay and offset, mapping minus master, of an exchange, in 2^-44 ns. -/
def exchange (t1 t2 t3 t4 asym : Int) : Int × Int :=
  let mpd := ((t2 - t1) + (t4 - t3)) / 2
  (mpd, t2 - t1 - mpd - asym)

/-- The last eight offsets agree: no two of them lie more than 1,000 ns apart (R372). -/
def agreeing (l : List Int) : Bool := l.length == 8 && l.all (fun a => l.all (fun b => decide ((a - b).natAbs ≤ 1000)))

/-- A new offset measurement (R372, R375): the first lock after eight that agree, or the step of RESTEP. -/
def State.measured (s : State) (mpd off : Int) : State :=
  let ns := roundShr off 44
  let s1 := (s.wr Reg.TIM_OFFSET (w32 (unsigned 32 (satS 32 ns)))).wr Reg.TIM_MPD
    (w32 (unsigned 32 (satS 32 (roundShr mpd 44))))
  if s1.timState = 0 then
    let s2 := { s1 with tim := { s1.tim with offs := (ns :: s1.tim.offs).take 8 } }
    if !agreeing s2.tim.offs ∨ s2.role = 2 then s2
    else
      let m : MapNext := ⟨nominalRate, false, some off, s2.flag Reg.TIM_STAT Fd.TIM_STAT_RESTEP_PEND, s2.changeFrom, none⟩
      if s2.paired then s2.mapFormed m else s2.applyMap m s2.ltc
  else if s1.flag Reg.TIM_STAT Fd.TIM_STAT_RESTEP_PEND && decide (s1.role ≠ 2) then
    let m : MapNext := ⟨s1.mapRate, s1.flag Reg.TIM_STAT Fd.TIM_STAT_SLEWING, some off, true, s1.changeFrom, none⟩
    if s1.paired then s1.mapFormed m else s1.applyMap m s1.ltc
  else s1

/-- PTP_DELAY_RESP: the response completes an exchange (R370, R372). -/
def opDelayResp (m : PtpHead) (received : Nat) (corr : Int) (interval : Int) (s : State) : State :=
  let s0 := s.count (Reg.UL_RX_FRAMES m.port.val)
  match s0.tim.sync, s0.tim.req with
  | some y, some (seq, t3, _) =>
    if !s0.fromMaster m || seq != m.seq then s0
    else
      let s1 := { s0 with tim := { s0.tim with req := none, reqLog := interval } }
      match y.t1 with
      | none => s1
      | some t1 =>
        let ref16 (n : Int) : Int := n * 2 ^ 28
        let asym : Int := signed 32 (s1.rd Reg.TIM_ASYM).toNat * 2 ^ 44
        let x := exchange (ref16 t1) (s1.tai16 y.t2) (s1.tai16 t3) (ref16 (65536 * received) - ref16 corr) asym
        s1.measured x.1 x.2
  | _, _ => s0

def execPtpDelayResp (m : PtpHead) (received : Nat) (corr : Int) (interval : Int) (s : State) :
    Host.Outcome State Fault Refusal := ok (opDelayResp m received corr interval s)

/-! ### The servo -/

/-- MAPPING_UPDATE: every UPD_MS a new RATE is the measured ratio of TAI to LTC plus a correction, limited to
±SLEW_MAX ppm (R373). `ratio` is the measured ratio; how the servo chooses the correction is open: a free value. -/
def opMappingUpdate (ratio : Nat) (s : State) : State :=
  let due := decide (s.rf Reg.TIM_UPD Fd.TIM_UPD_UPD_MS * tickMs ≤ s.ltc.toNat - s.tim.updAt.toNat)
  if s.timState ≠ 1 ∨ !due ∨ s.role = 2 ∨ s.sys.restarting then s
  else
    let lim : Int := (ratio * s.rf Reg.TIM_CFG Fd.TIM_CFG_SLEW_MAX / 1000000 : Nat)
    let c := clampI (-lim) lim (Config.servo s.free)
    let rate := ((ratio : Int) + c).toNat
    { s.fresh with tim := { s.tim with updAt := s.ltc } }.mapFormed
      ⟨rate, decide (c = lim ∨ c = -lim), none, false, s.changeFrom, none⟩

def execMappingUpdate (ratio : Nat) (s : State) : Host.Outcome State Fault Refusal := ok (opMappingUpdate ratio s)

/-- RESTEP: C0 steps the mapping at the next offset measurement; in state UNSET nothing more follows (R375). -/
def opRestep (x : Nat) (s : State) : State :=
  if x ≠ 0 then s.err 0x7 Err.TIM_OWNER
  else if s.timState = 0 then s
  else s.wf Reg.TIM_STAT Fd.TIM_STAT_RESTEP_PEND 1

def execTimRestep (ctx : Fin 4) (s : State) : Host.Outcome State Fault Refusal := ok (opRestep ctx.val s)

end Sys2Proof.Machine
end

