-- ==== Sys2Proof/Machine/Uplink.lean ====
section
/-!
DEFINITION. Ethernet ports, Slozon sessions, spool delivery and notices (R343 to R369), except register access.
-/

namespace Sys2Proof.Machine

/-! ### Ports -/

/-- A gratuitous ARP for the hub's address on a port (R346); frame kind 1, the address as its bytes. While the hub probes
an address, a probe, frame kind 3. -/
def State.gratuitousArp (s : State) (p : Nat) : State :=
  if s.upl.probing then s.txFrame p (.frame p 3 (le4 s.upl.candidate))
  else s.txFrame p (.frame p 1 (wordBytes (s.rd Reg.SLZ_IP_ADDR)))

/-- The first link-local address of a serial number, first byte lowest (R346). -/
def linkLocal (serial : Nat) : Nat := 169 + 256 * 254 + 65536 * (1 + serial % 254) + 16777216 * (serial / 254 % 256)

/-- The identity block is restored at the start (R346, R427): its address is in use, or the hub probes a link-local one. -/
def State.takeAddress (s : State) : State :=
  if s.nv.ip = 0 then { s with upl := { s.upl with probing := true, candidate := linkLocal s.nv.serial } }
  else s.wr Reg.SLZ_IP_ADDR (w32 s.nv.ip)

/-- A budget change waits for its boundary (R367, R369). -/
def State.budgetChange (s : State) (two : Bool) : State :=
  if s.role = 2 then s
  else { s with upl := { s.upl with next := some (two, s.changeFrom) } }.copyItem (.budget two s.changeFrom)

/-- A port leaves service (R344, R367): reports, and its sessions move to the other port. -/
def State.portDown (s : State) (p : Nat) : State :=
  let s0 := { s with upl := { s.upl with holdFrom := setAt s.upl.holdFrom p none } }
  if !s.inService p then s0
  else
    let s1 := (((s0.wf (Reg.UL_STAT p) Fd.UL_STAT_IN_SERVICE 0).count (Reg.UL_OOS_EVT p)).err (0x48 + p)
      Err.UL_DOWN).raise (0x48 + p) 0
    let s1 := s1.ptpSelect
    if s1.inService (1 - p) then
      let s2 := { s1 with sessions := s1.sessions.map (fun (q : Session) => if q.home = p then { q with home := 1 - p } else q) }
      (((s2.gratuitousArp (1 - p)).err (0x48 + p) Err.UL_ONE_PORT)).budgetChange false
    else s1

/-- The conditions of service of a port (R344): lane LOCKED or READY, block lock, FEC alignment where RS_FEC is set,
lane in service, port enabled. -/
def State.portReady (s : State) (p : Nat) : Bool :=
  let st := s.rf (Reg.LN_STAT p) Fd.LN_STAT_STATE
  decide (st = 3 ∨ st = 4) && s.flag (Reg.UL_STAT p) Fd.UL_STAT_BLOCK_LOCK &&
    (!s.flag (Reg.UL_CFG p) Fd.UL_CFG_RS_FEC || s.flag (Reg.UL_STAT p) Fd.UL_STAT_FEC_ALIGN) &&
    !s.flag (Reg.LN_STAT p) Fd.LN_STAT_OUT_OF_SERVICE && s.flag (Reg.UL_CFG p) Fd.UL_CFG_EN

/-- Look at a port's conditions after a change: the 1 s count starts, or the port leaves service at once (R344). -/
def State.portCheck (s : State) (p : Nat) : State :=
  if s.portReady p then
    match nth s.upl.holdFrom p none with
    | some _ => s
    | none => { s with upl := { s.upl with holdFrom := setAt s.upl.holdFrom p (some s.ltc) } }
  else s.portDown p

/-- PORT_IN_SERVICE: the conditions have held for 1 s (R344, R346, R367). -/
def opPortInService (p : Nat) (s : State) : State :=
  match nth s.upl.holdFrom p none with
  | none => s
  | some t =>
    if s.inService p ∨ !s.portReady p ∨ s.ltc.toNat - t.toNat < tickS then s
    else
      let s1 := ((s.wf (Reg.UL_STAT p) Fd.UL_STAT_IN_SERVICE 1).raise (0x48 + p) 1).gratuitousArp p
      if s1.inService (1 - p) then s1.budgetChange true else s1.budgetChange false

def execPortInService (port : Fin 2) (s : State) : Host.Outcome State Fault Refusal := ok (opPortInService port.val s)

/-- UPLINK_BLOCK_LOCK: the PCS gains block lock, with or without FEC alignment (R344). -/
def opUplinkBlockLock (p : Nat) (fec : Bool) (s : State) : State :=
  ((s.wf (Reg.UL_STAT p) Fd.UL_STAT_BLOCK_LOCK 1).wf (Reg.UL_STAT p) Fd.UL_STAT_FEC_ALIGN (b2n fec)).portCheck p

def execUplinkBlockLock (port : Fin 2) (fec : Bool) (s : State) : Host.Outcome State Fault Refusal :=
  ok (opUplinkBlockLock port.val fec s)

/-- PAUSE_FRAME: counted and ignored (R343). -/
def opPauseFrame (p : Nat) (s : State) : State := (s.count (Reg.UL_RX_FRAMES p)).count (Reg.UL_RX_PAUSE p)

def execPauseFrame (port : Fin 2) (s : State) : Host.Outcome State Fault Refusal := ok (opPauseFrame port.val s)

/-- RX_FRAME_DROPPED: which counter takes a dropped frame (R343, R347, R348, R349, R370). -/
def opFrameDropped (p : Nat) (why : FrameFault) (s : State) : State :=
  let s1 := s.count (Reg.UL_RX_FRAMES p)
  match why with
  | .fcs => s1.count (Reg.UL_RX_FCS p)
  | .vlan => s1.count (Reg.UL_RX_VLAN p)
  | .ipOptions => s1.count (Reg.UL_RX_OPT p)
  | .fragment => s1.count (Reg.UL_RX_FRAG p)
  | .tooLong | .ipChecksum | .udpChecksum | .udpPort | .etherType | .protocol | .ptpMessage => s1.count (Reg.UL_RX_OTHER p)
  | .slozonType | .malformed => s1.count Reg.SLZ_BAD_MSG

def execRxFrameDropped (port : Fin 2) (why : FrameFault) (s : State) : Host.Outcome State Fault Refusal :=
  ok (opFrameDropped port.val why s)

/-- The next candidate after a conflict: third byte plus 1, from 1 to 254 (R346). -/
def nextLinkLocal (a : Nat) : Nat :=
  let third := a / 65536 % 256
  a - 65536 * third + 65536 * (if 254 ≤ third then 1 else third + 1)

/-- ARP_REQUEST: a request for the hub's address is answered with the port's MAC; another station's use of a
link-local address is a conflict, which starts probing the next one (R346). Frame kinds: 2 ARP reply, 3 ARP probe. -/
def opArpRequest (p senderMac senderIp targetIp : Nat) (s : State) : State :=
  let s1 := s.count (Reg.UL_RX_FRAMES p)
  let own := if p = 0 then s.nv.macA else s.nv.macB
  let mine := if s.upl.probing then s.upl.candidate else (s.rd Reg.SLZ_IP_ADDR).toNat
  let conflict := s.nv.ip == 0 && senderMac != own && (senderIp == mine || (s.upl.probing && targetIp == mine))
  if conflict then
    let c := nextLinkLocal mine
    ({ s1 with upl := { s1.upl with probing := true, candidate := c } }.err 0x4A Err.UL_IP_CONFLICT).txFrame p
      (.frame p 3 (le4 c))
  else if !s.upl.probing && targetIp == mine then s1.txFrame p (.frame p 2 (leBytes 6 own ++ leBytes 6 senderMac ++ le4 senderIp))
  else s1

def execArpRequest (port : Fin 2) (senderMac senderIp targetIp : Nat) (s : State) :
    Host.Outcome State Fault Refusal := ok (opArpRequest port.val senderMac senderIp targetIp s)

/-- LINK_LOCAL_PROBE_END: the probed address is free and is used from now on (R346). -/
def opProbeEnd (s : State) : State :=
  if s.upl.probing then
    { s.wr Reg.SLZ_IP_ADDR (w32 s.upl.candidate) with upl := { s.upl with probing := false } }
  else s

def execLinkLocalProbeEnd (s : State) : Host.Outcome State Fault Refusal := ok (opProbeEnd s)

/-- Datagrams for the hub's address reach it on a port in service, while it uses an address (R344, R346). -/
def State.hears (s : State) (p : Nat) : Bool := s.inService p && !s.upl.probing

/-- ICMP_ECHO_REQUEST: the same payload back, up to 1,000 replies a second, further requests dropped (R347). -/
def opIcmpEcho (p mac : Nat) (payload : List Byte) (s : State) : State :=
  let s1 := s.count (Reg.UL_RX_FRAMES p)
  let fresh := decide (tickS ≤ s.ltc.toNat - s.upl.icmpAt.toNat) || s.upl.icmpN == 0
  let n := if fresh then 0 else s.upl.icmpN
  if !s.hears p ∨ 1000 ≤ n then s1
  else
    { s1 with upl := { s1.upl with icmpAt := if fresh then s.ltc else s.upl.icmpAt, icmpN := n + 1 } }.txFrame p
      (.frame p 4 (leBytes 6 mac ++ payload))

def execIcmpEchoRequest (port : Fin 2) (mac : Nat) (payload : List Byte) (s : State) :
    Host.Outcome State Fault Refusal := ok (opIcmpEcho port.val mac payload s)

/-- ESMC_PDU: the SSM quality level of a port (R345); a changed level raises SSM_CHG. -/
def opEsmc (p level : Nat) (s : State) : State :=
  let w := w32 (level % 16 + 16)
  let s1 := { (s.count (Reg.UL_RX_FRAMES p)).wr (Reg.UL_SSM p) w with
    upl := { s.upl with ssmAt := setAt s.upl.ssmAt p s.ltc } }
  if s.rd (Reg.UL_SSM p) = w then s1 else s1.raise (0x48 + p) 2

def execEsmcPdu (port : Fin 2) (level : Fin 16) (s : State) : Host.Outcome State Fault Refusal :=
  ok (opEsmc port.val level.val s)

/-- SSM_EXPIRY: a level that is not refreshed within 5 s becomes invalid (R345). -/
def opSsmExpiry (p : Nat) (s : State) : State :=
  if s.flag (Reg.UL_SSM p) Fd.UL_SSM_VALID && decide (5 * tickS ≤ s.ltc.toNat - (nth s.upl.ssmAt p 0).toNat) then
    (s.wf (Reg.UL_SSM p) Fd.UL_SSM_VALID 0).raise (0x48 + p) 2
  else s

def execSsmExpiry (port : Fin 2) (s : State) : Host.Outcome State Fault Refusal := ok (opSsmExpiry port.val s)

/-! ### Messages -/

/-- The host that sent a message. -/
def sender (m : SlzMsg) : HostAddr := ⟨m.mac, m.ip, m.udp⟩

/-- The header of a message is one the hub accepts, and its body has one of the given lengths (R349). -/
def slzLayoutOk (m : SlzMsg) (okBody : List Byte → Bool) : Bool :=
  m.magic == 0x5A53 && m.ver == 1 && decide (m.ctx < 4) && decide (m.flags < 8) && m.len == m.body.length &&
    decide (m.tag.length = if m.flags % 2 = 1 then 8 else 0) && okBody m.body

/-- The tag of a message is the context's (R354); a context without a key ignores tags. -/
def State.authOk (s : State) (type : Nat) (m : SlzMsg) : Bool :=
  match s.ctxKey m.ctx with
  | none => true
  | some k =>
    m.flags % 2 == 1 &&
      m.tag == tag64 k (slzHeader type m.ctx m.flags m.len m.session m.seq m.ack m.boot ++ m.body)

/-- A message dropped for its tag (R354). -/
def State.authFail (s : State) : State := ((s.count Reg.SLZ_AUTH_FAIL).err 0x4A Err.SLZ_AUTH).raise 0x4A 1

/-- The response a performed message stores and sends (R353); type 0 for none. -/
def State.answer (s : State) (x seq type : Nat) (body : List Byte) : State :=
  let s1 := s.onSession x (fun q => { q with answers := ((seq, type, body) :: q.answers).take 16 })
  if type = 0 then s1 else s1.sendMsg x type body

/-- The response of a message whose effect the standby must hold first (R390): it waits for the acknowledgement of the
COPY that carries the operation. -/
def State.answerHeld (s : State) (x seq type : Nat) (body : List Byte) : State :=
  if s.role = 1 ∧ s.syncState = 3 then
    let s1 := s.onSession x (fun q => { q with answers := ((seq, type, body) :: q.answers).take 16 })
    { s1 with pai := { s1.pai with held := s1.pai.held ++ [Held.mk (s1.pai.copyNo + 1) x seq type body] } }
  else s.answer x seq type body

/-- A session message of type `type` arrives (R349 to R354). `run` performs it and gives the response; `hold` says that
the response waits for the standby (R390). -/
def State.slzReceive (s : State) (type : Nat) (m : SlzMsg) (okBody : List Byte → Bool)
    (run : State → State × Nat × List Byte) (hold : Bool := false) : State :=
  if !s.hears m.port.val then s
  else
    let s0 := s.count (Reg.UL_RX_FRAMES m.port.val)
    if !slzLayoutOk m okBody then s0.count Reg.SLZ_BAD_MSG
    else
      match s0.session m.ctx with
      | none => s0.count Reg.SLZ_BAD_MSG
      | some q =>
        if !s0.authOk type m then s0.authFail
        else if m.session ≠ q.number ∨ m.boot ≠ s.nv.boot ∨ m.ip ≠ q.ip ∨ m.udp ≠ q.udp then
          s0.sendBare m.port.val m.ctx 0xE0 (sender m) (by1 7 ++ [0, 0, 0] ++ le4 m.seq)
        else if m.seq ≤ q.rxSeq then
          match q.answers.find? (fun a => a.1 == m.seq) with
          | some a =>
            if m.flags / 2 % 2 = 1 then
              if a.2.1 = 0 ∨ s0.pai.held.any (fun h => h.ctx == m.ctx && h.seq == m.seq) then s0
              else s0.sendMsg m.ctx a.2.1 a.2.2
            else s0.count Reg.SLZ_REPLAY
          | none => s0.count Reg.SLZ_REPLAY
        else
          let s1 := s0.onSession m.ctx (fun q => { q with
            rxSeq := m.seq, lastRx := s.ltc, home := m.port.val, macs := setAt q.macs m.port.val m.mac, acked := max q.acked m.ack,
            notices := q.notices.filter (fun n => decide (m.ack < n.no)) })
          let r := run s1
          if (r.1.session m.ctx).isNone then r.1
          else if hold then r.1.answerHeld m.ctx m.seq r.2.1 r.2.2
          else r.1.answer m.ctx m.seq r.2.1 r.2.2

/-! ### Sessions -/

/-- End a context's session: delivery stops, every lane of its spools is rewound, notices go (R352). -/
def State.endSession (s : State) (x : Nat) : State :=
  let s1 := iter 64 (fun sp a =>
    if a.spoolReadable sp && a.rf (Reg.SPLN_CFG sp) Fd.SPLN_CFG_CTX == x then a.laneOp sp 0 true 2 else a) s
  { s1 with sessions := s1.sessions.filter (fun q => q.ctx != x) }.raise 0x4A 0

/-- OPEN_ACK: SERIAL, FW_VER, PLAN_ID of the running plan, ROLE, three bytes 0 (R350). -/
def State.openAck (s : State) : List Byte :=
  let role := if s.role = 1 then 1 else if s.role = 0 then 0 else 2
  le8 s.nv.serial ++ wordBytes (s.rd Reg.SYS_FW_VER) ++ le8 ((s.pln.run.map Plan.id).getD 0) ++ by1 role ++ [0, 0, 0]

/-- OPEN (R351): opens or replaces a session, or is refused. -/
def opSessOpen (m : SlzMsg) (s : State) : State :=
  if !s.hears m.port.val then s
  else
    let s0 := s.count (Reg.UL_RX_FRAMES m.port.val)
    if !slzLayoutOk m (fun b => b.length == 4) || m.session != 0 || m.boot != 0 then s0.count Reg.SLZ_BAD_MSG
    else if !s0.authOk 0x01 m then s0.authFail
    else if m.ctx = s.mgmtCtx then
      s0.sendBare m.port.val m.ctx 0xE0 (sender m) (by1 1 ++ [0, 0, 0] ++ le4 m.seq)
    else
      let other := match s0.session m.ctx with
        | some q => q.ip != m.ip || q.udp != m.udp
        | none => false
      if other then s0.sendBare m.port.val m.ctx 0xE0 (sender m) (by1 6 ++ [0, 0, 0] ++ le4 m.seq)
      else
        let s1 := if (s0.session m.ctx).isSome then s0.endSession m.ctx else s0
        let q : Session :=
          { ctx := m.ctx, ip := m.ip, udp := m.udp, macs := [m.mac, m.mac], home := m.port.val, number := s1.sessNo + 1,
            rxSeq := m.seq, txSeq := 0, limit := w32 (fieldAt m.body 0 4), sentBytes := 0, lastRx := s.ltc,
            lastTx := s.ltc, auth := (s.ctxKey m.ctx).isSome, noticeNo := 0, acked := 0, notices := [], due := [],
            recent := [], answers := [], sending := [] }
        (({ s1 with sessions := s1.sessions ++ [q], sessNo := s1.sessNo + 1 }).raise 0x4A 0).answer m.ctx m.seq 0x81
          s1.openAck

def execSessOpen (m : SlzMsg) (s : State) : Host.Outcome State Fault Refusal := ok (opSessOpen m s)

/-- CLOSE: CLOSE_ACK, and the session ends (R352). -/
def opSessClose (m : SlzMsg) (s : State) : State :=
  s.slzReceive 0x02 m (fun b => b.length == 0) (fun a => ((a.sendMsg m.ctx 0x82 []).endSession m.ctx, 0, []))

def execSessClose (m : SlzMsg) (s : State) : Host.Outcome State Fault Refusal := ok (opSessClose m s)

/-- KEEPALIVE from a host renews the expiry timer (R352). -/
def opSessKeepalive (m : SlzMsg) (s : State) : State :=
  s.slzReceive 0x03 m (fun b => b.length == 0) (fun a => (a, 0, []))

def execSessKeepalive (m : SlzMsg) (s : State) : Host.Outcome State Fault Refusal := ok (opSessKeepalive m s)

/-- CREDIT raises the credit limit; a LIMIT behind the present one is ignored (R357). -/
def opSessCredit (m : SlzMsg) (s : State) : State :=
  s.slzReceive 0x04 m (fun b => b.length == 4) (fun a =>
    let v := w32 (fieldAt m.body 0 4)
    (a.onSession m.ctx (fun q => if 0 < tsDiff v q.limit then { q with limit := v } else q), 0, []))

def execSessCredit (m : SlzMsg) (s : State) : Host.Outcome State Fault Refusal := ok (opSessCredit m s)

/-- KEEPALIVE_SEND: nothing has been sent on a session for SESS_TO / 4 ms (R352). -/
def opKeepaliveSend (x : Nat) (s : State) : State :=
  match s.session x with
  | none => s
  | some q =>
    if s.rf Reg.SLZ_CFG Fd.SLZ_CFG_SESS_TO * tickMs ≤ 4 * (s.ltc.toNat - q.lastTx.toNat) then s.sendMsg x 0x03 [] else s

def execKeepaliveSend (ctx : Fin 4) (s : State) : Host.Outcome State Fault Refusal := ok (opKeepaliveSend ctx.val s)

/-- SESSION_EXPIRY: no valid message for SESS_TO ms (R352). -/
def opSessionExpiry (x : Nat) (s : State) : State :=
  match s.session x with
  | none => s
  | some q =>
    if s.rf Reg.SLZ_CFG Fd.SLZ_CFG_SESS_TO * tickMs ≤ s.ltc.toNat - q.lastRx.toNat then
      ((s.endSession x).count Reg.SLZ_SESS_EXP).err 0x4A Err.SLZ_SESS_EXPIRED
    else s

def execSessionExpiry (ctx : Fin 4) (s : State) : Host.Outcome State Fault Refusal := ok (opSessionExpiry ctx.val s)

/-! ### Spool operations over Slozon -/

/-- Status of a spool operation of a context before it acts (R272, R284, R351, R358): 0 OK. -/
def State.spoolOpStatus (s : State) (x sp op lane mx : Nat) : Nat :=
  if 2 ≤ s.role then 5
  else if 64 ≤ sp ∨ op = 0 ∨ 6 ≤ op ∨ 16 ≤ lane then 3
  else if !s.spoolReadable sp then (if op = 1 then 0 else 3)
  else if s.rf (Reg.SPLN_CFG sp) Fd.SPLN_CFG_CTX ≠ x then 4
  else if op = 1 ∧ s.flag (Reg.SPLN_CFG sp) Fd.SPLN_CFG_PUSH then 4
  else if op = 1 ∧ 64 < mx then 3
  else 0

/-- The largest body of an ITEM message (R349), and bytes of item data that one chunk of it bears (R356). -/
def State.maxBody (s : State) (p : Nat) : Nat := s.rf (Reg.UL_CFG p) Fd.UL_CFG_MTU - 60
def State.maxChunk (s : State) (p : Nat) : Nat := (s.maxBody p - 8) / 4 * 4

/-- Body bytes of the ITEM messages that carry `n` item bytes, one chunk each (R356). -/
def itemCost (chunk n : Nat) : Nat :=
  if chunk = 0 then 0 else 8 * ceilDiv n chunk + n / chunk * chunk + ceilDiv (n % chunk) 4 * 4

/-- Credit allows `n` more body bytes (R357). -/
def Session.creditFor (q : Session) (n : Nat) : Bool := decide (0 ≤ tsDiff q.limit (w32 (q.sentBytes + n)))

/-- Body bytes of everything in delivery on a session. -/
def Session.queued (q : Session) (chunk : Nat) : Nat := (q.sending.map (fun d => itemCost chunk (d.bytes.length - d.off))).sum

/-- Pop up to as many items as `eccs` numbers, each with what its read meets, while credit allows (R276, R358):
the count popped. -/
def State.popSome (s : State) (x sp lane : Nat) (one : Bool) : List Ecc → Nat → State × Nat
  | [], n => (s, n)
  | e :: es, n =>
    match s.popItem sp lane one e with
    | (none, _) => (s, n)
    | (some (k, it), s1) =>
      let bytes := it.delivered k
      let chunk := match s.session x with | some q => s.maxChunk q.home | none => 0
      let fits := match s.session x with
        | some q => q.creditFor (q.queued chunk + itemCost chunk bytes.length)
        | none => false
      if fits then
        (s1.onSession x (fun q => { q with sending := q.sending ++ [⟨sp, k % 4, bytes, 0⟩] })).popSome x sp lane one es (n + 1)
      else (s, n)

/-- A SPOOL_OP message whose OP byte is `op` (R358); `ecc` is what the reads of its pops meet, clean where the list
ends. -/
def State.spoolOp (s : State) (op : Nat) (m : SlzMsg) (ecc : List Ecc) : State :=
  s.slzReceive 0x20 m (fun b => b.length == 4 && (byteAt b 1 == op || (op == 1 && (byteAt b 1 == 0 || decide (5 < byteAt b 1)))))
    (fun a =>
      let sp := byteAt m.body 0
      let o := byteAt m.body 1
      let ln := byteAt m.body 2
      let mx := byteAt m.body 3
      let st := a.spoolOpStatus m.ctx sp o ln mx
      let resp (b : State) (n : Nat) : State × Nat × List Byte :=
        (b, 0xA1, by1 sp ++ by1 o ++ by1 st ++ by1 n)
      if st = 4 ∧ a.rf (Reg.SPLN_CFG sp) Fd.SPLN_CFG_CTX ≠ m.ctx then resp (a.err 0x38 Err.SPL_NOT_OWNER) 0
      else if st ≠ 0 then resp a 0
      else if o = 1 then
        let r := a.popSome m.ctx sp (ln % 4) (decide (ln / 8 % 2 = 1)) ((ecc ++ List.replicate mx Ecc.clean).take mx) 0
        resp r.1 r.2
      else resp (a.laneOp sp (ln % 4) (decide (ln / 4 % 2 = 1)) (o - 1)) 0) (op != 1)

def execSpoolOpPop (m : SlzMsg) (ecc : List Ecc) (s : State) : Host.Outcome State Fault Refusal := ok (s.spoolOp 1 m ecc)
def execSpoolOpMark (m : SlzMsg) (s : State) : Host.Outcome State Fault Refusal := ok (s.spoolOp 2 m [])
def execSpoolOpRewind (m : SlzMsg) (s : State) : Host.Outcome State Fault Refusal := ok (s.spoolOp 3 m [])
def execSpoolOpReleaseMark (m : SlzMsg) (s : State) : Host.Outcome State Fault Refusal := ok (s.spoolOp 4 m [])
def execSpoolOpReleaseRead (m : SlzMsg) (s : State) : Host.Outcome State Fault Refusal := ok (s.spoolOp 5 m [])

/-! ### Delivery -/

/-- A spool's uplink budget in kb/s: RES 0x05 on two ports, RES 0x06 on one (R366). -/
def State.spoolBudget (s : State) (two : Bool) (sp : Nat) : Nat :=
  match s.pln.run with
  | none => 0
  | some p => ((p.mem.find? (fun e => e.res == (if two then 5 else 6) && e.index == sp)).map MemEnt.size).getD 0

/-- The allowances brought up to now, each capped at 65,536 bytes (R366). -/
def State.growAllow (s : State) : State :=
  let d := s.ltc.toNat - s.upl.allowAt.toNat
  let grow (sp : Nat) : Int :=
    min (65536 * 8250000) (NMap.get (fun _ => (0 : Int)) s.upl.allow sp + (d * s.spoolBudget s.upl.twoPort sp : Nat))
  let m := (List.range 64).foldl (fun a sp => NMap.set (fun _ => (0 : Int)) a sp (grow sp)) s.upl.allow
  { s with upl := { s.upl with allow := m, allowAt := s.ltc } }

def State.allowance (s : State) (sp : Nat) : Int := NMap.get (fun _ => 0) s.upl.allow sp

/-- The push path may serve a spool on a port: its session is homed there, it is a push spool with something to send,
and credit covers the next message (R279, R357, R366). -/
def State.servable (s : State) (p sp : Nat) : Bool :=
  match s.session (s.rf (Reg.SPLN_CFG sp) Fd.SPLN_CFG_CTX) with
  | none => false
  | some q =>
    let pend := q.sending.find? (fun d => d.spool == sp)
    let nextItem := ((popLanes sp 0 false).find? (fun k => decide ((s.lane k).depth ≠ 0))).bind
      (fun k => ((s.lane k).unread.head?).map (fun i => 32 + i.out.length))
    let bytes := match pend with
      | some d => some (d.bytes.length - d.off)
      | none => if s.flag (Reg.SPLN_CFG sp) Fd.SPLN_CFG_PUSH then nextItem else none
    s.spoolReadable sp && q.home == p && decide (q.ctx ≠ s.mgmtCtx) &&
      (match bytes with
       | some n => q.creditFor (8 + ceilDiv (min n (s.maxChunk p)) 4 * 4)
       | none => false)

/-- The body of an ITEM message with one chunk of a delivery (R356). -/
def Sending.chunk (d : Sending) (n : Nat) : List Byte :=
  let c := min n (d.bytes.length - d.off)
  by1 d.spool ++ by1 (d.lane + 4 * b2n (d.off == 0) + 8 * b2n (d.off + c == d.bytes.length)) ++ le2 c ++ le4 d.off ++
    (d.bytes.drop d.off).take c ++ List.replicate ((4 - c % 4) % 4) 0

/-- Send the next chunk of the first delivery of a spool on a context's session. -/
def State.sendChunk (s : State) (x sp : Nat) : State :=
  match s.session x with
  | none => s
  | some q =>
    match q.sending.find? (fun d => d.spool == sp) with
    | none => s
    | some d =>
      let n := s.maxChunk q.home
      let body := d.chunk n
      let d' := { d with off := d.off + min n (d.bytes.length - d.off) }
      let rest := q.sending.erase d
      let before := q.sending.takeWhile (fun e => e != d)
      let sending := if d'.off < d.bytes.length then before ++ [d'] ++ rest.drop before.length else rest
      let s1 := s.onSession x (fun q => { q with sending := sending, sentBytes := q.sentBytes + body.length })
      let left : Int := s1.allowance sp - (8250000 * (d'.off - d.off) : Nat)
      let s2 := { s1 with upl := { s1.upl with allow := NMap.set (fun _ => (0 : Int)) s1.upl.allow sp left } }
      s2.sendMsg x 0xA0 body

/-- ITEM_SEND: a port sends the next ITEM message: spools with a positive allowance first, in ascending number, then
the others (R279, R356, R357, R366). A standby or deposed
hub delivers nothing (R351, R396). -/
def opItemSend (p : Nat) (ecc : Ecc) (s : State) : State :=
  if !s.inService p ∨ 2 ≤ s.role then s
  else
    let s0 := s.growAllow
    let can := (List.range 64).filter (fun sp => s0.servable p sp)
    match ((can.filter (fun sp => decide (0 < s0.allowance sp))) ++ can).head? with
    | none => s0
    | some sp =>
      let x := s0.rf (Reg.SPLN_CFG sp) Fd.SPLN_CFG_CTX
      let pend := match s0.session x with
        | some q => q.sending.any (fun d => d.spool == sp)
        | none => false
      if pend then s0.sendChunk x sp
      else
        match s0.popItem sp 0 false ecc with
        | (none, s1) => s1
        | (some (k, it), s1) =>
          (s1.onSession x (fun q => { q with sending := q.sending ++ [⟨sp, k % 4, it.delivered k, 0⟩] })).sendChunk x sp

def execItemSend (port : Fin 2) (ecc : Ecc) (s : State) : Host.Outcome State Fault Refusal :=
  ok (opItemSend port.val ecc s)

/-- The lanes that the one-port budgets shed (R368): in priority order, from the first lane at which the sum of the
kept lanes' IN_RATE × 8 / 1,000 passes the spool's one-port budget. -/
def Plan.shedFrom (p : Plan) (budget sp : Nat) : Nat :=
  let rate (L : Nat) : Nat := ((p.lanes[4 * sp + L]?).map LaneEnt.inRate).getD 0
  let sums := (List.range 4).map (fun L => ((List.range (L + 1)).map rate).sum * 8)
  (sums.takeWhile (fun v => decide (v ≤ budget * 1000))).length

/-- The budgets of one or two ports come into force at a boundary (R367, R368). -/
def State.applyBudget (s : State) (two : Bool) : State :=
  match s.pln.run with
  | none => { s with upl := { s.upl with twoPort := two, next := none } }
  | some p =>
    let s0 := { s.growAllow with upl := { s.growAllow.upl with twoPort := two, next := none } }
    let served (a : State) (sp : Nat) : Bool :=
      a.spoolUsed sp && decide (a.rf (Reg.SPLN_CFG sp) Fd.SPLN_CFG_CTX ≠ a.mgmtCtx)
    let s1 := iter 256 (fun k a =>
      let shed := !two && served a (k / 4) && decide (p.shedFrom (a.spoolBudget false (k / 4)) (k / 4) ≤ k % 4)
      if (a.lane k).shed = shed then a else a.setLane k { a.lane k with shed := shed }) s0
    let any := (List.range 256).any (fun k => (s1.lane k).shed)
    let s2 := (s1.wf Reg.SLZ_STAT Fd.SLZ_STAT_ONE_PORT (b2n (!two))).wf Reg.SLZ_STAT Fd.SLZ_STAT_SHEDDING (b2n any)
    if any then (s2.err 0x4A Err.UL_SHED).raise 0x4A 2 else s2

/-- At a boundary: a waiting budget change whose time has come (R367, R369). -/
def State.budgetBoundary (s : State) : State :=
  match s.upl.next with
  | some (two, t) => if t.toNat ≤ s.ltc.toNat then s.applyBudget two else s
  | none => s

/-! ### Notices -/

/-- Send the NOTICE of a page to a context (R359). -/
def State.sendNotice (s : State) (x page : Nat) : State :=
  match s.session x with
  | none => s
  | some q =>
    let no := q.noticeNo + 1
    let body := le4 no ++ le2 page ++ le2 (s.rd (Reg.HDR_ERR_CODE page)).toNat ++
      wordBytes (s.rd (Reg.HDR_IRQ_RAW page)) ++ wordBytes (s.rd (Reg.HDR_SEQ page))
    (s.onSession x (fun q => { q with
      noticeNo := no, notices := q.notices ++ [⟨no, page, body, s.ltc⟩],
      due := q.due.filter (fun d => d.1 != page),
      recent := (page, s.ltc) :: q.recent.filter (fun r => r.1 != page) })).sendMsg x 0xC0 body

/-- NOTICE_SEND: an event that is not gathered (R359). -/
def opNoticeSend (x page : Nat) (s : State) : State :=
  match s.session x with
  | none => s
  | some q => if q.due.any (fun d => d.1 == page && d.2.isNone) then s.sendNotice x page else s

def execNoticeSend (ctx : Fin 4) (page : Nat) (s : State) : Host.Outcome State Fault Refusal :=
  ok (opNoticeSend ctx.val page s)

/-- NOTICE_HOLD_EXPIRY: the gathered events of a page are sent as one NOTICE (R359). -/
def opNoticeHold (x page : Nat) (s : State) : State :=
  match s.session x with
  | none => s
  | some q =>
    if q.due.any (fun d => d.1 == page && (match d.2 with
      | some t => decide (t.toNat ≤ s.ltc.toNat)
      | none => false)) then s.sendNotice x page else s

def execNoticeHoldExpiry (ctx : Fin 4) (page : Nat) (s : State) : Host.Outcome State Fault Refusal :=
  ok (opNoticeHold ctx.val page s)

/-- NOTICE_REPEAT: notices above the host's ACK are sent again once every 100 ms (R359). -/
def opNoticeRepeat (x : Nat) (s : State) : State :=
  match s.session x with
  | none => s
  | some q =>
    let again := q.notices.filter (fun n => decide (100 * tickMs ≤ s.ltc.toNat - n.sentAt.toNat))
    let s1 := s.onSession x (fun q => { q with notices := q.notices.map (fun n =>
      if 100 * tickMs ≤ s.ltc.toNat - n.sentAt.toNat then { n with sentAt := s.ltc } else n) })
    again.foldl (fun a n => a.sendMsg x 0xC0 n.body) s1

def execNoticeRepeat (ctx : Fin 4) (s : State) : Host.Outcome State Fault Refusal := ok (opNoticeRepeat ctx.val s)

/-- SLZ.STAT as read (R379): sessions, authenticated sessions, one-port and shedding bits, the role. -/
def State.slzStat (s : State) : Word :=
  let bits (f : Session → Bool) : Nat := (List.range 4).foldl (fun a x =>
    a + b2n (s.sessions.any (fun q => q.ctx == x && f q)) * 2 ^ x) 0
  w32 (bits (fun _ => true) + 16 * bits (fun q => q.auth) + 256 * s.rf Reg.SLZ_STAT Fd.SLZ_STAT_ONE_PORT +
    512 * s.rf Reg.SLZ_STAT Fd.SLZ_STAT_SHEDDING + 1024 * s.role)

end Sys2Proof.Machine
end

