-- ==== Sys2Proof/Machine/Clock.lean ====
section
/-!
DEFINITION. Clock sources, the synthesiser, holdover and park, lane test patterns and clock gating (R12 to R16, R326 to
R341).
-/

namespace Sys2Proof.Machine

/-! ### Sources -/

/-- Clock states of CLK.STAT. -/
abbrev clkStart : Nat := 0
abbrev clkLocked : Nat := 1
abbrev clkSwitching : Nat := 2
abbrev clkRamp : Nat := 3
abbrev clkHoldover : Nat := 4
abbrev clkParked : Nat := 5

def State.clkState (s : State) : Nat := s.rf Reg.CLK_STAT Fd.CLK_STAT_STATE
def State.setClk (s : State) (v : Nat) : State := s.wf Reg.CLK_STAT Fd.CLK_STAT_STATE v
def State.inHoldover (s : State) : Bool := s.clkState == clkHoldover
def State.selected (s : State) : Nat := s.rf Reg.CLK_STAT Fd.CLK_STAT_SEL
def State.srcReady (s : State) (n : Nat) : Bool := Word.bit (s.rd Reg.CLK_STAT) (8 + n)

/-- The sources in PRIO order (R333); a place that names none is skipped. -/
def State.prio (s : State) : List Nat :=
  [s.rf Reg.CLK_PRIO Fd.CLK_PRIO_FIRST, s.rf Reg.CLK_PRIO Fd.CLK_PRIO_SECOND,
    s.rf Reg.CLK_PRIO Fd.CLK_PRIO_THIRD].filter (fun n => decide (n < 3))

/-- The first ready source in PRIO order. -/
def State.bestSource (s : State) : Option Nat := s.prio.find? (fun n => s.srcReady n)

/-- Show a source as ready or not (R332); LN.STAT.STATE follows, and a change raises READY_CHG. -/
def State.setReady (s : State) (n : Nat) (r : Bool) : State :=
  if s.srcReady n = r then s
  else
    let s1 := s.wr Reg.CLK_STAT (Word.putBit (s.rd Reg.CLK_STAT) (8 + n) r)
    let st := s1.rf (Reg.LN_STAT n) Fd.LN_STAT_STATE
    let s2 := if r ∧ st = 3 then s1.wf (Reg.LN_STAT n) Fd.LN_STAT_STATE 4
      else if !r ∧ st = 4 then s1.wf (Reg.LN_STAT n) Fd.LN_STAT_STATE 3 else s1
    ({ s2 with clk := { s2.clk with readyFrom := setAt s2.clk.readyFrom n (if r then some s.ltc else none) } }).raise 0x1 3

/-- Holdover begins: its MARK in every spool with system marks, the counts and reports (R15, R337). -/
def State.enterHoldover (s : State) (lost : Nat) : State :=
  let s1 := { s.setClk clkHoldover with clk := { s.clk with
    frozen := true, lost := lost, holdFrom := some s.ltc, parkAsk := false, target := none, ramp := 0 } }
  (((s1.count Reg.CLK_HOLDOVERS).err 0x1 Err.CLK_HOLDOVER).raise 0x1 1).sysMark 8 s.ltc lost 0

/-- A switch to a source begins (R335). -/
def State.startSwitch (s : State) (n : Nat) : State :=
  { s.setClk clkSwitching with clk := { s.clk with frozen := true, target := some n, ramp := 0 } }

/-- The selected source, or the target of a switch in progress, is lost: the next ready source, else holdover. A hub
that is parked for want of a source waits for one (R15, R333, R337). -/
def State.sourceLost (s : State) (n : Nat) : State :=
  let s1 := s.setReady n false
  let st := s1.clkState
  let hit := match s1.clk.target with
    | some t => decide (t = n) && decide (st = clkSwitching ∨ st = clkRamp)
    | none => s1.flag Reg.CLK_STAT Fd.CLK_STAT_VALID && decide (s1.selected = n) && decide (st = clkLocked)
  if !hit then s1
  else
    match s1.bestSource with
    | some b => s1.startSwitch b
    | none =>
      if s1.clk.parkClk then { s1.setClk clkParked with clk := { s1.clk with target := none, ramp := 0, frozen := true } }
      else s1.enterHoldover n

/-- A source has become ready while the synthesiser has none: it is taken at once (R15, R16, R333). At the start the
LTC begins with the first selection, and the ramp runs (R427). While Winch restarts the selection is kept (R436). -/
def State.takeSource (s : State) : State :=
  if s.sys.restarting then s
  else
  match s.bestSource with
  | none => s
  | some b =>
    let st := s.clkState
    if st = clkHoldover ∨ st = clkParked then s.startSwitch b
    else if st = clkStart ∧ s.sys.step = 1 then
      let s1 := ((s.setClk clkRamp).wf Reg.CLK_STAT Fd.CLK_STAT_SEL b).wf Reg.CLK_STAT Fd.CLK_STAT_VALID 1
      { s1.wr (Reg.CLK_FREQ b) 0x8000 with
        ltcRun := true, sys := { s1.sys with step := 2 },
        clk := { s1.clk with target := some b, ramp := 16, starting := true } }
    else s

/-- The partner's tether frames report that its source is its LN2, or that it is in holdover or parked; when they do so no
more, LN2 is ready again by its last comparison (R332). -/
def State.holdLn2 (s : State) (h : Bool) : State :=
  let s1 := { s with clk := { s.clk with held := h } }
  if h ∧ s.srcReady 2 then
    ((s1.setReady 2 false).wf Reg.CLK_STAT Fd.CLK_STAT_TETHER_LOOP 1).err 0x1 Err.CLK_TETHER_LOOP
  else if h then s1
  else
    let s2 := s1.wf Reg.CLK_STAT Fd.CLK_STAT_TETHER_LOOP 0
    if s.clk.held ∧ s.flag (Reg.LN_STAT 2) Fd.LN_STAT_CDR_LOCK ∧ nth s.clk.passed 2 false then (s2.setReady 2 true).takeSource
    else s2

/-- SYNTH_TROUBLE: the control word freezes at the first sign of trouble on the selected source (R331). -/
def opSynthTrouble (s : State) : State :=
  if s.clkState = clkLocked then { s with clk := { s.clk with frozen := true } } else s

def execSynthTrouble (s : State) : Host.Outcome State Fault Refusal := ok (opSynthTrouble s)

/-- SOURCE_RECOVERS: the loop resumes on the same source without a switch (R331). -/
def opSourceRecovers (s : State) : State :=
  if s.clkState = clkLocked ∧ s.clk.frozen then
    ({ s with clk := { s.clk with frozen := false } }).count Reg.CLK_HITS
  else s

def execSourceRecovers (s : State) : Host.Outcome State Fault Refusal := ok (opSourceRecovers s)

/-! ### Switching and the ramp -/

/-- CLK_SWITCH: SWITCH by command, refused as R334 lists, in the order of its table. A source that PRIO does not name is
never selected (R333); such a SWITCH is refused as one to a source that is not ready (log 148). -/
def opClkSwitch (x n : Nat) (s : State) : State :=
  let moving := decide (s.clkState = clkSwitching ∨ s.clkState = clkRamp)
  if x ≠ 0 then s.err 0x1 Err.CLK_OWNER
  else if n = 3 then s.err 0x1 Err.CLK_RANGE
  else if s.flag Reg.CLK_STAT Fd.CLK_STAT_VALID && decide (s.selected = n) && decide (s.clkState = clkLocked) then s
  else if !s.srcReady n || !s.prio.contains n then s.err 0x1 Err.CLK_NOT_READY
  else if moving then s.err 0x1 Err.CLK_BUSY
  else s.startSwitch n

def execClkSwitch (ctx : Fin 4) (src : Fin 4) (s : State) : Host.Outcome State Fault Refusal :=
  ok (opClkSwitch ctx.val src.val s)

/-- A switch completes on its target, with or without the old domain's handshake, and the ramp starts (R335, R336). -/
def State.switchDone (s : State) (timeout : Bool) : State :=
  match s.clk.target with
  | none => s
  | some n =>
    if s.clkState ≠ clkSwitching then s
    else
      let s1 := (((s.setClk clkRamp).wf Reg.CLK_STAT Fd.CLK_STAT_SEL n).wf Reg.CLK_STAT Fd.CLK_STAT_VALID 1).wf
        Reg.CLK_STAT Fd.CLK_STAT_SW_TIMEOUT (b2n timeout)
      let s2 := ((s1.wr (Reg.CLK_FREQ n) 0x8000).count Reg.CLK_SWITCHES).wr64 Reg.CLK_SW_LTC_LO Reg.CLK_SW_LTC_HI s.ltc.toNat
      let s3 := { s2 with clk := { s2.clk with ramp := 16, starting := false, frozen := false } }
      (if timeout then s3.err 0x1 Err.CLK_SW_TIMEOUT else s3).raise 0x1 0

def execSwitchHandshake (s : State) : Host.Outcome State Fault Refusal := ok (s.switchDone false)
def execSwitchHandshakeTimeout (s : State) : Host.Outcome State Fault Refusal := ok (s.switchDone true)

/-- RAMP_STEP: the reference divider goes from 16 to 8, 4, 2, 1 (R336). -/
def opRampStep (s : State) : State :=
  if 1 < s.clk.ramp then { s with clk := { s.clk with ramp := s.clk.ramp / 2 } } else s

def execRampStep (s : State) : Host.Outcome State Fault Refusal := ok (opRampStep s)

/-- RAMP_COMPLETE: state LOCKED; the phase build-out of a switch, in ps, adds to PBO; at the start register access is
served from here on (R336, R427). -/
def opRampComplete (pbo : Int) (s : State) : State :=
  if s.clk.ramp ≠ 1 then s
  else
    let s1 := { s.setClk clkLocked with clk := { s.clk with
      ramp := 0, target := none, starting := false, frozen := false, holdFrom := none, parkAsk := false } }
    if s.clk.starting then
      { s1 with sys := { s1.sys with step := max s1.sys.step 3 } }
    else s1.wr Reg.CLK_PBO (s1.rd Reg.CLK_PBO + BitVec.ofInt 32 pbo)

def execRampComplete (pbo : Int) (s : State) : Host.Outcome State Fault Refusal := ok (opRampComplete pbo s)

/-- REVERT_HOLD_ELAPSED: with REVERT set, a source higher in PRIO that has been ready for REVERT_HOLD s is taken (R333). -/
def opRevertHold (s : State) : State :=
  let higher := s.prio.takeWhile (fun n => decide (n ≠ s.selected))
  let hold := s.rf Reg.CLK_CFG Fd.CLK_CFG_REVERT_HOLD * tickS
  match higher.find? (fun n => s.srcReady n && (match nth s.clk.readyFrom n none with
    | some t => decide (hold ≤ s.ltc.toNat - t.toNat)
    | none => false)) with
  | some n => if s.flag Reg.CLK_CFG Fd.CLK_CFG_REVERT ∧ s.clkState = clkLocked ∧ !s.sys.restarting then s.startSwitch n else s
  | none => s

def execRevertHoldElapsed (s : State) : Host.Outcome State Fault Refusal := ok (opRevertHold s)

/-! ### Holdover, park and resume -/

/-- The hub parks at a boundary: the MARK of kind PARK, the count and the reports; a park already in force only gains a
cause (R16, R337, R342, R430). -/
def State.enterPark (s : State) (byClock : Bool) : State :=
  let first := !s.parked
  let s1 := { s with clk := { s.clk with
    parkClk := s.clk.parkClk || byClock, parkPfw := s.clk.parkPfw || !byClock, parkAsk := false,
    parkFrom := if first then s.ltc else s.clk.parkFrom } }
  let s2 := if first then ((s1.count Reg.CLK_PARKS).err 0x1 Err.CLK_PARK).raise 0x1 2 else s1
  let s3 := if byClock then s2.setClk clkParked else s2.wf Reg.SYS_STAT Fd.SYS_STAT_PFW_PARK 1
  let s4 := iter 32 (fun u a =>
    let c := a.unit u
    if c.ring = [] ∧ c.acc.isNone ∧ c.olds = [] then a
    else a.setUnit u { c with
      parked := c.acc.isSome, gap := true, olds := c.olds.map (fun o => { o with parked := true, gap := true }) }) s3
  if first then s4.sysMark 4 s.ltc 0 0 else s4

/-- HOLDOVER_TIMEOUT: holdover has lasted 8 ms with no ready source: the hub parks at the next shot boundary, at once
where the plan has no boundary (R16). -/
def opHoldoverTimeout (s : State) : State :=
  match s.clk.holdFrom with
  | none => s
  | some t =>
    if s.clkState ≠ clkHoldover ∨ s.ltc.toNat - t.toNat < 8 * tickMs then s
    else if s.mainBoundary = 0 ∨ s.parked then s.enterPark true
    else { s with clk := { s.clk with parkAsk := true } }

def execHoldoverTimeout (s : State) : Host.Outcome State Fault Refusal := ok (opHoldoverTimeout s)

/-- The number of the first period boundary at or after an instant (R16, R39). -/
def State.indexFrom (s : State) (t : Time) (period : Nat) : Nat := ceilDiv (t.toNat - s.sched.epoch.toNat) period

/-- A schedule number brought forward to the first boundary at or after an instant; as it is where the plan has no such
period. -/
def State.bringTo (s : State) (t : Time) (period no : Nat) : Nat :=
  if period = 0 then no else max no (s.indexFrom t period)

/-- End the park: acquisition resumes at the next shot boundary of the schedule, which a MARK of kind RESUME bears. The
first hold and the first superframe are those at or after that boundary (R16, R430). -/
def State.endPark (s : State) : State :=
  let s1 := { s with sched := { s.sched with
    shotNo := s.bringTo s.ltc s.shotPeriod s.sched.shotNo,
    tickNo := s.bringTo s.ltc s.fieldTick s.sched.tickNo,
    sfNo := s.bringTo s.ltc s.superframe s.sched.sfNo } }
  let t := s1.nextBoundary
  let s2 := { s1 with
    sched := { s1.sched with
      tickNo := s1.bringTo t s1.fieldTick s1.sched.tickNo, sfNo := s1.bringTo t s1.superframe s1.sched.sfNo },
    clk := { s1.clk with parkClk := false, parkPfw := false } }
  s2.sysMark 5 t 0 0

/-- RESUME: a source is ready and the ramp is complete, so a park by the clock ends; acquisition resumes when no other
cause remains (R16). -/
def opClkResume (s : State) : State :=
  if s.clk.parkClk ∧ s.clkState = clkLocked then
    let s1 := { s with clk := { s.clk with parkClk := false } }
    if s1.clk.parkPfw then s1 else s1.endPark
  else s

def execClkResume (s : State) : Host.Outcome State Fault Refusal := ok (opClkResume s)

/-- At a shot boundary: the park that was asked for, if holdover still lasts (R16). -/
def State.parkBoundary (s : State) : State :=
  if s.clk.parkAsk ∧ s.clkState = clkHoldover then s.enterPark true else s

/-- CLK.HOLD_US as read: µs in the present holdover or park, saturating (R340). -/
def State.holdUs (s : State) : Nat :=
  match s.clk.holdFrom with
  | some t => satU 24 ((s.ltc.toNat - t.toNat) * 1000000 / tickS)
  | none => if s.parked then satU 24 ((s.ltc.toNat - s.clk.parkFrom.toNat) * 1000000 / tickS) else 0

/-! ### Lanes: margins and test patterns -/

/-- EYE_MEASURE: every 1 ms the monitor's margins, the equaliser settings unless frozen, and the checker's counts while
in SYNC (R327, R329). -/
def opEyeMeasure (n : Nat) (e : LaneMeasure) (s : State) : State :=
  let s1 := s.wr (Reg.LN_EYE n) (w32 (e.height % 256 + 256 * (e.width % 256)))
  let s2 := if s.flag (Reg.LN_CFG n) Fd.LN_CFG_ADAPT_FREEZE then s1
    else ((s1.wr (Reg.LN_RX_EQ n) (w32 (e.eq % 16))).wr (Reg.LN_DFE_LO n) e.dfeLo).wr (Reg.LN_DFE_HI n) e.dfeHi
  if s.flag (Reg.LN_STAT n) Fd.LN_STAT_PRBS_SYNC then
    (s2.wr (Reg.LN_PRBS_ERR n) (w32 (satU 32 ((s2.rd (Reg.LN_PRBS_ERR n)).toNat + e.errs)))).wr64
      (Reg.LN_PRBS_BITS_LO n) (Reg.LN_PRBS_BITS_HI n)
      (s2.rd64 (Reg.LN_PRBS_BITS_LO n) (Reg.LN_PRBS_BITS_HI n) + e.bits)
  else s2

def execEyeMeasure (lane : Fin 4) (e : LaneMeasure) (s : State) : Host.Outcome State Fault Refusal :=
  ok (opEyeMeasure lane.val e s)

/-- One injected error leaves the generator (R329): ball code 0x100 + lane. -/
def State.injectError (s : State) (n : Nat) : State :=
  if s.rf (Reg.LN_PRBS_CFG n) Fd.LN_PRBS_CFG_GEN = 0 then s else s.emitOut (.pin (0x100 + n) 1 s.ltc)

/-- PRBS_INJ1 and PRBS_CLR are C0's (R329, R330, R341). -/
def opPrbsInj1 (x n : Nat) (s : State) : State := if x ≠ 0 then s.err (0x50 + n) Err.LN_OWNER else s.injectError n

def execPrbsInj1 (ctx : Fin 4) (lane : Fin 4) (s : State) : Host.Outcome State Fault Refusal :=
  ok (opPrbsInj1 ctx.val lane.val s)

def opPrbsClr (x n : Nat) (s : State) : State :=
  if x ≠ 0 then s.err (0x50 + n) Err.LN_OWNER
  else ((s.wr (Reg.LN_PRBS_ERR n) 0).wr (Reg.LN_PRBS_BITS_LO n) 0).wr (Reg.LN_PRBS_BITS_HI n) 0

def execPrbsClr (ctx : Fin 4) (lane : Fin 4) (s : State) : Host.Outcome State Fault Refusal :=
  ok (opPrbsClr ctx.val lane.val s)

/-- PRBS_RATE_INJECT: with INJ_RATE k from 10 to 31, one error every 2^k bits (R329). -/
def opPrbsRate (n : Nat) (s : State) : State :=
  if 10 ≤ s.rf (Reg.LN_PRBS_CFG n) Fd.LN_PRBS_CFG_INJ_RATE then s.injectError n else s

def execPrbsRateInject (lane : Fin 4) (s : State) : Host.Outcome State Fault Refusal := ok (opPrbsRate lane.val s)

/-- PRBS_SYNC and PRBS_SYNC_LOSS: the checker, where enabled, gains or loses SYNC (R329). -/
def State.setPrbsSync (s : State) (n : Nat) (v : Bool) : State :=
  if s.rf (Reg.LN_PRBS_CFG n) Fd.LN_PRBS_CFG_CHK = 0 ∨ s.flag (Reg.LN_STAT n) Fd.LN_STAT_PRBS_SYNC = v then s
  else (s.wf (Reg.LN_STAT n) Fd.LN_STAT_PRBS_SYNC (b2n v)).raise (0x50 + n) 3

def execPrbsSync (lane : Fin 4) (s : State) : Host.Outcome State Fault Refusal := ok (s.setPrbsSync lane.val true)
def execPrbsSyncLoss (lane : Fin 4) (s : State) : Host.Outcome State Fault Refusal := ok (s.setPrbsSync lane.val false)

/-! ### Gating -/

/-- The running plan has the section. -/
def State.hasSection (s : State) (t : Nat) : Bool :=
  match s.pln.run with
  | some p => p.sections.contains t
  | none => false

/-- The block of a gate bit is used (R338). -/
def State.blockUsed (s : State) (g b : Nat) : Bool :=
  match g, b with
  | 0, 0 => s.hasSection 2
  | 0, 1 => s.hasSection 4
  | 0, 2 => s.hasSection 5
  | 0, 3 => (List.range 32).any (fun u => s.capTap u != 0)
  | 0, 4 => (List.range 64).any (fun sp => s.spoolLevel sp != 0)
  | 0, 5 => match s.pln.run with
    | some p => p.mem.any (fun e => e.res == 5 && e.size != 0)
    | none => true
  | 0, 6 => s.flag Reg.SYS_STAT Fd.SYS_STAT_STRAP_PAIR
  | 0, 7 => decide (s.rf Reg.UPD_STAT Fd.UPD_STAT_STAGE = 1 ∨ s.rf Reg.UPD_STAT Fd.UPD_STAT_STAGE = 2)
  | 1, n => s.hasSection 7 && (s.rf (Reg.DRP_CFG n) Fd.DRP_CFG_NODES != 0 || s.rf (Reg.DRP_CFG n) Fd.DRP_CFG_MODE == 2)
  | 2, n => Word.bit (s.rd Reg.LPC_LOADED) n
  | _, _ => false

/-- A lane that is the selected source holds its gate bit open (R338). -/
def State.gateHeld (s : State) (g b : Nat) : Bool :=
  s.blockUsed g b ||
    (s.flag Reg.CLK_STAT Fd.CLK_STAT_VALID && g == 0 && ((b == 5 && s.selected == 1) || (b == 6 && s.selected == 2)))

/-- The gate register of index g, and how many gate bits it has. -/
def gateReg (g : Nat) : Nat := if g = 0 then Reg.CLK_GATE0 else if g = 1 then Reg.CLK_GATE1 else Reg.CLK_GATE2
def gateBits (g : Nat) : Nat := if g = 0 then 8 else 16

/-- GATE_WRITE: bits of used blocks are ignored and reported, the others act; a change shows in GATE_PEND until it is
complete (R338, R339). -/
def opGateWrite (g : Nat) (v : Word) (s : State) : State :=
  let old := s.rd (gateReg g)
  let bad := (List.range (gateBits g)).filter (fun b => Word.bit v b && !Word.bit old b && s.gateHeld g b)
  let new_ := w32 ((List.range (gateBits g)).foldl (fun a b =>
    a + b2n (if bad.contains b then Word.bit old b else Word.bit v b) * 2 ^ b) 0)
  let s1 := s.wr (gateReg g) new_
  let s2 := if new_ = nth s.clk.gates g 0 then s1 else s1.wr Reg.CLK_GATE_PEND (Word.setBit (s1.rd Reg.CLK_GATE_PEND) g)
  if bad = [] then s2 else s2.err 0x1 Err.CLK_GATE_USED

def execGateWrite (g : Fin 3) (v : Word) (s : State) : Host.Outcome State Fault Refusal := ok (opGateWrite g.val v s)

/-- What a gated block holds beside its registers goes to its state at full reset (R338, R339); a lane held in reset is no
source, and its port is lost. -/
def State.resetParts (s : State) (g b : Nat) : State :=
  match g, b with
  | 0, 0 => { s with
      ofe := OfeState.init,
      fib := { FibState.init with pss := s.fib.pss, snap := s.fib.snap, scrub := s.fib.scrub } }
  | 0, 1 => { s with tmp := TmpState.init }
  | 0, 2 => { s with fld := FldState.init }
  | 0, 3 => { s with units := [] }
  | 0, 5 => (s.sourceLost 1).portDown 1
  | 0, 6 => s.sourceLost 2
  | 1, n => { s with drp := s.drp.filter (fun e => e.1 != n) }
  | 2, n => { s with lpe := { s.lpe with cores := s.lpe.cores.filter (fun e => e.1 != n) } }
  | _, _ => s

/-- The registers of the pages of a gate bit go to their Reset values: the block is held in reset (R338, R339). -/
def State.resetBlock (s : State) (g b : Nat) : State :=
  let t := s.resetParts g b
  { t with regs := t.regs.filter (fun e =>
      match gateBit (e.1 % 0x1000000 / 0x1000) with
      | some (r, i) => !(r == gateReg g && i == b)
      | none => true) }

/-- A gate change of one direction takes effect: `on` for gating, else for ungating (R339). -/
def State.gateApply (s : State) (g : Nat) (on : Bool) : State :=
  let want := s.rd (gateReg g)
  let eff := nth s.clk.gates g 0
  let chg := (List.range (gateBits g)).filter (fun b => Word.bit want b == on && Word.bit eff b != on)
  let new_ := chg.foldl (fun a b => Word.putBit a b on) eff
  let s1 := chg.foldl (fun a b => a.resetBlock g b) { s with clk := { s.clk with gates := setAt s.clk.gates g new_ } }
  s1.wr Reg.CLK_GATE_PEND (Word.putBit (s1.rd Reg.CLK_GATE_PEND) g (decide (new_ ≠ want)))

def execGateEffective (g : Fin 3) (s : State) : Host.Outcome State Fault Refusal := ok (s.gateApply g.val true)
def execUngateDone (g : Fin 3) (s : State) : Host.Outcome State Fault Refusal := ok (s.gateApply g.val false)

/-- A page is gated: its bit is written, or its ungating is not complete (R339). -/
def State.pageGated (s : State) (page : Nat) : Bool :=
  match gateBit page with
  | none => false
  | some (r, b) =>
    let g := if r = Reg.CLK_GATE0 then 0 else if r = Reg.CLK_GATE1 then 1 else 2
    Word.bit (s.rd r) b || Word.bit (nth s.clk.gates g 0) b

end Sys2Proof.Machine
end

