-- ==== Sys2Proof/Machine/LoupeOps.lean ====
section
/-!
DEFINITION. Shared operations on the Loupe cores that other chapters use: cores, interrupt bits, items, ends of
activations (R308 to R319).
-/

namespace Sys2Proof.Machine

/-- A core. -/
def State.core (s : State) (c : Nat) : LpeCore := NMap.get (fun _ => LpeCore.init) s.lpe.cores c
def State.setCore (s : State) (c : Nat) (x : LpeCore) : State :=
  { s with lpe := { s.lpe with cores := NMap.set (fun _ => LpeCore.init) s.lpe.cores c x } }

/-- The core holds a program (R323). -/
def State.coreLoaded (s : State) (c : Nat) : Bool := Word.bit (s.rd Reg.LPC_LOADED) c

/-- An event sets bit `b` of IP; a core that waits for an enabled interrupt goes on (R304, R314). -/
def LpeCore.setIp (x : LpeCore) (b : Nat) : LpeCore :=
  let ip := if x.ip / 2 ^ b % 2 = 1 then x.ip else x.ip + 2 ^ b
  let hit := x.ie / 2 ^ b % 2 == 1
  { x with ip := ip, waiting := x.waiting && !hit, irqAt := if hit && x.irqAt.all (fun e => e.1 != b) then x.irqAt ++ [(b, x.cyc)] else x.irqAt }

/-- `n` cycles of an activation pass: CYC and BUD move, and TMR counts down to its interrupt (R312, R318). -/
def LpeCore.burn (x : LpeCore) (n : Nat) : LpeCore :=
  let x1 := { x with cyc := (x.cyc + n) % 2 ^ 32, bud := x.bud - n, tmr := x.tmr - n }
  if x.tmr ≠ 0 ∧ x.tmr ≤ n then x1.setIp 2 else x1

/-- Put results that are still on their way into their registers. -/
def LpeCore.land (x : LpeCore) : LpeCore :=
  { x with g := x.late.foldl (fun g e => setAt g e.2.1 e.2.2) x.g, late := [], accOld := none }

/-- The EVENT record of an event of a core (R311): its payload is padded with zeros to a multiple of 16 bytes. -/
def State.coreEvent (s : State) (c kind stream flags act : Nat) (it : LpeItem) (dat : List Byte) : State :=
  let pad := (16 - dat.length % 16) % 16
  s.emit 0x8 0x7 (256 * c + stream) it.ref
    (le2 kind ++ by1 stream ++ by1 flags ++ le4 act ++ wordBytes it.src ++ le4 it.seq ++ dat ++ List.replicate pad 0)

/-- The item of the init activation: it has none (R308). -/
def noItem : LpeItem := ⟨0, [], 0, 0, 0⟩

/-- The overrun data (R311). -/
def overrunData (cause pc cycles dropped : Nat) : List Byte :=
  by1 cause ++ [0, 0, 0] ++ le4 pc ++ le4 cycles ++ le4 dropped

/-- An OVERRUN event counts and its PC stays visible (R311, R324). -/
def State.countOverrun (s : State) (c cause pc : Nat) : State :=
  let s1 := ((s.count (Reg.LPE_OVERRUNS c)).count Reg.LPC_OVR_ALL).wr (Reg.LPE_LAST_PC c) (w32 pc)
  s1.setCore c { s1.core c with cause := cause }

/-- An activation has ended: the queue space of its item is free, IP clears, and its cycles count in LOAD (R309, R314,
R324). -/
def LpeCore.close (x : LpeCore) (now : Time) : LpeCore :=
  let y := x.land
  { y with
    running := false, waiting := false, inIrq := false, ip := 0, br := none, rpt := none, loadSlot := false, events := [],
    queue := if x.item.isSome then x.queue.drop 1 else x.queue, item := none, irqAt := [],
    log := (x.log.filter (fun e => decide (now.toNat < e.1.toNat + tickS))) ++ [(now, x.cyc)] }

/-- An activation ends by overrun or fault with the cause given: an OVERRUN event takes the place of its buffered
events (R312, R313). 1 BUDGET, 2 ILLEGAL, 3 ACCESS, 4 ALIGN, 5 EMIT, 6 DMA. -/
def State.overrun (s : State) (c cause : Nat) : State :=
  let x := s.core c
  let s1 := (s.setCore c { x.close s.ltc with budSeen := x.budSeen || cause == 1 }).countOverrun c cause x.pc
  let s2 := s1.coreEvent c 1 255 (b2n x.item.isNone) x.actNo (x.item.getD noItem)
    (overrunData cause x.pc x.cyc x.events.length)
  let s3 := (if cause = 1 then s2.raise (0x1a0 + c) 0 else s2.raise (0x1a0 + c) 1).raise 0x40 0
  if cause = 1 then (if x.budSeen then s3 else s3.err (0x1a0 + c) Err.LPE_OVERRUN) else s3.err (0x1a0 + c) Err.LPE_FAULT

/-- `n` cycles pass in which the core executes nothing; BUD may reach 0 (R312). -/
def State.coreIdle (s : State) (c n : Nat) : State :=
  let x := s.core c
  if n < x.bud then s.setCore c (x.burn n)
  else (s.setCore c { (x.burn x.bud) with waiting := true }).overrun c 1

/-- A core that waits has spent the cycles from its start to now, 1.25 line ticks each. -/
def State.coreCatchUp (s : State) (c : Nat) : State :=
  let x := s.core c
  let due := (s.ltc.toNat - x.startAt.toNat) * 4 / 5
  if x.running && x.waiting && decide (x.cyc < due) then s.coreIdle c (due - x.cyc) else s

/-- Hand a zone's item to the dispatcher for every core of a mask whose zone source is on (R308). -/
def State.handZone (s : State) (mask : Nat) (it : LpeItem) : State :=
  { s with lpe := { s.lpe with
    disp := s.lpe.disp ++ ((List.range 16).filter (fun c => mask / 2 ^ c % 2 == 1 && s.coreLoaded c &&
      (s.rd (Reg.LPE_BUD_ZONE c)).toNat % 2 ^ 24 != 0)).map
      (fun c => (c, it)) } }

/-- The channel is a source of the core (R308, R324). -/
def State.coreTakes (s : State) (c ch : Nat) : Bool :=
  s.coreLoaded c && (s.rd (Reg.LPE_BUD_CHAN c)).toNat % 2 ^ 24 != 0 && (List.range 8).any (fun i =>
    let w := s.rd (Reg.LPE_CHAN_SEL c i)
    w.get Fd.LPE_CHAN_SEL_EN == 1 && w.toNat % 1024 == ch)

/-- A sample of a chain channel goes to the cores that select it; BLK samples are an item (R308). -/
def State.coreSample (s : State) (ch cls idx : Nat) (w : Word) (inst : Time) (no period flags : Nat) : State :=
  iter 16 (fun c a =>
    if !a.coreTakes c ch then a
    else
      let x := a.core c
      let k := NMap.get (fun _ => LpeChan.init) x.chans ch
      let first := decide (k.words = [])
      let k1 := { k with
        words := k.words ++ [w], inst := if first then inst else k.inst, no := if first then no % 2 ^ 32 else k.no,
        flags := (if first then flags else k.flags) ||| flags, period := period }
      let blk := a.rf (Reg.LPE_CHAN_BLK c) Fd.LPE_CHAN_BLK_BLK
      if blk = 0 ∨ k1.words.length < blk then
        a.setCore c { x with chans := NMap.set (fun _ => LpeChan.init) x.chans ch k1 }
      else
        let pay := le4 k1.no ++ le2 k1.words.length ++ le2 k1.flags ++ le4 k1.period ++
          wordBytes (a.rd (copyKey Reg.LIN_OUT_SCALE ch)) ++ k1.words.flatMap wordBytes
        let it : LpeItem := ⟨2, (Rec.mk 0x1 cls idx k1.seq k1.inst pay).header ++ pay, srcWord cls idx, k1.seq, k1.inst⟩
        let k2 := { LpeChan.init with seq := (k1.seq + 1) % 2 ^ 32 }
        let a1 := a.setCore c { x with chans := NMap.set (fun _ => LpeChan.init) x.chans ch k2 }
        { a1 with lpe := { a1.lpe with disp := a1.lpe.disp ++ [(c, it)] } }) s

/-- A chain channel restarts: the samples gathered for an item are dropped. -/
def State.coreFlush (s : State) (ch : Nat) : State :=
  iter 16 (fun c a =>
    let x := a.core c
    let k := NMap.get (fun _ => LpeChan.init) x.chans ch
    if k.words = [] then a
    else
      let k1 := { LpeChan.init with seq := k.seq }
      a.setCore c { x with chans := NMap.set (fun _ => LpeChan.init) x.chans ch k1 }) s

/-- The word a core's INJ_STAT shows for an outcome (R318): DONE or REFUSED, TAG, RES_TAG. -/
def injOutcome (done : Bool) (refused tag resTag : Nat) : Word := w32 (2 * b2n done + 4 * refused + 16 * tag + 256 * resTag)

/-- From when the outcome of a core's request may be shown (R319). -/
def State.coreInjFrom (s : State) : Time := s.nextBoundary + 4125

/-- An outcome waits for its boundary: a refusal or a result (R319). -/
def State.coreInjRefused (s : State) (c tag why : Nat) : State :=
  s.setCore c { s.core c with injNext := some ⟨injOutcome false why tag 0, (s.core c).injCode, (s.core c).injLtc, s.coreInjFrom⟩ }
def State.coreInjResult (s : State) (c tag resTag : Nat) (code hold : Word) : State :=
  s.setCore c { s.core c with injNext := some ⟨injOutcome true 0 tag resTag, code, hold, s.coreInjFrom⟩ }

/-- The outcome of a core's request is copied to the standby (R319, R389). -/
def State.copyCoreInj (s : State) (c : Nat) : State :=
  match (s.core c).injNext with
  | some i => s.copyItem (.coreInj c i)
  | none => s

/-- The outcome of a core's injected request is shown at its boundary, with INJ_DONE in IP (R319). -/
def State.showCoreInj (s : State) : State :=
  iter 16 (fun c a =>
    match (a.core c).injNext with
    | none => a
    | some i =>
      if a.ltc.toNat < i.at_.toNat then a
      else
        let b := a.coreCatchUp c
        let x := { b.core c with
          injNext := none, injPend := false, injStat := i.stat, injCode := i.code, injLtc := i.ltc }
        b.setCore c (if x.running then x.setIp 1 else x)) s

end Sys2Proof.Machine
end

