-- ==== Sys2Proof/Machine/Operands.lean ====
section
/-!
DEFINITION. Operand forms: IEEE 754 binary32 arithmetic on 32-bit words, rounded to nearest, ties to even (R212,
R215), and exact values of binary32 words.
-/

namespace Sys2Proof.Machine

/-- Parts of a binary32 word: sign, biased exponent, fraction. -/
def f32Neg (w : Word) : Bool := w.getLsbD 31
def f32Exp (w : Word) : Nat := w.toNat / 2 ^ 23 % 256
def f32Frac (w : Word) : Nat := w.toNat % 2 ^ 23

def f32IsNaN (w : Word) : Bool := f32Exp w == 255 && f32Frac w != 0
def f32IsInf (w : Word) : Bool := f32Exp w == 255 && f32Frac w == 0
def f32Finite (w : Word) : Bool := f32Exp w != 255

/-- The word for not a number, and for an infinity. -/
abbrev f32NaN : Word := 0x7FC00000
def f32Inf (neg : Bool) : Word := if neg then 0xFF800000 else 0x7F800000

/-- A finite word is mantissa × 2^exponent, with its sign. -/
def f32Man (w : Word) : Nat := if f32Exp w = 0 then f32Frac w else 2 ^ 23 + f32Frac w
def f32E (w : Word) : Int := if f32Exp w = 0 then -149 else (f32Exp w : Int) - 150
def f32SMan (w : Word) : Int := if f32Neg w then -(f32Man w : Int) else (f32Man w : Int)

/-- `m / 2^n` rounded to nearest, ties to even. -/
def rneShr (m n : Nat) : Nat :=
  let q := m / 2 ^ n
  let r := 2 * (m % 2 ^ n)
  if r < 2 ^ n then q else if 2 ^ n < r then q + 1 else q + q % 2

/-- The binary32 word nearest to ±m × 2^e. -/
def f32Pack (neg : Bool) (m : Nat) (e : Int) : Word :=
  let s := 2 ^ 31 * b2n neg
  if m = 0 then w32 s
  else
    let q0 : Int := max (e + (Nat.log2 m : Int) - 23) (-149)
    let sh := q0 - e
    let m0 := if sh ≤ 0 then m * 2 ^ (-sh).toNat else rneShr m sh.toNat
    let m1 := if m0 = 2 ^ 24 then 2 ^ 23 else m0
    let q := if m0 = 2 ^ 24 then q0 + 1 else q0
    if m1 < 2 ^ 23 then w32 (s + m1)
    else if 105 ≤ q then f32Inf neg
    else w32 (s + 2 ^ 23 * (q + 150).toNat + (m1 - 2 ^ 23))

/-- The binary32 word nearest to v × 2^e. -/
def f32OfScaled (v e : Int) : Word := f32Pack (decide (v < 0)) v.natAbs e

/-- Sum. -/
def f32Add (a b : Word) : Word :=
  if f32IsNaN a || f32IsNaN b then f32NaN
  else if f32IsInf a then (if f32IsInf b && f32Neg a != f32Neg b then f32NaN else a)
  else if f32IsInf b then b
  else
    let e := min (f32E a) (f32E b)
    let v := f32SMan a * 2 ^ (f32E a - e).toNat + f32SMan b * 2 ^ (f32E b - e).toNat
    if v = 0 then (if f32Neg a && f32Neg b then 0x80000000 else 0) else f32OfScaled v e

/-- Negation and difference. -/
def f32Neg1 (a : Word) : Word := a ^^^ 0x80000000
def f32Sub (a b : Word) : Word := f32Add a (f32Neg1 b)

/-- Product. -/
def f32Mul (a b : Word) : Word :=
  let n := f32Neg a != f32Neg b
  if f32IsNaN a || f32IsNaN b then f32NaN
  else if f32IsInf a || f32IsInf b then
    (if (f32Finite a && f32Man a == 0) || (f32Finite b && f32Man b == 0) then f32NaN else f32Inf n)
  else f32Pack n (f32Man a * f32Man b) (f32E a + f32E b)

/-- Quotient. -/
def f32Div (a b : Word) : Word :=
  let n := f32Neg a != f32Neg b
  if f32IsNaN a || f32IsNaN b then f32NaN
  else if f32IsInf a then (if f32IsInf b then f32NaN else f32Inf n)
  else if f32IsInf b then w32 (2 ^ 31 * b2n n)
  else if f32Man b = 0 then (if f32Man a = 0 then f32NaN else f32Inf n)
  else
    let q := f32Man a * 2 ^ 64 / f32Man b
    let r := f32Man a * 2 ^ 64 % f32Man b
    f32Pack n (2 * q + (if r = 0 then 0 else 1)) (f32E a - f32E b - 65)

/-- Order key of a word that is a number; both zeros have key 0. -/
def f32Key (w : Word) : Int := if f32Neg w then -((w.toNat % 2 ^ 31 : Nat) : Int) else (w.toNat : Int)

def f32Lt (a b : Word) : Bool := !f32IsNaN a && !f32IsNaN b && decide (f32Key a < f32Key b)
def f32Le (a b : Word) : Bool := !f32IsNaN a && !f32IsNaN b && decide (f32Key a ≤ f32Key b)

/-- `a / b` of two finite words as an integer, rounded to nearest, ties away from zero; 0 for b = 0. -/
def f32RoundDiv (a b : Word) : Int :=
  let e := min (f32E a) (f32E b)
  let x := f32SMan a * 2 ^ (f32E a - e).toNat
  let y := f32SMan b * 2 ^ (f32E b - e).toNat
  roundDiv (if y < 0 then -x else x) y.natAbs

/-- A finite word in units of 2^-n, rounded towards minus infinity. -/
def f32Floor (a : Word) (n : Nat) : Int :=
  let e := f32E a + n
  if 0 ≤ e then f32SMan a * 2 ^ e.toNat else floorShr (f32SMan a) (-e).toNat

/-- Evaluate a polynomial in T with coefficients of rising powers by Horner's scheme. -/
def f32Horner (t : Word) : List Word → Word
  | [] => 0
  | [c] => c
  | c :: cs => f32Add (f32Mul (f32Horner t cs) t) c

/-- Evaluate Σ COEF[3i + j] x^i T^j (R212), `coef k` giving COEF[k]. -/
def f32Poly (coef : Nat → Word) (degX degT : Nat) (x t : Word) : Word :=
  f32Horner x ((List.range (degX + 1)).map (fun i =>
    f32Horner t ((List.range (degT + 1)).map (fun j => coef (3 * i + j)))))

/-- The sum y^(2k+1) / (2k+1) of `n` terms from k on, for p = y^(2k+1) and y² as numbers of units 2^-96. -/
def atanhSum (y2 : Nat) : Nat → Nat → Nat → Nat
  | 0, _, _ => 0
  | n + 1, k, p => p / (2 * k + 1) + atanhSum y2 n (k + 1) (p * y2 / 2 ^ 96)

/-- The natural logarithm of a finite positive word, rounded to nearest: ln m + e ln 2 for x = m × 2^e, m from 1 to 2,
formed in units of 2^-96. -/
def f32Ln (x : Word) : Word :=
  let m := f32Man x
  let e := f32E x + (Nat.log2 m : Int)
  let one := 2 ^ Nat.log2 m
  let y := (m - one) * 2 ^ 96 / (m + one)
  let lnM := 2 * atanhSum (y * y / 2 ^ 96) 48 0 y
  f32OfScaled (e * 54916777467707473351141471128 + lnM) (-96)

/-- A word rounded to an integer, nearest with ties away from zero, and limited to lie from `lo` to `hi`. -/
def f32RoundSat (lo hi : Int) (x : Word) : Int :=
  if f32IsInf x then (if f32Neg x then lo else hi) else clampI lo hi (f32RoundDiv x 0x3F800000)

end Sys2Proof.Machine
end

