-- ==== Sys2Proof/Machine/PlanParse.lean ====
section
/-!
DEFINITION. Plan images: header, section directory, sections and blocks (R36 to R41, R274, R489), and the tables they
give.
-/

namespace Sys2Proof.Machine

/-! ### Table keys of a plan -/

/-- Waveform sample pair i: the I word low, the Q word high. -/
abbrev tabWave (i : Nat) : Nat := i
/-- Matched-filter tap i of slot j: real part low, imaginary part high. -/
abbrev tabTap (j i : Nat) : Nat := 0x10000 + 0x1000 * j + i
/-- Coefficient k (b0, b1, b2, a1, a2) of set `n` of a notch class. -/
abbrev tabNotch (cls n k : Nat) : Nat := 0x100000 + 0x10000 * cls + 5 * n + k
/-- A notch class is defined. -/
abbrev tabNotchDef (cls : Nat) : Nat := 0x18FFF0 + cls
/-- Comparator word of a threshold band. -/
abbrev tabBand (band c : Nat) : Nat := 0x200000 + 128 * band + c
/-- TYPE that a node must report. -/
abbrev tabNode (port node : Nat) : Nat := 0x300000 + 256 * port + node
/-- Instruction word of a Loupe program; the word count; a byte of its data image; the data length. -/
abbrev tabProg (core pc : Nat) : Nat := 0x1000000 + 0x10000 * core + pc
abbrev tabProgLen (core : Nat) : Nat := 0x1FFFF00 + core
abbrev tabData (core o : Nat) : Nat := 0x4000000 + 0x40000 * core + o
abbrev tabDataLen (core : Nat) : Nat := 0x3FFFF00 + core
/-- Loop bound plus 1 at an instruction address; 0 for none. -/
abbrev tabLoop (core pc : Nat) : Nat := 0x8000000 + 0x10000 * core + pc

/-- A table word; an entry that no block sets is 0 (R489). -/
def Plan.tabAt (p : Plan) (k : Nat) : Word := NMap.get (fun _ => 0) p.tab k

def Plan.setTab (p : Plan) (k : Nat) (w : Word) : Plan := { p with tab := NMap.set (fun _ => 0) p.tab k w }
def Plan.setTabs (p : Plan) (k : Nat) (ws : List Word) : Plan :=
  { p with tab := NMap.setMany (fun _ => 0) 1 p.tab k ws }

/-- A register word the plan loads; a field that no block sets takes its Reset value (R489). -/
def Plan.reg (p : Plan) (a : Nat) : Word := NMap.get resetWord p.regs a
def Plan.setReg (p : Plan) (a : Nat) (w : Word) : Plan := { p with regs := NMap.set resetWord p.regs a w }

/-- A plan without sections. -/
def Plan.empty : Plan :=
  { id := 0, flags := 0, digest := [], sections := [], shotPeriod := 0, guardT := 0, window := 0, fieldTick := 0,
    superframe := 0, mem := [], live := [], spools := [], lanes := [], routes := [], script := [], regs := [],
    tab := [] }

/-! ### Blocks (R489) -/

/-- A block of a section. -/
structure Block where
  btype : Nat
  page : Nat
  arg : Nat
  data : List Byte
  deriving DecidableEq, Repr

/-- Split a section into blocks; none where a block runs past the end or a padding or reserved byte is not 0. -/
def parseBlocks : Nat → List Byte → Option (List Block)
  | 0, bs => if bs = [] then some [] else none
  | fuel + 1, bs =>
    if bs = [] then some []
    else
      let blen := fieldAt bs 8 4
      let tot := 16 + 16 * ceilDiv blen 16
      if bs.length < 16 ∨ bs.length < tot ∨ fieldAt bs 12 4 ≠ 0 then none
      else
        let pad := (bs.take tot).drop (16 + blen)
        if pad.any (fun b => b != 0) then none
        else
          (parseBlocks fuel (bs.drop tot)).map (fun l =>
            ⟨fieldAt bs 0 2, fieldAt bs 2 2, fieldAt bs 4 4, (bs.drop 16).take blen⟩ :: l)

/-- Number of the block at which `parseBlocks` gives up. -/
def blocksUntil : Nat → List Byte → Nat
  | 0, _ => 0
  | fuel + 1, bs =>
    let tot := 16 + 16 * ceilDiv (fieldAt bs 8 4) 16
    if bs.length < tot ∨ (parseBlocks 1 (bs.take tot)).isNone then 0 else 1 + blocksUntil fuel (bs.drop tot)

/-- The offsets REGCOPY may load, per section and page (R489). -/
def copyAllowed (sec page off : Nat) : Bool :=
  let within (lo hi : Nat) : Bool := decide (lo ≤ off) && decide (off < hi)
  match sec with
  | 2 => (page == 0x10 && within 0x40 0xC0) || (page == 0x11 && within 0x40 0x140)
  | 3 => (page == 0x12 && within 0x40 0x140) || (page == 0x13 && (within 0x40 0x44 || within 0x80 0x280))
  | 4 => page == 0x14 && within 0x40 0xC0
  | 5 => (page == 0x18 && within 0x40 0x44) || (decide (0x100 ≤ page) && decide (page < 0x140) && within 0x40 0x54)
  | 6 => (page == 0x19 && (within 0x44 0x48 || within 0x50 0x58 || within 0xC4 0x100)) ||
         (page == 0x1B && (within 0x40 0x44 || within 0x80 0x480))
  | 7 => decide (0x20 ≤ page) && decide (page < 0x30) && (within 0x40 0x44 || within 0x54 0x64 || within 0x100 0x180)
  | 8 => (page == 0x30 && within 0x40 0x180) || (decide (0x140 ≤ page) && decide (page < 0x160) && within 0x40 0x50)
  | 10 => decide (0x1A0 ≤ page) && decide (page < 0x1B0) && within 0x40 0xC0
  | _ => false

/-- The words of a REGCOPY block with their register addresses. -/
def Block.regWords (b : Block) : List (Nat × Word) :=
  ((wordsOfBytes b.data).zipIdx).map (fun e => (0x1000 * b.page + b.arg + 4 * e.2, w32 e.1))
where
  wordsOfBytes : List Byte → List Nat
    | a :: b :: c :: d :: t => leNat [a, b, c, d] :: wordsOfBytes t
    | _ => []

/-- The words of a block's data. -/
def Block.words (b : Block) : List Word := (Block.regWords.wordsOfBytes b.data).map w32

/-- One block keeps the layout its type gives in this section (R489). `nodes` gives DRP.CFG.NODES of a port and
`taps` FEN.MF_CFG.TAPS, both as the same section loads them. -/
def Block.layoutOk (b : Block) (sec : Nat) (nodes : Nat → Nat) (taps : Nat) : Bool :=
  let n := b.data.length
  if b.btype = 0x0001 then
    decide (b.arg % 4 = 0) && decide (n % 4 = 0) && copyAllowed sec b.page b.arg &&
    b.regWords.all (fun e =>
      copyAllowed sec (e.1 / 0x1000) (e.1 % 0x1000) &&
      decide (b.arg + n ≤ 0x1000) &&
      (match rowAt e.1 with
       | some r => r.acc == Acc.rw || e.2 == 0
       | none => e.2 == 0))
  else if b.page ≠ 0 then false
  else if b.btype = 0x0010 then sec == 2 && decide (b.arg ≤ 16383) && decide (n % 4 = 0)
  else if b.btype = 0x0011 then sec == 2 && decide (b.arg ≤ 3) && decide (n = 4 * taps)
  else if b.btype = 0x0012 then
    sec == 2 && decide (b.arg = 0) && decide (n % 48 = 0) &&
    (List.range (n / 48)).all (fun i =>
      let o := 48 * i
      decide (byteAt b.data o ≤ 32) && decide (byteAt b.data (o + 1) ≤ 32) &&
      (sliceB b.data (o + 2) 6).all (· == 0) && (sliceB b.data (o + 40) 8).all (· == 0) &&
      (sliceB b.data (o + 8 + byteAt b.data o) (32 - byteAt b.data o)).all (· == 0))
  else if b.btype = 0x0020 then sec == 3 && decide (b.arg ≤ 4095) && decide (n % 16 = 0)
  else if b.btype = 0x0030 then sec == 6 && decide (b.arg ≤ 575) && decide (n = 112) && decide (fieldAt b.data 108 4 = 0)
  else if b.btype = 0x0031 then sec == 6 && decide (b.arg ≤ 7) && decide (n = 6020)
  else if b.btype = 0x0032 then sec == 6 && decide (b.arg ≤ 15) && decide (n = 512)
  else if b.btype = 0x0040 then sec == 8 && decide (b.arg ≤ 575) && decide (n = 4)
  else if b.btype = 0x0050 then sec == 7 && decide (b.arg ≤ 15) && decide (n = nodes b.arg)
  else if b.btype = 0x0060 then sec == 10 && decide (b.arg ≤ 15) && decide (n % 4 = 0)
  else if b.btype = 0x0061 then sec == 10 && decide (b.arg ≤ 15)
  else if b.btype = 0x0062 then sec == 10 && decide (b.arg ≤ 15) && decide (n % 8 = 0)
  else false

/-- Two blocks meet: REGCOPY blocks that cover one word, or others of one type with one ARG (R489). -/
def Block.meets (b c : Block) : Bool :=
  b.btype == c.btype &&
    (if b.btype = 1 then b.regWords.any (fun e => c.regWords.any (fun f => f.1 == e.1)) else b.arg == c.arg)

/-- The first block of a section that breaks the layout of R489, by itself or with one before it. -/
def blocksFail (sec : Nat) (bs : List Block) : Option Nat :=
  let words := (bs.filter (fun b => b.btype == 1)).flatMap Block.regWords
  let look (a : Nat) : Word := ((words.find? (fun e => e.1 == a)).map Prod.snd).getD (resetWord a)
  let nodes (port : Nat) : Nat := (look (Reg.DRP_CFG port)).get Fd.DRP_CFG_NODES
  let taps := (look Reg.FEN_MF_CFG).get Fd.FEN_MF_CFG_TAPS
  ((bs.zipIdx).find? (fun e => !e.1.layoutOk sec nodes taps || (bs.take e.2).any e.1.meets)).map Prod.snd

/-- Load the copy of a register for a channel or a zone: reserved bits are written 0 (R6). -/
def Plan.setCopy (p : Plan) (a i : Nat) (w : Word) : Plan :=
  p.setReg (copyKey a i) (w &&& ((rowAt a).map RegRow.mask).getD 0)

/-- Load one block into the tables (R489). A word at an RO, WO or reserved offset is not written. -/
def Plan.addBlock (p : Plan) (b : Block) : Plan :=
  match b.btype with
  | 0x0001 => b.regWords.foldl (fun q e =>
      match rowAt e.1 with
      | some r => if r.acc = Acc.rw then q.setReg e.1 (e.2 &&& r.mask) else q
      | none => q) p
  | 0x0010 => p.setTabs (tabWave b.arg) b.words
  | 0x0011 => p.setTabs (tabTap b.arg 0) b.words
  | 0x0012 => { p with script := (List.range (b.data.length / 48)).map (fun i =>
      ⟨byteAt b.data (48 * i), byteAt b.data (48 * i + 1),
        sliceB b.data (48 * i + 8) (min 32 (byteAt b.data (48 * i)))⟩) }
  | 0x0020 => ((b.words).zipIdx).foldl (fun q e =>
      q.setCopy ([Reg.ZON_ZT_FIRST, Reg.ZON_ZT_COUNT, Reg.ZON_ZT_CTRL, Reg.ZON_ZT_LOUPE].getD (e.2 % 4) 0)
        (b.arg + e.2 / 4) e.1) p
  | 0x0030 => ((b.words.take 27).zip
      ([Reg.FLT_CH_CFG, Reg.FLT_CH_OUT, Reg.FLT_THR_CFG, Reg.FLT_THR_A, Reg.FLT_THR_B, Reg.FLT_THR_HYS,
        Reg.LIN_LCFG, Reg.LIN_XSCALE, Reg.LIN_OUT_SCALE] ++ (List.range 18).map Reg.LIN_COEF)).foldl
      (fun q e => q.setCopy e.2 b.arg e.1) p
  | 0x0031 => (p.setTabs (tabNotch b.arg 0 0) b.words).setTab (tabNotchDef b.arg) 1
  | 0x0032 => p.setTabs (tabBand b.arg 0) b.words
  | 0x0040 => p.setCopy Reg.ENV_CH_CFG b.arg ((b.words.head?).getD 0)
  | 0x0050 => p.setTabs (tabNode b.arg 1) (b.data.map (fun x => w32 x.toNat))
  | 0x0060 => (p.setTabs (tabProg b.arg 0) b.words).setTab (tabProgLen b.arg) (w32 (b.data.length / 4))
  | 0x0061 => (p.setTabs (tabData b.arg 0) (b.data.map (fun x => w32 x.toNat))).setTab (tabDataLen b.arg)
      (w32 b.data.length)
  | 0x0062 => (List.range (b.data.length / 8)).foldl (fun q i =>
      q.setTab (tabLoop b.arg (fieldAt b.data (8 * i) 4)) (w32 (fieldAt b.data (8 * i + 4) 4) + 1)) p
  | _ => p

/-! ### Sections -/

/-- An entry of the section directory (R36). -/
structure Sect where
  type : Nat
  version : Nat
  offset : Nat
  length : Nat
  crc : Nat
  deriving DecidableEq, Repr

/-- The section directory of an image. -/
def planSections (img : List Byte) : List Sect :=
  (List.range (fieldAt img 0xC 2)).map (fun i =>
    let o := 0xA0 + 16 * i
    ⟨fieldAt img o 2, fieldAt img (o + 2) 2, fieldAt img (o + 4) 4, fieldAt img (o + 8) 4, fieldAt img (o + 12) 4⟩)

/-- A section's bytes. -/
def Sect.bytes (e : Sect) (img : List Byte) : List Byte := (img.drop e.offset).take e.length

/-- Section types that are sequences of blocks (R489). -/
def blockSection (t : Nat) : Bool := (2 ≤ t && t ≤ 8) || t == 10

/-- The entries of the MEMORY section (R40). -/
def parseMem (bs : List Byte) : List MemEnt :=
  (List.range (bs.length / 16)).map (fun i =>
    let o := 16 * i
    ⟨byteAt bs o, fieldAt bs (o + 2) 2, fieldAt bs (o + 4) 4, fieldAt bs (o + 8) 4, fieldAt bs (o + 12) 4⟩)

/-- The entries of the LIVE section (R41). -/
def parseLive (bs : List Byte) : List LiveEnt :=
  (List.range (bs.length / 20)).map (fun i =>
    let o := 20 * i
    ⟨fieldAt bs o 2, fieldAt bs (o + 2) 2, byteAt bs (o + 4), byteAt bs (o + 5), byteAt bs (o + 6),
      w32 (fieldAt bs (o + 8) 4), w32 (fieldAt bs (o + 12) 4), w32 (fieldAt bs (o + 16) 4)⟩)

/-- The spool, lane and route entries of the SPOOLS section (R274). -/
def parseSpools (bs : List Byte) : List SpoolEnt :=
  (List.range 64).map (fun i =>
    let o := 16 * i
    ⟨byteAt bs o, byteAt bs (o + 1), byteAt bs (o + 2), byteAt bs (o + 3), fieldAt bs (o + 4) 2, fieldAt bs (o + 8) 4⟩)
def parseLanes (bs : List Byte) : List LaneEnt :=
  (List.range 256).map (fun i =>
    let o := 1024 + 16 * i
    ⟨fieldAt bs o 2, fieldAt bs (o + 2) 2, fieldAt bs (o + 4) 4, fieldAt bs (o + 8) 4, fieldAt bs (o + 12) 4⟩)
def parseRoutes (bs : List Byte) : List RouteEnt :=
  (List.range ((bs.length - 5120) / 16)).map (fun i =>
    let o := 5120 + 16 * i
    ⟨byteAt bs o, fieldAt bs (o + 2) 2, fieldAt bs (o + 4) 4, fieldAt bs (o + 8) 4, byteAt bs (o + 12),
      byteAt bs (o + 13), byteAt bs (o + 14) % 2 == 1⟩)

/-- The SPLnn.CFG word of a spool entry (R296). -/
def SpoolEnt.cfg (e : SpoolEnt) : Word :=
  if e.flags % 2 = 0 then 0
  else w32 (e.ctx % 4 + 4 * (e.flags / 2 % 2) + 8 * (e.flags / 4 % 2) + 16 * (e.level % 8) + 128 * (e.pf % 4) +
    512 * (e.flags / 8 % 2) + 1024 * (e.flags / 16 % 4) + 65536 * (e.minLen % 65536))

/-- Add one section's content to the tables (R37). -/
def Plan.addSection (p : Plan) (t : Nat) (bs : List Byte) : Plan :=
  let p0 := if bs = [] then p else { p with sections := p.sections ++ [t] }
  if t = 1 then
    { p0 with shotPeriod := fieldAt bs 0 4, guardT := fieldAt bs 4 4, window := fieldAt bs 8 4,
              fieldTick := fieldAt bs 12 4, superframe := fieldAt bs 16 4 }
  else if t = 9 then
    let sps := parseSpools bs
    let lns := parseLanes bs
    let p1 := { p0 with spools := sps, lanes := lns, routes := parseRoutes bs }
    let p2 := (sps.zipIdx).foldl (fun q e => q.setReg (Reg.SPLN_CFG e.2) e.1.cfg) p1
    (lns.zipIdx).foldl (fun q e =>
      if ((sps[e.2 / 4]?).map (fun x => x.flags % 2)).getD 0 = 1 then
        (q.setReg (Reg.SPLN_LINES (e.2 / 4) (e.2 % 4)) (w32 e.1.lines)).setReg
          (Reg.SPLN_STALE_CFG (e.2 / 4) (e.2 % 4)) (w32 e.1.stale)
      else q) p2
  else if t = 11 then
    let es := parseMem bs
    es.foldl (fun q e =>
      if e.res = 2 then (q.setReg (Reg.SPLN_BASE (e.index / 4) (e.index % 4)) (w32 e.base)).setReg
        (Reg.SPLN_SIZE (e.index / 4) (e.index % 4)) (w32 e.size)
      else if e.res = 3 then
        q.setReg (Reg.MEM_OWN (e.index / 4)) ((q.reg (Reg.MEM_OWN (e.index / 4))).put ⟨8 * (e.index % 4), 8⟩ e.owner)
      else q) { p0 with mem := es }
  else if t = 12 then { p0 with live := parseLive bs }
  else if blockSection t then ((parseBlocks (bs.length / 16 + 1) bs).getD []).foldl Plan.addBlock p0
  else p0

/-- The tables an image gives (R37). -/
def parsePlan (img : List Byte) : Plan :=
  (planSections img).foldl (fun p e => p.addSection e.type (e.bytes img))
    { Plan.empty with id := fieldAt img 0x18 8, flags := byteAt img 0x11, digest := sliceB img 0x28 32 }

/-- The live entry that covers a bit of a register, if any (R41). -/
def Plan.liveAt (p : Plan) (addr bit : Nat) : Option LiveEnt :=
  p.live.find? (fun e => 0x1000 * e.page + e.off == addr && decide (e.lsb ≤ bit) && decide (bit < e.lsb + e.width))

/-- The registers a LIVE entry names (R41): a channel register of the FLT page stands for the copies of every channel with
a chain. -/
def Plan.liveKeys (p : Plan) (e : LiveEnt) : List Nat :=
  let a := 0x1000 * e.page + e.off
  if [Reg.FLT_CH_CFG, Reg.FLT_THR_A, Reg.FLT_THR_B, Reg.FLT_THR_HYS].contains a then
    ((List.range 576).filter (fun c => (p.reg (copyKey Reg.FLT_CH_CFG c)).get Fd.FLT_CH_CFG_M != 0)).map (copyKey a)
  else [a]

/-- Each live field takes INIT at plan start (R53). -/
def Plan.liveInit (p : Plan) : Plan :=
  p.live.foldl (fun q e =>
    (p.liveKeys e).foldl (fun (q : Plan) k => q.setReg k ((q.reg k).put ⟨e.lsb, e.width⟩ e.init.toNat)) q) p

end Sys2Proof.Machine
end

