-- ==== Sys2Proof/Machine/Filter.lean ====
section
/-!
DEFINITION. The filter chain of a field or node channel (R199 to R218, R264): stages, tags, records, envelopes.
-/

namespace Sys2Proof.Machine

/-! ### Triggers gathered within a command -/

/-- Keep a trigger that reaches the bus at the end of the command. -/
def State.gatherTrig (s : State) (t : Trigger) : State :=
  { s with shb := { s.shb with gather := s.shb.gather ++ [t] } }

/-- The gathered triggers reach their lines together (R246). -/
def State.flushTrig (s : State) : State :=
  ({ s with shb := { s.shb with gather := [] } }).issue s.shb.gather

/-! ### Channels -/

def State.chain (s : State) (c : Nat) : ChainCh := NMap.get (fun _ => ChainCh.init) s.flt.chans c
def State.setChain (s : State) (c : Nat) (x : ChainCh) : State :=
  { s with flt := { s.flt with chans := NMap.set (fun _ => ChainCh.init) s.flt.chans c x } }

/-- Words of a channel's copies of the FLT and LIN registers. -/
def State.chCfg (s : State) (c : Nat) : Word := s.rd (copyKey Reg.FLT_CH_CFG c)
def State.chM (s : State) (c : Nat) : Nat := (s.chCfg c).get Fd.FLT_CH_CFG_M
def State.chH (s : State) (c : Nat) : Nat := (s.chCfg c).get Fd.FLT_CH_CFG_H
def State.chNotch (s : State) (c : Nat) : Bool := (s.chCfg c).get Fd.FLT_CH_CFG_NOTCH_EN == 1
def State.chNS (s : State) (c : Nat) : Nat :=
  if s.chNotch c then (s.rd (copyKey Reg.FLT_CH_OUT c)).get Fd.FLT_CH_OUT_NS else 0

/-- A used port names the node channel with a node (R200, R231). -/
def State.nodeInput (s : State) (n : Nat) : Bool :=
  s.hasSection 7 && s.rf (Reg.DRP_CFG (n / 32)) Fd.DRP_CFG_NODES != 0 &&
    (s.rd (Reg.DRP_CH_CFG (n / 32) (n % 32))).get Fd.DRP_CH_CFG_NODE != 0

/-- The channel has a chain (R200). -/
def State.hasChain (s : State) (c : Nat) : Bool :=
  s.chM c != 0 && (if c < 64 then s.rf (Reg.FCH_CFG c) Fd.FCH_CFG_CONN != 0 else s.nodeInput (c - 64))

/-- S_h of the settling table (R210). -/
def halfBandSettle (h : Nat) : Nat := nth [0, 11, 17, 20, 21, 22, 22] h 22

/-- Rank of a tag among an output's inputs (R209); a burn-out test tick does not propagate. -/
def tagRank (tag sub : Nat) : Nat :=
  if tag = 9 ∨ tag = 6 then 2 else if tag = 4 ∨ tag = 5 then 3 else if tag = 7 then (if sub = 1 then 8 else 4)
  else if tag = 8 then 5 else if tag = 2 ∨ tag = 3 then 6 else if tag = 1 then 7 else if tag = 0 then 8 else 1

/-- Join two summaries: the higher rank, the later one of the same rank; the later end of SETTLE. -/
def TagSum.join (a b : TagSum) : TagSum :=
  let w := if a.rank < b.rank then a else if b.rank < a.rank then b else if a.no ≤ b.no then b else a
  { w with last := max a.last b.last }

/-- The summary of one input: `rem` is how many further raw results carry SETTLE. -/
def inputSum (no tag sub rem : Nat) : TagSum :=
  let r := tagRank tag sub
  let sb := if tag = 7 then 2 else if tag = 4 ∨ tag = 5 ∨ tag = 8 then sub else 0
  ⟨r, no, if r = 8 then 0 else tag, if r = 8 then 0 else sb, if tag = 1 then no + rem + 1 else 0⟩

/-! ### Records -/

/-- The SRC class of a chain channel (R218). -/
def chainClass (c : Nat) : Nat := if c < 64 then 0x4 else 0x5
def chainIndex (c : Nat) : Nat := if c < 64 then c else c - 64

/-- Zero padding to a multiple of 16 bytes. -/
def pad16 (b : List Byte) : List Byte := b ++ List.replicate ((16 - b.length % 16) % 16) 0

/-- Close the SAMPLES record in progress (R218). -/
def State.closeSamples (s : State) (c : Nat) : State :=
  let x := s.chain c
  if x.words = [] then s
  else
    let payload := pad16 (le4 x.recNo ++ le2 x.words.length ++ le2 x.recFlags ++ le4 x.recPeriod ++
      wordBytes (s.rd (copyKey Reg.LIN_OUT_SCALE c)) ++ x.words.flatMap wordBytes)
    (s.setChain c { x with words := [], recFlags := 0 }).emit 0x1 (chainClass c) (chainIndex c) x.recInst payload

/-- One sample word goes to the record in progress (R218). -/
def State.addSample (s : State) (c : Nat) (w : Word) (inst : Time) (no period : Nat) (half : Bool) : State :=
  let spc := (s.rd (copyKey Reg.FLT_CH_OUT c)).get Fd.FLT_CH_OUT_SPC
  if spc = 0 then s
  else
    let x := s.chain c
    let first := decide (x.words = [])
    let hold := 8 * b2n s.inHoldover
    let fl := if first then x.nextFlags ||| b2n half else x.recFlags
    let x1 := { x with
      words := x.words ++ [w], recFlags := fl ||| hold, recInst := if first then inst else x.recInst,
      recNo := if first then no % 2 ^ 32 else x.recNo, recPeriod := if first then period else x.recPeriod,
      nextFlags := if first then 0 else x.nextFlags }
    let s1 := s.setChain c x1
    if spc ≤ x1.words.length then s1.closeSamples c else s1

/-- The bytes of a closed envelope (R264). -/
def EnvAcc.bytes (e : EnvAcc) (part : Bool) : List Byte :=
  le4 (unsigned 32 (if e.used = 0 then 0 else e.min)) ++ le4 (unsigned 32 (if e.used = 0 then 0 else e.max)) ++
    le2 e.used ++ by1 e.worst ++ by1 (b2n (e.used == 0) + 2 * b2n part)

/-- Push the ENVELOPE record in progress (R264). -/
def State.closeEnvRec (s : State) (c : Nat) : State :=
  let x := s.chain c
  if x.envN = 0 then s
  else
    let payload := pad16 (le4 (x.envNo % 2 ^ 32) ++ le2 x.envN ++ le2 x.envFlags ++
      le4 ((s.rd (copyKey Reg.ENV_CH_CFG c)).get Fd.ENV_CH_CFG_N) ++ wordBytes (s.rd (copyKey Reg.LIN_OUT_SCALE c)) ++
      x.envs)
    (((s.setChain c { x with envs := [], envN := 0, envFlags := 0 }).countMod Reg.ENV_RECORDS).raise 0x32 0).emit 0x4
      (chainClass c) (chainIndex c) x.envInst payload

/-- Close the envelope interval in progress; `part` closes it early (R264). -/
def State.closeEnv (s : State) (c : Nat) (part : Bool) : State :=
  let x := s.chain c
  if x.env.count = 0 then s
  else
    let x1 := { x with
      envs := x.envs ++ x.env.bytes part, envN := x.envN + 1, env := EnvAcc.init, envDone := x.envDone + 1,
      envFlags := x.envFlags ||| b2n part }
    let s1 := s.setChain c x1
    if (s.rd (copyKey Reg.ENV_CH_CFG c)).get Fd.ENV_CH_CFG_EPR ≤ x1.envN then s1.closeEnvRec c else s1

/-- One sample word enters the envelope in progress (R264). -/
def State.addEnv (s : State) (c : Nat) (val : Int) (tag sub : Nat) (inst : Time) : State :=
  let n := (s.rd (copyKey Reg.ENV_CH_CFG c)).get Fd.ENV_CH_CFG_N
  if n = 0 then s
  else
    let x := s.chain c
    let e := x.env
    let enters := decide (tag ≤ 3)
    let worse := decide (e.count = 0) || decide (tagRank tag sub < tagRank e.worst 0)
    let e1 : EnvAcc := { e with
      count := e.count + 1, used := e.used + b2n enters,
      min := if enters then (if e.used = 0 then val else min e.min val) else e.min,
      max := if enters then (if e.used = 0 then val else max e.max val) else e.max,
      worst := if worse then tag else e.worst }
    let start := decide (x.envN = 0) && decide (e.count = 0)
    let x1 := { x with
      env := e1, envInst := if start then inst else x.envInst, envNo := if start then x.envDone else x.envNo,
      envFlags := (if start then x.envNext else x.envFlags) ||| 2 * b2n s.inHoldover,
      envNext := if start then 0 else x.envNext }
    let s1 := s.setChain c x1
    if n ≤ e1.count then s1.closeEnv c false else s1

/-! ### Capture tap 2 -/

/-- Most items of a unit that wait for some of their channels. -/
abbrev partCap : Nat := 4096

/-- After the output of a channel: units with TAP 2 take the item of an instant when each of their channels has put out its
sample of that instant (R252). Node channels put out a superframe's samples one channel after the other. -/
def State.tapChain (s : State) (c : Nat) (inst : Time) (period : Nat) : State :=
  s.tapUnits (fun u a =>
    let first := a.rf (Reg.SCUN_SEL u) Fd.SCUN_SEL_FIRST
    let num := a.capNum u
    if a.capTap u = 2 ∧ first ≤ c ∧ c < first + num then
      let x := a.unit u
      let key := inst.toNat
      let had := ((x.part.find? (fun e => e.1 == key)).map (·.2)).getD []
      let now := (c, (a.chain c).word) :: had
      let ws := (List.range num).map (fun i => (now.find? (fun e => e.1 == first + i)).map (·.2))
      if ws.all Option.isSome then
        (a.setUnit u { x with part := x.part.filter (fun e => decide (key < e.1)) }).capItem u period
          ⟨inst, ws.filterMap id, b2n a.inHoldover⟩
      else
        let rest := x.part.filter (fun e => e.1 != key)
        a.setUnit u { x with part := (rest ++ [(key, now)]).drop (rest.length + 1 - partCap) }
    else a)

/-! ### Stages -/

/-- Half-band coefficients at offsets −11 to 11 (R201). -/
def halfBandTaps : List Int :=
  let side : List Int := [-530, 0, 1540, 0, -3290, 0, 6390, 0, -12700, 0, 41358]
  side ++ [65536] ++ side.reverse

/-- Stage 4, the notch (R203): coefficients in 2^-30; its state kept in 48 bits. -/
def notchStep (b0 b1 b2 a1 a2 x : Int) (st : Int × Int × Int × Int) : Int × (Int × Int × Int × Int) :=
  let (x1, x2, y1, y2) := st
  let y := satS 48 (roundShr (b0 * x + b1 * x1 + b2 * x2 - a1 * y1 - a2 * y2) 30)
  (y, (x, x1, y, y1))

/-- The notch's steady state for a constant input (R203). -/
def notchSteady (b0 b1 b2 a1 a2 x : Int) : Int × Int × Int × Int :=
  let d := 2 ^ 30 + a1 + a2
  let num := x * (b0 + b1 + b2)
  let y := satS 48 (if 0 ≤ d then roundDiv num d.natAbs else roundDiv (-num) d.natAbs)
  (x, x, y, y)

/-- The notch set in use for a channel: FLT.NOTCH.SET for field channels; for node channels the set that took effect at
their superframe boundary (R199, R204). -/
def State.notchUse (s : State) (c : Nat) : Nat :=
  if c < 64 then s.rf Reg.FLT_NOTCH Fd.FLT_NOTCH_SET else s.flt.setNode

/-- Coefficient k of the notch set in use for a channel of a class. -/
def State.notchCoef (s : State) (c cls k : Nat) : Int :=
  match s.pln.run with
  | some p => (p.tabAt (tabNotch cls (s.notchUse c) k)).toInt
  | none => 0

/-- A digital threshold after a VALID sample (R215): its new state, and whether it set. -/
def thrNext (dir : Nat) (was : Bool) (y thr hys : Word) : Bool × Bool :=
  let on := if dir = 0 then f32Lt thr y else f32Lt y thr
  let off := if dir = 0 then f32Lt y (f32Sub thr hys) else f32Lt (f32Add thr hys) y
  let now := if was then !off else on
  (now, !was && now)

/-- Stage 6 (R215). -/
def State.thresholds (s : State) (c : Nat) (y : Word) (inst : Time) : State :=
  let cfg := s.rd (copyKey Reg.FLT_THR_CFG c)
  let hys := s.rd (copyKey Reg.FLT_THR_HYS c)
  let one (a : State) (b : Bool) : State :=
    let sh := if b then 6 else 0
    if !Word.bit cfg sh then a
    else
      let x := a.chain c
      let r := thrNext (cfg.get ⟨sh + 1, 1⟩) (if b then x.thrB else x.thrA) y
        (a.rd (copyKey (if b then Reg.FLT_THR_B else Reg.FLT_THR_A) c)) hys
      let a1 := a.setChain c (if b then { x with thrB := r.1 } else { x with thrA := r.1 })
      if r.2 then
        ((a1.gatherTrig (a1.mkTrigger (cfg.get ⟨sh + 2, 4⟩) (0x4000 + 2 * c + b2n b) inst c)).count
          Reg.FLT_THR_TRIG).raise 0x19 0
      else a1
  one (one s false) true

/-- A sample word (R8). -/
def sampleWord (v : Int) (tag sub : Nat) : Word := w32 (256 * unsigned 24 v + 16 * tag + sub)

/-- T of stage 5 (R199, R213), by the latches of the channel's own boundary; none while TCH has had no VALID value. -/
def State.chainT (s : State) (c : Nat) : Option Word :=
  let l := s.rd (copyKey Reg.LIN_LCFG c)
  if l.get Fd.LIN_LCFG_TSRC = 1 then some (if c < 64 then s.flt.dieLatch else s.flt.dieLatchN)
  else if l.get Fd.LIN_LCFG_TSRC = 2 then
    let x := s.chain (l.get Fd.LIN_LCFG_TCH)
    if c < 64 then x.latch else x.latchN
  else some 0

/-- Stages 3 and 4 on one filtered value: the blocker, then the notch (R202, R203). -/
def State.stages34 (s : State) (c : Nat) (x : Int) : Int × State :=
  let cfg := s.chCfg c
  let ch := s.chain c
  let sh := cfg.get Fd.FLT_CH_CFG_DCB_SHIFT
  let m := ch.m.getD x
  let y3 := if sh = 0 then x else x - m
  let m1 := if cfg.get Fd.FLT_CH_CFG_FREEZE = 1 then m else m + roundShr (x - m) sh
  let s1 := if sh = 0 then s else s.setChain c { ch with m := some m1 }
  if !s.chNotch c then (y3, s1)
  else
    let cls := cfg.get Fd.FLT_CH_CFG_NOTCH_CLASS
    let k (i : Nat) : Int := s.notchCoef c cls i
    let st := (s1.chain c).notch.getD (notchSteady (k 0) (k 1) (k 2) (k 3) (k 4) y3)
    let r := notchStep (k 0) (k 1) (k 2) (k 3) (k 4) y3 st
    let s2 := s1.setChain c { s1.chain c with notch := some r.2 }
    let y := satS 40 r.1
    (y, if y = r.1 then s2 else s2.count Reg.FLT_SAT_COUNT)

/-- Sum and number of the VALID values of field channel c in an interval (R148). -/
def RmnInt.ref (i : RmnInt) (c : Nat) : Word × Nat := NMap.get (fun _ => (0, 0)) i.refs c

/-- A VALID linearised value of a field channel enters the Raman interval its instant lies in (R148). Every channel's
values are kept, since an interval is converted with the reference channel that the plan then names (R151). -/
def State.ramanRef (s : State) (c : Nat) (y : Word) (inst : Time) : State :=
  let add (i : RmnInt) : RmnInt :=
    if i.started && decide (i.start.toNat ≤ inst.toNat) &&
        (match i.stop with | some e => decide (inst.toNat ≤ e.toNat) | none => true)
    then { i with refs := NMap.set (fun _ => (0, 0)) i.refs c (f32Add (i.ref c).1 y, (i.ref c).2 + 1) } else i
  if c < 64 then { s with tmp := { s.tmp with cur := add s.tmp.cur, conv := s.tmp.conv.map add } } else s

/-- Stages 3 to 7 on one filtered value, and what follows from the sample (R202 to R218). `k` is the number of the
last input of the support, `inst0` its instant, `per` the input period in ticks. -/
def State.chainOut (s0 : State) (c : Nat) (x : Int) (sum : TagSum) (k : Nat) (inst0 : Time) (per : Nat) : State :=
  let M := s0.chM c
  let H := s0.chH c
  let span := M * (1 + 22 * (2 ^ H - 1))
  let dc := (M - 1 + 22 * M * (2 ^ H - 1)) / 2
  let inst := inst0 - BitVec.ofNat 64 ((span - 1 - dc) * per)
  let (y4, s) := s0.stages34 c x
  let xv := f32Mul (f32OfScaled y4 (-8)) (s.rd (copyKey Reg.LIN_XSCALE c))
  let l := s.rd (copyKey Reg.LIN_LCFG c)
  let t := s.chainT c
  let y := if l.get Fd.LIN_LCFG_EN = 1 then
      f32Poly (fun i => s.rd (copyKey (Reg.LIN_COEF i) c)) (l.get Fd.LIN_LCFG_DEG_X) (l.get Fd.LIN_LCFG_DEG_T) xv (t.getD 0)
    else xv
  let osc := s.rd (copyKey Reg.LIN_OUT_SCALE c)
  let q := f32RoundDiv y osc
  let big := decide (8388607 < q.natAbs)
  let fin := f32Finite y
  let ch := s.chain c
  -- SETTLE that the inputs of the support bring (R211)
  let further := (sum.last + span - 2 - k) / (M * 2 ^ H)
  let settleTo := if sum.last = 0 ∨ sum.last + span < k + 2 then ch.settleTo
    else max ch.settleTo (ch.out + 1 + further + s.chNS c)
  let settling := decide (ch.out < settleTo)
  let base : Nat × Nat × Nat :=
    if sum.rank < 7 then (sum.rank, sum.tag, sum.sub)
    else if settling then (7, 1, min 15 (settleTo - 1 - ch.out)) else (8, 0, 0)
  let res : Nat × Nat × Int :=
    if t.isNone then (15, 1, 0)
    else if !fin then (15, 2, 0)
    else
      let v := clampI (-8388607) 8388607 q
      if big ∧ 6 < base.1 then (if 0 ≤ q then 2 else 3, 1, v) else (base.2.1, base.2.2, v)
  let tag := res.1
  let sub := res.2.1
  let w := sampleWord res.2.2 tag sub
  let ch1 := { ch with settleTo := settleTo, out := ch.out + 1, word := w, wordInst := some inst }
  let s1 := s.setChain c { ch1 with
    lastVal := if tag = 0 then some y else ch.lastVal, validAt := if tag = 0 then some s.ltc else ch.validAt }
  let s2 : State := match t with
    | some tv => s1.wr (copyKey Reg.LIN_T_LATCH c) tv
    | none => s1
  let s3 : State := if t.isSome && !fin then
      let a : State := if s2.rd Reg.LIN_NONFINITE = (0 : Word) then s2.err 0x1a Err.LIN_NONFINITE else s2
      (a.count Reg.LIN_NONFINITE).raise 0x1a 0
    else if t.isSome && big then s2.count Reg.FLT_SAT_COUNT else s2
  let s4 := if tag = 0 then (s3.thresholds c y inst).ramanRef c y inst else s3
  let x4 := s4.chain c
  let s5 := s4.wr (copyKey Reg.FLT_CH_STAT c) (w32 (tag + 16 * sub + 256 * b2n x4.thrA + 512 * b2n x4.thrB))
  let s6 := s5.coreSample c (chainClass c) (chainIndex c) w inst ch.out (M * 2 ^ H * per)
    (b2n (M % 2 == 0) + 8 * b2n s5.inHoldover)
  ((s6.addSample c w inst ch.out (M * 2 ^ H * per) (M % 2 == 0)).addEnv c res.2.2 tag sub inst).tapChain c inst
    (M * 2 ^ H * per)

/-- Stage 2 from half-band stage `i` on (R201, R206): `n` numbers the stage's inputs from 1 at k0. -/
def State.halfBands (s : State) (c : Nat) (k : Nat) (inst0 : Time) (per : Nat) :
    Nat → Nat → Nat → Int → TagSum → State
  | 0, _, _, x, sum => s.chainOut c x sum k inst0 per
  | left + 1, i, n, x, sum =>
    let ch := s.chain c
    let hist := nth ch.hb i []
    let full := (List.range (22 - hist.length)).map (fun j => (Config.halfBandInit s.free j, TagSum.none)) ++ hist
    let h23 := full.drop (full.length - 22) ++ [(x, sum)]
    let hb := setAt (ch.hb ++ List.replicate (6 - ch.hb.length) []) i (h23.drop 1)
    let s1 := (if hist.length < 22 then s.fresh else s).setChain c { ch with hb := hb }
    if n % 2 = 1 then s1
    else
      let y := roundShr (((halfBandTaps.zip h23).map (fun e => e.1 * e.2.1)).sum) 17
      let ys := satS 40 y
      let s2 := if ys = y then s1 else s1.count Reg.FLT_SAT_COUNT
      s2.halfBands c k inst0 per left (i + 1) (n / 2) ys (h23.foldl (fun a e => TagSum.join a e.2) TagSum.none)

/-- One input of a chain channel (R199, R200, R209). `k` numbers inputs from the reference of the phases (`k0`); `rem`
counts the further raw results that carry SETTLE. Tags that substitute enter as the previous result (R209), which for a
field channel is `v` (R176). -/
def State.chainIn (s : State) (c k k0 : Nat) (inst : Time) (per : Nat) (v : Int) (tag sub rem : Nat) : State :=
  if !s.hasChain c then s
  else
    let ch := s.chain c
    let subst := [4, 5, 6, 7, 8, 9].contains tag
    let val := if subst && decide (64 ≤ c) then ch.prev else v
    let M := s.chM c
    let sum := ch.sum + val
    let box := TagSum.join ch.box (inputSum k tag sub rem)
    let s1 := s.setChain c { ch with sum := sum, box := box, prev := val }
    if k < k0 ∨ (k - k0 + 1) % M ≠ 0 then s1
    else
      let s2 := s1.setChain c { s1.chain c with sum := 0, box := TagSum.none }
      s2.halfBands c k inst per (s2.chH c) 0 ((k - k0 + 1) / M) (roundDiv (sum * 256) M) box

/-- The die temperature in °C (R213), from its 0.01 K code. -/
def State.dieC (s : State) : Word :=
  f32Div (f32OfScaled (signed 16 (s.rd Reg.FLD_TEMP_NOW).toNat) 0) (f32OfScaled 100 0)

/-- Latches of a field tick boundary with a die temperature, and of a superframe boundary, which serve field and node
channels (R199, R213). -/
def State.latchField (s : State) (die : Word) : State :=
  { s with flt := { s.flt with
    dieLatch := die, chans := s.flt.chans.map (fun e => (e.1, { e.2 with latch := e.2.lastVal })) } }
def State.latchNode (s : State) (die : Word) : State :=
  { s with flt := { s.flt with
    dieLatchN := die, chans := s.flt.chans.map (fun e => (e.1, { e.2 with latchN := e.2.lastVal })) } }

/-! ### Resets and resynchronisation -/

/-- Every node channel's chain number starts at 64. -/
def chainNumbers (s : State) : List Nat := (List.range 576).filter s.hasChain

/-- Resynchronise one channel (R206, R207): partial sums go, records and envelopes close, SETTLE follows. `flags` are
those of the next SAMPLES record, `envFlags` of the next ENVELOPE record. -/
def State.resyncChain (s : State) (flags envFlags : Nat) (c : Nat) : State :=
  let s1 := (((s.closeSamples c).closeEnv c true).closeEnvRec c).coreFlush c
  let x := s1.chain c
  s1.setChain c { x with
    sum := 0, box := TagSum.none, hb := x.hb.map (fun l => l.map (fun e => (e.1, { e.2 with last := 0 }))),
    settleTo := max x.settleTo (x.out + halfBandSettle (s1.chH c) + s1.chNS c),
    nextFlags := x.nextFlags ||| flags, envNext := x.envNext ||| envFlags }

/-- A resynchronisation that waits may take the boundary at `t`. -/
def syncDue (r : Option Time) (t : Time) : Bool := r.any (fun q => decide (q.toNat ≤ t.toNat))

/-- At a field tick boundary: a resynchronisation asked for, whose time has come (R207). `no` is the boundary's number.
In a plan with field ticks RESYNCS counts here, else at the superframe boundary. -/
def State.resyncField (s : State) (no : Nat) (t : Time) : State :=
  if syncDue s.resync.field t then
    let s1 := ((chainNumbers s).filter (fun c => decide (c < 64))).foldl (fun a c => a.resyncChain 2 0 c) s
    { s1 with
      flt := { s1.flt with k0 := no }
      resync := ⟨none, if s.superframe = 0 then none else s1.resync.node⟩ }.countMod Reg.FLT_RESYNCS
  else s

/-- At a superframe boundary: node channels restart with the inputs of superframe `no`, which arrive later (R207, R231). -/
def State.resyncNode (s : State) (no : Nat) : State :=
  if syncDue s.resync.node s.ltc then
    let s1 := ((chainNumbers s).filter (fun c => decide (64 ≤ c))).foldl (fun (a : State) c =>
      a.setChain c { a.chain c with resyncAt := some no }) s
    if s.fieldTick = 0 then { s1 with resync := ⟨none, none⟩ }.countMod Reg.FLT_RESYNCS
    else { s1 with resync := ⟨s1.resync.field, none⟩ }
  else s

/-- SYNC: FLT.CMD SYNC asks for a resynchronisation (R207). -/
def opChainSync (s : State) : State := s.requestSync

def execChainSync (s : State) : Host.Outcome State Fault Refusal := ok (opChainSync s)

end Sys2Proof.Machine
end

