-- ==== Sys2Proof/Machine/FieldOps.lean ====
section
/-!
DEFINITION. Shared operations on the field die: channels, comparators and threshold outputs, converters (R156 to R190).
-/

namespace Sys2Proof.Machine

def State.fch (s : State) (n : Nat) : FldCh := NMap.get (fun _ => FldCh.init) s.fld.chans n
def State.setFch (s : State) (n : Nat) (x : FldCh) : State :=
  { s with fld := { s.fld with chans := NMap.set (fun _ => FldCh.init) s.fld.chans n x } }

/-- Connection mode of a channel (R156). -/
def State.conn (s : State) (n : Nat) : Nat := s.rf (Reg.FCH_CFG n) Fd.FCH_CFG_CONN

/-- An excited channel (R171). -/
def State.excited (s : State) (n : Nat) : Bool :=
  let c := s.conn n
  (2 ≤ c && c ≤ 5) || (c == 6 && s.flag (Reg.FCH_CFG n) Fd.FCH_CFG_LOOP_PWR)

/-- The compliance monitor of an excited channel finds its condition (R171): a current source at its limit, a bridge
current below 100 µA, a loop current below LOOP_MIN, in 0.1 mA. -/
def State.loopFound (s : State) (n : Nat) (o : LoopObs) : Bool :=
  let c := s.conn n
  let below (limit : Nat) : Bool := match o.cur with | some i => decide (i < limit) | none => false
  s.excited n &&
    (if c = 5 then below 100 else if c = 6 then below (100 * s.rf (Reg.FCH_DIAG n) Fd.FCH_DIAG_LOOP_MIN) else o.limit)

/-- In RTD3 the source, 1 or 2, that feeds EXA, or else EXB, in the tick of the last hold (R158): they swap on odd ticks. -/
def State.rtdSource (s : State) (n : Nat) (exa : Bool) : Option Nat :=
  if s.conn n = 3 then some (if exa == s.fld.swapped then 2 else 1) else none

/-- The code of a conversion of channel n's signal (R159, R162). In BRIDGE the converter's reference is the bridge
voltage: `code` is the ratio as it reads at 10 V excitation, and the result is scaled to the nominal EXC_V. -/
def State.signalCode (s : State) (n : Nat) (code : Int) : Int :=
  if s.conn n = 5 then roundShr (code * 2 ^ s.rf (Reg.FCH_CFG n) Fd.FCH_CFG_EXC_V) 3 else code

/-- A channel with sense leads that burn-out tests (R172). -/
def State.burnTested (s : State) (n : Nat) : Bool :=
  let c := s.conn n
  s.flag (Reg.FCH_CFG n) Fd.FCH_CFG_BURN &&
    (c == 1 || c == 4 || c == 5 || (c == 6 && !s.flag (Reg.FCH_CFG n) Fd.FCH_CFG_LOOP_PWR))

/-- The burn-out spacing B (R172). -/
def State.burnB (s : State) : Nat := max 2 (if s.fieldTick = 0 then 2 else 8250000 / s.fieldTick)

/-- Tick k is a test tick of channel n (R172, R174). -/
def State.testTick (s : State) (n k : Nat) : Bool :=
  s.burnTested n &&
    (match (s.fch n).openTest with
     | some kl => decide (kl < k) && (k - kl) % 2 == 0
     | none => (k + 8 * n) % s.burnB == 0)

/-! ### Converters -/

/-- Mode of a converter in CONV_STAT: 0 off, 1 normal, 2 low-power, 3 out of service; its CAL and INJ bits. -/
def State.convMode (s : State) (c : Nat) : Nat := (s.rd Reg.FLD_CONV_STAT).get ⟨4 * c, 2⟩
def State.convBusy (s : State) (c : Nat) : Bool := Word.bit (s.rd Reg.FLD_CONV_STAT) (4 * c + 2)
def State.setConv (s : State) (c mode : Nat) (cal : Bool) : State :=
  s.wr Reg.FLD_CONV_STAT (((s.rd Reg.FLD_CONV_STAT).put ⟨4 * c, 2⟩ mode).putBit (4 * c + 2) cal)
/-- The mode of a converter that is in service: normal while a plan makes field ticks, else off. -/
def State.convRest (s : State) : Nat := b2n (s.hasSection 5 && s.fieldTick != 0)
def State.setConvInj (s : State) (c : Nat) (b : Bool) : State :=
  s.wr Reg.FLD_CONV_STAT ((s.rd Reg.FLD_CONV_STAT).putBit (4 * c + 3) b)

/-- An injected conversion runs on the converter. -/
def State.convInjRunning (s : State) (c : Nat) : Bool := s.fld.inj.any (fun q => q.ch / 8 == c && q.hold.isSome)

/-- A converter starts to calibrate in low-power mode, unless it is out of service (R167, R182). -/
def State.convCal (s : State) (c : Nat) : State :=
  if s.convMode c = 3 then s
  else { s with fld := { s.fld with outTick := setAt s.fld.outTick c true } }.setConv c 2 true

/-- A converter's turn in a calibration; a running injected conversion on it completes first (R182, R183). -/
def State.convTurn (s : State) (c : Nat) : State :=
  let s1 := { s with fld := { s.fld with calTurn := c } }
  if s1.convInjRunning c then
    ({ s1 with fld := { s1.fld with deferred := true } }.wf Reg.FLD_STAT Fd.FLD_STAT_CAL_DEFERRED 1).count
      Reg.FLD_DEFER_COUNT
  else s1.convCal c

/-- A calibration ends well: its coefficients apply from the next hold on (R182). -/
def State.convSettle (s : State) (c : Nat) : State :=
  { s with fld := { s.fld with calEnd := setAt s.fld.calEnd c true } }

/-- At the hold from which a converter's new coefficients apply, its channels start to show SETTLE for one raw result
(R184, R210). -/
def State.calSettle (s : State) : State :=
  let s1 := iter 64 (fun n a =>
    if nth s.fld.calEnd (n / 8) false && a.conn n != 0 then a.setFch n { a.fch n with settle := max (a.fch n).settle 1 }
    else a) s
  { s1 with fld := { s1.fld with calEnd := List.replicate 8 false } }

/-- FLD.STAT.CAL_BUSY: a calibration or a recovery runs. -/
def State.fldBusy (s : State) : State :=
  s.wf Reg.FLD_STAT Fd.FLD_STAT_CAL_BUSY (b2n ((List.range 8).any (fun c => s.convBusy c)))

/-! ### Comparators and outputs -/

/-- Number of threshold bands, and the active one (R186). -/
def State.bands (s : State) : Nat := s.rf Reg.THC_CFG Fd.THC_CFG_BANDS
def State.activeBand (s : State) : Nat := s.rf Reg.THC_BAND Fd.THC_BAND_ACTIVE

/-- THR and HYS of a comparator in a band, in 2^-32 code (R185, R197). -/
def State.bandCode (s : State) (band i : Nat) : Int × Int :=
  match s.pln.run with
  | some p =>
    let w := p.tabAt (tabBand band i)
    ((w.get ⟨0, 10⟩ : Int) * 2 ^ 32, (w.get ⟨16, 6⟩ : Int) * 2 ^ 32)
  | none => (0, 0)

/-- A comparator is enabled: its bit, its channel not OFF, bands defined (R185, R186). -/
def State.cmpOn (s : State) (i : Nat) : Bool :=
  let n := i / 2
  s.conn n != 0 && s.bands != 0 && Word.bit (s.rd (Reg.FCH_LIM_CFG n)) (4 * (i % 2))

/-- The comparator scale of a channel (R185): c(v) = 512 + v × 512 / FS in 2^-32 code, of an input in 10 V / 2^41 under
the full scale of LIM_RANGE. -/
def State.limCode (s : State) (n : Nat) (v : Int) : Int :=
  2 ^ 41 + v * 4 ^ (s.rd (Reg.FCH_LIM_CFG n)).get Fd.FCH_LIM_CFG_LIM_RANGE

/-- The state a comparator takes from its input on the scale (R185): active, kept, or released. -/
def State.cmpRule (s : State) (i : Nat) (was : Bool) (v : Int) : Bool :=
  let t := s.bandCode s.activeBand i
  let below := Word.bit (s.rd (Reg.FCH_LIM_CFG (i / 2))) (4 * (i % 2) + 1)
  if !s.cmpOn i then false
  else if was then (if below then decide (v ≤ t.1 + t.2) else decide (t.1 - t.2 ≤ v))
  else if below then decide (v < t.1) else decide (t.1 < v)

/-- State of comparator i as CMP_STATE shows it. -/
def State.cmpState (s : State) (i : Nat) : Bool := Word.bit (s.rd (Reg.THC_CMP_STATE (i / 32))) (i % 32)

/-- The condition of output j (R187). -/
def State.tswCond (s : State) (j : Nat) : Bool :=
  let m (w : Nat) : Word := s.rd (Reg.THC_OUT_MASK j w)
  let st (w : Nat) : Word := s.rd (Reg.THC_CMP_STATE w)
  let empty := (List.range 4).all (fun w => m w == 0)
  match s.rf (Reg.THC_OUT_CFG j) Fd.THC_OUT_CFG_MODE with
  | 1 => (List.range 4).any (fun w => (m w &&& st w) != 0)
  | 2 => !empty && (List.range 4).all (fun w => (m w &&& st w) == m w)
  | _ => false

/-- A TSW ball is driven low (R188): only on a hub that drives outputs, while a plan with a FIELD section runs. -/
def State.tswLow (s : State) (j : Nat) : Bool :=
  s.drives && s.hasSection 5 &&
    (Word.bit (s.rd Reg.THC_TSW_STATE) j != s.flag (Reg.THC_OUT_CFG j) Fd.THC_OUT_CFG_POL)

/-- Form every threshold output again (R187). -/
def State.tswForm (s : State) : State :=
  iter 32 (fun j a =>
    let mode := a.rf (Reg.THC_OUT_CFG j) Fd.THC_OUT_CFG_MODE
    let cond := a.tswCond j
    let lat := a.flag (Reg.THC_OUT_CFG j) Fd.THC_OUT_CFG_LATCH && mode != 0
    let was := Word.bit (a.rd Reg.THC_TSW_STATE) j
    let latched := lat && (Word.bit (a.rd Reg.THC_LATCHED) j || cond)
    let act := cond || latched
    let a1 := (a.wr Reg.THC_TSW_STATE (Word.putBit (a.rd Reg.THC_TSW_STATE) j act)).wr Reg.THC_LATCHED
      (Word.putBit (a.rd Reg.THC_LATCHED) j latched)
    if act && !was then a1.raise 0x1b 0 else a1) s

/-- The TSW balls take the levels that outputs, role and plan give them (R188, R191, R192): 1 is driven low. Ball codes
0x200 + j. -/
def State.tswBalls (s : State) : State :=
  iter 32 (fun j (a : State) =>
    let low := a.tswLow j
    if Word.bit a.fld.balls j = low then a
    else { a with fld := { a.fld with balls := Word.putBit a.fld.balls j low } }.emitOut (.pin (0x200 + j) (b2n low) a.ltc)) s

/-- Outputs and balls follow their inputs (R187, R188). -/
def State.tswUpdate (s : State) : State := s.tswForm.tswBalls

/-- Put a comparator at a state; becoming active it is reported and may issue a trigger (R185, R189, R247). -/
def State.setCmp (s : State) (i : Nat) (v : Bool) (inst : Time) : State :=
  if s.cmpState i = v then s
  else
    let n := i / 2
    let w := i / 32
    let x := s.fch n
    let s1 := s.setFch n (if i % 2 = 0 then { x with cmpA := v } else { x with cmpB := v })
    let s2 := (s1.wr (Reg.THC_CMP_STATE w) (Word.putBit (s1.rd (Reg.THC_CMP_STATE w)) (i % 32) v)).wr (Reg.FCH_STAT n)
      (Word.putBit (s1.rd (Reg.FCH_STAT n)) (10 + i % 2) v)
    if !v then s2
    else
      let s3 := (s2.raise (0x100 + n) 4).raise 0x18 6
      if Word.bit (s3.rd (Reg.SHB_CMP_EN w)) (i % 32) then
        s3.gatherTrig (s3.mkTrigger ((s3.rd (Reg.SHB_CMP_LINE (i / 8))).get ⟨4 * (i % 8), 4⟩) (0x1000 + i) inst 0)
      else s3

/-- The comparators of a channel are in a safe state or hold: latched OPEN or SHORT, or the hold of R190. -/
def FldCh.inSafe (x : FldCh) : Bool := x.openL != 0 || x.shortL != 0 || x.hold != 0

/-- Bring the comparators of a channel to what holds now: the safe states of R175, the kept states of R190, or the
input (R185). The outputs are still to be formed. -/
def State.cmpStep (s : State) (n : Nat) (inst : Time) : State :=
  let one (a : State) (b : Nat) : State :=
    let x := a.fch n
    let i := 2 * n + b
    let safe := (a.rd (Reg.FCH_LIM_CFG n)).get ⟨4 * b + 2, 2⟩
    let kept := if b = 0 then x.keepA else x.keepB
    let v :=
      if !a.cmpOn i then false
      else if x.openL ≠ 0 ∨ x.shortL ≠ 0 ∨ x.hold = 1 then
        (if safe = 1 then true else if safe = 2 then kept else false)
      else if x.hold = 2 then kept
      else a.cmpRule i (a.cmpState i) (a.limCode n x.lim)
    a.setCmp i v inst
  let s1 := one (one s 0) 1
  s1.wf (Reg.FCH_STAT n) Fd.FCH_STAT_SAFE (b2n (s1.fch n).inSafe)

/-- The comparators of one channel, and the outputs that follow from them. -/
def State.cmpRefresh (s : State) (n : Nat) (inst : Time) : State := (s.cmpStep n inst).tswUpdate

/-- Remember the comparators' states at the start of a latch or hold. -/
def State.cmpKeep (s : State) (n : Nat) : State :=
  let x := s.fch n
  if x.inSafe then s
  else s.setFch n { x with keepA := s.cmpState (2 * n), keepB := s.cmpState (2 * n + 1) }

/-! ### Latches -/

/-- Set or clear a channel's bit in a LO, HI register pair. -/
def State.mapBit (s : State) (lo n : Nat) (v : Bool) : State :=
  s.wr (lo + 4 * (n / 32)) (Word.putBit (s.rd (lo + 4 * (n / 32))) (n % 32) v)

/-- FCH.STAT.GOOD (R174): the count toward clearing OPEN, or SHORT where OPEN is not latched. -/
def State.showGood (s : State) (n : Nat) : State :=
  let x := s.fch n
  s.wf (Reg.FCH_STAT n) Fd.FCH_STAT_GOOD (min (if x.openL ≠ 0 then x.goodO else x.goodS) 16)

/-- OPEN latches on a channel, with SUB bits (R171, R172). `test` is the tick whose burn-out test found it. -/
def State.latchOpen (s : State) (n bits : Nat) (test : Option Nat) : State :=
  let x := s.fch n
  if x.openL ≠ 0 then
    (s.setFch n { x with
      openL := x.openL ||| bits, goodO := 0,
      openTest := match x.openTest with | some k => some k | none => test }).showGood n
  else
    let s0 := s.cmpKeep n
    let s1 := s0.setFch n { s0.fch n with openL := bits, openTest := test, goodO := 0 }
    let s2 := (((s1.wf (Reg.FCH_STAT n) Fd.FCH_STAT_OPEN 1).showGood n).mapBit Reg.FLD_OPEN_LO n true).count (Reg.FCH_OPEN_EVT n)
    (((s2.err (0x100 + n) Err.FCH_OPEN).raise (0x100 + n) 0).raise 0x18 0).cmpRefresh n s.ltc

/-- SHORT latches on a channel, with SUB bits (R173). -/
def State.latchShort (s : State) (n bits : Nat) : State :=
  let x := s.fch n
  if x.shortL ≠ 0 then (s.setFch n { x with shortL := x.shortL ||| bits, goodS := 0 }).showGood n
  else
    let s0 := s.cmpKeep n
    let s1 := s0.setFch n { s0.fch n with shortL := bits, goodS := 0 }
    let s2 := (((s1.wf (Reg.FCH_STAT n) Fd.FCH_STAT_SHORT 1).showGood n).mapBit Reg.FLD_SHORT_LO n true).count
      (Reg.FCH_SHORT_EVT n)
    (((s2.err (0x100 + n) Err.FCH_SHORT).raise (0x100 + n) 1).raise 0x18 1).cmpRefresh n s.ltc

/-- OPEN clears after its 16 good ticks; SETTLE follows (R174, R210). -/
def State.clearOpen (s : State) (n : Nat) : State :=
  let x := s.fch n
  let s1 := s.setFch n { x with openL := 0, openTest := none, goodO := 0, settle := max x.settle 4 }
  ((s1.wf (Reg.FCH_STAT n) Fd.FCH_STAT_OPEN 0).mapBit Reg.FLD_OPEN_LO n false).cmpRefresh n s.ltc

/-- SHORT clears after its 16 good ticks; SETTLE follows (R174, R210). -/
def State.clearShort (s : State) (n : Nat) : State :=
  let x := s.fch n
  let s1 := s.setFch n { x with shortL := 0, goodS := 0, settle := max x.settle 4 }
  ((s1.wf (Reg.FCH_STAT n) Fd.FCH_STAT_SHORT 0).mapBit Reg.FLD_SHORT_LO n false).cmpRefresh n s.ltc

/-- Count a tick toward clearing OPEN and toward clearing SHORT (R174), each by its own conditions. Of an OPEN that a
burn-out test latched only test ticks count. -/
def State.goodTick (s : State) (n : Nat) : State :=
  let x := s.fch n
  if x.openL = 0 ∧ x.shortL = 0 then s
  else
    let gO := if x.openL = 0 ∨ x.loopBad ∨ (x.test ∧ x.sensBad ≠ 0) then 0
      else if x.openTest.isNone || x.test then x.goodO + 1 else x.goodO
    let gS := if x.shortL = 0 ∨ x.termBad ∨ x.limBad then 0 else x.goodS + 1
    let s1 := s.setFch n { x with goodO := gO, goodS := gS }
    let s2 := if 16 ≤ gO then s1.clearOpen n else s1
    (if 16 ≤ gS then s2.clearShort n else s2).showGood n

/-! ### Range changes -/

/-- Apply a range change at hold k (R169, R170): FCH.CFG.RANGE shows the range in use (R5, R168). -/
def State.applyRange (s : State) (n k r : Nat) : State :=
  let x := s.fch n
  if x.range = r then s
  else
    let s1 := s.setFch n { x with range := r, settle := max x.settle 2, dwell := 0, free := k + 8 }
    ((s1.wf (Reg.FCH_CFG n) Fd.FCH_CFG_RANGE r).count (Reg.FCH_RANGE_CHG n)).raise (0x100 + n) 2

/-- Autorange decides on the result of tick k (R168): the range it decides for waits with the tick, and dueRange applies
it (R169). -/
def State.autorange (s : State) (n k : Nat) (code : Int) (r tag : Nat) : State :=
  let cfg := s.rd (Reg.FCH_CFG n)
  let x := s.fch n
  if cfg.get Fd.FCH_CFG_AUTO = 0 ∨ 4 ≤ tag then s
  else
    let wide := cfg.get Fd.FCH_CFG_WIDE
    let nar := cfg.get Fd.FCH_CFG_NARROW
    let small := decide (code.natAbs < 24576) && decide (tag ≠ 2) && decide (tag ≠ 3)
    let dw := if small then x.dwell + 1 else 0
    let s1 := s.setFch n { x with dwell := dw }
    let dwell := s.rf (Reg.FCH_AUTO_CFG n) Fd.FCH_AUTO_CFG_DWELL
    let want : Option Nat :=
      if (tag = 2 ∨ tag = 3) ∧ wide < r then some wide
      else if 114688 ≤ code.natAbs ∧ wide < r then some (r - 1)
      else if small ∧ dwell ≠ 0 ∧ dwell ≤ dw ∧ r < nar then some (r + 1)
      else none
    match want with
    | some t => s1.setFch n { s1.fch n with pend := (s1.fch n).pend ++ [(t, k)] }
    | none => s1

/-- The range changes whose hold is h (R169): outside the spacing the widest of those decided wider than the range in
use, or else a narrower one; within it the wider ones wait and a narrower one is discarded. -/
def State.rangeHold (s : State) (n h : Nat) : State :=
  let x := s.fch n
  let due := x.pend.filter (fun e => decide (e.2 + 2 ≤ h))
  let later := x.pend.filter (fun e => decide (h < e.2 + 2))
  let wider := due.filter (fun e => decide (e.1 < x.range))
  if h < x.free then s.setFch n { x with pend := wider ++ later }
  else
    let s1 := s.setFch n { x with pend := later }
    match wider, due.filter (fun e => decide (x.range < e.1)) with
    | e :: es, _ => s1.applyRange n h (es.foldl (fun r q => min r q.1) e.1)
    | [], e :: _ => s1.applyRange n h e.1
    | [], [] => s1

/-- The range changes that are due up to hold k (R169), each at the hold at which it is due, so that a standby, which may
hear of a decision after that hold, makes the same ones (R170). None is made while AUTO is 0 (R168). -/
def State.dueRange (s : State) (n k : Nat) : State :=
  let x := s.fch n
  if !s.flag (Reg.FCH_CFG n) Fd.FCH_CFG_AUTO then s.setFch n { x with pend := [] }
  else
    match x.pend with
    | [] => s
    | e :: _ => iter (k - (e.2 + 1)) (fun i (a : State) => a.rangeHold n (e.2 + 2 + i)) s

/-! ### Results -/

/-- A result passes to FCH.LAST, STAT and the filter chain with its tag (R166, R176). `k` is its tick, `inst` its hold,
`rem` the further raw SETTLE results. -/
def State.passResult (s : State) (n k : Nat) (inst : Time) (code : Int) (r tag sub rem : Nat) : State :=
  let val : Int := code * 4 ^ (4 - r)
  let last := w32 (unsigned 18 code + 2 ^ 18 * r + 2 ^ 24 * tag + 2 ^ 28 * sub)
  let ovf := decide (tag = 2 ∨ tag = 3)
  let st := s.rd (Reg.FCH_STAT n)
  let st1 := ((((st.put Fd.FCH_STAT_RANGE_NOW r).putBit 5 (tag == 2)).putBit 6 (tag == 3)).putBit 7 (tag == 1)).putBit 8
    (tag == 8)
  let s0 : State := if s.hasStandby then { s with pai := { s.pai with results := s.pai.results ++ [(n, last)] } } else s
  let s1 := ((s0.wr (Reg.FCH_LAST n) last).wr (Reg.FCH_STAT n) (st1.putBit 9 (tag == 7))).mapBit Reg.FLD_OVR_LO n ovf
  let s2 := if ovf then s1.raise 0x18 2 else s1
  let s3 := if tag = 8 then s2.count Reg.FLD_CALSUB_COUNT else s2
  let s4 := if tag ≤ 3 then
      s3.setFch n { s3.fch n with prevCode := code, prevRange := r, prevVal := val }
    else s3
  (s4.autorange n k code r tag).chainIn n k s.flt.k0 inst s.fieldTick (if tag ≤ 3 then val else (s.fch n).prevVal) tag sub rem

/-- The result of channel n of tick k passes, with the highest-ranked of its conditions (R176). A channel that has no
result in the tick passes nothing. -/
def State.passChannel (s0 : State) (n k : Nat) (inst : Time) : State :=
  let s := s0.goodTick n
  let x := s.fch n
  let c := n / 8
  let out := s.convMode c == 3
  let cal := x.badConv || (x.conv.isNone && nth s.fld.outTick c false)
  match x.conv, out || cal with
  | none, false => s
  | cv, _ =>
    let v := cv.getD ⟨x.prevCode, x.prevRange, 0⟩
    let s1 := s.setFch n { x with settle := x.settle - 1, conv := none, badConv := false }
    let rem := x.settle - 1
    if x.openL ≠ 0 then
      s1.passResult n k inst v.code v.range 4 (x.openL + 8 * b2n (x.goodO != 0)) 0
    else if x.shortL ≠ 0 then s1.passResult n k inst v.code v.range 5 x.shortL 0
    else if x.test then s1.passResult n k inst x.prevCode x.prevRange 7 1 0
    else if out then s1.passResult n k inst x.prevCode x.prevRange 7 2 0
    else if cal then s1.passResult n k inst x.prevCode x.prevRange 8 c 0
    else if v.ovr ≠ 0 then s1.passResult n k inst v.code v.range (1 + v.ovr) 0 0
    else if x.settle ≠ 0 then s1.passResult n k inst v.code v.range 1 (min 15 rem) rem
    else s1.passResult n k inst v.code v.range 0 0 0

/-- Items of capture units with TAP 1 (R252): words of FCH.LAST of consecutive channels, at the hold. -/
def State.tapField (s : State) (inst : Time) : State :=
  s.tapUnits (fun u a =>
    if a.capTap u = 1 then
      let first := a.rf (Reg.SCUN_SEL u) Fd.SCUN_SEL_FIRST
      a.capItem u a.fieldTick ⟨inst, (List.range (a.capNum u)).map (fun i => a.rd (Reg.FCH_LAST (first + i))),
        b2n a.inHoldover⟩
    else a)

end Sys2Proof.Machine
end

