-- ==== Sys2Proof/Machine/Maint.lean ====
section
/-!
DEFINITION. The maintenance coordinator (R415 to R417, R422): requests, starts and ends of activities.
-/

namespace Sys2Proof.Machine

/-- Class codes (R415). -/
abbrev mCalRx : Nat := 0
abbrev mCalFld : Nat := 1
abbrev mUpdate : Nat := 2
abbrev mWear : Nat := 3
abbrev mPatrol : Nat := 4
abbrev mMemTest : Nat := 5
abbrev mTel : Nat := 6

/-- Two classes conflict (R416). -/
def mConflict (a b : Nat) : Bool :=
  a == b || [(0, 5), (2, 3), (2, 4), (2, 5), (3, 4)].contains (min a b, max a b)

/-- The class is enabled; UPDATE always is (R417). -/
def State.mEnabled (s : State) (k : Nat) : Bool := k == 2 || Word.bit (s.rd Reg.MNT_CFG) (8 + k)

def State.mSt (s : State) (k : Nat) : Nat := nth s.mnt.st k 0
def State.mBusy (s : State) (k : Nat) : Bool := nth s.mnt.busy k false

/-- MNT.STATE as read (R422). -/
def State.mntState (s : State) : Word :=
  w32 ((List.range 7).foldl (fun a k =>
    a + (if s.mEnabled k || s.mSt k ≠ 0 then s.mSt k else 3) * 2 ^ (2 * k)) 0)

/-- Nothing in execution conflicts with the class. -/
def State.mFree (s : State) (k : Nat) : Bool := (List.range 7).all (fun j => !(s.mBusy j && mConflict k j))

def State.mSet (s : State) (k st : Nat) (busy : Bool) : State :=
  { s with mnt := { s.mnt with st := setAt s.mnt.st k st, busy := setAt s.mnt.busy k busy } }

/-- A receiver or Raman converter begins its part of a rotation: it takes the spare out of service longest, unless
it has no healthy spare (R80, R81). -/
def State.elemBegin (s : State) (c : Nat) : State :=
  match s.ofe.elems[c]? with
  | none => s
  | some e =>
    match e.spares with
    | [] => s.err 0x10 Err.CAL_NO_SPARE
    | x :: xs =>
      let e1 := { e with spares := xs, cal := some x, ready := none, done := [], active := true }
      { s with ofe := { s.ofe with elems := setAt s.ofe.elems c e1 } }

/-- 4 KiB blocks a memory test may take (R411): scratch banks not in Ballast where SCM is set, then segment and spool
memory that the running plan does not assign. Addresses in rising order by memory. -/
def State.testBlock (s : State) (a : Nat) : Bool :=
  let cfg := s.rd Reg.MEM_TEST_CFG
  let assigned (res base size : Nat) : Bool :=
    match s.pln.run with
    | none => false
    | some p => p.mem.any (fun e => e.res == res && decide (e.base < a - base + 4096) && decide (a - base < e.base + e.size) &&
        decide (a - base < size))
  if 0x10000000 ≤ a ∧ a < 0x10800000 then
    cfg.get Fd.MEM_TEST_CFG_SCM == 1 && !Word.bit (s.rd Reg.MEM_RETAINED ||| s.rd Reg.MEM_WAKING) ((a - 0x10000000) / 0x40000)
  else if 0x30000000 ≤ a ∧ a < 0x30c00000 then cfg.get Fd.MEM_TEST_CFG_SGM == 1 && !assigned 1 0x30000000 0xc00000
  else cfg.get Fd.MEM_TEST_CFG_SPM == 1 && !assigned 2 0x40000000 0x1000000

/-- Bases and numbers of 4 KiB blocks of scratch, segment and spool memory. -/
def testAreas : List (Nat × Nat) := [(0x10000000, 2048), (0x30000000, 3072), (0x40000000, 4096)]

/-- Block number i of the test's order, or none past the end. -/
def blockAddr : List (Nat × Nat) → Nat → Option Nat
  | [], _ => none
  | (b, n) :: t, i => if i < n then some (b + 4096 * i) else blockAddr t (i - n)

/-- The number of the next block of the test at or after number i, with wrap; none when no block may be tested. -/
def State.nextBlock (s : State) (i : Nat) : Option Nat :=
  let ok (j : Nat) : Bool := match blockAddr testAreas j with | some a => s.testBlock a | none => false
  match ((List.range 9216).drop i).find? ok with
  | some j => some j
  | none => (List.range 9216).find? ok

/-- A receiver and Raman rotation has ended (R80): TEMP_CAL, CAL_COUNT and its report. -/
def State.rxRotDone (s : State) : State :=
  (((({ s with ofe := { s.ofe with calAt := s.ltc } }).wr Reg.OFE_TEMP_CAL (s.rd Reg.OFE_TEMP_NOW)).countMod
    Reg.OFE_CAL_COUNT).wf Reg.OFE_STAT Fd.OFE_STAT_CAL_BUSY 0).raise 0x10 3

/-- A step or one-piece activity of a class starts (R417): STEP_LTC, the wait it had, and what the class does. -/
def State.mBegin (s : State) (k : Nat) : State :=
  let wait := if s.mSt k = 1 then (s.ltc.toNat - (nth s.mnt.since k 0).toNat) / tickMs else 0
  let s1 := ((s.keepMax Reg.MNT_MAX_WAIT wait).wr Reg.MNT_STEP_LTC s.now).mSet k 2 true
  if k = mCalRx then
    let s2 := iter 5 (fun c a => a.elemBegin c) (s1.wf Reg.OFE_STAT Fd.OFE_STAT_CAL_BUSY 1)
    if s2.ofe.elems.any (fun e => e.active) then s2 else (s2.rxRotDone.mSet k 0 false).raise 0x4 1
  else if k = mCalFld then
    let first := match s.fld.calOne with | some c => c | none => 0
    (s1.wf Reg.FLD_STAT Fd.FLD_STAT_CAL_BUSY 1).convTurn first
  else if k = mMemTest then { s1 with mnt := { s1.mnt with borrowed := s.nextBlock s.mnt.cursor } }
  else s1

/-- A request of a class (R417): dropped while disabled, merged while queued or running, queued behind a conflict,
started otherwise. While Winch restarts, requests are queued (R436). -/
def State.mRequest (s : State) (k : Nat) : State :=
  if !s.mEnabled k || s.mSt k != 0 then s
  else if s.mFree k && !s.sys.restarting then s.mBegin k
  else
    let s1 := { s.mSet k 1 false with mnt := { (s.mSet k 1 false).mnt with since := setAt s.mnt.since k s.ltc } }
    (s1.count Reg.MNT_QUEUED_CNT).raise 0x4 0

/-- A trigger of a calibration class: while one is queued or running, one further rotation follows (R79, R181). -/
def State.calTrigger (s : State) (k : Nat) : State :=
  if s.mSt k ≠ 0 then
    if k = mCalRx then s.wf Reg.OFE_STAT Fd.OFE_STAT_CAL_PEND 1 else s.wf Reg.FLD_STAT Fd.FLD_STAT_CAL_PEND 1
  else s.mRequest k

/-- An activity ends (R417, R422). -/
def State.mEnd (s : State) (k : Nat) : State := (s.mSet k 0 false).raise 0x4 1

/-- A class has waited longer than AGE seconds (R417). -/
def State.mAged (s : State) (k : Nat) : Bool :=
  let age := s.rf Reg.MNT_CFG Fd.MNT_CFG_AGE
  s.mSt k == 1 && age != 0 && decide (age * tickS < s.ltc.toNat - (nth s.mnt.since k 0).toNat)

/-- Start what may start (R417): aged classes first, then ascending class code; a running activity that may not
continue becomes queued. -/
def State.mPump (s : State) : State :=
  let order := (List.range 7).filter (fun k => s.mAged k) ++ (List.range 7).filter (fun k => !s.mAged k)
  order.foldl (fun a k =>
    if a.mSt k = 0 ∨ a.mBusy k ∨ a.sys.restarting then a
    else if a.mFree k then a.mBegin k
    else if a.mSt k = 2 then
      { a.mSet k 1 false with mnt := { (a.mSet k 1 false).mnt with since := setAt a.mnt.since k a.ltc } }
    else a) s

end Sys2Proof.Machine
end

