-- ==== Sys2Proof/Machine/Field.lean ====
section
/-!
DEFINITION. The meanings of the field commands (R164 to R190), of LSYNC and of band selection (R204, R216, R432). The
boundary side of FIELD_TICK_HOLD is in the boundary file.
-/

namespace Sys2Proof.Machine

/-! ### Holds and conversions -/

/-- Store what the wire monitors find on one channel at hold k, and latch what the hold latches (R163, R172, R173). -/
def State.holdChannel (s : State) (n k : Nat) (o : Option WireObs) : State :=
  let x := s.fch n
  let c := s.conn n
  let ovf := match o with | some w => w.ovf.val | none => 0
  let loop := match o with | some w => s.loopFound n w.loop | none => false
  let i := s.rf (Reg.FCH_EXC n) Fd.FCH_EXC_I_UA
  let ohm := s.rf (Reg.FCH_DIAG n) Fd.FCH_DIAG_SHORT_OHM
  let term := (2 ≤ c && c ≤ 4 && ohm != 0) && (match o with
    | some w => (match w.vTerm with | some v => decide (v < 1000 * i * ohm) | none => false)
    | none => false)
  let limit := (c == 5 || (c == 6 && s.flag (Reg.FCH_CFG n) Fd.FCH_CFG_LOOP_PWR)) &&
    (match o with | some w => w.limit | none => false)
  let test := s.testTick n k
  -- the over-range comparator at a test hold finds a break (R172); where no lead is named, every tested one may be it
  let leads := if test then (match o with
      | some w => 2 * b2n w.snp + 4 * b2n (w.snn && c != 6)
      | none => 0) else 0
  let sens := if test ∧ leads = 0 ∧ ovf ≠ 0 then (if c = 6 then 2 else 6) else leads
  let s1 := s.setFch n { x with
    ovr := ovf, test := test, loopBad := loop, sensBad := sens, termBad := term, limBad := limit, conv := none,
    badConv := false }
  let s2 := if sens ≠ 0 then s1.latchOpen n (sens + b2n loop) (some k) else if loop then s1.latchOpen n 1 none else s1
  if term || limit then s2.latchShort n (b2n term + 2 * b2n limit) else s2

/-- A new value of FCH.CFG.RANGE took effect at hold k and restarts the spacing (R168, R169). -/
def State.liveRange (s : State) (n k : Nat) : State := s.applyRange n k (s.rf (Reg.FCH_CFG n) Fd.FCH_CFG_RANGE)

/-- An injected outcome becomes visible, with DONE (R178, R179). -/
def State.showOutcome (s : State) (d : InjDone) : State :=
  let st := w32 (4 + 16 * d.tag + 256 * d.resTag + 4096 * d.src)
  let queued := (s.rd (Reg.FCH_INJ_STAT d.ch)).toNat % 4
  let s1 := ((s.wr (Reg.FCH_INJ_STAT d.ch) (st + w32 queued)).wr (Reg.FCH_INJ_CODE d.ch)
    (w32 (d.code + 2 ^ 18 * d.range))).wr64 (Reg.FCH_INJ_LTC_LO d.ch) (Reg.FCH_INJ_LTC_HI d.ch) d.hold.toNat
  (s1.raise (0x100 + d.ch) 3).raise 0x18 4

/-- Injected outcomes of a pair whose boundary this is become visible (R179). -/
def State.showInjected (s : State) : State :=
  let due := s.fld.done.filter (fun d => decide (d.visible.toNat ≤ s.ltc.toNat))
  due.foldl (fun a d => a.showOutcome d)
    { s with fld := { s.fld with done := s.fld.done.filter (fun d => !decide (d.visible.toNat ≤ s.ltc.toNat)) } }

/-- A notch set is decided: it acts from the first tick boundary from `t` on, and for node channels from the first
superframe boundary (R199, R204, R205). -/
def State.nextNotch (s : State) (n : Nat) (t : Time) : State :=
  { s with flt := { s.flt with
    setNext := if s.fieldTick = 0 then s.flt.setNext else some (n, t)
    setNextN := if s.superframe = 0 then s.flt.setNextN else some (n, t)
    measured := true } }

/-- The notch set that the last decision gives, or else the one in use. -/
def State.lastNotch (s : State) : Nat :=
  match s.flt.setNext, s.flt.setNextN with
  | some (n, _), _ => n
  | none, some (n, _) => n
  | none, none => s.rf Reg.FLT_NOTCH Fd.FLT_NOTCH_SET

/-- The notch set of the node channels whose superframe boundary this is, at instant `b` (R199, R204). FLT.NOTCH shows it
in a plan without field ticks. -/
def State.notchBoundaryN (s : State) (b : Time) : State :=
  match s.flt.setNextN with
  | some (n, t) =>
    if t.toNat ≤ b.toNat then
      let s1 := { s with flt := { s.flt with setNextN := none, setNode := n } }
      if s.fieldTick = 0 then (s1.wf Reg.FLT_NOTCH Fd.FLT_NOTCH_SET n).raise 0x19 1 else s1
    else s
  | none => s

/-- The notch set whose boundary this is, at instant `b` (R204, R205). -/
def State.notchBoundary (s : State) (b : Time) : State :=
  match s.flt.setNext with
  | some (n, t) =>
    if t.toNat ≤ b.toNat then
      ({ s with flt := { s.flt with setNext := none } }.wf Reg.FLT_NOTCH Fd.FLT_NOTCH_SET n).raise 0x19 1
    else s
  | none => s

/-- The band whose boundary this is: the new codes take effect (R186). -/
def State.bandBoundary (s : State) : State :=
  match s.flt.bandNext with
  | some (b, t) =>
    if t.toNat ≤ s.ltc.toNat then
      let s1 := ({ s with flt := { s.flt with bandNext := none } }.wf Reg.THC_BAND Fd.THC_BAND_ACTIVE b).wf Reg.THC_BAND
        Fd.THC_BAND_PEND 0
      (iter 64 (fun n a => if a.conn n = 0 then a else a.cmpStep n a.ltc) ((s1.countMod Reg.THC_SWAPS).raise 0x1b 1)).tswUpdate
    else s
  | none => s

/-- The results of the tick before pass (R166). A standby's results are those its partner forwards (R191). -/
def State.fieldPass (s : State) : State :=
  match s.fld.lastHold with
  | none => s
  | some t =>
    let k := if s.fieldTick = 0 then 0 else (t.toNat - s.sched.epoch.toNat) / s.fieldTick
    let used := (List.range 64).filter (fun n => s.conn n != 0)
    if s.role = 2 then s
    else (used.foldl (fun a n => a.passChannel n k t) s).tapField t

/-- The hold (R164): what the boundary brings takes effect, and the hold's findings latch. -/
def State.fieldHold (s : State) (obs : List WireObs) : State :=
  let k := s.sched.tickNo
  let used := (List.range 64).filter (fun n => s.conn n != 0)
  let s2 : State := used.foldl (fun a n => a.dueRange n k) s.calSettle
  let s3 := if s.role = 2 then s2
    else used.foldl (fun a n => a.holdChannel n k (obs.find? (fun o => o.ch.val == n))) s2
  ({ s3 with fld := { s3.fld with
      lastHold := some s.ltc, swapped := k % 2 == 1, outTick := (List.range 8).map (fun c => s3.convBusy c) } }.wr Reg.FLD_TICK_NO (w32 k)).wf Reg.FLD_STAT
    Fd.FLD_STAT_TICKING 1

/-- The injected request that may use a slot (R177): the first of the converter whose own regular slot has ended, or
whose channel is OFF. -/
def State.injFor (s : State) (c slot : Nat) : Option InjReq :=
  s.fld.inj.find? (fun q => q.ch / 8 == c && q.hold.isNone && (s.conn q.ch == 0 || decide (q.ch % 8 < slot)))

/-- A redundancy check fails: the result carries CALSUB and the converter recovers at once (R184). -/
def State.startRecovery (s : State) (c : Nat) : State :=
  (({ s with fld := { s.fld with recovering := setAt s.fld.recovering c true } }).convCal c).fldBusy

/-- CONVERSION_SLOT (R164, R165, R177, R184): slot `slot` of converter `c` under the last hold, also where a park has begun
since (R16, R24). A free slot starts an injected conversion, which is a hold of its own and not taken while parked; its
result comes with INJECTED_CONVERSION_DONE. -/
def opConversion (c slot : Nat) (code : Int) (bad : Bool) (s : State) : State :=
  match s.fld.lastHold with
  | none => s
  | some h =>
    let t := h + BitVec.ofNat 64 (500 * slot)
    if s.fieldTick = 0 ∨ s.fieldTick / 500 ≤ slot then s
    else
      let s0 := s.advance t
      let n := 8 * c + slot
      if slot < 8 ∧ s0.conn n ≠ 0 then
        if s0.convMode c ≠ 1 ∨ nth s0.fld.outTick c false then s0
        else
          let x := s0.fch n
          let s1 := s0.setFch n { x with conv := some ⟨satS 18 (s0.signalCode n code), x.range, x.ovr⟩, badConv := bad }
          if bad then s1.startRecovery c else s1
      else if s0.parked ∨ s0.convMode c ≠ 1 ∨ s0.convInjRunning c then s0
      else
        match s0.injFor c slot with
        | none => s0
        | some q =>
          let s1 := { s0 with fld := { s0.fld with
            inj := s0.fld.inj.map (fun r => if r = q then { r with hold := some t } else r) } }
          s1.wr (Reg.FCH_INJ_STAT q.ch) (((s1.rd (Reg.FCH_INJ_STAT q.ch)).put Fd.FCH_INJ_STAT_QUEUED 0).put
            Fd.FCH_INJ_STAT_RUNNING 1)

def execConversionSlot (conv : Fin 8) (slot : Nat) (code : Int) (bad : Bool) (s : State) :
    Host.Outcome State Fault Refusal := ok (opConversion conv.val slot code bad s).flushTrig

/-! ### Wire monitors and comparators -/

/-- COMPLIANCE_LATCH (R171): what the monitor of an excited channel sees latches OPEN where it is its condition. -/
def opCompliance (n : Nat) (o : LoopObs) (s : State) : State :=
  if s.role = 2 ∨ !s.loopFound n o then s
  else (s.setFch n { s.fch n with loopBad := true }).latchOpen n 1 none

def execComplianceLatch (o : LoopFind) (s : State) : Host.Outcome State Fault Refusal :=
  ok (opCompliance o.ch.val o.obs s).flushTrig

/-- Comparators hold for 103,125 ticks from now (R190): 1 in their safe states, 2 as they are. The outputs are still to
be formed. -/
def State.startHold (s : State) (n mode : Nat) : State :=
  let s0 := s.cmpKeep n
  let s1 := s0.setFch n { s0.fch n with hold := mode, holdTo := s.ltc + 103125 }
  (s1.wf Reg.FLD_STAT Fd.FLD_STAT_START_HOLD 1).cmpStep n s.ltc

/-- START_HOLD_END (R190): holds whose 100 µs are over end. -/
def opStartHoldEnd (s : State) : State :=
  let s1 := iter 64 (fun n a =>
    let x := a.fch n
    if x.hold ≠ 0 ∧ x.holdTo.toNat ≤ a.ltc.toNat then (a.setFch n { x with hold := 0 }).cmpStep n a.ltc else a) s
  (s1.wf Reg.FLD_STAT Fd.FLD_STAT_START_HOLD (b2n ((List.range 64).any (fun n => (s1.fch n).hold != 0)))).tswUpdate

def execStartHoldEnd (s : State) : Host.Outcome State Fault Refusal := ok (opStartHoldEnd s).flushTrig

/-- COMPARATOR_CROSSING (R185, R189): the input of a channel's limit amplifier now, in 10 V / 2^41. -/
def opCrossing (n : Nat) (v : Int) (s : State) : State := (s.setFch n { s.fch n with lim := v }).cmpRefresh n s.ltc

def execComparatorCrossing (ch : Fin 64) (v : Int) (s : State) : Host.Outcome State Fault Refusal :=
  ok (opCrossing ch.val v s).flushTrig

/-- LATCHED_RELEASE (R187): a 1 releases a latched output whose condition is no longer active. -/
def opLatchedRelease (v : Word) (s : State) : State := (s.wr Reg.THC_LATCHED (s.rd Reg.THC_LATCHED &&& ~~~ v)).tswUpdate

def execLatchedRelease (v : Word) (s : State) : Host.Outcome State Fault Refusal := ok (opLatchedRelease v s)

/-! ### Injected conversions -/

/-- A usable free slot exists for channel n under the running plan (R177). -/
def State.injSlot (s : State) (n : Nat) : Bool :=
  let c := n / 8
  s.fieldTick != 0 && (s.conn n == 0 || decide (8 < s.fieldTick / 500) ||
    (List.range 8).any (fun i => decide (n % 8 < i) && s.conn (8 * c + i) == 0))

/-- A request is refused (R178, R198); a core's refusal is also an outcome that its INJ_STAT shows later (R319). -/
def State.injRefuse (s : State) (tag core err why : Nat) : State :=
  let s1 := s.err 0x18 err
  if core = 0 then s1 else (s1.coreInjRefused (core - 1) tag why).copyCoreInj (core - 1)

/-- Queue an injected request, or refuse it (R178). `core` is the requesting Loupe core plus 1; 0 for a host. -/
def State.injRequest (s : State) (v : Word) (core : Nat) : State :=
  let n := v.get Fd.FLD_INJ_CMD_CH
  let src := v.get Fd.FLD_INJ_CMD_SRC
  if src = 3 then s.err 0x18 Err.FLD_RANGE
  else if s.role = 2 then s
  else if !s.injSlot n then s.injRefuse (v.get Fd.FLD_INJ_CMD_TAG) core Err.INJ_NO_SLOT 1
  else if s.fld.inj.any (fun q => q.ch / 8 == n / 8) then s.injRefuse (v.get Fd.FLD_INJ_CMD_TAG) core Err.INJ_BUSY 2
  else
    let s1 := { s with fld := { s.fld with inj := s.fld.inj ++ [InjReq.mk n (v.get Fd.FLD_INJ_CMD_TAG) src none core] } }
    (s1.wr (Reg.FCH_INJ_STAT n) (((s1.rd (Reg.FCH_INJ_STAT n)).put Fd.FCH_INJ_STAT_QUEUED 1).put
      Fd.FCH_INJ_STAT_DONE 0)).setConvInj (n / 8) true

def execInjCmd (v : Word) (s : State) : Host.Outcome State Fault Refusal := ok (s.injRequest v 0)

/-- The outcome of an injected conversion: result tag, code and range (R178, R183). -/
def State.injOutcomeOf (s : State) (q : InjReq) (code : Int) (ovf : Nat) : InjDone :=
  let x := s.fch q.ch
  let tag := if x.openL ≠ 0 then 4 else if x.shortL ≠ 0 then 5 else if ovf ≠ 0 then 1 + ovf else 0
  let range := if q.src = 0 then x.range else 0
  let fin := if q.src = 0 then s.signalCode q.ch code else code
  ⟨q.ch, q.tag, q.src, q.hold.getD 0, tag, unsigned 18 (satS 18 fin), range, s.changeFrom, q.core⟩

/-- The outcome goes to the partner, and to the Loupe core that asked (R179, R319). -/
def State.sendOutcome (s : State) (q : InjReq) (d : InjDone) : State :=
  let s0 := s.copyItem (.inj d)
  if q.core = 0 then s0
  else (s0.coreInjResult (q.core - 1) q.tag d.resTag (w32 (d.code + 2 ^ 18 * d.range)) (loW d.hold)).copyCoreInj (q.core - 1)

/-- The converter is free of the request that ended, which counts; the outcome shows at once, in a pair at its boundary. -/
def State.endInjected (s : State) (c ch : Nat) (d : InjDone) : State :=
  let s2 := ((s.setConvInj c (s.fld.inj.any (fun r => r.ch / 8 == c))).wr (Reg.FCH_INJ_STAT ch)
    ((s.rd (Reg.FCH_INJ_STAT ch)).put Fd.FCH_INJ_STAT_RUNNING 0)).count Reg.FLD_INJ_COUNT
  if s.paired then { s2 with fld := { s2.fld with done := s2.fld.done ++ [d] } } else s2.showOutcome d

/-- A calibration that waited for an injected conversion starts (R178, R183). -/
def State.deferredCal (s : State) (c : Nat) : State :=
  if s.fld.deferred && s.fld.calTurn == c then
    ({ s with fld := { s.fld with deferred := false } }.wf Reg.FLD_STAT Fd.FLD_STAT_CAL_DEFERRED 0).convCal c
  else s

/-- INJECTED_CONVERSION_DONE (R178, R179, R183, R184): the running injected conversion of a converter completes. Its
outcome shows at once, in a pair at its boundary; a deferred calibration then starts, and after a failed redundancy check
the converter recovers. -/
def opInjDone (c : Nat) (code : Int) (ovf : Nat) (bad : Bool) (s : State) : State :=
  match s.fld.inj.find? (fun q => q.ch / 8 == c && q.hold.isSome) with
  | none => s
  | some q =>
    let d := s.injOutcomeOf q code ovf
    let s1 := (State.sendOutcome { s with fld := { s.fld with inj := s.fld.inj.filter (fun r => r != q) } } q d).endInjected c q.ch d
    (if bad then s1.startRecovery c else s1).deferredCal c

def execInjectedConversionDone (conv : Fin 8) (code : Int) (found : InjFind) (s : State) :
    Host.Outcome State Fault Refusal := ok (opInjDone conv.val code found.ovf.val found.bad s)

/-! ### Calibration -/

/-- FLD_CAL: FLD.CMD CAL with CONV 0 to 7 or 0xF (R181, R195). One converter asked for while the class is busy waits
for its end. -/
def opFldCal (conv : Nat) (s : State) : State :=
  if conv = 15 then
    (if s.mSt mCalFld = 0 then { s with fld := { s.fld with calOne := none } } else s).calTrigger mCalFld
  else if 8 ≤ conv then s.err 0x18 Err.FLD_RANGE
  else if !s.mEnabled mCalFld then s
  else if s.mSt mCalFld = 0 then { s with fld := { s.fld with calOne := some conv } }.mRequest mCalFld
  else if s.fld.calWait.contains conv then s
  else { s with fld := { s.fld with calWait := s.fld.calWait ++ [conv] } }

def execFldCal (conv : Fin 16) (s : State) : Host.Outcome State Fault Refusal := ok (opFldCal conv.val s)

/-- A temperature differs from that of the last calibration by DT or more; DT in 0.25 K, temperatures in 0.01 K (R79,
R181). -/
def dtReached (now cal : Int) (dt : Nat) : Bool := dt != 0 && decide (25 * dt ≤ (now - cal).natAbs)

/-- The temperature trigger of R79 and R181 is a condition: while it holds it starts a rotation whenever none runs or is
queued; one that begins to hold meanwhile asks for the further rotation. DEDUCED (log 133). -/
def State.tempTrigger (s : State) (cls : Nat) (was now : Bool) : Bool := now && (!was || s.mSt cls == 0)

/-- FIELD_RECAL_TRIGGER (R181): the field die temperature is read; a DT that is now reached, or the PERIOD, asks for a
rotation. -/
def opFieldRecal (temp : Int) (s : State) : State :=
  let cal := signed 16 (s.rd Reg.FLD_TEMP_CAL).toNat
  let old := signed 16 (s.rd Reg.FLD_TEMP_NOW).toNat
  let dt := s.rf Reg.FLD_RECAL_CFG Fd.FLD_RECAL_CFG_DT
  let per := s.rf Reg.FLD_RECAL_CFG Fd.FLD_RECAL_CFG_PERIOD
  let s1 := s.wr Reg.FLD_TEMP_NOW (w32 (unsigned 16 (satS 16 temp)))
  let hit := s.tempTrigger mCalFld (dtReached old cal dt) (dtReached temp cal dt) ||
    (per != 0 && s.mSt mCalFld == 0 && decide (per * tickS ≤ s.ltc.toNat - s.fld.calAt.toNat))
  if hit then (if s1.mSt mCalFld = 0 then { s1 with fld := { s1.fld with calOne := none } } else s1).calTrigger mCalFld
  else s1

def execFieldRecalTrigger (temp : Int) (s : State) : Host.Outcome State Fault Refusal := ok (opFieldRecal temp s)

/-- The field calibration activity ends (R181, R182): a rotation counts; what waits follows. -/
def State.fldCalEnd (s : State) : State :=
  let s1 := match s.fld.calOne with
    | some _ => s
    | none => { (s.wr Reg.FLD_TEMP_CAL (s.rd Reg.FLD_TEMP_NOW)).countMod Reg.FLD_CAL_COUNT with
        fld := { s.fld with calAt := s.ltc } }
  let s2 := ((s1.fldBusy).raise 0x18 3).mEnd mCalFld
  match s2.fld.calWait with
  | c :: cs => { s2 with fld := { s2.fld with calOne := some c, calWait := cs } }.mRequest mCalFld
  | [] =>
    if s2.flag Reg.FLD_STAT Fd.FLD_STAT_CAL_PEND then
      ({ s2 with fld := { s2.fld with calOne := none } }.wf Reg.FLD_STAT Fd.FLD_STAT_CAL_PEND 0).mRequest mCalFld
    else s2

/-- FIELD_CONVERTER_CAL_DONE (R182): the converter whose turn it is returns to service; in a rotation the next one's
turn comes, and after the last the rotation ends. -/
def opConvCalDone (s : State) : State :=
  if s.mSt mCalFld ≠ 2 ∨ s.fld.deferred then s
  else
    let c := s.fld.calTurn
    let s1 := if s.convMode c = 3 then s else (s.setConv c s.convRest false).convSettle c
    let next := ((List.range 8).filter (fun d => decide (c < d) && s1.convMode d != 3)).head?
    match s1.fld.calOne, next with
    | none, some d => s1.convTurn d
    | _, _ => s1.fldCalEnd

def execFieldConverterCalDone (s : State) : Host.Outcome State Fault Refusal := ok (opConvCalDone s)

/-- RECOVERY_DONE (R184): a converter's recovery ends well, or fails; the third failure within 1 s puts it out of
service, an earlier one starts the next recovery. -/
def opRecoveryDone (c : Nat) (good : Bool) (s : State) : State :=
  if !nth s.fld.recovering c false then s
  else
    let idle := { s with fld := { s.fld with recovering := setAt s.fld.recovering c false } }
    if good then ((idle.setConv c idle.convRest false).convSettle c).fldBusy
    else
      let fails := s.ltc :: (nth s.fld.failAt c []).filter (fun t => decide (s.ltc.toNat - t.toNat ≤ tickS))
      if 3 ≤ fails.length then
        ((((idle.setConv c 3 false).fldBusy).err 0x18 Err.CONV_FAIL).raise 0x18 5)
      else { s with fld := { s.fld with failAt := setAt s.fld.failAt c fails } }

def execRecoveryDone (conv : Fin 8) (good : Bool) (s : State) : Host.Outcome State Fault Refusal :=
  ok (opRecoveryDone conv.val good s)

/-! ### LSYNC, the notch set and bands -/

/-- A mains dip (R432): its length in ms. -/
def State.mainsDip (s : State) (len : Nat) : State :=
  let ms := satU 16 (len / tickMs)
  ((((s.count Reg.PWR_DIPS).wr Reg.PWR_DIP_LAST (w32 ms)).err 0x2 Err.PWR_DIP).raise 0x2 1).logFault Err.PWR_DIP 0x2 ms

/-- LSYNC is lost or out of range (R204). -/
def State.lsyncBad (s : State) : State :=
  let was := s.flag Reg.FLT_NOTCH Fd.FLT_NOTCH_LOST
  let s1 := (s.wr Reg.FLT_LINE_FREQ 0).wf Reg.FLT_NOTCH Fd.FLT_NOTCH_LOST 1
  if was then s1 else (s1.err 0x19 Err.LSYNC_LOST).raise 0x19 2

/-- The notch set for a frequency in 0.01 Hz, given the set in use (R204). -/
def notchSet (f use : Nat) : Option Nat :=
  let d : Int := (f : Int) - (4000 + 10 * use : Nat)
  if d.natAbs ≤ 7 then none else some (clampI 0 300 (roundDiv ((f : Int) - 4000) 10)).toNat

/-- A frequency measured over 8 cycles, in 0.01 Hz (R204). -/
def lineFreq (ticks : Nat) : Nat := (roundDiv (8 * tickS * 100 : Nat) ticks).toNat

/-- LSYNC_EDGE (R204, R432): a rising edge now. -/
def opLsyncEdge (s : State) : State :=
  let es := (s.ltc :: s.flt.edges).take 10
  let at_ (i : Nat) : Nat := (nth es i 0).toNat
  let s1 := { s with flt := { s.flt with edges := es } }
  let s2 := if es.length = 10 ∧ 5 * (at_ 1 - at_ 9) < 32 * (at_ 0 - at_ 1) then s1.mainsDip (at_ 0 - at_ 1) else s1
  if es.length < 9 then s2
  else
    let f := lineFreq (at_ 0 - at_ 8)
    if f < 4000 ∨ 7000 < f then s2.lsyncBad
    else
      let lost := s2.flag Reg.FLT_NOTCH Fd.FLT_NOTCH_LOST
      let s3 := (s2.wr Reg.FLT_LINE_FREQ (w32 f)).wf Reg.FLT_NOTCH Fd.FLT_NOTCH_LOST 0
      let s4 := if lost then s3.raise 0x19 2 else s3
      let inUse := s4.lastNotch
      if s4.role = 2 ∨ s4.pln.run.isNone ∨ s4.sys.restarting then s4
      else
        match notchSet f inUse with
        | some n => (s4.nextNotch n s4.changeFrom).copyItem (.notch n s4.changeFrom)
        | none => if s4.flt.measured then s4 else (s4.nextNotch inUse s4.changeFrom).copyItem (.notch inUse s4.changeFrom)

def execLsyncEdge (s : State) : Host.Outcome State Fault Refusal := ok (opLsyncEdge s)

/-- LSYNC_LOST (R35, R204, R432): no edge for 50 ms; where none has come at all, 50 ms from the start of the LTC. -/
def opLsyncLost (s : State) : State :=
  match s.flt.edges with
  | [] =>
    if s.ltc.toNat < 50 * tickMs then s
    else if s.flag Reg.FLT_NOTCH Fd.FLT_NOTCH_LOST then s.lsyncBad
    else s.lsyncBad.mainsDip s.ltc.toNat
  | t :: _ =>
    if s.ltc.toNat - t.toNat < 50 * tickMs then s
    else ({ s with flt := { s.flt with edges := [] } }.lsyncBad).mainsDip (s.ltc.toNat - t.toNat)

def execLsyncLost (s : State) : Host.Outcome State Fault Refusal := ok (opLsyncLost s)

/-- The band source's latest VALID value, and when it was formed (R216). -/
def State.bandSource (s : State) : Option Word × Option Time :=
  let cfg := s.rd Reg.FLT_BAND_CFG
  if cfg.get Fd.FLT_BAND_CFG_SRC = 1 then (some s.dieC, some s.ltc)
  else if cfg.get Fd.FLT_BAND_CFG_SRC = 2 then
    let x := s.chain (cfg.get Fd.FLT_BAND_CFG_BAND_CH)
    (x.lastVal, x.validAt)
  else (none, none)

/-- The band after one decision (R216). -/
def State.bandDecide (s : State) (b : Nat) (t : Word) : Nat :=
  let hys := f32Div (f32OfScaled (s.rf Reg.FLT_BAND_CFG Fd.FLT_BAND_CFG_BAND_HYS) 0) (f32OfScaled 10 0)
  if b + 1 < s.bands ∧ f32Le (s.rd (Reg.FLT_BAND_EDGE (b + 1))) t then b + 1
  else if 0 < b ∧ f32Lt t (f32Sub (s.rd (Reg.FLT_BAND_EDGE b)) hys) then b - 1
  else b

/-- BAND_SELECT (R216, R186): every 10 ms Winch reads the source and moves at most one band. -/
def opBandSelect (s : State) : State :=
  let src := s.rf Reg.FLT_BAND_CFG Fd.FLT_BAND_CFG_SRC
  if src = 0 ∨ s.pln.run.isNone ∨ s.role = 2 ∨ s.sys.restarting then s
  else
    let (v, at_) := s.bandSource
    let since := max (at_.getD 0).toNat s.flt.bandAt.toNat
    let lost := decide (since + tickS ≤ s.ltc.toNat)
    let s1 := { s with flt := { s.flt with bandLost := lost } }
    if lost then (if s.flt.bandLost then s1 else s1.err 0x19 Err.BAND_SRC_LOST)
    else
      match v with
      | none => s1
      | some t =>
        let cur := match s1.flt.bandNext with | some (b, _) => b | none => s1.activeBand
        let b := s1.bandDecide cur t
        let s2 := s1.wr Reg.FLT_BAND_T t
        if b = cur then s2
        else
          (((({ s2 with flt := { s2.flt with bandNext := some (b, s2.changeFrom) } }.copyItem (.band b s2.changeFrom)).wf Reg.THC_BAND
            Fd.THC_BAND_NEXT b).wf Reg.THC_BAND Fd.THC_BAND_PEND 1).raise 0x19 3)

def execBandSelect (s : State) : Host.Outcome State Fault Refusal := ok (opBandSelect s)

end Sys2Proof.Machine
end

