-- ==== Sys2Proof/Machine/LoupeLoad.lean ====
section
/-!
DEFINITION. Loading a Loupe core from the running plan: program, data image, registers and repeat length (R299, R300,
R307, R315, R321).
-/

namespace Sys2Proof.Machine

/-- Base of a core's window, and of its data memory (R299). -/
def corePm (c : Nat) : Nat := 0x50000000 + 0x40000 * c
def coreDm (c : Nat) : Nat := corePm c + 0x10000

/-- Field of an instruction word (R303). -/
def insF (w : Word) (lsb width : Nat) : Nat := w.toNat / 2 ^ lsb % 2 ^ width
def insS (w : Word) (lsb width : Nat) : Int := signed width (insF w lsb width)

/-- The words of a core's program in a plan; whether the core has one. -/
def Plan.progLen (p : Plan) (c : Nat) : Nat := (p.tabAt (tabProgLen c)).toNat
def Plan.prog (p : Plan) (c : Nat) : List Word := (List.range (p.progLen c)).map (fun i => p.tabAt (tabProg c i))
def Plan.dataLen (p : Plan) (c : Nat) : Nat := (p.tabAt (tabDataLen c)).toNat

/-- Accesses that may reach a scratch bank in one instruction (R305, R307): a load or store one, FTM three. -/
def scratchUses (w : Word) : Nat :=
  let op := insF w 26 6
  if 0x18 ≤ op ∧ op ≤ 0x1c then 1 else if op = 0x16 then 3 else 0

/-- The plan gives the core a scratch bank (RES 0x03). -/
def Plan.ownsScratch (p : Plan) (c : Nat) : Bool := p.mem.any (fun e => e.res == 3 && e.owner == 0x10 + c)

/-- Repeat length of an RPT word with the words that follow it (R307): LEN × CMAX, and 5 cycles for each access of a
pass that may reach scratch. -/
def repeatLen (scratch : Bool) (w : Word) (rest : List Word) : Nat :=
  let len := insF w 13 9
  let uses := if scratch then ((rest.take len).map scratchUses).sum else 0
  (len + 5 * uses) * insF w 0 13

/-- L_rep, the longest repeat length of a program (R307). -/
def repeatMax (scratch : Bool) : List Word → Nat
  | [] => 0
  | w :: ws =>
    let m := repeatMax scratch ws
    if insF w 26 6 = 0x27 then max m (repeatLen scratch w ws) else m

def Plan.lRep (p : Plan) (c : Nat) : Nat := repeatMax (p.ownsScratch c) (p.prog c)

/-- Load a core from the running plan (R300, R321): registers of its page, program, data image; its own registers are 0,
its counts restart (R491), and init is due. -/
def State.loadCore (s : State) (c : Nat) : State :=
  match s.pln.run with
  | none => s
  | some p =>
    let page := 0x1A0 + c
    let mine (k : Nat) : Bool := decide (k / 0x1000 = page) && decide (0x40 ≤ k % 0x1000)
    let s1 := { s with
      regs := s.regs.filter (fun e => !mine e.1)
      mem := NMap.clear (corePm c) (corePm c + 0x30000) s.mem }
    let s2 := (p.regs.filter (fun e => mine e.1)).foldl (fun (a : State) e => a.wr e.1 e.2) s1
    if p.progLen c = 0 then
      (s2.wr Reg.LPC_LOADED (Word.clrBit (s2.rd Reg.LPC_LOADED) c)).setCore c LpeCore.init
    else
      let s3 := ((p.prog c).zipIdx).foldl (fun (a : State) e => a.wrWord (corePm c + 4 * e.2) e.1) s2
      let s4 := (List.range (p.dataLen c)).foldl (fun (a : State) i =>
        a.wrByte (coreDm c + i) (BitVec.ofNat 8 (p.tabAt (tabData c i)).toNat)) s3
      let r := p.lRep c
      let s5 := ((s4.wr (Reg.LPE_RMAX c) (w32 (r % 2 ^ 14))).wr (Reg.LPE_INT_LAT c) (w32 ((20 + r) % 2 ^ 14))).wr
        Reg.LPC_LOADED (Word.setBit (s4.rd Reg.LPC_LOADED) c)
      s5.setCore c { LpeCore.init with initDue := true }

end Sys2Proof.Machine
end

