-- ==== Sys2Proof/Machine/Loupe.lean ====
section
/-!
DEFINITION. The Loupe cores: items and activations (R308, R309, R312, R314 to R318) and the instruction set (R300 to
R307, R310, R316, R319). A command of an instruction runs the core's next instruction where its OP is the one named.
-/

namespace Sys2Proof.Machine

/-! ### Items and activations -/

/-- Bytes of the queue an item takes (R309). -/
def LpeItem.room (i : LpeItem) : Nat := 16 * ceilDiv i.bytes.length 16
def LpeCore.fill (x : LpeCore) : Nat := (x.queue.map (fun e => e.1.room)).sum

/-- Write an item into the byte ring of a core's queue, or drop it with an OVERRUN of cause QUEUE (R309). No
activation belongs to the item, so ACT and CYCLES of the event are free values. -/
def State.enqueue (s : State) (c : Nat) (it : LpeItem) : State :=
  let x := s.core c
  let size := (s.rd (Reg.LPE_QSIZE c)).toNat
  let base := coreDm c + (s.rd (Reg.LPE_QBASE c)).toNat
  if x.fill + it.room ≤ size ∧ 0 < size then
    let put := (List.range it.bytes.length).foldl
      (fun (a : State) j => a.wrByte (base + (x.qTail + j) % size) (nth it.bytes j 0)) s
    (put.setCore c { x with queue := x.queue ++ [(it, x.qTail)], qTail := (x.qTail + it.room) % size }).keepMax
      (Reg.LPE_QMAX c) (x.fill + it.room)
  else
    let s1 := ((s.count (Reg.LPE_QDROP c)).countOverrun c 7 0).fresh.fresh
    ((s1.coreEvent c 1 255 0 (Config.openWord (s.free + 1)).toNat it
      (overrunData 7 0 (Config.openWord s.free).toNat 0)).raise (0x1a0 + c) 2).err
      (0x1a0 + c) Err.LPE_QDROP

/-- Take the first element that holds `f` out of a list. -/
def takeFirst {α : Type} (f : α → Bool) : List α → Option (α × List α)
  | [] => none
  | a :: as => if f a then some (a, as) else (takeFirst f as).map (fun r => (r.1, a :: r.2))

/-- LOUPE_ITEM_DISPATCH: the dispatcher writes the oldest item of a core into its queue (R308); items of a core whose
program is about to be loaded wait (R321). -/
def opLoupeItemDispatch (s : State) : State :=
  match takeFirst (fun (e : Nat × LpeItem) => !(s.core e.1).reload) s.lpe.disp with
  | none => s
  | some ((c, it), rest) => { s with lpe := { s.lpe with disp := rest } }.enqueue c it

def execLoupeItemDispatch (s : State) : Host.Outcome State Fault Refusal := ok (opLoupeItemDispatch s)

/-- LOUPE_TIMER_ITEM: the core's timer reaches E + i·TPER, the first such instant not yet past (R308). -/
def opLoupeTimerItem (c : Nat) (s : State) : State :=
  let per := (s.rd (Reg.LPE_TPER c)).toNat
  if !s.coreLoaded c || s.parked || per == 0 || (s.rd (Reg.LPE_BUD_TMR c)).toNat % 2 ^ 24 == 0 then s
  else
    let x := s.core c
    let e := s.sched.epoch.toNat
    let i := max x.tmrNext (ceilDiv (s.ltc.toNat - e) per)
    let t : Time := BitVec.ofNat 64 (e + i * per)
    let s1 := (s.advance t).setCore c { x with tmrNext := i + 1, tmrSeq := (x.tmrSeq + 1) % 2 ^ 32 }
    let it : LpeItem := ⟨3, (Rec.mk 0 0x8 (0x300 + c) x.tmrSeq t []).header, srcWord 0x8 (0x300 + c), x.tmrSeq, t⟩
    if x.reload then { s1 with lpe := { s1.lpe with disp := s1.lpe.disp ++ [(c, it)] } } else s1.enqueue c it

def execLoupeTimerItem (core : Fin 16) (s : State) : Host.Outcome State Fault Refusal := ok (opLoupeTimerItem core.val s)

/-- Start an activation with an item, or the init activation without one (R308, R309). -/
def State.activate (s : State) (c : Nat) (it : Option (LpeItem × Nat)) (budget : Nat) : State :=
  let x := s.core c
  let (g1, g2, g3) : Nat × Nat × Nat := match it with
    | some (i, off) => ((s.rd (Reg.LPE_QBASE c)).toNat + off, i.bytes.length, i.type)
    | none => (0, 0, 0)
  let s1 := s.setCore c { x with
    g := setAt (setAt (setAt x.g 1 (w32 g1)) 2 (w32 g2)) 3 (w32 g3),
    ie := 0, ip := 0, tmr := 0, bud := budget, cyc := 0, pc := (s.rd (Reg.LPE_ENTRY c)).toNat % 2 ^ 14,
    running := true, waiting := false, inIrq := false, item := it.map (·.1), events := [], br := none, rpt := none,
    late := [], accOld := none, loadSlot := false, irqAt := [], startAt := s.ltc,
    initDue := x.initDue && it.isSome, actNo := x.acts % 2 ^ 32, acts := x.acts + 1 }
  (s1.countMod (Reg.LPE_ACTS c)).countMod Reg.LPC_ACTS_ALL

/-- An idle core starts init once after plan load, else the oldest item (R308, R309). -/
def opActivationOwn (c : Nat) (s : State) : State :=
  let x0 := s.core c
  if !s.coreLoaded c || x0.running then s
  else if x0.reload && decide (x0.queue = []) then s.loadCore c
  else
  let x := s.core c
  if x.initDue then s.activate c none 65536
  else
    match x.queue with
    | [] => s
    | e :: _ =>
      let r := if e.1.type = 1 then Reg.LPE_BUD_ZONE c else if e.1.type = 2 then Reg.LPE_BUD_CHAN c else Reg.LPE_BUD_TMR c
      s.activate c (some e) ((s.rd r).toNat % 2 ^ 24)

/-- Scratch banks that a core owns under the running plan, as base and size (R398, RES 0x03). -/
def State.coreScratch (s : State) (c : Nat) : List (Nat × Nat) :=
  match s.pln.run with
  | none => []
  | some p => (p.mem.filter (fun e => e.res == 3 && e.owner == 0x10 + c)).map (fun e =>
    (0x10000000 + 0x40000 * e.index, 0x40000))

/-- A core comes into sync at an activation start after all point records: the active hub sends its data memory, its
scratch banks, its registers and queue, and from this activation on the standby runs it (R398). -/
def State.sweepCore (s : State) (c : Nat) : State :=
  let g := s.pai.prog
  let areas := (coreDm c, 0x20000) :: s.coreScratch c
  let s1 := areas.foldl (fun (a : State) r => a.sendLane 1 7 (.bulk (.bytes r.1 r.2
    (a.mem.filter (fun e => decide (r.1 ≤ e.1) && decide (e.1 < r.1 + r.2)))))) s
  let s2 := s1.sendLane 1 7 (.bulk (.core c (s1.core c)))
  { s2 with pai := { s2.pai with prog := { g with cores := c :: g.cores } } }

/-- ACTIVATION_START: in a pair, a standby runs a core once it is in sync (R398). -/
def opActivationStart (c : Nat) (s : State) : State :=
  let wait := s.syncing && !s.pai.prog.cores.contains c
  if s.role = 2 ∧ wait then s
  else if wait && s.syncState == 2 && decide (s.rf Reg.FEN_POINTS Fd.FEN_POINTS_N ≤ s.pai.prog.points) && s.coreLoaded c && !(s.core c).running then
    opActivationOwn c (s.sweepCore c)
  else opActivationOwn c s

def execActivationStart (core : Fin 16) (s : State) : Host.Outcome State Fault Refusal := ok (opActivationStart core.val s)

/-- BUDGET_EXPIRY: BUD is 0 before END, or the core has waited until it is (R312). -/
def opBudgetExpiry (c : Nat) (s : State) : State :=
  let x := s.core c
  if !x.running then s
  else if x.bud = 0 then s.overrun c 1
  else if x.waiting then s.coreIdle c x.bud
  else s

def execBudgetExpiry (core : Fin 16) (s : State) : Host.Outcome State Fault Refusal := ok (opBudgetExpiry core.val s)

/-- The lowest interrupt bit that is enabled and pending (R314). -/
def LpeCore.irqBit (x : LpeCore) : Option Nat :=
  (List.range 3).find? (fun b => x.ie / 2 ^ b % 2 == 1 && x.ip / 2 ^ b % 2 == 1)

/-- INTERRUPT_ENTRY: an enabled pending interrupt is taken where R314 lets it, the lowest bit first; its latency counts
from its IP bit (R314, R315). -/
def opInterruptEntry (c : Nat) (s : State) : State :=
  let x := s.core c
  match x.irqBit with
  | none => s
  | some b =>
    if !x.running || x.ie / 8 % 2 == 0 || x.br.isSome || x.rpt.isSome || x.loadSlot then s
    else
      (s.setCore c { x with
        epc := x.pc, ie := x.ie % 8, pc := (s.rd (Reg.LPE_IVEC c)).toNat % 2 ^ 14, inIrq := true, waiting := false,
        irqAt := x.irqAt.filter (fun e => e.1 != b) }).keepMax (Reg.LPE_LAT_MAX c)
        (match x.irqAt.find? (fun e => e.1 == b) with | some e => x.cyc - e.2 | none => 0)

def execInterruptEntry (core : Fin 16) (s : State) : Host.Outcome State Fault Refusal := ok (opInterruptEntry core.val s)

/-- DMA_DONE: the move ends; DONE and IP bit 0 set (R316). `cycles` is how long a waiting core has waited for it. -/
def opDmaDone (c cycles : Nat) (s : State) : State :=
  match (s.core c).dma with
  | none => s
  | some (src, dst, n) =>
    let s0 := if (s.core c).running && (s.core c).waiting then s.coreIdle c cycles else s
    let s1 := s0.wrBytes dst (s0.rdBytes src n)
    let x := { s1.core c with dma := none, dmaDone := true }
    s1.setCore c (if x.running then x.setIp 0 else x)

def execDmaDone (core : Fin 16) (cycles : Nat) (s : State) : Host.Outcome State Fault Refusal :=
  ok (opDmaDone core.val cycles s)

/-- TMR_EXPIRY: TMR of a waiting core counts down to 0, and IP bit 2 sets (R318). While instructions run, TMR counts
with them. -/
def opTmrExpiry (c : Nat) (s : State) : State :=
  let x := s.core c
  if x.running && x.waiting && x.tmr != 0 && decide (x.tmr ≤ x.bud) then s.coreIdle c x.tmr else s

def execTmrExpiry (core : Fin 16) (s : State) : Host.Outcome State Fault Refusal := ok (opTmrExpiry core.val s)

/-! ### Registers of a core -/

/-- A general register; G0 reads 0 (R300). -/
def LpeCore.gr (x : LpeCore) (n : Nat) : Word := if n = 0 then 0 else nth x.g n 0

/-- Write a general register for the next instruction; an older result still on its way to it is overtaken. -/
def LpeCore.setG (x : LpeCore) (n : Nat) (v : Word) : LpeCore :=
  if n = 0 then x else { x with g := setAt x.g n v, late := x.late.filter (fun e => e.2.1 != n) }

/-- Write a general register for the `k`-th following instruction (R304, R305). -/
def LpeCore.lateG (x : LpeCore) (k n : Nat) (v : Word) : LpeCore :=
  if n = 0 then x else { x with late := x.late ++ [(k, n, v)] }

/-- An accumulator, and its saturating update, which MOVA sees one instruction later (R304). -/
def LpeCore.ac (x : LpeCore) (n : Nat) : Int := nth x.acc n 0
def LpeCore.setAcc (x : LpeCore) (n : Nat) (v : Int) : LpeCore :=
  let lim : Int := 2 ^ 39 - 1
  let r := clampI (-lim) lim v
  { x with acc := setAt x.acc n r, flg := if r = v then x.flg else x.flg ||| 1 }
def LpeCore.accNew (x : LpeCore) (n : Nat) (v : Int) : LpeCore := { x.setAcc n v with accOld := some (n, x.ac n) }

/-- ceil(log2 n). -/
def clog2 (n : Nat) : Nat := if n ≤ 1 then 0 else Nat.log2 (n - 1) + 1

/-- Post-modification by `v` under modulo length `len` (R302). -/
def postMod (ad : Word) (v : Int) (len : Nat) : Word :=
  let r : Int := ad.toNat + v
  if len = 0 then w32 (unsigned 32 r)
  else
    let b : Nat := ad.toNat / 2 ^ clog2 len * 2 ^ clog2 len
    w32 (unsigned 32 (if (b + len : Int) ≤ r then r - len else if r < b then r + len else r))

def LpeCore.modAd (x : LpeCore) (n : Nat) (v : Int) : LpeCore :=
  { x with ad := setAt x.ad n (postMod (nth x.ad n 0) v (nth x.md n 0)) }
def LpeCore.ofs (x : LpeCore) (n : Nat) : Int := signed 32 (nth x.of_ n 0).toNat

/-! ### Addresses -/

/-- The core owns a scratch bank: its OWN byte is 0x10 + c (R301, R405). -/
def State.coreOwns (s : State) (c b : Nat) : Bool := (s.rd (Reg.MEM_OWN (b / 4))).toNat / 2 ^ (8 * (b % 4)) % 256 == 16 + c

def inScratch (a : Nat) : Bool := decide (0x10000000 ≤ a) && decide (a < 0x10800000)
def bankOf (a : Nat) : Nat := (a - 0x10000000) / 0x40000

/-- Place in the address map of `n` bytes at a core's local address, where R301 allows them. -/
def State.coreAddr (s : State) (c a n : Nat) : Option Nat :=
  if a + n ≤ 0x20000 then some (coreDm c + a)
  else if inScratch a && inScratch (a + n - 1) && bankOf a == bankOf (a + n - 1) && s.coreOwns c (bankOf a) then some a
  else none

/-- Cause of the fault of an access of `n` bytes: 3 ACCESS, 4 ALIGN, 0 none (R301, R313). -/
def State.accessFault (s : State) (c a n : Nat) : Nat :=
  if (s.coreAddr c a n).isNone then 3 else if a % n ≠ 0 then 4 else 0

/-- Little-endian number of `n` bytes at a local address, and its store. -/
def State.coreLd (s : State) (c a n : Nat) : Nat := leNat (s.rdBytes ((s.coreAddr c a n).getD 0) n)
def State.coreSt (s : State) (c a n v : Nat) : State := s.wrBytes ((s.coreAddr c a n).getD 0) (leBytes n v)

/-- What a processor load of a scratch word meets (R406): the state with its counts, and the value. -/
def State.coreEcc (s : State) (a : Nat) (e : Ecc) (v : Nat) : State × Nat :=
  if !inScratch a then (s, v)
  else
    match e with
    | .clean => (s, v)
    | .corrected => (s.count Reg.MEM_SCM_CORR, v)
    | _ => (((s.count Reg.MEM_SCM_UNCORR).wr Reg.MEM_LAST_UNCORR (w32 a)).err 0x58 Err.MEM_SCM_UNCORR, 0)

/-! ### One instruction -/

/-- The next instruction word of a core. -/
def State.coreFetch (s : State) (c : Nat) : Word := s.rdWord (corePm c + 4 * (s.core c).pc)

/-- Branches, CALL, JR, RETI, RPT, WAIT and END: not allowed in a delay slot or a repeat body (R306, R307). -/
def isControl (op : Nat) : Bool := decide (0x20 ≤ op) && decide (op ≤ 0x2a)

/-- Stall cycles of an access (R305). -/
def stall (a : Nat) : Nat := if inScratch a then 5 else 0

/-- Address and cycles of a load, a store and FTM; 1 cycle for every other instruction. -/
def LpeCore.memAt (x : LpeCore) (w : Word) : Nat :=
  let n := insF w 19 3
  let ad := nth x.ad n 0
  let m := insF w 17 2
  if m = 0 then unsigned 32 (ad.toNat + insS w 0 16)
  else if m = 3 then unsigned 32 (ad.toNat + x.ofs n)
  else ad.toNat
def LpeCore.cycles (x : LpeCore) (w : Word) : Nat :=
  let op := insF w 26 6
  let ax := (nth x.ad (insF w 21 3) 0).toNat
  if 0x18 ≤ op ∧ op ≤ 0x1c then 1 + stall (x.memAt w)
  else if op = 0x16 then 1 + stall ax + stall ((nth x.ad (insF w 18 3) 0).toNat) + stall (ax + 2)
  else 1

/-- Where the core goes after an instruction: delay slots and repeats count down, results land (R305 to R307). `x` is
the core before, `y` after the instruction's own effect, whose pc is the following address. -/
def LpeCore.retire (x y : LpeCore) (op : Nat) : LpeCore :=
  let aged := y.late.map (fun e => (e.1 - 1, e.2))
  let y1 := { y with
    g := (aged.filter (fun e => e.1 == 0)).foldl (fun g e => setAt g e.2.1 e.2.2) y.g,
    late := aged.filter (fun e => e.1 != 0),
    accOld := if op = 0x11 ∨ op = 0x12 ∨ op = 0x13 ∨ op = 0x16 then y.accOld else none,
    loadSlot := decide (0x18 ≤ op) && decide (op ≤ 0x1a) }
  let y2 : LpeCore := match x.rpt with
    | some (first, last, left) =>
      if x.pc ≠ last then y1
      else if 1 < left then { y1 with pc := first, rpt := some (first, last, left - 1) }
      else { y1 with rpt := none }
    | none => y1
  match x.br with
  | some (t, n) => if n = 1 then { y2 with pc := t, br := none } else { y2 with br := some (t, n - 1) }
  | none => y2

/-- Run `fin` as the instruction `op` of a core that is at such an instruction: not where BUD is spent, and not where
R306 or R307 forbid it. `fin` takes the core before and after its cycles. -/
def State.instrWith (s : State) (c op : Nat) (fin : LpeCore → LpeCore → Word → State) : State :=
  let x := s.core c
  let w := s.coreFetch c
  if !x.running || x.waiting || insF w 26 6 != op then s
  else if x.bud < x.cycles w then (s.setCore c (x.burn x.bud)).overrun c 1
  else if isControl op && (x.br.isSome || x.rpt.isSome) then (s.setCore c (x.burn 1)).overrun c 2
  else fin x (x.burn (x.cycles w)) w

/-- An instruction that faults with a cause or leaves a state and its core, its pc already at the next address. -/
def State.instr (s : State) (c op : Nat) (body : LpeCore → LpeCore → Word → Except Nat (State × LpeCore)) : State :=
  s.instrWith c op (fun x y w =>
    match body x { y with pc := (y.pc + 1) % 2 ^ 14 } w with
    | .error cause => (s.setCore c y).overrun c cause
    | .ok (t, z) => t.setCore c (x.retire z op))

/-- An instruction that only changes the core's registers. -/
def State.instrR (s : State) (c op : Nat) (f : LpeCore → Word → LpeCore) : State :=
  s.instr c op (fun _ y w => .ok (s, f y w))

/-- d = f a b (F1); d = f a imm (F2). -/
def State.instrF1 (s : State) (c op : Nat) (f : Word → Word → Word) : State :=
  s.instrR c op (fun y w => y.setG (insF w 22 4) (f (y.gr (insF w 18 4)) (y.gr (insF w 14 4))))
def State.instrF2 (s : State) (c op : Nat) (f : Word → Word → Word) : State :=
  s.instrR c op (fun y w => y.setG (insF w 22 4) (f (y.gr (insF w 18 4)) w))

def execLpNop (core : Fin 16) (s : State) : Host.Outcome State Fault Refusal := ok (s.instrR core.val 0x00 (fun y _ => y))
def execLpAdd (core : Fin 16) (s : State) : Host.Outcome State Fault Refusal := ok (s.instrF1 core.val 0x01 (· + ·))
def execLpSub (core : Fin 16) (s : State) : Host.Outcome State Fault Refusal := ok (s.instrF1 core.val 0x02 (· - ·))
def execLpAnd (core : Fin 16) (s : State) : Host.Outcome State Fault Refusal := ok (s.instrF1 core.val 0x03 (· &&& ·))
def execLpOr (core : Fin 16) (s : State) : Host.Outcome State Fault Refusal := ok (s.instrF1 core.val 0x04 (· ||| ·))
def execLpXor (core : Fin 16) (s : State) : Host.Outcome State Fault Refusal := ok (s.instrF1 core.val 0x05 (· ^^^ ·))
def execLpSlt (core : Fin 16) (s : State) : Host.Outcome State Fault Refusal :=
  ok (s.instrF1 core.val 0x06 (fun a b => if a.slt b then 1 else 0))
def execLpMin (core : Fin 16) (s : State) : Host.Outcome State Fault Refusal :=
  ok (s.instrF1 core.val 0x07 (fun a b => if a.slt b then a else b))
def execLpMax (core : Fin 16) (s : State) : Host.Outcome State Fault Refusal :=
  ok (s.instrF1 core.val 0x08 (fun a b => if a.slt b then b else a))

/-- ABS: |a|; −2^31 gives 2^31 − 1 and sets SAT. -/
def lpAbs (y : LpeCore) (w : Word) : LpeCore :=
  let a := y.gr (insF w 18 4)
  if a = 0x80000000 then { y.setG (insF w 22 4) 0x7FFFFFFF with flg := y.flg ||| 1 }
  else y.setG (insF w 22 4) (if a.slt 0 then 0 - a else a)
def execLpAbs (core : Fin 16) (s : State) : Host.Outcome State Fault Refusal := ok (s.instrR core.val 0x09 lpAbs)
def execLpAddi (core : Fin 16) (s : State) : Host.Outcome State Fault Refusal :=
  ok (s.instrF2 core.val 0x0a (fun a w => a + w32 (unsigned 32 (insS w 0 18))))
def execLpLui (core : Fin 16) (s : State) : Host.Outcome State Fault Refusal :=
  ok (s.instrF2 core.val 0x0b (fun _ w => w32 (65536 * insF w 0 16)))
def execLpOri (core : Fin 16) (s : State) : Host.Outcome State Fault Refusal :=
  ok (s.instrF2 core.val 0x0c (fun a w => a ||| w32 (insF w 0 16)))
def execLpShl (core : Fin 16) (s : State) : Host.Outcome State Fault Refusal :=
  ok (s.instrF2 core.val 0x0d (fun a w => a <<< insF w 0 5))
def execLpShr (core : Fin 16) (s : State) : Host.Outcome State Fault Refusal :=
  ok (s.instrF2 core.val 0x0e (fun a w => a >>> insF w 0 5))
def execLpSra (core : Fin 16) (s : State) : Host.Outcome State Fault Refusal :=
  ok (s.instrF2 core.val 0x0f (fun a w => a.sshiftRight (insF w 0 5)))

/-- Product of the signed low halfwords. -/
def prodH (a b : Word) : Int := signed 16 a.toNat * signed 16 b.toNat
def LpeCore.prod (y : LpeCore) (w : Word) : Int := prodH (y.gr (insF w 18 4)) (y.gr (insF w 14 4))

def execLpMul (core : Fin 16) (s : State) : Host.Outcome State Fault Refusal :=
  ok (s.instrR core.val 0x10 (fun y w => y.lateG 2 (insF w 22 4) (w32 (unsigned 32 (y.prod w)))))
def execLpMpy (core : Fin 16) (s : State) : Host.Outcome State Fault Refusal :=
  ok (s.instrR core.val 0x11 (fun y w => y.accNew (insF w 24 2) (y.prod w)))
def execLpMac (core : Fin 16) (s : State) : Host.Outcome State Fault Refusal :=
  ok (s.instrR core.val 0x12 (fun y w => y.accNew (insF w 24 2) (y.ac (insF w 24 2) + y.prod w)))
def execLpMsu (core : Fin 16) (s : State) : Host.Outcome State Fault Refusal :=
  ok (s.instrR core.val 0x13 (fun y w => y.accNew (insF w 24 2) (y.ac (insF w 24 2) - y.prod w)))

/-- MOVA: rounded to nearest, ties away from zero, saturated to 32 bits; right behind a multiply it reads the older
value. -/
def lpMova (y : LpeCore) (w : Word) : LpeCore :=
  let n := insF w 20 2
  let v := match y.accOld with
    | some (i, old) => if i = n then old else y.ac n
    | none => y.ac n
  y.setG (insF w 22 4) (w32 (unsigned 32 (satS 32 (roundShr v (insF w 0 5)))))
def execLpMova (core : Fin 16) (s : State) : Host.Outcome State Fault Refusal := ok (s.instrR core.val 0x14 lpMova)
def execLpMovta (core : Fin 16) (s : State) : Host.Outcome State Fault Refusal :=
  ok (s.instrR core.val 0x15 (fun y w => y.setAcc (insF w 24 2) (signed 32 (y.gr (insF w 18 4)).toNat)))

/-- FTM (R302, R304). -/
def opFtm (c : Nat) (ex ey : Ecc) (s : State) : State :=
  s.instr c 0x16 (fun _ y w =>
    let n := insF w 21 3
    let m := insF w 18 3
    let ax := (nth y.ad n 0).toNat
    let ay := (nth y.ad m 0).toNat
    let f (a : Nat) : Nat := s.accessFault c a 2
    if f ax ≠ 0 then .error (f ax)
    else if f ay ≠ 0 then .error (f ay)
    else if f (ax + 2) ≠ 0 then .error (f (ax + 2))
    else
      let (s1, t) := s.coreEcc ax ex (s.coreLd c ax 2)
      let (s2, h) := s1.coreEcc ay ey (s.coreLd c ay 2)
      let y1 := y.accNew (insF w 24 2) (y.ac (insF w 24 2) + signed 16 t * signed 16 h)
      let y2 := y1.modAd n (y1.ofs n)
      .ok (s2.coreSt c (ax + 2) 2 t, y2.modAd m (y2.ofs m)))

def execLpFtm (core : Fin 16) (ex ey : Ecc) (s : State) : Host.Outcome State Fault Refusal := ok (opFtm core.val ex ey s)

/-- Post-modification of a load or store (R302). -/
def LpeCore.postMem (y : LpeCore) (w : Word) : LpeCore :=
  let n := insF w 19 3
  let m := insF w 17 2
  if m = 1 then y.modAd n (insS w 0 16) else if m = 2 then y.modAd n (y.ofs n) else y

/-- A load of `n` bytes; `ext` extends what it reads (R304, R305). -/
def State.load (s : State) (c op n : Nat) (e : Ecc) (ext : Nat → Nat) : State :=
  s.instr c op (fun _ y w =>
    let a := y.memAt w
    if s.accessFault c a n ≠ 0 then .error (s.accessFault c a n)
    else
      let (s1, v) := s.coreEcc a e (s.coreLd c a n)
      .ok (s1, (y.postMem w).lateG 2 (insF w 22 4) (w32 (ext v))))

/-- A store of `n` bytes. -/
def State.storeG (s : State) (c op n : Nat) : State :=
  s.instr c op (fun _ y w =>
    let a := y.memAt w
    if s.accessFault c a n ≠ 0 then .error (s.accessFault c a n)
    else .ok (s.coreSt c a n (y.gr (insF w 22 4)).toNat, y.postMem w))

def execLpLdh (core : Fin 16) (ecc : Ecc) (s : State) : Host.Outcome State Fault Refusal :=
  ok (s.load core.val 0x18 2 ecc (fun v => unsigned 32 (signed 16 v)))
def execLpLdhu (core : Fin 16) (ecc : Ecc) (s : State) : Host.Outcome State Fault Refusal :=
  ok (s.load core.val 0x19 2 ecc (fun v => v))
def execLpLdw (core : Fin 16) (ecc : Ecc) (s : State) : Host.Outcome State Fault Refusal :=
  ok (s.load core.val 0x1a 4 ecc (fun v => v))
def execLpSth (core : Fin 16) (s : State) : Host.Outcome State Fault Refusal := ok (s.storeG core.val 0x1b 2)
def execLpStw (core : Fin 16) (s : State) : Host.Outcome State Fault Refusal := ok (s.storeG core.val 0x1c 4)

/-! ### Control -/

/-- Target of a branch: its own address + off, in instructions (R306). `y.pc` is already the next address. -/
def LpeCore.target (y : LpeCore) (w : Word) : Nat := unsigned 14 ((y.pc : Int) - 1 + insS w 0 18)

/-- A branch, taken or not: its two delay slots follow (R306). -/
def LpeCore.branch (y : LpeCore) (taken : Bool) (t : Nat) : LpeCore :=
  { y with br := some (if taken then t else (y.pc + 2) % 2 ^ 14, 2) }

def State.instrBr (s : State) (c op : Nat) (cond : Word → Word → Bool) : State :=
  s.instrR c op (fun y w => y.branch (cond (y.gr (insF w 22 4)) (y.gr (insF w 18 4))) (y.target w))

def execLpBeq (core : Fin 16) (s : State) : Host.Outcome State Fault Refusal := ok (s.instrBr core.val 0x20 (fun a b => a == b))
def execLpBne (core : Fin 16) (s : State) : Host.Outcome State Fault Refusal := ok (s.instrBr core.val 0x21 (fun a b => a != b))
def execLpBlt (core : Fin 16) (s : State) : Host.Outcome State Fault Refusal := ok (s.instrBr core.val 0x22 (fun a b => a.slt b))
def execLpBge (core : Fin 16) (s : State) : Host.Outcome State Fault Refusal := ok (s.instrBr core.val 0x23 (fun a b => !a.slt b))
def execLpBr (core : Fin 16) (s : State) : Host.Outcome State Fault Refusal := ok (s.instrBr core.val 0x24 (fun _ _ => true))

/-- CALL: the third following instruction sees G15 = own address + 3. -/
def execLpCall (core : Fin 16) (s : State) : Host.Outcome State Fault Refusal :=
  ok (s.instrR core.val 0x25 (fun y w => (y.lateG 3 15 (w32 (y.pc + 2))).branch true (y.target w)))
def execLpJr (core : Fin 16) (s : State) : Host.Outcome State Fault Refusal :=
  ok (s.instrR core.val 0x26 (fun y w => y.branch true ((y.gr (insF w 22 4)).toNat % 2 ^ 14)))

/-- RPT (R307). -/
def opRpt (c : Nat) (s : State) : State :=
  s.instr c 0x27 (fun _ y w =>
    let len := insF w 13 9
    let cmax := insF w 0 13
    let want := signed 32 (y.gr (insF w 22 4)).toNat
    let n : Nat := if insF w 22 4 = 0 then cmax else (clampI 0 cmax want).toNat
    let y1 := if insF w 22 4 ≠ 0 ∧ (n : Int) ≠ want then { y with flg := y.flg ||| 2 } else y
    if 256 < len then .error 2
    else if len = 0 then .ok (s, y)
    else if n = 0 then .ok (s, { y1 with pc := (y1.pc + len) % 2 ^ 14 })
    else .ok (s, { y1 with rpt := some (y1.pc, (y1.pc + len - 1) % 2 ^ 14, n) }))

def execLpRpt (core : Fin 16) (s : State) : Host.Outcome State Fault Refusal := ok (opRpt core.val s)

/-- END: the activation ends; its events are pushed in order, and its item's space is free (R309 to R311). -/
def opEnd (c : Nat) (s : State) : State :=
  s.instrWith c 0x28 (fun _ y _ =>
    let s1 := (s.setCore c (y.close s.ltc)).keepMax (Reg.LPE_CYC_MAX c) y.cyc
    y.events.foldl (fun (a : State) e =>
      (a.coreEvent c e.2.1 e.1 (b2n y.item.isNone) y.actNo (y.item.getD noItem) e.2.2).countMod (Reg.LPE_EMITS c)) s1)

def execLpEnd (core : Fin 16) (s : State) : Host.Outcome State Fault Refusal := ok (opEnd core.val s)

/-- WAIT: idle until an interrupt that IE enables is pending. -/
def lpWait (y : LpeCore) (_ : Word) : LpeCore :=
  { y with waiting := y.irqBit.isNone }
def execLpWait (core : Fin 16) (s : State) : Host.Outcome State Fault Refusal := ok (s.instrR core.val 0x29 lpWait)
def execLpReti (core : Fin 16) (s : State) : Host.Outcome State Fault Refusal :=
  ok (s.instrR core.val 0x2a (fun y _ => { y.branch true y.epc with ie := y.ie % 8 + 8, inIrq := false }))

/-! ### System -/

/-- EMIT (R310, R313). -/
def opEmit (c : Nat) (s : State) : State :=
  s.instr c 0x30 (fun _ y w =>
    let a := (y.gr (insF w 22 4)).toNat
    let b := (y.gr (insF w 18 4)).toNat
    let len := b % 65536
    let stream := insF w 10 8
    if 16 ≤ y.events.length ∨ b / 65536 < 0x100 ∨ stream = 255 ∨ 224 < len then .error 5
    else if 0x20000 < a + len then .error 3
    else .ok (s, { y with events := y.events ++ [(stream, b / 65536, s.rdBytes (coreDm c + a) len)] }))

def execLpEmit (core : Fin 16) (s : State) : Host.Outcome State Fault Refusal := ok (opEmit core.val s)

/-- DMOV (R316). -/
def opDmov (c : Nat) (s : State) : State :=
  s.instr c 0x31 (fun _ y w =>
    let a := (y.gr (insF w 22 4)).toNat
    let b := (y.gr (insF w 18 4)).toNat
    let n := (y.gr (insF w 14 4)).toNat
    if y.dma.isSome then .error 6
    else if n = 0 then .ok (s, { y with dmaDone := true }.setIp 0)
    else if n % 16 ≠ 0 ∨ inScratch a = inScratch b then .error 6
    else
      match s.coreAddr c a n, s.coreAddr c b n with
      | some p, some q => .ok (s, { y with dma := some (p, q, n), dmaDone := false })
      | _, _ => .error 6)

def execLpDmov (core : Fin 16) (s : State) : Host.Outcome State Fault Refusal := ok (opDmov core.val s)

/-- An I/O register read (R318). -/
def LpeCore.ioRead (x : LpeCore) (c i : Nat) : Word :=
  if i = 0 then w32 x.ie else if i = 1 then w32 x.ip else if i = 2 then w32 x.tmr
  else if i = 3 then w32 (b2n x.dma.isSome + 2 * b2n x.dmaDone)
  else if i = 5 then w32 (x.injStat.toNat / 2 * 2 + b2n x.injPend)
  else if i = 6 then x.injCode else if i = 7 then x.injLtc else if i = 8 then w32 c else 0

def execLpIor (core : Fin 16) (s : State) : Host.Outcome State Fault Refusal :=
  ok (s.instr core.val 0x32 (fun x y w => .ok (s, y.setG (insF w 22 4) (x.ioRead core.val (insF w 0 6)))))

/-- A write to INJ_CMD (R319): one request of a core at a time; on a standby it is not performed, and its outcome
comes with the copy (R320). -/
def State.coreInj (s : State) (c : Nat) (y : LpeCore) (v : Word) : State × LpeCore :=
  if y.injPend then (s, { y with injStat := y.injStat.put ⟨2, 2⟩ 2 })
  else if v.get Fd.FLD_INJ_CMD_SRC = 3 then (s.err 0x18 Err.FLD_RANGE, y)
  else
    let y1 := { y with injPend := true, injStat := injOutcome false 0 (v.get Fd.FLD_INJ_CMD_TAG) 0 }
    let s1 := (s.setCore c y1).injRequest v (c + 1)
    (s1, s1.core c)

/-- An I/O register write (R318). -/
def opIow (c : Nat) (s : State) : State :=
  s.instr c 0x33 (fun _ y w =>
    let v := y.gr (insF w 22 4)
    let i := insF w 0 6
    if i = 0 then .ok (s, { y with ie := v.toNat % 16 })
    else if i = 1 then
      .ok (s, { y with ip := (w32 y.ip &&& ~~~ v).toNat, irqAt := y.irqAt.filter (fun e => v.toNat / 2 ^ e.1 % 2 == 0) })
    else if i = 2 then .ok (s, { y with tmr := v.toNat })
    else if i = 4 then .ok (s.coreInj c y v)
    else .ok (s, y))

def execLpIow (core : Fin 16) (s : State) : Host.Outcome State Fault Refusal := ok (opIow core.val s)

/-- A special register (R300); `open_` is what an index without a register reads. -/
def LpeCore.special (x : LpeCore) (i : Nat) (open_ : Word) : Word :=
  if i < 8 then nth x.ad i 0 else if i < 0x10 then nth x.of_ (i - 8) 0 else if i < 0x18 then w32 (nth x.md (i - 16) 0)
  else if i = 0x18 then w32 x.flg else if i = 0x19 then w32 x.cyc else if i = 0x1a then w32 x.bud
  else if i = 0x1b then w32 x.epc else if i = 0x1c then w32 (match x.rpt with | some (_, _, n) => n | none => 0)
  else open_

/-- MOVS; an index that R300 does not list reads a free value. -/
def opMovs (c : Nat) (s : State) : State :=
  s.instr c 0x34 (fun x y w =>
    .ok (if insF w 17 5 ≤ 0x1c then s else s.fresh, y.setG (insF w 22 4) (x.special (insF w 17 5) (Config.openWord s.free))))

def execLpMovs (core : Fin 16) (s : State) : Host.Outcome State Fault Refusal := ok (opMovs core.val s)

/-- MOVTS; CYC, BUD and LC are read-only (R300). -/
def lpMovts (y : LpeCore) (w : Word) : LpeCore :=
  let v := y.gr (insF w 22 4)
  let i := insF w 17 5
  if i < 8 then { y with ad := setAt y.ad i v }
  else if i < 0x10 then { y with of_ := setAt y.of_ (i - 8) v }
  else if i < 0x18 then { y with md := setAt y.md (i - 16) (v.toNat % 2 ^ 17) }
  else if i = 0x18 then { y with flg := v.toNat % 4 }
  else if i = 0x1b then { y with epc := v.toNat % 2 ^ 14 }
  else y
def execLpMovts (core : Fin 16) (s : State) : Host.Outcome State Fault Refusal := ok (s.instrR core.val 0x35 lpMovts)

/-- OPs that the table lists (R304). -/
def listedOp (op : Nat) : Bool :=
  op ≤ 0x16 || (0x18 ≤ op && op ≤ 0x1c) || (0x20 ≤ op && op ≤ 0x2a) || (0x30 ≤ op && op ≤ 0x35)

/-- ILLEGAL_INSTRUCTION: the core is at an instruction that R304, R306 or R307 forbids (R313). -/
def opIllegal (c : Nat) (s : State) : State :=
  let x := s.core c
  let w := s.coreFetch c
  let op := insF w 26 6
  if !x.running || x.waiting then s
  else if listedOp op && !(isControl op && (x.br.isSome || x.rpt.isSome)) && !(op == 0x27 && decide (256 < insF w 13 9)) then s
  else if x.bud = 0 then s.overrun c 1
  else (s.setCore c (x.burn 1)).overrun c 2

def execIllegalInstruction (core : Fin 16) (s : State) : Host.Outcome State Fault Refusal := ok (opIllegal core.val s)

end Sys2Proof.Machine
end

