-- ==== Sys2Proof/Machine/Ofe.lean ====
section
/-!
DEFINITION. The optical head interface: pulses, laser enable and interlock, head SPI, converter calibration (R56 to R83).
-/

namespace Sys2Proof.Machine

/-! ### Balls -/

/-- Codes of the head's balls in `Out.pin`. -/
abbrev pinLasEn : Nat := 0
abbrev pinOswSel : Nat := 1
abbrev pinRmnTrig : Nat := 2

/-- Drive LAS_EN (R67 to R71). -/
def State.setLasEn (s : State) (v : Bool) : State :=
  if s.flag Reg.OFE_STAT Fd.OFE_STAT_LAS_EN = v then s
  else
    ({ s with ofe := { s.ofe with enAt := if v then some s.ltc else none } }.wf Reg.OFE_STAT Fd.OFE_STAT_LAS_EN
      (b2n v)).emitOut (.pin pinLasEn (b2n v) s.ltc)

/-- Drive OSW_SEL (R77). -/
def State.setOsw (s : State) (v : Bool) : State :=
  if s.flag Reg.OFE_STAT Fd.OFE_STAT_OSW_SEL = v then s
  else (s.wf Reg.OFE_STAT Fd.OFE_STAT_OSW_SEL (b2n v)).emitOut (.pin pinOswSel (b2n v) s.ltc)

/-- The running plan schedules shots (R67). -/
def State.schedulesShots (s : State) : Bool := s.hasSection 2 && s.shotPeriod != 0

/-- The plan whose head script and laser enable are in force (R67, R76, R427): the running one, and while a start loads its
plan that plan, once its FIBRE section is there. -/
def State.headPlan (s : State) : Option Plan := s.pln.run <|> s.pln.loading.map (·.2)

/-- That plan schedules shots (R67). -/
def State.headShots (s : State) : Bool :=
  match s.headPlan with
  | some p => p.sections.contains 2 && p.shotPeriod != 0
  | none => false

/-- LAS_EN may be high (R67, R70, R71). -/
def State.lasAllowed (s : State) : Bool :=
  s.headShots && s.flag Reg.OFE_STAT Fd.OFE_STAT_SCRIPT_OK && !s.flag Reg.OFE_STAT Fd.OFE_STAT_ILK &&
    !s.flag Reg.OFE_STAT Fd.OFE_STAT_LAS_HELD && !s.ofe.ilkHold

/-- Bring LAS_EN to what R67, R70 and R71 allow. -/
def State.lasUpdate (s : State) : State := s.setLasEn s.lasAllowed

/-- A shot whose boundary is now launches (R66, R67, R68, R71); only an active or standalone hub launches (R385). -/
def State.launches (s : State) : Bool :=
  s.schedulesShots && s.drives && s.flag Reg.OFE_STAT Fd.OFE_STAT_LAS_EN &&
    s.flag Reg.OFE_STAT Fd.OFE_STAT_LAS_READY && !s.flag Reg.OFE_STAT Fd.OFE_STAT_ILK

/-- A launch at L falls into the interruption of a takeover and is not performed (R32). -/
def State.quiet (s : State) (L : Time) : Bool := decide (L.toNat < s.pai.quietTo.toNat)

/-! ### Pulses -/

/-- Parts of the head delay (R58). -/
def State.dTx (s : State) : Nat := s.rf Reg.OFE_HEAD_DELAY Fd.OFE_HEAD_DELAY_DELAY / 2
def State.dRx (s : State) : Nat := s.rf Reg.OFE_HEAD_DELAY Fd.OFE_HEAD_DELAY_DELAY - s.dTx

/-- The waveform of a slot (R64) and its length in sample pairs. -/
def State.waveOf (s : State) (slot : Nat) : Nat := (s.rd Reg.OFE_WAVE_SEL).get ⟨4 * slot, 4⟩
def State.waveLen (s : State) (slot : Nat) : Nat := s.rf (Reg.OFE_WAVE_DIR (s.waveOf slot)) Fd.OFE_WAVE_DIR_LEN

/-- The sample pairs of a slot's waveform (R63, R64). -/
def State.waveData (s : State) (j : Nat) : List Word :=
  match s.pln.run with
  | none => []
  | some p =>
    let st := s.rf (Reg.OFE_WAVE_DIR (s.waveOf j)) Fd.OFE_WAVE_DIR_START
    (List.range (s.waveLen j)).map (fun i => p.tabAt (tabWave (st + i)))

/-- Mode of the engine (R86): 0 S, 1 D, 2 Q-diverse, 3 Q-stagger. -/
def State.fenMode (s : State) : Nat := s.rf Reg.FEN_CFG Fd.FEN_CFG_MODE

/-- Launch LTC of slot j of the shot whose boundary comes next, or for j > 0 of the shot in progress (R61). -/
def State.slotLaunch (s : State) (j : Nat) : Time :=
  if j = 0 then s.atPeriod s.sched.shotNo s.shotPeriod
  else s.atPeriod (s.sched.shotNo - 1) s.shotPeriod + BitVec.ofNat 64 (j * (s.shotPeriod / 4))

/-- The level of both pulse DACs is idle at an instant (R56, R65): no pulse is playing. -/
def State.dacIdle (s : State) : Bool :=
  match s.ofe.pulseTo with
  | some t => decide (t.toNat ≤ s.ltc.toNat)
  | none => true

/-- The code that sets the full scale: a pulse completes at the one it began with (R490). -/
def State.dacFs (s : State) : Nat := if s.dacIdle then s.rf Reg.OFE_DAC_FS Fd.OFE_DAC_FS_FS else s.ofe.pulseFs

/-- Full-scale current of the DACs in 0.01 mA (R65). -/
def State.dacFullScale (s : State) : Nat := 1000 + 2 * s.dacFs

/-! ### Head SPI -/

/-- CRC-8 of R74, over bytes. -/
def crc8Byte (c : Nat) (b : Byte) : Nat :=
  iter 8 (fun _ a => if a < 128 then 2 * a else (2 * a % 256) ^^^ 0x07) (c ^^^ b.toNat)
def crc8 (bs : List Byte) : Nat := bs.foldl crc8Byte 0

/-- The bytes of a command phase (R74). -/
def State.hspiBytes (s : State) (tx : List Byte) : List Byte :=
  if s.flag Reg.OFE_HEAD_CFG Fd.OFE_HEAD_CFG_HSPI_CHK then tx ++ by1 (crc8 tx) else tx

/-- Send the command phase of a transaction's attempt. -/
def State.hspiSend (s : State) (t : HspiTx) : State :=
  ({ s with ofe := { s.ofe with hspi := some t } }.wf Reg.OFE_STAT Fd.OFE_STAT_HSPI_BUSY 1).emitOut
    (.hspi (s.hspiBytes t.tx))

/-- Write HSPI_RESULT. -/
def State.hspiResult (s : State) (status attempts done : Nat) : State :=
  s.wr Reg.OFE_HSPI_RESULT (w32 (status + 4 * attempts + 16 * done))

/-- The bytes of HSPI_TX0 to HSPI_TX7. -/
def State.hspiTx (s : State) : List Byte := (List.range 8).flatMap (fun i => wordBytes (s.rd (Reg.OFE_HSPI_TX i)))

/-- HSPI_GO (R73, R76). -/
def opHspiGo (s : State) : State :=
  let tx := s.rf Reg.OFE_HSPI_LEN Fd.OFE_HSPI_LEN_TX_LEN
  let rx := s.rf Reg.OFE_HSPI_LEN Fd.OFE_HSPI_LEN_RX_LEN
  if s.flag Reg.OFE_STAT Fd.OFE_STAT_HSPI_BUSY then
    (s.wf Reg.OFE_HSPI_RESULT Fd.OFE_HSPI_RESULT_STATUS 3).err 0x10 Err.HSPI_BUSY
  else if tx = 0 ∧ rx = 0 then (s.hspiResult 0 0 1).raise 0x10 2
  else (s.wf Reg.OFE_HSPI_RESULT Fd.OFE_HSPI_RESULT_DONE 0).hspiSend ⟨s.hspiTx.take tx, rx, 1, false⟩

def execHspiGo (s : State) : Host.Outcome State Fault Refusal := ok (opHspiGo s)

/-- The head script completes (R67, R76). -/
def State.scriptDone (s : State) : State :=
  ({ s with ofe := { s.ofe with hspi := none, script := [] } }.wr Reg.OFE_STAT
    (((s.rd Reg.OFE_STAT).put Fd.OFE_STAT_HSPI_BUSY 0).put Fd.OFE_STAT_SCRIPT_OK 1)).lasUpdate

/-- Run the head script's remaining transactions; one that drives nothing is over at once (R73, R76). -/
def State.scriptNext (s : State) : List ScriptEnt → State
  | [] => s.scriptDone
  | e :: es =>
    if e.tx = 0 ∧ e.rx = 0 then s.scriptNext es
    else { s with ofe := { s.ofe with script := es } }.hspiSend ⟨e.cmd, e.rx, 1, true⟩

/-- Run the plan's head script (R67, R76). -/
def State.runScript (s : State) : State :=
  match s.headPlan with
  | some p => if s.headShots then s.scriptNext p.script else s
  | none => s

/-- The head script of a plan that starts (R67, R76): a transaction in progress completes first. -/
def State.startScript (s : State) : State :=
  match s.headPlan with
  | none => s
  | some p =>
    if !s.headShots then s
    else
      match s.ofe.hspi with
      | none => s.runScript
      | some t =>
        if t.script then { s with ofe := { s.ofe with script := p.script } }
        else if p.script = [] then (s.wf Reg.OFE_STAT Fd.OFE_STAT_SCRIPT_OK 1).lasUpdate
        else { s with ofe := { s.ofe with script := p.script } }

/-- SCRIPT: OFE.CMD SCRIPT (R76); refused while a transaction or a script runs. -/
def opScript (s : State) : State :=
  if s.flag Reg.OFE_STAT Fd.OFE_STAT_HSPI_BUSY then s.err 0x10 Err.HSPI_BUSY else s.runScript

def execHeadScript (s : State) : Host.Outcome State Fault Refusal := ok (opScript s)

/-- A transaction ends with a status (R75, R76): its result, and for a script the next transaction or the end. -/
def State.hspiEnd (s : State) (t : HspiTx) (status : Nat) : State :=
  let idle := { s with ofe := { s.ofe with hspi := none } }
  if t.script then
    let done := idle.hspiResult status t.attempt 1
    if status = 0 then done.scriptNext s.ofe.script
    else
      (({ done with ofe := { done.ofe with script := [] } }.wr Reg.OFE_STAT
        (((done.rd Reg.OFE_STAT).put Fd.OFE_STAT_HSPI_BUSY 0).put Fd.OFE_STAT_SCRIPT_OK 0)).err 0x10
        Err.HEAD_SPI).lasUpdate
  else
    let s1 := ((idle.wf Reg.OFE_STAT Fd.OFE_STAT_HSPI_BUSY 0).hspiResult status t.attempt 1)
    let s2 := (if status = 0 then s1 else s1.err 0x10 Err.HEAD_SPI).raise 0x10 2
    if s2.ofe.script = [] then s2 else s2.scriptNext s2.ofe.script

/-- The reply's bytes enter HSPI_RX0 upward as they are read (R73); the bytes beyond them stay. -/
def State.hspiKeep (s : State) (body : List Byte) : State :=
  iter 8 (fun i (a : State) =>
    if 4 * i < body.length then
      a.wr (Reg.OFE_HSPI_RX i) (w32 (leNat ((body.drop (4 * i)).take 4 ++
        (wordBytes (a.rd (Reg.OFE_HSPI_RX i))).drop (body.length - 4 * i))))
    else a) s

/-- HSPI_TRANSACTION_DONE (R73 to R75): the reply after the start byte, with its CRC-8 byte where HSPI_CHK is 1. -/
def opHspiDone (reply : List Byte) (s : State) : State :=
  match s.ofe.hspi with
  | none => s
  | some t =>
    let body := sliceB reply 0 t.rx
    let good := t.rx = 0 ∨ s.rf Reg.OFE_HEAD_CFG Fd.OFE_HEAD_CFG_HSPI_CHK = 0 ∨ byteAt reply t.rx = crc8 body
    let s1 := if t.script then s else s.hspiKeep body
    if good then s1.hspiEnd t 0
    else if t.attempt = 1 then s1.hspiSend { t with attempt := 2 }
    else s1.hspiEnd t 2

def execHspiTransactionDone (reply : List Byte) (s : State) : Host.Outcome State Fault Refusal := ok (opHspiDone reply s)

/-- HSPI_START_BYTE_TIMEOUT (R75). -/
def opHspiTimeout (s : State) : State :=
  match s.ofe.hspi with
  | none => s
  | some t =>
    if t.rx = 0 then s
    else if t.attempt = 1 then s.hspiSend { t with attempt := 2 }
    else s.hspiEnd t 1

def execHspiStartByteTimeout (s : State) : Host.Outcome State Fault Refusal := ok (opHspiTimeout s)

/-! ### Laser and interlock -/

/-- LAS_ON (R70, R71): at once, or held until the interlock is released. -/
def opLasOn (s : State) : State :=
  if s.flag Reg.OFE_STAT Fd.OFE_STAT_ILK then { s with ofe := { s.ofe with lasOnHeld := true } }
  else ({ s with ofe := { s.ofe with ilkHold := false } }.wf Reg.OFE_STAT Fd.OFE_STAT_LAS_HELD 0).lasUpdate

def execLasOn (s : State) : Host.Outcome State Fault Refusal := ok (opLasOn s)

/-- LAS_OFF (R71). -/
def opLasOff (s : State) : State :=
  ({ s with ofe := { s.ofe with lasOnHeld := false } }.wf Reg.OFE_STAT Fd.OFE_STAT_LAS_HELD 1).lasUpdate

def execLasOff (s : State) : Host.Outcome State Fault Refusal := ok (opLasOff s)

/-- RMN_TRIG falls now if it is high. -/
def State.dropTrig (s : State) : State :=
  match s.ofe.trigTo with
  | some t =>
    let s1 := { s with ofe := { s.ofe with trigTo := none } }
    if s.ltc.toNat < t.toNat then s1.emitOut (.pin pinRmnTrig 0 s.ltc) else s1
  | none => s

/-- The shot in progress (R61). -/
def State.shotNow (s : State) : Nat := s.sched.shotNo - 1

/-- Set a flag bit of an interval's record. -/
def RmnInt.flag (i : RmnInt) (bit : Nat) : RmnInt :=
  if i.flags / 2 ^ bit % 2 = 1 then i else { i with flags := i.flags + 2 ^ bit }

/-- Shot n becomes dark while its Raman window is in progress: the Raman path does not accumulate it (R66, R142). A window
that has ended stays accumulated. DESIGN CHOICE (log 139). -/
def State.darkenRaman (s : State) (n : Nat) : State :=
  match s.tmp.shot with
  | some (m, _) =>
    if m = n ∧ !s.ofe.dark then
      { s with
        tmp := { s.tmp with cur := s.tmp.cur.flag 0 }
        ofe := { s.ofe with dark := true } }.count Reg.TMP_MISSED
    else s
  | none => s

/-- Shot n becomes dark after its launch (R66): its points carry quality 0 from here on. -/
def State.darkenShot (s : State) (n : Nat) : State :=
  let dim (r : FibRun) : FibRun := if r.shotNo = n then { r with dark := true, intDark := true } else r
  let s1 := s.darkenRaman n
  { s1 with
    fib := { s1.fib with cur := dim s1.fib.cur, older := s1.fib.older.map dim }
    ofe := { s1.ofe with dark := true } }

/-- The interlock that is accepted now makes the shot in progress dark: it truncates its pulse, or in Q-stagger keeps a
pulse of it from being played (R66, R69). A pulse of the shot to come darkens that shot at its own boundary. -/
def State.ilkCuts (s : State) : Bool :=
  match s.ofe.pulse with
  | some (n, j) => !s.ofe.dark && n + 1 == s.sched.shotNo && (!s.dacIdle || (s.fenMode == 3 && decide (j < 3)))
  | none => false

/-- ILK_ACCEPT (R66, R69): the interlock is accepted now: blanking, LAS_EN and RMN_TRIG low; a truncated pulse makes
its shot dark. -/
def opIlkAccept (s : State) : State :=
  if s.flag Reg.OFE_STAT Fd.OFE_STAT_ILK then s
  else
    let s1 := ((s.wf Reg.OFE_STAT Fd.OFE_STAT_ILK 1).lasUpdate).dropTrig
    let s2 : State := if s.ilkCuts then (s1.darkenShot s1.shotNow).count Reg.OFE_DARK_SHOTS else s1
    let s3 := { s2 with ofe := { s2.ofe with pulseTo := none } }
    ((s3.count Reg.OFE_ILK_COUNT).err 0x10 Err.HEAD_ILK).raise 0x10 0

def execIlkAccept (s : State) : Host.Outcome State Fault Refusal := ok (opIlkAccept s)

/-- ILK_RELEASE (R70): HEAD_ILK_N has been high for 1 ms. -/
def opIlkRelease (s : State) : State :=
  if !s.flag Reg.OFE_STAT Fd.OFE_STAT_ILK then s
  else
    let s1 := s.wf Reg.OFE_STAT Fd.OFE_STAT_ILK 0
    let s2 : State := if s1.ofe.lasOnHeld then
        { s1 with ofe := { s1.ofe with lasOnHeld := false, ilkHold := false } }.wf Reg.OFE_STAT Fd.OFE_STAT_LAS_HELD 0
      else { s1 with ofe := { s1.ofe with ilkHold := s1.rf Reg.OFE_HEAD_CFG Fd.OFE_HEAD_CFG_ILK_AUTO == 0 } }
    s2.lasUpdate

def execIlkRelease (s : State) : Host.Outcome State Fault Refusal := ok (opIlkRelease s)

/-- HEAD_NOT_READY (R67, R68). -/
def State.notReady (s : State) : State := (s.err 0x10 Err.HEAD_NOT_READY).raise 0x10 1

/-- LAS_STAT_RISE (R67, R68). -/
def opLasRise (s : State) : State := s.wf Reg.OFE_STAT Fd.OFE_STAT_LAS_READY 1

def execLasStatRise (s : State) : Host.Outcome State Fault Refusal := ok (opLasRise s)

/-- LAS_STAT_FALL (R68). -/
def opLasFall (s : State) : State :=
  if s.flag Reg.OFE_STAT Fd.OFE_STAT_LAS_READY then (s.wf Reg.OFE_STAT Fd.OFE_STAT_LAS_READY 0).notReady else s

def execLasStatFall (s : State) : Host.Outcome State Fault Refusal := ok (opLasFall s)

/-- LAS_STAT_TIMEOUT (R67): not ready within 100 ms of LAS_EN. -/
def opLasTimeout (s : State) : State :=
  if s.flag Reg.OFE_STAT Fd.OFE_STAT_LAS_EN && !s.flag Reg.OFE_STAT Fd.OFE_STAT_LAS_READY then s.notReady else s

def execLasStatTimeout (s : State) : Host.Outcome State Fault Refusal := ok (opLasTimeout s)

/-! ### Converter calibration -/

/-- ELEM_RX or ELEM_RMN of a converter: element under calibration, idle spare that the next calibration takes (R77). -/
def Elems.view (e : Elems) : Nat := (e.cal.getD 15) + 16 * (e.spares.head?.getD 15)

/-- ELEM_RX and ELEM_RMN as read. -/
def State.elemRx (s : State) : Word :=
  w32 ((List.range 4).foldl (fun a c => a + ((s.ofe.elems[c]?).map Elems.view).getD 0 * 256 ^ c) 0)
def State.elemRmn (s : State) : Word := w32 (((s.ofe.elems[4]?).map Elems.view).getD 0)

def State.setElems (s : State) (c : Nat) (e : Elems) : State :=
  { s with ofe := { s.ofe with elems := setAt s.ofe.elems c e } }

/-- A request for a rotation, or a further one while it runs or waits (R79). -/
def State.rxRecal (s : State) : State := s.calTrigger mCalRx

/-- RECAL: OFE.CMD RECAL (R79). -/
def execOfeRecal (s : State) : Host.Outcome State Fault Refusal := ok s.rxRecal

/-- Take the next element of a converter under calibration (R80, R81): the one just exchanged, else another spare that
has not been calibrated; without one its part of the rotation is over. -/
def State.elemNext (s : State) (c : Nat) (last : Option Nat) : State :=
  match s.ofe.elems[c]? with
  | none => s
  | some e =>
    let todo := e.spares.filter (fun x => !e.done.contains x)
    let pick := match last with
      | some x => if todo.contains x then some x else todo.head?
      | none => todo.head?
    match pick with
    | some x => s.setElems c { e with cal := some x, spares := e.spares.filter (fun y => y != x) }
    | none =>
      let s1 := s.setElems c { e with cal := none, active := false }
      if e.spares = [] then s1.err 0x10 Err.CAL_NO_SPARE else s1

/-- The rotation ends once no converter works on it (R80); one that was asked for meanwhile follows (R79). -/
def State.rotationCheck (s : State) : State :=
  if s.mSt mCalRx ≠ 2 ∨ s.ofe.elems.any (fun e => e.active) then s
  else
    let s1 := (s.rxRotDone).mEnd mCalRx
    if s1.flag Reg.OFE_STAT Fd.OFE_STAT_CAL_PEND then
      (s1.wf Reg.OFE_STAT Fd.OFE_STAT_CAL_PEND 0).mRequest mCalRx
    else s1

/-- Exchange the calibrated element of a converter for the one longest in service (R80). DESIGN CHOICE (log 132): elements
that entered service together leave in ascending number. -/
def State.elemExchange (s : State) (c : Nat) : State :=
  match s.ofe.elems[c]? with
  | none => s
  | some e =>
    match e.ready with
    | none => s
    | some x =>
      let out := e.serving.head?
      let e1 := { e with serving := e.serving.drop 1 ++ [x], ready := none, spares := e.spares ++ out.toList }
      (s.setElems c e1).elemNext c out

/-- Positions P, STRIDE_EXP, D and B of the Raman path. -/
def State.rmnP (s : State) : Nat := s.rf Reg.TMP_POSITIONS Fd.TMP_POSITIONS_P
def State.rmnStride (s : State) : Nat := 2 ^ s.rf Reg.TMP_CFG Fd.TMP_CFG_STRIDE_EXP
def State.rmnD (s : State) : Nat := s.rf Reg.TMP_CFG Fd.TMP_CFG_DEPTH_EXP
def State.rmnB (s : State) : Nat := s.rf Reg.TMP_CFG Fd.TMP_CFG_BIN_EXP

/-- The Raman path is active (R154). -/
def State.rmnActive (s : State) : Bool := s.rmnP != 0 && s.rmnD != 0 && s.shotPeriod != 0

/-- No window of converter `c` is in progress or to come: no shot is scheduled for it, or the hub is parked (R80). -/
def State.noWindow (s : State) (c : Nat) : Bool :=
  !s.schedulesShots || (c == 4 && !s.rmnActive) || (s.parked && (if c = 4 then s.tmp.shot.isNone else s.ofe.wins.isEmpty))

/-- Exchanges that wait for no window take place at once (R80). -/
def State.exchangeIdle (s : State) : State :=
  (iter 5 (fun c (a : State) => if a.noWindow c then a.elemExchange c else a) s).rotationCheck

/-- SPARE_CALIBRATED (R80, R81): a spare of converter `c` (0 to 3 the receiver, 4 the Raman pair) ends its calibration,
or fails it. Without shots the exchange takes place at once. -/
def opSpareCal (c : Nat) (good : Bool) (s : State) : State :=
  match s.ofe.elems[c]? with
  | none => s
  | some e =>
    match e.cal with
    | none => s
    | some x =>
      if good then
        (s.setElems c { e with cal := none, ready := some x, done := e.done ++ [x] }).exchangeIdle
      else
        let s1 := ((s.setElems c { e with cal := none }).err 0x10 Err.CAL_ELEM_FAIL).logFault Err.CAL_ELEM_FAIL 0x10
          (16 * c + x)
        (s1.elemNext c none).rotationCheck

def execSpareCalibrated (conv : Fin 5) (good : Bool) (s : State) : Host.Outcome State Fault Refusal :=
  ok (opSpareCal conv.val good s)

/-- CONV_TEMP_READ (R79): the converter die temperature, read every 1 ms. -/
def opConvTemp (temp : Int) (s : State) : State :=
  let cal := signed 16 (s.rd Reg.OFE_TEMP_CAL).toNat
  let old := signed 16 (s.rd Reg.OFE_TEMP_NOW).toNat
  let dt := s.rf Reg.OFE_RECAL_CFG Fd.OFE_RECAL_CFG_DT
  let s1 := s.wr Reg.OFE_TEMP_NOW (w32 (unsigned 16 (satS 16 temp)))
  if s1.tempTrigger mCalRx (dtReached old cal dt) (dtReached temp cal dt) then s1.rxRecal else s1

def execConvTempRead (temp : Int) (s : State) : Host.Outcome State Fault Refusal := ok (opConvTemp temp s)

/-- RX_RECAL_PERIOD (R79): PERIOD seconds since the last rotation ended. -/
def opRxPeriod (s : State) : State :=
  let per := s.rf Reg.OFE_RECAL_CFG Fd.OFE_RECAL_CFG_PERIOD
  if per ≠ 0 ∧ per * tickS ≤ s.ltc.toNat - s.ofe.calAt.toNat then s.rxRecal else s

def execRxRecalPeriod (s : State) : Host.Outcome State Fault Refusal := ok (opRxPeriod s)

/-- Whether a receiver ADC is stuck (R83): 16 shots in a row with a range below 16 codes. -/
def State.rxStuck (s : State) : Bool := s.ofe.rxLow.any (fun n => decide (16 ≤ n))

/-- An acquisition window that a launch at L opens (R60, R61); `last` for the last of its shot. -/
def State.openWindow (s : State) (L : Time) (last : Bool) : State :=
  let win := (s.pln.run.map Plan.window).getD 0
  { s with ofe := { s.ofe with
    wins := (s.ofe.wins ++ [(L + BitVec.ofNat 64 (s.dRx + win), last)]).drop (s.ofe.wins.length - 7) } }

/-- Clipped samples of a window: those at either end of the range (R57). -/
def AdcRange.clipped (r : AdcRange) : Nat := if r.lo = -8192 ∨ r.hi = 8191 then max 1 r.clips else 0

/-- The ranges of the shot's windows so far, per ADC (R83). -/
def State.rxRange (s : State) (rx : List AdcRange) : State :=
  { s with ofe := { s.ofe with
    rxMin := (s.ofe.rxMin.zipIdx).map (fun e => ((rx[e.2]?).map (fun r => min e.1 r.lo)).getD e.1)
    rxMax := (s.ofe.rxMax.zipIdx).map (fun e => ((rx[e.2]?).map (fun r => max e.1 r.hi)).getD e.1) } }

/-- The last window of a shot has ended: RX_STUCK over the shot's ranges (R83). -/
def State.rxShotEnd (s : State) : State :=
  let low := (s.ofe.rxLow.zipIdx).map (fun e =>
    if nth s.ofe.rxMax e.2 0 - nth s.ofe.rxMin e.2 0 < 16 then e.1 + 1 else 0)
  let was := s.flag Reg.OFE_STAT Fd.OFE_STAT_RX_STUCK
  let s1 := { s with ofe := { s.ofe with
    rxLow := low, rxMin := List.replicate 4 8191, rxMax := List.replicate 4 (-8192) } }
  let s2 := s1.wf Reg.OFE_STAT Fd.OFE_STAT_RX_STUCK (b2n s1.rxStuck)
  if s1.rxStuck && !was then (s2.err 0x10 Err.RX_STUCK).raise 0x10 4 else s2

/-- ACQUISITION_WINDOW_END (R57, R80, R83): the oldest window in progress ends: clips and ranges of the four receiver ADCs
over it, and the exchange of the calibrated spares. -/
def opWindowEnd (rx : List AdcRange) (s : State) : State :=
  match s.ofe.wins with
  | [] => s
  | (t, last) :: rest =>
    let s0 := { s.advance t with ofe := { (s.advance t).ofe with wins := rest } }
    let s1 := (s0.countN Reg.OFE_CLIP_RX ((rx.map AdcRange.clipped).sum)).rxRange rx
    let s2 := if last then s1.rxShotEnd else s1
    (iter 4 (fun c a => a.elemExchange c) s2).rotationCheck

def execAcquisitionWindowEnd (rx : List AdcRange) (s : State) : Host.Outcome State Fault Refusal := ok (opWindowEnd rx s)

end Sys2Proof.Machine
end

