-- ==== Sys2Proof/Machine/Driari.lean ====
section
/-!
DEFINITION. Driari node chains (R223 to R245): frames, commands, training, samples, status, rings and second ends. The
boundary side of SUPERFRAME_BOUNDARY is in the boundary file.
-/

namespace Sys2Proof.Machine

/-! ### Ports -/

def State.port (s : State) (q : Nat) : DrpPort := NMap.get (fun _ => DrpPort.init) s.drp q
def State.setPort (s : State) (q : Nat) (x : DrpPort) : State :=
  { s with drp := NMap.set (fun _ => DrpPort.init) s.drp q x }
def State.onPort (s : State) (q : Nat) (f : DrpPort → DrpPort) : State := s.setPort q (f (s.port q))

/-- STATE of a port (R244): 0 OFF, 1 TRAINING, 2 RUN, 3 LINK, 4 NO_PARTNER, 5 FAR_END, 6 FAR_SERVING. -/
def State.drpState (s : State) (q : Nat) : Nat := s.rf (Reg.DRP_STAT q) Fd.DRP_STAT_STATE
def State.setDrp (s : State) (q v : Nat) : State := s.wf (Reg.DRP_STAT q) Fd.DRP_STAT_STATE v

def State.drpMode (s : State) (q : Nat) : Nat := s.rf (Reg.DRP_CFG q) Fd.DRP_CFG_MODE
def State.drpN (s : State) (q : Nat) : Nat := s.rf (Reg.DRP_CFG q) Fd.DRP_CFG_NODES

/-- LEAD (R226). -/
abbrev lead : Nat := 131080

/-- The port masters its chain: it is used, on a hub that masters chains (R239, R385). -/
def State.firstEnd (s : State) (q : Nat) : Bool := s.drpN q != 0 && s.drives

/-- The first-end port of the chain whose second end this port is (R239). -/
def State.secondOf (s : State) (q : Nat) : Option Nat :=
  let ringBelow := q % 2 == 1 && s.drpN (q - 1) != 0 && s.drpMode (q - 1) == 1
  if s.role = 0 then (if ringBelow then some (q - 1) else none)
  else if s.role = 2 ∨ s.role = 3 then
    if ringBelow then some (q - 1) else if s.drpN q ≠ 0 ∧ s.drpMode q = 2 then some q else none
  else none

/-- The port whose registers and table describe the chain a port belongs to. -/
def State.chainPort (s : State) (q : Nat) : Nat := (s.secondOf q).getD q

/-- The port is at the first end of its chain (R239). -/
def State.atFirst (s : State) (q : Nat) : Bool := (s.secondOf q).isNone

/-- The page that shows a chain's split: the first end's on this hub, else the second end's own. -/
def State.splitPage (s : State) (q : Nat) : Nat := if s.role = 0 then s.chainPort q else q

/-- After a takeover a hub masters a MODE ring chain from its port 2k + 1 (R239, R242): the chain's port that a ball's
port stands for, and the port whose balls a chain's frames use. -/
def State.masterPort (s : State) (q : Nat) : Nat :=
  if s.role == 1 && s.pai.far && q % 2 == 1 && s.drpN (q - 1) != 0 && s.drpMode (q - 1) == 1 then q - 1 else q
def State.wirePort (s : State) (P : Nat) : Nat :=
  if s.role == 1 && s.pai.far && s.drpN P != 0 && s.drpMode P == 1 then P + 1 else P

/-- The port of this hub at the second end of a port's chain, while the hub is alone. -/
def State.ownSecond (s : State) (P : Nat) : Option Nat :=
  if s.role = 0 ∧ s.drpMode P = 1 ∧ s.drpN P ≠ 0 then some (P + 1) else none

def State.qlag (s : State) : Nat := 1 + ceilDiv 131824 s.superframe
/-- Superframes of a status cycle (R236). -/
def State.statC (s : State) (P : Nat) : Nat := max 1 (ceilDiv (s.drpN P) 8)

def DrpPort.node (x : DrpPort) (a : Nat) : DrpNode := NMap.get (fun _ => DrpNode.init) x.nodes a
def DrpPort.setNode (x : DrpPort) (a : Nat) (n : DrpNode) : DrpPort :=
  { x with nodes := NMap.set (fun _ => DrpNode.init) x.nodes a n }

/-- Port slot c of a chain: node, SPF, whether it is configured and enabled (R244). -/
def State.slotNode (s : State) (P c : Nat) : Nat := s.rf (Reg.DRP_CH_CFG P c) Fd.DRP_CH_CFG_NODE
def State.slotSpf (s : State) (P c : Nat) : Nat :=
  if s.slotNode P c = 0 then 0 else s.rf (Reg.DRP_CH_CFG P c) Fd.DRP_CH_CFG_SPF
def State.slotEn (s : State) (P c : Nat) : Bool :=
  s.slotNode P c != 0 && s.flag (Reg.DRP_CH_CFG P c) Fd.DRP_CH_CFG_EN

/-- Symbol at which the block of slot c starts (R227). -/
def State.slotSymbol (s : State) (P c : Nat) : Nat :=
  59 + ((List.range c).map (fun i => if s.slotNode P i = 0 then 0 else 4 * s.slotSpf P i + 1)).sum

/-- The split's last node on the first end's side. -/
def State.breakAt (s : State) (P : Nat) : Nat := s.rf (Reg.DRP_STAT P) Fd.DRP_STAT_BREAK_AT
def State.splitOn (s : State) (P : Nat) : Bool := s.flag (Reg.DRP_STAT P) Fd.DRP_STAT_SPLIT

/-- A node is reached through port `q` of its chain: beyond a split from the second end, else from the first. -/
def State.servedBy (s : State) (q a : Nat) : Bool :=
  let v := s.splitPage q
  (s.splitOn v && decide (s.breakAt v < a)) != s.atFirst q

/-! ### Samples -/

/-- The LINK word, and the STALE word. -/
def linkWord : Word := sampleWord 0 6 0
def staleWord : Word := sampleWord 0 9 0

/-- A tag a node may send (R235). -/
def nodeTagOk (t : Nat) : Bool := [0, 1, 2, 3, 4, 5, 7, 6, 9].contains t && t != 6 && t != 9

/-- One sample of superframe j of node channel n enters its chain (R229, R235): after LINK four inputs carry
SETTLE (R210). -/
def State.nodeSample (s : State) (n j k spf : Nat) (w : Word) : State :=
  let P := n / 32
  let x := s.port P
  let tag := w.toNat / 16 % 16
  let left := nth x.settle (n % 32) 0
  let v := signed 24 (w.toNat / 256)
  let sub := w.toNat % 16
  let per := s.superframe / spf
  let inst := s.atPeriod j s.superframe + BitVec.ofNat 64 (k * per)
  let (tag1, rem) : Nat × Nat :=
    if 0 < left ∧ tag ≤ 1 then (1, max (left - 1) (if tag = 1 then sub else 0)) else (tag, if tag = 1 then sub else 0)
  let s1 := s.setPort P { x with settle := setAt x.settle (n % 32) (if tag = 6 then 4 else left - 1) }
  s1.chainIn (64 + n) (j * spf + k) (s.chain (64 + n)).k0 inst per v tag1 (if tag1 = 1 then min 15 rem else sub) rem

/-- The channel's EN for superframe j (R235): a live change acts from the superframe at whose boundary it took effect. -/
def State.slotEnAt (s : State) (P c j : Nat) : Bool :=
  match (s.port P).enOld.find? (fun e => e.1 == c && decide (j < e.2.1)) with
  | some e => e.2.2
  | none => s.slotEn P c

/-- The words of superframe j of node channel n, where the channel is enabled; a resynchronisation starts with the
superframe it names (R207). -/
def State.nodeWords (s : State) (n j : Nat) (ws : List Word) : State :=
  let a : State := match (s.chain (64 + n)).resyncAt with
    | some m =>
      if m ≤ j then
        let b := s.resyncChain 2 0 (64 + n)
        b.setChain (64 + n) { b.chain (64 + n) with resyncAt := none, k0 := m * ws.length }
      else s
    | none => s
  if !a.slotEnAt (n / 32) (n % 32) j then a
  else (ws.zipIdx).foldl (fun (a : State) e => a.nodeSample n j e.2 ws.length e.1) a

/-- The active hub forwards decoded node words while both tether lanes are up, after the return of a lane from the next
superframe boundary on (R242, R386, R400): node channel, superframe, words. -/
def State.forwardNode (s : State) (n j : Nat) (ws : List Word) : State :=
  if s.hasStandby && (s.tlane 0).up && (s.tlane 1).up && (s.syncState != 3 || s.pai.prog.node) then s.sendTether 1 3 (.feedW ⟨none, [], [(n, j, ws)], none⟩) else s

/-- Inputs of slot c up to superframe j without it: none has come, so each carries LINK. -/
def State.linkUpTo (s : State) (P c j : Nat) : State :=
  let from_ := nth (s.port P).nextIn c 0
  let spf := s.slotSpf P c
  let s1 := iter (j - from_) (fun i (a : State) =>
    (a.nodeWords (32 * P + c) (from_ + i) (List.replicate spf linkWord)).forwardNode (32 * P + c) (from_ + i)
      (List.replicate spf linkWord)) s
  s1.onPort P (fun x => { x with nextIn := setAt x.nextIn c (max from_ j) })

/-- Inputs of slot c of superframe j: the words received, or LINK. -/
def State.slotIn (s : State) (P c j : Nat) (ws : Option (List Word)) : State :=
  let spf := s.slotSpf P c
  let out := match ws with
    | some l => (l ++ List.replicate spf linkWord).take spf
    | none => List.replicate spf linkWord
  let s1 := s.linkUpTo P c j
  if j < nth (s1.port P).nextIn c 0 then s1
  else
    ((s1.nodeWords (32 * P + c) j out).forwardNode (32 * P + c) j out).onPort P
      (fun x => { x with nextIn := setAt x.nextIn c (j + 1) })

/-- Inputs of slot c of superframe j received at port `q`: at a second end on the standby they cross the tether to the
active hub (R240), else they enter the chain. -/
def State.slotFrom (s : State) (q P c j : Nat) (ws : Option (List Word)) : State :=
  if s.role ≠ 2 then s.slotIn P c j ws
  else if s.atFirst q ∨ !((s.tlane 0).up && (s.tlane 1).up) then s
  else
    s.sendTether 1 3 (.feedW ⟨none, [], [(32 * P + c, j, ws.getD (List.replicate (s.slotSpf P c) linkWord))], none⟩)

/-- Superframes after which the far channels of a split chain have samples again (R240). -/
def State.farBound (s : State) : Nat := s.qlag + ceilDiv lead s.superframe + 2

/-- Superframe j arrives through port `q` without samples: its slots carry LINK. -/
def State.linkFrame (s : State) (q j : Nat) : State :=
  let P := s.chainPort q
  iter 32 (fun c (a : State) =>
    if a.slotNode P c ≠ 0 ∧ a.servedBy q (a.slotNode P c) then a.slotFrom q P c j none else a) s

/-- In a pair, inputs of far nodes that have not crossed the tether by the bound of R240 carry LINK. -/
def State.farLate (s : State) (P j : Nat) : State :=
  if s.role ≠ 1 ∨ !s.splitOn P then s
  else
    iter 32 (fun c (a : State) =>
      if a.slotNode P c ≠ 0 ∧ !a.servedBy P (a.slotNode P c) then a.linkUpTo P c (j - a.farBound) else a) s

/-- Words of a far node that the partner's second end received (R240). -/
def State.farWords (s : State) (n j : Nat) (ws : List Word) : State :=
  let P := n / 32
  let nd := s.slotNode P (n % 32)
  if nd = 0 ∨ s.servedBy P nd then s else s.slotIn P (n % 32) j (some ws)

/-- The sample blocks of superframe j arrive through port `q` (R235). -/
def State.takeBlocks (s : State) (q j : Nat) (f : UpFrame) : State :=
  let P := s.chainPort q
  iter 32 (fun c (a : State) =>
    let nd := a.slotNode P c
    if nd = 0 ∨ !a.servedBy q nd then a
    else
      let n := (a.port P).node nd
      let blk := (f.blocks.find? (fun b => b.1 == c)).bind (·.2)
      let failed := f.blocks.any (fun b => b.1 == c && b.2.isNone)
      let a1 := if failed then a.count (Reg.DRP_CRC_ERR P) else a
      let running := match (a.port q).startSf with | some m => decide (m ≤ j) | none => false
      if !n.assigned || n.typeBad || !running then a1.slotFrom q P c j none
      else
        match blk with
        | none => a1.slotFrom q P c j none
        | some ws =>
          let bad := (ws.filter (fun w => !nodeTagOk (w.toNat / 16 % 16))).length
          let a2 := a1.countN (Reg.DRP_BAD_TAG P) bad
          a2.slotFrom q P c j (some (ws.map (fun w => if nodeTagOk (w.toNat / 16 % 16) then w else linkWord)))) s

/-! ### Commands -/

/-- Three ARG bytes of an offset, with REV in bit 7 of the last (R232). -/
def bridleArgs (ofs : Nat) (rev : Bool) : List Byte := leBytes 3 (ofs % 2 ^ 18 + 2 ^ 23 * b2n rev) ++ [0, 0]
def setBridle (a ofs : Nat) (rev : Bool) : DrpCmd := ⟨a, 4, bridleArgs ofs rev, false⟩
def arg5 (v : Nat) : List Byte := leBytes 5 v

/-- SET_CH of port slot c (R232). -/
def State.setCh (s : State) (P c : Nat) : DrpCmd :=
  ⟨s.slotNode P c, 5, by1 (s.rf (Reg.DRP_CH_CFG P c) Fd.DRP_CH_CFG_LOCAL + 128) ++ by1 c ++ by1 (s.slotSpf P c) ++
    le2 (s.slotSymbol P c), false⟩

/-- The next command of a port and the queue without it: the oldest whose node has no reply outstanding; START only
when everything before it is sent (R232, R233). -/
def DrpPort.pick (x : DrpPort) : Option (DrpCmd × List DrpCmd) :=
  match x.queue with
  | [] => none
  | c :: rest => if (c.addr != 0xFF || c.host) && x.outs.any (fun o => o.2.addr == c.addr) then none else some (c, rest)

/-- The node MEASURE goes to next, in address order (R230). -/
def State.nextMeasure (s : State) (q : Nat) : Option Nat :=
  let P := s.chainPort q
  let x := s.port q
  let ok_ (a : Nat) : Bool :=
    let n := (s.port P).node a
    n.assigned && n.far == !s.atFirst q && s.servedBy q a && !x.outs.any (fun o => o.2.addr == a)
  let all := (List.range 128).map (· + 1)
  match (all.filter (fun a => decide (x.meas < a))).find? ok_ with
  | some a => some a
  | none => all.find? ok_

/-! ### Training -/

/-- A frame number that no frame has. -/
abbrev noFrame : Nat := 2 ^ 64

/-- Nothing of what a port has sent or waits to send will be replied to; a NODE_CMD waits for its time-out (R244). -/
def DrpPort.dropped (x : DrpPort) : List (Nat × DrpCmd) :=
  ((x.outs.map (·.2) ++ x.queue).filter (fun c => c.host)).map (fun c => (noFrame, c))

/-- Start training at step 1 with a new attempt (R233). The nodes that the second end of a split chain serves stay
assigned. -/
def State.trainAttempt (s : State) (P attempt : Nat) : State :=
  let split := s.splitOn P
  (s.onPort P (fun x => { x with
    step := 1, attempt := attempt, retry := 0, good := 0, queue := [⟨0xFF, 8, arg5 0, false⟩], outs := x.dropped
    nodes := x.nodes.map (fun e => (e.1, if split then e.2 else { e.2 with assigned := false, far := false, typeBad := false, bSince := none }))
    lastRt := none })).setDrp P 1

/-- A split as its page shows it: on or off, with the last node on the first end's side. -/
def State.showSplit (s : State) (v : Nat) (on : Bool) (last : Nat) : State :=
  (s.wf (Reg.DRP_STAT v) Fd.DRP_STAT_SPLIT (b2n on)).wf (Reg.DRP_STAT v) Fd.DRP_STAT_BREAK_AT (if on then last else 0)

/-- The partner learns of a split, or of its last node on the first end's side (R240). -/
def State.tellSplit (s : State) (P : Nat) (on : Bool) (last : Nat) : State :=
  if s.hasStandby ∨ s.role = 2 then s.sendLane 1 7 (.bulk (.split P on last)) else s

/-- The last node on the first end's side of a split chain is known (R240). -/
def State.setBreak (s : State) (P last : Nat) : State :=
  if s.splitOn P then (s.showSplit P true last).tellSplit P true last else s

/-- Begin a training of a used first-end port; `again` counts it in RETRAINS. While the chain is split its second end goes on
to serve it: the whole of it until nodes are assigned from the first end (R240). -/
def State.train (s : State) (P : Nat) (again : Bool) : State :=
  if !s.firstEnd P then s
  else
    let s1 := ((s.trainAttempt P 1).wf (Reg.DRP_STAT P) Fd.DRP_STAT_FOUND 0).setBreak P 0
    let s2 := if again then s1.count (Reg.DRP_RETRAINS P) else s1
    if again && s.drpState P == 2 then s2.onPort P (fun x => { x with linkCyc := true }) else s2

/-- Send ASSIGN for the next address of an enumeration. -/
def DrpPort.assign (x : DrpPort) (a : Nat) : DrpPort :=
  { x with step := 2, asg := a, retry := 0, queue := x.queue ++ [⟨0, 1, arg5 a, false⟩] }

/-- The nodes of a chain as its other end counts them: what was home is now far (R239, R242). -/
def State.swapEnds (s : State) : State :=
  iter 16 (fun P (a : State) =>
    a.onPort P (fun x => { x with nodes := x.nodes.map (fun e => (e.1, { e.2 with far := !e.2.far })) })) s

/-- OFFSET_REV_i (R239). -/
def ofsRevOf (dTotal d rep : Nat) : Nat := lead - (dTotal - d - rep)

/-- The partner of a pair keeps the bridle table of a chain too. DESIGN CHOICE (log 147): each entry crosses the tether when
it changes. -/
def State.tellNode (s : State) (P a : Nat) : State :=
  if s.hasStandby ∨ s.role = 2 then
    let n := (s.port P).node a
    s.sendLane 1 7 (.bulk (.bridle P a ⟨n.far, n.typeBad, n.type, n.repLat, n.serial, n.d, n.ofs, n.ofsRev⟩))
  else s

/-- A bridle table entry that the partner knows. -/
def State.takeBridle (s : State) (P a : Nat) (b : Bridle) : State :=
  s.onPort P (fun x => x.setNode a { x.node a with
    assigned := true, far := b.far, typeBad := b.typeBad, type := b.type, repLat := b.repLat, serial := b.serial, d := b.d
    ofs := b.ofs, ofsRev := b.ofsRev })

/-- D_total is known: every node of the chain gets its reverse offset (R239). -/
def State.reverseBridles (s : State) (P : Nat) : State :=
  match (s.port P).dTotal with
  | none => s
  | some t =>
    s.onPort P (fun x => x.nodes.foldl (fun (y : DrpPort) e =>
      if e.2.assigned && !e.2.far then
        let r := ofsRevOf t e.2.d e.2.repLat
        { y.setNode e.1 { e.2 with ofsRev := r } with queue := y.queue ++ [setBridle e.1 r true] }
      else y) x)

/-- D_total of a chain has been measured at its second end (R239): before step 3 of a training, that step sends it. -/
def State.setTotal (s : State) (P total : Nat) : State :=
  let s1 := s.onPort P (fun x => { x with dTotal := some total })
  let step := (s.port P).step
  if (s.port P).dTotal = some total ∨ step = 1 ∨ step = 2 then s1 else s1.reverseBridles P

/-- Step 3 of training at port `q`: SET_CH and SET_BRIDLE for its nodes, then START (R233). -/
def State.configure (s : State) (q : Nat) : State :=
  let P := s.chainPort q
  let mine := ((s.port P).nodes.filter (fun e => e.2.assigned && e.2.far == !s.atFirst q))
  let chs := ((List.range 32).filter (fun c => s.slotNode P c != 0 && mine.any (fun e => e.1 == s.slotNode P c))).map (s.setCh P)
  let s1 := s.onPort q (fun x => { x with
    step := 3, queue := x.queue ++ chs ++ mine.map (fun e => setBridle e.1 e.2.ofs false) })
  let s2 := if s.atFirst q then s1.reverseBridles P else s1
  s2.onPort q (fun x => { x with queue := x.queue ++ [⟨0xFF, 7, arg5 0, false⟩] })

/-- Enumeration ends after address `a` (0 for none): FOUND, and step 3. -/
def State.enumDone (s : State) (q found : Nat) : State :=
  let P := s.chainPort q
  let s1 := if s.atFirst q then (s.wf (Reg.DRP_STAT P) Fd.DRP_STAT_FOUND found).setBreak P found else s
  s1.configure q

/-- A second end enumerates the nodes beyond `found` in descending order (R234); one that serves them already goes on. -/
def State.trainFar (s : State) (q P found : Nat) : State :=
  let s1 := s.showSplit (s.splitPage q) true found
  if s.drpState q = 6 then s1
  else
    (s1.onPort q (fun x =>
      ({ x with down := true, asgEnd := found + 1, outs := x.dropped, queue := [] } : DrpPort).assign (s1.drpN P))).setDrp q 1

/-- The chain is truncated after `found` nodes (R234); its second end, on this hub or on the partner, then enumerates the
missing ones. -/
def State.truncate (s : State) (P found : Nat) (code : Nat) : State :=
  let s1 := ((s.err (0x20 + P) code).raise (0x20 + P) 3).enumDone P found
  match s1.ownSecond P with
  | some q => s1.trainFar q P found
  | none =>
    if s1.hasStandby ∧ s1.drpMode P ≠ 0 then (s1.showSplit P true found).sendLane 1 7 (.bulk (.farTrain P found)) else s1

/-- A valid ASSIGN reply: TYPE, REP_LAT, SERIAL, D_i and the next address (R230, R233, R234). -/
def State.assigned (s : State) (q rt : Nat) (r : NodeReply) : State :=
  let P := s.chainPort q
  let x := s.port q
  let a := x.asg
  let d := (rt - 256) / 2
  let plan : Nat := (s.pln.run.map (fun p => (p.tabAt (tabNode P a)).toNat)).getD 0
  let bad := byteAt r.dat 0 != plan
  let nd : DrpNode := { DrpNode.init with
    assigned := true, far := !s.atFirst q, typeBad := bad, type := byteAt r.dat 0, repLat := byteAt r.dat 1,
    serial := fieldAt r.dat 3 2, d := d, ofs := lead - d }
  let s0 := s.wr (Reg.DRP_RT_END q) (w32 (rt % 2 ^ 19))
  if 130680 < d then
    if s.atFirst q then s0.truncate P (a - 1) Err.DRP_CHAIN_LONG else (s0.err (0x20 + P) Err.DRP_CHAIN_LONG).enumDone q a
  else
    let s1 := (s0.onPort P (fun y => y.setNode a nd)).tellNode P a
    let s2 := if bad then s1.err (0x20 + P) Err.DRP_NODE_TYPE else s1
    let last := if x.down then a == x.asgEnd else a == s.drpN P
    if last then s2.enumDone q a
    else
      s2.onPort q (fun (y : DrpPort) =>
        ({ y with queue := y.queue ++ [DrpCmd.mk a 3 (arg5 1) false] } : DrpPort).assign (if x.down then a - 1 else a + 1))

/-! ### Sending -/

/-- LTC of the D_SOF of frame n (R226). -/
def State.dsof (s : State) (n : Nat) : Time := s.atPeriod n s.superframe - BitVec.ofNat 64 lead

/-- The port sends frames now. -/
def State.sends (s : State) (q : Nat) : Bool :=
  s.superframe != 0 && !s.parked &&
    ((s.firstEnd q && s.drpState q != 0) || ((s.secondOf q).isSome && (s.drpState q == 6 || (s.port q).step != 0)))

/-- K28.5 and K28.1 among the symbols of a frame, as 256 and the code (R223). Every symbol that no frame fills is K28.0. -/
abbrev dSof : Nat := 0x1BC
abbrev uSof : Nat := 0x13C

/-- D_SOF_SEND: the next downstream frame of a port (R226, R227, R230, R232, R233). -/
def opDsofSend (q : Nat) (s : State) : State :=
  if !s.sends q then s
  else
    let P := s.chainPort q
    let SF := s.superframe
    let low := ceilDiv (s.ltc.toNat + lead - s.sched.epoch.toNat) SF
    let n := match (s.port q).sent with | some m => max (m + 1) low | none => low
    let s1 := s.advance (s.dsof n)
    let x := s1.port q
    let meas := if x.step = 0 ∧ (s1.drpState q = 2 ∨ s1.drpState q = 6)  then s1.nextMeasure q else none
    let (cmd, x1) : Option DrpCmd × DrpPort :=
      match x.pick with
      | some (c, rest) => (some c, { x with queue := rest })
      | none =>
        match meas with
        | some a => (some ⟨a, 6, arg5 0, false⟩, { x with meas := a })
        | none => (none, x)
    let starts := cmd.any (fun c => c.op == 7)
    let cmd1 := cmd.map (fun c => if c.op = 7 then { c with args := arg5 ((n + 4) % 256) } else c)
    let x2 : DrpPort := { x1 with
      sent := some n, outs := match cmd1 with
        | some c => if c.addr = 0xFF ∧ !c.host then x1.outs else x1.outs ++ [(n, c)]
        | none => x1.outs }
    let x3 : DrpPort := if starts then { x2 with step := 0, startSf := some (n + 4) } else x2
    let s2 := s1.setPort q x3
    let s3 := if starts ∧ s2.drpState q ≠ 3 then s2.setDrp q (if s.atFirst q then 2 else 6) else s2
    let head := by1 (n % 256) ++ by1 (n % s.statC P)
    let slot := match cmd1 with
      | some c => by1 c.addr ++ by1 c.op ++ c.args
      | none => List.replicate 7 0
    let lines := (List.range 16).foldl (fun v l => v + b2n (s1.lineState l) * 2 ^ l) 0
    let s4 := s3.emitOut (.driari (s3.wirePort q) 1 (s.dsof n)
      (dSof :: (head ++ by1 (crc8 head) ++ slot ++ by1 (crc8 slot) ++ le2 lines ++ by1 (crc8 (le2 lines))).map BitVec.toNat) (SF / 40 - 15))
    -- a chain that cannot deliver: its channels carry LINK
    if (s4.drpState q = 1 ∨ s4.drpState q = 4) ∧ s.atFirst q ∧ s.qlag ≤ n then s4.linkFrame q (n - s.qlag) else s4

def execDSofSend (port : Fin 16) (s : State) : Host.Outcome State Fault Refusal :=
  ok (opDsofSend (s.masterPort port.val) s).flushTrig

/-! ### Receiving -/

/-- A reply arrives in frame n at port `q` (R230, R232, R244). Outstanding commands of frame n − 1 or before that are
neither ASSIGN nor NODE_CMD have timed out. -/
def State.takeReply (s : State) (q n rt : Nat) (r : NodeReply) : State :=
  let P := s.chainPort q
  let x := s.port q
  let hit := x.outs.find? (fun o => o.1 + 1 == n && r.ok && r.addr != 0 &&
    (if o.2.op = 1 then decide (r.addr = byteAt o.2.args 0) else decide (r.addr = o.2.addr)))
  let keep := x.outs.filter (fun o => some o != hit && (o.2.op == 1 || o.2.host || decide (n ≤ o.1)))
  let s1 := s.setPort q { x with outs := keep }
  match hit with
  | none => s1
  | some (_, c) =>
    let nd := (s1.port P).node c.addr
    if c.host then
      let s2 := s1.onPort q (fun y => { y with busy := false })
      ((s2.wr (Reg.DRP_NRSP0 q) (w32 (r.addr + 256 * r.code + 65536 * fieldAt r.dat 0 2))).wr (Reg.DRP_NRSP1 q)
        (w32 (fieldAt r.dat 2 3 + 2 ^ 24))).raise (0x20 + q) 4
    else if r.code ≠ 0 then s1.onPort q (fun y => if c.op = 1 then { y with outs := x.outs } else y)
    else if c.op = 1 then s1.assigned q rt r
    else if c.op = 4 then
      let v := fieldAt c.args 0 3
      (s1.onPort P (fun y => y.setNode c.addr
        (if v / 2 ^ 23 = 1 then { nd with ofsRev := v % 2 ^ 18 } else { nd with ofs := v % 2 ^ 18, d := lead - v % 2 ^ 18 }))).tellNode P c.addr
    else if c.op = 6 then
      let want := lead - (rt - fieldAt r.dat 0 3) / 2
      if want = nd.ofs then s1
      else
        let until_ := if nd.ofs < want then nd.ofs + min 2 (want - nd.ofs) else nd.ofs - min 2 (nd.ofs - want)
        s1.onPort q (fun y => { y with queue := y.queue ++ [setBridle c.addr until_ false] })
    else s1

/-- The status slots of frame n (R236). -/
def State.takeStatus (s : State) (q n : Nat) (sl : List (Nat × Bool)) (at_ : Time) : State :=
  let P := s.chainPort q
  let g := n % s.statC P
  (sl.zipIdx).foldl (fun (a : State) e =>
    let k := 8 * g + e.2 + 1
    if a.drpN P < k ∨ 8 ≤ e.2 ∨ !a.servedBy q k ∨ !((a.port P).node k).assigned then a
    else
      let nd := (a.port P).node k
      let w := e.1.1
      if e.1.2 then
        a.onPort P (fun y => y.setNode k { nd with
          word := w, crc := false, got := true
          bSince := if w / 2 ^ 14 % 2 = 0 then none else match nd.bSince with | some t => some t | none => some at_ })
      else a.onPort P (fun y => y.setNode k { nd with crc := true })) s

/-- The last frame of a status cycle has come or is missing: NODE_STATUS (R237). -/
def State.statusEnd (s : State) (P n : Nat) : State :=
  let C := s.statC P
  if n % C ≠ C - 1 then s
  else
    let cyc := n / C
    let N := s.drpN P
    let x := s.port P
    let no := x.cycBase + cyc
    let cfg := s.rd (Reg.DRP_STAT_CFG P)
    let node (a : Nat) : DrpNode := x.node (a + 1)
    let changed (a : Nat) : Bool := (node a).word != (node a).prev
    let trunc := (List.range N).any (fun a => !(node a).assigned)
    let body := (List.range N).flatMap (fun a =>
      le2 (node a).word ++ by1 (a + 1) ++ by1 (b2n (!(node a).got) + 2 * b2n (node a).crc + 4 * b2n (changed a)))
    let pay := pad16 (by1 P ++ by1 (b2n (s.splitOn P) + 2 * b2n trunc + 4 * b2n (x.linkCyc || s.drpState P == 3)) ++ le2 N ++
      le4 (no % 2 ^ 32) ++ by1 (if s.splitOn P then s.breakAt P else 0) ++ List.replicate 7 0 ++ body)
    let due := cfg.get Fd.DRP_STAT_CFG_EN = 1 ∧
      (no % 2 ^ cfg.get Fd.DRP_STAT_CFG_EVERY_EXP = 0 ∨
        (cfg.get Fd.DRP_STAT_CFG_ON_CHANGE = 1 ∧ (List.range N).any changed))
    let s1 := if due then s.emit 0xB 0x5 (512 + P) (s.atPeriod (cyc * C) s.superframe) pay else s
    s1.onPort P (fun y => { y with
      linkCyc := s.drpState P == 3, nodes := y.nodes.map (fun e => (e.1, { e.2 with prev := e.2.word, crc := false, got := false, miss := !e.2.got })) })

/-- The shutter slots of frame n (R238). -/
def State.takeEvents (s : State) (P n : Nat) (es : List NodeEvent) : State :=
  es.foldl (fun (a : State) v =>
    let e := v.evt % 16
    if v.addr = 0 ∨ !v.ok ∨ n < a.qlag ∨ !Word.bit (a.rd (Reg.DRP_EVT_EN P)) e then a
    else
      let top := n - a.qlag
      let m := top - (top + 16 - v.evt / 16 % 16) % 16
      let r := if e < 8 then Reg.DRP_EVT_LINE0 P else Reg.DRP_EVT_LINE1 P
      let line := (a.rd r).toNat / 2 ^ (4 * (e % 8)) % 16
      a.gatherTrig (a.mkTrigger line (0x5000 + 16 * P + e)
        (a.atPeriod m a.superframe + BitVec.ofNat 64 (v.offset % 2 ^ 20)) 0)) s

/-- A port enters LINK (R242). Until its first end has found its nodes again, a split chain is served from the second. -/
def State.enterLink (s : State) (q : Nat) : State :=
  if s.drpState q ≠ 2 then s.onPort q (fun x => { x with good := 0, lastRt := none })
  else
    (((((s.setDrp q 3).onPort q (fun x => { x with good := 0, lastRt := none, linkCyc := true })).count
      (Reg.DRP_LINK_EVT q)).err (0x20 + q) Err.DRP_LINK).raise (0x20 + q) 0).setBreak q 0

/-- The frame an arriving SFN names: the latest sent that bears it. -/
def DrpPort.frameOf (x : DrpPort) (sfn : Nat) : Option Nat := x.sent.map (fun m => m - (m + 256 - sfn % 256) % 256)

/-- The node that the round trip of an end node names, while a chain is split (R240). -/
def State.endNode (s : State) (P rt : Nat) : Nat :=
  let d := (rt - 256) / 2
  let near (a : Nat) : Bool :=
    let n := (s.port P).node a
    n.assigned && decide (n.d ≤ d + 2) && decide (d ≤ n.d + 2)
  (((List.range 128).map (· + 1)).find? near).getD 0

/-- A port in LINK returns to RUN (R240, R242): the end node that the round trip names tells the nodes reached, and a split's
last one on this side. -/
def State.relock (s : State) (q rt : Nat) : State :=
  let P := s.chainPort q
  let b := s.endNode P rt
  let s1 := (s.setDrp q 2).wr (Reg.DRP_RT_END q) (w32 (rt % 2 ^ 19))
  if b = 0 ∨ !s.atFirst q then s1 else (s1.wf (Reg.DRP_STAT P) Fd.DRP_STAT_FOUND b).setBreak P b

/-- Frame n has been looked for at port `q` (R237, R240). -/
def State.frameDone (s : State) (q n : Nat) : State :=
  if !s.atFirst q then s
  else
    let s1 := s.statusEnd q n
    if s.qlag ≤ n then s1.farLate q (n - s.qlag) else s1

/-- UPSTREAM_FRAME (R227 to R242). -/
def opUpstreamFrame (q : Nat) (f : UpFrame) (s0 : State) : State :=
  let s := s0.countN (Reg.DRP_CW_ERR q) f.bad
  let P := s.chainPort q
  match (s.port q).frameOf f.sfn with
  | none => s
  | some n =>
    if s.superframe = 0 ∨ !s.sends q then s
    else
      let s1 := s.onPort q (fun x => { x with lastUp := some n })
      let rt := f.arr.toNat - (s.dsof n).toNat
      let same := match (s.port q).lastRt with | some r => decide (r ≤ rt + 2) && decide (rt ≤ r + 2) | none => true
      let valid := f.hdrOk && decide (f.bad < 4)
      let linked (a : State) : State := if s.qlag ≤ n then a.linkFrame q (n - s.qlag) else a
      if !valid then
        (linked (if 4 ≤ f.bad ∨ s1.drpState q ≠ 2 then s1.enterLink q else s1)).frameDone q n
      else
        let x := s1.port q
        let first := s1.drpState q == 1 && x.step == 1
        let good := if first then (if x.queue = [] then x.good + 1 else 0) else if same then x.good + 1 else 1
        let s2 := s1.onPort q (fun y => { y with good := good, lastRt := some rt })
        if first then (if 2 ≤ good then s2.onPort q (fun y => y.assign 1) else s2).frameDone q n
        else
          let s3 := ((s2.takeReply q n rt f.reply).takeStatus q n f.status f.arr).takeEvents P n f.events
          let s4 :=
            if s2.drpState q = 3 then (if 2 ≤ good then (linked s3).relock q rt else linked s3)
            else if s3.drpState q = 2 ∨ s3.drpState q = 6 then
              let s5 := s3.wr (Reg.DRP_RT_END q) (w32 (rt % 2 ^ 19))
              if s.qlag ≤ n then s5.takeBlocks q (n - s.qlag) f else s5
            else s3
          s4.frameDone q n

def execUpstreamFrame (port : Fin 16) (f : UpFrame) (s : State) : Host.Outcome State Fault Refusal :=
  ok (opUpstreamFrame (s.masterPort port.val) f s).flushTrig

/-- U_SOF_MISSING: the U_SOF of the next frame looked for is missing, or that frame held `bad` invalid code words
(R242). -/
def opUsofMissing (q bad : Nat) (s0 : State) : State :=
  if !s0.sends q then s0
  else
    let s := s0.countN (Reg.DRP_CW_ERR q) bad
    let x := s.port q
    match x.sent with
    | none => s
    | some m =>
      let n := min m (match x.lastUp with | some k => k + 1 | none => m)
      let s1 := (s.onPort q (fun y => { y with lastUp := some n })).enterLink q
      (if s.qlag ≤ n then s1.linkFrame q (n - s.qlag) else s1).frameDone q n

def execUSofMissing (port : Fin 16) (bad : Nat) (s : State) : Host.Outcome State Fault Refusal :=
  ok (opUsofMissing (s.masterPort port.val) bad s).flushTrig

/-! ### Training events -/

/-- LINK_RETRAIN_TIMEOUT: 10 ms in LINK (R242). -/
def opLinkRetrain (q : Nat) (s : State) : State := if s.drpState q = 3 then s.train q true else s
def execLinkRetrainTimeout (port : Fin 16) (s : State) : Host.Outcome State Fault Refusal := ok (opLinkRetrain (s.masterPort port.val) s)

/-- TRAINING_ATTEMPT_TIMEOUT: 10 ms of step 1 (R233). -/
def opTrainTimeout (q : Nat) (s : State) : State :=
  let x := s.port q
  if s.drpState q ≠ 1 ∨ x.step ≠ 1 then s
  else if x.attempt < 3 then s.trainAttempt q (x.attempt + 1)
  else
    ((((s.onPort q (fun y => { y with step := 0, queue := [], outs := y.dropped })).setDrp q 4).err (0x20 + q)
      Err.DRP_NO_PARTNER)).raise (0x20 + q) 2
def execTrainingAttemptTimeout (port : Fin 16) (s : State) : Host.Outcome State Fault Refusal := ok (opTrainTimeout (s.masterPort port.val) s)

/-- NO_PARTNER_RETRY: 1 s in NO_PARTNER (R233). -/
def opNoPartnerRetry (q : Nat) (s : State) : State := if s.drpState q = 4 then s.train q true else s
def execNoPartnerRetry (port : Fin 16) (s : State) : Host.Outcome State Fault Refusal := ok (opNoPartnerRetry (s.masterPort port.val) s)

/-- ASSIGN_REPLY_TIMEOUT: retried three times, then the chain ends (R234). -/
def opAssignTimeout (q : Nat) (s : State) : State :=
  let P := s.chainPort q
  let x := s.port q
  if x.step ≠ 2 ∨ !x.outs.any (fun o => o.2.op == 1) then s
  else
    let y := { x with outs := x.outs.filter (fun o => o.2.op != 1) }
    if x.retry < 3 then
      s.setPort q { y with retry := x.retry + 1, queue := y.queue ++ [⟨0, 1, arg5 x.asg, false⟩] }
    else if s.atFirst q then (s.setPort q y).truncate P (x.asg - 1) Err.DRP_TRUNCATED
    else (s.setPort q y).enumDone q x.asg
def execAssignReplyTimeout (port : Fin 16) (s : State) : Host.Outcome State Fault Refusal := ok (opAssignTimeout (s.masterPort port.val) s)

/-- RETRAIN (R233). -/
def opRetrain (q : Nat) (s : State) : State := s.train q true
def execDrpRetrain (port : Fin 16) (s : State) : Host.Outcome State Fault Refusal := ok (opRetrain port.val s)

/-! ### Rings -/

/-- FORWARD(1) goes to the node at BREAK_AT (R241). -/
def State.rejoin (s : State) (P : Nat) : State :=
  if s.firstEnd P && s.splitOn P && s.breakAt P != 0 then
    s.onPort P (fun x => { x with queue := x.queue ++ [⟨s.breakAt P, 3, arg5 1, false⟩] })
  else s

def execDrpRejoin (port : Fin 16) (s : State) : Host.Outcome State Fault Refusal := ok (s.rejoin port.val)

/-- AUTO_REJOIN: the node at BREAK_AT has reported B_SIGNAL for 1 s (R241). -/
def opAutoRejoin (P : Nat) (s : State) : State :=
  match ((s.port P).node (s.breakAt P)).bSince with
  | some t =>
    if s.flag (Reg.DRP_CFG P) Fd.DRP_CFG_AUTO_REJOIN && decide (t.toNat + tickS ≤ s.ltc.toNat) then s.rejoin P else s
  | none => s
def execAutoRejoin (port : Fin 16) (s : State) : Host.Outcome State Fault Refusal := ok (opAutoRejoin port.val s)

/-- A chain is split (R240): `v` is the page that shows it. The last node on the first end's side is the one that end has
found since, or not known yet. -/
def State.splitBegins (s : State) (v : Nat) : State :=
  let last := if s.atFirst v && s.drpState v == 2 then s.rf (Reg.DRP_STAT v) Fd.DRP_STAT_FOUND else 0
  (((s.showSplit v true last).count (Reg.DRP_HEALS v)).err (0x20 + v) Err.DRP_HEALED).raise (0x20 + v) 1

/-- A split chain is whole again (R241). -/
def State.splitEnds (s : State) (v : Nat) : State :=
  let s1 := s.showSplit v false 0
  if s.atFirst v then
    s1.wf (Reg.DRP_STAT v) Fd.DRP_STAT_FOUND (((s.port v).nodes.filter (fun e => e.2.assigned)).length)
  else s1

/-- The partner tells of a split that begins, moves or ends (R240, R241). -/
def State.takeSplit (s : State) (P : Nat) (on : Bool) (last : Nat) : State :=
  if s.role = 1 then
    (if on then (if s.splitOn P then s else s.splitBegins P) else if s.splitOn P then s.splitEnds P else s)
  else
    let q := if s.drpMode P = 1 then P + 1 else P
    if s.splitOn q then s.showSplit q true last else s

/-- SPLIT_DETECT: a second end has seen no valid D_SOF for one superframe and 8 ticks, and serves the chain (R240). -/
def opSplitDetect (q : Nat) (s : State) : State :=
  if (s.secondOf q).isNone || s.drpState q != 5 then s
  else
    let P := s.chainPort q
    let start := if s.role = 0 then (s.port P).startSf else some 0
    let s1 := (s.setDrp q 6).onPort q (fun x => { x with farGood := 0, good := 0, startSf := start })
    (s1.splitBegins (s.splitPage q)).tellSplit P true 0
def execSplitDetect (port : Fin 16) (s : State) : Host.Outcome State Fault Refusal := ok (opSplitDetect port.val s)

/-- DOWNSTREAM_FRAME: a frame of the first end arrives at a second end (R224, R239, R241). It answers as an end node,
measures D_total, and after two consecutive valid frames is FAR_END. -/
def opDownstreamFrame (q : Nat) (arr : Time) (sfn : Nat) (valid : Bool) (s : State) : State :=
  match s.secondOf q with
  | none => s
  | some P =>
    if !valid ∨ s.superframe = 0 then s.onPort q (fun x => { x with farGood := 0 })
    else
      let top := (arr.toNat + lead - s.sched.epoch.toNat) / s.superframe
      let j := top - (top + 256 - sfn % 256) % 256
      let total := arr.toNat - (s.dsof j).toNat
      let good := (s.port q).farGood + 1
      let s1 := (s.onPort q (fun x => { x with farGood := good })).emitOut (.driari q 2 (arr + 256)
        [uSof, sfn % 256, crc8 (by1 sfn) % 256] (s.superframe / 40 - 3))
      let serving := s.drpState q = 6
      let s2 := if serving ∧ good < 2 then s1 else s1.setDrp q 5
      let s3 := if serving ∧ 2 ≤ good then (s2.splitEnds (s.splitPage q)).tellSplit P false 0 else s2
      if s.role = 0 then s3.setTotal P total
      else if (s.port q).dTotal = some total then s3
      else
        (s3.onPort q (fun x => { x with dTotal := some total })).sendLane 1 7 (.bulk (.dTotal P total))
def execDownstreamFrame (port : Fin 16) (arr : Time) (sfn : Nat) (valid : Bool) (s : State) :
    Host.Outcome State Fault Refusal := ok (opDownstreamFrame port.val arr sfn valid s)

/-! ### Host commands to nodes -/

/-- NODE_CMD (R244). -/
def opNodeCmd (q : Nat) (s : State) : State :=
  let c0 := (s.rd (Reg.DRP_NCMD0 q)).toNat
  let op := c0 / 256 % 256
  if !(op == 2 || op == 9 || op == 0xA) then s.err (0x20 + q) Err.DRP_RANGE
  else if (s.port q).busy || s.drpState q != 2 || s.role == 2 then s.err (0x20 + q) Err.DRP_BUSY
  else
    let args := leBytes 2 (c0 / 65536) ++ leBytes 3 (s.rd (Reg.DRP_NCMD1 q)).toNat
    (s.onPort q (fun x => { x with busy := true, queue := ⟨c0 % 256, op, args, true⟩ :: x.queue })).wr (Reg.DRP_NRSP1 q)
      (w32 ((s.rd (Reg.DRP_NRSP1 q)).toNat % 2 ^ 24))
def execNodeCmd (port : Fin 16) (s : State) : Host.Outcome State Fault Refusal := ok (opNodeCmd port.val s)

/-- NODE_CMD_TIMEOUT: no reply 51,563 ticks after its expected arrival (R244). -/
def opNodeCmdTimeout (q : Nat) (s : State) : State :=
  let x := s.port q
  if !x.busy || !x.outs.any (fun o => o.2.host) then s
  else
    ((s.setPort q { x with busy := false, outs := x.outs.filter (fun o => !o.2.host) }).wr (Reg.DRP_NRSP1 q)
      (w32 ((s.rd (Reg.DRP_NRSP1 q)).toNat % 2 ^ 24 + 2 ^ 25))).raise (0x20 + q) 4
def execNodeCmdTimeout (port : Fin 16) (s : State) : Host.Outcome State Fault Refusal := ok (opNodeCmdTimeout port.val s)

end Sys2Proof.Machine
end

