-- ==== Sys2Proof/Machine/Raman.lean ====
section
/-!
DEFINITION. The temperature profile: taking-part shots, accumulation, conversion and TEMP_PROFILE records (R72, R141 to
R151).
-/

namespace Sys2Proof.Machine

/-- Shot n takes part (R142). -/
def State.takesPart (s : State) (n : Nat) : Bool := s.rmnActive && n % s.rmnStride == 0

/-- Shots of an interval. -/
def State.rmnLen (s : State) : Nat := s.rmnStride * 2 ^ s.rmnD

/-- The flags a shot in progress gives the interval: STUCK while RAMAN_STUCK is in force (R145). -/
def State.rmnStuck (s : State) (i : RmnInt) : RmnInt :=
  if s.flag Reg.OFE_STAT Fd.OFE_STAT_RAMAN_STUCK then i.flag 3 else i

/-- The first shot of the interval that shot n belongs to, and its launch LTC (R143). -/
def State.rmnFirst (s : State) (n : Nat) : Nat := n / s.rmnLen * s.rmnLen
def State.rmnStart (s : State) (n : Nat) : Time := s.atPeriod (s.rmnFirst n) s.shotPeriod

/-- Shot n is the last taking-part shot of its interval (R143, R144). -/
def State.rmnLast (s : State) (n : Nat) : Bool := (n + s.rmnStride) % s.rmnLen == 0

/-- End of the Raman window of a shot launched at L (R72, R141). -/
def State.rmnStop (s : State) (L : Time) : Time :=
  L + BitVec.ofNat 64 ((s.rd Reg.OFE_RMN_DELAY).toNat % 65536 + 4 * s.rmnP)

/-- Shot n belongs to the interval in progress: that has begun and started with the same shot, or spans a switch (R151). -/
def State.rmnInCur (s : State) (n : Nat) : Bool :=
  let i := s.tmp.cur
  i.started && (i.start == s.rmnStart n || (i.flags / 64 % 2 == 1 && s.rmnFirst n == 0))

/-- The interval in progress ends, with its last window at `stop`, and waits for its conversion (R144). -/
def State.rmnClose (s : State) (stop : Time) : State :=
  let done := { s.tmp.cur with stop := some stop }
  ({ s with tmp := { s.tmp with cur := RmnInt.init, conv := s.tmp.conv ++ [done] } }.wr Reg.TMP_ACC_SHOTS 0).wf Reg.TMP_STAT
    Fd.TMP_STAT_CONVERTING 1

/-- An interval in progress that shot n does not belong to has passed with its last shots unprocessed: it ends with what it
accumulated (R144, R150). DESIGN CHOICE (log 134). -/
def State.rmnOverdue (s : State) (n : Nat) : State :=
  if !s.tmp.cur.started ∨ s.rmnInCur n then s
  else { s with tmp := { s.tmp with cur := s.tmp.cur.flag 2 } }.rmnClose (s.rmnStart n)

/-- The interval of shot n is the one in progress, begun with it where it is new (R143, R144). -/
def State.rmnBegin (s0 : State) (n : Nat) : State :=
  let s := s0.rmnOverdue n
  if s.rmnInCur n then s
  else { s with tmp := { s.tmp with cur := { RmnInt.init with started := true, start := s.rmnStart n } } }

/-- Taking-part shot n of the interval in progress, launch LTC L, is not processed (R142, R150): the interval's record bears
flag `bit`, and the interval ends where the shot was its last. -/
def State.ramanSkip (s : State) (n : Nat) (L : Time) (bit : Nat) : State :=
  if !s.takesPart n ∨ (bit ≠ 9 ∧ !s.rmnInCur n) then s
  else
    let s0 := s.rmnBegin n
    let s1 := { s0 with tmp := { s0.tmp with cur := s0.tmp.cur.flag bit, lastNo := some n } }
    if s1.rmnLast n then s1.rmnClose (s1.rmnStop L) else s1

/-- Shot n begins at its launch L (R142, R143, R150): the interval it belongs to starts with it where it is new. -/
def State.ramanShot (s0 : State) (n : Nat) (L : Time) (dark holdover : Bool) : State :=
  if !s0.takesPart n then s0
  else
    let keep := s0.rmnInCur n
    let s := s0.rmnBegin n
    let t := s.tmp
    let cur0 := t.cur
    let expected := match t.lastNo with
      | some m => m + s.rmnStride
      | none => 0
    let cur1 := if n = expected ∨ (!keep && n == s.rmnFirst n) then cur0 else cur0.flag 2
    let cur2 := if dark then cur1.flag 0 else cur1
    let cur3 := s.rmnStuck (if holdover then cur2.flag 1 else cur2)
    let s1 := { s with
      tmp := { t with cur := cur3, shot := some (n, L), pos := 0, buf := [], clip := false, lastNo := some n }
      ofe := { s.ofe with rmnMin := [4095, 4095], rmnMax := [0, 0], dark := dark } }
    if dark then s1.count Reg.TMP_MISSED else s1

/-- A sample enters the sum of its position (R143). -/
def addAt (m : List (Nat × Nat)) (q v : Nat) : List (Nat × Nat) :=
  NMap.set (fun _ => 0) m q (NMap.get (fun _ => 0) m q + v)

/-- A shot's samples enter the sums; those of the first accumulated shot are stored in their place (R143). -/
def RmnInt.accumulate (i : RmnInt) (L : Time) (buf : List (Nat × Nat)) (clip : Bool) : RmnInt :=
  let j := if i.shots = 0 then { i with st := [], as_ := [] } else i
  let k := { j with
    shots := i.shots + 1, first := some (i.first.getD L)
    st := (buf.zipIdx).foldl (fun m e => addAt m e.2 e.1.1) j.st
    as_ := (buf.zipIdx).foldl (fun m e => addAt m e.2 e.1.2) j.as_ }
  if clip then k.flag 8 else k

/-- RAMAN_STUCK from the ranges of the shot's window (R83). -/
def State.rmnRange (s : State) : State :=
  let range (i : Nat) : Nat := nth s.ofe.rmnMax i 0 - nth s.ofe.rmnMin i 0
  let low := (s.ofe.rmnLow.zipIdx).map (fun e => if range e.2 < 16 then e.1 + 1 else 0)
  let stuck := low.any (fun k => decide (256 ≤ k))
  let was := s.flag Reg.OFE_STAT Fd.OFE_STAT_RAMAN_STUCK
  let s1 := { s with ofe := { s.ofe with rmnLow := low } }.wf Reg.OFE_STAT Fd.OFE_STAT_RAMAN_STUCK (b2n stuck)
  if stuck && !was then (s1.err 0x10 Err.RAMAN_STUCK).raise 0x10 4 else s1

/-- The Raman window of a shot ends (R80, R83, R143, R144): unless it is dark the shot is accumulated. -/
def State.ramanEnd (s : State) (n : Nat) (L : Time) : State :=
  let s1 := s.rmnRange
  let t := s1.tmp
  let cur := s1.rmnStuck (if s1.ofe.dark then t.cur else t.cur.accumulate L t.buf t.clip)
  let s2 := { s1 with tmp := { t with cur := cur, shot := none, pos := 0, buf := [], clip := false } }
  let s3 := if s2.rmnLast n then s2.rmnClose (s2.rmnStop L) else s2.wr Reg.TMP_ACC_SHOTS (w32 cur.shots)
  (s3.elemExchange 4).rotationCheck

/-- One raw Raman sample of the shot in progress, on the hub that owns it or as forwarded (R143, R145, R152). -/
def State.ramanSample (s : State) (st as_ : Nat) : State :=
  match s.tmp.shot with
  | none => s
  | some (n, L) =>
    let q := s.tmp.pos
    let s0 := s.advance (L + BitVec.ofNat 64 ((s.rd Reg.OFE_RMN_DELAY).toNat % 65536 + 4 * q))
    let clip (v : Nat) : Nat := b2n (v == 0 || v == 4095)
    let clips := clip st + clip as_
    let s1 := if clips = 0 then s0 else s0.countN Reg.OFE_CLIP_RMN clips
    let s2 := { s1 with
      ofe := { s1.ofe with
        rmnMin := [min (nth s1.ofe.rmnMin 0 0) st, min (nth s1.ofe.rmnMin 1 0) as_],
        rmnMax := [max (nth s1.ofe.rmnMax 0 0) st, max (nth s1.ofe.rmnMax 1 0) as_] }
      tmp := { s1.tmp with
        pos := q + 1, buf := s1.tmp.buf ++ [(st, as_)], clip := s1.tmp.clip || clips != 0 } }
    if q + 1 = s2.rmnP then s2.ramanEnd n L else s2

/-- RAMAN_SAMPLE: a standby's samples are those its partner forwards (R152); the active hub forwards those of a shot in
progress. -/
def opRamanSample (st as_ : Nat) (s : State) : State :=
  if s.role = 2 then s
  else
    let s1 := match s.tmp.shot with
      | some (n, L) =>
        if s.hasStandby then s.sendLane 0 2 (.feedF ⟨n, 0, L, s.ofe.dark, s.inHoldover, false, [], [(st, as_)]⟩) else s
      | none => s
    s1.ramanSample st as_

def execRamanSample (st as_ : Fin 4096) (s : State) : Host.Outcome State Fault Refusal :=
  ok (opRamanSample st.val as_.val s)

/-! ### Conversion -/

/-- The sum of positions from `lo`, `n` of them. -/
def sumRange (m : List (Nat × Nat)) (lo n : Nat) : Nat :=
  (m.filter (fun e => decide (lo ≤ e.1) && decide (e.1 < lo + n))).foldl (fun a e => a + e.2) 0

/-- A whole number as binary32. -/
def f32Nat (n : Nat) : Word := f32OfScaled (n : Int) 0

/-- The mean sample of positions from `lo`, `n` of them. -/
def RmnInt.mean (i : RmnInt) (m : List (Nat × Nat)) (lo n : Nat) : Word :=
  f32Div (f32Nat (sumRange m lo n)) (f32Nat (i.shots * n))

/-- Dark levels of the two channels (R147). -/
def State.rmnDark (s : State) (i : RmnInt) : Word × Word :=
  let n := (s.rd Reg.TMP_DARK_COUNT).toNat % 2 ^ 17
  let f := (s.rd Reg.TMP_DARK_FIRST).toNat % 2 ^ 17
  if n = 0 then (s.rd Reg.TMP_OFFS_S, s.rd Reg.TMP_OFFS_AS) else (i.mean i.st f n, i.mean i.as_ f n)

/-- steps(x) for x = c2/2 (R146): the used steps whose position is at or below x. -/
def State.rmnSteps (s : State) (c2 : Nat) : Word :=
  (List.range 8).foldl (fun a k =>
    let p := (s.rd (Reg.TMP_STEP_POS k)).toNat % 2 ^ 17
    if p ≠ 0 ∧ 2 * p ≤ c2 then f32Add a (s.rd (Reg.TMP_STEP_VAL k)) else a) 0

/-- The loss-corrected log ratio of the `n` positions from `lo` on; none for an invalid bin (R146). -/
def State.rmnLog (s : State) (i : RmnInt) (dark : Word × Word) (lo n : Nat) : Option Word :=
  let sv := f32Sub (i.mean i.st lo n) dark.1
  let av := f32Sub (i.mean i.as_ lo n) dark.2
  if !f32Lt 0 sv ∨ !f32Lt 0 av then none
  else
    let c2 := 2 * lo + n - 1
    some (f32Add (f32Add (f32Ln (f32Div av sv)) (f32Mul (s.rd Reg.TMP_ALPHA) (f32OfScaled (c2 : Int) (-1))))
      (s.rmnSteps c2))

/-- The mean of a list of log ratios; none where one is invalid or there is none (R148, R149). -/
def meanLog (ls : List (Option Word)) : Option Word :=
  if ls = [] ∨ ls.any Option.isNone then none
  else some (f32Div ((ls.filterMap id).foldl f32Add 0) (f32Nat ls.length))

/-- 273.15 as binary32. -/
abbrev kelvin0 : Word := 0x43889333

/-- A temperature in kelvin as the records bear it (R148). -/
def tempCode (t : Word) : Int :=
  f32RoundSat (-32767) 32767 (f32Mul 0x42C80000 (f32Sub t kelvin0))

/-- The value of a bin (R148, R149). -/
def State.rmnBin (s : State) (tRef lRef : Word) (l : Option Word) : Int :=
  match l with
  | none => -32768
  | some lv =>
    let inv := f32Sub (f32Div 0x3F800000 tRef) (f32Div (f32Sub lv lRef) (s.rd Reg.TMP_GAMMA))
    if !f32Lt 0 inv then -32768 else tempCode (f32Div 0x3F800000 inv)

/-- SPACING of a TEMP_PROFILE record in µm (R150). -/
def State.rmnSpacing (s : State) : Nat :=
  let gi := (s.rd Reg.FEN_GROUP_INDEX).toNat
  (roundDiv (2 ^ s.rmnB * 4 * 299792458 * 1000000 * 2 ^ 28 : Nat) (2 * gi * 1031250000)).toNat

/-- The payload of a TEMP_PROFILE record (R150). -/
def State.profilePayload (s : State) (first profile shots flags : Nat) (tRef : Int) (bins : List Int) : List Byte :=
  let body := bins.flatMap (fun v => le2 (unsigned 16 v))
  pad16 (le4 first ++ le4 bins.length ++ le4 profile ++ le4 shots ++ by1 s.rmnD ++ by1 s.rmnB ++ le2 flags ++
    le2 (unsigned 16 tRef) ++ le2 0 ++ le4 s.rmnSpacing ++ le4 0 ++ body)

/-- Emit the records of a profile, BLOCK bins each, in ascending bin order (R150). -/
def State.emitProfile (s : State) (ref : Time) (profile shots flags : Nat) (tRef : Int) :
    Nat → Nat → List Int → State
  | 0, _, _ => s
  | fuel + 1, first, bins =>
    if bins = [] then s
    else
      let blk := (s.rd Reg.TMP_BLOCK).toNat % 2 ^ 15
      let n := if blk = 0 then bins.length else blk
      (s.emit 0x9 0x3 0 ref (s.profilePayload first profile shots flags tRef (bins.take n))).emitProfile ref profile
        shots flags tRef fuel (first + n) (bins.drop n)

/-- The reference temperature of an interval: T_ref in kelvin if any, and whether it is an earlier one (R148, R149). -/
def State.rmnTRef (s : State) (i : RmnInt) : Option Word × Bool :=
  let r := i.ref ((s.rd Reg.TMP_REF_CH).toNat % 64)
  if r.2 = 0 then (s.tmp.tRef, s.tmp.tRef.isSome)
  else (some (f32Add (f32Mul (s.rd Reg.TMP_REF_GAIN) (f32Div r.1 (f32Nat r.2))) (s.rd Reg.TMP_REF_OFFS)), false)

/-- RAMAN_CONVERSION (R144 to R150): the oldest interval that waits becomes a profile, with the fields of the plan that now
runs. DESIGN CHOICE (log 135) where that is not the plan under which it ended. -/
def opRamanConversion (s : State) : State :=
  match s.tmp.conv with
  | [] => s
  | i :: rest =>
    let B := 2 ^ s.rmnB
    let nb := s.rmnP / B
    let dark := s.rmnDark i
    let rf := (s.rd Reg.TMP_REF_FIRST).toNat % 2 ^ 17
    let rc := (s.rd Reg.TMP_REF_COUNT).toNat % 2 ^ 17
    let tr := s.rmnTRef i
    let lRef := if i.shots = 0 then none else meanLog ((List.range rc).map (fun k => s.rmnLog i dark (rf + k) 1))
    let stuck := i.flags / 8 % 2 == 1
    let whole := i.shots == 0 || stuck || tr.1.isNone || lRef.isNone
    let bins : List Int := match tr.1, lRef with
      | some t, some l =>
        if whole then List.replicate nb (-32768)
        else (List.range nb).map (fun b => s.rmnBin t l (s.rmnLog i dark (b * B) B))
      | _, _ => List.replicate nb (-32768)
    let flags := i.flags + 16 * b2n tr.2 + 32 * b2n tr.1.isNone + 128 * b2n whole
    let tCode : Int := match tr.1 with
      | some t => tempCode t
      | none => -32768
    let n := s.tmp.profile
    let s1 := { s with tmp := { s.tmp with conv := rest, profile := (n + 1) % 2 ^ 32, tRef := tr.1 } }
    let s2 := (s1.wr Reg.TMP_STAT (w32 (b2n s.rmnActive + 2 * b2n (rest != []) + 4 * b2n tr.2 + 8 * b2n tr.1.isNone))).wr Reg.TMP_T_REF
      (w32 (unsigned 16 tCode))
    let s3 := ((s2.emitProfile (i.first.getD i.start) n i.shots flags tCode (nb + 1) 0 bins).countMod
      Reg.TMP_PROFILES).raise 0x14 0
    let s4 := s3.countN Reg.TMP_INVALID_POS ((bins.filter (fun v => v == -32768)).length)
    let s5 := if tr.2 then (s4.err 0x14 Err.TMP_REF_OLD).raise 0x14 1
      else if tr.1.isNone then (s4.err 0x14 Err.TMP_REF_NONE).raise 0x14 1 else s4
    if whole then (s5.err 0x14 Err.TMP_INVALID).raise 0x14 2 else s5

def execRamanConversion (s : State) : Host.Outcome State Fault Refusal := ok (opRamanConversion s)

/-- A plan switch that changes stride, depth or positions ends the interval in progress with one record (R151). DESIGN
CHOICE (log 136): the record takes a profile number, counts in PROFILES and raises PROFILE, bears the last T_ref, and raises
no INVALID. -/
def State.discardProfile (s : State) : State :=
  let i := s.tmp.cur
  if !i.started then s
  else
    let n := s.tmp.profile
    let t : Int := match s.tmp.tRef with | some w => tempCode w | none => -32768
    let s1 := { s with tmp := { s.tmp with cur := RmnInt.init, shot := none, pos := 0, buf := [], clip := false, profile := (n + 1) % 2 ^ 32 } }
    ((((s1.emit 0x9 0x3 0 (i.first.getD i.start) (s1.profilePayload 0 n i.shots (i.flags + 128 + 1024) t [])).countMod
      Reg.TMP_PROFILES).raise 0x14 0).err 0x14 Err.TMP_INVALID).wr Reg.TMP_ACC_SHOTS 0

end Sys2Proof.Machine
end

