-- ==== Sys2Proof/Machine/Engine.lean ====
section
/-!
DEFINITION. The fibre phase engine: point record fields, stages 1 to 7 (R86 to R104, R121, R122).
-/

namespace Sys2Proof.Machine

/-! ### Point records -/

/-- A field of the point record (R121): word, lowest bit, width. -/
structure PFld where
  w : Nat
  lsb : Nat
  width : Nat
  deriving DecidableEq, Repr

/-- A record: six words of 128 bits. -/
abbrev PRec := List Nat

def prGet (r : PRec) (f : PFld) : Nat := nth r f.w 0 / 2 ^ f.lsb % 2 ^ f.width
def prInt (r : PRec) (f : PFld) : Int := signed f.width (prGet r f)
def prPut (r : PRec) (f : PFld) (v : Nat) : PRec :=
  let w := nth r f.w 0
  setAt r f.w (w % 2 ^ f.lsb + 2 ^ f.lsb * (v % 2 ^ f.width) + 2 ^ (f.lsb + f.width) * (w / 2 ^ (f.lsb + f.width)))
def prSet (r : PRec) (f : PFld) (v : Int) : PRec := prPut r f (unsigned f.width v)

abbrev pPHI : PFld := ⟨0, 0, 32⟩
abbrev pDCB : PFld := ⟨0, 32, 40⟩
abbrev pVALID : PFld := ⟨0, 120, 7⟩
abbrev pINIT : PFld := ⟨0, 127, 1⟩
abbrev pFADE : PFld := ⟨1, 64, 1⟩
abbrev pTAG : PFld := ⟨1, 65, 8⟩
abbrev pFCNT : PFld := ⟨1, 73, 8⟩
abbrev pESAT : PFld := ⟨1, 81, 1⟩
abbrev pCLIP : PFld := ⟨1, 82, 1⟩
abbrev pWARM : PFld := ⟨1, 83, 2⟩
abbrev pMIN : PFld := ⟨1, 96, 16⟩
abbrev pMAX : PFld := ⟨1, 112, 16⟩
abbrev pAMP : PFld := ⟨2, 0, 24⟩
/-- Rotator angle i (0 to 6). -/
abbrev pROT (i : Nat) : PFld := if i < 3 then ⟨0, 72 + 16 * i, 16⟩ else ⟨1, 16 * (i - 3), 16⟩
/-- Energy accumulator of band b (1 to 5). -/
abbrev pE (b : Nat) : PFld := ⟨2, 24 + 20 * (b - 1), 20⟩
/-- Fields of half-band stage i (1 to 4): BP, CP, XP, HC, HN. -/
abbrev pBP (i : Nat) : PFld := ⟨3 + (i - 1) / 2, 57 * ((i - 1) % 2), 21⟩
abbrev pCP (i : Nat) : PFld := ⟨3 + (i - 1) / 2, 57 * ((i - 1) % 2) + 21, 20⟩
abbrev pXP (i : Nat) : PFld := ⟨3 + (i - 1) / 2, 57 * ((i - 1) % 2) + 41, 16⟩
abbrev pHC (i : Nat) : PFld := ⟨5, 16 * (i - 1), 16⟩
abbrev pHN (i : Nat) : PFld := ⟨5, 64 + 16 * (i - 1), 16⟩

/-- The initial state of a record (R122). -/
def prInit : PRec := [2 ^ 127, 0, 0, 0, 0, 0]

/-- A record of the store. -/
def State.point (s : State) (p : Nat) : PRec := NMap.get (fun _ => prInit) s.fib.pss p
def State.setPoint (s : State) (p : Nat) (r : PRec) : State :=
  { s with fib := { s.fib with pss := NMap.set (fun _ => prInit) s.fib.pss p r } }

/-- The bytes a record shows in the snapshot window and gives to the digest (R119, R391). -/
def prBytes (r : PRec) : List Byte := (List.range 6).flatMap (fun w => leBytes 16 (nth r w 0))

/-! ### Numbers -/

/-- The largest whole number whose square is at most n; n below 2^256. -/
def isqrt (n : Nat) : Nat :=
  (List.range 128).foldl (fun r i => let t := r + 2 ^ (127 - i); if t * t ≤ n then t else r) 0

/-- a / √d rounded to nearest, ties away from zero; 0 for d = 0. -/
def divSqrt (a : Int) (d : Nat) : Int :=
  if d = 0 then 0
  else
    let r : Nat := (isqrt (4 * a.natAbs * a.natAbs / d) + 1) / 2
    if a < 0 then -(r : Int) else (r : Int)

/-- √n rounded to nearest. -/
def roundSqrt (n : Nat) : Nat := (isqrt (4 * n) + 1) / 2

def Cplx.add (a b : Cplx) : Cplx := ⟨a.re + b.re, a.im + b.im⟩
/-- a · b*. -/
def Cplx.mulConj (a b : Cplx) : Cplx := ⟨a.re * b.re + a.im * b.im, a.im * b.re - a.re * b.im⟩
def Cplx.mul (a b : Cplx) : Cplx := ⟨a.re * b.re - a.im * b.im, a.re * b.im + a.im * b.re⟩
def Cplx.norm (a : Cplx) : Nat := a.re.natAbs * a.re.natAbs + a.im.natAbs * a.im.natAbs
abbrev Cplx.zero : Cplx := ⟨0, 0⟩

/-- Cosine and sine of π/4, π/8, … π/2^15, 64 fraction bits. -/
def angleTable : List (Int × Int) :=
  [(13043817825332782212, 13043817825332782212), (17042569291174129989, 7059263338087549767),
    (18092295058859852118, 3598781241489102189), (18357917958986607856, 1808097102496279522),
    (18424524162600791837, 905138830610008563), (18441188259278644697, 452705761816584062),
    (18445355067807029948, 226369926147403917), (18446396818965434987, 113187093788755730),
    (18446657259819241109, 56593813235639762), (18446722370224206390, 28296939910536374),
    (18446738647837417334, 14148474116859585), (18446742717241468172, 7074237578628774),
    (18446743734592527638, 3537118854339262), (18446743988930295427, 1768559435297740)]

/-- The angle of a vector in the first quadrant in units of 2π/65,536, rounded down, and whether it is exact: bit by
bit, turning the vector back by each angle that does not pass the axis. -/
def angleBits (x y : Int) (n : Nat) : List (Int × Int) → Nat × Bool
  | [] => (n, decide (y = 0))
  | (c, sn) :: t =>
    if 0 ≤ y * c - x * sn then angleBits (x * c + y * sn) (y * c - x * sn) (2 * n + 1) t
    else angleBits x y (2 * n) t

/-- The angle of a vector that is not 0, from 0 to below 65,536, rounded down, and whether it is exact. -/
def argFloor (v : Cplx) : Nat × Bool :=
  let f (q : Nat) (x y : Int) : Nat × Bool :=
    let r := angleBits x y 0 angleTable
    (16384 * q + r.1, r.2)
  if 0 < v.re ∧ 0 ≤ v.im then f 0 v.re v.im
  else if v.re ≤ 0 ∧ 0 < v.im then f 1 v.im (-v.re)
  else if v.re < 0 ∧ v.im ≤ 0 then f 2 (-v.re) (-v.im)
  else f 3 (-v.im) v.re

/-- arg(v) to 16 bits within ±1 LSB (R97): which of the values that lie within is a free value. DESIGN CHOICE (log 54): the
angle of R98 has the same tolerance. -/
def argOf (v : Cplx) : Nat :=
  let (n, exact) := argFloor v
  let e := Config.phaseErr v.re v.im
  if exact then (n + 65535 + e % 3) % 65536 else (n + e % 2) % 65536

/-- A vector turned by an angle given as its cosine and sine, 64 fraction bits. -/
def turn (v a : Int × Int) : Int × Int :=
  (roundShr (v.1 * a.1 - v.2 * a.2) 64, roundShr (v.1 * a.2 + v.2 * a.1) 64)

/-- Cosine and sine of a 32-bit phase, 64 fraction bits: the quadrant, the 14 bits that follow from `angleTable`, and the
rest as a small angle d with cos d = 1 − d²/2 and sin d = d, of which 2^-32 of a turn is 26,986,075,409 · 2^-64. -/
def cosSin (ph : Nat) : Int × Int :=
  let d : Int := (ph % 65536 * 26986075409 : Nat)
  let t := ph % 2 ^ 30 / 65536
  let v := (angleTable.zipIdx).foldl (fun v e => if t.testBit (13 - e.2) then turn v e.1 else v)
    (2 ^ 64 - d * d / 2 ^ 65, d)
  match ph / 2 ^ 30 with
  | 0 => v
  | 1 => (-v.2, v.1)
  | 2 => (-v.1, -v.2)
  | _ => (v.2, -v.1)

/-- The entry of an 18-bit table, 17 fraction bits, for a value of 64 fraction bits (R88, R97). DESIGN CHOICE (log 53): within
`tol` of it, and which is a free value. -/
def tableEntry (t place tol : Nat) (v : Int) : Int :=
  clampI (-131072) 131071 (roundShr v 47 + ((Config.tableErr t place % (2 * tol + 1) : Nat) : Int) - tol)

/-- Sine and cosine of an oscillator at a 32-bit phase (R88). -/
def ncoCos (ph : Nat) : Int := tableEntry 0 ph 4 (cosSin ph).1
def ncoSin (ph : Nat) : Int := tableEntry 1 ph 4 (cosSin ph).2

/-- Sine and cosine of a rotation by a 16-bit angle (R97). -/
def rotCos (phi : Nat) : Int := tableEntry 2 phi 1 (cosSin (65536 * phi)).1
def rotSin (phi : Nat) : Int := tableEntry 3 phi 1 (cosSin (65536 * phi)).2

/-- The coefficient at odd distance 2m + 1 from the centre, m from 1 to 11, 17 fraction bits: a free value within ±2^15/(m + 1)
(log 53). -/
def sideTap (m : Nat) : Int :=
  let b := 32768 / (m + 1)
  ((Config.engineTap m % (2 * b + 1) : Nat) : Int) - b

/-- Coefficient i of the 47-tap symmetric half-band, 17 fraction bits, 18 bits wide (R89): one half in the centre, 0 at the
other even distances, and the two nearest the centre make the DC gain 1. -/
def engineTap (i : Nat) : Int :=
  let d := if i < 23 then 23 - i else i - 23
  if d = 0 then 65536
  else if d % 2 = 0 then 0
  else if d = 1 then 32768 - ((List.range 11).map (fun m => sideTap (m + 1))).sum
  else sideTap (d / 2)

/-- A 16-bit difference as a signed number (R98, R101). -/
def wrap16 (v : Int) : Int := signed 16 (unsigned 16 v)

/-! ### The plan's figures -/

def State.fenN (s : State) : Nat := s.rf Reg.FEN_POINTS Fd.FEN_POINTS_N
def State.fenG (s : State) : Nat := s.rf Reg.FEN_CFG Fd.FEN_CFG_GAUGE
def State.fenK (s : State) : Nat := 2 ^ s.rf Reg.FEN_CFG Fd.FEN_CFG_KSEL
/-- c of R95. -/
def State.fenC (s : State) : Nat := (s.fenG + s.fenK - 1) / 2
/-- Raw samples per point S, and half-band stages (R86). -/
def State.fenS (s : State) : Nat := nth [2, 4, 8, 8] s.fenMode 2
def State.fenStages (s : State) : Nat := nth [1, 2, 3, 3] s.fenMode 1
/-- The slots the launch in progress processes (R86, R97). -/
def State.fenSlots (s : State) : List Nat :=
  match s.fenMode with
  | 0 => [0]
  | 1 => [0, 1]
  | 2 => [0, 1, 2, 3]
  | _ => [s.fib.cur.slot]
/-- An edge point (R96). -/
def State.edgePoint (s : State) (p : Nat) : Bool :=
  decide (p + s.fenC < s.fenG + s.fenK - 1) || decide (s.fenN ≤ p + s.fenC)
/-- Latency A (R105). -/
def State.fenA (s : State) : Nat := 768 + s.fenS * (s.rf Reg.FEN_MF_CFG Fd.FEN_MF_CFG_TAPS / 2 + s.fenC)
/-- The engine works for the running plan (R106, R111). -/
def State.fenActive (s : State) : Bool := s.schedulesShots && s.fenN != 0

/-! ### Stages 1 to 4 -/

/-- Stage 1 (R88): raw sample i of the window, down-converted by slot j; zero outside the window. -/
def State.stage1 (s : State) (j : Nat) (i : Nat) : Cplx × Cplx :=
  match s.fib.cur.raw[i]? with
  | none => (Cplx.zero, Cplx.zero)
  | some (xi, xq, yi, yq) =>
    let ph := (s.rd (Reg.FEN_NCO_FREQ j)).toNat * i % 2 ^ 32
    let c := ncoCos ph
    let n := ncoSin ph
    let f (a b : Int) : Cplx := ⟨satS 18 (roundShr (a * c + b * n) 13), satS 18 (roundShr (b * c - a * n) 13)⟩
    (f xi xq, f yi yq)

/-- Stage 2 (R89, R90): output k after `level` half-bands, centred on raw sample k · 2^level. -/
def State.stage2 (s : State) (j : Nat) : Nat → Int → Cplx × Cplx
  | 0, k => if k < 0 then (Cplx.zero, Cplx.zero) else s.stage1 j k.toNat
  | level + 1, k =>
    let taps := (List.range 47).map (fun i => (engineTap i, s.stage2 j level (2 * k + 23 - i)))
    let f (g : Cplx × Cplx → Int) : Int := satS 18 (roundShr ((taps.map (fun e => e.1 * g e.2)).sum) 17)
    (⟨f (fun v => v.1.re), f (fun v => v.1.im)⟩, ⟨f (fun v => v.2.re), f (fun v => v.2.im)⟩)

/-- Slot sample k of slot j; outside the slot's window zero (R92). -/
def State.slotSample (s : State) (j : Nat) (k : Int) : Cplx × Cplx :=
  if k < 0 ∨ ((s.pln.run.map Plan.window).getD 0 / s.fenS : Nat) ≤ k then (Cplx.zero, Cplx.zero)
  else s.stage2 j s.fenStages k

/-- A tap of slot j's matched filter: 16-bit real and imaginary part; with TAPS 0 a single +1.0 (R91, R92). -/
def State.mfTap (s : State) (j i : Nat) : Cplx :=
  if s.rf Reg.FEN_MF_CFG Fd.FEN_MF_CFG_TAPS = 0 then ⟨32768, 0⟩
  else
    let w := ((s.pln.run.map (fun p => Plan.tabAt p (tabTap j i))).getD 0).toNat
    ⟨signed 16 w, signed 16 (w / 65536)⟩

/-- A complex number saturated to 16 bits, and whether that changed it (R92). -/
def sat16c (v : Cplx) : Cplx × Bool :=
  let r : Cplx := ⟨satS 16 v.re, satS 16 v.im⟩
  (r, decide (r ≠ v))

/-- Stage 3 (R91): X and Y of point p of slot j, with the number of saturated outputs. Tap i multiplies slot sample
p − floor(T/2) + i: the plan holds the taps time-reversed. -/
def State.stage3 (s : State) (j p : Nat) : (Cplx × Cplx) × Nat :=
  let T := max 1 (s.rf Reg.FEN_MF_CFG Fd.FEN_MF_CFG_TAPS)
  let sh := 17 + s.rf Reg.FEN_MF_CFG Fd.FEN_MF_CFG_SHIFT
  let terms := (List.range T).map (fun i =>
    (s.mfTap j i, s.slotSample j ((p : Int) - (T / 2 : Nat) + (i : Nat))))
  let sum (g : Cplx × Cplx → Cplx) : Cplx := terms.foldl (fun a e => a.add (Cplx.mul e.1 (g e.2))) Cplx.zero
  let out (v : Cplx) : Cplx × Bool := sat16c ⟨roundShr v.re sh, roundShr v.im sh⟩
  let x := out (sum Prod.fst)
  let y := out (sum Prod.snd)
  ((x.1, y.1), b2n x.2 + b2n y.2)

/-- Stage 4 (R93): Z of point p from the outputs of stage 3, with the half-width W. -/
def combine (xy : List (Cplx × Cplx)) (n W p : Nat) : Cplx × Bool :=
  let win := (List.range (2 * W + 1)).filterMap (fun i =>
    if p + i < W ∨ n ≤ p + i - W then none else xy[p + i - W]?)
  let px := (win.map (fun e => e.1.norm)).sum
  let py := (win.map (fun e => e.2.norm)).sum
  let c := win.foldl (fun a e => a.add (e.1.mulConj e.2)) Cplx.zero
  let at_ := (xy[p]?).getD (Cplx.zero, Cplx.zero)
  let num : Cplx :=
    if py ≤ px then ⟨px * at_.1.re + (c.mul at_.2).re, px * at_.1.im + (c.mul at_.2).im⟩
    else if c = Cplx.zero then ⟨py * at_.2.re, py * at_.2.im⟩
    else
      let a := c.norm
      let d := Cplx.mul c at_.2
      ⟨a * at_.1.re + py * d.re, a * at_.1.im + py * d.im⟩
  let den : Nat :=
    if py ≤ px then px * px + c.norm
    else if c = Cplx.zero then py * py
    else (c.norm + py * py) * c.norm
  sat16c ⟨divSqrt num.re den, divSqrt num.im den⟩

/-- What the launches of the shot in hand share. -/
def State.shotAcc (s : State) : ShotAcc := NMap.get (fun _ => ShotAcc.init) s.fib.acc s.fib.cur.shotNo
def State.onShotAcc (s : State) (f : ShotAcc → ShotAcc) : State :=
  { s with fib := { s.fib with acc := NMap.set (fun _ => ShotAcc.init) s.fib.acc s.fib.cur.shotNo (f s.shotAcc) } }

/-- Outputs of stages 3 and 4 saturate (R92): SAT of the shot's records; a standby's records bear that of the active hub. -/
def State.satShot (s : State) (n : Nat) : State :=
  let s1 := if s.rd Reg.FEN_SAT_COUNT = 0 then s.err 0x11 Err.FEN_SAT else s
  let s2 := if s1.role = 2 then s1 else s1.onShotAcc (fun c => { c with sat := true })
  (s2.countN Reg.FEN_SAT_COUNT n).raise 0x11 0

/-- Bring the outputs of stages 3 and 4 of a slot up to what point p needs; count what saturates (R92). -/
def State.runSlot (s : State) (j p : Nat) : State :=
  let N := s.fenN
  let W := s.rf Reg.FEN_CFG Fd.FEN_CFG_POL_W
  let st := (s.fib.cur.slots[j]?).getD SlotStream.init
  let want3 := min N (p + s.fenC + W + 1)
  let new3 := ((List.range want3).drop st.s3.length).map (fun k => s.stage3 j k)
  let s3 := st.s3 ++ new3.map Prod.fst
  let want4 := min N (p + s.fenC + 1)
  let new4 := ((List.range want4).drop st.z.length).map (fun k => combine s3 N W k)
  let sats := (new3.map Prod.snd).sum + (new4.filter (fun e => e.2)).length
  let f := s.fib.cur
  let s1 := { s with fib := { s.fib with cur := { f with
    slots := setAt (f.slots ++ List.replicate (j + 1 - f.slots.length) SlotStream.init) j
      ⟨s3, st.z ++ new4.map Prod.fst⟩ } } }
  if sats = 0 then s1 else s1.satShot sats

/-- Z of slot j at a point: the hub's own, or on a standby the forwarded one (R94). -/
def State.zAt (s : State) (j q : Nat) : Cplx :=
  if s.role = 2 then NMap.get (fun _ => Cplx.zero) s.fib.cur.fed (2 ^ 20 * j + q)
  else (((s.fib.cur.slots[j]?).getD SlotStream.init).z[q]?).getD Cplx.zero

/-! ### Stages 5 and 6 -/

/-- A vector of a point (R95, R97): its value, and the place of its rotator angle, none for vector 0. -/
structure PVec where
  v : Cplx
  rot : Option Nat
  deriving DecidableEq, Repr

/-- The vectors of point p (R97, R102). -/
def State.vectors (s : State) (p : Nat) : List PVec :=
  let K := s.fenK
  s.fenSlots.flatMap (fun j => (List.range K).map (fun k =>
    let q := p + s.fenC - k
    let i := if s.fenMode = 3 then j * (K - 1) + k - 1 else j * K + k - 1
    ⟨(s.zAt j q).mulConj (s.zAt j (q - s.fenG)), if k = 0 ∧ (s.fenMode = 3 ∨ j = 0) then none else some i⟩))

/-- Both magnitudes pass the condition under which angles update (R98). -/
def State.vecPass (s : State) (v : Cplx) : Bool :=
  let tn := s.rf Reg.FEN_FADE_CFG Fd.FEN_FADE_CFG_THR * (s.rd Reg.FEN_NOISE).toNat
  if tn = 0 then v.norm != 0 else decide (tn * tn ≤ 256 * v.norm)

/-- V · e^(−jφ), rounded to 33 bits (R97). -/
def rotateBack (v : Cplx) (phi : Nat) : Cplx :=
  let c := rotCos phi
  let n := rotSin phi
  ⟨satS 33 (roundShr (v.re * c + v.im * n) 17), satS 33 (roundShr (v.im * c - v.re * n) 17)⟩

/-- What stages 5 and 6 give for a point: R, the magnitudes in 2^-64 of the vectors that entered it, each rounded down,
summed, their number, how many of the magnitudes are not whole, and the record with its angles updated. -/
structure Stage56 where
  r : Cplx
  mags : Nat
  m : Nat
  inexact : Nat
  rec_ : PRec
  deriving DecidableEq, Repr

/-- An angle moved toward a measured one by 2^-BETA of the difference (R98, R102). -/
def trackAngle (phi target beta : Nat) : Nat :=
  unsigned 16 ((phi : Int) + roundShr (wrap16 ((target : Int) - phi)) beta)

/-- |V| in 2^-64, rounded down, and whether that is not exact. -/
def magOf (v : Cplx) : Nat × Bool :=
  let r := isqrt (v.norm * 2 ^ 128)
  (r, r * r != v.norm * 2 ^ 128)

/-- A vector enters the sum as `w` (R97). DESIGN CHOICE (log 54): Σ|V_i| of R99 is that of the vectors that entered. -/
def Stage56.enter (a : Stage56) (v w : Cplx) : Stage56 :=
  let m := magOf v
  { a with r := a.r.add w, mags := a.mags + m.1, m := a.m + 1, inexact := a.inexact + b2n m.2 }

/-- One vector i ≥ 1 of the sum (R97, R98): an angle not yet valid is set before the sum, a valid one tracks after it. -/
def State.addVector (s : State) (v0 : Cplx) (a : Stage56) (x : PVec) : Stage56 :=
  match x.rot with
  | none => a.enter x.v x.v
  | some i =>
    let pass := s.vecPass x.v && s.vecPass v0
    let was := Word.bit (w32 (prGet a.rec_ pVALID)) i
    let ang := argOf (x.v.mulConj v0)
    if !was && !pass then a
    else
      let phi := if was then prGet a.rec_ (pROT i) else ang
      let next := if was && pass then trackAngle phi ang (s.rf Reg.FEN_RVS_CFG Fd.FEN_RVS_CFG_BETA) else phi
      let r1 := prPut (prPut a.rec_ (pROT i) next) pVALID (Word.setBit (w32 (prGet a.rec_ pVALID)) i).toNat
      { a.enter x.v (rotateBack x.v phi) with rec_ := r1 }

/-- Stages 5 and 6 for a point that is not an edge point, on a shot that is not dark (R95 to R98). -/
def State.stage56 (s : State) (p : Nat) (r : PRec) : Stage56 :=
  let vs := s.vectors p
  let v0 := ((vs.head?).map PVec.v).getD Cplx.zero
  vs.foldl (s.addVector v0) ⟨Cplx.zero, 0, 0, 0, r⟩

/-- The formula of R99 for |R| = `r`, Σ|V| = `mags` and the |R| of snr 16 = `full`, all in 2^-64. -/
def qualFormula (r mags full : Nat) : Nat :=
  if mags = 0 then 0 else if full ≤ r then 255 * r / mags else 255 * r * r / (mags * full)

/-- The quality of a point (R99), within ±1 of the formula: which value is a free value (log 54). Where the bounds of the
irrational magnitudes leave two values of the formula, it is one of the two. -/
def State.quality (s : State) (a : Stage56) : Nat :=
  let r := magOf a.r
  let noise := (s.rd Reg.FEN_NOISE).toNat
  let full := 16 * a.m * noise * 2 ^ 64
  let lo := qualFormula r.1 (a.mags + a.inexact) full
  let hi := qualFormula (r.1 + b2n r.2) a.mags full
  let e := Config.qualErr a.r.norm a.mags a.m noise % max 1 (lo + 3 - hi)
  (clampI 0 255 ((hi : Int) - 1 + (e : Nat))).toNat

/-- snr < THR/16 while both THR and NOISE are not 0 (R100). -/
def State.lowSnr (s : State) (a : Stage56) : Bool :=
  let tn := s.rf Reg.FEN_FADE_CFG Fd.FEN_FADE_CFG_THR * (s.rd Reg.FEN_NOISE).toNat * a.m
  tn != 0 && decide (256 * a.r.norm < tn * tn)

/-! ### Stage 7 -/

/-- Φ for a point that is not faded (R101): set on the first, advanced by the wrapped difference after. -/
def unwrapPhi (phi theta o : Nat) (init : Bool) : Nat :=
  if init then unsigned 32 (wrap16 ((theta : Int) - o))
  else unsigned 32 ((phi : Int) + wrap16 ((theta : Int) - o - (phi % 65536 : Nat)))

/-- Place of the offset of slot j ≥ 1 among the rotator angles in Q-stagger (R102). -/
def State.offPlace (s : State) (j : Nat) : Nat := 4 * s.fenK - 4 + (j - 1)

/-- What a point's update gives: its record before the chain, quality, faded, INIT cleared now, θ where the slot itself
is not faded. -/
structure PointOut where
  rec_ : PRec
  q : Nat
  faded : Bool
  born : Bool
  theta : Option Nat
  deriving DecidableEq, Repr

/-- Stage 7 for a point whose slot is not faded by itself (R101, R102). DESIGN CHOICE (log 142): the update that sets a slot's
offset still counts as faded. -/
def State.stage7 (s : State) (p : Nat) (a : Stage56) (q : Nat) (forced : Bool) : PointOut :=
  let theta := argOf a.r
  let j := s.fib.cur.slot
  let init := prGet a.rec_ pINIT == 1
  let set (r : PRec) (o : Nat) : PRec := prPut (prPut r pPHI (unwrapPhi (prGet r pPHI) theta o init)) pINIT 0
  if forced then ⟨a.rec_, 0, true, false, none⟩
  else if s.fenMode ≠ 3 ∨ j = 0 then ⟨set a.rec_ 0, q, false, init, some theta⟩
  else
    let k := s.offPlace j
    let valid := Word.bit (w32 (prGet a.rec_ pVALID)) k
    let o := prGet a.rec_ (pROT k)
    let t0 := NMap.get (fun _ => none) (NMap.get (fun _ => ShotAcc.init) s.fib.acc s.fib.cur.shotNo).theta0 p
    let r1 : PRec := match t0 with
      | none => a.rec_
      | some t =>
        let d := unsigned 16 ((theta : Int) - t)
        let o1 := if valid then trackAngle o d (s.rf Reg.FEN_RVS_CFG Fd.FEN_RVS_CFG_BETA) else d
        prPut (prPut a.rec_ (pROT k) o1) pVALID (Word.setBit (w32 (prGet a.rec_ pVALID)) k).toNat
    if valid && !init then ⟨set r1 o, q, false, false, some theta⟩
    else ⟨r1, q, true, false, some theta⟩

/-- The engine's part of a point's update (R96 to R104). `forced` is a record rebuilt under R117. -/
def State.enginePoint (s : State) (p : Nat) (r : PRec) (forced : Bool) : PointOut :=
  if s.edgePoint p || s.fib.cur.dark then ⟨r, 0, true, false, none⟩
  else
    let a := s.stage56 p r
    let q0 := s.quality a
    let q := if s.rxStuck then 0 else q0
    if a.r = Cplx.zero ∨ s.lowSnr a then ⟨a.rec_, if forced then 0 else q, true, false, none⟩
    else s.stage7 p a q forced

end Sys2Proof.Machine
end

