-- ==== Sys2Proof/Machine/Zones.lean ====
section
/-!
DEFINITION. The temporal chain of a point, zones, contact sheets (R123 to R134).
-/

namespace Sys2Proof.Machine

/-! ### Temporal chain -/

/-- H, k as updates per interval U, and EN_SHIFT (R125, R127). -/
def State.pssH (s : State) : Nat := min 4 (s.rf Reg.PSS_CHAIN_CFG Fd.PSS_CHAIN_CFG_STAGES)
def State.pssLogU (s : State) : Nat :=
  s.rf Reg.PSS_CHAIN_CFG Fd.PSS_CHAIN_CFG_INT_EXP + (if s.fenMode = 3 then 2 else 0)
def State.pssU (s : State) : Nat := 2 ^ s.pssLogU
def State.pssEn (s : State) : Nat := s.rf Reg.PSS_CHAIN_CFG Fd.PSS_CHAIN_CFG_EN_SHIFT

/-- A record with its chain fields cleared (R117, R136). -/
def prClearChain (r : PRec) : PRec :=
  let keep := (List.range 7).map (fun i => prGet r (pROT i))
  let r0 : PRec := [0, 0, 0, 0, 0, 0]
  let r1 := (keep.zipIdx).foldl (fun a e => prPut a (pROT e.2) e.1) r0
  prPut (prPut (prPut (prPut (prPut r1 pPHI (prGet r pPHI)) pVALID (prGet r pVALID)) pINIT (prGet r pINIT)) pFADE
    (prGet r pFADE)) pTAG (prGet r pTAG)

/-- The DC blocker (R124): x0, whether it saturated, and the record with M moved. -/
def dcBlock (r : PRec) (inShift dcb : Nat) (freeze fade : Bool) : Int × Bool × PRec :=
  let m := prGet r pDCB
  let dlt := signed 32 (unsigned 32 ((prGet r pPHI : Int) - (m / 256 : Nat)))
  let raw := roundShr dlt inShift
  let x0 := satS 16 raw
  let r1 := if fade || freeze || dcb == 0 then r
    else prPut r pDCB (unsigned 40 ((m : Int) + roundShr (dlt * 256 - (m % 256 : Nat)) dcb))
  (x0, decide (x0 ≠ raw), r1)

/-- A value s enters band b (R127). -/
def prEnergy (en : Nat) (r : PRec) (b : Nat) (v : Int) : PRec :=
  let e := prGet r (pE b) + v.natAbs * v.natAbs / 2 ^ en
  let r1 := prPut r (pE b) (min 1048575 e)
  if 1048575 < e then prPut r1 pESAT 1 else r1

/-- Half-band stages from stage i on (R125): `v` is the stage's input, `n` is (u + 1) / 2^(i−1). -/
def halfStages (en H : Nat) : Nat → Nat → Nat → Int → PRec → PRec
  | 0, i, _, v, r => if i = H + 1 then prEnergy en r i v else r
  | left + 1, i, n, v, r =>
    if H < i then prEnergy en r i v
    else if n % 2 = 1 then prPut r (pHN i) (unsigned 16 v)
    else
      let hc := prInt r (pHC i)
      let p := prInt r (pBP i) - v
      let y := satS 16 (roundDiv (16 * hc + p) 32)
      let d := satS 16 (roundDiv (16 * hc - p) 32)
      let r1 := prSet r (pBP i) (prInt r (pCP i) + 9 * v)
      let r2 := prSet r1 (pCP i) (9 * v - prInt r (pXP i))
      let r3 := prSet (prSet r2 (pXP i) v) (pHC i) (prInt r2 (pHN i))
      halfStages en H left (i + 1) (n / 2) y (prEnergy en r3 i d)

/-- One update of a record's chain (R123 to R128): `start` when the interval's values start from this update alone,
`newInt` when an interval starts, `born` when INIT clears or the chain restarts now. -/
def State.chainPoint (s : State) (r0 : PRec) (fade born : Bool) : PRec :=
  if prGet r0 pINIT = 1 then r0
  else
    let start := s.fib.cur.fresh || born
    let r1 := if born then prPut (prClearChain r0) pDCB (prGet r0 pPHI * 256) else r0
    let freeze := s.flag Reg.PSS_CHAIN_CFG Fd.PSS_CHAIN_CFG_FREEZE
    let (x0, sat, r2) := dcBlock r1 (s.rf Reg.PSS_CHAIN_CFG Fd.PSS_CHAIN_CFG_IN_SHIFT)
      (s.rf Reg.PSS_CHAIN_CFG Fd.PSS_CHAIN_CFG_DCB_SHIFT) freeze fade
    -- interval values
    let r3 := if start then
        [1, 2, 3, 4, 5].foldl (fun a b => prPut a (pE b) 0) (prPut (prPut (prPut r2 pESAT 0) pCLIP 0) pFCNT 0)
      else r2
    let lo := if start then x0 else min (prInt r3 pMIN) x0
    let hi := if start then x0 else max (prInt r3 pMAX) x0
    let r4 := prSet (prSet r3 pMIN lo) pMAX hi
    let r5 := prPut r4 pFCNT (min 255 (prGet r4 pFCNT + b2n fade))
    let r6 := if sat then prPut r5 pCLIP 1 else r5
    let w := prGet r6 pWARM
    let r7 := prPut r6 pWARM (if born then 2 else if s.fib.cur.newInt then w - 1 else w)
    let a := s.rf Reg.PSS_CHAIN_CFG Fd.PSS_CHAIN_CFG_AMP_SHIFT
    let amp := prGet r7 pAMP
    let r8 := prPut r7 pAMP (unsigned 24 ((amp : Int) + roundShr ((x0.natAbs * 256 : Nat) - (amp : Int)) a))
    halfStages s.pssEn s.pssH 4 1 (s.fib.cur.u + 1) x0 r8

/-- mean_b of a record at the end of an interval (R127). -/
def State.bandMean (s : State) (r : PRec) (b : Nat) : Nat :=
  min 65535 (prGet r (pE b) / 2 ^ (s.pssLogU - min b s.pssH))

/-- The integer part of AMP. -/
def prAmp (r : PRec) : Nat := prGet r pAMP / 256

/-- The update in progress is the last of its interval. -/
def State.intEnd (s : State) : Bool := (s.fib.cur.u + 1) % s.pssU == 0

/-! ### Zones -/

/-- The fields of a zone (R129). -/
structure Zone where
  z : Nat
  first : Nat
  count : Nat
  ctrl : Word
  cores : Nat
  deriving DecidableEq, Repr

def State.zone (s : State) (z : Nat) : Zone :=
  ⟨z, (s.rd (copyKey Reg.ZON_ZT_FIRST z)).toNat % 2 ^ 19, (s.rd (copyKey Reg.ZON_ZT_COUNT z)).toNat % 2 ^ 19,
    s.rd (copyKey Reg.ZON_ZT_CTRL z), (s.rd (copyKey Reg.ZON_ZT_LOUPE z)).toNat % 65536⟩

abbrev zTHR : Fld := ⟨0, 6⟩
abbrev zSLINE : Fld := ⟨6, 4⟩
abbrev zSEN : Fld := ⟨10, 1⟩
abbrev zILINE : Fld := ⟨11, 4⟩
abbrev zIEN : Fld := ⟨15, 1⟩
abbrev zFEAT : Fld := ⟨16, 3⟩
abbrev zOUT : Fld := ⟨19, 1⟩
abbrev zLPE : Fld := ⟨20, 1⟩

/-- The used zones. -/
def State.usedZones (s : State) : List Zone :=
  ((List.range (s.rf Reg.ZON_ZCFG Fd.ZON_ZCFG_ZONES)).map s.zone).filter (fun z => z.count != 0)

def State.zst (s : State) (z : Nat) : ZoneSt := NMap.get (fun _ => ZoneSt.init) s.fib.zones z
def State.setZst (s : State) (z : Nat) (v : ZoneSt) : State :=
  { s with fib := { s.fib with zones := NMap.set (fun _ => ZoneSt.init) s.fib.zones z v } }

/-- The record of a point as the launch in hand wrote it. -/
def State.runPoint (s : State) (p : Nat) : PRec :=
  match s.fib.cur.recs.find? (fun e => e.1 == p) with
  | some e => e.2
  | none => s.point p

/-- A zone's features (R130). -/
structure Feat where
  bands : List Nat
  rms : Nat
  peak : Nat
  peakPoint : Nat
  min : Int
  max : Int
  faded : Nat
  amp : Nat
  warm : Bool
  esat : Bool
  clip : Bool
  noPoints : Bool
  deriving DecidableEq, Repr

/-- The features of a zone from its points' records. -/
def State.features (s : State) (z : Zone) : Feat :=
  let all := (List.range z.count).map (fun i => (z.first + i, s.runPoint (z.first + i)))
  let pts := all.filter (fun e => prGet e.2 pINIT == 0)
  let n := pts.length
  if n = 0 then ⟨[0, 0, 0, 0, 0], 0, 0, 0, 0, 0, 0, 0, false, false, false, true⟩
  else
    let bands := [1, 2, 3, 4, 5].map (fun b =>
      if s.pssH + 1 < b then 0 else (pts.map (fun e => s.bandMean e.2 b)).sum / n)
    let pk (r : PRec) : Nat := (max (-(prInt r pMIN)) (prInt r pMAX)).toNat
    let best := pts.foldl (fun (a : Nat × Nat) e => if a.1 < pk e.2 then (pk e.2, e.1) else a)
      (0, ((pts.head?).map Prod.fst).getD 0)
    let any (f : PFld) : Bool := pts.any (fun e => prGet e.2 f != 0)
    { bands := bands, rms := min 65535 (roundSqrt (2 ^ s.pssEn * bands.sum)), peak := best.1, peakPoint := best.2,
      min := pts.foldl (fun a e => min a (prInt e.2 pMIN)) 32767, max := pts.foldl (fun a e => max a (prInt e.2 pMAX)) (-32768),
      faded := (pts.filter (fun e => prGet e.2 pFCNT != 0)).length,
      amp := pts.foldl (fun a e => max a (prAmp e.2)) 0, warm := any pWARM, esat := any pESAT, clip := any pCLIP,
      noPoints := false }

/-- The ZONE_FEATURES payload (R131). -/
def State.zonePayload (s : State) (z : Zone) (f : Feat) (count : Nat) : List Byte :=
  le2 z.z ++ le2 (b2n f.warm + 2 * b2n f.esat + 4 * b2n f.clip + 8 * b2n s.fib.cur.intDark + 16 * b2n s.fib.cur.intHold +
    32 * b2n s.fib.cur.intParked + 64 * b2n f.noPoints) ++ f.bands.flatMap le2 ++ le2 f.rms ++ le2 f.peak ++
    le2 (unsigned 16 f.min) ++ le2 (unsigned 16 f.max) ++ le2 (min 65535 f.faded) ++ le4 f.peakPoint ++ le2 f.amp ++
    le2 (min 65535 count)

/-- The feature that INT_FEAT names (R129). -/
def Feat.pick (f : Feat) (n : Nat) : Nat :=
  if n < 5 then nth f.bands n 0 else if n = 5 then f.rms else if n = 6 then f.peak else Nat.min 65535 f.faded

/-- Threshold and floor of a comparison: THR, and THR − HYS floored at 0. -/
def thrOf (w : Word) : Nat × Nat := (w.toNat % 65536, w.toNat % 65536 - w.toNat / 65536)

/-- A zone completes at the last update of an interval: record, interval threshold, item for the cores (R130 to
R132). -/
def State.zoneInterval (s : State) (z : Zone) : State :=
  let f := s.features z
  let st := s.zst z.z
  let pay := s.zonePayload z f st.count
  let item : LpeItem := ⟨1, (Rec.mk 0xD 0x1 z.z (s.seqOf 0x1 z.z 0xD) s.fib.cur.launch pay).header ++ pay, srcWord 0x1 z.z,
    s.seqOf 0x1 z.z 0xD, s.fib.cur.launch⟩
  let s1 := if z.ctrl.get zOUT = 1 then (s.emit 0xD 0x1 z.z s.fib.cur.launch pay).countMod Reg.ZON_ZREC else s
  let s2 : State := if f.esat then
      (if Word.bit (s1.rd (Reg.HDR_IRQ_RAW 0x13)) 2 then s1 else s1.err 0x13 Err.ZON_ESAT).raise 0x13 2
    else s1
  let (thr, floor) := thrOf (s2.rd (Reg.ZON_THR_INT (z.ctrl.get zTHR)))
  let v := f.pick (z.ctrl.get zFEAT)
  let on := z.ctrl.get zIEN = 1 ∧ thr ≠ 0
  let s3 : State :=
    if !st.int ∧ on ∧ thr < v then
      (((s2.setZst z.z { st with int := true }).gatherTrig (s2.mkTrigger (z.ctrl.get zILINE) (0x3000 + z.z)
        (s.fib.cur.launch + BitVec.ofNat 64 (z.first * s.fenS)) z.first)).count Reg.ZON_INT_TRIG).raise 0x13 1
    else if st.int ∧ on ∧ v ≤ floor then s2.setZst z.z { st with int := false }
    else s2
  if z.ctrl.get zLPE = 1 then s3.handZone z.cores item else s3

/-- A point of a zone has been written (R132): the shot threshold, and at the zone's last point what ends its update. -/
def State.zonePoint (s : State) (z : Zone) (p : Nat) : State :=
  let st := s.zst z.z
  let f0 := s.fib.cur
  let f := if p = z.first then { f0 with
      hot := f0.hot.filter (fun n => n != z.z)
      seen := f0.seen.filter (fun n => n != z.z) ++ (if st.shot then [z.z] else []) }
    else f0
  let (thr, floor) := thrOf (s.rd (Reg.ZON_THR_SHOT (z.ctrl.get zTHR)))
  let on := z.ctrl.get zSEN = 1 ∧ thr ≠ 0
  let a := prAmp (s.runPoint p)
  let sets := !st.shot ∧ on ∧ thr < a
  let hot := if floor < a then z.z :: f.hot else f.hot
  let seen := if sets then z.z :: f.seen else f.seen
  let st1 := if sets then { st with shot := true } else st
  let s1 := { s with fib := { s.fib with cur := { f with hot := hot, seen := seen } } }.setZst z.z st1
  let s2 : State := if sets then
      ((s1.gatherTrig (s1.mkTrigger (z.ctrl.get zSLINE) (0x2000 + z.z) (f.launch + BitVec.ofNat 64 (p * s.fenS))
        p)).count Reg.ZON_SHOT_TRIG).raise 0x13 0
    else s1
  if p + 1 = z.first + z.count then
    let ivl := f.u / s.pssU
    let c := if st1.ivl = ivl then st1.count else 0
    let s3 := s2.setZst z.z { st1 with
      count := min 65535 (c + b2n (seen.contains z.z)), ivl := ivl, shot := st1.shot && hot.contains z.z }
    if s3.intEnd then s3.zoneInterval z else s3
  else s2

/-- A state whose threshold has become 0 clears at a boundary without a trigger (R132). -/
def State.zoneBoundary (s : State) : State :=
  s.usedZones.foldl (fun a z =>
    let st := a.zst z.z
    let n := z.ctrl.get zTHR
    a.setZst z.z { st with
      shot := st.shot && (thrOf (a.rd (Reg.ZON_THR_SHOT n))).1 != 0
      int := st.int && (thrOf (a.rd (Reg.ZON_THR_INT n))).1 != 0 }) s

/-! ### Records over point ranges -/

/-- The record of a range that point p completes: its first point and its length. -/
def blockEnd (first count block p : Nat) : Option (Nat × Nat) :=
  if p < first ∨ first + count ≤ p then none
  else
    let i := p - first
    let b := if block = 0 then count else block
    if i + 1 = count then some (first + i / b * b, i % b + 1)
    else if (i + 1) % b = 0 then some (p + 1 - b, b)
    else none

/-- The bits of truth values as bytes, the first in bit 0 (R109). -/
def bitBytes : Nat → List Bool → List Byte
  | 0, _ => []
  | n + 1, bs =>
    BitVec.ofNat 8 (((bs.take 8).zipIdx).foldl (fun a e => a + b2n e.1 * 2 ^ e.2) 0) :: bitBytes n (bs.drop 8)

/-- PHASE_BLOCK records that point p completes (R108, R109). -/
def State.phaseBlocks (s : State) (p : Nat) : State :=
  iter 16 (fun n a =>
    let cnt := (a.rd (Reg.FEN_PB_COUNT n)).toNat % 2 ^ 19
    let cfg := a.rd (Reg.FEN_PB_CFG n)
    if cnt = 0 ∨ a.fib.cur.shotNo % 2 ^ cfg.get Fd.FEN_PB_CFG_DECIM_EXP ≠ 0 then a
    else
      match blockEnd ((a.rd (Reg.FEN_PB_FIRST n)).toNat % 2 ^ 19) cnt (cfg.get Fd.FEN_PB_CFG_BLOCK) p with
      | none => a
      | some (first, c) =>
        let rs := (List.range c).map (fun i => a.runPoint (first + i))
        let flags := b2n a.fib.cur.dark + 2 * b2n a.fib.cur.holdover + 4 * b2n a.shotAcc.sat + 8 * b2n a.fib.cur.afterSwitch
        a.emit 0x2 0x2 n a.fib.cur.launch (pad16 (le4 first ++ le4 c ++ le4 (a.fib.cur.shotNo % 2 ^ 32) ++
          by1 (if a.fenMode = 3 then a.fib.cur.slot else 0) ++ by1 a.fenMode ++ le2 flags ++
          rs.flatMap (fun r => le4 (prGet r pPHI)) ++ (List.range c).flatMap (fun i => by1 (nth a.fib.cur.quals (first + i) 0)) ++
          bitBytes (ceilDiv c 8) (rs.map (fun r => prGet r pFADE == 1))))) s

/-- CONTACT_SHEET records that point p completes at the last update of an interval (R133, R134). -/
def State.contactSheets (s : State) (p : Nat) : State :=
  if !s.intEnd then s
  else
    iter 16 (fun n a =>
      let cnt := (a.rd (Reg.PSS_CS_COUNT n)).toNat % 2 ^ 19
      let cfg := a.rd (Reg.PSS_CS_CFG n)
      match (if cnt = 0 then none
        else blockEnd ((a.rd (Reg.PSS_CS_FIRST n)).toNat % 2 ^ 19) cnt (cfg.get Fd.PSS_CS_CFG_BLOCK) p) with
      | none => a
      | some (first, c) =>
        let rs := (List.range c).map (fun i => a.runPoint (first + i))
        let nb := if cfg.get Fd.PSS_CS_CFG_BANDS = 1 then a.pssH + 1 else 0
        let n0 := (a.fib.cur.u + 1 - a.pssU) / (if a.fenMode = 3 then 4 else 1)
        let flags := b2n a.fib.cur.intDark + 2 * b2n a.fib.cur.intHold + 4 * b2n a.fib.cur.intParked + 8 * b2n a.fib.cur.intAfterSwitch
        let st (r : PRec) : Nat := prGet r pINIT + 2 * b2n (prGet r pWARM != 0) + 4 * b2n (prGet r pFCNT != 0) +
          8 * prGet r pCLIP + 16 * prGet r pESAT
        a.emit 0x3 0x2 (16 + n) (a.atPeriod n0 a.shotPeriod) (pad16 (le4 first ++ le4 c ++ le4 (n0 % 2 ^ 32) ++
          by1 (a.rf Reg.PSS_CHAIN_CFG Fd.PSS_CHAIN_CFG_INT_EXP) ++ by1 nb ++ le2 flags ++
          rs.flatMap (fun r => le2 (prGet r pMIN) ++ le2 (prGet r pMAX)) ++
          rs.flatMap (fun r => (List.range nb).flatMap (fun b => le2 (a.bandMean r (b + 1)))) ++
          rs.flatMap (fun r => by1 (st r))))) s

/-- Items of capture units with TAP 3 whose last point is p (R252). -/
def State.tapFibre (s : State) (p : Nat) : State :=
  s.tapUnits (fun u a =>
    let first := a.rf (Reg.SCUN_SEL u) Fd.SCUN_SEL_FIRST
    let num := a.capNum u
    if a.capTap u = 3 ∧ num ≠ 0 ∧ p + 1 = first + num then
      let ref := (a.rd (Reg.SCUN_REF u)).toNat % 2 ^ 19
      a.capItem u (a.capPeriod u) ⟨a.fib.cur.launch + BitVec.ofNat 64 (ref * a.fenS),
        (List.range num).map (fun i => w32 (prGet (a.runPoint (first + i)) pPHI)),
        b2n a.fib.cur.holdover + 2 * b2n a.fib.cur.dark⟩
    else a)

end Sys2Proof.Machine
end

