-- ==== Sys2Proof/Machine/Fibre.lean ====
section
/-!
DEFINITION. Launches of the fibre phase engine, POINT_UPDATE, the scrub and the snapshot window (R97 to R120, R137).
-/

namespace Sys2Proof.Machine

/-- A slot launch begins to be processed (R100, R123, R127, R128): shot n, slot j, launch LTC L. In Q-stagger the launches
before it may still be in progress. DESIGN CHOICE (log 138): an interval whose first updates were not processed starts with
the first one that is, and WARM falls by one there, however many interval starts have passed. -/
def State.fibreLaunch (s : State) (n j : Nat) (L : Time) (dark holdover : Bool) : State :=
  if !s.fenActive then s
  else
    let u := if s.fenMode = 3 then 4 * n + j else n
    let f := s.fib
    -- updates passed unprocessed while the hub was parked; those that a takeover lost are none of them
    let gap := !f.lost && (match f.lastU with | some v => decide (u ≠ v + 1) | none => decide (u ≠ 0))
    let newInt := match f.lastU with | some v => decide (u / s.pssU ≠ v / s.pssU) | none => true
    let r : FibRun := { FibRun.init with
      live := true, launch := L, shotNo := n, slot := j, u := u, dark := dark, holdover := holdover
      afterSwitch := f.afterSwitch, restart := f.restart
      fresh := newInt || gap
      newInt := newInt
      intDark := dark || (f.cur.intDark && !newInt)
      intHold := holdover || (f.cur.intHold && !newInt)
      intParked := gap && (!newInt || decide (u % s.pssU ≠ 0)) || (f.cur.intParked && !newInt)
      intAfterSwitch := f.intAfterSwitch && decide (u / s.pssU = 0) }
    { s with fib := { f with
      cur := r, older := if f.cur.live then f.older ++ [f.cur] else f.older, lastU := some u, lost := false
      afterSwitch := f.afterSwitch && (s.fenMode == 3 && decide (j < 3)), restart := false
      intAfterSwitch := r.intAfterSwitch } }

/-- A shot is complete: its digest is known (R391). -/
def State.shotComplete (s : State) : State :=
  let f := s.fib
  { s with fib := { f with
    digests := ((f.cur.shotNo, s.shotAcc.crc ^^^ 0xFFFFFFFF) :: f.digests).take 4
    acc := NMap.erase f.cur.shotNo f.acc } }

/-- A slot launch has been processed (R100, R111, R138, R391). -/
def State.fibreEnd (s : State) : State :=
  let f := s.fib.cur
  let last := s.fenMode ≠ 3 ∨ f.slot = 3
  let c := s.shotAcc
  let s0 := { s with fib := { s.fib with cur := { f with live := false } } }
  let s1 := if last then s0.shotComplete else s0
  let s2 := ((s1.countMod Reg.FEN_SHOT_COUNT).wr Reg.PSS_UPDATE_NO (w32 f.u)).wr Reg.FEN_STAT
    (w32 (1 + 2 * b2n f.dark + 4 * b2n f.holdover))
  if !f.dark then s2
  else
    let s3 := s2.raise 0x11 2
    if last ∧ c.nPts ≠ 0 then
      let m := (roundDiv (c.nSum : Int) (c.nPts * 2 ^ 24)).toNat
      let s4 := s3.wr Reg.FEN_NOISE_MEAS (w32 m)
      let noise := (s.rd Reg.FEN_NOISE).toNat
      if noise ≠ 0 ∧ 2 * noise < m then (s4.err 0x11 Err.NOISE_HIGH).raise 0x11 1 else s4
    else s3

/-- Registers with other words. -/
def State.wrAll (s : State) (l : List (Nat × Word)) : State := l.foldl (fun a e => a.wr e.1 e.2) s

/-- Work under the register words that hold for the launch in hand: those of its shot (R50, R107). -/
def State.withOld (s : State) (f : State → State) : State :=
  let l := s.fib.cur.regs
  if l = [] then f s else (f (s.wrAll l)).wrAll (l.map (fun e => (e.1, s.rd e.1)))

/-- Work on the launch of slot j that is in progress, the oldest where the one before it still runs (R105). -/
def State.withRun (s : State) (j : Nat) (f : State → State) : State :=
  match s.fib.older.find? (fun r => r.slot == j) with
  | some r =>
    let top := s.fib.cur
    let t := { s with fib := { s.fib with cur := r } }.withOld f
    { t with fib := { t.fib with cur := top, older :=
      (t.fib.older.map (fun x => if x.u = r.u then t.fib.cur else x)).filter (fun x => x.live) } }
  | none => if s.fib.cur.live && s.fib.cur.slot == j then s.withOld f else s

/-- LAST_UNCORR and the report of an uncorrectable word (R116). -/
def State.pssUncorr (s : State) (p w : Nat) (scrub snap : Bool) : State :=
  (((s.count Reg.PSS_UNCORR).wr Reg.PSS_LAST_UNCORR
    (w32 (p + 2 ^ 18 * w + 2 ^ 21 * b2n scrub + 2 ^ 22 * b2n snap))).err 0x12 Err.PSS_UNCORR).raise 0x12 1

/-- A read of a record through the decoder (R116): counts and reports. -/
def State.pssRead (s : State) (p : Nat) (ecc : PssRead) (scrub snap : Bool) : State :=
  let s1 := if ecc.fixed = 0 then s else (s.countN Reg.PSS_CORR ecc.fixed).raise 0x12 0
  ecc.lost.foldl (fun a w => a.pssUncorr p w scrub snap) s1

/-- A read of word w of record p through the decoder by a snapshot or the scrub, with what it finds (R116). -/
def State.pssWord (s : State) (p w : Nat) (ecc : PssRead) (scrub : Bool) : State :=
  if ecc.lost ≠ [] then s.pssUncorr p w scrub (!scrub)
  else if ecc.fixed ≠ 0 then (s.count Reg.PSS_CORR).raise 0x12 0
  else s

/-- The standby compares its own Z with the forwarded one (R94, R392). -/
def State.matchPoint (s : State) (p : Nat) : State :=
  if s.role ≠ 2 ∨ s.edgePoint p then s
  else
    s.fenSlots.foldl (fun a j =>
      let own := (((a.fib.cur.slots[j]?).getD SlotStream.init).z[p]?).getD Cplx.zero
      let fwd := a.zAt j p
      let d : Cplx := ⟨own.re - fwd.re, own.im - fwd.im⟩
      { a with fib := { a.fib with matchD := a.fib.matchD + d.norm, matchF := a.fib.matchF + fwd.norm } }) s

/-- What a write of a point brings with it (R108, R130 to R134, R252, R391). -/
def State.afterWrite (s : State) (p : Nat) : State :=
  let s1 := (s.usedZones.filter (fun z => decide (z.first ≤ p) && decide (p < z.first + z.count))).foldl
    (fun a z => a.zonePoint z p) s
  (((s1.phaseBlocks p).contactSheets p).tapFibre p).matchPoint p

/-- A faded update is counted; the counter saturates (R100, R111). -/
def State.countFade (s : State) : State :=
  if s.rd Reg.FEN_FADE_COUNT = 0xFFFFFFFF then s else s.wr Reg.FEN_FADE_COUNT (s.rd Reg.FEN_FADE_COUNT + 1)

/-- The sum of |V_0| over a dark shot (R100). -/
def State.noisePoint (s : State) (p : Nat) : State :=
  if !s.fib.cur.dark ∨ s.edgePoint p then s
  else
    let v0 := (((s.vectors p).head?).map PVec.v).getD Cplx.zero
    s.onShotAcc (fun c => { c with nSum := c.nSum + isqrt (v0.norm * 2 ^ 48), nPts := c.nPts + 1 })

/-- W_R (R398): the largest multiple of 128, at most N, whose records fit into 16.0 Gb/s at the launch rate. -/
def State.recordWindow (s : State) : Nat :=
  let per := if s.fenMode = 3 then s.shotPeriod / 4 else s.shotPeriod
  min (s.fenN / 128 * 128) (16000000000 * per / (768 * tickS) / 128 * 128)

/-- The active hub forwards Z of a point, and the record of a point in the window of a joining standby (R94, R398). -/
def State.feedPoint (s : State) (p : Nat) (r : List Nat) : State :=
  if !s.hasStandby then s
  else
    let f := s.fib.cur
    let z := s.fenSlots.map (fun j => let v := s.zAt j p; (j, p, v.re, v.im))
    let s1 := s.sendLane 0 2 (.feedF ⟨f.shotNo, f.slot, f.launch, f.dark, f.holdover, s.shotAcc.sat, z, []⟩)
    let g := s.pai.prog
    if s.syncState = 2 ∧ g.begun ∧ g.points < s.fenN ∧ g.window ≤ p ∧ p < g.window + s.recordWindow then
      s1.sendLane 1 7 (.bulk (.record p r))
    else s1

/-- A standby has no forwarded Z for a point (R94). -/
def State.unfed (s : State) (p : Nat) : Bool :=
  s.role == 2 && s.fenSlots.any (fun j => !s.fib.cur.fed.any (fun e => e.1 == 2 ^ 20 * j + p))

/-- Where word w of record p lies in the store (R113): its bank among the 24, its row, and its bank group of six banks. -/
def pssBank (p w : Nat) : Nat := 6 * (p % 4) + w
def pssRow (p : Nat) : Nat := p / 4
def pssGroup (p : Nat) : Nat := pssBank p 0 / 6

/-- The engine processes point p of the launch in hand (R97 to R105, R117, R123); `new` are the raw samples of its window
that have arrived since the point before. A standby runs on the forwarded Z, D_F behind (R94, R388), and stores a record
of the resynchronisation in place of its own (R398). -/
def State.updatePoint (s : State) (p : Nat) (new : List RawSample) (ecc : PssRead) : State :=
  if !s.fib.cur.live ∨ p ≠ s.fib.cur.next ∨ s.fenN ≤ p ∨ s.unfed p then s
  else
    let s0 := s.advance (s.fib.cur.launch + BitVec.ofNat 64 (s.dRx + s.fenA + p * s.fenS + (if s.role = 2 then 4125 else 0)))
    let f0 := s0.fib.cur
    let dim := match f0.darkFrom with | some q => decide (q ≤ p) | none => false
    let s1 := { s0 with fib := { s0.fib with cur := { f0 with
      dark := f0.dark || dim, intDark := f0.intDark || dim,
      raw := f0.raw ++ new.map (fun (r : RawSample) => (r.xi, r.xq, r.yi, r.yq)), next := p + 1 } } }
    let sated := match f0.satFrom with | some q => decide (q ≤ p) | none => false
    let s1a := if sated then s1.onShotAcc (fun c => { c with sat := true }) else s1
    let s2 : State := s1a.fenSlots.foldl (fun (a : State) j => a.runSlot j p) s1a
    let s3 := s2.pssRead p ecc false false
    let forced := ecc.lost != []
    let r0 := if forced then prInit else s3.point p
    let o := s3.enginePoint p r0 forced
    let fade := o.faded
    let r1 := prPut (prPut o.rec_ pFADE (b2n fade)) pTAG s3.fib.cur.u
    let own := s3.chainPoint r1 fade (o.born || s3.fib.cur.restart)
    let r2 := if s.role = 2 then ((s.pai.copies.find? (fun e => e.1 == p)).map (·.2)).getD own else own
    let s4 := ((s3.setPoint p r2).noisePoint p).onShotAcc (fun c => { c with
      crc := (le4 p ++ prBytes r2).foldl crc32cByte c.crc
      theta0 := if s3.fib.cur.slot = 0 then NMap.set (fun _ => none) c.theta0 p o.theta else c.theta0 })
    let f4 := s4.fib.cur
    let s5 := { s4 with
      fib := { s4.fib with cur := { f4 with quals := f4.quals ++ [o.q], recs := (p, r2) :: f4.recs } } }
    let s6 := if forced then s5.count Reg.PSS_REINIT else s5
    let s7 := ((if fade then s6.countFade else s6).afterWrite p).feedPoint p r2
    if p + 1 = s7.fenN then s7.fibreEnd else s7

/-! ### Scrub and snapshots -/

/-- The last scrub position of a pass. -/
abbrev scrubWords : Nat := 1572864

/-- PSS_SCRUB (R116, R118): word number `fib.scrub` of the walk is read. A corrected word is written back unless the
engine wrote it meanwhile, which changes no data. -/
def opScrub (ecc : PssRead) (s : State) : State :=
  if s.rf Reg.PSS_SCRUB_CFG Fd.PSS_SCRUB_CFG_PERIOD = 0 then s
  else
    let i := s.fib.scrub
    let p := i / 6
    let w := i % 6
    let s0 := s.pssWord p w ecc true
    let s1 : State := if ecc.lost ≠ [] ∧ s.fenN ≤ p then s0.setPoint p (setAt (s0.point p) w (nth prInit w 0)) else s0
    if i + 1 = scrubWords then
      ({ s1 with fib := { s1.fib with scrub := 0 } }.countMod Reg.PSS_SCRUB_PASS).raise 0x12 2
    else { s1 with fib := { s1.fib with scrub := i + 1 } }

def execPssScrub (ecc : PssRead) (s : State) : Host.Outcome State Fault Refusal := ok (opScrub ecc s)

/-- A 32-bit read of the snapshot window by reader `x` (R116, R119, R120): the word at byte offset `o` of the window. DESIGN
CHOICE (log 143): a read of parts 1 to 3 of a word of which the reader holds no latch shows the store. -/
def State.snapWord (s : State) (x o : Nat) (ecc : PssRead) : Word × State :=
  let n := o / 16
  let part := o % 16 / 4
  let p := n / 6
  let w := n % 6
  if part = 0 then
    let s1 := s.pssWord p w ecc false
    let v := if ecc.lost ≠ [] then 0 else nth (s.point p) w 0
    (w32 v, { s1 with fib := { s1.fib with snap := NMap.set (fun _ => (2 ^ 32, 0)) s1.fib.snap x (n, v) } })
  else
    let l := NMap.get (fun _ => (2 ^ 32, 0)) s.fib.snap x
    if l.1 = n then (w32 (l.2 / 2 ^ (32 * part)), s)
    else
      let s1 := s.pssWord p w ecc false
      let v := if ecc.lost ≠ [] then 0 else nth (s.point p) w 0
      (w32 (v / 2 ^ (32 * part)), s1)

end Sys2Proof.Machine
end

