-- ==== Sys2Proof/Machine/System.lean ====
section
/-!
DEFINITION. Resets, start-up, power fail, Winch's firmware and its update, the life cycle and keys (R30, R31, R425 to
R450).
-/

namespace Sys2Proof.Machine

/-! ### Full reset -/

/-- State of a plan slot at a start (R44): a check that was broken off leaves a loaded image, and a plan that ran or was
about to run stays committed. -/
def PlanSlot.atStart (p : PlanSlot) : PlanSlot :=
  { p with state := if p.state = 3 then 2 else if p.state = 5 ∨ p.state = 7 then 4 else p.state }

/-- The balls fall to their levels in full reset, RMN_TRIG among them (R56, R188). -/
def State.ballsReset (s : State) : State :=
  let s1 := ((s.setLasEn false).setOsw false).dropTrig
  iter 32 (fun j (a : State) => if Word.bit s.fld.balls j then a.emitOut (.pin (0x200 + j) 0 a.ltc) else a) s1

/-- A full reset with a cause and, for WEDGED, a block code (R31, R429): every block returns to its Reset values and the
LTC to zero; non-volatile contents stay, with the boot count and a fault-log entry added. RAIL_FAIL names the rails of
the last SUPPLY reset. -/
def State.fullReset (s : State) (cause block : Nat) : State :=
  let l0 := (s.logFault 0 0 (cause + 65536 * block)).nv
  let l := { l0 with slotA := l0.slotA.atStart, slotB := l0.slotB.atStart }
  let r := { State.reset with
    nv := { l with boot := (l.boot + 1) % 2 ^ 32 }, pending := s.pending, sent := s.ballsReset.sent, free := s.free,
    sys := { State.reset.sys with railsBad := s.sys.railsBad, resetLow := s.sys.resetLow } }
  (r.wr Reg.SYS_RESET_CAUSE (w32 (cause + 65536 * block))).wr Reg.PWR_RAIL_FAIL (s.rd Reg.PWR_RAIL_FAIL)

/-- A cause that arises while full reset is held: the lowest code stays recorded, at the first start POWER_ON (R429). -/
def State.holdReset (s : State) (cause : Nat) : State :=
  if s.sys.step = 0 ∧ s.rd Reg.SYS_RESET_CAUSE = 0 then s
  else if s.sys.step = 0 then
    s.wr Reg.SYS_RESET_CAUSE (if cause < (s.rd Reg.SYS_RESET_CAUSE).toNat % 16 then w32 cause else s.rd Reg.SYS_RESET_CAUSE)
  else s.fullReset cause 0

/-- RAIL_OUT_OF_WINDOW: rails (bits 8 to 0) leave their windows: SUPPLY, or POWER_ON where every rail is absent (R35,
R429, R446). -/
def opRailOut (rails : Nat) (s : State) : State :=
  let bad := rails % 512
  if bad = 0 then s
  else
    let all := s.sys.railsBad ||| bad
    let s1 := { s with sys := { s.sys with railsBad := all } }
    (s1.holdReset (if all = 511 then 1 else 2)).wr Reg.PWR_RAIL_FAIL (w32 all)

def execRailOutOfWindow (rails : Nat) (s : State) : Host.Outcome State Fault Refusal := ok (opRailOut rails s)

/-- Release of full reset: the straps are latched, a ready source is selected at once, and the hub of a pair trains the
tether (R35, R383, R427). -/
def State.release (s : State) (st : Straps) : State :=
  let s1 := if s.rd Reg.SYS_RESET_CAUSE = 0 then s.wr Reg.SYS_RESET_CAUSE 1 else s
  let s2 := if st.stable then
      (s1.wf Reg.SYS_STAT Fd.SYS_STAT_STRAP_MGMT st.mgmt.val).wf Reg.SYS_STAT Fd.SYS_STAT_STRAP_PAIR (b2n st.pair) |>.wf
        Reg.TTH_STAT Fd.TTH_STAT_STATE (b2n st.pair)
    else s1.wf Reg.SYS_STAT Fd.SYS_STAT_STRAP_ERR 1
  ({ s2 with sys := { s2.sys with step := 1 } }).takeSource

/-- RAIL_VALID_TIMER: every rail has been within its window for 1 ms (R425). -/
def opRailValid (st : Straps) (s : State) : State :=
  let s1 := { s with sys := { s.sys with railsBad := 0 } }
  if s.sys.step ≠ 0 ∨ s.sys.resetLow then s1 else s1.release st

def execRailValidTimer (straps : Straps) (s : State) : Host.Outcome State Fault Refusal := ok (opRailValid straps s)

/-- RESET_N_LOW and RESET_N_RELEASE (R35, R429). -/
def opResetLow (s : State) : State := ({ s with sys := { s.sys with resetLow := true } }).holdReset 3
def execResetNLow (s : State) : Host.Outcome State Fault Refusal := ok (opResetLow s)

def opResetRelease (st : Straps) (s : State) : State :=
  let s1 := { s with sys := { s.sys with resetLow := false } }
  if s.sys.step ≠ 0 ∨ !s.sys.resetLow ∨ s.sys.railsBad ≠ 0 then s1 else s1.release st
def execResetNRelease (straps : Straps) (s : State) : Host.Outcome State Fault Refusal := ok (opResetRelease straps s)

/-- Block code of a watched function (R30, R453): that of its page. -/
def monBlock (f : MonFn) : Nat :=
  0x1000 + (match f with
    | .fibreEngine => 0x11 | .fieldSequencer => 0x18 | .driariPort => 0x20 | .spoolEngine => 0x38 | .compression => 0x39)

/-- PROGRESS_MONITOR_MISS, WATCHDOG_EXPIRY (R30). The watchdog is suspended while Winch restarts (R436). -/
def opMonitorMiss (f : MonFn) (_inst : Nat) (s : State) : State :=
  if s.sys.step < 3 then s else s.fullReset 4 (monBlock f)
def execProgressMonitorMiss (f : MonFn) (inst : Nat) (s : State) : Host.Outcome State Fault Refusal :=
  ok (opMonitorMiss f inst s)

def opWatchdog (s : State) : State := if s.sys.step < 5 ∨ s.sys.restarting then s else s.fullReset 5 0
def execWatchdogExpiry (s : State) : Host.Outcome State Fault Refusal := ok (opWatchdog s)

/-- SYS_RESET: only C0's RESET acts (R429). -/
def opSysReset (x : Nat) (s : State) : State := if x ≠ 0 then s.err 0x0 Err.SYS_OWNER else s.fullReset 6 0
def execSysReset (ctx : Fin 4) (s : State) : Host.Outcome State Fault Refusal := ok (opSysReset ctx.val s)

/-- JTAG_TAP_RESET: the TAP is held in Test-Logic-Reset and affects nothing else (R35). -/
def execJtagTapReset (s : State) : Host.Outcome State Fault Refusal := ok s

/-! ### The Darkroom -/

/-- Wipe the Darkroom and its sealed copy (R409): 1 COMMAND, 2 LIFECYCLE, 3 TAMPER, 4 UNCORR. The update key returns
from ROM (R434). -/
def State.wipe (s : State) (cause : Nat) : State :=
  let s1 := { s with nv := { s.nv with
    planKey := none, ctxKeys := [none, none, none, none], updKey := true, wiped := true, wipeCause := cause } }
  ((((s1.count Reg.DKR_WIPES).wr64 Reg.DKR_WIPE_LTC_LO Reg.DKR_WIPE_LTC_HI s1.ltc.toNat).err 0x59 Err.DKR_WIPED).raise
    0x59 0).logFault Err.DKR_WIPED 0x59 cause

/-- WIPE (R409). -/
def opWipe (x : Nat) (s : State) : State := if x ≠ 0 then s.err 0x59 Err.DKR_OWNER else s.wipe 1
def execDkrWipe (ctx : Fin 4) (s : State) : Host.Outcome State Fault Refusal := ok (opWipe ctx.val s)

/-- TAMPER_TRIP (R442). -/
def opTamper (t : TamperSrc) (s : State) : State :=
  let src : Nat := match t with | .glitch => 1 | .mesh => 2 | .overtemp => 4
  ((((s.wipe 3).count Reg.SEC_TAMPER).wr Reg.SEC_TAMPER_SRC (w32 src)).err 0x5 Err.SEC_TAMPER).raise 0x5 0
def execTamperTrip (src : TamperSrc) (s : State) : Host.Outcome State Fault Refusal := ok (opTamper src s)

/-! ### Power fail -/

/-- PFW_COMMIT_DONE: `us` microseconds after PFW_N fell (R414, R430). A suspended program or erase is abandoned. -/
def opPfwCommit (us : Nat) (s : State) : State :=
  if !s.sys.pfw then s
  else
    let b := s.mnt.busy
    (({ s with mnt := { s.mnt with busy := setAt (setAt (setAt b 2 false) 3 false) 4 false } }).wf Reg.PWR_STAT
      Fd.PWR_STAT_COMMITTED 1).wr Reg.PWR_COMMIT_US (w32 (satU 16 us))
def execPfwCommitDone (us : Nat) (s : State) : Host.Outcome State Fault Refusal := ok (opPfwCommit us s)

/-- PFW_RESUME: PFW_N has stayed high for RESUME_MS (R430). -/
def opPfwResume (s : State) : State :=
  if !s.sys.pfw then s
  else
    let s1 := { s with sys := { s.sys with pfw := false }, pai := { s.pai with silent := false, ltcTaken := false } }
    let s2 := ((s1.wf Reg.PWR_STAT Fd.PWR_STAT_PFW 0).wf Reg.PWR_STAT Fd.PWR_STAT_COMMITTED 0).wf Reg.SYS_STAT
      Fd.SYS_STAT_PFW_PARK 0
    if s2.clk.parkPfw then
      let s3 := { s2 with clk := { s2.clk with parkPfw := false } }
      if s3.clk.parkClk then s3 else s3.endPark
    else s2
def execPfwResume (s : State) : Host.Outcome State Fault Refusal := ok (opPfwResume s)

/-! ### Firmware images -/

/-- A firmware bank. -/
def State.bank (s : State) (b : Nat) : List Byte := if b = 0 then s.nv.bank0 else s.nv.bank1
def State.setBank (s : State) (b : Nat) (v : List Byte) : State :=
  { s with nv := if b = 0 then { s.nv with bank0 := v } else { s.nv with bank1 := v } }

/-- BLOCKS of an image, and body block i (R434). -/
def fwBlocks (img : List Byte) : Nat := byteAt img 0xE
def fwBlock (img : List Byte) (i : Nat) : List Byte :=
  let n := fieldAt img 8 4
  (img.drop (256 + 65536 * i)).take (min 65536 (n - 256 - 65536 * i))

/-- Header fields and HDR_CRC (R434). -/
def fwHeaderOk (img : List Byte) : Bool :=
  let n := fieldAt img 8 4
  fieldAt img 0 4 == 0x464D5743 && fieldAt img 4 2 == 1 && fieldAt img 6 2 == 256 && decide (257 ≤ n) && decide (n ≤ 2097152) &&
    fieldAt img 0xC 2 == 0x6424 && fwBlocks img == ceilDiv (n - 256) 65536 && byteAt img 0xF == 0xB0 &&
    (List.range 32).all (fun i => decide (i < fwBlocks img) || fieldAt img (0x40 + 4 * i) 4 == 0) && fieldAt img 0x1A 2 == 0 && fieldAt img 0x1C 4 == crc32c (sliceB img 0 0x1C)

/-- Body digest, and KEY_ID and signature against the update key (R434, R435). -/
def fwDigestOk (img : List Byte) : Bool :=
  sliceB img 0x20 32 == sha256 ((img.drop 256).take (fieldAt img 8 4 - 256))
def fwSigOk (img : List Byte) : Bool :=
  w32 (fieldAt img 0x14 4) == Config.updateKeyId && ecdsaOk Config.updateKey (sliceB img 0xC0 64) (sliceB img 0 0xC0)

/-- The governing firmware activation record (R433): the valid copy with the greater SEQ; true where it is copy 1. -/
def State.fwGov (s : State) : Option (FwRec × Bool) :=
  let a := s.nv.fwRec0
  let b := s.nv.fwRec1
  if a.valid && b.valid then (if 0 < tsDiff b.seq a.seq then some (b, true) else some (a, false))
  else if a.valid then some (a, false) else if b.valid then some (b, true) else none

/-- Rewrite the record: the other copy, with SEQ + 1 (R433). -/
def State.fwWrite (s : State) (bank : Nat) (confirmed : Bool) (trials : Nat) : State :=
  match s.fwGov with
  | some (r, one) =>
    let n : FwRec := ⟨r.seq + 1, bank, confirmed, trials, true⟩
    { s with nv := if one then { s.nv with fwRec0 := n } else { s.nv with fwRec1 := n } }
  | none => { s with nv := { s.nv with fwRec0 := ⟨1, bank, confirmed, trials, true⟩ } }

/-- UPD.STAT.STAGE (R447). -/
def State.updStage (s : State) : Nat := s.rf Reg.UPD_STAT Fd.UPD_STAT_STAGE
def State.setStage (s : State) (v : Nat) : State :=
  if s.updStage = v then s else (s.wf Reg.UPD_STAT Fd.UPD_STAT_STAGE v).raise 0x6 0

/-- READY sets once the calibrations are complete and a plan runs or none can be started (R427). -/
def State.checkReady (s : State) : State :=
  if s.sys.calDone && s.sys.planDone && !s.flag Reg.SYS_STAT Fd.SYS_STAT_READY && decide (5 ≤ s.sys.step) then
    (({ s with sys := { s.sys with step := 9 } }.wf Reg.SYS_STAT Fd.SYS_STAT_READY 1).wr Reg.SYS_READY_LTC s.now).raise 0x0 0
  else s

/-- Put the stored board settings into their registers (R458); settings in a format the firmware cannot read return to
their Reset values (R438). -/
def State.loadSettings (s : State) (readable : Bool) (fmt : Nat) : State :=
  if readable then
    let s1 := s.nv.settings.foldl (fun (a : State) e => a.wr e.1 e.2) s
    { s1 with nv := { s1.nv with setFmt := fmt } }
  else
    let old := s.nv.setFmt
    let s1 := s.nv.settings.foldl (fun (a : State) e => a.wr e.1 (resetWord e.1)) s
    let s2 := { s1 with
      nv := { s1.nv with settings := [], setFmt := fmt }, sys := { s1.sys with setMark := some (old, fmt) } }
    let s3 := (((s2.wf Reg.NVS_STAT Fd.NVS_STAT_SETTINGS_RESET 1).err 0x6 Err.SETTINGS_RESET).logFault Err.SETTINGS_RESET 0x6 fmt)
    if s3.pln.run.isSome then ({ s3 with sys := { s3.sys with setMark := none } }).sysMark 9 s3.ltc old fmt else s3

/-- The tether is not trained (R439), or training starts anew. -/
def State.untrain (s : State) (v : Nat) : State :=
  let s1 := iter 2 (fun i (a : State) => match a.pai.lanes[i]? with
    | some l => { a with pai := { a.pai with lanes := setAt a.pai.lanes i { l with up := false, run := 0, echoed := false } } }
    | none => a) s
  ((s1.wf Reg.TTH_STAT Fd.TTH_STAT_STATE v).wf Reg.TTH_STAT Fd.TTH_STAT_L0_UP 0).wf Reg.TTH_STAT Fd.TTH_STAT_L1_UP 0

/-- Safelight starts (R437, R439): no plan, LAS_EN low, TSW released, the tether not trained. -/
def State.enterSafelight (s : State) (fallback : Bool) : State :=
  let s1 := ((s.wf Reg.SYS_STAT Fd.SYS_STAT_SAFELIGHT 1).wr Reg.SYS_FW_VER Config.safelightVer).wf Reg.UPD_STAT
    Fd.UPD_STAT_RUN_BANK 0
  let s2 := ((s1.wf Reg.SYS_STAT Fd.SYS_STAT_TRIAL 0).wf Reg.UPD_STAT Fd.UPD_STAT_TRIAL 0)
  let s3 := { s2 with
    pln := { s2.pln with run := none, loading := none, checking := none, target := none, shadow := none, instant := none },
    nv := { s2.nv with slotA := s2.nv.slotA.atStart, slotB := s2.nv.slotB.atStart },
    ofe := { s2.ofe with script := [], wins := [] },
    sys := { s2.sys with planDone := true, planAt := none } }
  let s4 := (((s3.untrain 0).lasUpdate).tswBalls.wf Reg.OFE_STAT Fd.OFE_STAT_LAUNCH 0).wf Reg.FLD_STAT Fd.FLD_STAT_TICKING 0
  if fallback then
    (((s4.wf Reg.UPD_STAT Fd.UPD_STAT_FALLBACK 1).err 0x6 Err.UPD_FALLBACK).raise 0x6 1).logFault Err.UPD_FALLBACK 0x6 0
  else s4

/-- The loader's choice (R433, R437, R443): Safelight, or the image of the governing record, on trial with one more
trial counted. `good`, `ver` and `fmt` describe the image in flash where the model holds none of its bytes. -/
def State.loadImage (s : State) (good readable : Bool) (ver : Word) (fmt : Nat) : State :=
  match s.fwGov with
  | none => (s.enterSafelight true).loadSettings readable fmt
  | some (r, _) =>
    let img := s.bank r.bank
    let fine := if img = [] then good else fwHeaderOk img && fwDigestOk img && fwSigOk img
    let v := if img = [] then ver else w32 (fieldAt img 0x10 4)
    let f := if img = [] then fmt else fieldAt img 0x18 2
    let ovf := !r.confirmed && decide (3 ≤ r.trials)
    if s.nv.life = 2 ∨ ovf ∨ !fine then (s.enterSafelight (s.nv.life ≠ 2)).loadSettings readable s.nv.setFmt
    else
      let s1 := if r.confirmed then s else s.fwWrite r.bank false (r.trials + 1)
      let left := s.flag Reg.SYS_STAT Fd.SYS_STAT_SAFELIGHT && s.flag Reg.SYS_STAT Fd.SYS_STAT_STRAP_PAIR
      let s2 := (((if left then s1.untrain 1 else s1).wr Reg.SYS_FW_VER v).wf Reg.SYS_STAT Fd.SYS_STAT_SAFELIGHT 0).wf
        Reg.SYS_STAT Fd.SYS_STAT_TRIAL (b2n (!r.confirmed))
      let s3 := ((s2.wf Reg.UPD_STAT Fd.UPD_STAT_RUN_BANK r.bank).wf Reg.UPD_STAT Fd.UPD_STAT_TRIAL (b2n (!r.confirmed))).wf
        Reg.UPD_STAT Fd.UPD_STAT_FALLBACK 0
      ({ s3 with sys := { s3.sys with fwAt := s3.ltc, updBank := 1 - r.bank } }).loadSettings readable f

/-- The plan slot that the activation record names (R47): that of the valid copy with the later sequence number. -/
def State.recordSlot (s : State) : Option Nat :=
  let a := s.nv.planRec0
  let b := s.nv.planRec1
  if a.valid && b.valid then some (if (b.seq - a.seq).toNat < 2 ^ 31 then b.slot else a.slot)
  else if a.valid then some a.slot
  else if b.valid then some b.slot
  else none

/-- A plan slot, and the state with a slot replaced. -/
def State.slot (s : State) (i : Nat) : PlanSlot := if i = 0 then s.nv.slotA else s.nv.slotB
def State.setSlot (s : State) (i : Nat) (p : PlanSlot) : State :=
  { s with nv := if i = 0 then { s.nv with slotA := p } else { s.nv with slotB := p } }

/-- A committed plan is there to start (R48). -/
def State.plansToLoad (s : State) : List Nat :=
  match s.recordSlot with
  | none => []
  | some i => [i, 1 - i].filter (fun j => (s.slot j).state == 4)

/-- STARTUP_CAL_DONE: both calibrations of the start are complete (R78, R180). -/
def opStartupCalDone (tempRx tempFld : Int) (s : State) : State :=
  if s.sys.step < 5 ∨ s.sys.calDone then s
  else
    let rx := w32 (unsigned 16 tempRx)
    let fl := w32 (unsigned 16 tempFld)
    let s1 := ((s.wr Reg.OFE_TEMP_NOW rx).wr Reg.OFE_TEMP_CAL rx).wf Reg.OFE_STAT Fd.OFE_STAT_CAL_BUSY 0
    let s2 := ((iter 8 (fun c (a : State) => a.setConv c a.convRest false) s1).wr Reg.FLD_TEMP_NOW fl).wr Reg.FLD_TEMP_CAL fl
    let s2 := s2.wf Reg.FLD_STAT Fd.FLD_STAT_CAL_BUSY 0
    ({ s2 with
      sys := { s2.sys with calDone := true }, ofe := { s2.ofe with calAt := s2.ltc },
      fld := { s2.fld with calAt := s2.ltc } }).checkReady

def execStartupCalDone (tempRx tempFld : Int) (s : State) : Host.Outcome State Fault Refusal :=
  ok (opStartupCalDone tempRx tempFld s)

/-- WINCH_RESTART_DONE: the new image runs; no block is reset and no boot is counted (R436). -/
def opWinchRestart (good readable : Bool) (ver : Word) (fmt : Nat) (s : State) : State :=
  if !s.sys.restarting then s
  else
    let s1 := ({ s with sys := { s.sys with restarting := false, verified := false } }).loadImage good readable ver fmt
    (s1.setStage 0).mPump.takeSource

def execWinchRestartDone (good readable : Bool) (ver : Word) (fmt : Nat) (s : State) : Host.Outcome State Fault Refusal :=
  ok (opWinchRestart good readable ver fmt s)

/-! ### Update -/

/-- The update fails with a code (R435, R447), which its page reports (R451). -/
def State.updFail (s : State) (code : Nat) : State :=
  let page := if code = Err.SDC_CARD ∨ code = Err.SDC_IO then 0x5b else 0x6
  (((({ s with sys := { s.sys with updAct := false, updAbort := false } }).setStage 6).wr Reg.UPD_RESULT (w32 code)).err page
    code).raise 0x6 1

/-- Write the record and restart Winch into a bank (R435). -/
def State.updActivate (s : State) : State :=
  let s1 := (s.setStage 5).fwWrite s.sys.updBank false 0
  { s1 with sys := { s1.sys with restarting := true, updAct := false, verified := false } }

/-- A step of the UPDATE class ends (R435): whether the activity ends with it. The steps are the header check with the
comparison of the target bank's blocks, one block each, the header, BODY_DIGEST, SIGNATURE. -/
def State.updStep (s : State) : State × Bool :=
  let pos := s.sys.updPos
  let b := s.sys.updBank
  let img := s.bank b
  if s.sys.updAbort then
    let s1 := { s with sys := { s.sys with updAbort := false, updAct := false } }
    (s1.setStage (if s.updStage = 3 then 2 else 0), true)
  else if s.updStage = 3 then
    if pos = 0 then
      if !fwHeaderOk img then (s.updFail Err.UPD_HEADER, true)
      else if !fwDigestOk img then (s.updFail Err.UPD_DIGEST, true)
      else ({ s with sys := { s.sys with updPos := 1 } }, false)
    else if !fwSigOk img then (s.updFail Err.UPD_SIG, true)
    else
      let s1 := ({ s with sys := { s.sys with verified := true } }).setStage 4
      (if s.sys.updAct then s1.updActivate else s1, true)
  else
    match s.sys.card.bind (·.file) with
    | none => (s.updFail Err.UPD_NO_CARD, true)
    | some f =>
      let n := fwBlocks f
      if pos = 0 then
        if !fwHeaderOk f then (s.updFail Err.UPD_HEADER, true)
        else
          let good (i : Nat) : Bool :=
            crc32c ((img.drop (256 + 65536 * i)).take (fwBlock f i).length) == fieldAt f (0x40 + 4 * i) 4 &&
              decide (256 + 65536 * i + (fwBlock f i).length ≤ img.length)
          let first := ((List.range n).find? (fun i => !good i)).getD n
          let s1 := if 0 < first ∧ first < n then s.count Reg.UPD_RESUMES else s
          let cut := List.replicate 256 (0xFF : Byte) ++ ((img.drop 256).take (65536 * first))
          let s2 := s1.setBank b cut
          ({ s2.wr Reg.UPD_PROGRESS (w32 (first + 256 * n)) with sys := { s2.sys with updPos := first + 1 } }, false)
      else if pos ≤ n then
        let blk := fwBlock f (pos - 1)
        if crc32c blk ≠ fieldAt f (0x40 + 4 * (pos - 1)) 4 then (s.updFail Err.UPD_BLOCK, true)
        else
          let s1 := s.setBank b (img ++ blk)
          ({ s1.wr Reg.UPD_PROGRESS (w32 (pos + 256 * n)) with sys := { s1.sys with updPos := pos + 1 } }, false)
      else
        let s1 := s.setBank b (f.take 256 ++ img.drop 256)
        (({ s1 with sys := { s1.sys with updPos := 0 } }).setStage 3, false)

/-- The bank START writes and ACTIVATE takes: the one the governing record does not name; in Safelight bank 0 where
neither has a valid header (R435, R439). -/
def State.updTarget (s : State) : Nat :=
  if s.flag Reg.SYS_STAT Fd.SYS_STAT_SAFELIGHT && !fwHeaderOk s.nv.bank0 && !fwHeaderOk s.nv.bank1 then 0
  else match s.fwGov with | some (r, _) => 1 - r.bank | none => 0

/-- UPD_START (R435). -/
def opUpdStart (x : Nat) (s : State) : State :=
  let st := s.updStage
  if x ≠ 0 then s.err 0x6 Err.UPD_OWNER
  else if st = 1 ∨ st = 3 ∨ st = 5 then s.err 0x6 Err.UPD_STAGE
  else
    match s.sys.card with
    | none => s.updFail Err.UPD_NO_CARD
    | some c =>
      if c.type.val = 0 ∨ c.type.val = 3 then s.updFail Err.SDC_CARD
      else if !c.fat32 ∨ c.file.isNone then s.updFail Err.UPD_NO_CARD
      else
        let s1 := { s with sys := { s.sys with updPos := 0, updAbort := false, updAct := false, updBank := s.updTarget, verified := false } }
        ((s1.setStage 1).wr Reg.UPD_RESULT 0).mRequest 2
def execUpdStart (ctx : Fin 4) (s : State) : Host.Outcome State Fault Refusal := ok (opUpdStart ctx.val s)

/-- ACTIVATE (R435, R439). -/
def opActivate (x bank : Nat) (use : Bool) (s : State) : State :=
  let st := s.updStage
  let safe := s.flag Reg.SYS_STAT Fd.SYS_STAT_SAFELIGHT
  if x ≠ 0 then s.err 0x6 Err.UPD_OWNER
  else if st = 1 ∨ st = 3 ∨ st = 5 ∨ (use ∧ !safe) then s.err 0x6 Err.UPD_STAGE
  else
    let b := if use then bank else s.updTarget
    let s1 := { s with sys := { s.sys with updBank := b, updPos := 0, updAbort := false, updAct := true } }
    if s.sys.verified && b == s.sys.updBank then s1.updActivate else (s1.setStage 3).mRequest 2
def execUpdActivate (ctx : Fin 4) (bank : Fin 2) (useBank : Bool) (s : State) : Host.Outcome State Fault Refusal :=
  ok (opActivate ctx.val bank.val useBank s)

/-- The image on trial is confirmed (R435). -/
def State.confirmFw (s : State) : State :=
  match s.fwGov with
  | some (r, _) =>
    ((s.fwWrite r.bank true r.trials).wf Reg.SYS_STAT Fd.SYS_STAT_TRIAL 0).wf Reg.UPD_STAT Fd.UPD_STAT_TRIAL 0
  | none => s

/-- CONFIRM (R435). -/
def opConfirm (x : Nat) (s : State) : State :=
  if x ≠ 0 then s.err 0x6 Err.UPD_OWNER
  else if !s.flag Reg.SYS_STAT Fd.SYS_STAT_TRIAL ∨ s.sys.restarting then s.err 0x6 Err.UPD_STAGE
  else s.confirmFw
def execUpdConfirm (ctx : Fin 4) (s : State) : Host.Outcome State Fault Refusal := ok (opConfirm ctx.val s)

/-- AUTO_CONFIRM: AUTO_S seconds with a plan running (R437). -/
def opAutoConfirm (s : State) : State :=
  let n := s.rf Reg.UPD_CFG Fd.UPD_CFG_AUTO_S * tickS
  if n = 0 ∨ !s.flag Reg.SYS_STAT Fd.SYS_STAT_TRIAL ∨ s.ltc.toNat < s.sys.fwAt.toNat + n then s
  else
    match s.sys.planAt with
    | some t => if t.toNat + n ≤ s.ltc.toNat then s.confirmFw else s
    | none => s
def execAutoConfirm (s : State) : Host.Outcome State Fault Refusal := ok (opAutoConfirm s)

/-- UPD_ABORT: at the next step boundary (R435). -/
def opUpdAbort (x : Nat) (s : State) : State :=
  let st := s.updStage
  if x ≠ 0 then s.err 0x6 Err.UPD_OWNER
  else if st ≠ 1 ∧ st ≠ 3 then s.err 0x6 Err.UPD_STAGE
  else { s with sys := { s.sys with updAbort := true } }
def execUpdAbort (ctx : Fin 4) (s : State) : Host.Outcome State Fault Refusal := ok (opUpdAbort ctx.val s)

/-- A download's running step ends with a cause; the next START resumes (R435). -/
def State.updStop (s : State) (code : Nat) : State :=
  if s.updStage = 1 then ((s.updFail code).mEnd 2).mPump else s

/-- SD_CARD_INSERT (R449). -/
def opSdInsert (c : SdCard) (s : State) : State :=
  let good := c.type.val = 1 ∨ c.type.val = 2
  let cfg := s.rd Reg.SDC_CFG
  let st := 1 + 2 * b2n (decide good) + 4 * c.type.val + 16 * b2n (decide good && c.fat32) +
    32 * b2n (decide good && c.fat32 && c.file.isSome) + (if good then 64 * cfg.get Fd.SDC_CFG_HS + 128 * cfg.get Fd.SDC_CFG_WIDE else 0)
  let s1 := ((({ s with sys := { s.sys with card := some c } }).wr Reg.SDC_STAT (w32 st)).count Reg.SDC_INSERTS).raise 0x5b 0
  if good then s1 else s1.err 0x5b Err.SDC_CARD
def execSdCardInsert (card : SdCard) (s : State) : Host.Outcome State Fault Refusal := ok (opSdInsert card s)

/-- SD_CARD_REMOVE (R435, R449). -/
def opSdRemove (s : State) : State :=
  if s.sys.card.isNone then s
  else ((({ s with sys := { s.sys with card := none } }).wr Reg.SDC_STAT 0).raise 0x5b 1).updStop Err.UPD_NO_CARD
def execSdCardRemove (s : State) : Host.Outcome State Fault Refusal := ok (opSdRemove s)

/-- SD_TIMEOUT: a timeout, or a CRC error, of a command or data block (R35, R449). -/
def opSdTimeout (crc : Bool) (s : State) : State :=
  let s1 := if crc then s.count Reg.SDC_CRC_ERR else s.count Reg.SDC_TIMEOUTS
  if s.updStage = 1 then s1.updStop Err.SDC_IO else s1.err 0x5b Err.SDC_IO
def execSdTimeout (crc : Bool) (s : State) : Host.Outcome State Fault Refusal := ok (opSdTimeout crc s)

/-! ### Keys and life cycle -/

/-- KEY_DATA is cleared after each CMD (R448). -/
def State.clearKeyData (s : State) : State := iter 16 (fun i a => a.wr (Reg.SEC_KEY_DATA i) 0) s
def State.keyBytes (s : State) (n : Nat) : List Byte := ((List.range n).map (fun i => wordBytes (s.rd (Reg.SEC_KEY_DATA i)))).flatten

/-- INSTALL (R440, R441, R448). -/
def opInstall (x slot : Nat) (s : State) : State :=
  if x ≠ 0 then s.err 0x5 Err.SEC_OWNER
  else if 5 ≤ slot then s.err 0x5 Err.SEC_RANGE
  else if s.nv.life = 2 then (s.err 0x5 Err.SEC_STATE).clearKeyData
  else if slot = 0 then
    let s1 : State := if s.nv.life = 0 then
        ({ s.wipe 2 with nv := { (s.wipe 2).nv with life := 1 } }).raise 0x5 1
      else s
    ({ s1 with nv := { s1.nv with planKey := some (s.rd Reg.SEC_INSTALL_ID, s.keyBytes 16), wiped := false } }).clearKeyData
  else
    ({ s with nv := { s.nv with ctxKeys := setAt s.nv.ctxKeys (slot - 1) (some (s.keyBytes 4)), wiped := false } }).clearKeyData
def execKeyInstall (ctx : Fin 4) (slot : Fin 8) (s : State) : Host.Outcome State Fault Refusal := ok (opInstall ctx.val slot.val s)

/-- REMOVE (R441). -/
def opRemove (x slot : Nat) (s : State) : State :=
  if x ≠ 0 then s.err 0x5 Err.SEC_OWNER
  else if 5 ≤ slot then s.err 0x5 Err.SEC_RANGE
  else if slot = 0 then (s.err 0x5 Err.SEC_STATE).clearKeyData
  else ({ s with nv := { s.nv with ctxKeys := setAt s.nv.ctxKeys (slot - 1) none } }).clearKeyData
def execKeyRemove (ctx : Fin 4) (slot : Fin 8) (s : State) : Host.Outcome State Fault Refusal := ok (opRemove ctx.val slot.val s)

/-- RETURN_ARM and its expiry after 1 s (R443). -/
def opReturnArm (x : Nat) (s : State) : State :=
  if x ≠ 0 then s.err 0x5 Err.SEC_OWNER
  else ({ s with sys := { s.sys with returnArmed := true } }).clearKeyData
def execReturnArm (ctx : Fin 4) (s : State) : Host.Outcome State Fault Refusal := ok (opReturnArm ctx.val s)

def execReturnArmExpiry (s : State) : Host.Outcome State Fault Refusal :=
  ok { s with sys := { s.sys with returnArmed := false } }

/-- RETURN (R440, R443). -/
def opReturn (x : Nat) (s : State) : State :=
  if x ≠ 0 then s.err 0x5 Err.SEC_OWNER
  else if !s.sys.returnArmed ∨ s.nv.life ≠ 1 then (s.err 0x5 Err.SEC_STATE).clearKeyData
  else
    let s1 := s.wipe 2
    let s2 := { s1 with nv := { s1.nv with
      life := 2, slotA := ⟨0, []⟩, slotB := ⟨0, []⟩, settings := [], history := [], histNext := 0 } }
    (s2.raise 0x5 1).fullReset 7 0
def execPartReturn (ctx : Fin 4) (s : State) : Host.Outcome State Fault Refusal := ok (opReturn ctx.val s)

end Sys2Proof.Machine
end

