-- ==== Sys2Proof/Machine/Memory.lean ====
section
/-!
DEFINITION. Scratch Ballast, scrub, memory tests, flash patrol and wear, telemetry, and the steps of maintenance (R405 to
R422, R450).
-/

namespace Sys2Proof.Machine

/-! ### Telemetry -/

/-- The TELEMETRY payload (R418). -/
def State.telPayload (s : State) (stored : Bool) : List Byte :=
  let m := s.mnt
  le4 (s.rd Reg.TEL_RECORDS).toNat ++ le2 (b2n stored + 2 * b2n s.parked + 4 * b2n (s.role == 2)) ++ le2 0 ++
    le2 (unsigned 16 m.tCore) ++ le2 (s.rd Reg.FLD_TEMP_NOW).toNat ++ le2 (s.rd Reg.OFE_TEMP_NOW).toNat ++
    le2 (s.rd Reg.FLT_LINE_FREQ).toNat ++ (List.range 9).flatMap (fun r => le2 (nth m.rails r 0)) ++ le2 0 ++
    le4 m.power ++ le4 m.iVdd ++ m.corr.flatMap le4 ++ m.uncorr.flatMap le4 ++ le4 s.nv.eraseMax ++ le4 s.nv.reserve ++
    le4 (s.ltc.toNat / tickS) ++ le4 m.faultCount ++ le4 0

/-- Read the monitors, push a TELEMETRY record, and store every 2^HIST_EXP-th in the history (R418). -/
def State.telemetry (s : State) : State :=
  if !s.mEnabled 6 || s.mSt 6 != 0 || s.sys.restarting then s
  else
    let cfg := s.rd Reg.TEL_CFG
    let n := (s.rd Reg.TEL_RECORDS).toNat
    let stored := cfg.get Fd.TEL_CFG_HIST_EN == 1 && (n + 1) % 2 ^ cfg.get Fd.TEL_CFG_HIST_EXP == 0
    let s1 := s.mBegin 6
    let pay := s1.telPayload stored
    let rec_ := (Rec.mk 0xA 0x8 0x500 (s1.seqOf 0x8 0x500 0xA) s1.ltc pay).header ++ pay
    let s2 := (((s1.emit 0xA 0x8 0x500 s1.ltc pay).countMod Reg.TEL_RECORDS).raise 0x5a 0)
    let s3 : State := if stored then
        let h := s2.nv.history ++ [rec_]
        { s2 with nv := { s2.nv with
          history := h.drop (h.length - Config.histCap),
          histNext := if Config.histCap = 0 then 0 else (s2.nv.histNext + 112) % (112 * Config.histCap) } }
      else s2
    s3.mEnd 6

/-- TEL_PERIOD: PERIOD seconds have passed (R418). -/
def opTelPeriod (m : Monitors) (s : State) : State :=
  let s1 := { s with mnt := { s.mnt with
    rails := (List.range 9).map (fun r => nth m.rails r 0 % 65536), tCore := satS 16 m.tCore, power := satU 32 m.power,
    iVdd := satU 32 m.iVdd, telAt := s.ltc } }
  if s.rf Reg.TEL_CFG Fd.TEL_CFG_PERIOD = 0 then s1 else s1.telemetry

def execTelPeriod (m : Monitors) (s : State) : Host.Outcome State Fault Refusal := ok (opTelPeriod m s)

/-! ### Steps -/

/-- The memory test is done with block number i, tested or abandoned: its pass ends when the last block of the enabled
memories is done, and an abandoned block is next tried in the next pass (R411, R412). -/
def State.testNext (s : State) (i : Nat) : State :=
  let wraps := match s.nextBlock (i + 1) with | some j => decide (j ≤ i) | none => true
  let s1 := if wraps then s.countMod Reg.MEM_TEST_PASS else s
  ({ s1 with mnt := { s1.mnt with borrowed := none, cursor := i + 1 } }).mEnd 5

/-- The memory test's block ends with a finding (R411, R412): a failed block is reported and stays in use. -/
def State.testStep (s : State) (fail : Bool) : State :=
  match s.mnt.borrowed with
  | none => s.mEnd 5
  | some i =>
    let a := (blockAddr testAreas i).getD 0
    let s1 : State := if fail then
        (((((s.count Reg.MEM_TEST_FAIL).wr Reg.MEM_TEST_FAIL_ADDR (w32 a)).err 0x58 Err.MEM_TEST_FAIL).raise 0x58 1).logFault
          Err.MEM_TEST_FAIL 0x58 a)
      else s
    s1.testNext i

/-- MAINTENANCE_STEP_START: the step of a class in execution ends; the coordinator then starts what may start (R411,
R413, R417, R422, R435). -/
def opMaintStep (k : Nat) (r : StepEnd) (s : State) : State :=
  if !s.mBusy k ∨ k = 0 ∨ k = 1 then s.mPump
  else
    let s0 := s.mSet k 2 false
    let s1 : State :=
      if k = 2 then
        let u := s0.updStep
        if u.2 then u.1.mEnd 2 else u.1
      else if k = 5 then s0.testStep r.fail
      else if k = 4 then
        let a := if r.refresh then
            (if s0.nv.reserve = 0 then s0.logFault Err.NVS_RESERVE 0x5c 0 else s0.count Reg.NVS_REFRESHED)
          else s0
        if r.last ∨ nth a.mnt.abort 4 false then a.mEnd 4 else a
      else if r.last then s0.mEnd k else s0
    ({ s1 with mnt := { s1.mnt with abort := setAt s1.mnt.abort k false } }).mPump

def execMaintenanceStepStart (cls : Fin 7) (r : StepEnd) (s : State) : Host.Outcome State Fault Refusal :=
  ok (opMaintStep cls.val r s)

/-- MNT_START: as the activity's own trigger would act (R422). -/
def opMntStart (x k : Nat) (s : State) : State :=
  if x ≠ 0 then s.err 0x4 Err.MNT_OWNER
  else if k = 0 then s.rxRecal
  else if k = 1 then opFldCal 15 s
  else if k = 4 ∨ k = 5 then s.mRequest k
  else if k = 6 then s.telemetry
  else s.err 0x4 Err.MNT_RANGE
def execMntStart (ctx : Fin 4) (cls : Fin 8) (s : State) : Host.Outcome State Fault Refusal := ok (opMntStart ctx.val cls.val s)

/-- MNT_ABORT: ends a FLASH_PATROL, MEMTEST or TEL, at its next step boundary where it runs (R422). -/
def opMntAbort (x k : Nat) (s : State) : State :=
  if x ≠ 0 then s.err 0x4 Err.MNT_OWNER
  else if k ≠ 4 ∧ k ≠ 5 ∧ k ≠ 6 then s.err 0x4 Err.MNT_RANGE
  else if s.mSt k = 0 then s
  else if s.mBusy k then { s with mnt := { s.mnt with abort := setAt s.mnt.abort k true } }
  else (s.mEnd k).mPump
def execMntAbort (ctx : Fin 4) (cls : Fin 8) (s : State) : Host.Outcome State Fault Refusal := ok (opMntAbort ctx.val cls.val s)

/-- FLASH_PATROL_PERIOD, MEMTEST_PERIOD: the next pass or step comes due (R411, R413). -/
def opPatrolPeriod (s : State) : State := if s.rf Reg.NVS_CFG Fd.NVS_CFG_PATROL = 0 then s else s.mRequest 4
def execFlashPatrolPeriod (s : State) : Host.Outcome State Fault Refusal := ok (opPatrolPeriod s)

def opTestPeriod (s : State) : State := if s.rf Reg.MEM_TEST_CFG Fd.MEM_TEST_CFG_PERIOD = 0 then s else s.mRequest 5
def execMemtestPeriod (s : State) : Host.Outcome State Fault Refusal := ok (opTestPeriod s)

/-- MEMTEST_BLOCK_RESTORE: a processor, or a core's DMA, reached the borrowed block: the test gives it up, and a Loupe
core stalls for `cycles`, in which its counts stand still (R317, R412). -/
def opTestRestore (core : Option (Fin 16)) (cycles : Nat) (s : State) : State :=
  match s.mnt.borrowed with
  | none => s
  | some i =>
    let s2 := (s.count Reg.MEM_TEST_ABANDON).testNext i
    let s3 : State := match core with
      | some c =>
        let x := s2.core c.val
        (s2.setCore c.val { x with startAt := x.startAt + BitVec.ofNat 64 (cycles * 5 / 4) }).countN (Reg.LPE_STALL c.val) cycles
      | none => s2
    s3.mPump
def execMemtestBlockRestore (core : Option (Fin 16)) (cycles : Nat) (s : State) : Host.Outcome State Fault Refusal :=
  ok (opTestRestore core cycles s)

/-- FLASH_TIMEOUT: a program or erase took 20 ms; its block is retired, and wear management replaces it; `reserve` is the
reserve then left (R28, R413, R450). -/
def opFlashTimeout (reserve : Nat) (s : State) : State :=
  let s1 := { s with nv := { s.nv with retired := s.nv.retired + 1, reserve := reserve } }
  let s2 := (((s1.count Reg.NVS_FLASH_TO).err 0x5c Err.FLASH_TIMEOUT).raise 0x5c 1).logFault Err.FLASH_TIMEOUT 0x5c 0
  let low := decide (100 * reserve < s.rf Reg.NVS_CFG Fd.NVS_CFG_RES_WARN * Config.reserveSize)
  let s3 : State := if low && !s2.flag Reg.NVS_STAT Fd.NVS_STAT_RES_WARN then
      ((s2.wf Reg.NVS_STAT Fd.NVS_STAT_RES_WARN 1).err 0x5c Err.NVS_RESERVE).raise 0x5c 0
    else s2
  s3.mRequest 3
def execFlashTimeout (reserve : Nat) (s : State) : Host.Outcome State Fault Refusal := ok (opFlashTimeout reserve s)

/-! ### Ballast and scrub -/

/-- A bank has no owner under the active plan (R405). -/
def State.bankFree (s : State) (b : Nat) : Bool := (s.rd (Reg.MEM_OWN (b / 4))).toNat / 2 ^ (8 * (b % 4)) % 256 == 0

/-- The banks of a word that have no owner under the active plan. -/
def State.freeBanks (s : State) (v : Word) : Word :=
  w32 ((List.range 32).foldl (fun a b => a + b2n (Word.bit v b && s.bankFree b) * 2 ^ b) 0)

/-- The banks of `m` are in Ballast from now; the other banks that were wake (R407). -/
def State.retain (s : State) (m : Word) : State :=
  let wake := (s.rd Reg.MEM_RETAINED) &&& ~~~ m
  (s.wr Reg.MEM_RETAINED m).wr Reg.MEM_WAKING ((s.rd Reg.MEM_WAKING ||| wake) &&& ~~~ m)

/-- MEM.BALLAST is written (R407): a free bank whose bit is set enters Ballast; a cleared bit wakes a bank; the bit of an
owned bank is ignored and reported. -/
def State.setBallast (s : State) (v : Word) : State :=
  let used := (List.range 32).any (fun b => Word.bit v b && !s.bankFree b)
  let s1 := (s.wr Reg.MEM_BALLAST v).retain (s.freeBanks v)
  if used then (s1.err 0x58 Err.MEM_BALLAST_USED).raise 0x58 2 else s1

/-- Banks that a plan owns (R405). -/
def Plan.ownedBanks (p : Plan) : Word :=
  w32 ((List.range 32).foldl (fun a b => a + b2n ((p.reg (Reg.MEM_OWN (b / 4))).toNat / 2 ^ (8 * (b % 4)) % 256 != 0) * 2 ^ b) 0)

/-- Before Winch loads a plan's tables it wakes every bank that the plan owns (R407). -/
def State.wakeFor (s : State) (p : Plan) : State := s.retain (s.rd Reg.MEM_RETAINED &&& ~~~ p.ownedBanks)

/-- The tables are loaded: the plan's banks are awake, and under the new plan a bank of MEM.BALLAST without an owner enters
Ballast (R407). -/
def State.ballastNow (s : State) : State :=
  let m := s.freeBanks (s.rd Reg.MEM_BALLAST)
  let own := s.freeBanks 0xFFFFFFFF
  let s1 := s.retain m
  s1.wr Reg.MEM_WAKING (s1.rd Reg.MEM_WAKING &&& own)

/-- BALLAST_WAKE_DONE (R407). -/
def opBallastWake (b : Nat) (s : State) : State := s.wr Reg.MEM_WAKING (Word.clrBit (s.rd Reg.MEM_WAKING) b)
def execBallastWakeDone (bank : Fin 32) (s : State) : Host.Outcome State Fault Refusal := ok (opBallastWake bank.val s)

/-- MEM_SCRUB: one word of segment (0), spool (1), scratch (2) or Darkroom (3) memory (R409, R410). `passEnd` ends a
pass of that memory. -/
def opMemScrub (m : Nat) (e : Ecc) (passEnd : Bool) (s : State) : State :=
  if s.rf Reg.MEM_SCRUB_CFG Fd.MEM_SCRUB_CFG_PERIOD = 0 then s
  else
    let s1 : State := match e with
      | .clean => s
      | .corrected =>
        if m = 0 then s.count Reg.SCU_SGM_CORR else if m = 1 then s.count Reg.SPL_SPM_CORR
        else if m = 2 then s.count Reg.MEM_SCM_CORR else s
      | _ => if m = 3 then s.wipe 4 else s
    if passEnd ∧ m = 2 then s1.countMod Reg.MEM_SCRUB_PASS else s1
def execMemScrub (mem : Fin 4) (ecc : Ecc) (passEnd : Bool) (s : State) : Host.Outcome State Fault Refusal :=
  ok (opMemScrub mem.val ecc passEnd s)

end Sys2Proof.Machine
end

