-- ==== Sys2Proof/Machine/PairOps.lean ====
section
/-!
DEFINITION. Shared operations of pair operation: tether lanes, heartbeats and training, roles, takeover, handover,
joining and health (R32, R383 to R399).
-/

namespace Sys2Proof.Machine

/-! ### Lanes and roles -/

/-- STAT.STATE of the tether (R402): 0 OFF, 1 TRAINING, 2 UP, 3 ONE_LANE, 4 DOWN. -/
def State.tthState (s : State) : Nat := s.rf Reg.TTH_STAT Fd.TTH_STAT_STATE
def State.setTth (s : State) (v : Nat) : State := s.wf Reg.TTH_STAT Fd.TTH_STAT_STATE v

/-- The hub is one of a pair, and not in Safelight, which does not train the tether (R383, R439). -/
def State.isPair (s : State) : Bool :=
  s.flag Reg.SYS_STAT Fd.SYS_STAT_STRAP_PAIR && !s.flag Reg.SYS_STAT Fd.SYS_STAT_SAFELIGHT
def State.setTlane (s : State) (i : Nat) (l : TethLane) : State :=
  { s with pai := { s.pai with lanes := setAt s.pai.lanes i l } }
def State.anyLane (s : State) : Bool := (s.tlane 0).up || (s.tlane 1).up

/-- L0_UP and L1_UP show the lanes that are trained (R384). -/
def State.showLanes (s : State) : State :=
  (s.wf Reg.TTH_STAT Fd.TTH_STAT_L0_UP (b2n (s.tlane 0).up)).wf Reg.TTH_STAT Fd.TTH_STAT_L1_UP (b2n (s.tlane 1).up)

/-- SYNC changes are events (R403); the present state lasts from now. -/
def State.setSync (s : State) (v : Nat) : State :=
  if s.syncState = v then s
  else
    let s1 := s.wf Reg.PAI_STAT Fd.PAI_STAT_SYNC v
    ({ s1 with pai := { s1.pai with syncAt := if v = 3 then some s.ltc else none } }).raise 0x4d 1

/-- Responses that wait for the standby are sent up to a COPY's number (R390). -/
def State.sendHeld (s : State) (upTo : Nat) : State :=
  let due := s.pai.held.filter (fun h => decide (h.no ≤ upTo))
  let s1 := { s with pai := { s.pai with held := s.pai.held.filter (fun h => !decide (h.no ≤ upTo)) } }
  due.foldl (fun (a : State) h => a.sendMsg h.ctx h.type h.body) s1

/-- A role is taken (R385, R403): OSW_SEL, the TSW balls and PASSIVE follow. -/
def State.setRole (s : State) (r : Nat) : State :=
  let s1 := s.wf Reg.PAI_STAT Fd.PAI_STAT_ROLE r
  let s2 := { s1 with pai := { s1.pai with settled := true } }
  let s3 := ((s2.setOsw (decide (r ≤ 1))).wf Reg.FLD_STAT Fd.FLD_STAT_PASSIVE (b2n (r == 2))).tswBalls
  if s.role = r then s3 else s3.raise 0x4d 0

/-- The hub is active from now (R383): ACTIVE_SINCE. -/
def State.becomeActive (s : State) : State :=
  let s1 := s.setRole 1
  { s1 with pai := { s1.pai with since := s.ltc, joinSent := false, prog := if s.syncState = 3 then s.pai.prog else SyncState.init, ops := [] } }

/-- A resynchronisation begins or restarts (R391, R398, R399). -/
def State.startSync (s : State) (v : Nat) : State :=
  let s1 := s.setSync v
  let s2 := { s1 with pai := { s1.pai with prog := SyncState.init, copies := [] } }
  if s.role = 2 then s2.count Reg.PAI_RESYNCS else s2

/-- Once a role is settled, the ports of the plan's chains start (R233, R239): first ends train, second ends wait. -/
def State.startChains (s : State) : State :=
  iter 16 (fun P (a : State) =>
    if a.firstEnd P && a.drpState P == 0 then a.train P false
    else if (a.secondOf P).isSome && a.drpState P == 0 then a.setDrp P 5 else a) s

/-- The hub is standby from now and joins (R383, R398): its capture units start afresh. -/
def State.becomeStandby (s : State) : State :=
  let s1 := (s.setRole 2).startChains
  { s1 with
    pai := { s1.pai with since := 0, ltcTaken := false, slip := 0, handover := none, acked := 0, held := [], ask := false }
    tim := { s1.tim with next := none, pubs := [] }
    units := s1.units.map (fun (e : Nat × CapUnit) => (e.1, { e.2 with
      ring := [], acc := none, gone := none, copies := [], held := [], olds := [] })) }.startSync 1

/-- The ports at second ends show FAR_END (R239). -/
def State.secondEnds (s : State) : State :=
  iter 16 (fun q (a : State) => if (a.secondOf q).isSome then a.setDrp q 5 else a) s

/-- The role DEPOSED is taken (R396): the Driari ports become second ends. -/
def State.stepDown (s : State) : State :=
  let s1 := (s.setRole 3).setSync 0
  let s2 := { s1 with pai := { s1.pai with since := 0, handover := none, held := [] } }
  s2.dropTrig.swapEnds.secondEnds

/-- The hub is deposed by its partner (R395). -/
def State.depose (s : State) : State := (s.err 0x4d Err.PAI_DEPOSED).stepDown

/-- PFW_FALL (R430): the hub parks at its next boundary, at once where it has none. An active hub whose standby is in
sync becomes DEPOSED instead, as R396 says, and stops its heartbeats; a standby stops shadowing (R431). -/
def opPfwFall (s : State) : State :=
  if s.sys.pfw then s
  else
    let s1 := { s with sys := { s.sys with pfw := true } }
    let s2 := ((((s1.wf Reg.PWR_STAT Fd.PWR_STAT_PFW 1).wf Reg.PWR_STAT Fd.PWR_STAT_COMMITTED 0).count
      Reg.PWR_PFW_EVT).err 0x2 Err.PWR_FAIL).raise 0x2 0
    if s2.role = 1 ∧ s2.syncState = 3 then { s2 with pai := { s2.pai with silent := true } }.stepDown
    else if s2.role = 2 then s2.setSync 0
    else if s2.pln.run.isSome && s2.mainBoundary == 0 then s2.enterPark false else s2
def execPfwFall (s : State) : Host.Outcome State Fault Refusal := ok (opPfwFall s)

/-! ### Training -/

/-- Training has failed (R383): the hub runs as active with no partner. -/
def State.trainFail (s : State) (code : Nat) : State :=
  let s1 := s.err 0x4c code
  if s.pai.settled then s1 else s1.becomeActive.startChains

/-- A lane is trained (R384, R387, R400): the delay, the state of the tether, and the partner's addresses. -/
def State.laneUp (s : State) (i : Nat) (hb : HbMsg) : State :=
  let s1 := (s.setTlane i { s.tlane i with up := true, miss := 0 }).showLanes
  let both := (s1.tlane 0).up && (s1.tlane 1).up
  let s2 := (s1.setTth (if both then 2 else 3)).raise 0x4c 2
  let s3 := ((s2.wr64 Reg.PAI_PARTNER_SN_LO Reg.PAI_PARTNER_SN_HI hb.serial).wr Reg.TTH_PARTNER_IP (w32 hb.ip)).wf
    Reg.PAI_STAT Fd.PAI_STAT_PARTNER_SEEN 1
  { s3 with pai := { s3.pai with serial := hb.serial, udp := hb.udp, tMiss := 0, down := false } }

/-- The partner of an HB is active (R383). -/
def hbActive (hb : HbMsg) : Bool := hb.role == 1 || (hb.role == 4 && hb.since != 0)

/-- The role is settled when the tether trains (R383, R396): a hub that finds its partner active becomes standby; of two
that train together PREF decides, then the lower serial number. -/
def State.settleRole (s : State) (hb : HbMsg) : State :=
  let pref := s.flag Reg.PAI_CFG Fd.PAI_CFG_PREF
  if s.role = 3 ∧ s.pai.settled then (if hbActive hb && !s.sys.pfw then s.becomeStandby else s)
  else if s.role = 1 then
    if !hbActive hb then s
    else if hb.since.toNat < s.pai.since.toNat ∨ (hb.since = s.pai.since ∧ s.nv.serial < hb.serial) then s
    else s.depose
  else if s.role = 2 then (if s.syncState = 0 ∧ hbActive hb ∧ !s.sys.pfw then s.becomeStandby else s)
  else if hbActive hb then s.becomeStandby
  else if pref = hb.pref then (if s.nv.serial < hb.serial then s.becomeActive.startChains else s.becomeStandby)
  else if pref then s.becomeActive.startChains else s.becomeStandby

/-- An HB takes part in the training of its lane (R384, R387). -/
def State.trainHb (s : State) (i : Nat) (hb : HbMsg) : State :=
  let l := s.tlane i
  let other := s.tlane (1 - i)
  if l.up ∨ l.run < 16 ∨ !l.echoed then s
  else if other.up ∧ other.serial ≠ hb.serial then s.err 0x4c Err.TTH_TRAIN
  else
    let d := match hb.echo with
      | some t => (s.ltc.toNat - t.toNat - hb.hold) / 2
      | none => 0
    let s1 := s.wr Reg.TTH_DELAY (w32 (d % 4096))
    if 2063 < d then
      let s2 := s1.setTlane i { l with run := 0 }
      if other.up then s2.err 0x4c Err.TTH_DELAY else (s2.setTth 0).trainFail Err.TTH_DELAY
    else s1.laneUp i hb

/-! ### Loss and takeover -/

/-- The last lane is lost while PAIR_HB continues (R394). -/
def State.tetherDown (s : State) : State :=
  if s.pai.down ∨ s.anyLane ∨ s.tthState ≤ 1 then s
  else
    let s1 := ((s.setTth 4).err 0x4c Err.TTH_DOWN).raise 0x4c 0
    let s2 := { s1 with pai := { s1.pai with down := true } }
    let s3 := s2.sendHeld (s2.pai.copyNo + 1)
    if s.role = 1 ∨ s.role = 2 then s3.setSync 0 else s3

/-- A trained lane returns to step 2 (R384, R400). -/
def State.laneLost (s : State) (i : Nat) (block : Bool) : State :=
  let was := (s.tlane i).up
  let s1 := (s.setTlane i { TethLane.init with block := block }).showLanes
  if !was then s1
  else if (s1.tlane (1 - i)).up then
    (((({ s1 with pai := { s1.pai with prog := { s1.pai.prog with node := false } } }.setTth 3).count Reg.TTH_ONE_LANE_EVT).err 0x4c Err.TTH_ONE_LANE).raise 0x4c 1)
  else s1

/-- Placeholders become GAP records with CAUSE TAKEOVER, ITEMS 1 (R393). -/
def State.gapPlaceholders (s : State) (k : Nat) : State :=
  (s.lane k).items.foldl (fun (a : State) it =>
    if !it.ph then a
    else
      let seq := a.seqOf 0x8 (0x200 + k) 0x7
      let g := GapAcct.first 3 it.record it.size
      let r : Rec := ⟨0x7, 0x8, 0x200 + k, seq, it.record.ref, g.payload (k % 4)⟩
      let l := a.lane k
      (a.bumpSeq 0x8 (0x200 + k) 0x7).setLane k
        { l with items := l.items.map (fun j => if j.no = it.no then { j with record := r, out := r.payload, ph := false } else j) }) s

/-- The feature records of zones that point p would have completed at the end of an interval are lost (R130, R393). -/
def State.loseZones (s : State) (p : Nat) : State :=
  if !s.intEnd then s
  else (s.usedZones.filter (fun z => z.first + z.count == p + 1 && z.ctrl.get zOUT == 1)).foldl
    (fun (a : State) z => a.emit 0xD 0x1 z.z a.fib.cur.launch (a.zonePayload z (a.features z) (a.zst z.z).count)) s

/-- The items of the rest of a launch in progress are lost (R32, R393). -/
def State.loseRun (s : State) (r : FibRun) : State :=
  iter (s.fenN - r.next)
    (fun i (a : State) => ((a.loseZones (r.next + i)).phaseBlocks (r.next + i)).contactSheets (r.next + i))
    { s with fib := { s.fib with cur := r } }

/-- The launches in progress end without their remaining points. -/
def State.loseRuns (s : State) : State :=
  let rs := s.fib.older ++ (if s.fib.cur.live then [s.fib.cur] else [])
  if rs = [] then s
  else
    let s1 := rs.foldl (fun (a : State) r => a.loseRun r) { s with pai := { s.pai with lost := true } }
    { s1 with
      pai := { s1.pai with lost := false }
      fib := { s1.fib with cur := { s1.fib.cur with live := false }, older := [], acc := [], lost := true } }

/-- The points whose Z has been forwarded are processed before the takeover acts (R393). Their records meet no memory
error. -/
def State.completeFed (s : State) : State :=
  let all (a : State) (j : Nat) : State := iter a.fenN (fun p (b : State) => b.withRun j (fun c => c.updatePoint p [] .clean)) a
  { (s.fib.older ++ [s.fib.cur]).foldl (fun (a : State) r => all a r.slot) s with ltc := s.ltc }

/-- The next raw results of a channel carry SETTLE for the excitation count (R210). -/
def State.settleExc (s : State) (n : Nat) : State :=
  let k := if s.fieldTick = 0 then 0 else ceilDiv 103125 s.fieldTick + 2
  s.setFch n { s.fch n with settle := max (s.fch n).settle k }

/-- A channel's excitation is switched on (R190, R210): its comparators hold, in their safe states (1) or as they are (2),
and its next raw results carry SETTLE. A standby's excitation is off (R191): it only counts along the SETTLE of the
results that its partner forwards (R388). -/
def State.exciteChannel (s : State) (n mode : Nat) : State :=
  if !s.excited n then s else (if s.role = 2 then s else s.startHold n mode).settleExc n

/-- Excitation, loop power and burn-out tests are switched on at a takeover (R192). -/
def State.exciteAll (s : State) : State := (iter 64 (fun n (a : State) => a.exciteChannel n 2) s).tswUpdate

/-- Lanes at a takeover (R285, R393): RD_NO and MARK_NO go to REL_NO. -/
def State.resumeLanes (s : State) : State :=
  iter 256 (fun k (a : State) =>
    let l := a.lane k
    if l.items = [] ∧ l.rd = l.rel ∧ l.mark = l.rel then a
    else (a.gapPlaceholders k).setLane k { (a.gapPlaceholders k).lane k with rd := l.rel, mark := l.rel, staleFrom := s.ltc }) s

/-- The ports of the new active hub master the chains (R239, R242). DESIGN CHOICE (log 147): the bridle table is the one the
partner has told, and the nodes stay home on its side. -/
def State.masterChains (s : State) : State :=
  let s0 := { s with pai := { s.pai with far := true } }.swapEnds
  iter 16 (fun P (a : State) =>
    if a.drpN P = 0 then a
    else
      let x := a.port P
      let nodes := (List.range (a.drpN P)).foldl (fun (y : DrpPort) i =>
        let n := y.node (i + 1)
        y.setNode (i + 1) { n with assigned := true, far := n.far || !n.assigned }) x
      (a.setPort P { nodes with
        step := 0, queue := [], outs := [], sent := none, lastUp := none, startSf := some 0, good := 0, lastRt := none,
        busy := false }).setDrp P 2) s0

/-- Own triggers whose instants lie after the last forwarded one pass (R265). -/
def State.ownTriggers (s : State) : State :=
  let ts := s.shb.recent.filter (fun t => decide (s.shb.lastFwd.toNat < t.inst.toNat))
  ts.reverse.foldl (fun (a : State) t => a.passTrigger t) s

/-- The active role begins at instant `t`, by takeover or handover (R393, R397). -/
def State.takeRole (s : State) (t : Time) : State :=
  let s1 := (s.becomeActive.exciteAll.masterChains).count Reg.PAI_TAKEOVERS
  let s2 := s1.wr64 Reg.PAI_LAST_TO_LO Reg.PAI_LAST_TO_HI t.toNat
  { s2 with pai := { s2.pai with since := t, fwdOpen := [], ownOpen := [] } }.sysMark 6 t t.toNat 0

/-! ### Handover -/

/-- The period of the boundaries that R54 uses. -/
def State.mainPeriod (s : State) : Nat :=
  if s.shotPeriod ≠ 0 then s.shotPeriod else if s.superframe ≠ 0 then s.superframe else s.fieldTick

/-- A handover is decided: B is the second boundary from now (R397). -/
def State.startHandover (s : State) : State :=
  if s.role ≠ 1 ∨ s.syncState ≠ 3 ∨ s.pai.handover.isSome ∨ s.mainPeriod = 0 then s
  else
    let b := s.nextBoundary + BitVec.ofNat 64 s.mainPeriod
    { s with pai := { s.pai with handover := some b } }.wf Reg.PAI_STAT Fd.PAI_STAT_HANDOVER_PEND 1

/-- At B the roles change (R397): nothing is lost. -/
def State.handoverBoundary (s : State) : State :=
  match s.pai.handover with
  | none => s
  | some b =>
    if s.ltc.toNat < b.toNat then s
    else
      let s0 := { s with pai := { s.pai with handover := none, ask := false, pAsk := false } }.wf Reg.PAI_STAT
        Fd.PAI_STAT_HANDOVER_PEND 0
      if s.role = 2 then
        let s1 := s0.resumeLanes.takeRole b
        s1.wf Reg.PAI_STAT Fd.PAI_STAT_PARTNER_ROLE 2
      else if s.role = 1 then
        let s1 := (iter 64 (fun n (a : State) => a.exciteChannel n 2) ((s0.sysMark 6 b b.toNat 0).setRole 2)).swapEnds.secondEnds
        let s2 := { s1 with pai := { s1.pai with since := 0, ltcTaken := true, slip := 0, acked := 0, fedTick := none } }
        s2.wf Reg.PAI_STAT Fd.PAI_STAT_PARTNER_ROLE 1
      else s0

/-! ### Health -/

/-- ln n in units of 2^-96. -/
def lnFix (n : Nat) : Nat :=
  let k := Nat.log2 n
  let y := (n - 2 ^ k) * 2 ^ 96 / (n + 2 ^ k)
  2 * atanhSum (y * y / 2 ^ 96) 48 0 y + k * 54916777467707473351141471128

/-- RX_MATCH of a shot in 0.1 dB (R392): −10·log10(D / F). With D or F 0 the spec gives no value: a free one. -/
def rxMatchOf (d f free : Nat) : Int :=
  if d = 0 ∨ f = 0 then ((Config.openWord free).toNat % 65536 : Nat)
  else roundDiv (100 * ((lnFix f : Int) - lnFix d)) (lnFix 10)

/-- A forwarded shot has been compared (R392). -/
def State.matchShot (s : State) : State :=
  if s.role ≠ 2 ∨ (s.fib.matchD = 0 ∧ s.fib.matchF = 0) then s
  else
    { s with
      fib := { s.fib with matchD := 0, matchF := 0 }
      pai := { s.pai with rxSum := s.pai.rxSum + rxMatchOf s.fib.matchD s.fib.matchF s.free, rxN := s.pai.rxN + 1 } }.fresh

/-- A receiver ADC without a healthy spare, or a field converter out of service (R392). -/
def State.convFail (s : State) : Bool :=
  (List.range 4).any (fun c =>
    let e := (s.ofe.elems[c]?).getD ⟨[], [], none, none, [], false⟩
    e.spares == [] && e.cal.isNone && e.ready.isNone) ||
  (List.range 8).any (fun c => s.convMode c == 3)

/-- Set or clear a health bit; a bit that sets is reported (R392, R404). -/
def State.healthBit (s : State) (b : Nat) (v : Bool) : State :=
  let h := s.rd Reg.PAI_HEALTH
  if Word.bit h b = v then s
  else
    let s1 := s.wr Reg.PAI_HEALTH (Word.putBit h b v)
    if v then (s1.err 0x4d Err.PAI_HEALTH).raise 0x4d 2 else s1

/-- The standby's report of one second (R392). -/
def State.healthReport (s : State) : State :=
  let n := s.pai.rxN
  let m : Nat := if n = 0 then (s.rd Reg.PAI_RX_MATCH).toNat % 65536 else satU 16 (roundDiv s.pai.rxSum n).toNat
  let min_ := s.rf Reg.PAI_CFG Fd.PAI_CFG_RX_MIN
  let bad := if n ≠ 0 ∧ min_ ≠ 0 ∧ m < 10 * min_ then s.pai.rxBad + 1 else 0
  let s1 := { s.wr Reg.PAI_RX_MATCH (w32 m) with pai := { s.pai with rxSum := 0, rxN := 0, rxBad := bad, diverged := false } }
  let src := (List.range 3).any (fun q => q != 2 && s.srcReady q)
  (((s1.healthBit 0 (decide (10 ≤ bad))).healthBit 2 s.pai.diverged).healthBit 3 s.convFail).healthBit 4 (!src)

/-! ### In sync -/

/-- Used capture units have taken C items since the join (R398). -/
def State.captureSynced (s : State) : Bool :=
  (List.range 32).all (fun u => s.capTap u == 0 || decide (s.capC u ≤ NMap.get (fun _ => 0) s.pai.prog.seen u))

/-- Loaded cores are in sync. -/
def State.coresSynced (s : State) : Bool :=
  (List.range 16).all (fun c => !s.coreLoaded c || s.pai.prog.cores.contains c)

/-- Every producer that the plan uses is in sync (R399). -/
def State.allSynced (s : State) : Bool :=
  let g := s.pai.prog
  s.syncState == 2 && (s.shotPeriod == 0 || (decide (s.fenN ≤ g.points) && g.zones)) && (!s.rmnActive || g.raman) &&
    (s.fieldTick == 0 || g.field) && (s.superframe == 0 || g.node) && s.captureSynced && s.coresSynced

/-- RESYNC_PROG as read (R403). -/
def State.resyncProg (s : State) : Word :=
  let g := s.pai.prog
  if s.syncState = 3 then w32 (1000 + 0x3C00)
  else if s.syncState ≠ 2 then 0
  else
    w32 ((if s.fenN = 0 then 1000 else min 1000 (1000 * g.points / s.fenN)) + 1024 * b2n g.zones + 2048 * b2n g.raman +
      4096 * b2n s.captureSynced + 8192 * b2n s.coresSynced)

/-- PLACEHOLDERS as read (R403). -/
def State.placeholders (s : State) : Nat := (s.lanes.map (fun e => (e.2.items.filter (·.ph)).length)).sum

end Sys2Proof.Machine
end

