-- ==== Sys2Proof/Machine/Lanes.lean ====
section
/-!
DEFINITION. The meanings of the commands that tell of a lane's receiver: lock, loss and block lock (R328, R344, R384).
-/

namespace Sys2Proof.Machine

/-- The receiver of a lane runs: RX_EN is set and its page is not gated (R339, R341). -/
def State.laneRuns (s : State) (n : Nat) : Bool :=
  s.flag (Reg.LN_CFG n) Fd.LN_CFG_RX_EN && !s.pageGated (0x50 + n)

/-- LANE_LOCKED (R326, R328): the lane's CDR locks; the first lock of a start is remembered. -/
def opLaneLocked (n : Nat) (s : State) : State :=
  if !s.laneRuns n ∨ s.flag (Reg.LN_STAT n) Fd.LN_STAT_CDR_LOCK then s
  else
    let s1 := ((s.wf (Reg.LN_STAT n) Fd.LN_STAT_STATE 3).wf (Reg.LN_STAT n) Fd.LN_STAT_LOS 0).wf (Reg.LN_STAT n)
      Fd.LN_STAT_CDR_LOCK 1
    let s2 := { s1 with
      sys := { s1.sys with laneSeen := true }, clk := { s1.clk with passed := setAt s1.clk.passed n false } }
    if n < 2 then s2.portCheck n else s2

def execLaneLocked (lane : Fin 4) (s : State) : Host.Outcome State Fault Refusal := ok (opLaneLocked lane.val s)

/-- The functions of a lane that has lost lock: the clock source, the uplink port or the tether lane (R13, R34, R333,
R344, R384). -/
def State.laneFails (s : State) (n : Nat) : State :=
  let s1 := s.wf (Reg.LN_STAT n) Fd.LN_STAT_CDR_LOCK 0
  let s2 := if n < 3 then s1.sourceLost n else s1
  if n < 2 then
    ((s2.wf (Reg.UL_STAT n) Fd.UL_STAT_BLOCK_LOCK 0).wf (Reg.UL_STAT n) Fd.UL_STAT_FEC_ALIGN 0).portCheck n
  else s2.laneLost (n - 2) false

/-- FREQ_COMPARE_DONE: a comparison of a candidate, in 0.1 ppm (R332). While the hub is parked or starting the window
test is suspended and 65,536 locked cycles make the source ready. A lane that leaves the window is treated as having lost
lock in all its functions (R13, R34, R328). -/
def opFreqCompare (n : Nat) (offset : Int) (s : State) : State :=
  let sel := s.flag Reg.CLK_STAT Fd.CLK_STAT_VALID && decide (s.selected = n) &&
    decide (s.clkState = clkLocked ∨ s.clkState = clkRamp)
  if sel ∨ s.rf (Reg.LN_STAT n) Fd.LN_STAT_CDR_LOCK = 0 then s
  else
    let free := s.clkState == clkStart || s.parked
    let inWin := decide (offset.natAbs ≤ 10 * s.rf Reg.CLK_CFG Fd.CLK_CFG_TOL)
    let s0 := (s.wr (Reg.CLK_FREQ n) (w32 (unsigned 16 (satS 16 offset)))).wf (Reg.LN_STAT n) Fd.LN_STAT_IN_WINDOW (b2n inWin)
    let s1 := { s0 with clk := { s0.clk with passed := setAt s0.clk.passed n (free || inWin) } }
    if !free && !inWin then
      let s2 := s1.wf (Reg.LN_STAT n) Fd.LN_STAT_STATE 2
      (((s2.count (Reg.LN_WIN_EVT n)).err (0x50 + n) Err.LN_WINDOW).raise (0x50 + n) 2).laneFails n
    else if n = 2 ∧ s1.clk.held then
      if s1.flag Reg.CLK_STAT Fd.CLK_STAT_TETHER_LOOP then s1
      else (s1.wf Reg.CLK_STAT Fd.CLK_STAT_TETHER_LOOP 1).err 0x1 Err.CLK_TETHER_LOOP
    else (s1.setReady n true).takeSource

def execFreqCompareDone (src : Fin 3) (offset : Int) (s : State) : Host.Outcome State Fault Refusal :=
  ok (opFreqCompare src.val offset s)

/-- LOS_DETECT (R328). -/
def opLosDetect (n : Nat) (s : State) : State :=
  if !s.laneRuns n ∨ s.flag (Reg.LN_STAT n) Fd.LN_STAT_LOS then s
  else
    let s1 := (s.wf (Reg.LN_STAT n) Fd.LN_STAT_STATE 1).wf (Reg.LN_STAT n) Fd.LN_STAT_LOS 1
    (((s1.count (Reg.LN_LOS_EVT n)).err (0x50 + n) Err.LN_LOS).raise (0x50 + n) 0).laneFails n

def execLosDetect (lane : Fin 4) (s : State) : Host.Outcome State Fault Refusal := ok (opLosDetect lane.val s)

/-- CDR_UNLOCK_TIMEOUT (R328). -/
def opCdrUnlock (n : Nat) (s : State) : State :=
  if !s.laneRuns n ∨ !s.flag (Reg.LN_STAT n) Fd.LN_STAT_CDR_LOCK then s
  else
    let s1 := s.wf (Reg.LN_STAT n) Fd.LN_STAT_STATE 2
    (((s1.count (Reg.LN_LOL_EVT n)).err (0x50 + n) Err.LN_LOL).raise (0x50 + n) 1).laneFails n

def execCdrUnlockTimeout (lane : Fin 4) (s : State) : Host.Outcome State Fault Refusal := ok (opCdrUnlock lane.val s)

/-- BLOCK_LOCK_LOSS (R344, R384): an uplink PCS loses block lock, or only FEC alignment; a tether lane loses block lock
and returns to step 2. -/
def opBlockLockLoss (n : Nat) (fec : Bool) (s : State) : State :=
  if n < 2 then
    let s1 := if fec then s else s.wf (Reg.UL_STAT n) Fd.UL_STAT_BLOCK_LOCK 0
    (s1.wf (Reg.UL_STAT n) Fd.UL_STAT_FEC_ALIGN 0).portCheck n
  else if fec then s
  else s.laneLost (n - 2) false

def execBlockLockLoss (lane : Fin 4) (fec : Bool) (s : State) : Host.Outcome State Fault Refusal :=
  ok (opBlockLockLoss lane.val fec s)

end Sys2Proof.Machine
end

