-- ==== Sys2Proof/Machine/Ranges.lean ====
section
/-!
DEFINITION. The ranges that the register tables give fields, and the errors of writes outside them.
-/

namespace Sys2Proof.Machine

/-- Points per slot at most, by fibre mode (R86). -/
def modePoints (mode : Nat) : Nat := nth [262144, 131072, 65536, 65536] mode 65536

/-- A block size: a multiple of 128 from 128 to `hi` (R111, R137, R154). -/
def blockOk (hi v : Nat) : Bool := v % 128 == 0 && decide (128 ≤ v) && decide (v ≤ hi)

/-- The limited fields of the register at an address, each with the values it takes. -/
def fieldRanges (a : Nat) : List (Fld × (Nat → Bool)) :=
  let page := a / 0x1000
  let o := a % 0x1000
  let upTo (f : Fld) (n : Nat) : Fld × (Nat → Bool) := (f, fun v => decide (v ≤ n))
  let between (f : Fld) (lo hi : Nat) : Fld × (Nat → Bool) := (f, fun v => decide (lo ≤ v) && decide (v ≤ hi))
  if page = 0x1 then (if a = Reg.CLK_CFG then [between Fd.CLK_CFG_TOL 1 200] else [])
  else if page = 0x7 then
    (if a = Reg.TIM_CFG then [upTo Fd.TIM_CFG_DOMAIN 127, upTo Fd.TIM_CFG_PTP_PORT 2, between Fd.TIM_CFG_ANN_TO 2 10,
        between Fd.TIM_CFG_SLEW_MAX 1 200]
     else if a = Reg.TIM_UPD then [between ⟨0, 16⟩ 125 60000] else [])
  else if page = 0x8 then (if a = Reg.CTX_MASK_SEL then [between ⟨5, 2⟩ 1 3] else [])
  else if page = 0x10 then
    (if a = Reg.OFE_HEAD_CFG then [between Fd.OFE_HEAD_CFG_HSPI_DIV 4 255]
     else if a = Reg.OFE_HSPI_LEN then [upTo Fd.OFE_HSPI_LEN_TX_LEN 32, upTo Fd.OFE_HSPI_LEN_RX_LEN 32]
     else if 0x60 ≤ o ∧ o < 0xA0 then [upTo Fd.OFE_WAVE_DIR_START 16383, upTo Fd.OFE_WAVE_DIR_LEN 16384] else [])
  else if page = 0x11 then
    (if a = Reg.FEN_CFG then [between Fd.FEN_CFG_GAUGE 1 64]
     else if a = Reg.FEN_MF_CFG then [upTo Fd.FEN_MF_CFG_TAPS 256]
     else if a = Reg.FEN_RVS_CFG then [between Fd.FEN_RVS_CFG_BETA 4 15]
     else if 0x80 ≤ o ∧ o < 0x140 ∧ (o - 0x80) % 12 = 8 then [(Fd.FEN_PB_CFG_BLOCK, blockOk 12288)] else [])
  else if page = 0x12 then
    (if a = Reg.PSS_CHAIN_CFG then [upTo Fd.PSS_CHAIN_CFG_STAGES 4, upTo Fd.PSS_CHAIN_CFG_INT_EXP 16]
     else if a = Reg.PSS_SCRUB_CFG then [(Fd.PSS_SCRUB_CFG_PERIOD, fun v => v == 0 || decide (9 ≤ v))]
     else if 0x80 ≤ o ∧ o < 0x140 ∧ (o - 0x80) % 12 = 8 then [(Fd.PSS_CS_CFG_BLOCK, blockOk 4096)] else [])
  else if page = 0x13 then (if a = Reg.ZON_ZCFG then [upTo Fd.ZON_ZCFG_ZONES 4096] else [])
  else if page = 0x14 then
    (if a = Reg.TMP_CFG then [(Fd.TMP_CFG_DEPTH_EXP, fun v => v == 0 || (decide (8 ≤ v) && decide (v ≤ 16))),
        upTo Fd.TMP_CFG_BIN_EXP 5]
     else if a = Reg.TMP_POSITIONS then [upTo Fd.TMP_POSITIONS_P 131072]
     else if a = Reg.TMP_BLOCK then [(⟨0, 15⟩, blockOk 16384)] else [])
  else if page = 0x19 then
    (if a = Reg.FLT_NOTCH_DEF then [upTo ⟨0, 9⟩ 300]
     else if a = Reg.FLT_BAND_CFG then [upTo Fd.FLT_BAND_CFG_SRC 2]
     else if a = Reg.FLT_THR_HYS then [(⟨0, 32⟩, fun v => !f32Lt (w32 v) 0)]
     else if a = Reg.FLT_CH_INDEX then [upTo ⟨0, 10⟩ 575]
     else if a = Reg.FLT_CH_CFG then [upTo Fd.FLT_CH_CFG_M 65536, upTo Fd.FLT_CH_CFG_H 6] else [])
  else if page = 0x1a then
    (if a = Reg.LIN_CH_INDEX then [upTo ⟨0, 10⟩ 575]
     else if a = Reg.LIN_LCFG then [upTo Fd.LIN_LCFG_DEG_X 5, upTo Fd.LIN_LCFG_DEG_T 2, upTo Fd.LIN_LCFG_TSRC 2] else [])
  else if page = 0x1b then
    (if a = Reg.THC_CFG then [upTo Fd.THC_CFG_BANDS 16]
     else if 0x80 ≤ o ∧ o < 0x480 ∧ o % 0x20 = 0 then [upTo Fd.THC_OUT_CFG_MODE 2] else [])
  else if 0x20 ≤ page ∧ page < 0x30 then
    (if o = 0x40 then [upTo Fd.DRP_CFG_MODE 2, upTo Fd.DRP_CFG_NODES 128]
     else if o = 0x64 then [between ⟨0, 8⟩ 1 128] else [])
  else if page = 0x30 then (if 0x40 ≤ o ∧ o < 0x50 then [upTo Fd.SHB_IN_CFG_FILT 8] else [])
  else if page = 0x32 then (if a = Reg.ENV_CH_INDEX then [upTo ⟨0, 10⟩ 575] else [])
  else if page = 0x48 ∨ page = 0x49 then (if o = 0x40 then [between Fd.UL_CFG_MTU 1500 9216] else [])
  else if page = 0x4a then (if a = Reg.SLZ_CFG then [between Fd.SLZ_CFG_SESS_TO 100 60000] else [])
  else if 0x50 ≤ page ∧ page < 0x54 then (if o = 0x40 then [upTo Fd.LN_CFG_LOOP 2]
     else if a = Reg.LN_PRBS_CFG (page - 0x50) then [(Fd.LN_PRBS_CFG_INJ_RATE, fun v => v == 0 || decide (10 ≤ v))] else [])
  else if page = 0x5a then (if a = Reg.TEL_RAIL_SEL then [upTo ⟨0, 4⟩ 8] else [])
  else if 0x100 ≤ page ∧ page < 0x140 then
    (if o = 0x40 then [upTo Fd.FCH_CFG_CONN 6, upTo Fd.FCH_CFG_RANGE 4]
     else if o = 0x44 then [(Fd.FCH_EXC_I_UA, fun v => v == 0 || (decide (10 ≤ v) && decide (v ≤ 4000)))]
     else if o = 0x50 then [upTo Fd.FCH_LIM_CFG_A_SAFE 2, upTo Fd.FCH_LIM_CFG_B_SAFE 2, upTo Fd.FCH_LIM_CFG_LIM_RANGE 4]
     else [])
  else if 0x140 ≤ page ∧ page < 0x160 then (if o = 0x44 then [upTo Fd.SCUN_SIZE_SEG_SIZE 1024] else [])
  else if 0x160 ≤ page ∧ page < 0x1a0 then (if o = 0x40 then [upTo Fd.SPLN_CFG_LEVEL 4] else [])
  else if 0x1a0 ≤ page ∧ page < 0x1b0 then (if o = 0x60 then [upTo ⟨0, 9⟩ 256] else [])
  else []

/-- A word of the register keeps every range; a field that keeps its present value is not looked at. -/
def rangeOk (a : Nat) (old new : Word) : Bool :=
  (fieldRanges a).all (fun e => new.get e.1 == old.get e.1 || e.2 (new.get e.1)) &&
  (if a = Reg.CLK_PRIO then
    let x := new.get Fd.CLK_PRIO_FIRST
    let y := new.get Fd.CLK_PRIO_SECOND
    let z := new.get Fd.CLK_PRIO_THIRD
    !(x == y && x != 3) && !(x == z && x != 3) && !(y == z && y != 3)
  else true)

/-- POINTS lies within the maximum of the mode (R86, R111). -/
def State.pointsOk (s : State) (a : Nat) (new : Word) : Bool :=
  if a = Reg.FEN_POINTS then decide (new.get Fd.FEN_POINTS_N ≤ modePoints (s.rf Reg.FEN_CFG Fd.FEN_CFG_MODE)) else true

/-- The range error of a page. -/
def rangeError (page : Nat) : Nat :=
  if page = 0x1 then Err.CLK_RANGE else if page = 0x4 then Err.MNT_RANGE else if page = 0x5 then Err.SEC_RANGE
  else if page = 0x6 then Err.UPD_RANGE else if page = 0x7 then Err.TIM_RANGE else if page = 0x8 then Err.CTX_RANGE
  else if page = 0x10 then Err.OFE_RANGE else if page = 0x11 then Err.FEN_RANGE else if page = 0x12 then Err.PSS_RANGE
  else if page = 0x13 then Err.ZON_RANGE else if page = 0x14 then Err.TMP_RANGE
  else if page = 0x18 ∨ page = 0x1b then Err.FLD_RANGE
  else if page = 0x19 then Err.FLT_RANGE else if page = 0x1a then Err.LIN_RANGE
  else if 0x20 ≤ page ∧ page < 0x30 then Err.DRP_RANGE else if page = 0x30 then Err.SHB_RANGE
  else if page = 0x32 then Err.ENV_RANGE else if page = 0x38 ∨ (0x160 ≤ page ∧ page < 0x1a0) then Err.SPL_RANGE
  else if page = 0x48 ∨ page = 0x49 then Err.UL_RANGE else if page = 0x4a then Err.SLZ_RANGE
  else if page = 0x4c ∨ page = 0x4d then Err.PAI_RANGE else if 0x50 ≤ page ∧ page < 0x54 then Err.LN_RANGE
  else if page = 0x58 then Err.MEM_RANGE else if page = 0x59 then Err.DKR_RANGE else if page = 0x5a then Err.TEL_RANGE
  else if page = 0x5b then Err.SDC_RANGE else if page = 0x5c then Err.NVS_RANGE
  else if 0x100 ≤ page ∧ page < 0x140 then Err.FCH_RANGE else if 0x140 ≤ page ∧ page < 0x160 then Err.SCU_RANGE
  else if 0x1a0 ≤ page ∧ page < 0x1b0 then Err.LPE_RANGE else Err.SYS_RANGE

end Sys2Proof.Machine
end

