-- ==== Sys2Proof/Machine/PlanLoad.lean ====
section
/-!
DEFINITION. Tables of a plan in the blocks: registers a plan loads, live values, figures derived at load, the start of a
plan (R37 to R41, R48, R53, R338, R339).
-/

namespace Sys2Proof.Machine

/-! ### Registers that a plan loads -/

/-- Registers of which a plan loads a copy per channel or zone (R489). -/
def copyBases : List Nat :=
  [Reg.FLT_CH_CFG, Reg.FLT_CH_OUT, Reg.FLT_THR_CFG, Reg.FLT_THR_A, Reg.FLT_THR_B, Reg.FLT_THR_HYS, Reg.LIN_LCFG,
    Reg.LIN_XSCALE, Reg.LIN_OUT_SCALE, Reg.ENV_CH_CFG, Reg.ZON_ZT_FIRST, Reg.ZON_ZT_COUNT, Reg.ZON_ZT_CTRL,
    Reg.ZON_ZT_LOUPE] ++ (List.range 18).map Reg.LIN_COEF

/-- A register word that a plan loads (R37, R274, R489): while a plan runs it is changed by live writes alone (R41). -/
def planKey (k : Nat) : Bool :=
  if 0x1000000 ≤ k then copyBases.contains (k % 0x1000000)
  else
    let page := k / 0x1000
    let o := k % 0x1000
    if 0x160 ≤ page ∧ page < 0x1A0 then o == 0x40 || (decide (0x80 ≤ o) && decide (o < 0x180) && decide ((o - 0x80) % 64 < 16))
    else if 0x58040 ≤ k ∧ k < 0x58060 then true
    else
      (match rowAt k with | some r => r.acc == Acc.rw | none => false) &&
        [2, 3, 4, 5, 6, 7, 8, 10].any (fun sec => copyAllowed sec page o)

/-- Put a plan's register words into the blocks and let it be the running plan. A gated block holds none (R339). -/
def State.install (s : State) (p : Plan) : State :=
  { s with
    regs := p.regs.foldl (fun m e =>
        if decide (e.1 < 0x1000000) && s.pageGated (e.1 / 0x1000) then m else NMap.set resetWord m e.1 e.2)
      (s.regs.filter (fun e => !planKey e.1)),
    pln := { s.pln with run := some p } }

/-! ### Live values -/

/-- Live fields whose values are binary32 numbers: digital thresholds (R215). -/
def LiveEnt.isF32 (e : LiveEnt) : Bool :=
  [Reg.FLT_THR_A, Reg.FLT_THR_B, Reg.FLT_THR_HYS].contains (0x1000 * e.page + e.off)

/-- Live fields that are short time-stamps. -/
def LiveEnt.isTime (e : LiveEnt) : Bool := e.page == 0x30 && (List.range 8).any (fun k => Reg.SHB_SCHED_AT k == 0x1000 * e.page + e.off)

/-- A value lies from MIN to MAX of its entry (R52). -/
def LiveEnt.takes (e : LiveEnt) (v : Nat) : Bool :=
  if e.isF32 then f32Le e.min (w32 v) && f32Le (w32 v) e.max
  else e.isTime || (decide (e.min.toNat ≤ v) && decide (v ≤ e.max.toNat))

/-- The same field in another plan's list. -/
def LiveEnt.sameField (e f : LiveEnt) : Bool :=
  e.page == f.page && e.off == f.off && e.lsb == f.lsb && e.width == f.width

/-- With KEEP_LIVE, a field that both plans list keeps its value where the new plan's range takes it (R53). -/
def State.keepLive (s : State) (old new : Plan) : Plan :=
  if !s.flag Reg.PLN_CFG Fd.PLN_CFG_KEEP_LIVE then new
  else
    new.live.foldl (fun (q : Plan) e =>
      match old.live.find? (fun f => f.sameField e) with
      | none => q
      | some f =>
        let had := old.liveKeys f
        (new.liveKeys e).foldl (fun (q : Plan) k =>
          let v := (s.rd k).get ⟨e.lsb, e.width⟩
          if had.contains k && e.takes v then q.setReg k ((q.reg k).put ⟨e.lsb, e.width⟩ v) else q) q) new

/-- A live value takes effect (R41, R50, R51), with what its register does at a new value (R128, R169, R235, R251, R258). -/
def State.setLive (s : State) (addr : Nat) (v : Word) : State :=
  let old := s.rd addr
  let s1 := s.wr addr v
  let page := addr / 0x1000
  let o := addr % 0x1000
  if 0x1000000 ≤ addr then s1
  else if page = 0x30 ∧ (List.range 8).any (fun k => Reg.SHB_SCHED_CFG k == addr) then
    s1.schedCfgSet (((List.range 8).find? (fun k => Reg.SHB_SCHED_CFG k == addr)).getD 0) old
  else if page = 0x30 ∧ (List.range 8).any (fun k => Reg.SHB_SCHED_AT k == addr) then
    s1.schedAtSet (((List.range 8).find? (fun k => Reg.SHB_SCHED_AT k == addr)).getD 0)
  else if 0x20 ≤ page ∧ page < 0x30 ∧ 0x100 ≤ o ∧ o < 0x180 then
    let c := (o - 0x100) / 4
    if old.get Fd.DRP_CH_CFG_EN = v.get Fd.DRP_CH_CFG_EN then s1
    else
      s1.onPort (page - 0x20) (fun (x : DrpPort) => { x with
        enOld := x.enOld.filter (fun e => decide (nth x.nextIn e.1 0 < e.2.1)) ++
          [(c, s.sched.sfNo, old.get Fd.DRP_CH_CFG_EN == 1)] })
  else if 0x140 ≤ page ∧ page < 0x160 ∧ o = 0x40 then
    if old.get Fd.SCUN_CFG_ARM = 0 ∧ v.get Fd.SCUN_CFG_ARM = 1 then
      let u := page - 0x140
      let c := s1.unit u
      if c.acc.isSome then s1.setUnit u { c with rearm := some s.ltc }
      else (s1.setUnit u { c with armAt := some s.ltc }).wr (Reg.SCUN_ARM_AT u) s.now
    else s1
  else if 0x100 ≤ page ∧ page < 0x140 ∧ o = 0x40 then
    if old.get Fd.FCH_CFG_RANGE ≠ v.get Fd.FCH_CFG_RANGE then s1.liveRange (page - 0x100) s.sched.tickNo else s1
  else s1

/-! ### Figures derived at load -/

/-- CONV_STAT under a plan (R164, R167): every converter runs its slots while the plan has a FIELD section and ticks; one
that calibrates or is out of service keeps its mode. -/
def State.showConv (s : State) : State :=
  iter 8 (fun c (a : State) => if a.convMode c = 3 ∨ a.convBusy c then a else a.setConv c a.convRest false) s

/-- Launches per shot (R61). -/
def State.launchesPerShot (s : State) : Nat := if s.fenMode = 3 then 4 else 1

/-- Δz in µm (R87, R112): half the distance light travels in a group index in S line ticks. DESIGN CHOICE (log 144): rounded to
nearest, ties away from zero; the 24 bits of SPACING hold it modulo 2^24. -/
def State.fenSpacing (s : State) : Nat :=
  let n := (s.rd Reg.FEN_GROUP_INDEX).toNat
  if n = 0 then 0 else (roundDiv (s.fenS * 299792458 * 1000000 * 2 ^ 28 : Nat) (2 * n * 1031250000)).toNat

/-- Sum of the sizes of a plan's MEMORY entries of a resource. -/
def Plan.memSum (p : Plan) (res : Nat) : Nat := ((p.mem.filter (fun e => e.res == res)).map MemEnt.size).sum

/-- What the hub shows of a plan it has loaded: capacities of capture units, latency and spacing of the engine, use of
engine slots, memories and uplink in 0.1 % (R37, R112, R253, R269). -/
def State.showFigures (s : State) (p : Plan) : State :=
  let s1 := iter 32 (fun u (a : State) => a.showCap u) s
  let s2 := ((s1.wf Reg.FEN_LATENCY Fd.FEN_LATENCY_A (s1.fenA % 65536)).wr Reg.FEN_SPACING (w32 (s1.fenSpacing % 2 ^ 24))).showConv
  let sp := p.shotPeriod
  let pss := if sp = 0 then 0 else 2000 * s.fenN * s.launchesPerShot / sp
  ((((s2.wr Reg.PLN_USE_PSS (w32 pss)).wr Reg.PLN_USE_SPM (w32 (1000 * p.memSum 2 / 2 ^ 24))).wr Reg.PLN_USE_SGM
    (w32 (1000 * p.memSum 1 / (12 * 2 ^ 20)))).wr Reg.PLN_USE_UP1 (w32 (1000 * p.memSum 6 / 22000000)))

/-- FLT.NOTCH starts at NOTCH_DEF until the line frequency has been measured (R204). -/
def State.startNotch (s : State) : State :=
  let s1 := { s with flt := { s.flt with setNext := none, setNextN := none } }
  if s.flt.measured then
    -- a decision that waits takes effect with the new plan
    { s1.wf Reg.FLT_NOTCH Fd.FLT_NOTCH_SET s.lastNotch with flt := { s1.flt with setNode := s.lastNotch } }
  else
    let d := (s.rd Reg.FLT_NOTCH_DEF).toNat % 512
    { s1.wf Reg.FLT_NOTCH Fd.FLT_NOTCH_SET d with flt := { s1.flt with setNode := d } }

/-! ### Gates -/

/-- LOADED as a plan gives it (R323). -/
def Plan.loadedCores (p : Plan) : Word :=
  w32 ((List.range 16).foldl (fun a c => a + b2n (p.progLen c != 0) * 2 ^ c) 0)

/-- With AUTO_GATE, the blocks a plan uses are ungated before its tables load (R338). -/
def State.autoUngate (s : State) (p : Plan) : State :=
  if !s.flag Reg.CLK_CFG Fd.CLK_CFG_AUTO_GATE then s
  else
    let free := iter 3 (fun g (a : State) => { a.wr (gateReg g) 0 with clk := { a.clk with gates := setAt a.clk.gates g 0 } }) s
    let t := (free.install p).wr Reg.LPC_LOADED p.loadedCores
    iter 3 (fun g (a : State) =>
      let keep (w : Word) : Word := (List.range (gateBits g)).foldl (fun w b => if t.blockUsed g b then Word.clrBit w b else w) w
      let v := keep (a.rd (gateReg g))
      let e := keep (nth a.clk.gates g 0)
      { (a.wr (gateReg g) v).wr Reg.CLK_GATE_PEND (Word.putBit (a.rd Reg.CLK_GATE_PEND) g (decide (v ≠ e))) with
        clk := { a.clk with gates := setAt a.clk.gates g e } }) s

/-- With AUTO_GATE, the blocks a plan does not use are gated (R338). -/
def State.autoGate (s : State) : State :=
  if !s.flag Reg.CLK_CFG Fd.CLK_CFG_AUTO_GATE then s
  else
    iter 3 (fun g (a : State) =>
      opGateWrite g (w32 ((List.range (gateBits g)).foldl (fun v b => v + b2n (!a.gateHeld g b) * 2 ^ b) 0)) a) s

/-! ### The start of a plan -/

/-- E from now: the first multiple of 40 line ticks at or after an LTC (R39). -/
def epochFrom (t : Nat) : Time := BitVec.ofNat 64 (40 * ceilDiv t 40)

/-- Outputs that carry SETTLE after a chain starts (R210). -/
def State.chainSettle (s : State) (c : Nat) : Nat := halfBandSettle (s.chH c) + s.chNS c

/-- A capture unit's arm instant at an epoch (R254): none for TAP 2, whose first output gives it. -/
def State.armFrom (s : State) (u : Nat) (E : Time) : Option Time :=
  let tap := s.capTap u
  if tap = 1 then some E
  else if tap = 3 then some (E + BitVec.ofNat 64 (s.rf (Reg.SCUN_REF u) Fd.SCUN_REF_P_REF * s.fenS))
  else none

/-- A unit's ring and arm instant start (R254, R259). -/
def State.startUnit (s : State) (u : Nat) (a : Option Time) (c : CapUnit) : State :=
  let s1 := s.setUnit u { c with
    ring := [], gone := none, armAt := a, acc := none, parked := false,
    gap := false, written := 0, part := [], rearm := none, held := [] }
  match a with
  | some t => s1.wr (Reg.SCUN_ARM_AT u) (loW t)
  | none => s1

/-- A field channel starts: its range, its excitation and its comparators (R168, R185, R190); its input stays as it is.
The outputs are still to be formed. -/
def State.startField (s : State) (n : Nat) (lim : Int) : State :=
  if s.conn n = 0 then s.setFch n { FldCh.init with lim := lim }
  else
    let r := s.rf (Reg.FCH_CFG n) Fd.FCH_CFG_RANGE
    let s1 := (s.setFch n { FldCh.init with range := r, lim := lim }).wf (Reg.FCH_STAT n) Fd.FCH_STAT_RANGE_NOW r
    (s1.exciteChannel n 1).cmpStep n s.ltc

/-- Schedulers start with the plan (R251). -/
def State.startScheds (s : State) : State :=
  iter 8 (fun k (a : State) => a.schedCfgSet k 0) { s with shb := { s.shb with armed := List.replicate 8 false } }

/-- The running plan starts a plan from a start (R39, R48, R53, R427): E, every block's initial state, TIME_MAP. -/
def State.startPlan (s : State) (p0 : Plan) (slot : Nat) (E : Time) : State :=
  let p := p0.liveInit
  let s1 := ((s.autoUngate p).install p).ballastNow
  let s2 := { s1 with
    sched := ⟨E, 0, 0, 0⟩,
    pln := { s1.pln with slot := slot, loading := none, live := [] },
    units := [], fib := { FibState.init with scrub := s.fib.scrub, snap := s.fib.snap }, tmp := TmpState.init,
    flt := { s1.flt with chans := [], k0 := 0, bandAt := s1.ltc, bandLost := false },
    fld := { s1.fld with chans := [], lastHold := none },
    resync := ⟨none, none⟩ }
  let s3 := iter 16 (fun c (a : State) => a.loadCore c) s2
  let s4 := (s3.showFigures p).startNotch
  let s5 := (chainNumbers s4).foldl (fun (a : State) c => a.setChain c { ChainCh.init with settleTo := a.chainSettle c }) s4
  let s6 := (iter 64 (fun n (a : State) => a.startField n (s.fch n).lim) s5).tswUpdate
  let s7 := iter 32 (fun u (a : State) => if a.capTap u = 0 then a else a.startUnit u (a.armFrom u E) CapUnit.init) s6
  let s8 := s7.startChains.autoGate
  let s9 := if s.pln.loading.any (fun e => e.1 == slot) then s8.lasUpdate
    else (s8.wf Reg.OFE_STAT Fd.OFE_STAT_SCRIPT_OK 0).startScript.lasUpdate
  let s10 := (s9.setSlot slot { s9.slot slot with state := 5 }).emitTimeMap false
  let s11 : State := match s10.sys.setMark with
    | some (o, n) => { s10 with sys := { s10.sys with setMark := none } }.sysMark 9 s10.ltc o n
    | none => s10
  ({ s11 with sys := { s11.sys with planDone := true, planAt := some s11.ltc } }.startScheds).checkReady

end Sys2Proof.Machine
end

