-- ==== Sys2Proof/Machine/PlanSwitch.lean ====
section
/-!
DEFINITION. The switch to another plan: what keeps its state, what starts afresh, and the mark (R45, R49, R53, R136, R151,
R206, R243, R259, R286, R321, R491).
-/

namespace Sys2Proof.Machine

/-- A field of a register is the same in two states. -/
def sameField (s t : State) (a : Nat) (f : Fld) : Bool := s.rf a f == t.rf a f
def sameReg (s t : State) (a : Nat) : Bool := s.rd a == t.rd a

/-! ### What is unchanged: `s` is the state under the old plan, `t` with the new plan's tables -/

/-- Taps of a slot's matched filter. -/
def State.tapData (s : State) (j : Nat) : List Word :=
  match s.pln.run with
  | none => []
  | some p => (List.range (s.rf Reg.FEN_MF_CFG Fd.FEN_MF_CFG_TAPS)).map (fun i => p.tabAt (tabTap j i))

/-- Point records are kept: mode, gauge, K, taps and waveforms are unchanged (R49). -/
def keepPoints (s t : State) : Bool :=
  s.fenMode == t.fenMode && s.fenG == t.fenG && s.fenK == t.fenK &&
    (List.range 4).all (fun j => !(t.fenMode == 3 || t.fenMode == 2 || decide (j ≤ t.fenMode)) ||
      (s.tapData j == t.tapData j && s.waveData j == t.waveData j))

/-- The chain part of the point records restarts: some CHAIN_CFG field other than FREEZE is changed (R136). -/
def chainChanged (s t : State) : Bool :=
  ((s.rd Reg.PSS_CHAIN_CFG).put Fd.PSS_CHAIN_CFG_FREEZE 0) != ((t.rd Reg.PSS_CHAIN_CFG).put Fd.PSS_CHAIN_CFG_FREEZE 0)

/-- A zone is kept: its range and feature set (R49). -/
def keepZone (s t : State) (z : Nat) : Bool :=
  (s.zone z).first == (t.zone z).first && (s.zone z).count == (t.zone z).count &&
    (s.rd (copyKey Reg.ZON_ZT_CTRL z)).get zFEAT == (t.rd (copyKey Reg.ZON_ZT_CTRL z)).get zFEAT

/-- The Raman accumulators are kept (R49, R151). -/
def keepRaman (s t : State) : Bool :=
  sameField s t Reg.TMP_CFG Fd.TMP_CFG_STRIDE_EXP && sameField s t Reg.TMP_CFG Fd.TMP_CFG_DEPTH_EXP &&
    sameReg s t Reg.TMP_POSITIONS

/-- A chain channel keeps its filter state (R49). -/
def keepChain (s t : State) (c : Nat) : Bool :=
  let same (f : Fld) : Bool := (s.chCfg c).get f == (t.chCfg c).get f
  s.hasChain c && t.hasChain c && same Fd.FLT_CH_CFG_M && same Fd.FLT_CH_CFG_H && same Fd.FLT_CH_CFG_DCB_SHIFT &&
    same Fd.FLT_CH_CFG_NOTCH_EN && same Fd.FLT_CH_CFG_NOTCH_CLASS

/-- The stream of a unit's tap goes on with the same period (R259). -/
def keepStream (s t : State) (u : Nat) : Bool :=
  let first := s.rf (Reg.SCUN_SEL u) Fd.SCUN_SEL_FIRST
  let all (f : Nat → Bool) : Bool := (List.range (s.capNum u)).all (fun i => f (first + i))
  match s.capTap u with
  | 1 => s.fieldTick == t.fieldTick && t.hasSection 5 && all (fun c => t.conn c != 0)
  | 2 => all (fun c => t.hasChain c && s.chanPeriod c == t.chanPeriod c)
  | 3 => s.shotPeriod == t.shotPeriod && s.fenMode == t.fenMode && t.fenActive && decide (first + s.capNum u ≤ t.fenN)
  | _ => false

/-- A port's chain map (R49): mode, node count, node types and slots. -/
def keepPort (s t : State) (P : Nat) : Bool :=
  let types (a : State) : List Word := match a.pln.run with
    | some p => (List.range (a.drpN P)).map (fun i => p.tabAt (tabNode P (i + 1)))
    | none => []
  s.superframe == t.superframe && (s.rd (Reg.DRP_CFG P)).put Fd.DRP_CFG_AUTO_REJOIN 0 == (t.rd (Reg.DRP_CFG P)).put Fd.DRP_CFG_AUTO_REJOIN 0 && types s == types t &&
    (List.range 32).all (fun c =>
      (s.rd (Reg.DRP_CH_CFG P c)).put Fd.DRP_CH_CFG_EN 0 == (t.rd (Reg.DRP_CH_CFG P c)).put Fd.DRP_CH_CFG_EN 0)

/-- A source and kind of a SEQ counter that the plan has: the system's, or one that a route takes (R49). -/
def Plan.hasSource (p : Plan) (cls idx kind : Nat) : Bool :=
  cls == 8 || (findRoute p cls idx (if cls = 6 then 5 else kind)).isSome

/-! ### Blocks at the switch instant -/

/-- Fibre engine and zones (R49, R125, R136). `s` is the state under the old plan. -/
def State.switchFibre (t s : State) : State :=
  let n := min s.fenN t.fenN
  let pts := keepPoints s t
  let again := chainChanged s t
  let f := s.fib
  { t with fib := { FibState.init with
    scrub := f.scrub, snap := f.snap, digests := f.digests, afterSwitch := true, intAfterSwitch := true,
    restart := again, pss := if pts then f.pss.filter (fun e => decide (e.1 < n)) else [],
    zones := (f.zones.filter (fun e => keepZone s t e.1)).map (fun e => (e.1, { e.2 with count := 0, ivl := 0 })) } }

/-- The Raman path (R49, R151). -/
def State.switchRaman (t s : State) : State :=
  if keepRaman s t then
    let i := t.tmp.cur
    { t with tmp := { t.tmp with cur := if i.started then i.flag 6 else i, shot := none, pos := 0, buf := [], clip := false, lastNo := none } }
  else
    { t with tmp := { t.tmp with cur := RmnInt.init, shot := none, pos := 0, buf := [], clip := false, lastNo := none } }.wr
      Reg.TMP_ACC_SHOTS 0

/-- Filter chains (R49, R206, R210, R491). -/
def State.switchChains (t s : State) : State :=
  let t1 := { t with
    flt := { t.flt with chans := [], k0 := 0, bandAt := t.ltc, bandLost := false }, resync := ⟨none, none⟩ }
  (chainNumbers t1).foldl (fun (a : State) c =>
    let x := t.chain c
    let had := s.hasChain c
    if keepChain s t1 c then
      (a.setChain c { x with k0 := 0, resyncAt := none }).resyncChain 6 4 c
    else
      a.setChain c { ChainCh.init with
        prev := x.prev, validAt := x.validAt,
        out := if had then x.out else 0, envDone := if had then x.envDone else 0,
        settleTo := (if had then x.out else 0) + a.chainSettle c, nextFlags := 4, envNext := 4 }) t1

/-- Field channels (R49, R168, R190, R194, R195, R210): a channel whose connection changes starts afresh with its
comparators' states; a changed excitation is switched on; a change of either brings SETTLE; the PGA takes the range that
CFG holds. The outputs are still to be formed, once, under the new matrix. -/
def State.switchField (t s : State) : State :=
  let t0 := { t with fld := { t.fld with lastHold := none } }.wf Reg.FLD_STAT Fd.FLD_STAT_TICKING
    (t.rf Reg.FLD_STAT Fd.FLD_STAT_TICKING * t.convRest)
  iter 64 (fun n (a : State) =>
    let old := s.rd (Reg.FCH_CFG n)
    let new_ := a.rd (Reg.FCH_CFG n)
    let off := { a.wr (Reg.FCH_STAT n) (a.rd (Reg.FCH_STAT n) &&& 0xC00) with
      fld := { a.fld with chans := NMap.erase n a.fld.chans } }
    let clear := (((off.mapBit Reg.FLD_OPEN_LO n false).mapBit Reg.FLD_SHORT_LO n false).mapBit Reg.FLD_OVR_LO n false)
    let moved := old.get Fd.FCH_CFG_RANGE ≠ new_.get Fd.FCH_CFG_RANGE
    if old.get Fd.FCH_CFG_CONN ≠ new_.get Fd.FCH_CFG_CONN then
      let b := clear.startField n (s.fch n).lim
      let b1 := if new_.get Fd.FCH_CFG_CONN = 0 then b else b.settleExc n
      (b1.setFch n { b1.fch n with settle := max (b1.fch n).settle (if moved then 2 else 0) }).cmpStep n a.ltc
    else if new_.get Fd.FCH_CFG_CONN = 0 then a
    else
      let x := a.fch n
      let a1 := a.setFch n { x with dwell := 0, free := 0, pend := [], conv := none, badConv := false, test := false }
      let a2 := a1.applyRange n 0 (new_.get Fd.FCH_CFG_RANGE)
      let exc := sameReg s a (Reg.FCH_EXC n) && old.get Fd.FCH_CFG_EXC_V == new_.get Fd.FCH_CFG_EXC_V &&
        old.get Fd.FCH_CFG_LOOP_PWR == new_.get Fd.FCH_CFG_LOOP_PWR
      (if exc then a2 else (a2.exciteChannel n 1).settleExc n).cmpStep n a.ltc) t0

/-- Threshold bands (R186): the active band is one of the new plan's. -/
def State.switchBands (t : State) : State :=
  let b := t.bands
  let t1 := if t.activeBand < b then t else t.wf Reg.THC_BAND Fd.THC_BAND_ACTIVE (b - 1)
  match t1.flt.bandNext with
  | some (n, _) =>
    if n < b then t1 else { t1 with flt := { t1.flt with bandNext := none } }.wf Reg.THC_BAND Fd.THC_BAND_PEND 0
  | none => t1

/-- Capture units (R49, R259): a segment in progress completes under the old table, beside the unit; every ring starts
at E, and a_k is E. A trigger that a unit held is treated under the new table. -/
def State.switchUnits (t s : State) (E : Time) : State :=
  iter 32 (fun u (a : State) =>
    let c := a.unit u
    let same := s.planRegion u = a.planRegion u
    let old : List CapOld := if c.acc.isNone then []
      else [⟨c.ring, c.gone, c.armAt, c.acc, c.parked, c.gap, c.written, c.buffer, c.part,
        [s.rd (Reg.SCUN_CFG u), s.rd (Reg.SCUN_SIZE u), s.rd (Reg.SCUN_SEL u), s.rd (Reg.SCUN_REF u)], s.planRegion u⟩]
    let b := if !same then 0 else if c.acc.isNone ∨ a.capBufs u = 0 then c.buffer else (c.buffer + 1) % a.capBufs u
    let d := { c with buffer := b, olds := c.olds ++ old }
    if a.capTap u = 0 then
      (if s.capTap u = 0 ∧ c.olds = [] then a
       else a.setUnit u { d with ring := [], gone := none, armAt := none, acc := none, gap := false, written := 0, part := [], rearm := none, held := [] })
    else c.held.foldl (fun (b : State) t => b.capTrigger u (b.capPeriod u) t) (a.startUnit u (some E) d)) t

/-- Shutter bus (R251): an input's changed polarity turns its state, disabled lines are at 0, schedulers start. -/
def State.switchShutter (t s : State) : State :=
  let ins := (List.range 4).map (fun n =>
    nth t.shb.inState n false != !sameField s t (Reg.SHB_IN_CFG n) Fd.SHB_IN_CFG_POL)
  let lines := (List.range 16).map (fun l =>
    if t.flag (Reg.SHB_LINE_CFG l) Fd.SHB_LINE_CFG_EN && t.rf (Reg.SHB_LINE_CFG l) Fd.SHB_LINE_CFG_WIDTH != 0 then
      nth t.shb.lineUntil l 0 else 0)
  { t with shb := { t.shb with inState := ins, lineUntil := lines } }.startScheds

/-- Driari ports (R49, R243, R491): a port with its chain map unchanged samples again from a new START; others retrain. -/
def State.switchPorts (t s : State) : State :=
  let one (a : State) (q : Nat) : State :=
    let P := a.chainPort q
    let x := a.port q
    let used := a.firstEnd q
    let second := (a.secondOf q).isSome
    let was := s.firstEnd q || (s.secondOf q).isSome
    let same := P == s.chainPort q && keepPort s a P && was
    let cyc := if s.drpN P = 0 then 0 else x.cycBase + ceilDiv s.sched.sfNo (s.statC P)
    let st := a.drpState q
    if !used && !second then (a.setPort q DrpPort.init).wr (Reg.DRP_STAT q) 0
    else if same then
      let restart := st == 2 || st == 3 || st == 6
      a.setPort q { x with
        sent := none, lastUp := none, startSf := none, nextIn := List.replicate 32 0, linkCyc := false, enOld := []
        outs := (x.outs.filter (fun o => o.2.op == 1 || o.2.host)).map (fun o => (noFrame, o.2))
        cycBase := cyc, step := if restart then 3 else x.step
        queue := if restart then x.queue.filter (fun c => c.op != 7) ++ [⟨0xFF, 7, arg5 0, false⟩] else x.queue }
    else
      let b := (a.setPort q { DrpPort.init with cycBase := cyc, outs := x.dropped, busy := x.dropped != [] }).showSplit q false 0
      if used then b.train q (s.firstEnd q) else b.setDrp q 5
  iter 16 (fun q (a : State) => one a q) t

/-- Loupe cores (R49, R321): a changed core runs what it has accepted, then is loaded. -/
def State.switchCores (t s : State) : State :=
  match s.pln.run, t.pln.run with
  | some q, some p =>
    let changed (c : Nat) : Bool := q.prog c != p.prog c
    let mine := t.lpe.disp.filter (fun e => changed e.1)
    let t1 := mine.foldl (fun (a : State) e => a.enqueue e.1 e.2)
      { t with lpe := { t.lpe with disp := t.lpe.disp.filter (fun e => !changed e.1) } }
    iter 16 (fun c (a : State) =>
      let x := a.core c
      let old (a : State) : State := (s.regs.filter (fun e => decide (e.1 / 0x1000 = 0x1A0 + c) && planKey e.1)).foldl
        (fun (b : State) e => b.wr e.1 e.2)
        { a with regs := a.regs.filter (fun e => !(decide (e.1 / 0x1000 = 0x1A0 + c) && planKey e.1)) }
      if changed c then
        if q.progLen c ≠ 0 ∧ (x.running ∨ x.queue ≠ []) then (old a).setCore c { x with reload := true, tmrNext := 0 }
        else a.loadCore c
      else if x.reload then (old a).setCore c { x with tmrNext := 0 }
      else
        let r := p.lRep c
        let b := a.setCore c { x with tmrNext := 0 }
        if p.progLen c = 0 then b
        else (b.wr (Reg.LPE_RMAX c) (w32 (r % 2 ^ 14))).wr (Reg.LPE_INT_LAT c) (w32 ((20 + r) % 2 ^ 14))) t1
  | _, _ => t

/-- Lanes (R49, R286): a lane that only the old plan uses keeps its region and its spool's configuration until it is
empty. -/
def State.switchLanes (t s : State) : State :=
  iter 256 (fun k (a : State) =>
    let sp := k / 4
    let L := k % 4
    let oldUse := (s.lane k).retired || (s.spoolUsed sp && s.laneSize k != 0)
    let newUse := a.spoolUsed sp && a.laneSize k != 0
    let l := a.lane k
    if newUse then (if l.retired then a.setLane k { l with retired := false } else a)
    else if !oldUse then a
    else if l.items = [] ∧ l.gaps = [] then a.setLane k { l with retired := false }
    else
      let b := (a.wr (Reg.SPLN_BASE sp L) (s.rd (Reg.SPLN_BASE sp L))).wr (Reg.SPLN_SIZE sp L) (s.rd (Reg.SPLN_SIZE sp L))
      let b1 := if a.spoolUsed sp then b else b.wr (Reg.SPLN_CFG sp) (s.rd (Reg.SPLN_CFG sp))
      b1.setLane k { l with retired := true }) t

/-! ### The switch -/

/-- What ends under the old plan at the switch instant: waiting live writes, records in progress, a profile that is
discarded, segments whose stream ends, and the mark in spools that only the old plan marks. -/
def State.endPlan (s t : State) (p : Plan) (mark : Rec) : State :=
  let s1 := (chainNumbers s).foldl (fun (a : State) c => (((a.closeSamples c).closeEnv c true).closeEnvRec c).coreFlush c) s
  let s2 := if keepRaman s t then s1 else s1.discardProfile
  let s3 := s2.tapUnits (fun u a =>
    if (a.unit u).acc.isSome && !keepStream a t u then a.cutSegment u (a.capPeriod u) 4 else a)
  match s.pln.run with
  | none => s3
  | some q =>
    let only := q.sysLanes.filter (fun k => !p.sysLanes.any (fun j => j / 4 == k / 4))
    let s4 := if q.sysLanes ++ p.sysLanes = [] then s3 else s3.bumpSeq 0x8 0 0x6
    only.foldl (fun (a : State) k => a.push k mark) s4

/-- The head after a switch from the state `s` (R67, R76): with shots in both plans LAS_EN follows the new one, with shots
anew the head script starts, without shots there is none, and calibrated elements wait for no window (R80). -/
def State.switchHead (t s : State) : State :=
  if !t.schedulesShots then
    ({ t with ofe := { t.ofe with script := [], wins := [] } }.wf Reg.OFE_STAT Fd.OFE_STAT_LAUNCH 0).lasUpdate.exchangeIdle
  else if s.schedulesShots then t.lasUpdate
  else (t.wf Reg.OFE_STAT Fd.OFE_STAT_SCRIPT_OK 0).startScript.lasUpdate

/-- The end of a switch from the state `s` to a slot at E (R45, R49): slot states, its instant and count, gates, budgets. -/
def State.switchClose (t s : State) (slot : Nat) (E : Time) : State :=
  let t1 := t.setSlot s.pln.slot { t.slot s.pln.slot with state := 4 }
  let t2 := t1.setSlot slot { t1.slot slot with state := 5 }
  let t3 := ((t2.wr64 Reg.PLN_SWITCH_LTC_LO Reg.PLN_SWITCH_LTC_HI E.toNat).countMod Reg.PLN_SWITCH_COUNT).autoGate
  let t4 : State := if t3.upl.twoPort then t3
    else { t3.applyBudget false with upl := { (t3.applyBudget false).upl with next := t3.upl.next } }
  if t4.syncing then { t4 with pai := { t4.pai with joinSent := false, prog := SyncState.init } } else t4

/-- The switch to the plan `p0` in a slot at E (R45, R49). -/
def State.switchTo (s0 : State) (p0 : Plan) (slot : Nat) (E : Time) : State :=
  match s0.pln.run with
  | none => s0
  | some q =>
    let s := s0.pln.live.foldl (fun (a : State) e => a.wr e.addr ((a.rd e.addr).put ⟨e.lsb, e.width⟩ e.value)) s0
    let p := s.keepLive q p0.liveInit
    let t := (s.autoUngate p).install p
    let mark : Rec := ⟨0x6, 0x8, 0, s.seqOf 0x8 0 0x6, E, markPayload 3 0xFF 0xFFFF 0xFF 0 E p.id q.id⟩
    let s1 := s.endPlan t p mark
    let a0 := ((s1.autoUngate p).install p).ballastNow
    let a1 := { a0 with
      sched := ⟨E, 0, 0, 0⟩,
      pln := { a0.pln with
        slot := slot, target := none, shadow := none, swFrom := none, instant := none, live := [], recordDue := true },
      seqs := a0.seqs.filter (fun e =>
        let cls := e.1 / 2 ^ 16 / 2 ^ 28
        let idx := e.1 / 2 ^ 16 % 2 ^ 28
        let kind := e.1 % 2 ^ 16
        q.hasSource cls idx kind && p.hasSource cls idx kind),
      pai := { a0.pai with results := [], fedTick := none } }
    let a2 := a1.switchLanes s
    let a3 := p.sysLanes.foldl (fun (a : State) k => a.push k mark) a2
    let a4 := (((a3.switchFibre s).switchRaman s).switchChains s).switchCores s
    let a5 := (a4.switchBands.switchField s).tswUpdate
    let a6 := ((a5.switchUnits s E).switchShutter s).switchPorts s
    let a7 := (a6.showFigures p).startNotch
    (a7.switchHead s).switchClose s slot E

end Sys2Proof.Machine
end

