-- ==== Sys2Proof/Machine/PlanCheck.lean ====
section
/-!
DEFINITION. The commit checks of a plan, in the order of the table of R43. A failing check names its code, a section and an
entry.
-/

namespace Sys2Proof.Machine

/-- What a check of one code finds: none, or the section type and the entry that fail. -/
abbrev Found := Option (Nat × Nat)

/-- The check fails at a section and an entry. -/
def failAt (bad : Bool) (sec ent : Nat) : Found := if bad then some (sec, ent) else none

/-- The first of a list's elements that fails. -/
def firstFound {α : Type} (f : α → Found) : List α → Found
  | [] => none
  | a :: as => f a <|> firstFound f as

/-- Some byte of a slice is not 0. -/
def anySet (bs : List Byte) : Bool := bs.any (fun b => b != 0)

/-! ### Header and sections (codes 0x3001 to 0x3006) -/

/-- PLAN_FORMAT. -/
def formatBad (img : List Byte) : Bool :=
  decide (img.length < 160) || fieldAt img 0 4 != 0x4E414C50 || fieldAt img 4 2 != 1 || fieldAt img 6 2 != 160 ||
    fieldAt img 0x9C 4 != crc32c (img.take 0x9C) || fieldAt img 0xC 2 == 0 || decide (16 < fieldAt img 0xC 2) ||
    anySet (sliceB img 0x12 6) || anySet (sliceB img 0x88 20) || decide (1 < byteAt img 0x11)

/-- PLAN_TARGET: silicon revision B0. -/
def targetBad (img : List Byte) : Bool := fieldAt img 0xE 2 != 0x6424 || decide (0xB0 < byteAt img 0x10)

/-- PLAN_LENGTH. -/
def lengthBad (img : List Byte) : Bool :=
  let n := fieldAt img 8 4
  n == 0 || decide (16777216 < n) || n != img.length

/-- PLAN_DIGEST. -/
def digestBad (img : List Byte) : Bool := sliceB img 0x28 32 != sha256 (img.drop 160)

/-- PLAN_SIG: no key, another KEY_ID, or a wrong signature (R36, R488). -/
def State.sigBad (s : State) (img : List Byte) : Bool :=
  match s.nv.planKey with
  | none => true
  | some (id, key) => id.toNat != fieldAt img 0x24 4 || !ecdsaOk key (sliceB img 0x48 64) (img.take 0x48)

/-- Reserved bytes of a route entry, of a spool entry and of a LIVE or MEMORY entry (R40, R41, R274). -/
def spoolEntBad (e : List Byte) : Bool :=
  decide (3 < byteAt e 0) || decide (63 < byteAt e 1) || anySet (sliceB e 6 2) || anySet (sliceB e 12 4)
def routeEntBad (e : List Byte) : Bool := byteAt e 1 != 0 || decide (1 < byteAt e 14) || byteAt e 15 != 0

/-- A section's content breaks the layout of its type (R36, R39 to R41, R274, R489): the first entry or block that does; 0
for a LENGTH that does. -/
def layoutFail (t : Nat) (bs : List Byte) : Option Nat :=
  let n := bs.length
  let first (base w k : Nat) (f : List Byte → Bool) : Option Nat :=
    (List.range k).find? (fun i => f (sliceB bs (base + w * i) w))
  let size (bad : Bool) : Option Nat := if bad then some 0 else none
  if n = 0 then none
  else if t = 1 then size (n != 32 || anySet (bs.drop 20))
  else if t = 11 then size (n % 16 != 0) <|> first 0 16 (n / 16) (fun e => byteAt e 1 != 0)
  else if t = 12 then size (n % 20 != 0) <|> first 0 20 (n / 20) (fun e => byteAt e 7 != 0)
  else if t = 9 then
    size (decide (n < 5120) || n % 16 != 0) <|> first 0 16 64 spoolEntBad <|>
      (first 5120 16 ((n - 5120) / 16) routeEntBad).map (fun i => 320 + i)
  else if blockSection t then
    match parseBlocks (n / 16 + 1) bs with
    | none => some (blocksUntil (n / 16 + 1) bs)
    | some bl => blocksFail t bl
  else none

/-- One directory entry fails: CRC, TYPE, VERSION, duplicate and place (R36, R37). -/
def sectBad (img : List Byte) (es : List Sect) (i : Nat) (e : Sect) : Bool :=
  let dir := 160 + 16 * es.length
  let others := (es.zipIdx).filter (fun x => x.2 != i)
  decide (img.length < e.offset + e.length) || crc32c (e.bytes img) != e.crc ||
    e.type == 0 || decide (13 < e.type) || e.version != 1 ||
    others.any (fun x => decide (x.2 < i) && x.1.type == e.type) || e.offset % 64 != 0 ||
    (e.length != 0 && (decide (e.offset < dir) ||
      others.any (fun x => x.1.length != 0 && decide (x.1.offset < e.offset + e.length) &&
        decide (e.offset < x.1.offset + x.1.length)))) ||
    ((e.type == 1 || e.type == 11) && e.length == 0)

/-- PLAN_SECTION: the directory index that fails, and the entry within its section. -/
def sectionFail (img : List Byte) : Option (Nat × Nat) :=
  let es := planSections img
  if img.length < 160 + 16 * es.length then some (0, 0)
  else
    firstFound (fun (x : Sect × Nat) =>
      failAt (sectBad img es x.2 x.1) x.2 0 <|> (layoutFail x.1.type (x.1.bytes img)).map (fun i => (x.2, i))) es.zipIdx <|>
    failAt (!(es.any (fun e => e.type == 1) && es.any (fun e => e.type == 11))) 0 0

/-! ### PLAN_SHOT, PLAN_FIBRE (R39, R60, R62, R64, R72, R86, R106, R153, R267) -/

/-- Line ticks per second. -/
abbrev tickHz : Nat := 1031250000

/-- The slots whose waveforms are played (R64). -/
def State.waveSlots (s : State) : List Nat := if s.fenMode = 3 then [0, 1, 2, 3] else [0]

/-- Ticks between launches. -/
def State.launchGap (s : State) : Nat := s.shotPeriod / s.launchesPerShot

/-- PLAN_SHOT, on a state with the plan's tables. -/
def State.shotFail (t : State) (p : Plan) : Found :=
  let sp := p.shotPeriod
  let q := t.fenMode == 3
  let nMax := (t.waveSlots.map t.waveLen).foldl max 0
  let head := t.rf Reg.OFE_HEAD_DELAY Fd.OFE_HEAD_DELAY_DELAY
  let da := t.dRx + t.fenA
  let fibre := p.sections.contains 2
  failAt (sp != 0 && (
      decide (sp < p.window + p.guardT) || decide (p.guardT < 1032) || decide (100000 * sp < tickHz * t.launchesPerShot) ||
      p.window != t.fenN * t.fenS || (q && sp % 160 != 0) ||
      (fibre && decide (p.guardT < head + ceilDiv nMax 4)) ||
      decide (p.guardT < da) || (q && decide (sp / 4 ≤ da)) ||
      (t.rmnP != 0 && decide (t.launchGap < t.rf Reg.OFE_RMN_DELAY Fd.OFE_HEAD_DELAY_DELAY + 4 * t.rmnP +
        t.rf Reg.OFE_RMN_TRIG Fd.OFE_RMN_TRIG_LEAD)))) 1 0
  <|> firstFound (fun k =>
    let v := (t.rd (Reg.SHB_SCHED_PER k)).toNat
    failAt (v != 0 && (decide (v < 1031) || decide (2147483647 < v))) 8 k) (List.range 8)

/-- The chapter code of a page's registers, for words outside their ranges (R43). -/
def pageCode (page : Nat) : Nat :=
  if page = 0x10 ∨ page = 0x11 ∨ page = 0x14 then 0x3008
  else if page = 0x12 ∨ page = 0x13 then 0x3009
  else if page = 0x18 ∨ page = 0x19 ∨ page = 0x1a ∨ page = 0x1b ∨ (0x100 ≤ page ∧ page < 0x140) then 0x300A
  else if 0x20 ≤ page ∧ page < 0x30 then 0x300B
  else if 0x140 ≤ page ∧ page < 0x160 then 0x300C
  else if 0x160 ≤ page ∧ page < 0x1a0 then 0x300D
  else 0x300F

/-- The section that loads a page's registers. -/
def pageSection (page : Nat) : Nat :=
  if page = 0x10 ∨ page = 0x11 then 2 else if page = 0x12 ∨ page = 0x13 then 3 else if page = 0x14 then 4
  else if page = 0x18 ∨ (0x100 ≤ page ∧ page < 0x140) then 5
  else if page = 0x19 ∨ page = 0x1a ∨ page = 0x1b then 6 else if 0x20 ≤ page ∧ page < 0x30 then 7
  else if 0x160 ≤ page ∧ page < 0x1a0 then 9 else if 0x1a0 ≤ page ∧ page < 0x1b0 then 10 else 8

/-- Words whose limits hold under a condition that their chapter names (R106, R135, R153): its own check tests them. -/
def ownLimit (a : Nat) : Bool :=
  a == Reg.FEN_CFG || a == Reg.TMP_CFG || a == Reg.TMP_BLOCK ||
    (List.range 16).any (fun n => a == Reg.FEN_PB_CFG n || a == Reg.PSS_CS_CFG n)

/-- The channel, port, unit, spool, core or table entry that a loaded word belongs to; 0 for a word of the page. -/
def wordEntry (key : Nat) : Nat :=
  let page := key % 0x1000000 / 0x1000
  if 0x1000000 ≤ key then key / 0x1000000 - 1
  else if 0x100 ≤ page ∧ page < 0x140 then page - 0x100
  else if 0x140 ≤ page ∧ page < 0x160 then page - 0x140
  else if 0x160 ≤ page ∧ page < 0x1a0 then page - 0x160
  else if 0x1a0 ≤ page ∧ page < 0x1b0 then page - 0x1a0
  else if 0x20 ≤ page ∧ page < 0x30 then page - 0x20
  else 0

/-- A loaded word has a field outside its range: it fails under the check of its chapter. -/
def Plan.rangeFail (p : Plan) (code : Nat) : Found :=
  firstFound (fun (e : Nat × Word) =>
    let a := e.1 % 0x1000000
    let page := a / 0x1000
    failAt (pageCode page == code && !ownLimit a && !rangeOk a (resetWord a) e.2) (pageSection page) (wordEntry e.1)) p.regs

/-- A range reaches beyond the last of `n` positions. -/
def beyond (n first count : Nat) : Bool := decide (n < first + count)

/-- A block size that is not a multiple of 128 from 128 to `hi`. -/
def blockBad (hi v : Nat) : Bool := v % 128 != 0 || decide (v < 128) || decide (hi < v)

/-- A WAVEFORM block reaches beyond the 16,384 sample pairs of waveform memory (R63). -/
def waveOver (img : List Byte) : Bool :=
  (planSections img).any (fun e => e.type == 2 &&
    ((parseBlocks (e.length / 16 + 1) (e.bytes img)).getD []).any (fun b =>
      b.btype == 0x10 && decide (16384 < b.arg + b.data.length / 4)))

/-- The Raman path's part of PLAN_FIBRE (R153). -/
def State.ramanFail (t : State) (p : Plan) : Bool :=
  let P := t.rmnP
  let rf := (t.rd Reg.TMP_REF_FIRST).toNat
  let rc := (t.rd Reg.TMP_REF_COUNT).toNat
  let df := (t.rd Reg.TMP_DARK_FIRST).toNat
  let dc := (t.rd Reg.TMP_DARK_COUNT).toNat
  let g := t.rd Reg.TMP_GAMMA
  P != 0 && (p.shotPeriod == 0 || decide (t.rmnD < 8) || decide (16 < t.rmnD) || P % 2 ^ t.rmnB != 0 ||
    beyond P rf rc || (dc != 0 && (beyond P df dc || (decide (rf < df + dc) && decide (df < rf + rc)))) ||
    decide (5 < t.rmnB) || (List.range 8).any (fun i => decide (P ≤ (t.rd (Reg.TMP_STEP_POS i)).toNat)) || rc == 0 ||
    !f32Finite g || !f32Lt 0 g || blockBad 16384 ((t.rd Reg.TMP_BLOCK).toNat))

/-- PLAN_FIBRE. -/
def State.fibreFail (t : State) (p : Plan) : Found :=
  let n := t.fenN
  let mode := t.fenMode
  let k := t.fenK
  let kMax := nth [8, 4, 2, 2] mode 8
  p.rangeFail 0x3008
  <|> failAt (decide (modePoints mode < n) || decide (64 < p.script.length)) 2 0
  <|> firstFound (fun i =>
    let w := t.rd (Reg.OFE_WAVE_DIR i)
    failAt (decide (16384 < w.get Fd.OFE_WAVE_DIR_START + w.get Fd.OFE_WAVE_DIR_LEN)) 2 i) (List.range 16)
  <|> firstFound (fun j => failAt (p.sections.contains 2 && p.shotPeriod != 0 && t.waveLen j == 0) 2 j) t.waveSlots
  <|> failAt (n != 0 && (t.fenG == 0 || decide (64 < t.fenG) || decide (kMax < k) || decide (n ≤ t.fenG + k - 1))) 2 0
  <|> firstFound (fun r =>
    let c := (t.rd (Reg.FEN_PB_COUNT r)).toNat
    failAt (n != 0 && c != 0 && (beyond n (t.rd (Reg.FEN_PB_FIRST r)).toNat c ||
      blockBad 12288 (t.rf (Reg.FEN_PB_CFG r) Fd.FEN_PB_CFG_BLOCK))) 2 r) (List.range 16)
  <|> failAt (t.ramanFail p) 4 0
  <|> failAt (p.sections.contains 4 && t.rf Reg.OFE_RMN_TRIG Fd.OFE_RMN_TRIG_WIDTH == 0) 2 0

/-! ### PLAN_ZONE (R129, R135) -/

/-- Used zones before a zone that hold one of its points. -/
def zonesOver (zs : List Zone) (i : Nat) (pt : Nat) : Nat :=
  ((zs.take i).filter (fun z => decide (z.first ≤ pt) && decide (pt < z.first + z.count))).length

/-- PLAN_ZONE. -/
def State.zoneFail (t : State) (p : Plan) : Found :=
  let zs := t.usedZones
  let n := t.fenN
  let u := if t.fenMode = 3 then t.rf Reg.PSS_CHAIN_CFG Fd.PSS_CHAIN_CFG_INT_EXP + 2
    else t.rf Reg.PSS_CHAIN_CFG Fd.PSS_CHAIN_CFG_INT_EXP
  p.rangeFail 0x3009
  <|> failAt (decide (4096 < t.rf Reg.ZON_ZCFG Fd.ZON_ZCFG_ZONES) || decide (u < t.pssH)) 3 0
  <|> firstFound (fun (e : Zone × Nat) =>
    let z := e.1
    let before := (zs.take e.2).getLast?
    failAt (beyond n z.first z.count || (match before with | some b => decide (z.first < b.first) | none => false) ||
      (decide (z.ctrl.get zFEAT ≤ 4) && decide (t.pssH < z.ctrl.get zFEAT)) ||
      -- in ascending order of FIRST, some point lies in three zones where the first point of one of them does
      decide (2 ≤ zonesOver zs e.2 z.first)) 3 z.z) zs.zipIdx
  <|> firstFound (fun r =>
    let c := (t.rd (Reg.PSS_CS_COUNT r)).toNat
    failAt (c != 0 && (beyond n (t.rd (Reg.PSS_CS_FIRST r)).toNat c ||
      blockBad 4096 (t.rf (Reg.PSS_CS_CFG r) Fd.PSS_CS_CFG_BLOCK))) 3 r) (List.range 16)

/-! ### PLAN_FIELD (R39, R193, R219, R267) -/

/-- A LIVE entry for a field of a register. -/
def Plan.liveFor (p : Plan) (addr : Nat) (f : Fld) : Option LiveEnt :=
  p.live.find? (fun e => 0x1000 * e.page + e.off == addr && e.lsb == f.lsb && e.width == f.width)

/-- The configuration of field channel `n` is outside its limits (R193). -/
def State.channelBad (t : State) (p : Plan) (n : Nat) : Bool :=
  let cfg := t.rd (Reg.FCH_CFG n)
  let conn := cfg.get Fd.FCH_CFG_CONN
  let iua := t.rf (Reg.FCH_EXC n) Fd.FCH_EXC_I_UA
  let ev := cfg.get Fd.FCH_CFG_EXC_V
  let wide := cfg.get Fd.FCH_CFG_WIDE
  let narrow := cfg.get Fd.FCH_CFG_NARROW
  let lim := t.rd (Reg.FCH_LIM_CFG n)
  let inside (v : Nat) : Bool := decide (wide ≤ v) && decide (v ≤ narrow)
  let auto := cfg.get Fd.FCH_CFG_AUTO == 1 || (p.liveFor (Reg.FCH_CFG n) Fd.FCH_CFG_AUTO).isSome
  ((conn == 2 || conn == 3 || conn == 4) && (iua == 0 || ev != 0)) || (conn == 5 && (ev == 0 || iua != 0)) ||
    ((conn == 1 || conn == 6) && (iua != 0 || ev != 0)) || (cfg.get Fd.FCH_CFG_LOOP_PWR == 1 && conn != 6) ||
    (cfg.get Fd.FCH_CFG_BURN == 1 && (conn == 2 || conn == 3)) ||
    (conn != 0 && (decide (narrow < wide) || decide (4 < wide) || decide (4 < narrow))) ||
    (auto && (!inside (cfg.get Fd.FCH_CFG_RANGE) ||
      (match p.liveFor (Reg.FCH_CFG n) Fd.FCH_CFG_RANGE with
       | some e => !inside e.min.toNat || !inside e.max.toNat
       | none => false))) ||
    (conn != 0 && p.fieldTick == 0) ||
    ((lim.get Fd.FCH_LIM_CFG_A_EN == 1 || lim.get Fd.FCH_LIM_CFG_B_EN == 1) && t.bands == 0)

/-- Excitation allowance of a channel in µA (R193). -/
def State.excAllow (t : State) (n : Nat) : Nat :=
  let conn := t.conn n
  let iua := t.rf (Reg.FCH_EXC n) Fd.FCH_EXC_I_UA
  if conn = 3 then 2 * iua else if conn = 2 ∨ conn = 4 then iua else if conn = 5 then 40000
  else if conn = 6 ∧ t.rf (Reg.FCH_CFG n) Fd.FCH_CFG_LOOP_PWR = 1 then 25000 else 0

/-- Terms of a polynomial (R220). -/
def State.scaleBad (t : State) (c : Nat) : Bool :=
  let x := t.rd (copyKey Reg.LIN_XSCALE c)
  let o := t.rd (copyKey Reg.LIN_OUT_SCALE c)
  let zero (w : Word) : Bool := w.toNat % 2 ^ 31 == 0
  zero x || zero o || !f32Finite x || !f32Finite o

/-- The configuration of chain channel `c` is outside its limits (R219). -/
def State.chainBad (t : State) (c : Nat) : Bool :=
  let per := t.chanPeriod c
  decide (6 < t.chH c) || (t.hasChain c && t.chNotch c && decide (tickHz < 200 * per)) ||
    decide (1024 < (t.rd (copyKey Reg.FLT_CH_OUT c)).get Fd.FLT_CH_OUT_SPC) || (t.hasChain c && t.scaleBad c) ||
    (List.range 18).any (fun i => !f32Finite (t.rd (copyKey (Reg.LIN_COEF i) c)))

/-- PLAN_FIELD. -/
def State.fieldFail (t : State) (p : Plan) : Found :=
  let ft := p.fieldTick
  let bands := t.bands
  let edge (i : Nat) : Word := t.rd (Reg.FLT_BAND_EDGE i)
  p.rangeFail 0x300A
  <|> failAt (ft != 0 && (ft % 20 != 0 || decide (ft < 4000))) 1 0
  <|> firstFound (fun n => failAt (t.channelBad p n) 5 n) (List.range 64)
  <|> failAt (decide (640000 < ((List.range 64).map t.excAllow).sum)) 5 0
  <|> firstFound (fun c => failAt (t.chainBad c) 6 c) (List.range 576)
  <|> failAt (decide (1 < bands) && t.rf Reg.FLT_BAND_CFG Fd.FLT_BAND_CFG_SRC == 0) 6 0
  <|> failAt ((List.range (bands - 2)).any (fun i => !f32Lt (edge (i + 1)) (edge (i + 2)))) 6 0
  <|> firstFound (fun b => failAt ((List.range 128).any (fun c =>
      1023 < (p.tabAt (tabBand b c)).toNat % 65536)) 6 b) (List.range 16)
  <|> firstFound (fun u => failAt (t.capTap u == 2 &&
    (let first := t.rf (Reg.SCUN_SEL u) Fd.SCUN_SEL_FIRST
     (List.range (t.capNum u)).any (fun i =>
       t.hasChain (first + i) && t.hasChain first && t.chanPeriod (first + i) != t.chanPeriod first))) 8 u) (List.range 32)

/-! ### PLAN_NODE (R228, R243) -/

/-- Sample slots of a port that name a node. -/
def State.portSlots (t : State) (P : Nat) : List Nat := (List.range 32).filter (fun c => t.slotNode P c != 0)
def State.portSpf (t : State) (P c : Nat) : Nat := t.rf (Reg.DRP_CH_CFG P c) Fd.DRP_CH_CFG_SPF

/-- A port's configuration fails (R228, R243). -/
def State.portBad (t : State) (p : Plan) (P : Nat) : Bool :=
  let sf := p.superframe
  let cs := t.portSlots P
  let spf := cs.map (t.portSpf P)
  let mode := t.drpMode P
  (t.drpN P != 0 && (
    sf == 0 || decide (128 < t.drpN P) ||
    decide (sf / 40 < 59 + (spf.map (fun n => 4 * n + 1)).sum) || decide (sf / 250 < spf.sum) ||
    (P % 2 == 1 && t.drpN (P - 1) != 0 && t.drpMode (P - 1) == 1))) ||
  spf.any (· == 0) || spf.any (fun n => sf % (40 * n) != 0) || cs.any (fun c => decide (t.drpN P < t.slotNode P c)) ||
    (mode == 2 && p.flags % 2 == 0) || (mode == 1 && P % 2 == 1)

/-- PLAN_NODE. -/
def State.nodeFail (t : State) (p : Plan) : Found :=
  let sf := p.superframe
  p.rangeFail 0x300B
  <|> failAt (sf != 0 && (sf % 40 != 0 || decide (sf < 4000) || decide (1000000 < sf))) 1 0
  <|> firstFound (fun P => failAt (t.portBad p P) 7 P) (List.range 16)

/-! ### PLAN_MEMORY (R40, R253, R267, R286, R294) -/

/-- One MEMORY entry breaks R40. -/
def MemEnt.bad (e : MemEnt) : Bool :=
  let top := nth [0, 31, 255, 31, 0x3F, 63, 63, 63] e.res 0
  e.res == 0 || decide (7 < e.res) || decide (top < e.index) ||
    ((e.res == 1 || e.res == 2) && (e.base % 64 != 0 || e.size % 64 != 0)) ||
    (e.res == 3 && (e.base != 0 || e.size != 1 || !(e.owner == 1 || (decide (0x10 ≤ e.owner) && decide (e.owner < 0x20))))) ||
    (e.res == 4 && (e.base != 0 || (decide (8 ≤ e.index) && decide (e.index < 0x20)))) ||
    (e.res != 3 && e.owner != 0)

/-- Two ranges of bytes share one. -/
def overlap (a b n m : Nat) : Bool := n != 0 && m != 0 && decide (a < b + m) && decide (b < a + n)

/-- Two entries of segment or spool memory overlap, or give a scratch bank two owners. -/
def MemEnt.clash (e f : MemEnt) : Bool :=
  e.res == f.res && (((e.res == 1 || e.res == 2) && (overlap e.base f.base e.size f.size || e.index == f.index)) ||
    (e.res == 3 && e.index == f.index))

/-- Amount that a plan's entries give an instance of a resource. -/
def Plan.share (p : Plan) (res i : Nat) : Nat :=
  ((p.mem.filter (fun e => e.res == res && e.index == i)).map MemEnt.size).sum

/-- A used capture unit's settings fail (R267). -/
def State.unitBad (t : State) (p : Plan) (u : Nat) : Bool :=
  let seg := t.rf (Reg.SCUN_SIZE u) Fd.SCUN_SIZE_SEG_SIZE
  let num := t.capNum u
  let c := t.capC u
  let nbuf := t.capBufs u
  let pre := t.rf (Reg.SCUN_SIZE u) Fd.SCUN_SIZE_PRE
  let w := p.share 4 (0x20 + u)
  let b := 16 + 16 * ceilDiv (32 + 4 * num * c) 16
  t.capTap u != 0 && (seg == 0 || decide (1024 < seg) || decide (nbuf < 2) || c == 0 || decide (c < pre) || w == 0 ||
    decide (w * ((nbuf - 1) * ((c - pre) * t.capPeriod u + 825)) < ceilDiv b 16 * 1024))

/-- A lane of a used spool fails (R275, R294). -/
def Plan.laneBad (p : Plan) (k : Nat) : Bool :=
  match p.lanes[k]? with
  | none => true
  | some l =>
    let size := p.share 2 k
    let pair := if p.flags % 2 = 1 then ceilDiv (l.inRate * (2 * p.shotPeriod)) tickHz else 0
    p.spoolUsed (k / 4) && (size == 0 || decide (65552 < l.maxItem) ||
      decide (size < 64 + l.maxItem + ceilDiv (l.inRate * l.allow) 1000 + pair))

/-- Place of a lane in spool memory: base and size. -/
def State.lanePlace (s : State) (k : Nat) : Nat × Nat :=
  ((s.rd (Reg.SPLN_BASE (k / 4) (k % 4))).toNat, (s.rd (Reg.SPLN_SIZE (k / 4) (k % 4))).toNat)

/-- A region of spool memory overlaps that of a RETIRED lane (R286). -/
def State.regionClash (s : State) (e : MemEnt) : Bool :=
  e.res == 2 && (List.range 256).any (fun k =>
    (s.lane k).retired && (let r := s.lanePlace k; overlap e.base r.1 e.size r.2) &&
      !(k == e.index && s.lanePlace k == (e.base, e.size)))

/-- A lane that a switch to `p` retires while it holds something or takes the mark of the switch (R45, R286). -/
def State.laneRetires (s : State) (p : Plan) (k : Nat) : Bool :=
  s.spoolUsed (k / 4) && !p.spoolUsed (k / 4) &&
    ((s.lane k).items != [] || (s.lane k).gaps != [] || (match s.pln.run with | some q => q.sysLanes.contains k | none => false))

/-- A switch to `p` finds a region in the way of a lane that it retires, or moves a lane that both plans use (R286). -/
def State.switchClash (s : State) (p : Plan) (e : MemEnt) : Bool :=
  s.regionClash e || (e.res == 2 && (
    (List.range 256).any (fun k => s.laneRetires p k && (let r := s.lanePlace k; overlap e.base r.1 e.size r.2)) ||
    (s.spoolUsed (e.index / 4) && p.spoolUsed (e.index / 4) && (s.lanePlace e.index).2 != 0 &&
      s.lanePlace e.index != (e.base, e.size))))

/-- The regions of a plan overlap those of RETIRED lanes (R286): the entry. -/
def State.regionFail (s : State) (p : Plan) : Found :=
  firstFound (fun (e : MemEnt × Nat) => failAt (s.regionClash e.1) 11 e.2) p.mem.zipIdx

/-- R286 forbids the switch to a plan. -/
def State.switchBarred (s : State) (p : Plan) : Bool := p.mem.any (s.switchClash p)

/-- PLAN_MEMORY: `s` is the state under the running plan. -/
def State.memoryFail (s t : State) (p : Plan) : Found :=
  p.rangeFail 0x300C
  <|> firstFound (fun (e : MemEnt × Nat) =>
    failAt (e.1.bad || (e.1.res == 1 && decide (12 * 2 ^ 20 < e.1.base + e.1.size)) ||
      (e.1.res == 2 && decide (2 ^ 24 < e.1.base + e.1.size)) || (p.mem.take e.2).any e.1.clash) 11 e.2) p.mem.zipIdx
  <|> failAt (decide (1024 < p.memSum 4)) 11 0
  <|> firstFound (fun u => failAt (t.unitBad p u) 8 u) (List.range 32)
  <|> firstFound (fun k => failAt (p.spoolUsed (k / 4) && p.laneBad k) 9 (64 + k)) (List.range 256)
  <|> s.regionFail p

/-! ### PLAN_UPLINK (R294, R366) -/

/-- Ticks of the compression engine per second for a spool (R294): 1,000·T / r and the jobs. -/
def Plan.engineTicks (p : Plan) (sp : Nat) (e : SpoolEnt) : Nat :=
  if e.flags % 2 = 0 ∨ e.level = 0 then 0
  else 1000 * p.share 7 sp * 2 ^ (e.level - 1) + e.jobRate * (256 + if 3 ≤ e.level then 2048 else 0)

/-- PLAN_UPLINK: budgets, compression levels and throughput. -/
def State.uplinkFail (s : State) (p : Plan) : Found :=
  let served := ((p.spools.zipIdx).filter (fun e => e.1.flags % 2 == 1 && e.1.ctx != s.mgmtCtx)).map Prod.snd
  failAt (decide (44000000 < (served.map (p.share 5)).sum) || decide (22000000 < (served.map (p.share 6)).sum)) 11 0
  <|> firstFound (fun (e : SpoolEnt × Nat) =>
    let has7 := p.mem.any (fun m => m.res == 7 && m.index == e.2)
    let rate := ((p.lanes[4 * e.2]?).map LaneEnt.inRate).getD 0
    failAt (e.1.flags % 2 == 1 && (decide (4 < e.1.level) || decide (3 < e.1.pf) || (e.1.level != 0 && !has7) ||
      (served.contains e.2 && decide (1000 * p.share 6 e.2 < rate * 8)))) 9 e.2) p.spools.zipIdx
  <|> failAt (decide (966796875 < ((p.spools.zipIdx).map (fun e => p.engineTicks e.2 e.1)).sum)) 9 0

/-! ### PLAN_LOUPE (R322) -/

/-- A place on a path through a Loupe program: the address, what the G registers are known to hold, and how often each
backward branch has been taken. -/
structure Walk where
  pc : Nat
  g : List (Option Word)
  taken : List (Nat × Nat)
  deriving DecidableEq, Repr

/-- What a register is known to hold; G0 reads 0 (R300). -/
def Walk.reg (w : Walk) (r : Nat) : Option Word := if r = 0 then some 0 else w.g.getD r none
def Walk.setReg (w : Walk) (r : Nat) (v : Option Word) : Walk := { w with g := w.g.set r v }

/-- What one instruction of straight-line code does to the known registers (R304). -/
def Walk.effect (w : Walk) (i : Word) : Walk :=
  let op := insF i 26 6
  let d := insF i 22 4
  let a := w.reg (insF i 18 4)
  let b := w.reg (insF i 14 4)
  let sh := insF i 0 5
  let two (f : Word → Word → Word) : Walk := w.setReg d (a.bind (fun x => b.map (fun y => f x y)))
  let one (f : Word → Word) : Walk := w.setReg d (a.map f)
  match op with
  | 0x01 => two (fun x y => x + y)
  | 0x02 => two (fun x y => x - y)
  | 0x03 => two (fun x y => x &&& y)
  | 0x04 => two (fun x y => x ||| y)
  | 0x05 => two (fun x y => x ^^^ y)
  | 0x06 => two (fun x y => if x.toInt < y.toInt then 1 else 0)
  | 0x07 => two (fun x y => if x.toInt < y.toInt then x else y)
  | 0x08 => two (fun x y => if x.toInt < y.toInt then y else x)
  | 0x0A => one (fun x => x + BitVec.ofInt 32 (insS i 0 18))
  | 0x0B => w.setReg d (some (w32 (insF i 0 16 * 65536)))
  | 0x0C => one (fun x => x ||| w32 (insF i 0 16))
  | 0x0D => one (fun x => x <<< sh)
  | 0x0E => one (fun x => x >>> sh)
  | 0x0F => one (fun x => x.sshiftRight sh)
  | _ => if op = 0x09 ∨ op = 0x10 ∨ op = 0x14 ∨ op = 0x18 ∨ op = 0x19 ∨ op = 0x1A ∨ op = 0x32 ∨ op = 0x34
      then w.setReg d none else w

/-- An OP of the table; one that delay slots and bodies may not hold (R304, R306, R307). -/
def loupeListed (op : Nat) : Bool :=
  decide (op ≤ 0x16) || (decide (0x18 ≤ op) && decide (op ≤ 0x1C)) || (decide (0x20 ≤ op) && decide (op ≤ 0x2A)) ||
    (decide (0x30 ≤ op) && decide (op ≤ 0x35))
def loupeControl (op : Nat) : Bool := decide (0x20 ≤ op) && decide (op ≤ 0x2A)

/-- Cycles of one instruction of straight-line code: scratch accesses stall 5 cycles each, and DMOV and writes of INJ_CMD
and TMR add one pass of the handler (R305, R322). -/
def loupeCost (scratch : Bool) (handler : Option Nat) (i : Word) : Option Nat :=
  let op := insF i 26 6
  let base := 1 + (if scratch then 5 * scratchUses i else 0)
  if op = 0x31 ∨ (op = 0x33 ∧ (insF i 0 6 = 4 ∨ insF i 0 6 = 2)) then handler.map (fun h => base + h) else some base

/-- A branch's condition on the known registers (R304): none where they do not settle it. -/
def Walk.cond (w : Walk) (i : Word) : Option Bool :=
  let a := w.reg (insF i 22 4)
  let b := w.reg (insF i 18 4)
  let test (f : Word → Word → Bool) : Option Bool := a.bind (fun x => b.map (fun y => f x y))
  match insF i 26 6 with
  | 0x20 => test (fun x y => x == y)
  | 0x21 => test (fun x y => x != y)
  | 0x22 => test (fun x y => decide (x.toInt < y.toInt))
  | 0x23 => test (fun x y => decide (y.toInt ≤ x.toInt))
  | _ => some true

/-- What the walk needs of a program: its words, the loop bounds, whether the core has scratch, the cycles of one pass of
its handler, and whether the walk is through the handler. -/
structure WalkEnv where
  word : Nat → Word
  bound : Nat → Option Nat
  scratch : Bool
  handler : Option Nat
  inHandler : Bool

/-- Most cycles from a place to the end of the path (R322); none where no bound within the fuel is found. Both ways of a
branch count unless the known registers settle it; a backward branch is taken at most its bound. -/
def worstCycles (v : WalkEnv) : Nat → Walk → Option Nat
  | 0, _ => none
  | fuel + 1, w =>
    let i := v.word w.pc
    let op := insF i 26 6
    let at_ (n : Nat) : Nat := (w.pc + n) % 16384
    let add (n : Option Nat) (r : Option Nat) : Option Nat := n.bind (fun x => r.map (fun y => x + y))
    if op = 0x28 then some 1
    else if op = 0x29 then
      match v.bound w.pc with
      | none => none
      | some b => add (some (max 1 b)) (worstCycles v fuel { w with pc := at_ 1 })
    else if op = 0x27 then
      let len := insF i 13 9
      let g := insF i 22 4
      let cmax := insF i 0 13
      let body := (List.range len).map (fun k => v.word (at_ (1 + k)))
      if 256 < len ∨ body.any (fun b => loupeControl (insF b 26 6)) then some (1 + len)
      else
        let count := if g = 0 then cmax else
          match w.reg g with
          | some x => if x.toInt < 0 then 0 else min x.toNat cmax
          | none => cmax
        let pass := body.foldl (fun a b => add a (loupeCost v.scratch v.handler b)) (some 0)
        let after := body.foldl (fun (a : Walk) b =>
          let x := a.effect b
          -- a register that a body of several passes writes is not known
          (List.range 16).foldl (fun (y : Walk) r => if x.reg r = a.reg r then y else y.setReg r none) x) w
        let rest := worstCycles v fuel { (if len = 0 ∨ count = 0 then w else after) with
          pc := if len = 0 then at_ 1 else at_ (1 + len) }
        add (pass.map (fun n => 1 + n * count)) rest
    else if loupeControl op then
      let s1 := v.word (at_ 1)
      let s2 := v.word (at_ 2)
      if loupeControl (insF s1 26 6) ∨ loupeControl (insF s2 26 6) then some 3
      else
        let cost := add (some 1) (add (loupeCost v.scratch v.handler s1) (loupeCost v.scratch v.handler s2))
        let slots (x : Walk) : Walk := (x.effect s1).effect s2
        if op = 0x2A then (if v.inHandler then cost else none)
        else if op = 0x26 then
          match w.reg (insF i 22 4) with
          | some x => add cost (worstCycles v fuel { slots w with pc := x.toNat % 16384 })
          | none => none
        else
          let off := insS i 0 18
          let target := (((w.pc : Int) + off) % 16384).toNat
          let n := NMap.get (fun _ => 0) w.taken w.pc
          if op = 0x25 then
            add cost (worstCycles v fuel { slots (w.setReg 15 (some (w32 (w.pc + 3)))) with pc := target })
          else
            let c := w.cond i
            let bound := if off ≤ 0 then v.bound w.pc else some (n + 1)
            let go : Option Nat :=
              if c = some false then some 0
              else
                match bound with
                | none => none
                | some b =>
                  if b ≤ n then some 0
                  else
                    add cost (worstCycles v fuel
                      { slots w with pc := target, taken := if off ≤ 0 then NMap.set (fun _ => 0) w.taken w.pc (n + 1) else w.taken })
            let fall : Option Nat := if c = some true then some 0 else add cost (worstCycles v fuel { slots w with pc := at_ 3 })
            go.bind (fun x => fall.map (fun y => max x y))
    else if !loupeListed op then some 1
    else add (loupeCost v.scratch v.handler i) (worstCycles v fuel ({ w with pc := at_ 1 }.effect i))

/-- The worst case of a core's path from an entry with a source type, within a limit of cycles (R322). -/
def State.pathOver (t : State) (p : Plan) (c type limit : Nat) : Bool :=
  let ws := p.prog c
  let env : WalkEnv :=
    { word := fun a => ws.getD a 0
      bound := fun a => let b := (p.tabAt (tabLoop c a)).toNat; if b = 0 then none else some (b - 1)
      scratch := p.ownsScratch c, handler := some 0, inHandler := true }
  let unknown : List (Option Word) := List.replicate 16 none
  let h := worstCycles env (limit + 1) ⟨(t.rd (Reg.LPE_IVEC c)).toNat % 16384, unknown, []⟩
  let g := if type = 0 then List.replicate 16 (some 0) else unknown.set 3 (some (w32 type))
  match worstCycles { env with handler := h, inHandler := false } (limit + 1)
      ⟨(t.rd (Reg.LPE_ENTRY c)).toNat % 16384, g, []⟩ with
  | none => true
  | some n => decide (limit < n)

/-- A source of a core: type, items per period n, period in ticks, item size rounded up to 16, budget (R308, R322). -/
structure LpeSource where
  type : Nat
  n : Nat
  period : Nat
  q : Nat
  budget : Nat
  deriving DecidableEq, Repr

/-- Zones that hand their features to a core. -/
def State.coreZones (t : State) (c : Nat) : List Zone :=
  t.usedZones.filter (fun z => z.ctrl.get zLPE == 1 && z.cores / 2 ^ c % 2 == 1)

/-- Chain channels a core selects. -/
def State.coreChans (t : State) (c : Nat) : List Nat :=
  ((List.range 8).filter (fun i => (t.rd (Reg.LPE_CHAN_SEL c i)).get Fd.LPE_CHAN_SEL_EN == 1)).map
    (fun i => (t.rd (Reg.LPE_CHAN_SEL c i)).toNat % 1024)

/-- The sources of a core: one for its zones, one for each selected channel, one for its timer. -/
def State.coreSources (t : State) (c : Nat) : List LpeSource :=
  let bz := (t.rd (Reg.LPE_BUD_ZONE c)).toNat % 2 ^ 24
  let bc := (t.rd (Reg.LPE_BUD_CHAN c)).toNat % 2 ^ 24
  let bt := (t.rd (Reg.LPE_BUD_TMR c)).toNat % 2 ^ 24
  let zs := t.coreZones c
  let blk := t.rf (Reg.LPE_CHAN_BLK c) Fd.LPE_CHAN_BLK_BLK
  let tper := (t.rd (Reg.LPE_TPER c)).toNat
  (if bz = 0 ∨ zs = [] then []
    else [⟨1, zs.length, 2 ^ t.rf Reg.PSS_CHAIN_CFG Fd.PSS_CHAIN_CFG_INT_EXP * t.shotPeriod, 48, bz⟩]) ++
  (if bc = 0 then [] else (t.coreChans c).map (fun ch => ⟨2, 1, blk * t.chanPeriod ch, 16 * ceilDiv (32 + 4 * blk) 16, bc⟩)) ++
  (if bt = 0 ∨ tper = 0 then [] else [⟨3, 1, tper, 16, bt⟩])

/-- Sum of fractions, as numerator and denominator. -/
def sumFrac : List (Nat × Nat) → Nat × Nat
  | [] => (0, 1)
  | (a, b) :: l => let r := sumFrac l; (a * r.2 + r.1 * b, b * r.2)

/-- A core's checks fail (R322). -/
def State.coreBad (t : State) (p : Plan) (c : Nat) : Bool :=
  let src := t.coreSources c
  let qsize := (t.rd (Reg.LPE_QSIZE c)).toNat
  let rate := sumFrac ((src.filter (fun e => e.period != 0)).map (fun e => (e.n * tickHz * (e.budget + 24), e.period)))
  let tmin := (src.map LpeSource.period).foldl min (2 ^ 64)
  let ws := (p.prog c).zipIdx
  decide (16384 < p.progLen c) || decide (131072 < p.dataLen c + qsize) || decide (8192 < p.lRep c) ||
    decide (773437500 * rate.2 < rate.1) || decide (qsize < (src.map (fun e => e.n * e.q)).sum) ||
    (src != [] && decide (4 * tmin < 5 * (src.map (fun e => e.n * (e.budget + 24))).sum)) ||
    (p.progLen c != 0 && (
      ws.any (fun e =>
        let op := insF e.1 26 6
        (op == 0x29 || (decide (0x20 ≤ op) && decide (op ≤ 0x24) && decide (insS e.1 0 18 ≤ 0))) &&
          p.tabAt (tabLoop c e.2) == 0) ||
      t.pathOver p c 0 65536 ||
      [1, 2, 3].any (fun k => match src.find? (fun e => e.type == k) with
        | some e => t.pathOver p c k e.budget
        | none => false)))

/-- PLAN_LOUPE. -/
def State.loupeFail (t : State) (p : Plan) : Found :=
  firstFound (fun c => failAt (t.coreBad p c) 10 c) (List.range 16)

/-! ### PLAN_REF -/

/-- The boundary at which a live field acts under the plan; 0 for a field that may not be live (R107, R136, R193, R219,
R266, R294, R490). The field is named by its register and its exact bits. -/
def State.liveBoundary (t : State) (e : LiveEnt) : Nat :=
  let a := 0x1000 * e.page + e.off
  let is (r : Nat) (f : Fld) : Bool := a == r && e.lsb == f.lsb && e.width == f.width
  let any (n : Nat) (r : Nat → Nat) (f : Fld) : Bool := (List.range n).any (fun i => is (r i) f)
  let main := t.mainBoundary
  if is Reg.OFE_DAC_FS Fd.OFE_DAC_FS_FS || is Reg.OFE_RECAL_CFG Fd.OFE_RECAL_CFG_DT ||
      is Reg.OFE_RECAL_CFG Fd.OFE_RECAL_CFG_PERIOD || is Reg.FEN_RVS_CFG Fd.FEN_RVS_CFG_BETA ||
      is Reg.FEN_FADE_CFG Fd.FEN_FADE_CFG_THR || is Reg.FEN_NOISE ⟨0, 32⟩ || any 16 Reg.FEN_PB_CFG Fd.FEN_PB_CFG_DECIM_EXP ||
      is Reg.PSS_CHAIN_CFG Fd.PSS_CHAIN_CFG_FREEZE || any 64 Reg.ZON_THR_SHOT Fd.ZON_THR_SHOT_THR ||
      any 64 Reg.ZON_THR_SHOT Fd.ZON_THR_SHOT_HYS || any 64 Reg.ZON_THR_INT Fd.ZON_THR_INT_THR ||
      any 64 Reg.ZON_THR_INT Fd.ZON_THR_INT_HYS then 1
  else if (List.range 256).any (fun k => is (Reg.SPLN_STALE_CFG (k / 4) (k % 4)) Fd.SPLN_STALE_CFG_STALE) then 1
  else if any 64 Reg.FCH_CFG Fd.FCH_CFG_RANGE || any 64 Reg.FCH_CFG Fd.FCH_CFG_AUTO then 2
  else if is Reg.FLT_THR_A ⟨0, 32⟩ || is Reg.FLT_THR_B ⟨0, 32⟩ || is Reg.FLT_THR_HYS ⟨0, 32⟩ ||
      is Reg.FLT_CH_CFG Fd.FLT_CH_CFG_FREEZE then (if e.boundary = 3 then 3 else 2)
  else if (List.range 512).any (fun k => is (Reg.DRP_CH_CFG (k / 32) (k % 32)) Fd.DRP_CH_CFG_EN) then 3
  else if any 32 Reg.SCUN_CFG Fd.SCUN_CFG_ARM || any 8 Reg.SHB_SCHED_AT ⟨0, 32⟩ || any 8 Reg.SHB_SCHED_CFG Fd.SHB_SCHED_CFG_EN
    then main
  else 0

/-- A LIVE entry fails (R41). -/
def State.liveBad (t : State) (e : LiveEnt) : Bool :=
  let b := t.liveBoundary e
  let top := 2 ^ e.width
  b == 0 || e.boundary == 0 || decide (3 < e.boundary) || e.boundary != b ||
    (if e.isTime then e.min != 0 || e.max.toNat != top - 1
     else if e.isF32 then !f32Le e.min e.init || !f32Le e.init e.max
     else !(decide (e.min.toNat ≤ e.init.toNat) && decide (e.init.toNat ≤ e.max.toNat)) || decide (top ≤ e.max.toNat))

/-- A source of class, index and kind with an enabled output, and the section and entry that enable it. -/
structure Producer where
  cls : Nat
  idx : Nat
  kind : Nat
  sec : Nat
  ent : Nat
  deriving DecidableEq, Repr

/-- Streams that a core's program names in EMIT, and 255 for OVERRUN (R310, R311). -/
def Plan.coreStreams (p : Plan) (c : Nat) : List Nat :=
  if p.progLen c = 0 then []
  else 255 :: ((p.prog c).filter (fun w => insF w 26 6 == 0x30)).map (fun w => insF w 10 8)

/-- The enabled outputs of a plan's producers (R294). -/
def State.producers (t : State) (p : Plan) : List Producer :=
  (if t.fenActive then
    ((List.range 16).filter (fun n => (t.rd (Reg.FEN_PB_COUNT n)).toNat != 0)).map (fun n => ⟨2, n, 0x2, 2, n⟩) ++
    ((List.range 16).filter (fun n => (t.rd (Reg.PSS_CS_COUNT n)).toNat != 0)).map (fun n => ⟨2, 16 + n, 0x3, 3, n⟩)
   else []) ++
  (t.usedZones.filter (fun z => z.ctrl.get zOUT == 1)).map (fun z => ⟨1, z.z, 0xD, 3, z.z⟩) ++
  (if t.rmnActive then [⟨3, 0, 0x9, 4, 0⟩] else []) ++
  (chainNumbers t).flatMap (fun c =>
    let idx := if c < 64 then c else c - 64
    (if (t.rd (copyKey Reg.FLT_CH_OUT c)).get Fd.FLT_CH_OUT_SPC = 0 then [] else [⟨chainClass c, idx, 0x1, 6, c⟩]) ++
    (if (t.rd (copyKey Reg.ENV_CH_CFG c)).get Fd.ENV_CH_CFG_N = 0 then [] else [⟨chainClass c, idx, 0x4, 8, c⟩])) ++
  ((List.range 16).filter (fun P => t.drpN P != 0 && t.flag (Reg.DRP_STAT_CFG P) Fd.DRP_STAT_CFG_EN)).map
    (fun P => ⟨5, 512 + P, 0xB, 7, P⟩) ++
  ((List.range 32).filter (fun u => t.capTap u != 0)).map (fun u => ⟨6, u, 0x5, 8, u⟩) ++
  (List.range 16).flatMap (fun c => (p.coreStreams c).map (fun st => ⟨7, 256 * c + st, 0x8, 10, c⟩))

/-- The producer code of RES 0x04 that writes a source's items into spool memory (R40). -/
def Producer.code (e : Producer) : Nat :=
  if e.cls = 2 ∧ e.kind = 2 then 0x00 else if e.cls ≤ 2 then 0x01 else if e.cls = 3 then 0x02
  else if e.kind = 0xB then 0x04 else if e.cls ≤ 5 then 0x03 else if e.cls = 6 then 0x20 + e.idx else 0x06

/-- An enabled output, TRIGGER marks of a lane's lines or the system records of a plan find no write share (R40): the
section and entry that enable them. -/
def State.shareFail (t : State) (p : Plan) : Found :=
  firstFound (fun (e : Producer) => failAt (p.share 4 e.code == 0) e.sec e.ent) (t.producers p)
  <|> firstFound (fun (e : LaneEnt × Nat) =>
    failAt (p.spoolUsed (e.2 / 4) && e.1.lines % 65536 != 0 && p.share 4 0x05 == 0) 9 (64 + e.2)) p.lanes.zipIdx
  <|> failAt (p.sysLanes != [] && p.share 4 0x07 == 0) 11 0

/-- Lines that enabled sources, masks and outputs name (R246), with the section and entry that name them. -/
def State.lineUses (t : State) (p : Plan) : List (Nat × Nat × Nat) :=
  let bitsOf (m : Nat) : List Nat := (List.range 16).filter (fun n => m / 2 ^ n % 2 == 1)
  let one (b : Bool) (l sec ent : Nat) : List (Nat × Nat × Nat) := if b then [(l, sec, ent)] else []
  (List.range 4).flatMap (fun n =>
    let i := t.rd (Reg.SHB_IN_CFG n)
    let o := t.rd (Reg.SHB_OUT_CFG n)
    one (i.get Fd.SHB_IN_CFG_EN == 1) (i.get Fd.SHB_IN_CFG_LINE) 8 n ++
      one (o.get Fd.SHB_OUT_CFG_EN == 1) (o.get Fd.SHB_OUT_CFG_LINE) 8 n) ++
  (List.range 128).flatMap (fun i =>
    one (Word.bit (t.rd (Reg.SHB_CMP_EN (i / 32))) (i % 32)) ((t.rd (Reg.SHB_CMP_LINE (i / 8))).get ⟨4 * (i % 8), 4⟩) 8 i) ++
  t.usedZones.flatMap (fun z =>
    one (z.ctrl.get zSEN == 1) (z.ctrl.get zSLINE) 3 z.z ++ one (z.ctrl.get zIEN == 1) (z.ctrl.get zILINE) 3 z.z) ++
  (List.range 576).flatMap (fun c =>
    let w := t.rd (copyKey Reg.FLT_THR_CFG c)
    one (w.get Fd.FLT_THR_CFG_A_EN == 1) (w.get Fd.FLT_THR_CFG_A_LINE) 6 c ++
      one (w.get Fd.FLT_THR_CFG_B_EN == 1) (w.get Fd.FLT_THR_CFG_B_LINE) 6 c) ++
  (List.range 16).flatMap (fun P =>
    ((List.range 16).filter (fun e => Word.bit (t.rd (Reg.DRP_EVT_EN P)) e)).map (fun e =>
      ((t.rd (if e < 8 then Reg.DRP_EVT_LINE0 P else Reg.DRP_EVT_LINE1 P)).get ⟨4 * (e % 8), 4⟩, 7, P))) ++
  (List.range 8).flatMap (fun k =>
    let w := t.rd (Reg.SHB_SCHED_CFG k)
    one (w.get Fd.SHB_SCHED_CFG_EN == 1 || (p.liveFor (Reg.SHB_SCHED_CFG k) Fd.SHB_SCHED_CFG_EN).isSome)
      (w.get Fd.SHB_SCHED_CFG_LINE) 8 k) ++
  (List.range 32).flatMap (fun u =>
    if t.capTap u = 0 then [] else (bitsOf (t.rf (Reg.SCUN_CFG u) Fd.SCUN_CFG_LINES)).map (fun l => (l, 8, u))) ++
  (p.lanes.zipIdx).flatMap (fun e =>
    if p.spoolUsed (e.2 / 4) then (bitsOf e.1.lines).map (fun l => (l, 9, 64 + e.2)) else []) ++
  (List.range 16).flatMap (fun n =>
    let w := t.rd (Reg.SHB_LINE_CFG n)
    one (w.get Fd.SHB_LINE_CFG_PART_EN == 1) (w.get Fd.SHB_LINE_CFG_PART_LINE) 8 n) ++
  (let w := t.rd Reg.FLT_SYNC_CFG
   one (w.get Fd.FLT_SYNC_CFG_LINE_EN == 1) (w.get Fd.FLT_SYNC_CFG_LINE) 6 0)

/-- A used unit refers to what its tap does not have (R267). -/
def State.unitRefBad (t : State) (u : Nat) : Bool :=
  let first := t.rf (Reg.SCUN_SEL u) Fd.SCUN_SEL_FIRST
  let num := t.capNum u
  let top := nth [0, 8, 8, 64] (t.capTap u) 0
  let cs := (List.range num).map (fun i => first + i)
  t.capTap u != 0 && (num == 0 || decide (top < num) ||
    (t.capTap u == 1 && cs.any (fun c => decide (63 < c) || t.conn c == 0)) ||
    (t.capTap u == 2 && cs.any (fun c => decide (575 < c) || !t.hasChain c)) ||
    (t.capTap u == 3 && (beyond t.fenN first num || decide (t.fenN ≤ t.rf (Reg.SCUN_REF u) Fd.SCUN_REF_P_REF))))

/-- References of chain channel `c` (R219, R267). -/
def State.chainRefBad (t : State) (p : Plan) (c : Nat) : Bool :=
  let lc := t.rd (copyKey Reg.LIN_LCFG c)
  let env := t.rd (copyKey Reg.ENV_CH_CFG c)
  (t.hasChain c && t.chNotch c && p.tabAt (tabNotchDef ((t.chCfg c).get Fd.FLT_CH_CFG_NOTCH_CLASS)) == 0) ||
    (t.hasChain c && lc.get Fd.LIN_LCFG_TSRC == 2 && !t.hasChain (lc.get Fd.LIN_LCFG_TCH)) ||
    (env.get Fd.ENV_CH_CFG_N != 0 && (!t.hasChain c || env.get Fd.ENV_CH_CFG_EPR == 0))

/-- References of a Loupe core (R135, R322). -/
def State.coreRefBad (t : State) (p : Plan) (c : Nat) : Bool :=
  let blk := t.rf (Reg.LPE_CHAN_BLK c) Fd.LPE_CHAN_BLK_BLK
  let tper := (t.rd (Reg.LPE_TPER c)).toNat
  let bc := (t.rd (Reg.LPE_BUD_CHAN c)).toNat % 2 ^ 24
  let chans := t.coreChans c
  (p.progLen c == 0 && (t.coreZones c != [] || t.coreSources c != [])) || chans.any (fun ch => !t.hasChain ch) ||
    (bc != 0 && chans != [] && (blk == 0 || decide (256 < blk))) || (tper != 0 && decide (tper < 10313))

/-- PLAN_REF. -/
def State.refFail (t : State) (p : Plan) : Found :=
  let defined (l : Nat) : Bool := t.flag (Reg.SHB_LINE_CFG l) Fd.SHB_LINE_CFG_EN
  p.rangeFail 0x300F
  <|> firstFound (fun (e : LiveEnt × Nat) => failAt (t.liveBad e.1) 12 e.2) p.live.zipIdx
  <|> firstFound (fun (e : RouteEnt × Nat) =>
    failAt (e.1.count != 0 && (!p.spoolUsed (e.1.dest % 64) || (e.1.dest2En && !p.spoolUsed (e.1.dest2 % 64)))) 9
      (320 + e.2)) p.routes.zipIdx
  <|> firstFound (fun u => failAt (t.unitRefBad u) 8 u) (List.range 32)
  <|> firstFound (fun c => failAt (t.chainRefBad p c) 6 c) (List.range 576)
  <|> failAt (t.rf Reg.FLT_BAND_CFG Fd.FLT_BAND_CFG_SRC == 2 &&
    !t.hasChain (t.rf Reg.FLT_BAND_CFG Fd.FLT_BAND_CFG_BAND_CH)) 6 0
  <|> failAt (t.rmnP != 0 && t.conn ((t.rd Reg.TMP_REF_CH).toNat % 64) == 0) 4 0
  <|> firstFound (fun c => failAt (t.coreRefBad p c) 10 c) (List.range 16)
  <|> firstFound (fun (e : Nat × Nat × Nat) => failAt (!defined e.1) e.2.1 e.2.2) (t.lineUses p)
  <|> firstFound (fun (e : Producer) => failAt ((findRoute p e.cls e.idx e.kind).isNone) e.sec e.ent) (t.producers p)

/-! ### PLAN_PAIR (R55, R152, R401) and PLAN_START -/

/-- Forwarded bits per second over 23,000 Mb/s: Z, Raman samples and field results, or field results and node samples. -/
def State.feedOver (t : State) (p : Plan) : Bool :=
  let sp := p.shotPeriod
  let fibre : Nat × Nat :=
    if sp = 0 then (0, 1)
    else ((if t.fenActive then t.fenN * nth [1, 2, 4, 4] t.fenMode 1 * 32 * tickHz * t.rmnStride else 0) +
      (if t.rmnActive then t.rmnP * 24 * tickHz else 0), sp * t.rmnStride)
  let chans := ((List.range 64).filter (fun n => t.conn n != 0)).length
  let field : Nat × Nat := if p.fieldTick = 0 then (0, 1) else (32 * chans * tickHz, p.fieldTick)
  let words := ((List.range 16).map (fun P => if t.drpN P = 0 then 0 else ((t.portSlots P).map (t.portSpf P)).sum)).sum
  let node : Nat × Nat := if p.superframe = 0 then (0, 1) else (32 * words * tickHz, p.superframe)
  let ovf (x : Nat × Nat) : Bool := decide (23000000000 * x.2 < x.1)
  ovf (sumFrac [fibre, field]) || ovf (sumFrac [field, node])

/-- PLAN_PAIR. -/
def State.pairFail (s t : State) (p : Plan) (slot : Nat) : Found :=
  let da := t.dRx + t.fenA + 4125
  let partner := s.pai.pSlots.map (fun x => if slot = 0 then x.1 else x.2.1)
  failAt ((p.flags % 2 == 1) != s.isPair) 0 0
  <|> failAt (match partner with
    | some (st, d) => s.isPair && s.hasStandby && (st == 4 || st == 5) && d != p.digest
    | none => false) 0 0
  <|> failAt (p.flags % 2 == 1 && (t.feedOver p || (p.shotPeriod != 0 &&
    (decide (p.guardT < da) || (t.fenMode == 3 && decide (p.shotPeriod / 4 ≤ da)))))) 1 0

/-- PLAN_START: the loaded sections exceed 2 MiB. -/
def startOver (img : List Byte) : Bool :=
  decide (2 * 2 ^ 20 < (((planSections img).filter (fun e => e.type != 13)).map Sect.length).sum)

/-! ### All checks -/

/-- A state with a plan's tables in ungated blocks, on which the plan's figures are read. -/
def State.trial (s : State) (p : Plan) : State :=
  let t := ({ s with regs := NMap.erase (gateReg 0) (NMap.erase (gateReg 1) (NMap.erase (gateReg 2) s.regs)),
                      clk := { s.clk with gates := [0, 0, 0] },
                      units := [] }).install p
  t.wr Reg.LPC_LOADED p.loadedCores

/-- A failing commit check: its code, the directory index of the section, and the entry (R43). -/
structure CheckFail where
  code : Nat
  sec : Nat
  entry : Nat
  deriving DecidableEq, Repr

/-- Directory index of a section type; 0 where the plan has none. -/
def sectIndex (img : List Byte) (t : Nat) : Nat := ((planSections img).findIdx? (fun e => e.type == t)).getD 0

/-- The commit checks on an image in a slot, in table order; none where all pass (R43). -/
def State.commitCheck (s : State) (slot : Nat) (img : List Byte) : Option CheckFail :=
  if formatBad img then some ⟨0x3001, 0, 0⟩
  else if targetBad img then some ⟨0x3002, 0, 0⟩
  else if lengthBad img then some ⟨0x3003, 0, 0⟩
  else if digestBad img then some ⟨0x3004, 0, 0⟩
  else if s.sigBad img then some ⟨0x3005, 0, 0⟩
  else
    match sectionFail img with
    | some e => some ⟨0x3006, e.1, e.2⟩
    | none =>
      let p := parsePlan img
      let t := s.trial p.liveInit
      let named (code : Nat) (f : Found) : Option CheckFail := f.map (fun e => ⟨code, sectIndex img e.1, e.2⟩)
      named 0x3007 (t.shotFail p) <|> named 0x3008 (if waveOver img then some (2, 0) else t.fibreFail p) <|> named 0x3009 (t.zoneFail p) <|>
        named 0x300A (t.fieldFail p) <|> named 0x300B (t.nodeFail p) <|> named 0x300C (s.memoryFail t p <|> t.shareFail p) <|>
        named 0x300D (s.uplinkFail p) <|> named 0x300E (t.loupeFail p) <|> named 0x300F (t.refFail p) <|>
        named 0x3010 (s.pairFail t p slot) <|> (if startOver img then some ⟨0x3011, 0, 0⟩ else none)

/-- HDR_CRC holds, and the CRC of each of the sections `which` names by type (R48). -/
def loadCheck (which : Nat → Bool) (img : List Byte) : Bool :=
  decide (160 ≤ img.length) && fieldAt img 0x9C 4 == crc32c (img.take 0x9C) &&
    decide (160 + 16 * (planSections img).length ≤ img.length) &&
    (planSections img).all (fun e => !which e.type ||
      (decide (e.offset + e.length ≤ img.length) && crc32c (e.bytes img) == e.crc))

/-- The check at a plan's start (R48): HDR_CRC and the CRC of each loaded section. -/
def startCheck (img : List Byte) : Bool := loadCheck (fun t => t != 13) img

end Sys2Proof.Machine
end

