-- ==== Sys2Proof/Machine/Plan.lean ====
section
/-!
DEFINITION. Plan commands: the start of a plan, transfers, commits, switches, aborts and erasure (R42 to R48, R55, R360), and
live values at their boundaries (R51).
-/

namespace Sys2Proof.Machine

/-! ### Start -/

/-- A plan start failed (R48). -/
def State.startFailed (s : State) (slot : Nat) : State :=
  (s.err 0x0 Err.PLAN_START_FAIL).logFault Err.PLAN_START_FAIL 0x0 slot

/-- Plan load begins (R427): the FIBRE section of the plan to start comes first, and its head script runs (R76). -/
def State.beginLoad (s : State) : State :=
  match s.plansToLoad with
  | [] => s
  | i :: _ =>
    let img := (s.slot i).image
    if s.sys.planDone || !loadCheck (fun t => t == 2) img then s
    else
      let p := (parsePlan img).liveInit
      let ofe := p.regs.filter (fun e => e.1 / 0x1000 == 0x10)
      ({ s with regs := ofe.foldl (fun m (e : Nat × Word) => NMap.set resetWord m e.1 e.2) s.regs
                pln := { s.pln with loading := some (i, p) } }).startScript.lasUpdate

/-- A plan that was loading does not start: its head script ends, and LAS_EN falls (R48, R67). -/
def State.dropLoad (s : State) : State :=
  if s.pln.loading.isNone then s
  else { s with pln := { s.pln with loading := none }, ofe := { s.ofe with script := [] } }.lasUpdate

/-- FIRMWARE_LOADED: the loader ends step 4 of the start; settings and keys are in place, calibrations and the plan load
begin, FIBRE first (R427, R458); a hub that is not one of a pair settles its role (R77). Safelight loads no plan. -/
def opFirmwareLoaded (good readable : Bool) (ver : Word) (fmt : Nat) (s : State) : State :=
  if s.sys.step ≠ 3 then s
  else
    let s1 := s.loadImage good readable ver fmt
    let s2 := { s1 with sys := { s1.sys with step := 5, planDone := s1.sys.planDone || decide (s1.recordSlot = none) } }
    let s3 := (if s2.flag Reg.SYS_STAT Fd.SYS_STAT_STRAP_PAIR then s2 else s2.setOsw true).takeAddress.beginLoad
    let s4 := iter 8 (fun c (a : State) => a.setConv c 2 true) s3
    ((s4.wf Reg.OFE_STAT Fd.OFE_STAT_CAL_BUSY 1).wf Reg.FLD_STAT Fd.FLD_STAT_CAL_BUSY 1).checkReady

def execFirmwareLoaded (good readable : Bool) (ver : Word) (fmt : Nat) (s : State) : Host.Outcome State Fault Refusal :=
  ok (opFirmwareLoaded good readable ver fmt s)

/-- Start the first of the slots whose image passes; with none, no plan runs (R48). -/
def State.startFirst (s : State) : List Nat → State
  | [] => ({ s.dropLoad with sys := { s.dropLoad.sys with planDone := true } }).checkReady
  | i :: rest =>
    let img := (s.slot i).image
    if startCheck img then s.startPlan (parsePlan img) i (epochFrom (s.ltc.toNat + 4000))
    else (s.dropLoad.startFailed i).startFirst rest

/-- PLAN_LOAD_DONE: the plan of the activation record starts, or the other committed one, or none (R48). -/
def opPlanLoadDone (s : State) : State :=
  if s.sys.step < 5 ∨ s.sys.planDone then s
  else
    match s.recordSlot with
    | none => s.startFirst []
    | some i =>
      let c := s.plansToLoad
      (if c.head? = some i then s else s.startFailed i).startFirst c

def execPlanLoadDone (s : State) : Host.Outcome State Fault Refusal := ok (opPlanLoadDone s).flushTrig

/-! ### Transfers -/

/-- PLAN_ACK (R360): SLOT, STATE, STATUS, NEXT. -/
def State.planAck (s : State) (slot status : Nat) : List Byte :=
  let p := s.slot slot
  by1 slot ++ by1 (if slot ≤ 1 then p.state else 0) ++ by1 status ++ by1 0 ++ le4 (if slot ≤ 1 then p.image.length else 0)

/-- PLAN_DATA: image bytes at OFFSET for a slot (R360). -/
def opPlanData (m : SlzMsg) (s : State) : State :=
  s.slzReceive 0x30 m (fun b => decide (8 ≤ b.length) && (sliceB b 1 3).all (· == 0)) (fun (a : State) =>
    let slot := byteAt m.body 0
    let off := fieldAt m.body 4 4
    let dat := m.body.drop 8
    let p := a.slot slot
    let refuse (b : State) (st : Nat) : State × Nat × List Byte := (b, 0xB0, b.planAck slot st)
    if 2 ≤ a.role then refuse a 5
    else if m.ctx ≠ 0 then refuse a 4
    else if 1 < slot ∨ 16777216 < off + dat.length then refuse a 3
    else if p.state = 3 ∨ p.state = 5 ∨ p.state = 7 then refuse (a.err 0x3 Err.PLAN_SLOT) 6
    else if off ≠ 0 ∧ off ≠ p.image.length then refuse a 6
    else
      let b := a.setSlot slot ⟨1, if off = 0 then [] else p.image⟩
      let x : Xfer := ⟨slot, off, dat, decide (m.flags / 4 % 2 = 1), m.ctx, m.seq⟩
      ({ b with pln := { b.pln with xfers := b.pln.xfers ++ [x] } }, 0, []))

def execPlanData (m : SlzMsg) (s : State) : Host.Outcome State Fault Refusal := ok (opPlanData m s)

/-- PLAN_DATA_WRITTEN: the oldest transfer's bytes are in flash; the active hub of a pair forwards them (R55, R360). -/
def opPlanDataWritten (s : State) : State :=
  match s.pln.xfers with
  | [] => s
  | x :: rest =>
    let s1 := { s with pln := { s.pln with xfers := rest } }
    let st := (s1.slot x.slot).state
    if st = 3 ∨ st = 5 ∨ st = 7 then s1.answer x.ctx x.seq 0xB0 (s1.planAck x.slot 6)
    else
    let img := ((s1.slot x.slot).image.take x.offset) ++ x.data
    let s2 := s1.setSlot x.slot ⟨if x.last then 2 else 1, img⟩
    let s3 := if s2.hasStandby then s2.sendLane 1 7 (.bulk (.plan x.slot x.offset x.data x.last)) else s2
    s3.answer x.ctx x.seq 0xB0 (s3.planAck x.slot 0)

def execPlanDataWritten (s : State) : Host.Outcome State Fault Refusal := ok (opPlanDataWritten s)

/-! ### PLN.CMD -/

/-- A plan command of another context, or one that the slot's state does not permit (R42, R44). -/
def State.planOwner (s : State) : State := s.err 0x3 Err.PLAN_OWNER
def State.planSlotErr (s : State) : State := s.err 0x3 Err.PLAN_SLOT

/-- The word of PLN.CMD for the copy to the standby (R55). -/
def plnWord (op slot : Nat) (at_ : Bool) : Word := w32 (op + 256 * slot + 512 * b2n at_)

/-- The command stands: the copy carries it to the standby, which performs it too (R55, R389). -/
def State.copyPln (s : State) (op slot : Nat) (at_ : Bool) : State :=
  s.copyItem (.write (.ctx 0) Reg.PLN_CMD (plnWord op slot at_))

/-- Change the state code of a slot. -/
def State.slotTo (s : State) (i st : Nat) : State := s.setSlot i { s.slot i with state := st }

/-- COMMIT: a LOADED slot is checked (R43). -/
def opPlnCommit (ctx slot : Nat) (s : State) : State :=
  if ctx ≠ 0 then s.planOwner
  else if (s.slot slot).state ≠ 2 then s.planSlotErr
  else
    let s1 := s.slotTo slot 3
    { s1 with pln := { s1.pln with checking := some (s1.pln.checking.getD slot) } }.copyPln 1 slot false

def execPlnCommit (ctx : Fin 4) (slot : Bool) (s : State) : Host.Outcome State Fault Refusal :=
  ok (opPlnCommit ctx.val (b2n slot) s)

/-- State code and BODY_DIGEST of a slot. -/
def State.slotDigest (s : State) (i : Nat) : Nat × List Byte := ((s.slot i).state, sliceB (s.slot i).image 0x28 32)

/-- The hubs of a pair tell each other how their slots stand (R55). -/
def State.sendSlots (s : State) : State :=
  if s.isPair && decide (1 ≤ s.role) && decide (s.role ≤ 2) then
    s.sendLane 1 7 (.bulk (.slots (s.slotDigest 0) (s.slotDigest 1) (s.pln.run.map (fun _ => s.pln.slot))))
  else s

/-- COMMIT_CHECK_DONE: the slot is COMMITTED or REJECTED, and PLN.RESULT says why (R43). -/
def opCommitCheckDone (s : State) : State :=
  match s.pln.checking with
  | none => s
  | some i =>
    let s1 := { s with pln := { s.pln with checking := if (s.slot (1 - i)).state = 3 then some (1 - i) else none } }
    let s2 := match s.commitCheck i (s.slot i).image with
      | none => ((s1.slotTo i 4).wr Reg.PLN_RESULT 0).wr Reg.PLN_RESULT_ENTRY 0
      | some f =>
        (((s1.slotTo i 6).wr Reg.PLN_RESULT (w32 (f.code + 65536 * (f.sec % 16)))).wr Reg.PLN_RESULT_ENTRY
          (w32 f.entry)).err 0x3 f.code
    s2.sendSlots

def execCommitCheckDone (s : State) : Host.Outcome State Fault Refusal := ok (opCommitCheckDone s)

/-- The standby's slot holds the same committed image (R55); without a standby in sync the hub is alone. -/
def State.partnerReady (s : State) (slot : Nat) : Bool :=
  if s.role = 1 ∧ s.syncState = 3 then
    match s.pai.pSlots with
    | none => false
    | some x => (if slot = 0 then x.1 else x.2.1) == (4, (s.slotDigest slot).2)
  else true

/-- A standby in sync performs a switch together with its partner; a hub whose standby is not in sync switches alone
(R55). -/
def State.switchCopied (s : State) (op slot : Nat) (at_ : Bool) : State :=
  if s.syncState = 3 then s.copyPln op slot at_ else s

/-- SWITCH: a COMMITTED plan is loaded into the shadow tables (R45, R55, R286). DESIGN CHOICE (log 140): while another
switch is pending it is refused with PLAN_SLOT. -/
def opPlnSwitch (ctx slot : Nat) (at_ : Bool) (s : State) : State :=
  if ctx ≠ 0 then s.planOwner
  else if (s.slot slot).state ≠ 4 ∨ s.pln.target.isSome then s.planSlotErr
  else if !s.partnerReady slot then s.err 0x3 Err.PLAN_PAIR
  else if s.switchBarred (parsePlan (s.slot slot).image) then s.err 0x3 Err.PLAN_MEMORY
  else
    let s1 := s.slotTo slot 7
    ({ s1 with pln := { s1.pln with target := some (slot, at_), shadow := none, swFrom := none, instant := none } }.wakeFor
      (parsePlan (s.slot slot).image)).switchCopied 2 slot at_

def execPlnSwitch (ctx : Fin 4) (slot useAt : Bool) (s : State) : Host.Outcome State Fault Refusal :=
  ok (opPlnSwitch ctx.val (b2n slot) useAt s)

/-- A switch is given up: the slot is COMMITTED again and the old plan runs on (R46). -/
def State.dropSwitch (s : State) : State :=
  match s.pln.target with
  | none => s
  | some (i, _) =>
    let s1 := (s.slotTo i 4).retain (s.freeBanks (s.rd Reg.MEM_BALLAST))
    { s1 with pln := { s1.pln with target := none, shadow := none, swFrom := none, instant := none } }

/-- SHADOW_LOAD_DONE: the shadow tables are loaded, or the switch is abandoned with the code of the check that failed (R45,
R46). Without boundaries in the old plan the instant follows at once, and a standby takes that of its partner; in a pair the
boundary lies a shot end and 4,125 ticks away. -/
def opShadowLoadDone (good : Bool) (s : State) : State :=
  match s.pln.target with
  | none => s
  | some (i, at_) =>
    if s.pln.shadow.isSome ∨ s.pln.instant.isSome then s
    else
      let img := (s.slot i).image
      if !loadCheck (fun _ => false) img then (s.dropSwitch).err 0x3 Err.PLAN_FORMAT
      else if !good || !startCheck img then (s.dropSwitch).err 0x3 Err.PLAN_SECTION
      else if s.switchBarred (parsePlan img) then (s.dropSwitch).err 0x3 Err.PLAN_MEMORY
      else
        let s1 := { s with pln := { s.pln with shadow := some (parsePlan img) } }
        let inSync := s1.role = 1 ∧ s1.syncState = 3
        if s1.role = 2 then s1
        else if s1.mainBoundary = 0 then
          let s2 := { s1 with pln := { s1.pln with instant := some (epochFrom s1.ltc.toNat) } }
          if inSync then s2.copyItem (.switchAt s1.ltc) else s2
        else if inSync ∧ !at_ then
          { s1 with pln := { s1.pln with swFrom := some s1.changeFrom } }.copyItem (.switchAt s1.changeFrom)
        else { s1 with pln := { s1.pln with swFrom := some s1.ltc } }

def execShadowLoadDone (good : Bool) (s : State) : Host.Outcome State Fault Refusal := ok (opShadowLoadDone good s)

/-- At a boundary of the old schedule: the switch instant is chosen when the boundary is the one R45 names. -/
def State.switchBoundary (s : State) : State :=
  match s.pln.target with
  | none => s
  | some (_, at_) =>
    let ready := s.pln.shadow.isSome || s.role == 2
    let from_ := if at_ then decide (0 ≤ tsDiff s.now (s.rd Reg.PLN_SWITCH_AT)) && (s.pln.swFrom.isSome || s.role == 2)
      else match s.pln.swFrom with
        | some t => decide (t.toNat ≤ s.ltc.toNat)
        | none => false
    if s.pln.instant.isNone && ready && from_ then
      { s with pln := { s.pln with instant := some (epochFrom s.ltc.toNat) } }
    else s

/-- The old schedule has ended: its boundary was chosen (R45). -/
def State.ending (s : State) : Bool := s.pln.instant.isSome

/-- SWITCH_INSTANT (R45): the new plan takes over; with no plan running it starts here. -/
def opSwitchInstant (s : State) : State :=
  match s.pln.target, s.pln.instant with
  | some (i, _), some t =>
    let s1 := s.advance t
    let p := s1.pln.shadow.getD (parsePlan (s1.slot i).image)
    match s1.pln.run with
    | some _ => (s1.switchTo p i t).checkReady
    | none =>
      let s2 := { s1 with pln := { s1.pln with target := none, shadow := none, swFrom := none, instant := none, recordDue := true } }
      let s3 := (s2.startPlan p i t).sysMark 3 t p.id 0
      (s3.wr64 Reg.PLN_SWITCH_LTC_LO Reg.PLN_SWITCH_LTC_HI t.toNat).countMod Reg.PLN_SWITCH_COUNT
  | _, _ => s

def execSwitchInstant (s : State) : Host.Outcome State Fault Refusal := ok (opSwitchInstant s).flushTrig

/-- ACTIVATION_RECORD_WRITTEN: the older copy of the record takes the next number and the running slot (R47). -/
def opActivationRecord (s : State) : State :=
  if !s.pln.recordDue then s
  else
    let a := s.nv.planRec0
    let b := s.nv.planRec1
    let newer0 := a.valid && (!b.valid || decide ((b.seq - a.seq).toNat = 0) || !decide ((b.seq - a.seq).toNat < 2 ^ 31))
    let seq : Word := if newer0 then a.seq + 1 else if b.valid then b.seq + 1 else 1
    let r : PlanRec := ⟨seq, s.pln.slot, true⟩
    { s with
      pln := { s.pln with recordDue := false },
      nv := if newer0 then { s.nv with planRec1 := r } else { s.nv with planRec0 := r } }

def execActivationRecordWritten (s : State) : Host.Outcome State Fault Refusal := ok (opActivationRecord s)

/-- ABORT: a switch is cancelled before its instant (R46). -/
def opPlnAbort (ctx slot : Nat) (s : State) : State :=
  if ctx ≠ 0 then s.planOwner
  else if (s.slot slot).state ≠ 7 then s.planSlotErr
  else s.dropSwitch.switchCopied 3 slot false

def execPlnAbort (ctx : Fin 4) (slot : Bool) (s : State) : Host.Outcome State Fault Refusal :=
  ok (opPlnAbort ctx.val (b2n slot) s)

/-- ERASE: the slot is EMPTY (R44); transfers into it that are not in flash yet are answered BUSY. -/
def opPlnErase (ctx slot : Nat) (s : State) : State :=
  let st := (s.slot slot).state
  if ctx ≠ 0 then s.planOwner
  else if st ≠ 1 ∧ st ≠ 2 ∧ st ≠ 4 ∧ st ≠ 6 then s.planSlotErr
  else
    let gone := s.pln.xfers.filter (fun x => x.slot == slot)
    let s1 := s.setSlot slot ⟨0, []⟩
    let s2 := { s1 with pln := { s1.pln with xfers := s1.pln.xfers.filter (fun x => x.slot != slot) } }
    (gone.foldl (fun (a : State) x => a.answer x.ctx x.seq 0xB0 (a.planAck slot 6)) s2).copyPln 4 slot false

def execPlnErase (ctx : Fin 4) (slot : Bool) (s : State) : Host.Outcome State Fault Refusal :=
  ok (opPlnErase ctx.val (b2n slot) s)

/-- A write of PLN.CMD (R56): OP, SLOT and AT; another OP is refused. -/
def opPlnCmd (ctx : Nat) (v : Word) (s : State) : State :=
  let slot := v.get Fd.PLN_CMD_SLOT
  if ctx ≠ 0 then s.planOwner
  else
    match v.get Fd.PLN_CMD_OP with
    | 1 => opPlnCommit ctx slot s
    | 2 => opPlnSwitch ctx slot (v.get Fd.PLN_CMD_AT == 1) s
    | 3 => opPlnAbort ctx slot s
    | 4 => opPlnErase ctx slot s
    | _ => s.planSlotErr

/-! ### Live values -/

/-- A register changes at a shot boundary: the launches in progress keep the word that held for their shot (R50, R107). -/
def State.keepOld (s : State) (a : Nat) : State :=
  let keep (r : FibRun) : FibRun :=
    if !r.live || r.regs.any (fun e => e.1 == a) then r else { r with regs := (a, s.rd a) :: r.regs }
  { s with fib := { s.fib with cur := keep s.fib.cur, older := s.fib.older.map keep } }

/-- At a boundary of a kind at instant `t`: the live writes whose boundary it is take effect, as far as `sel` takes
them (R51, R54). -/
def State.liveBoundaryApply (s : State) (kind : Nat) (t : Time) (sel : LivePend → Bool) : State :=
  let due (e : LivePend) : Bool := e.boundary == kind && decide (e.notBefore.toNat ≤ t.toNat) && sel e
  let s1 := { s with pln := { s.pln with live := s.pln.live.filter (fun e => !due e) } }
  (s.pln.live.filter due).foldl (fun (a : State) e =>
    (if kind = 1 then a.keepOld e.addr else a).setLive e.addr ((a.rd e.addr).put ⟨e.lsb, e.width⟩ e.value)) s1

/-- The BOUNDARY of a live write (R41): a chain channel's own fix boundary for a field of its copy of an FLT register, by
R199 and R215, as far as the plan has it. -/
def State.liveKind (s : State) (key : Nat) (e : LiveEnt) : Nat :=
  if key < 0x1000000 then e.boundary
  else if key / 0x1000000 ≤ 64 then (if s.fieldTick = 0 then e.boundary else 2)
  else if s.superframe = 0 then e.boundary else 3

/-- A live write waits; a later write to the same field takes its place (R51). -/
def State.liveWait (s : State) (addr : Nat) (e : LiveEnt) (value : Nat) : State :=
  { s with pln := { s.pln with
    live := s.pln.live.filter (fun x => !(x.addr == addr && x.lsb == e.lsb && x.width == e.width)) ++
      [⟨addr, e.lsb, e.width, value, s.liveKind addr e, s.changeFrom⟩] } }

end Sys2Proof.Machine
end

