-- ==== Sys2Proof/Machine/Boundary.lean ====
section
/-!
DEFINITION. The boundaries of the schedules: shot boundaries and slot launches, field tick holds, superframe boundaries,
and what takes effect there (R39, R50, R54, R61, R66, R164, R226, R280, R285, R389).
-/

namespace Sys2Proof.Machine

/-! ### What boundaries share -/

/-- The switch instant has been chosen and lies at or before `t`: the boundaries of the old plan have ended (R45). -/
def State.pastSwitch (s : State) (t : Time) : Bool :=
  match s.pln.instant with
  | some e => decide (e.toNat ≤ t.toNat)
  | none => false

/-- The digest that a COPY bears (R389, R391): that of the shot that ends here, where the engine has processed all of it;
in Q-stagger, where launches overlap the next shot, that of the last complete shot. -/
def State.shotDigest (s : State) : Option (Nat × Nat) :=
  if s.shotPeriod = 0 ∨ !s.fenActive then none
  else s.fib.digests.head?.filter (fun d => decide (s.sched.shotNo ≤ d.1 + (if s.fenMode = 3 then 2 else 1)))

/-- At a shot end the active hub sends the COPY with what has been gathered, on both lanes (R389). -/
def State.sendCopy (s : State) : State :=
  if !s.hasStandby then { s with pai := { s.pai with ops := [] } }
  else
    let no := s.pai.copyNo + 1
    let s1 := { s with pai := { s.pai with ops := [], copyNo := no } }
    s1.sendBoth 5 (.copy ⟨no, s.ltc, s.shotDigest, s.pai.ops⟩)

/-- Releases free their space before the pushes of the cycle (R278, R285). -/
def State.releaseBoundary (s : State) : State :=
  (s.lanes.map (·.1)).foldl (fun (a : State) k =>
    let l := a.lane k
    if l.freeNow.isNone && l.freeTo.isNone then a else a.setLane k (l.applyFree a.paired)) s

/-- GAP accounts are written where 64 bytes are free (R280). -/
def State.gapsBoundary (s : State) : State := (s.lanes.map (·.1)).foldl (fun (a : State) k => a.gapBoundary k) s

/-- What comes first at a boundary of the kind that R54 names: the copy of the shot that ends, then the releases. -/
def State.mainOpen (s : State) : State := s.sendCopy.releaseBoundary

/-- A park for PFW_N begins (R430). -/
def State.pfwBoundary (s : State) : State := if s.sys.pfw && !s.clk.parkPfw then s.enterPark false else s

/-- A parked hub has no window to come: calibrated elements take their places (R80). -/
def State.parkExchange (s : State) : State := if s.parked then s.exchangeIdle else s

/-- What else takes effect at such a boundary: the mapping, the budgets, GAP records, a handover, the choice of a switch
instant, parks (R16, R45, R280, R369, R373, R397, R430). -/
def State.mainClose (s : State) : State :=
  s.mapBoundary.budgetBoundary.gapsBoundary.handoverBoundary.switchBoundary.parkBoundary.pfwBoundary.parkExchange

/-- Every live write is taken. -/
def anyLive (_ : LivePend) : Bool := true

/-- A live value of the filter chains; on a standby it waits for the forwarded results of its tick (R388). -/
def chainLive (e : LivePend) : Bool :=
  let page := e.addr % 0x1000000 / 0x1000
  page == 0x19 || page == 0x1A || page == 0x32

/-! ### Shots -/

/-- A launch moves the resynchronisation on (R398): the window of the launch before is over and the next one begins; zones
are in sync from the first interval that starts after every record is, the Raman path from its next interval. -/
def State.syncLaunch (s : State) (n j : Nat) : State :=
  if !s.syncing ∨ s.syncState ≠ 2 then s
  else
    let g := s.pai.prog
    let pts := if s.role = 2 then s.pai.copies.foldl (fun m e => max m (e.1 + 1)) g.points
      else if g.begun then min s.fenN (g.window + s.recordWindow) else g.points
    let starts := !s.fenActive || s.fib.cur.u % s.pssU == 0
    { s with pai := { s.pai with
      copies := []
      prog := { g with
        points := pts, window := pts, begun := true
        zones := g.zones || (decide (s.fenN ≤ pts) && starts)
        raman := g.raman || (j == 0 && s.takesPart n && n % s.rmnLen == 0) } } }

/-- A slot launch begins on this hub or as forwarded: its acquisition window, the engine, and with slot 0 the Raman path
(R61, R66, R72). -/
def State.launchSlot (s : State) (n j : Nat) (L : Time) (dark holdover : Bool) : State :=
  let s1 := (s.openWindow L (s.fenMode != 3 || j == 3)).fibreLaunch n j L dark holdover
  let s2 := if j = 0 then s1.ramanShot n L dark holdover else s1
  s2.syncLaunch n j

/-- A launch that the interruption of a takeover covers is not performed (R32): the records it would have brought are
accounted as lost. -/
def State.lostLaunch (s : State) (n j : Nat) (L : Time) : State :=
  let s1 := if s.fenActive then (s.fibreLaunch n j L false s.inHoldover).loseRuns else s
  if j = 0 then s1.ramanSkip n L 9 else s1

/-- Shot n launches, or is dark (R66), or is lost in a takeover (R32). -/
def State.shotLaunch (s : State) (n : Nat) (t : Time) : State :=
  if s.quiet t then s.lostLaunch n 0 t
  else
    let dark := !s.launches
    let s1 := s.wf Reg.OFE_STAT Fd.OFE_STAT_LAUNCH (b2n !dark)
    let s2 := { s1 with ofe := { s1.ofe with dark := dark } }
    let s3 := if dark then s2.count Reg.OFE_DARK_SHOTS else s2
    s3.launchSlot n 0 t dark s3.inHoldover

/-- The number of the next shot. -/
def State.setShotNo (s : State) (n : Nat) : State := { s with sched := { s.sched with shotNo := n } }

/-- No shot while the hub is parked, or once the old plan has ended; a standby launches nothing (R84 LAUNCH), nor does a
deposed hub (R396). -/
def State.shotOrNot (s : State) (n : Nat) (t : Time) : State :=
  if s.parked || decide (2 ≤ s.role) || !s.schedulesShots then
    (if s.parked && decide (s.role < 2) then s.ramanSkip n t 2 else s).wf Reg.OFE_STAT Fd.OFE_STAT_LAUNCH 0
  else if s.ending then s else s.shotLaunch n t

/-- SHOT_BOUNDARY (R39, R50, R66, R280, R285, R389, R397): the next shot boundary. A standby launches nothing; its shots
come with the feed. -/
def opShotBoundary (s : State) : State :=
  if s.shotPeriod = 0 ∨ s.ending then s
  else
    let n := s.sched.shotNo
    let t := s.atPeriod n s.shotPeriod
    let s1 := (s.advance t).mainOpen.matchShot
    let s2 := (s1.liveBoundaryApply 1 s1.ltc anyLive).zoneBoundary.mainClose
    (s2.setShotNo (n + 1)).shotOrNot n t

def execShotBoundary (s : State) : Host.Outcome State Fault Refusal := ok (opShotBoundary s).flushTrig

/-! ### Pulses -/

/-- The hub parks at the boundary at L, or the old plan ends there, so that no shot launches (R16, R45, R430). -/
def State.endsAt (s : State) (L : Time) : Bool :=
  let b := ({ s with ltc := L }).switchBoundary.parkBoundary.pfwBoundary
  b.ending || b.parked

/-- RMN_TRIG_RISE (R72): LEAD ticks before the launch of the next shot, for WIDTH ticks. -/
def opRmnTrig (s : State) : State :=
  let n := s.sched.shotNo
  let w := s.rf Reg.OFE_RMN_TRIG Fd.OFE_RMN_TRIG_WIDTH
  if !s.takesPart n ∨ s.parked ∨ s.ending ∨ w = 0 then s
  else
    let L := s.atPeriod n s.shotPeriod
    let t := L - BitVec.ofNat 64 (s.rf Reg.OFE_RMN_TRIG Fd.OFE_RMN_TRIG_LEAD)
    let s1 := s.advance t
    if !s1.launches ∨ s1.quiet L ∨ s1.endsAt L then s1
    else
      (({ s1 with ofe := { s1.ofe with trigTo := some (t + BitVec.ofNat 64 w) } }.emitOut (.pin pinRmnTrig 1 t)).emitOut
        (.pin pinRmnTrig 0 (t + BitVec.ofNat 64 w)))

def execRmnTrigRise (s : State) : Host.Outcome State Fault Refusal := ok (opRmnTrig s)

/-- PULSE_START (R58, R61, R65, R66, R71): the DACs begin a slot's waveform. Slot 0 of the shot to come plays where that shot
would launch as things stand; the later slots of a shot follow the shot, whatever stops launches since, but for blanking
(R69). DESIGN CHOICE (log 137): what comes between a pulse's start and its shot's boundary does not alter the pulse, nor does
the pulse alter whether the shot then launches. -/
def opPulseStart (j : Nat) (s : State) : State :=
  if !s.schedulesShots ∨ s.parked ∨ s.ending ∨ (j ≠ 0 ∧ s.fenMode ≠ 3) ∨ (j = 0 ∧ s.endsAt (s.slotLaunch 0)) then s
  else
    let n := s.waveLen j
    let L := s.slotLaunch j
    -- start in half line ticks, and end of the last pair in line ticks
    let half : Int := 2 * ((L.toNat : Int) - s.dTx) - (n / 2 : Nat)
    let s1 := s.advance (BitVec.ofInt 64 (Int.fdiv half 2))
    let plays := if j = 0 then s1.launches
      else !s1.ofe.dark && s1.drives && !s1.flag Reg.OFE_STAT Fd.OFE_STAT_ILK
    if !plays ∨ s1.quiet L then s1
    else
      { s1 with ofe := { s1.ofe with
        pulseTo := some (BitVec.ofInt 64 (Int.fdiv (half + n) 2))
        pulse := some (if j = 0 then s1.sched.shotNo else s1.shotNow, j)
        pulseFs := s1.rf Reg.OFE_DAC_FS Fd.OFE_DAC_FS_FS } }.emitOut
        (.launch j half.toNat (1000 + 2 * s1.rf Reg.OFE_DAC_FS Fd.OFE_DAC_FS_FS) (s1.waveData j))

def execPulseStart (slot : Fin 4) (s : State) : Host.Outcome State Fault Refusal := ok (opPulseStart slot.val s)

/-- SLOT_LAUNCH (R61): in Mode Q-stagger, the next slot of the shot in progress. -/
def opSlotLaunch (s : State) : State :=
  let f := s.fib.cur
  let j := f.slot + 1
  if s.shotPeriod = 0 ∨ s.fenMode ≠ 3 ∨ !s.fenActive ∨ s.parked ∨ s.ending ∨ 2 ≤ s.role ∨ 4 ≤ j ∨ f.shotNo + 1 ≠ s.sched.shotNo then s
  else
    let t := s.slotLaunch j
    let s1 := s.advance t
    if s1.quiet t then s1.lostLaunch f.shotNo j t else s1.launchSlot f.shotNo j t s1.ofe.dark s1.inHoldover

def execSlotLaunch (s : State) : Host.Outcome State Fault Refusal := ok (opSlotLaunch s).flushTrig

/-! ### Field ticks -/

/-- The active hub forwards the field results that pass at tick boundary k, with their hold and the latched die
temperature (R191, R213, R386). -/
def State.forwardField (s : State) (k : Nat) (hold : Time) : State :=
  if s.hasStandby then
    { s with pai := { s.pai with results := [] } }.sendLane 1 3 (.feedW ⟨some (k, hold, s.flt.dieLatch), s.pai.results, [], none⟩)
  else { s with pai := { s.pai with results := [] } }

/-- Channels of one side with their filter chains: field channels below 64, node channels from 64 on. -/
def State.chainsOf (s : State) (node : Bool) : List (Nat × ChainCh) :=
  s.flt.chans.filter (fun e => decide (64 ≤ e.1) == node)

/-- A snapshot of the chains goes to a standby that needs one (R398, R400). -/
def State.chainSnapshot (s : State) (node : Bool) : State :=
  let g := s.pai.prog
  if !s.hasStandby ∨ s.syncState < 2 then s
  else if node then
    (if g.node || !((s.tlane 0).up && (s.tlane 1).up) then s
     else { s with pai := { s.pai with prog := { g with node := true } } }.sendLane 1 7
       (.bulk (.chains true s.flt.k0 (s.chainsOf true) [])))
  else if g.field || s.syncState == 3 then s
  else { s with pai := { s.pai with prog := { g with field := true } } }.sendLane 1 7
    (.bulk (.chains false s.flt.k0 (s.chainsOf false) s.fld.chans))

/-- Tick boundary k of the filter chains: latches, the results of the tick before under the values that held, then live
values, a resynchronisation and the notch set (R166, R199 to R213). -/
def State.chainTick (s : State) (k : Nat) (t : Time) : State :=
  let s1 := (s.latchField s.dieC).fieldPass
  let s2 := s1.forwardField k (s1.fld.lastHold.getD 0)
  ((s2.liveBoundaryApply 2 t chainLive).resyncField k t).notchBoundary t

/-- No hold is taken while the hub is parked (R16). -/
def State.noHold (s : State) : State :=
  { s with fld := { s.fld with lastHold := none } }.wf Reg.FLD_STAT Fd.FLD_STAT_TICKING 0

/-- FIELD_TICK_HOLD (R164, R166, R186, R204, R207): the next tick boundary with its hold. On a standby the chains' part
waits for the forwarded results. -/
def opFieldTick (obs : List WireObs) (s : State) : State :=
  let k := s.sched.tickNo
  let t := s.atPeriod k s.fieldTick
  if s.fieldTick = 0 ∨ s.pastSwitch t then s
  else
    let main := s.mainBoundary == 2
    let s0 := s.advance t
    let s1 := if main then s0.mainOpen else s0
    let s2 := if s1.role = 2 then s1 else s1.chainTick k t
    let s3 := s2.liveBoundaryApply 2 t (fun e => s2.role != 2 || !chainLive e)
    let s4 := s3.bandBoundary.showInjected.showCoreInj
    let s5 := if main then s4.mainClose else s4
    let s6 := if s5.hasSection 5 && !s5.parked && !s5.pastSwitch t then s5.fieldHold obs else s5.noHold
    let s7 := s6.chainSnapshot false
    { s7 with sched := { s7.sched with tickNo := k + 1 } }

def execFieldTickHold (obs : List WireObs) (s : State) : Host.Outcome State Fault Refusal := ok (opFieldTick obs s).flushTrig

/-! ### Superframes -/

/-- On one tether lane a standby tags its node channels STALE (R34, R400): the inputs that are due by superframe j. -/
def State.staleNodes (s : State) (j : Nat) : State :=
  if s.role ≠ 2 ∨ !(s.anyLane) ∨ ((s.tlane 0).up && (s.tlane 1).up) then s
  else
    iter 512 (fun n (a : State) =>
      let P := n / 32
      let c := n % 32
      if a.slotNode P c = 0 then a
      else
        let from_ := nth (a.port P).nextIn c 0
        let until_ := j + 1 - a.qlag
        let b := iter (until_ - from_) (fun i (b : State) =>
          b.nodeWords n (from_ + i) (List.replicate (b.slotSpf P c) staleWord)) a
        b.onPort P (fun x => { x with nextIn := setAt x.nextIn c (max from_ until_) })) s

/-- What a superframe boundary at `t` brings the node chains (R199, R204, R213, R215): latches with a die temperature, live
values and the notch set. -/
def State.nodeBoundary (s : State) (t : Time) (die : Word) : State :=
  ((s.latchNode die).liveBoundaryApply 3 t chainLive).notchBoundaryN t

/-- The chains' part of a superframe boundary; the active hub forwards it, and a standby waits for it (R213, R388). -/
def State.nodeLatch (s : State) (t : Time) : State :=
  if s.role = 2 then s
  else
    let s1 := s.nodeBoundary t s.dieC
    if s1.hasStandby then s1.sendLane 1 3 (.feedW ⟨none, [], [], some (t, s1.flt.dieLatchN)⟩) else s1

/-- SUPERFRAME_BOUNDARY (R226, R207, R235, R400): the next superframe boundary. -/
def opSuperframe (s : State) : State :=
  let j := s.sched.sfNo
  let t := s.atPeriod j s.superframe
  if s.superframe = 0 ∨ s.pastSwitch t then s
  else
    let main := s.mainBoundary == 3
    let s0 := s.advance t
    let s1 := if main then s0.mainOpen else s0
    let s2 := (s1.nodeLatch t).liveBoundaryApply 3 t (fun e => s1.role != 2 || !chainLive e)
    let s3 := (s2.resyncNode j).staleNodes j
    let s4 := if main then s3.mainClose else s3
    let s5 := s4.chainSnapshot true
    { s5 with sched := { s5.sched with sfNo := j + 1 } }

def execSuperframeBoundary (s : State) : Host.Outcome State Fault Refusal := ok (opSuperframe s).flushTrig

end Sys2Proof.Machine
end

