-- ==== Sys2Proof/Machine/Views.lean ====
section
/-!
DEFINITION. Registers whose value follows from other state: what a read of them returns, chapter by chapter.
-/

namespace Sys2Proof.Machine

/-! ### The page header -/

/-- PAGE_STAT (R454). -/
def State.pageStat (s : State) (page : Nat) : Word :=
  let used := match gateBit page with
    | none => true
    | some (r, b) => s.blockUsed (if r = Reg.CLK_GATE0 then 0 else if r = Reg.CLK_GATE1 then 1 else 2) b
  w32 (b2n used + 2 * b2n (s.rd (Reg.HDR_ERR_COUNT page) != 0) + 4 * b2n (s.rd (Reg.HDR_IRQ_RAW page) != 0))

/-- Header registers that are not held as words (R454). -/
def State.headerView (s : State) (page o : Nat) : Option Word :=
  if o = 0x0 then some (pageId page)
  else if o = 0x4 then some (pageCaps page)
  else if o = 0xC then some (s.pageStat page)
  else if o = 0x14 then some (s.rd (Reg.HDR_IRQ_RAW page))
  else none

/-! ### System pages -/

/-- The low and the high word of a 64-bit number. -/
def lo32 (v : Nat) : Word := w32 (v % 2 ^ 32)
def hi32 (v : Nat) : Word := w32 (v / 2 ^ 32 % 2 ^ 32)

/-- A word with bit i set where `f i` holds, for i below `n`. -/
def bitMap (n : Nat) (f : Nat → Bool) : Word := w32 ((List.range n).foldl (fun a i => a + b2n (f i) * 2 ^ i) 0)

/-- SYS, PWR, PLN, MNT, SEC, UPD (R56, R422, R445 to R448). -/
def State.sysView (s : State) (page o : Nat) : Option Word :=
  if page = 0x0 then
    (if o = 0x4C then some (w32 s.nv.boot) else if o = 0x54 then some (lo32 s.nv.serial)
     else if o = 0x58 then some (hi32 s.nv.serial) else none)
  else if page = 0x1 then (if o = 0x50 then some (w32 s.holdUs) else none)
  else if page = 0x2 then
    (if o = 0x40 then some (s.rd Reg.PWR_STAT ||| w32 (511 - s.sys.railsBad % 512)) else none)
  else if page = 0x3 then
    (let id (i : Nat) : Nat := if (s.slot i).state = 0 then 0 else fieldAt (s.slot i).image 0x18 8
     if o = 0x48 then some (w32 s.nv.slotA.state) else if o = 0x4C then some (w32 s.nv.slotB.state)
     else if o = 0x50 then
       some (w32 ((if s.pln.run.isSome then s.pln.slot % 2 else 0) + 2 * b2n s.pln.run.isSome + 4 * b2n s.pln.target.isSome))
     else if o = 0x68 then some (lo32 (id 0)) else if o = 0x6C then some (hi32 (id 0))
     else if o = 0x70 then some (lo32 (id 1)) else if o = 0x74 then some (hi32 (id 1))
     else if o = 0x78 then some (w32 s.nv.slotA.image.length) else if o = 0x7C then some (w32 s.nv.slotB.image.length)
     else if o = 0x84 then some (w32 s.pln.live.length) else none)
  else if page = 0x4 then (if o = 0x48 then some s.mntState else none)
  else if page = 0x5 then
    (if o = 0x40 then some (w32 s.nv.life)
     else if o = 0x48 then
       some (w32 (b2n s.nv.planKey.isSome + 2 * (bitMap 4 (fun x => (s.ctxKey x).isSome)).toNat + 32 * b2n s.nv.updKey))
     else if o = 0x50 then some ((s.nv.planKey.map (·.1)).getD 0) else none)
  else if page = 0x6 then
    (let gov := s.fwGov.map (·.1)
     if o = 0x48 then some ((s.rd Reg.UPD_STAT).put Fd.UPD_STAT_TRIALS ((gov.map FwRec.trials).getD 0))
     else if o = 0x54 then some (w32 (fieldAt (s.bank s.sys.updBank) 0x10 4))
     else if o = 0x58 then some ((gov.map FwRec.seq).getD 0) else none)
  else none

/-! ### Hosts, uplink, pair and background pages -/

/-- Reset value of an access mask word (R362): every page readable except SEC and DKR, none writable. -/
def maskDefault (group : Nat) : Word := if group = 0 then 0x55555155 else if group = 5 then 0x55515555 else 0x55555555

/-- Key and value of an access mask word of context 1 to 3. It is held as its difference from the default. -/
def maskKey (x group : Nat) : Nat := copyKey Reg.CTX_MASK_DATA (32 * x + group)
def State.maskWord (s : State) (x group : Nat) : Word := s.rd (maskKey x group) ^^^ maskDefault group

/-- CTX as accessor `x` reads it (R380). -/
def State.ctxView (s : State) (x o : Nat) : Option Word :=
  if o = 0x40 then
    some (w32 (x % 4 + 4 * s.mgmtCtx + 16 * b2n (s.flag Reg.SYS_STAT Fd.SYS_STAT_STRAP_ERR)))
  else if o = 0x48 then
    some (s.maskWord ((s.rd Reg.CTX_MASK_SEL).get ⟨5, 2⟩) ((s.rd Reg.CTX_MASK_SEL).get ⟨0, 5⟩))
  else if o = 0x4C then some (bitMap 4 (fun y => (s.ctxKey y).isSome))
  else none

/-- ULA, ULB and SLZ (R378, R379). -/
def State.uplinkView (s : State) (page o : Nat) : Option Word :=
  if page = 0x4A then
    (if o = 0x44 then some s.slzStat else if o = 0x4C then some (w32 s.nv.mask)
     else if o = 0x50 then some (w32 (s.nv.udp % 65536)) else if o = 0x54 then some (w32 s.nv.boot)
     else if o = 0x68 then some (s.spoolBits 0 (·.shed)) else if o = 0x6C then some (s.spoolBits 32 (·.shed)) else none)
  else
    let p := page - 0x48
    let mac := if p = 0 then s.nv.macA else s.nv.macB
    if o = 0x48 then
      some (s.rd (Reg.UL_STAT p) ||| w32 (16 * (bitMap 4 (fun x => s.sessions.any (fun q => q.ctx == x && q.home == p))).toNat))
    else if o = 0x4C then some (lo32 mac) else if o = 0x50 then some (w32 (mac / 2 ^ 32 % 65536))
    else none

/-- DKR, TEL, NVS (R420, R423, R450); of TEL as accessor `x` reads it. -/
def State.backView (s : State) (x page o : Nat) : Option Word :=
  if page = 0x59 then
    (if o = 0x44 then
       some (w32 (b2n (s.nv.planKey.isSome || s.nv.ctxKeys.any (·.isSome)) + 2 * b2n s.nv.wiped + 4 * s.nv.wipeCause))
     else none)
  else if page = 0x5A then
    (if o = 0x44 then some (w32 (unsigned 16 s.mnt.tCore)) else if o = 0x48 then some (w32 s.mnt.power)
     else if o = 0x4C then some (s.rd (copyKey Reg.TEL_RAIL_SEL x))
     else if o = 0x50 then some (w32 (nth s.mnt.rails (s.rd (copyKey Reg.TEL_RAIL_SEL x)).toNat 0))
     else if o = 0x58 then some (w32 s.nv.history.length) else if o = 0x5C then some (w32 s.nv.histNext)
     else if o = 0x60 then some (w32 (s.ltc.toNat / tickS)) else none)
  else if page = 0x5C then
    (if o = 0x48 then some (w32 s.nv.reserve) else if o = 0x4C then some (w32 s.nv.eraseMax)
     else if o = 0x50 then some (w32 s.nv.eraseMean) else if o = 0x54 then some (w32 s.nv.retired)
     else if o = 0x60 then some Config.faultBase else if o = 0x64 then some (w32 (32 * s.nv.faultNext))
     else if o = 0x68 then some (w32 s.nv.faults.length) else if o = 0x6C then some (w32 (s.nv.setFmt % 65536)) else none)
  else none

/-- PAI (R403). -/
def State.paiView (s : State) (o : Nat) : Option Word :=
  if o = 0x74 then some s.resyncProg else if o = 0x78 then some (w32 s.placeholders) else none

/-! ### Acquisition pages -/

/-- OFE, FEN, PSS, ZON, TMP (R77, R112, R138, R139, R154). -/
def State.fibreView (s : State) (page o : Nat) : Option Word :=
  if page = 0x10 then (if o = 0x11C then some s.elemRx else if o = 0x120 then some s.elemRmn else none)
  else if page = 0x11 then (if o = 0x140 then some ((s.rd Reg.FEN_STAT).put Fd.FEN_STAT_ACTIVE (b2n s.fenActive)) else none)
  else if page = 0x12 then
    (if o = 0x44 then
       some (w32 (b2n s.fenActive + 2 * s.rf Reg.PSS_CHAIN_CFG Fd.PSS_CHAIN_CFG_FREEZE)) else none)
  else if page = 0x13 then
    (let z := (s.rd Reg.ZON_ZT_INDEX).toNat
     if o = 0x44 then some (w32 (b2n (s.fenActive && s.rf Reg.ZON_ZCFG Fd.ZON_ZCFG_ZONES != 0)))
     else if o = 0x4C then some (s.rd (copyKey Reg.ZON_ZT_FIRST z)) else if o = 0x50 then some (s.rd (copyKey Reg.ZON_ZT_COUNT z))
     else if o = 0x54 then some (s.rd (copyKey Reg.ZON_ZT_CTRL z)) else if o = 0x58 then some (s.rd (copyKey Reg.ZON_ZT_LOUPE z))
     else none)
  else if page = 0x14 then
    (if o = 0xC0 then
       some (w32 (b2n s.rmnActive + 2 * b2n (s.tmp.conv != []) + 4 * s.rf Reg.TMP_STAT Fd.TMP_STAT_REF_OLD +
         8 * b2n (s.rmnActive && s.tmp.tRef.isNone))) else none)
  else none

/-- Channel registers of the FLT, LIN and ENV pages answer for the channel of the accessor's own CH_INDEX (R220, R221,
R270, R462): the register that holds the index, and the first and last offset of the channel registers. -/
def chanWindow (page : Nat) : Option (Nat × Nat × Nat) :=
  if page = 0x19 then some (Reg.FLT_CH_INDEX, 0x64, 0x7C)
  else if page = 0x1A then some (Reg.LIN_CH_INDEX, 0x44, 0x98)
  else if page = 0x32 then some (Reg.ENV_CH_INDEX, 0x44, 0x48)
  else none

/-- The key under which an access of accessor `x` finds a register that is held once per context or per channel
(R462). -/
def State.accessKey (s : State) (x addr : Nat) : Nat :=
  if [Reg.FLT_CH_INDEX, Reg.LIN_CH_INDEX, Reg.ENV_CH_INDEX, Reg.SPL_SPOOL, Reg.TEL_RAIL_SEL].contains addr then copyKey addr x
  else
    match chanWindow (addr / 0x1000) with
    | some (r, a, b) => if a ≤ addr % 0x1000 ∧ addr % 0x1000 ≤ b then copyKey addr (s.rd (copyKey r x)).toNat else addr
    | none => addr

/-- THC, DRP and ENV (R197, R244, R270). -/
def State.wireView (s : State) (x page o : Nat) : Option Word :=
  if page = 0x1B then
    (if o = 0x484 then
       (let i := s.rd Reg.THC_BT_INDEX
        some (match s.pln.run with
          | some p => p.tabAt (tabBand (i.get ⟨0, 4⟩) (i.get ⟨8, 7⟩)) &&& 0x3F03FF
          | none => 0))
     else none)
  else if page = 0x32 then
    (if o = 0x48 then
       (let c := s.chain (s.rd (copyKey Reg.ENV_CH_INDEX x)).toNat
        some (w32 (c.env.count % 65536 + 65536 * (c.envN % 256))))
     else none)
  else if 0x20 ≤ page ∧ page < 0x30 then
    let P := page - 0x20
    let a := (s.rd (Reg.DRP_NODE_INDEX P)).toNat
    let n := (s.port P).node a
    if o = 0x44 then
      some (if s.superframe = 0 then 0 else w32 (s.qlag % 256 + 256 * (ceilDiv (s.drpN (s.chainPort P)) 8 % 32)))
    else if o = 0x68 then some (w32 (n.d % 2 ^ 18)) else if o = 0x6C then some (w32 (n.ofs % 2 ^ 18))
    else if o = 0x70 then some (w32 (n.ofsRev % 2 ^ 18))
    else if o = 0x74 then some (w32 (n.type % 256 + 256 * (n.repLat % 256) + 65536 * (n.serial % 65536)))
    else if o = 0x78 then
      some (w32 (n.word % 65536 + 65536 * b2n (decide (a ≤ s.drpN P) && n.miss) + 131072 * (n.word / 2 ^ 13 % 2)))
    else none
  else none

/-- SHB, SCU and SCUnn (R268, R269). -/
def State.shutterView (s : State) (page o : Nat) : Option Word :=
  if page = 0x30 then
    (if o = 0x188 then
       some (w32 ((bitMap 16 s.lineState).toNat + 2 ^ 16 * (bitMap 4 (fun n => nth s.shb.inState n false)).toNat +
         2 ^ 20 * (bitMap 4 (fun n => nth s.shb.inStuck n false)).toNat + 2 ^ 24 * b2n (s.role == 2)))
     else ((List.range 8).find? (fun k => Reg.SHB_SCHED_LEFT k == 0x1000 * page + o)).map s.schedLeft)
  else if page = 0x31 then
    (if o = 0x40 then some (bitMap 32 (fun u => s.unitState u == 1))
     else if o = 0x44 then some (bitMap 32 (fun u => (s.unit u).acc.isSome || (s.unit u).copies != [] || (s.unit u).olds != [])) else none)
  else if 0x140 ≤ page ∧ page < 0x160 then
    let u := page - 0x140
    if Reg.SCUN_STAT u = 0x1000 * page + o then some ((s.rd (Reg.SCUN_STAT u)).put Fd.SCUN_STAT_STATE (s.unitState u)) else none
  else none

/-- SPL as accessor `x` reads it, SPLnn and CMP (R295 to R297). -/
def State.spoolView (s : State) (x page o : Nat) : Option Word :=
  if page = 0x38 then
    let v := s.pop x
    if o = 0x4C then some v.stat
    else if 0x50 ≤ o ∧ o < 0x60 then some (nth v.desc ((o - 0x50) / 4) 0)
    else if 0x60 ≤ o ∧ o < 0x70 then some (nth v.hdr ((o - 0x60) / 4) 0)
    else if o = 0x70 then some (w32 (leNat (v.data.take 4)))
    else if o = 0x74 then some (w32 (v.data.length % 2 ^ 17))
    else if o = 0x88 then some (s.spoolBits 0 (·.stale)) else if o = 0x8C then some (s.spoolBits 32 (·.stale)) else none
  else if page = 0x39 then
    (let run := runningJob s.jobs
     if o = 0x40 then
       some (w32 ((match run with | some j => 1 + 2 * (j.lane / 4) + 128 * (j.lane % 4) | none => 0) +
         512 * b2n (s.jobs.any (·.flushed))))
     else if o = 0x44 then some (w32 (min 511 (s.jobs.length - b2n run.isSome))) else none)
  else if 0x160 ≤ page ∧ page < 0x1A0 then
    (let sp := page - 0x160
     if o = 0x44 then some (s.spoolStat sp)
     else if 0x80 ≤ o ∧ o < 0x180 then
       let l := s.lane (4 * sp + (o - 0x80) / 64)
       let q := (o - 0x80) % 64
       if q = 0x10 then some (w32 (l.depth % 2 ^ 20)) else if q = 0x14 then some (w32 l.used)
       else if q = 0x18 then some (w32 l.wr) else if q = 0x1C then some (w32 l.rd)
       else if q = 0x20 then some (w32 l.mark) else if q = 0x24 then some (w32 l.rel) else none
     else none)
  else none

/-- LOAD of a core (R324): cycles of the activations that ended within the last second, in 0.1 % of 825,000,000. -/
def State.coreLoad (s : State) (c : Nat) : Nat :=
  let l := (s.core c).log.filter (fun e => decide (s.ltc.toNat < e.1.toNat + tickS))
  min 1000 (1000 * (l.map (·.2)).sum / 825000000)

/-- LPC and LPEnn (R323, R324). -/
def State.loupeView (s : State) (page o : Nat) : Option Word :=
  if page = 0x40 then (if o = 0x44 then some (bitMap 16 (fun c => (s.core c).running)) else none)
  else
    let c := page - 0x1A0
    let x := s.core c
    if o = 0xC0 then
      some (w32 (b2n x.running + 2 * b2n x.waiting + 4 * b2n x.inIrq + 8 * b2n (x.running && decide (s.ltc.toNat < x.startAt.toNat)) +
        16 * (x.cause % 8) + 65536 * (x.queue.length % 65536)))
    else if o = 0xE8 then some (w32 (s.coreLoad c))
    else none

/-! ### All pages -/

/-- The value of a register that other state gives; none for one held as a word. -/
def State.view (s : State) (x page o : Nat) : Option Word :=
  if o < 0x40 then s.headerView page o
  else if page < 0x8 then s.sysView page o
  else if page = 0x8 then s.ctxView x o
  else if 0x10 ≤ page ∧ page ≤ 0x14 then s.fibreView page o
  else if page = 0x1B ∨ page = 0x32 ∨ (0x20 ≤ page ∧ page < 0x30) then s.wireView x page o
  else if page = 0x30 ∨ page = 0x31 ∨ (0x140 ≤ page ∧ page < 0x160) then s.shutterView page o
  else if page = 0x38 ∨ page = 0x39 ∨ (0x160 ≤ page ∧ page < 0x1A0) then s.spoolView x page o
  else if page = 0x40 ∨ (0x1A0 ≤ page ∧ page < 0x1B0) then s.loupeView page o
  else if 0x48 ≤ page ∧ page ≤ 0x4A then s.uplinkView page o
  else if page = 0x4D then s.paiView o
  else if page = 0x59 ∨ page = 0x5A ∨ page = 0x5C then s.backView x page o
  else none

/-- Registers that report a measure of which the spec gives no rule that commands could carry: the loads over the last
second, corrected RS-FEC code words where RS-FEC is on, the bytes the Darkroom uses: free values, with their width. -/
def State.openReg (s : State) (addr : Nat) : Option Nat :=
  if addr = Reg.CMP_LOAD ∨ addr = Reg.UL_LOAD 0 ∨ addr = Reg.UL_LOAD 1 ∨ addr = Reg.TTH_LOAD0 ∨ addr = Reg.TTH_LOAD1 then some 10
  else if addr = Reg.DKR_USED then some 18
  else if addr = Reg.UL_FEC_CORR 0 ∨ addr = Reg.UL_FEC_UNCORR 0 then
    (if s.flag (Reg.UL_CFG 0) Fd.UL_CFG_RS_FEC then some 32 else none)
  else if addr = Reg.UL_FEC_CORR 1 ∨ addr = Reg.UL_FEC_UNCORR 1 then
    (if s.flag (Reg.UL_CFG 1) Fd.UL_CFG_RS_FEC then some 32 else none)
  else none

end Sys2Proof.Machine
end

