-- ==== Sys2Proof/Machine/Access.lean ====
section
/-!
DEFINITION. Register access: address classes and windows, who may read and write what, what a write does, and the
register commands (R5, R41, R51, R355, R361 to R365, R452 to R464).
-/

namespace Sys2Proof.Machine

/-! ### Who may do what -/

/-- Codes of the STATUS of an access (R350). -/
abbrev stOk : Nat := 0
abbrev stDenied : Nat := 1
abbrev stLost : Nat := 2
abbrev stRange : Nat := 3
abbrev stOwner : Nat := 4
abbrev stStandby : Nat := 5

/-- An access refused by a mask or a window's rule (R362, R452): counted and reported. -/
def State.deny (s : State) : State := ((s.count Reg.CTX_DENIED).err 0x8 Err.CTX_DENIED).raise 0x8 0

/-- Context `x` may read (or write) a page: C0 every one, Winch (4) too, the others by their masks (R361, R362). -/
def State.mayAccess (s : State) (x page : Nat) (write : Bool) : Bool :=
  x == 0 || x == 4 || Word.bit (s.maskWord x (page / 16)) (2 * (page % 16) + b2n write)

/-- The owner error of a write that only C0 may make (R42, R334, R361, R330, R404, R409, R422, R429, R435, R441): a
context's own IRQ_EN is not one of them (R455). -/
def ownerError (addr : Nat) : Option Nat :=
  let page := addr / 0x1000
  if 0x18 ≤ addr % 0x1000 ∧ addr % 0x1000 < 0x28 then none
  else if page = 0x5 then some Err.SEC_OWNER
  else if page = 0x6 then some Err.UPD_OWNER
  else if page = 0x8 then some Err.CTX_OWNER
  else if addr = Reg.UL_CFG 0 ∨ addr = Reg.UL_CFG 1 ∨ addr = Reg.UL_VLAN 0 ∨ addr = Reg.UL_VLAN 1 then some Err.UL_OWNER
  else if addr = Reg.TIM_CMD then some Err.TIM_OWNER
  else if addr = Reg.PLN_CMD then some Err.PLAN_OWNER
  else if addr = Reg.CLK_CMD then some Err.CLK_OWNER
  else if 0x50 ≤ page ∧ page < 0x54 ∧ (addr % 0x1000 = 0x40 ∨ addr % 0x1000 = 0x5C ∨ addr % 0x1000 = 0x60) then some Err.LN_OWNER
  else if addr = Reg.MNT_CMD then some Err.MNT_OWNER
  else if addr = Reg.SYS_CMD then some Err.SYS_OWNER
  else if addr = Reg.DKR_CMD then some Err.DKR_OWNER
  else if addr = Reg.PAI_CMD then some Err.PAI_OWNER
  else none

/-- What an access rule says of a write of context `x` to a register of an assigned, ungated page (R355, R361, R362, R455,
R457): the refusal with its status, or none. -/
def State.writeRefusal (s : State) (x addr : Nat) : Option (Nat × State) :=
  let page := addr / 0x1000
  let o := addr % 0x1000
  if x = 4 then none
  else if o = 0x8 then (if x = 0 then none else some (stOwner, s.err page Err.PAGE_OWNER))
  else if x ≠ 0 ∧ 0x18 ≤ o ∧ o < 0x28 ∧ (o - 0x18) / 4 ≠ x then some (stOwner, s)
  else
    match (if x = 0 then none else ownerError addr) with
    | some code => some (stOwner, s.err page code)
    | none =>
      if !s.mayAccess x page (!(decide (0x18 ≤ o) && decide (o < 0x28))) then some (stDenied, s.deny)
      else if Word.bit (s.rd (Reg.HDR_PAGE_CTRL page)) 0 then none
      else some (stDenied, s.err page Err.PAGE_DISABLED)

/-! ### Commands -/

/-- HANDOVER and RESYNC (R397, R399). -/
def opHandover (x : Nat) (s : State) : State :=
  if x ≠ 0 then s.err 0x4D Err.PAI_OWNER
  else if s.role ≠ 1 ∨ s.syncState ≠ 3 then s.err 0x4D Err.PAI_NOT_SYNC
  else s.startHandover
def opResync (x : Nat) (s : State) : State :=
  if x ≠ 0 then s.err 0x4D Err.PAI_OWNER
  else if s.role = 2 ∧ 2 ≤ s.syncState then s.startSync 2
  else s.copyItem (.write (.ctx 0) Reg.PAI_CMD 2)

/-- The accessor of an index: contexts 0 to 3, Winch. -/
def whoOf (x : Nat) : Accessor :=
  match x with
  | 0 => .ctx 0 | 1 => .ctx 1 | 2 => .ctx 2 | 3 => .ctx 3 | _ => .winch

/-- A write of a WO register by accessor `x`: the command it spells; an unknown OP is the page's range error (R5). -/
def State.command (s : State) (x addr : Nat) (v : Word) : State :=
  let page := addr / 0x1000
  let op := v.toNat % 16
  let bad := s.err page (rangeError page)
  let c := x % 4
  if addr = Reg.PLN_CMD then opPlnCmd c v s
  else if addr = Reg.OFE_CMD then
    (if op = 1 then opHspiGo s else if op = 2 then s.rxRecal else if op = 3 then opLasOn s else if op = 4 then opLasOff s
     else if op = 5 then opScript s else bad)
  else if addr = Reg.FLD_CMD then (if op = 1 then opFldCal (v.toNat / 16 % 16) s else bad)
  else if addr = Reg.FLD_INJ_CMD then s.injRequest v 0
  else if addr = Reg.FLT_CMD then (if op = 1 then opChainSync s else bad)
  else if 0x20 ≤ page ∧ page < 0x30 then
    (if op = 1 then opRetrain (page - 0x20) s else if op = 2 then s.rejoin (page - 0x20)
     else if op = 3 then opNodeCmd (page - 0x20) s else bad)
  else if addr = Reg.SHB_CMD then
    (if op = 1 then opShbTrig c (v.get Fd.SHB_CMD_LINE) (v.get Fd.SHB_CMD_AT == 1) s else bad)
  else if addr = Reg.SPL_POP_CTRL then
    (if v.get Fd.SPL_POP_CTRL_GO = 0 then s
     else opSplPop (whoOf x) (v.get Fd.SPL_POP_CTRL_LANE) (v.get Fd.SPL_POP_CTRL_ONE_LANE == 1) .clean s)
  else if addr = Reg.SPL_MARK_CTRL then
    (let k := v.get Fd.SPL_MARK_CTRL_OP
     if 1 ≤ k ∧ k ≤ 4 then
       opSplLane k (whoOf x) (v.get Fd.SPL_MARK_CTRL_LANE) (v.get Fd.SPL_MARK_CTRL_ALL == 1) s
     else bad)
  else if addr = Reg.CLK_CMD then (if op = 1 then opClkSwitch c (v.toNat / 16 % 4) s else bad)
  else if 0x50 ≤ page ∧ page < 0x54 then
    let s1 := if Word.bit v 0 then opPrbsInj1 c (page - 0x50) s else s
    if Word.bit v 1 then opPrbsClr c (page - 0x50) s1 else s1
  else if addr = Reg.TIM_CMD then (if op = 1 then opRestep c s else bad)
  else if addr = Reg.PAI_CMD then (if op = 1 then opHandover c s else if op = 2 then opResync c s else bad)
  else if addr = Reg.DKR_CMD then (if op = 1 then opWipe c s else bad)
  else if addr = Reg.MNT_CMD then
    (if op = 1 then opMntStart c (v.toNat / 16 % 8) s else if op = 2 then opMntAbort c (v.toNat / 16 % 8) s else bad)
  else if addr = Reg.SYS_CMD then (if op = 1 then opSysReset c s else bad)
  else if addr = Reg.UPD_CMD then
    (if op = 1 then opUpdStart c s
     else if op = 2 then opActivate c (v.get Fd.UPD_CMD_BANK) (v.get Fd.UPD_CMD_USE_BANK == 1) s
     else if op = 3 then opConfirm c s else if op = 4 then opUpdAbort c s else bad)
  else if addr = Reg.SEC_CMD then
    (if op = 1 then opInstall c (v.toNat / 16 % 8) s else if op = 2 then opRemove c (v.toNat / 16 % 8) s
     else if op = 3 then opReturnArm c s else if op = 4 then opReturn c s else bad)
  else s.wr addr v

/-! ### Values -/

/-- A write to PAGE_CTRL (R457): LOCK is set and never cleared; once it is set, EN holds. -/
def State.pageCtrl (s : State) (page : Nat) (v : Word) : State :=
  let old := s.rd (Reg.HDR_PAGE_CTRL page)
  if Word.bit old 1 then
    (if Word.bit v 0 == Word.bit old 0 then s else s.err page Err.PAGE_LOCKED)
  else s.wr (Reg.HDR_PAGE_CTRL page) (v &&& 3)

/-- A write of IRQ_EN_Cx: an enabled bit that is set causes that context's notice (R359, R455). -/
def State.irqEnable (s : State) (page x : Nat) (v : Word) : State :=
  let old := s.rd (Reg.HDR_IRQ_EN_C page x)
  let hold := s.rf Reg.SLZ_CFG Fd.SLZ_CFG_NOTICE_HOLD
  let s1 := s.wr (Reg.HDR_IRQ_EN_C page x) v
  if v &&& ~~~ old &&& s.rd (Reg.HDR_IRQ_RAW page) = 0 then s1
  else s1.onSession x (fun q => q.noteDue page hold s.ltc)

/-- A register is a board setting, with the bits of it that the settings partition holds (R340, R341, R362, R378,
R403). -/
def settingMask (key : Nat) : Word :=
  let page := key / 0x1000
  if key = Reg.CLK_CFG ∨ key = Reg.CLK_PRIO ∨ key = Reg.PAI_CFG then 0xFFFFFFFF
  else if page = 0x48 ∨ page = 0x49 then 0xFFFFFFFF
  else if 0x50 ≤ page ∧ page < 0x54 then (if key % 0x1000 = 0x40 then 0xF else if key % 0x1000 = 0x44 then 0xFFFFFFFF else 0)
  else if key % 0x1000000 = Reg.CTX_MASK_DATA ∧ key ≠ Reg.CTX_MASK_DATA then 0xFFFFFFFF
  else 0

/-- The settings partition follows a board setting. -/
def State.storeSetting (s : State) (key : Nat) : State :=
  let m := settingMask key
  if m = 0 then s
  else { s with nv := { s.nv with settings := NMap.set resetWord s.nv.settings key (s.rd key &&& m) } }

/-- The lane is out of service: a pattern generator, a checker or a loop is on (R330). -/
def State.laneOut (s : State) (n : Nat) : Bool :=
  s.rf (Reg.LN_CFG n) Fd.LN_CFG_LOOP != 0 || s.rf (Reg.LN_PRBS_CFG n) Fd.LN_PRBS_CFG_GEN != 0 ||
    s.rf (Reg.LN_PRBS_CFG n) Fd.LN_PRBS_CFG_CHK != 0

/-- A lane in lock that serves its data function (R330). -/
def State.laneServes (s : State) (n : Nat) : Bool :=
  s.flag (Reg.LN_STAT n) Fd.LN_STAT_CDR_LOCK && !s.flag (Reg.LN_STAT n) Fd.LN_STAT_OUT_OF_SERVICE

/-- The lane is the last uplink port in lock, or in a pair in sync the last tether lane in lock (R330). -/
def State.laneLast (s : State) (n : Nat) : Bool :=
  s.laneServes n &&
    (if n < 2 then !s.laneServes (1 - n) else s.isPair && s.syncState == 3 && !s.laneServes (5 - n))

/-- The data function of a lane goes out of service or comes back (R34, R330). -/
def State.laneService (s : State) (n : Nat) : State :=
  let out := s.laneOut n
  if out = s.flag (Reg.LN_STAT n) Fd.LN_STAT_OUT_OF_SERVICE then s
  else
    let s1 := s.wf (Reg.LN_STAT n) Fd.LN_STAT_OUT_OF_SERVICE (b2n out)
    if !out then (if n < 2 then s1.portCheck n else s1)
    else if n < 2 then
      ((s1.wf (Reg.UL_STAT n) Fd.UL_STAT_BLOCK_LOCK 0).wf (Reg.UL_STAT n) Fd.UL_STAT_FEC_ALIGN 0).portCheck n
    else s1.laneLost (n - 2) false

/-- A write of LN.CFG or PRBS_CFG (R326 to R330): whether it stands, and the state. -/
def State.laneWrite (s : State) (n addr : Nat) (v : Word) : Bool × State :=
  let s1 := s.wr addr v
  if s1.laneOut n && !s.laneOut n && s.laneLast n then (false, s.err (0x50 + n) Err.LN_LAST)
  else
    let was := s.flag (Reg.LN_CFG n) Fd.LN_CFG_RX_EN
    let now := s1.flag (Reg.LN_CFG n) Fd.LN_CFG_RX_EN
    let s2 : State :=
      if was && !now then
        ((s1.wf (Reg.LN_STAT n) Fd.LN_STAT_STATE 0).wf (Reg.LN_STAT n) Fd.LN_STAT_LOS 0).laneFails n
      else if !was && now then s1.wf (Reg.LN_STAT n) Fd.LN_STAT_STATE 2
      else s1
    let s3 := if s2.rf (Reg.LN_PRBS_CFG n) Fd.LN_PRBS_CFG_CHK = 0 then s2.wf (Reg.LN_STAT n) Fd.LN_STAT_PRBS_SYNC 0 else s2
    (true, (s3.laneService n).storeSetting addr)

/-- A shutter input's changed polarity turns its state (R248). -/
def State.inputConfig (s : State) (n : Nat) (v : Word) : State :=
  let flip := s.rf (Reg.SHB_IN_CFG n) Fd.SHB_IN_CFG_POL != v.get Fd.SHB_IN_CFG_POL
  { s.wr (Reg.SHB_IN_CFG n) v with
    shb := { s.shb with inState := setAt s.shb.inState n (nth s.shb.inState n false != flip) } }

/-- A line that is disabled, or has no WIDTH, has the state 0 (R246, R250). -/
def State.lineConfig (s : State) (n : Nat) (v : Word) : State :=
  let s1 := s.wr (Reg.SHB_LINE_CFG n) v
  if v.get Fd.SHB_LINE_CFG_EN = 1 ∧ v.get Fd.SHB_LINE_CFG_WIDTH ≠ 0 then s1 else { s1 with shb := { s1.shb with lineUntil := setAt s1.shb.lineUntil n 0 } }

/-- A value stands in an RW register held under `key`, with what the register does at a new value. -/
def State.setReg (s : State) (key : Nat) (v : Word) : Bool × State :=
  let page := key / 0x1000
  let o := key % 0x1000
  if key = Reg.CLK_GATE0 then (true, opGateWrite 0 v s)
  else if key = Reg.CLK_GATE1 then (true, opGateWrite 1 v s)
  else if key = Reg.CLK_GATE2 then (true, opGateWrite 2 v s)
  else if key = Reg.MEM_BALLAST then (true, s.setBallast v)
  else if key = Reg.MNT_CFG then (true, s.wr key (Word.setBit v 10))
  else if 0x50 ≤ page ∧ page < 0x54 ∧ (o = 0x40 ∨ o = 0x5C) then s.laneWrite (page - 0x50) key v
  else if key = Reg.UL_CFG 0 then (true, ((s.wr key v).portCheck 0).storeSetting key)
  else if key = Reg.UL_CFG 1 then (true, ((s.wr key v).portCheck 1).storeSetting key)
  else if key = Reg.TIM_CFG then (true, (s.wr key v).ptpSelect)
  else if page = 0x30 ∧ 0x40 ≤ o ∧ o < 0x50 then (true, s.inputConfig ((o - 0x40) / 4) v)
  else if page = 0x30 ∧ 0xB0 ≤ o ∧ o < 0xF0 then (true, s.lineConfig ((o - 0xB0) / 4) v)
  else (true, (s.setLive key v).storeSetting key)

/-- A live field is written within its range (R51): it waits for its boundary. A field that keeps its value, with no write
waiting, is not written. -/
def State.liveField (s : State) (key : Nat) (v : Word) (e : LiveEnt) : State :=
  let f : Fld := ⟨e.lsb, e.width⟩
  let waits := s.pln.live.any (fun p => p.addr == key && p.lsb == e.lsb && p.width == e.width)
  if v.get f = (s.rd key).get f ∧ !waits then s else s.liveWait key e (v.get f)

/-- A register of the running plan is written (R41, R52): of its listed, live fields one outside MIN to MAX is dropped with
LIVE_RANGE and keeps its value; the rest of the word is checked against the register's own ranges; the fields that are not
listed are locked. Whether the write stands. -/
def State.planWrite (s : State) (p : Plan) (key addr : Nat) (v0 : Word) : Bool × State :=
  let page := addr / 0x1000
  let es := p.live.filter (fun e => 0x1000 * e.page + e.off == addr)
  let old := s.rd key
  let far (e : LiveEnt) : Bool := v0.get ⟨e.lsb, e.width⟩ != old.get ⟨e.lsb, e.width⟩ && !e.takes (v0.get ⟨e.lsb, e.width⟩)
  let v := (es.filter far).foldl (fun w e => w.put ⟨e.lsb, e.width⟩ (old.get ⟨e.lsb, e.width⟩)) v0
  let s1 := (es.filter far).foldl (fun (a : State) _ => a.err page Err.LIVE_RANGE) s
  if !rangeOk addr old v || !s.pointsOk addr v then (false, s1.err page (rangeError page))
  else
    let locked := (List.range 32).any (fun b => Word.bit old b != Word.bit v b && (p.liveAt addr b).isNone)
    let s2 := if locked then s1.err page Err.LIVE_LOCKED else s1
    (true, (es.filter (fun e => !far e)).foldl (fun (a : State) e => a.liveField key v e) s2)

/-- An RW register outside the header is written by accessor `x` (R41, R51, R355, R362): whether the write stands. -/
def State.writeRw (s : State) (x addr : Nat) (v : Word) : Bool × State :=
  let page := addr / 0x1000
  if addr = Reg.CTX_MASK_DATA then
    let sel := s.rd Reg.CTX_MASK_SEL
    let g := sel.get ⟨0, 5⟩
    let fix := if g = 0 then Word.clrBit (Word.clrBit v 10) 11 else if g = 5 then Word.clrBit (Word.clrBit v 18) 19 else v
    let key := maskKey (sel.get ⟨5, 2⟩) g
    (true, (s.wr key (fix ^^^ maskDefault g)).storeSetting key)
  else
    let key := s.accessKey x addr
    let plain : Bool × State :=
      if !rangeOk addr (s.rd key) v || !s.pointsOk addr v then (false, s.err page (rangeError page)) else s.setReg key v
    match s.pln.run with
    | some p => if planKey key then s.planWrite p key addr v else plain
    | none => plain

/-- Writes that do not go into the shot-end copy as writes (R389, R397): what they do is copied as a release, a
resynchronisation, a trigger, an outcome or a switch, or concerns one hub of the pair. -/
def copiedOtherwise (addr : Nat) : Bool :=
  [Reg.PLN_CMD, Reg.FLT_CMD, Reg.SPL_POP_CTRL, Reg.SPL_MARK_CTRL, Reg.FLD_INJ_CMD, Reg.SHB_CMD].contains addr || addr / 0x1000 == 0x4D

/-- The context state that the copy carries as such (R389, R462): masks, IRQ_EN, selectors. -/
def State.contextKey (s : State) (x addr : Nat) : Option Nat :=
  if addr = Reg.CTX_MASK_DATA then
    some (maskKey ((s.rd Reg.CTX_MASK_SEL).get ⟨5, 2⟩) ((s.rd Reg.CTX_MASK_SEL).get ⟨0, 5⟩))
  else if 0x18 ≤ addr % 0x1000 ∧ addr % 0x1000 < 0x28 then some addr
  else if [Reg.FLT_CH_INDEX, Reg.LIN_CH_INDEX, Reg.ENV_CH_INDEX, Reg.SPL_SPOOL, Reg.TEL_RAIL_SEL].contains addr then
    some (copyKey addr x)
  else none

/-- A write that stood is copied to the standby (R33, R363, R389). Winch's own are not host writes. -/
def State.copyWrite (s : State) (x addr : Nat) (v : Word) : State :=
  if x = 4 then s
  else
    match s.contextKey x addr with
    | some key => s.copyItem (.ctx key (s.rd key))
    | none => if copiedOtherwise addr then s else s.copyItem (.write (whoOf x) addr v)

/-- A write that no access rule refuses acts on its register (R5, R6, R454): RO, RC and reserved offsets ignore it. -/
def State.commit (s : State) (x addr : Nat) (v0 : Word) : State :=
  match rowAt addr with
  | none => s
  | some r =>
    let v := v0 &&& r.mask
    let page := addr / 0x1000
    let o := addr % 0x1000
    match r.acc with
    | .ro => s
    | .rc => s
    | .wo => (s.command x addr v).copyWrite x addr v
    | .w1c =>
      if o = 0x14 then
        (s.wr (Reg.HDR_IRQ_RAW page) (s.rd (Reg.HDR_IRQ_RAW page) &&& ~~~ v)).copyWrite x addr v
      else (opLatchedRelease v s).copyWrite x addr v
    | .rw =>
      if o = 0x8 then (s.pageCtrl page v).copyWrite x addr v
      else if 0x18 ≤ o ∧ o < 0x28 then (s.irqEnable page ((o - 0x18) / 4) v).copyWrite x addr v
      else
        let w := s.writeRw x addr v
        if w.1 then w.2.copyWrite x addr v else w.2

/-! ### Windows -/

/-- A core's Loupe window, or none outside one (R299, R452). -/
def loupeCore (addr : Nat) : Option Nat :=
  if 0x50000000 ≤ addr ∧ addr < 0x50400000 ∧ addr % 0x40000 < 0x30000 then some ((addr - 0x50000000) / 0x40000) else none

/-- The owner of a scratch bank (R405): 0 none, 1 Winch, 16 + c Loupe core c. -/
def State.bankOwner (s : State) (b : Nat) : Nat := (s.rd (Reg.MEM_OWN (b / 4))).toNat / 2 ^ (8 * (b % 4)) % 256

/-- A bank in Ballast, or waking (R407). -/
def State.bankAsleep (s : State) (b : Nat) : Bool := Word.bit (s.rd Reg.MEM_RETAINED) b || Word.bit (s.rd Reg.MEM_WAKING) b

/-- MEM_BALLAST (R407). -/
def State.ballastHit (s : State) : State := (s.err 0x58 Err.MEM_BALLAST).raise 0x58 2

/-- The bytes of a segment as its buffer holds them while it waits for its copy (R260): the record header, the 32 payload
bytes before the items, then the items in ring slots. `i` is the segment's place among those that wait. -/
def State.segByte (s : State) (u i : Nat) (g : Segment) (q : Nat) : Option Byte :=
  let r : Rec := ⟨5, 6, u, (s.seqOf 6 u 5 + i) % 2 ^ 32, g.ref, g.payload⟩
  if q < 48 then (r.header ++ g.payload.take 32)[q]?
  else
    let C := s.capC u
    let slot := (q - 48) / g.itemBytes
    let j := (slot + C - g.rot) % C
    if C = 0 ∨ g.itemBytes = 0 ∨ C ≤ slot ∨ g.items ≤ j then none
    else g.payload[32 + j * g.itemBytes + (q - 48) % g.itemBytes]?

/-- A byte of segment memory that a waiting segment holds. -/
def State.segmentByte (s : State) (a : Nat) : Option Byte :=
  (List.range 32).findSome? (fun u =>
    let size := 64 * s.rf (Reg.SCUN_SIZE u) Fd.SCUN_SIZE_SEG_SIZE
    let cs := (s.unit u).copies
    (cs.zip (List.range cs.length)).findSome? (fun e =>
      if e.1.addr ≤ a ∧ a < e.1.addr + size then s.segByte u e.2 e.1 (a - e.1.addr) else none))

/-- A fault-log entry as its 32 bytes (R444). -/
def FaultEnt.bytes (e : FaultEnt) : List Byte :=
  let b := le8 e.ltc.toNat ++ le4 e.boot ++ le2 e.err ++ le2 e.page ++ le8 e.data ++ le4 e.uptime
  b ++ le4 (crc32c b)

/-- A byte of the flash window (R444, R452): of a fault-log entry where the ring holds one, else a free value, since the
spec gives no layout of the other partitions. -/
def State.flashByte (s : State) (o : Nat) : Byte :=
  let base := Config.faultBase.toNat
  let cap := Config.faultCap
  let n := s.nv.faults.length
  let free := Config.flashByte o s.free
  if o < base ∨ base + 32 * cap ≤ o then free
  else
    let i := ((o - base) / 32 + n + 2 * cap - s.nv.faultNext) % cap
    if cap ≤ i then free
    else
      match s.nv.faults[i]? with
      | some e => nth e.bytes ((o - base) % 32) 0
      | none => free

/-- A word of bytes, unlisted bytes taken from a free value. -/
def State.openBytes (s : State) (f : Nat → Option Byte) (a : Nat) : Word × State :=
  let w := wordBytes (Config.openWord s.free)
  (w32 (leNat ((List.range 4).map (fun i => (f (a + i)).getD (nth w i 0)))), s.fresh)

/-- A read in a window that `ok` opens to the accessor; refused it is 0 with DENIED (R452). -/
def State.gateRead (s : State) (allowed : Bool) (r : Word × State) : Nat × Word × State :=
  if allowed then (stOk, r.1, r.2) else (stDenied, 0, s.deny)

/-- A read of the memory windows by accessor `x` (R452). -/
def State.readWindow (s : State) (x addr : Nat) (ecc : PssRead) : Nat × Word × State :=
  if 0x10000000 ≤ addr ∧ addr < 0x10800000 then
    let b := (addr - 0x10000000) / 0x40000
    s.gateRead (s.mayAccess x 0x58 false) (if s.bankAsleep b then (0, s.ballastHit) else (s.rdWord addr, s))
  else if 0x10800000 ≤ addr ∧ addr < 0x10840000 then (stDenied, 0, s.deny.err 0x59 Err.DKR_DENIED)
  else if 0x20000000 ≤ addr ∧ addr < 0x21800000 then
    s.gateRead (s.mayAccess x 0x12 false) (s.snapWord x (addr - 0x20000000) ecc)
  else if 0x30000000 ≤ addr ∧ addr < 0x30C00000 then
    s.gateRead (s.mayAccess x 0x31 false) (s.openBytes s.segmentByte addr)
  else if 0x40000000 ≤ addr ∧ addr < 0x41000000 then
    s.gateRead (x == 0 || x == 4) (Config.spmRaw addr s.free, s.fresh)
  else if 0x60000000 ≤ addr ∧ addr < 0x68000000 then
    let o := addr - 0x60000000
    s.gateRead (s.mayAccess x 0x5C false) (w32 (leNat ((List.range 4).map (fun i => s.flashByte (o + i)))), s.fresh)
  else
    match loupeCore addr with
    | some c => s.gateRead (s.mayAccess x (0x1A0 + c) false) (if s.pageGated (0x1A0 + c) then 0 else s.rdWord addr, s)
    | none => (stRange, 0, s)

/-- A write in the scratch window (R405, R407). -/
def State.writeScratch (s : State) (x addr : Nat) (v : Word) : Nat × State :=
  let b := (addr - 0x10000000) / 0x40000
  let o := s.bankOwner b
  if x ≠ 0 ∧ x ≠ 4 then (stOwner, s)
  else if s.bankAsleep b then (stOk, s.ballastHit)
  else if 16 ≤ o ∧ o < 32 then (stOk, s.err (0x1A0 + (o - 16)) Err.LOUPE_RO)
  else if o = 1 ∧ x = 0 then (stOk, s.err 0x58 Err.MEM_OWNED)
  else (stOk, (s.wrWord addr v))

/-- A write in the memory windows (R452). -/
def State.writeWindow (s : State) (x addr : Nat) (v : Word) : Nat × State :=
  if 0x10000000 ≤ addr ∧ addr < 0x10800000 then
    let r := s.writeScratch x addr v
    if r.1 = stOk then (r.1, r.2.copyWrite x addr v) else r
  else if 0x10800000 ≤ addr ∧ addr < 0x10840000 then (stOk, s.err 0x59 Err.DKR_DENIED)
  else if 0x20000000 ≤ addr ∧ addr < 0x21800000 then (stOk, s.err 0x12 Err.PSS_RANGE)
  else
    match loupeCore addr with
    | some c => (stOk, if s.pageGated (0x1A0 + c) then s else s.err (0x1A0 + c) Err.LOUPE_RO)
    | none => (stRange, s)

/-! ### Registers -/

/-- Registers whose name ends in LO and that have a HI partner in the next word (R461), by page and offset. -/
def loReg (addr : Nat) : Bool :=
  let page := addr / 0x1000
  let o := addr % 0x1000
  if 0x100 ≤ page ∧ page < 0x140 then o == 0x64
  else if 0x140 ≤ page ∧ page < 0x160 then o == 0x60
  else if 0x50 ≤ page ∧ page < 0x54 then o == 0x54 || o == 0x68
  else if page = 0x48 ∨ page = 0x49 then o == 0x4C
  else
    [Reg.PLN_SWITCH_LTC_LO, Reg.PLN_ID_A_LO, Reg.PLN_ID_B_LO, Reg.FLD_OPEN_LO, Reg.FLD_SHORT_LO, Reg.FLD_OVR_LO,
      Reg.SPL_STALE_LO, Reg.CMP_IN_LO, Reg.CMP_OUT_LO, Reg.CLK_SW_LTC_LO, Reg.SLZ_SHED_LO, Reg.TIM_L0_LO, Reg.TIM_T0_LO,
      Reg.TIM_RATE_LO, Reg.TIM_GM_ID_LO, Reg.PAI_PARTNER_SN_LO, Reg.PAI_LAST_TO_LO, Reg.DKR_WIPE_LTC_LO,
      Reg.SYS_SERIAL_LO].contains addr

/-- The value of a register as accessor `x` sees it: computed, or the word held, without what a read does. -/
def State.regValue (s : State) (x addr : Nat) : Word :=
  match rowAt addr with
  | none => 0
  | some r =>
    if r.acc = .wo then 0
    else
      match s.view x (addr / 0x1000) (addr % 0x1000) with
      | some v => v
      | none =>
        match s.openReg addr with
        | some n => w32 ((Config.openWord s.free).toNat % 2 ^ n)
        | none => s.rd (s.accessKey x addr)

/-- Key of the latch that accessor `x` holds for a HI register (R461). -/
def latchKey (x addr : Nat) : Nat := x * 2 ^ 32 + addr

/-- A read of an assigned, ungated page that the masks allow (R5, R295, R461): the value and what the read does. -/
def State.regRead (s : State) (x addr : Nat) : Word × State :=
  let v := s.regValue x addr
  let s0 := if (s.openReg addr).isSome then s.fresh else s
  let key := s.accessKey x addr
  let rc : Bool := match rowAt addr with | some r => decide (r.acc = .rc) | none => false
  let s1 := if rc then s0.wr key 0 else s0
  let page := addr / 0x1000
  let s2 : State :=
    if 0x1A0 ≤ page ∧ addr = Reg.LPE_OVERRUNS (page - 0x1A0) then
      s1.setCore (page - 0x1A0) { s1.core (page - 0x1A0) with budSeen := false }
    else if addr = Reg.SPL_DATA then s1.setPop x { s1.pop x with data := (s1.pop x).data.drop 4 }
    else s1
  if loReg addr then
    let hi := latchKey x (addr + 4)
    (v, { s2 with latches := (hi, s.regValue x (addr + 4)) :: s2.latches.filter (fun e => e.1 != hi) })
  else
    match s2.latches.find? (fun e => e.1 == latchKey x addr) with
    | some e => (e.2, { s2 with latches := s2.latches.filter (fun l => l.1 != latchKey x addr) })
    | none => (v, s2)

/-- One aligned 32-bit read by accessor `x` (R355, R362, R452, R453): status, word, state. A gated page reads 0 (R339). -/
def State.readWord (s : State) (x addr : Nat) (ecc : PssRead) : Nat × Word × State :=
  if addr % 4 ≠ 0 then (stRange, 0, s)
  else if addr < 0x1000000 then
    let page := addr / 0x1000
    if (pageRows page).isNone then (stRange, 0, s)
    else if s.pageGated page then (stOk, 0, s)
    else if !s.mayAccess x page false then (stDenied, 0, s.deny)
    else
      let r := s.regRead x addr
      (stOk, r.1, r.2)
  else s.readWindow x addr ecc

/-- One aligned 32-bit write by accessor `x` (R355, R361, R362, R452): status and state. -/
def State.writeWord (s : State) (x addr : Nat) (v : Word) : Nat × State :=
  if addr % 4 ≠ 0 then (stRange, s)
  else if addr < 0x1000000 then
    let page := addr / 0x1000
    if (pageRows page).isNone then (stRange, s)
    else if s.pageGated page then (stOk, s)
    else
      match s.writeRefusal x addr with
      | some r => r
      | none => (stOk, s.commit x addr v)
  else s.writeWindow x addr v

/-- Register access is served from the end of the ramp on (R427). -/
def State.fabricUp (s : State) : Bool := decide (3 ≤ s.sys.step)

/-- A write by an accessor, with its answer. -/
def State.accessWrite (s : State) (who : Accessor) (addr : Nat) (v : Word) : State :=
  if !s.fabricUp then s
  else if who = .mgmt ∧ 0x1000000 ≤ addr then { s with ans := ⟨stRange, 0, []⟩ }
  else
    let r := s.writeWord (s.whoIdx who) addr v
    { r.2 with ans := ⟨r.1, 0, []⟩ }

/-- A read by an accessor, with its answer. -/
def State.accessRead (s : State) (who : Accessor) (addr : Nat) (ecc : PssRead) : State :=
  if !s.fabricUp then s
  else if who = .mgmt ∧ 0x1000000 ≤ addr then { s with ans := ⟨stRange, 0, []⟩ }
  else
    let r := s.readWord (s.whoIdx who) addr ecc
    { r.2.2 with ans := ⟨r.1, 0, if r.1 = stOk ∨ r.1 = stDenied then [r.2.1] else []⟩ }

/-! ### Commands of one word -/

/-- REGISTER_WRITE (R355). -/
def execRegisterWrite (who : Accessor) (addr : Nat) (v : Word) (s : State) : Host.Outcome State Fault Refusal :=
  ok (s.accessWrite who addr v).flushTrig

/-- LIVE_WRITE (R41, R51, R52). -/
def execLiveWrite (who : Accessor) (addr : Nat) (v : Word) (s : State) : Host.Outcome State Fault Refusal :=
  ok (s.accessWrite who addr v).flushTrig

/-- The RC registers that keep a largest value and not a count (R297, R307, R323, R420). -/
def keepsMax (addr : Nat) : Bool :=
  addr == Reg.CMP_MAX_WAIT || addr == Reg.MNT_MAX_WAIT ||
    (List.range 16).any (fun c => addr == Reg.LPE_CYC_MAX c || addr == Reg.LPE_QMAX c || addr == Reg.LPE_LAT_MAX c)

/-- READ_CLEAR (R5, R7): `ev` is what an event in the same cycle brings to the register, 0 for no event: the number of
events or the amount that it counts, or the value of which it keeps the largest. It is kept for the next read. -/
def opReadClear (who : Accessor) (addr : Nat) (ev : Word) (s : State) : State :=
  let s1 := s.accessRead who addr .clean
  if ev = 0 ∨ !s.fabricUp then s1
  else
    match rowAt addr with
    | some r =>
      let key := s1.accessKey (s1.whoIdx who) addr
      if r.acc ≠ .rc then s1 else if keepsMax addr then s1.keepMax key ev.toNat else s1.countN key ev.toNat
    | none => s1

def execReadClear (who : Accessor) (addr : Nat) (ev : Word) (s : State) : Host.Outcome State Fault Refusal :=
  ok (opReadClear who addr ev s)

/-- LO_READ and HI_READ (R461). -/
def execLoRead (who : Accessor) (addr : Nat) (s : State) : Host.Outcome State Fault Refusal :=
  ok (s.accessRead who addr .clean)
def execHiRead (who : Accessor) (addr : Nat) (s : State) : Host.Outcome State Fault Refusal :=
  ok (s.accessRead who addr .clean)

/-- IRQ_CLR_WRITE (R454, R455): bits of `ev` are set by their events in the same cycle and stay set. -/
def opIrqClr (who : Accessor) (page : Nat) (v ev : Word) (s : State) : State :=
  let raw := s.rd (Reg.HDR_IRQ_RAW page)
  let s1 := s.accessWrite who (Reg.HDR_IRQ_CLR page) v
  if ev = 0 ∨ (pageRows page).isNone then s1
  else
    let s2 := s1.wr (Reg.HDR_IRQ_RAW page) (s1.rd (Reg.HDR_IRQ_RAW page) ||| (raw &&& ev))
    iter 32 (fun b (a : State) => if Word.bit ev b then a.raise page b else a) s2

def execIrqClrWrite (who : Accessor) (page : Nat) (v ev : Word) (s : State) : Host.Outcome State Fault Refusal :=
  ok (opIrqClr who page v ev s)

/-- IRQ_EN_WRITE (R455). -/
def execIrqEnWrite (who : Accessor) (page : Nat) (x : Fin 4) (v : Word) (s : State) : Host.Outcome State Fault Refusal :=
  ok (s.accessWrite who (Reg.HDR_IRQ_EN_C page x.val) v)

/-- PAGE_CTRL_WRITE (R457). -/
def execPageCtrlWrite (who : Accessor) (page : Nat) (v : Word) (s : State) : Host.Outcome State Fault Refusal :=
  ok (s.accessWrite who (Reg.HDR_PAGE_CTRL page) v)

/-- SNAPSHOT_READ (R119, R120). -/
def execSnapshotRead (who : Accessor) (addr : Nat) (ecc : PssRead) (s : State) : Host.Outcome State Fault Refusal :=
  ok (s.accessRead who addr ecc)

/-- SCHED_CFG_WRITE and SCHED_AT_WRITE (R251). -/
def execSchedCfgWrite (who : Accessor) (k : Fin 8) (v : Word) (s : State) : Host.Outcome State Fault Refusal :=
  ok (s.accessWrite who (Reg.SHB_SCHED_CFG k.val) v).flushTrig
def execSchedAtWrite (who : Accessor) (k : Fin 8) (v : Word) (s : State) : Host.Outcome State Fault Refusal :=
  ok (s.accessWrite who (Reg.SHB_SCHED_AT k.val) v).flushTrig

/-- BALLAST_WRITE (R407). -/
def execBallastWrite (who : Accessor) (v : Word) (s : State) : Host.Outcome State Fault Refusal :=
  ok (s.accessWrite who Reg.MEM_BALLAST v)

/-! ### Blocks of words -/

/-- Read up to `n` words from `addr` on (R355): status and index of the first refusal, 0 for none, and the words before
it. -/
def State.readWords (s : State) (x addr : Nat) (ecc : List PssRead) : Nat → Nat → List Word → Nat × Nat × List Word × State
  | 0, _, ws => (stOk, 0, ws, s)
  | n + 1, i, ws =>
    let r := s.readWord x (addr + 4 * i) (nth ecc i .clean)
    if r.1 = stOk then r.2.2.readWords x addr ecc n (i + 1) (ws ++ [r.2.1]) else (r.1, i, ws, r.2.2)

/-- A word of context `x` loses to the write that it meets (R363, R460): to Winch's, or to a lower context's of other data. -/
def metLost (m : Met) (x : Nat) : Bool := m.other.val == 4 || (!m.equal && decide (m.other.val < x))

/-- Write words from `addr` on (R355, R363, R460): `met` are the words that meet another source's write in the same cycle.
One that loses counts and stops the operation; one of equal data is written once, by the other write. -/
def State.writeWords (s : State) (x addr : Nat) (met : List Met) : List Word → Nat → Nat × Nat × State
  | [], _ => (stOk, 0, s)
  | w :: ws, i =>
    match met.find? (fun m => m.word == i) with
    | some m =>
      if metLost m x then (stLost, i, s.count (Reg.CTX_WLOST_C (x % 4)))
      else if m.equal then s.writeWords x addr met ws (i + 1)
      else
        let r := s.writeWord x (addr + 4 * i) w
        if r.1 = stOk then r.2.writeWords x addr met ws (i + 1) else (r.1, i, r.2)
    | none =>
      let r := s.writeWord x (addr + 4 * i) w
      if r.1 = stOk then r.2.writeWords x addr met ws (i + 1) else (r.1, i, r.2)

/-- ADDR and COUNT of a register message, or of a management port transaction, can be served (R355, R364). -/
def blockOkay (addr count : Nat) : Bool := decide (count ≤ 256) && (addr % 4 == 0 || count == 0)

/-- The body of REG_RESP (R350): STATUS, 0, INDEX, words. -/
def regResp (st idx : Nat) (ws : List Word) : List Byte := by1 st ++ by1 0 ++ le2 idx ++ ws.flatMap wordBytes

/-- REG_READ (R350, R355): `ecc` is what the reads of its words meet in the snapshot window (R116). -/
def opRegRead (m : SlzMsg) (ecc : List PssRead) (s : State) : State :=
  s.slzReceive 0x10 m (fun b => b.length == 8 && fieldAt b 6 2 == 0) (fun (a : State) =>
    let addr := fieldAt m.body 0 4
    let n := fieldAt m.body 4 2
    if !blockOkay addr n then (a, 0x90, regResp stRange 0 [])
    else
      let r := a.readWords m.ctx addr ecc n 0 []
      (r.2.2.2, 0x90, regResp r.1 r.2.1 r.2.2.1))

def execRegRead (m : ReadMsg) (s : State) : Host.Outcome State Fault Refusal := ok (opRegRead m.msg m.ecc s)

/-- REG_WRITE (R350, R351, R355, R363, R390). -/
def opRegWrite (m : SlzMsg) (met : List Met) (s : State) : State :=
  s.slzReceive 0x11 m
    (fun b => decide (8 ≤ b.length) && fieldAt b 6 2 == 0 && b.length == 8 + 4 * fieldAt b 4 2)
    (fun (a : State) =>
      let addr := fieldAt m.body 0 4
      let n := fieldAt m.body 4 2
      if 2 ≤ a.role then (a, 0x90, regResp stStandby 0 [])
      else if !blockOkay addr n then (a, 0x90, regResp stRange 0 [])
      else
        let r := a.writeWords m.ctx addr met ((wordsOf (m.body.drop 8)).map w32) 0
        (r.2.2, 0x90, regResp r.1 r.2.1 [])) true

def execRegWrite (m : SlzMsg) (met : List Met) (s : State) : Host.Outcome State Fault Refusal :=
  ok (opRegWrite m met s).flushTrig

/-! ### The management port -/

/-- The STATUS byte of a transaction (R364): status of the one before, and IRQ pending. -/
def State.mspiStatus (s : State) : List Byte := by1 (s.sys.mspi % 16 + 128 * b2n s.irqLow)

/-- A transaction ends: what MISO carried after STATUS, and the status that the next one reports. -/
def State.mspiEnd (s : State) (first : List Byte) (rest : List Byte) (st : Nat) : State :=
  { s.emitOut (.mspi (first ++ rest)) with sys := { s.sys with mspi := st } }

/-- MSPI_READ (R364): `got` words fit before MSPI_CS_N rises. -/
def opMspiRead (addr count got : Nat) (s : State) : State :=
  if !s.fabricUp then s
  else
    let x := s.mgmtCtx
    let head := s.mspiStatus
    if count = 0 then s.mspiEnd head (List.replicate 6 0) stOk
    else if !blockOkay addr count ∨ 0x1000000 < addr + 4 * count then
      let n := min got ((0x1000000 - addr) / 4)
      if !blockOkay addr count then s.mspiEnd head (List.replicate 10 0) stRange
      else
        let r := s.readWords x addr [] (min n count) 0 []
        { r.2.2.2.mspiEnd head (List.replicate 10 0 ++ r.2.2.1.flatMap wordBytes)
            (if r.1 = stOk ∧ n < got then stRange else r.1) with ans := ⟨r.1, r.2.1, r.2.2.1⟩ }
    else
      let r := s.readWords x addr [] (min got count) 0 []
      { r.2.2.2.mspiEnd head (List.replicate 10 0 ++ r.2.2.1.flatMap wordBytes) r.1 with ans := ⟨r.1, r.2.1, r.2.2.1⟩ }

def execMspiRead (addr count got : Nat) (s : State) : Host.Outcome State Fault Refusal := ok (opMspiRead addr count got s)

/-- MSPI_WRITE (R364): each word is performed as its fourth byte arrives; a word cut short is dropped. -/
def opMspiWrite (addr count : Nat) (data : List Byte) (met : List Met) (s : State) : State :=
  if !s.fabricUp then s
  else
    let head := s.mspiStatus
    let ws := (wordsOf (data.take (data.length / 4 * 4))).map w32
    let n := min ws.length count
    let miso := List.replicate (if count = 0 then 6 else 6 + data.length) 0
    if count = 0 then s.mspiEnd head miso stOk
    else if !blockOkay addr count then s.mspiEnd head miso stRange
    else
      let fit := (0x1000000 - addr) / 4
      let r := s.writeWords s.mgmtCtx addr met ((ws.take n).take fit) 0
      { r.2.2.mspiEnd head miso (if r.1 = stOk ∧ fit < n then stRange else r.1) with ans := ⟨r.1, r.2.1, []⟩ }

def execMspiWrite (addr count : Nat) (data : List Byte) (met : List Met) (s : State) : Host.Outcome State Fault Refusal :=
  ok (opMspiWrite addr count data met s).flushTrig

/-- MSPI_TIMEOUT (R35, R364): the transaction is aborted and MSPI_TIMEOUT is reported. The spec names neither its code
nor its page: the code is a free value of class BLOCK, reported on the CTX page. -/
def opMspiTimeout (s : State) : State :=
  if !s.fabricUp then s else (s.err 0x8 (0x6000 + (Config.openWord s.free).toNat % 0x1000)).fresh

def execMspiTimeout (s : State) : Host.Outcome State Fault Refusal := ok (opMspiTimeout s)

end Sys2Proof.Machine
end

