-- ==== Sys2Proof/Machine/Pair.lean ====
section
/-!
DEFINITION. The meanings of the pair commands: heartbeats and training, the shadow feed, the shot-end copy, health,
joining and resynchronisation, claims, handover (R32, R383 to R400).
-/

namespace Sys2Proof.Machine

/-! ### Tether messages -/

/-- A tether message that arrives on a lane: discarded and counted when its check fails (R386). -/
def State.tetherIn (s : State) (i : Nat) (crcOk : Bool) (f : State → State) : State :=
  if !s.isPair || !(s.tlane i).block then s
  else if !crcOk then (s.count Reg.TTH_MSG_ERR).setTlane i { s.tlane i with run := 0 }
  else f s

/-- The same for a kind that only a trained lane carries (R386). -/
def State.tetherUp (s : State) (i : Nat) (crcOk : Bool) (f : State → State) : State :=
  s.tetherIn i crcOk (fun a => if (a.tlane i).up then f a else a)

/-- A standby shadows from the moment it joins (R388, R398). -/
def State.shadows (s : State) : Bool := s.role == 2 && s.syncState != 0

/-! ### Heartbeats -/

/-- TETHER_BLOCK_LOCK: a locked lane that is in service finds block lock (R384). -/
def opTetherBlockLock (i : Nat) (s : State) : State :=
  if !s.isPair ∨ s.laneOut (i + 2) ∨ !s.flag (Reg.LN_STAT (i + 2)) Fd.LN_STAT_CDR_LOCK ∨ (s.tlane i).block then s
  else s.setTlane i { TethLane.init with block := true }

def execTetherBlockLock (lane : Fin 2) (s : State) : Host.Outcome State Fault Refusal := ok (opTetherBlockLock lane.val s)

/-- The HB that the hub sends on a lane (R384, R386). -/
def State.hbOf (s : State) (i : Nat) : HbMsg :=
  let l := s.tlane i
  let noSource := s.inHoldover || !s.flag Reg.CLK_STAT Fd.CLK_STAT_VALID
  { role := if l.up then s.role else 4
    sync := s.syncState
    serial := s.nv.serial
    pref := s.flag Reg.PAI_CFG Fd.PAI_CFG_PREF
    source := if noSource then 3 else s.selected
    holdover := s.inHoldover
    park := s.parked
    since := if s.role = 1 then s.pai.since else 0
    tx := s.ltc
    echo := l.tx
    hold := s.ltc.toNat - l.arr.toNat
    ack := s.pai.acked
    health := s.rd Reg.PAI_HEALTH
    handover := s.pai.handover
    ask := s.pai.ask
    ip := (s.rd Reg.SLZ_IP_ADDR).toNat
    udp := s.nv.udp % 65536 }

/-- HOLD_HANDOVER (R397): the active hub has entered holdover, and the standby in sync has a clock source of its own. -/
def State.holdHandover (s : State) : State :=
  if s.inHoldover && s.flag Reg.PAI_CFG Fd.PAI_CFG_HOLD_HANDOVER && !Word.bit (s.rd Reg.PAI_PARTNER_HEALTH) 4 then s.startHandover
  else s

/-- HB_SEND (R384, R386): an HB on each lane with block lock, and a beat on PAIR_HB_TX. -/
def opHbSend (s : State) : State :=
  if !s.isPair ∨ s.pai.silent then s
  else
    let s1 := s.holdHandover
    let s2 := iter 2 (fun i (a : State) => if (a.tlane i).block then a.sendTether i 1 (.hb (a.hbOf i)) else a) s1
    s2.emitOut (.pin 3 1 s2.ltc)

def execHbSend (s : State) : Host.Outcome State Fault Refusal := ok (opHbSend s)

/-- The partner is no standby any more: nothing is copied, and no response waits (R390). -/
def State.noStandby (s : State) : State :=
  let s1 := (s.setSync 0).sendHeld (s.pai.copyNo + 1)
  { s1 with pai := { s1.pai with joinSent := false, pSlots := none, ops := [] } }

/-- Registers a joining standby takes over: those the plan loads, context state, the mapping, the selected notch set and
band, and what schedulers have left (R389, R398). -/
def joinKey (k : Nat) : Bool :=
  let base := if 0x1000000 ≤ k then k % 0x1000000 else k
  planKey k ||
    [Reg.CTX_MASK_DATA, Reg.FLT_CH_INDEX, Reg.LIN_CH_INDEX, Reg.ENV_CH_INDEX, Reg.SPL_SPOOL, Reg.TEL_RAIL_SEL, Reg.TIM_L0_LO,
      Reg.TIM_L0_HI, Reg.TIM_T0_LO, Reg.TIM_T0_HI, Reg.TIM_RATE_LO, Reg.TIM_RATE_HI, Reg.TIM_MAP_NO, Reg.FLT_NOTCH,
      Reg.THC_BAND].contains base ||
    (List.range 8).any (fun i => k == Reg.SHB_SCHED_LEFT i) ||
    (decide (k < 0x1000000) && decide (0x18 ≤ k % 0x1000) && decide (k % 0x1000 < 0x28))

/-- What a joining standby takes from the active hub (R55, R398): the plan where its image differs, the epoch, registers
and counters, and every lane with its stored items as placeholders. -/
def State.sendJoin (s : State) : State :=
  let i := s.pln.slot
  let same : Bool := match s.pai.pSlots with
    | some x => (if i = 0 then x.1.2 else x.2.1.2) == (s.slotDigest i).2
    | none => false
  let s1 := if s.pln.run.isNone || same then s else s.sendLane 1 7 (.bulk (.plan i 0 (s.slot i).image true))
  let cycles := (List.range 16).map (fun P => (P, (s.port P).cycBase))
  let s2 := s1.sendSlots.sendLane 1 7
    (.bulk (.join s.sched.epoch (s.regs.filter (fun e => joinKey e.1)) s.seqs cycles s.upl.twoPort))
  let s3 := s.lanes.foldl (fun (a : State) e =>
    let l := e.2
    a.sendLane 1 7 (.bulk (.lane e.1 l.rel l.mark l.rd l.wr (l.items.map (fun it =>
      ⟨it.size, it.record.kind, it.record.cls, it.record.idx, it.record.seq, it.record.ref⟩))))) s2
  let s4 := s3.sendLane 1 7 (.bulk .lanesEnd)
  let s5 := iter 16 (fun P (a : State) => (a.port P).nodes.foldl (fun (b : State) e =>
    if e.2.assigned then b.tellNode P e.1 else b) a) s4
  { s5 with pai := { s5.pai with joinSent := true } }

/-- The active hub takes up what its partner's HB says (R389, R390, R397, R398). -/
def State.hbToActive (s : State) (hb : HbMsg) : State :=
  if hb.role ≠ 2 ∨ hb.sync = 0 then (if s.syncState = 0 then s else s.noStandby)
  else
    let s1 : State := if s.syncState = hb.sync then s
      else
        let a := s.setSync hb.sync
        if hb.sync = 1 then { a with pai := { a.pai with joinSent := false, prog := SyncState.init } }
        else if hb.sync = 2 then { a with pai := { a.pai with prog := SyncState.init } }
        else a
    let s2 := { s1 with pai := { s1.pai with acked := hb.ack } }.sendHeld hb.ack
    let s3 := if hb.sync = 1 && !s2.pai.joinSent && s2.pai.pSlots.isSome then s2.sendJoin else s2
    if hb.ask then s3.startHandover else s3

/-- The standby compares the partner's LTC with its own (R392): three slips in a row lead to a full reset. -/
def State.slipCheck (s : State) (hb : HbMsg) : State :=
  let mine := s.ltc - BitVec.ofNat 64 (s.rf Reg.TTH_DELAY ⟨0, 12⟩)
  if mine = hb.tx then { s with pai := { s.pai with slip := 0 } }.healthBit 5 false
  else
    let s1 := { s with pai := { s.pai with slip := s.pai.slip + 1 } }.healthBit 5 true
    if s1.pai.slip < 3 then s1
    else ((s1.sendBoth 6 (.health (s1.rd Reg.PAI_HEALTH))).logFault Err.PAI_HEALTH 0x4D 0x20).fullReset 8 0

/-- A joining standby takes its LTC start value from the active hub, before its first shadowed shot (R14, R398). -/
def State.takeLtc (s : State) (hb : HbMsg) : State :=
  { s with
    ltc := hb.tx + BitVec.ofNat 64 (s.rf Reg.TTH_DELAY ⟨0, 12⟩)
    pai := { s.pai with ltcTaken := true, slip := 0 }
    shb := { s.shb with lineCycle := List.replicate 16 0, lineUntil := List.replicate 16 0, recent := [], lastFwd := 0 } }

/-- The standby takes up what its partner's HB says (R392, R397, R398). -/
def State.hbToStandby (s : State) (hb : HbMsg) : State :=
  if hb.role ≠ 1 then s
  else
    let s1 : State := match hb.handover with
      | some b => { s with pai := { s.pai with handover := some b } }.wf Reg.PAI_STAT Fd.PAI_STAT_HANDOVER_PEND 1
      | none => s
    if s1.pai.ltcTaken then s1.slipCheck hb else if s1.syncState = 1 then s1.takeLtc hb else s1

/-- What an HB says, on either hub: the partner's role and clock (R332, R383, R403). -/
def State.hbKnown (s : State) (hb : HbMsg) : State :=
  let s1 := if hb.role ≤ 3 then s.wf Reg.PAI_STAT Fd.PAI_STAT_PARTNER_ROLE hb.role else s
  let s2 := { s1 with pai := { s1.pai with pSince := hb.since, pPref := hb.pref, pAsk := hb.ask } }
  let s3 := s2.holdLn2 (decide (hb.source = 2) || hb.holdover || hb.park)
  if s3.role = 1 then s3.hbToActive hb else if s3.role = 2 then s3.hbToStandby hb else s3

/-- An HB with valid CRC: training (R384), then roles, and a hub that begins to join tells how its slots stand (R55). -/
def State.hbTaken (s : State) (i : Nat) (hb : HbMsg) : State :=
  let l := s.tlane i
  let same := l.serial = hb.serial
  let l1 : TethLane := { l with
    run := if same then l.run + 1 else 1
    serial := hb.serial
    echoed := (l.echoed && decide same) || hb.echo.isSome
    tx := some hb.tx, arr := s.ltc, miss := 0 }
  let a := s.setTlane i l1
  let s1 := { a with pai := { a.pai with tMiss := 0 } }
  let s2 := if s1.tthState = 0 then s1 else s1.trainHb i hb
  if !(s2.tlane i).up then s2
  else
    let s3 := s2.settleRole hb
    let s4 := if s3.role = 2 ∧ s3.syncState = 1 ∧ (s2.role ≠ 2 ∨ s2.syncState ≠ 1) then s3.sendSlots else s3
    s4.hbKnown hb

/-- HB (R384, R386). -/
def opHb (i : Nat) (crcOk : Bool) (hb : HbMsg) (s : State) : State := s.tetherIn i crcOk (fun a => a.hbTaken i hb)

def execTetherHb (lane : Fin 2) (crcOk : Bool) (hb : HbMsg) (s : State) : Host.Outcome State Fault Refusal :=
  ok (opHb lane.val crcOk hb s)

/-- PAIR_HB_BEAT (R32, R394): the beat arrives; with both tether lanes lost the tether is down. -/
def opPairHbBeat (s : State) : State :=
  if !s.isPair then s
  else
    let s1 := { s with pai := { s.pai with pMiss := 0 } }
    if 4 ≤ s1.pai.tMiss then s1.tetherDown else s1

def execPairHbBeat (s : State) : Host.Outcome State Fault Refusal := ok (opPairHbBeat s)

/-- An HB of a lane is missing (R384). -/
def State.laneMiss (s : State) (i : Nat) : State :=
  let l := s.tlane i
  if !l.block then s
  else
    let s1 := s.setTlane i { l with miss := l.miss + 1, run := 0 }
    if l.up && decide (4 ≤ l.miss + 1) then s1.laneLost i true else s1

/-- Acceptance windows that closed empty together (R32, R386): each lane's, and that of PAIR_HB. -/
def State.missed (s : State) (l0 l1 beat : Bool) : State :=
  let tether := (l0 || !(s.tlane 0).up) && (l1 || !(s.tlane 1).up)
  let s1 := if l0 then s.laneMiss 0 else s
  let s2 := if l1 then s1.laneMiss 1 else s1
  let s3 := if tether then { s2 with pai := { s2.pai with tMiss := s2.pai.tMiss + 1 } }.count Reg.TTH_HB_MISS else s2
  if beat then { s3 with pai := { s3.pai with pMiss := s3.pai.pMiss + 1 } }.count Reg.TTH_PHB_MISS else s3

/-! ### Forwarded field results, and the takeover -/

/-- The standby's own raw result against the forwarded word of FCH.LAST (R191, R392): more than FS/256 apart, on 16
consecutive ticks. -/
def State.compareField (s : State) (n : Nat) (w : Word) : State :=
  let x := s.fch n
  let code := signed 18 (w.toNat % 2 ^ 18)
  let r := w.toNat / 2 ^ 18 % 8
  let tag := w.toNat / 2 ^ 24 % 16
  let apart : Bool := match x.conv with
    | some v => tag != 7 && tag != 8 && decide (512 * 4 ^ (4 - r) < (v.code * 4 ^ (4 - v.range) - code * 4 ^ (4 - r)).natAbs)
    | none => false
  let k := if apart then NMap.get (fun _ => 0) s.pai.mism n + 1 else 0
  let s1 := s.setFch n { x with conv := none, badConv := false }
  let s2 := { s1 with pai := { s1.pai with mism := NMap.set (fun _ => 0) s1.pai.mism n k } }
  if k = 16 then (s2.wr Reg.PAI_HEALTH (Word.put (s2.rd Reg.PAI_HEALTH) ⟨8, 6⟩ n)).healthBit 1 true else s2

/-- A forwarded result of tick k passes to the standby's chain (R191). -/
def State.forwarded (s : State) (k : Nat) (hold : Time) (e : Nat × Word) : State :=
  let w := e.2.toNat
  let tag := w / 2 ^ 24 % 16
  let sub := w / 2 ^ 28 % 16
  let x := s.fch e.1
  -- SUB stops at 15: beyond it the standby's own count says how many SETTLE results are left
  let rem := if tag ≠ 1 then 0 else if sub = 15 then max 15 (x.settle - 1) else sub
  ((s.setFch e.1 { x with settle := if tag = 1 then rem else x.settle - 1 }).compareField e.1 e.2).passResult e.1 k hold
    (signed 18 (w % 2 ^ 18)) (w / 2 ^ 18 % 8) tag sub rem

/-- The chains' part of tick boundary k on the standby (R166, R191, R213, R388). -/
def State.feedTick (s : State) (k : Nat) (hold : Time) (die : Word) (results : List (Nat × Word)) : State :=
  if s.fieldTick = 0 then s
  else
    let t := s.atPeriod k s.fieldTick
    let h := (hold.toNat - s.sched.epoch.toNat) / s.fieldTick
    let s1 := s.latchField die
    let s2 := if hold = 0 then s1 else (results.foldl (fun (a : State) e => a.forwarded h hold e) s1).tapField hold
    let s2 := { s2 with pai := { s2.pai with fedTick := some (if hold = 0 then k else h + 1) } }
    let s3 := s2.healthBit 1 (s2.pai.mism.any (fun e => decide (16 ≤ e.2)))
    ((s3.liveBoundaryApply 2 t chainLive).resyncField k t).notchBoundary t

/-- The word of a raw field result that never came: the previous value, tagged STALE. -/
def State.staleResult (s : State) (n : Nat) : Word :=
  w32 (unsigned 18 (s.fch n).prevCode + 2 ^ 18 * (s.fch n).prevRange + 2 ^ 24 * 9)

/-- The field ticks whose forwarded results never came, up to the last but one hold taken here, enter the chains STALE; the
records that end with them are lost (R32, R393). The last hold's own results pass at the next tick boundary. -/
def State.loseTicks (s : State) : State :=
  match s.pai.fedTick with
  | none => s
  | some h0 =>
    let from_ := (List.range 64).filter (fun n => s.conn n != 0)
    let s1 := iter (s.sched.tickNo - 1 - h0) (fun i (a : State) =>
      a.feedTick (h0 + i + 1) (a.atPeriod (h0 + i) a.fieldTick) a.dieC (from_.map (fun n => (n, a.staleResult n))))
      { s with pai := { s.pai with lost := true } }
    { s1 with pai := { s1.pai with lost := false } }

/-- The standby declares failure and takes over (R32, R393): it completes what has been forwarded, and up to the bound of
R32 launches are not performed. -/
def State.takeover (s0 : State) : State :=
  let s := s0.completeFed.loseTicks
  let t := s.ltc
  let s1 := { s with
    ltc := s.ltc + 64, pai := { s.pai with quietTo := t + 16245, claimTo := some (t + BitVec.ofNat 64 tickS), handover := none } }
  let s2 := (s1.wf Reg.PAI_STAT Fd.PAI_STAT_HANDOVER_PEND 0).resumeLanes.takeRole t
  let s3 := ((s2.setSync 0).wf Reg.PAI_STAT Fd.PAI_STAT_PARTNER_SEEN 0).err 0x4d Err.PAI_TAKEOVER
  let s4 := s3.loseRuns
  let s5 : State := match s4.tmp.shot with
    | some (n, L) => { s4 with tmp := { s4.tmp with cur := s4.tmp.cur.flag 9 } }.ramanEnd n L
    | none => s4
  let s6 := s5.tapUnits (fun u a => if (a.unit u).acc.isSome then (a.cutSegment u (a.capPeriod u) 132).capHeld u (a.capPeriod u) else a)
  s6.ownTriggers

/-! ### Missing heartbeats and training -/

/-- HEARTBEAT_MISS (R32, R393, R394): four missing on both paths and the standby takes over; on the tether alone, the
tether is down; on PAIR_HB alone, PAI_HB_LOST. -/
def opHeartbeatMiss (l0 l1 beat : Bool) (s : State) : State :=
  if !s.isPair ∨ s.tthState < 2 then s
  else
    let a := s.missed l0 l1 beat
    let t := decide (4 ≤ a.pai.tMiss)
    let p := decide (4 ≤ a.pai.pMiss)
    if t && p then
      (if a.role = 2 ∧ a.syncState ≠ 0 then a.takeover.tetherDown
       else if a.role = 1 ∧ a.syncState ≠ 0 then a.noStandby.tetherDown
       else a)
    else if t && a.pai.pMiss == 0 then a.tetherDown
    else if beat && a.pai.pMiss == 4 then a.err 0x4D Err.PAI_HB_LOST
    else a

def execHeartbeatMiss (l0 l1 beat : Bool) (s : State) : Host.Outcome State Fault Refusal := ok (opHeartbeatMiss l0 l1 beat s).flushTrig

/-- TETHER_TRAIN_TIMEOUT (R383): neither lane has trained in 10 ms. -/
def opTrainingTimeout (s : State) : State :=
  if !s.isPair ∨ s.anyLane ∨ s.tthState ≠ 1 then s
  else ((s.setTth 0).count Reg.TTH_TRAIN_FAIL).trainFail Err.TTH_TRAIN

def execTetherTrainTimeout (s : State) : Host.Outcome State Fault Refusal := ok (opTrainingTimeout s).flushTrig

/-- TETHER_TRAIN_RETRY (R383): 1 s later training starts again. -/
def opTrainingRetry (s : State) : State :=
  if !s.isPair ∨ s.anyLane ∨ s.tthState ≠ 0 then s
  else iter 2 (fun i (a : State) => a.setTlane i { a.tlane i with run := 0, echoed := false }) (s.setTth 1)

def execTetherTrainRetry (s : State) : Host.Outcome State Fault Refusal := ok (opTrainingRetry s)

/-! ### The shadow feed -/

/-- The launch that a FEED_F belongs to has begun here. -/
def State.feedKnown (s : State) (f : FeedF) : Bool :=
  if s.fenActive then decide (f.launch.toNat ≤ s.fib.cur.launch.toNat) else s.tmp.lastNo == some f.shot

/-- FEED_F (R66, R94, R152, R388): Z and Raman samples of a launch; the first message of a launch begins it on the standby.
A shot that its interlock darkens later is dark from the point, or the Raman sample, that is first forwarded so. -/
def State.feedFibre (s : State) (f : FeedF) : State :=
  if !s.shadows then s
  else
    let s1 := if s.feedKnown f then s else (s.advance f.launch).launchSlot f.shot f.slot f.launch f.dark f.holdover
    let put (r : FibRun) : FibRun := if r.live && r.launch == f.launch && r.slot == f.slot then
        { r with
          darkFrom := if f.dark && !r.dark then r.darkFrom <|> (f.z.head?).map (fun e => e.2.1) else r.darkFrom
          satFrom := if f.sat then r.satFrom <|> (f.z.head?).map (fun e => e.2.1) else r.satFrom
          fed := f.z.foldl (fun m (e : Nat × Nat × Int × Int) =>
          NMap.insert (2 ^ 20 * e.1 + e.2.1) (Cplx.mk e.2.2.1 e.2.2.2) (NMap.erase (2 ^ 20 * e.1 + e.2.1) m)) r.fed }
      else r
    let s2 := { s1 with fib := { s1.fib with cur := put s1.fib.cur, older := s1.fib.older.map put } }
    let s3 := if f.dark && f.raman != [] then s2.darkenRaman f.shot else s2
    f.raman.foldl (fun (a : State) (e : Nat × Nat) => a.ramanSample e.1 e.2) s3

def opFeedF (i : Nat) (crcOk : Bool) (f : FeedF) (s : State) : State := s.tetherUp i crcOk (fun a => a.feedFibre f)

def execTetherFeedF (lane : Fin 2) (crcOk : Bool) (f : FeedF) (s : State) : Host.Outcome State Fault Refusal :=
  ok (opFeedF lane.val crcOk f s).flushTrig

/-- Words of a node channel that the active hub decoded (R242); words that have been tagged STALE stay so. -/
def State.feedNode (s : State) (n j : Nat) (ws : List Word) : State :=
  let P := n / 32
  let c := n % 32
  if s.slotNode P c = 0 ∨ j < nth (s.port P).nextIn c 0 then s
  else (s.nodeWords n j ws).onPort P (fun x => { x with nextIn := setAt x.nextIn c (j + 1) })

/-- FEED_W (R191, R213, R242, R386). -/
def State.feedWire (s : State) (f : FeedW) : State :=
  if !s.shadows then s
  else
    let s1 : State := match f.field with
      | some (k, hold, die) => s.feedTick k hold die f.results
      | none => s
    let s2 : State := match f.latch with
      | some (t, die) => s1.nodeBoundary t die
      | none => s1
    f.nodes.foldl (fun (a : State) e => a.feedNode e.1 e.2.1 e.2.2) s2

/-- FEED_W to the active hub: words of far nodes from the partner's second ends (R240). -/
def State.farFeed (s : State) (f : FeedW) : State :=
  f.nodes.foldl (fun (a : State) e => a.farWords e.1 e.2.1 e.2.2) s

def opFeedW (i : Nat) (crcOk : Bool) (f : FeedW) (s : State) : State :=
  s.tetherUp i crcOk (fun a => if a.role = 1 then a.farFeed f else a.feedWire f)

def execTetherFeedW (lane : Fin 2) (crcOk : Bool) (f : FeedW) (s : State) : Host.Outcome State Fault Refusal :=
  ok (opFeedW lane.val crcOk f s).flushTrig

/-- The partner's trigger reaches the lines that take its line (R247, R265). -/
def State.partnerLines (s : State) (t : Trigger) : State :=
  if s.role = 1 ∨ s.role = 2 then
    s.issue (((List.range 16).filter (fun m =>
      s.flag (Reg.SHB_LINE_CFG m) Fd.SHB_LINE_CFG_PART_EN && s.rf (Reg.SHB_LINE_CFG m) Fd.SHB_LINE_CFG_PART_LINE == t.line)).map
        (fun m => { s.mkTrigger m (0x8000 + t.line) t.inst t.arg0 with partner := true }))
  else s

/-- A trigger that passed a line of the partner (R265): it passes the standby's line; the copy on the other lane, known
by its line and arrival, does nothing. -/
def State.trigIn (s : State) (t : Trigger) : State :=
  if s.role ≠ 2 then s.partnerLines t
  else if !s.shadows ∨ t.arr.toNat / 2 + 1 ≤ nth s.shb.lineCycle t.line 0 then s
  else
    let s1 := { s with shb := { s.shb with lastFwd := if s.shb.lastFwd.toNat < t.inst.toNat then t.inst else s.shb.lastFwd } }
    ((s1.fwdTrigger t).passTrigger t).partnerLines t

def opTrig (i : Nat) (crcOk : Bool) (ts : List Trigger) (s : State) : State :=
  s.tetherUp i crcOk (fun a => ts.foldl (fun b t => b.trigIn t) a)

def execTetherTrig (lane : Fin 2) (crcOk : Bool) (ts : List Trigger) (s : State) : Host.Outcome State Fault Refusal :=
  ok (opTrig lane.val crcOk ts s)

/-! ### The shot-end copy -/

/-- One item of the copy acts on the standby as it acted on the active hub, at the boundary it names (R389). -/
def State.applyCopy (s : State) (o : CopyOp) : State :=
  match o with
  | .write who addr v => if addr < 0x1000000 then s.commit (s.whoIdx who) addr v else (s.writeWindow (s.whoIdx who) addr v).2
  | .free k n =>
    if s.unscheduled then s.setLane k ((s.lane k).freeUpTo n).settle else s.setLane k { s.lane k with freeNow := some n }
  | .ctx key v => (s.wr key v).storeSetting key
  | .mapping m =>
    if s.unscheduled then s.applyMap m (s.pai.copyEnd.getD s.ltc) else { s with tim := { s.tim with next := some m } }
  | .timeState v t =>
    if s.unscheduled then s.publish v false else { s with tim := { s.tim with pubs := s.tim.pubs ++ [(v, t)] } }
  | .inj d => { s with fld := { s.fld with done := s.fld.done ++ [d] } }
  | .coreInj c i => s.setCore c { s.core c with injNext := some i }
  | .notch n t => s.nextNotch n t
  | .band b t =>
    ({ s with flt := { s.flt with bandNext := some (b, t) } }.wf Reg.THC_BAND Fd.THC_BAND_NEXT b).wf Reg.THC_BAND
      Fd.THC_BAND_PEND 1
  | .resync t => s.setSyncFrom t
  | .budget two t => { s with upl := { s.upl with next := some (two, t) } }
  | .switchAt t =>
    if s.unscheduled then { s with pln := { s.pln with instant := some (epochFrom t.toNat) } }
    else { s with pln := { s.pln with swFrom := some t } }

/-- The digest that waits against the standby's own (R391, R399), once that shot, or a later one, is complete here: where
every producer is in sync a match brings IN_SYNC; a difference begins a resynchronisation. -/
def State.digestCompare (s : State) : State :=
  match s.pai.digestDue with
  | none => s
  | some (n, v) =>
    let mine := (s.fib.digests.find? (fun d => d.1 == n)).map (·.2)
    if mine.isNone && !s.fib.digests.any (fun d => decide (n < d.1)) then s
    else
      let s0 := { s with pai := { s.pai with digestDue := none } }
      let s1 := s0.wr Reg.PAI_DIGEST (w32 (mine.getD v))
      if mine = some v then s1.setSync 3
      else (((s1.err 0x4D Err.PAI_DIGEST).count Reg.PAI_DIGEST_MISS).raise 0x4D 3).startSync 2

/-- The digest of a copy (R391, R398). -/
def State.digestCheck (s : State) (d : Option (Nat × Nat)) : State :=
  if !(s.syncState == 3 || s.allSynced) then s
  else
    match d with
    | none => if s.fenActive && s.shotPeriod != 0 then s else s.setSync 3
    | some e => { s with pai := { s.pai with digestDue := some e } }.digestCompare

/-- POINT_UPDATE (R97 to R105, R123, R391): the engine processes point p of the launch of slot j that is in progress; outside
Q-stagger a launch is slot 0's. -/
def opPointUpdate (j p : Nat) (new : List RawSample) (ecc : PssRead) (s : State) : State :=
  (s.withRun j (fun a => a.updatePoint p new ecc)).digestCompare

def execPointUpdate (slot : Fin 4) (point : Nat) (new : List RawSample) (ecc : PssRead) (s : State) :
    Host.Outcome State Fault Refusal := ok (opPointUpdate slot.val point new ecc s).flushTrig

/-- COPY (R389): the items apply, the digest is compared, and the next HB acknowledges. The second copy of a message does
nothing. -/
def State.copyIn (s : State) (c : CopyMsg) : State :=
  if !s.shadows ∨ c.no ≤ s.pai.acked then s
  else
    let s1 := { s with pai := { s.pai with copyEnd := some c.shotEnd } }
    let s2 := c.ops.foldl (fun (a : State) o => a.applyCopy o) s1
    { s2 with pai := { s2.pai with copyEnd := none, acked := c.no } }.digestCheck c.digest

def opCopy (i : Nat) (crcOk : Bool) (c : CopyMsg) (s : State) : State := s.tetherUp i crcOk (fun a => a.copyIn c)

def execTetherCopy (lane : Fin 2) (crcOk : Bool) (c : CopyMsg) (s : State) : Host.Outcome State Fault Refusal :=
  ok (opCopy lane.val crcOk c s).flushTrig

/-! ### Health -/

/-- HEALTH_SEND (R392): the standby forms and sends its report every second. -/
def opHealthSend (s : State) : State :=
  if !s.shadows then s
  else
    let a := s.healthReport
    a.sendBoth 6 (.health (a.rd Reg.PAI_HEALTH))

def execHealthSend (s : State) : Host.Outcome State Fault Refusal := ok (opHealthSend s)

/-- HEALTH (R392): the active hub shows the partner's report. -/
def opHealth (i : Nat) (crcOk : Bool) (h : Word) (s : State) : State :=
  s.tetherUp i crcOk (fun a => if a.role = 1 then a.wr Reg.PAI_PARTNER_HEALTH h else a)

def execTetherHealth (lane : Fin 2) (crcOk : Bool) (h : Word) (s : State) : Host.Outcome State Fault Refusal :=
  ok (opHealth lane.val crcOk h s)

/-! ### Joining -/

/-- The next number of a schedule of a period, none of whose boundaries after now has been taken. -/
def State.nextNo (s : State) (epoch : Time) (period : Nat) : Nat :=
  if period = 0 ∨ s.ltc.toNat < epoch.toNat then 0 else (s.ltc.toNat - epoch.toNat) / period + 1

/-- The schedules go on from the active hub's epoch (R39, R398). -/
def State.joinSched (s : State) (E : Time) : State :=
  { s with
    sched := ⟨E, s.nextNo E s.shotPeriod, s.nextNo E s.fieldTick, s.nextNo E s.superframe⟩
    pai := { s.pai with fedTick := none } }

/-- The plan that the active hub runs is loaded where it is not the one in place (R55, R398). -/
def State.joinPlan (s : State) (E : Time) : State :=
  match s.pai.pSlots with
  | some (a, b, some i) =>
    let want := if i = 0 then a.2 else b.2
    if s.pln.run.isSome && s.pln.slot == i && (s.slotDigest i).2 == want then
      { s with fib := { s.fib with cur := FibRun.init, older := [], acc := [], digests := [], lastU := none } }
    else s.startPlan (parsePlan (s.slot i).image) i E
  | _ => s

/-- Registers of the active hub take the place of this hub's (R398). -/
def State.joinRegs (s : State) (regs : List (Nat × Word)) : State :=
  let s1 := (s.regs.filter (fun e => joinKey e.1)).foldl (fun (a : State) e => a.wr e.1 (resetWord e.1)) s
  let s2 := (regs.filter (fun e => joinKey e.1)).foldl (fun (a : State) e => a.wr e.1 e.2) s1
  if s2.rd Reg.TIM_MAP_NO ≠ 0 ∧ s2.timState = 0 then s2.setTimState 1 else s2

/-- A lane of the active hub (R398): its item numbers, and its items as placeholders. -/
def State.joinLane (s : State) (k rel mark rd wr : Nat) (items : List StoredItem) : State :=
  s.setLane k { Lane.init with
    rel := rel, mark := mark, rd := rd, wr := wr, staleFrom := s.ltc, shed := (s.lane k).shed
    items := items.zipIdx.map (fun e =>
      { no := (rel + e.2) % 2 ^ 32, record := ⟨e.1.kind, e.1.cls, e.1.idx, e.1.seq, e.1.ref, []⟩, size := e.1.size, out := [],
        flags := 0, pf := 0, level := 0, vis := some s.now, ph := true }) }

/-- An item of a producer that is not in sync: a placeholder, and its SEQ counts (R398). -/
def State.joinItem (s : State) (k : Nat) (it : StoredItem) : State :=
  let s1 := s.pushPlaceholder k it.size ⟨it.kind, it.cls, it.idx, it.seq, it.ref, []⟩
  { s1 with seqs := NMap.set (fun _ => 0) s1.seqs (seqKey it.cls it.idx it.kind) ((it.seq + 1) % 2 ^ 32) }

/-- A snapshot of the filter chains, with the states of the field channels (R398). -/
def State.joinChains (s : State) (node : Bool) (k0 : Nat) (chans : List (Nat × ChainCh)) (fields : List (Nat × FldCh)) : State :=
  let g := s.pai.prog
  let s1 := { s with
    flt := { s.flt with
      k0 := if node then s.flt.k0 else k0
      chans := chans.foldl (fun m e => NMap.insert e.1 e.2 (NMap.erase e.1 m)) (s.flt.chans.filter (fun e => decide (64 ≤ e.1) != node)) }
    pai := { s.pai with prog := { g with field := g.field || !node, node := g.node || node } } }
  if node then s1 else { s1 with fld := { s1.fld with chans := fields } }

/-- A memory area that the active hub sends whole (R398). -/
def State.joinBytes (s : State) (lo size : Nat) (cells : List (Nat × Byte)) : State :=
  (cells.filter (fun e => decide (lo ≤ e.1) && decide (e.1 < lo + size))).foldl (fun (a : State) e => a.wrByte e.1 e.2)
    { s with mem := NMap.clear lo (lo + size) s.mem }

/-- A part of the plan image (R55). -/
def State.joinImage (s : State) (slot offset : Nat) (bytes : List Byte) (last : Bool) : State :=
  s.setSlot slot ⟨if last then 2 else 1, (s.slot slot).image.take offset ++ bytes⟩

/-- What the standby takes from a BULK message (R55, R398). -/
def State.bulkToStandby (s : State) (b : BulkPart) : State :=
  match b with
  | .plan slot offset bytes last => s.joinImage slot offset bytes last
  | .slots a b r => { s with pai := { s.pai with pSlots := some (a, b, r) } }
  | .join epoch regs seqs cycles two =>
    if s.syncState ≠ 1 then s
    else
      let s1 := ((s.joinPlan epoch).joinRegs regs).joinSched epoch
      let s2 := cycles.foldl (fun (a : State) e => if a.drpN e.1 = 0 then a else a.onPort e.1 (fun x => { x with cycBase := e.2 })) s1
      { s2 with seqs := seqs, lanes := [] }.applyBudget two
  | .lane k rel mark rd wr items => if s.syncState = 1 then s.joinLane k rel mark rd wr items else s
  | .lanesEnd =>
    if s.syncState = 1 then
      { s.setSync 2 with pai := { (s.setSync 2).pai with prog := SyncState.init, copies := [] } }
    else s
  | .item k it => s.joinItem k it
  | .record p ws => { s with pai := { s.pai with copies := NMap.insert p ws (NMap.erase p s.pai.copies) } }
  | .chains node k0 chans fields => s.joinChains node k0 chans fields
  | .bytes lo size cells => s.joinBytes lo size cells
  | .core n c => { s.setCore n c with pai := { s.pai with prog := { s.pai.prog with cores := n :: s.pai.prog.cores } } }
  | .dTotal _ _ => s
  | .bridle P a b => s.takeBridle P a b
  | .split P on last => s.takeSplit P on last
  | .farTrain P found => s.trainFar (if s.drpMode P = 1 then P + 1 else P) P found

/-- What the active hub takes from a BULK message: how the partner's slots stand, and D_total of a chain measured at its
second end (R55, R239). -/
def State.bulkToActive (s : State) (b : BulkPart) : State :=
  match b with
  | .slots x y r => { s with pai := { s.pai with pSlots := some (x, y, r) } }
  | .dTotal P total =>
    s.setTotal P total
  | .bridle P a b => s.takeBridle P a b
  | .split P on last => s.takeSplit P on last
  | .farTrain .. => s
  | .plan .. => s
  | .join .. => s
  | .lane .. => s
  | .lanesEnd => s
  | .item .. => s
  | .record .. => s
  | .chains .. => s
  | .bytes .. => s
  | .core .. => s

def opBulk (i : Nat) (crcOk : Bool) (b : BulkPart) (s : State) : State :=
  s.tetherUp i crcOk (fun a => if a.role = 1 then a.bulkToActive b else if a.shadows then a.bulkToStandby b else a)

def execTetherBulk (lane : Fin 2) (crcOk : Bool) (b : BulkPart) (s : State) : Host.Outcome State Fault Refusal :=
  ok (opBulk lane.val crcOk b s).flushTrig

/-! ### Claims -/

/-- The bytes of a pair claim before its tag (R395): MAGIC, the sender's serial number, ACTIVE_SINCE. -/
def claimBytes (serial : Nat) (since : Time) : List Byte := le2 0x5450 ++ le8 serial ++ le8 since.toNat

/-- The tag of a claim under C0's key, nothing without a key (R354, R395). -/
def State.claimTag (s : State) (body : List Byte) : List Byte :=
  match s.ctxKey 0 with
  | some k => tag64 k body
  | none => []

/-- CLAIM_SEND (R395): on each port in service, to the partner's address; frame kind 6, the address and port, the claim. -/
def opClaimSend (s : State) : State :=
  match s.pai.claimTo with
  | none => s
  | some t =>
    if t.toNat < s.ltc.toNat then { s with pai := { s.pai with claimTo := none } }
    else
      let b := claimBytes s.nv.serial s.pai.since
      let f := wordBytes (s.rd Reg.TTH_PARTNER_IP) ++ le2 s.pai.udp ++ b ++ s.claimTag b
      iter 2 (fun p (a : State) => if a.inService p then a.txFrame p (.frame p 6 f) else a) s

def execClaimSend (s : State) : Host.Outcome State Fault Refusal := ok (opClaimSend s)

/-- A claim that deposes the hub (R395): it is ACTIVE, has missed four heartbeats on both paths, and the claim is its
partner's with a valid tag. -/
def State.claimValid (s : State) (c : ClaimMsg) : Bool :=
  s.role == 1 && decide (4 ≤ s.pai.tMiss) && decide (4 ≤ s.pai.pMiss) && c.magic == 0x5450 && c.serial == s.pai.serial &&
    (s.ctxKey 0 == none || c.tag == s.claimTag (claimBytes c.serial c.since))

/-- PAIR_CLAIM (R395). -/
def opPairClaim (c : ClaimMsg) (s : State) : State :=
  let s1 := s.count (Reg.UL_RX_FRAMES c.port.val)
  if s1.claimValid c then s1.depose else s1

def execPairClaim (c : ClaimMsg) (s : State) : Host.Outcome State Fault Refusal := ok (opPairClaim c s)

/-! ### Handover and resynchronisation -/

/-- HANDOVER (R397). -/
def execPairHandover (ctx : Fin 4) (s : State) : Host.Outcome State Fault Refusal := ok (opHandover ctx.val s)

/-- HANDOVER_REVERT_HOLD (R397): the preferred hub, in sync for REVERT_HOLD seconds, asks for the active role back. -/
def opRevertPreferred (s : State) : State :=
  let due : Bool := match s.pai.syncAt with
    | some t => decide (t.toNat + s.rf Reg.PAI_CFG Fd.PAI_CFG_REVERT_HOLD * tickS ≤ s.ltc.toNat)
    | none => false
  if s.role == 2 && s.syncState == 3 && s.flag Reg.PAI_CFG Fd.PAI_CFG_PREF && s.flag Reg.PAI_CFG Fd.PAI_CFG_REVERT && due then
    { s with pai := { s.pai with ask := true } }
  else s

def execHandoverRevertHold (s : State) : Host.Outcome State Fault Refusal := ok (opRevertPreferred s)

/-- HANDOVER_OSW_SWITCH (R397): 8,250 ticks before B the standby raises OSW_SEL, and the active hub lowers it. -/
def opOswSwitch (s : State) : State :=
  match s.pai.handover with
  | none => s
  | some b => (s.advance (b - 8250)).setOsw (s.role == 2)

def execHandoverOswSwitch (s : State) : Host.Outcome State Fault Refusal := ok (opOswSwitch s)

/-- RESYNC (R399). -/
def execPairResync (ctx : Fin 4) (s : State) : Host.Outcome State Fault Refusal := ok (opResync ctx.val s)

end Sys2Proof.Machine
end

