-- ==== Sys2Proof/Machine/Dispatch.lean ====
section
/-!
DEFINITION. The dispatch: one arm per command, each arm one direct call of its meaning.
-/

namespace Sys2Proof.Machine

def exec (i : Instr) (s : State) : Host.Outcome State Fault Refusal :=
  match i with
  | .railOutOfWindow rails => Sys2Proof.Machine.execRailOutOfWindow rails s
  | .railValidTimer straps => Sys2Proof.Machine.execRailValidTimer straps s
  | .resetNLow => Sys2Proof.Machine.execResetNLow s
  | .progressMonitorMiss f inst => Sys2Proof.Machine.execProgressMonitorMiss f inst s
  | .watchdogExpiry => Sys2Proof.Machine.execWatchdogExpiry s
  | .sysReset ctx => Sys2Proof.Machine.execSysReset ctx s
  | .pfwFall => Sys2Proof.Machine.execPfwFall s
  | .pfwCommitDone us => Sys2Proof.Machine.execPfwCommitDone us s
  | .pfwResume => Sys2Proof.Machine.execPfwResume s
  | .tamperTrip src => Sys2Proof.Machine.execTamperTrip src s
  | .jtagTapReset => Sys2Proof.Machine.execJtagTapReset s
  | .laneLocked lane => Sys2Proof.Machine.execLaneLocked lane s
  | .losDetect lane => Sys2Proof.Machine.execLosDetect lane s
  | .cdrUnlockTimeout lane => Sys2Proof.Machine.execCdrUnlockTimeout lane s
  | .freqCompareDone src offset => Sys2Proof.Machine.execFreqCompareDone src offset s
  | .synthTrouble => Sys2Proof.Machine.execSynthTrouble s
  | .holdoverTimeout => Sys2Proof.Machine.execHoldoverTimeout s
  | .clkResume => Sys2Proof.Machine.execClkResume s
  | .clkSwitch ctx src => Sys2Proof.Machine.execClkSwitch ctx src s
  | .switchHandshake => Sys2Proof.Machine.execSwitchHandshake s
  | .switchHandshakeTimeout => Sys2Proof.Machine.execSwitchHandshakeTimeout s
  | .rampStep => Sys2Proof.Machine.execRampStep s
  | .rampComplete pbo => Sys2Proof.Machine.execRampComplete pbo s
  | .revertHoldElapsed => Sys2Proof.Machine.execRevertHoldElapsed s
  | .eyeMeasure lane e => Sys2Proof.Machine.execEyeMeasure lane e s
  | .prbsInj1 ctx lane => Sys2Proof.Machine.execPrbsInj1 ctx lane s
  | .prbsClr ctx lane => Sys2Proof.Machine.execPrbsClr ctx lane s
  | .prbsRateInject lane => Sys2Proof.Machine.execPrbsRateInject lane s
  | .prbsSync lane => Sys2Proof.Machine.execPrbsSync lane s
  | .gateWrite g v => Sys2Proof.Machine.execGateWrite g v s
  | .gateEffective g => Sys2Proof.Machine.execGateEffective g s
  | .ungateDone g => Sys2Proof.Machine.execUngateDone g s
  | .firmwareLoaded good readable ver fmt => Sys2Proof.Machine.execFirmwareLoaded good readable ver fmt s
  | .startupCalDone tempRx tempFld => Sys2Proof.Machine.execStartupCalDone tempRx tempFld s
  | .planLoadDone => Sys2Proof.Machine.execPlanLoadDone s
  | .planData m => Sys2Proof.Machine.execPlanData m s
  | .planDataWritten => Sys2Proof.Machine.execPlanDataWritten s
  | .plnCommit ctx slot => Sys2Proof.Machine.execPlnCommit ctx slot s
  | .commitCheckDone => Sys2Proof.Machine.execCommitCheckDone s
  | .plnSwitch ctx slot useAt => Sys2Proof.Machine.execPlnSwitch ctx slot useAt s
  | .shadowLoadDone ok => Sys2Proof.Machine.execShadowLoadDone ok s
  | .switchInstant => Sys2Proof.Machine.execSwitchInstant s
  | .activationRecordWritten => Sys2Proof.Machine.execActivationRecordWritten s
  | .plnAbort ctx slot => Sys2Proof.Machine.execPlnAbort ctx slot s
  | .plnErase ctx slot => Sys2Proof.Machine.execPlnErase ctx slot s
  | .liveWrite who addr v => Sys2Proof.Machine.execLiveWrite who addr v s
  | .registerWrite who addr v => Sys2Proof.Machine.execRegisterWrite who addr v s
  | .readClear who addr ev => Sys2Proof.Machine.execReadClear who addr ev s
  | .loRead who addr => Sys2Proof.Machine.execLoRead who addr s
  | .hiRead who addr => Sys2Proof.Machine.execHiRead who addr s
  | .irqClrWrite who page v ev => Sys2Proof.Machine.execIrqClrWrite who page v ev s
  | .irqEnWrite who page x v => Sys2Proof.Machine.execIrqEnWrite who page x v s
  | .pageCtrlWrite who page v => Sys2Proof.Machine.execPageCtrlWrite who page v s
  | .snapshotRead who addr ecc => Sys2Proof.Machine.execSnapshotRead who addr ecc s
  | .popDataRead who => Sys2Proof.Machine.execPopDataRead who s
  | .shotBoundary => Sys2Proof.Machine.execShotBoundary s
  | .slotLaunch => Sys2Proof.Machine.execSlotLaunch s
  | .pulseStart slot => Sys2Proof.Machine.execPulseStart slot s
  | .rmnTrigRise => Sys2Proof.Machine.execRmnTrigRise s
  | .acquisitionWindowEnd rx => Sys2Proof.Machine.execAcquisitionWindowEnd rx s
  | .pointUpdate slot point new ecc => Sys2Proof.Machine.execPointUpdate slot point new ecc s
  | .pssScrub ecc => Sys2Proof.Machine.execPssScrub ecc s
  | .ramanConversion => Sys2Proof.Machine.execRamanConversion s
  | .hspiGo => Sys2Proof.Machine.execHspiGo s
  | .hspiTransactionDone reply => Sys2Proof.Machine.execHspiTransactionDone reply s
  | .hspiStartByteTimeout => Sys2Proof.Machine.execHspiStartByteTimeout s
  | .ofeRecal => Sys2Proof.Machine.execOfeRecal s
  | .lasOn => Sys2Proof.Machine.execLasOn s
  | .lasOff => Sys2Proof.Machine.execLasOff s
  | .headScript => Sys2Proof.Machine.execHeadScript s
  | .ilkAccept => Sys2Proof.Machine.execIlkAccept s
  | .ilkRelease => Sys2Proof.Machine.execIlkRelease s
  | .lasStatRise => Sys2Proof.Machine.execLasStatRise s
  | .lasStatFall => Sys2Proof.Machine.execLasStatFall s
  | .lasStatTimeout => Sys2Proof.Machine.execLasStatTimeout s
  | .convTempRead temp => Sys2Proof.Machine.execConvTempRead temp s
  | .rxRecalPeriod => Sys2Proof.Machine.execRxRecalPeriod s
  | .spareCalibrated conv good => Sys2Proof.Machine.execSpareCalibrated conv good s
  | .fieldTickHold obs => Sys2Proof.Machine.execFieldTickHold obs s
  | .conversionSlot conv slot code bad => Sys2Proof.Machine.execConversionSlot conv slot code bad s
  | .complianceLatch o => Sys2Proof.Machine.execComplianceLatch o s
  | .startHoldEnd => Sys2Proof.Machine.execStartHoldEnd s
  | .injCmd v => Sys2Proof.Machine.execInjCmd v s
  | .injectedConversionDone conv code found => Sys2Proof.Machine.execInjectedConversionDone conv code found s
  | .fldCal conv => Sys2Proof.Machine.execFldCal conv s
  | .fieldRecalTrigger temp => Sys2Proof.Machine.execFieldRecalTrigger temp s
  | .fieldConverterCalDone => Sys2Proof.Machine.execFieldConverterCalDone s
  | .recoveryDone conv good => Sys2Proof.Machine.execRecoveryDone conv good s
  | .comparatorCrossing ch v => Sys2Proof.Machine.execComparatorCrossing ch v s
  | .latchedRelease v => Sys2Proof.Machine.execLatchedRelease v s
  | .bandSelect => Sys2Proof.Machine.execBandSelect s
  | .lsyncEdge => Sys2Proof.Machine.execLsyncEdge s
  | .lsyncLost => Sys2Proof.Machine.execLsyncLost s
  | .chainSync => Sys2Proof.Machine.execChainSync s
  | .superframeBoundary => Sys2Proof.Machine.execSuperframeBoundary s
  | .dSofSend port => Sys2Proof.Machine.execDSofSend port s
  | .upstreamFrame port f => Sys2Proof.Machine.execUpstreamFrame port f s
  | .uSofMissing port bad => Sys2Proof.Machine.execUSofMissing port bad s
  | .linkRetrainTimeout port => Sys2Proof.Machine.execLinkRetrainTimeout port s
  | .trainingAttemptTimeout port => Sys2Proof.Machine.execTrainingAttemptTimeout port s
  | .noPartnerRetry port => Sys2Proof.Machine.execNoPartnerRetry port s
  | .assignReplyTimeout port => Sys2Proof.Machine.execAssignReplyTimeout port s
  | .drpRetrain port => Sys2Proof.Machine.execDrpRetrain port s
  | .drpRejoin port => Sys2Proof.Machine.execDrpRejoin port s
  | .nodeCmd port => Sys2Proof.Machine.execNodeCmd port s
  | .nodeCmdTimeout port => Sys2Proof.Machine.execNodeCmdTimeout port s
  | .splitDetect port => Sys2Proof.Machine.execSplitDetect port s
  | .autoRejoin port => Sys2Proof.Machine.execAutoRejoin port s
  | .shutInEdge edges => Sys2Proof.Machine.execShutInEdge edges s
  | .shutInStuck n => Sys2Proof.Machine.execShutInStuck n s
  | .lineStateExpiry n => Sys2Proof.Machine.execLineStateExpiry n s
  | .schedulerFire k => Sys2Proof.Machine.execSchedulerFire k s
  | .schedCfgWrite who k v => Sys2Proof.Machine.execSchedCfgWrite who k v s
  | .schedAtWrite who k v => Sys2Proof.Machine.execSchedAtWrite who k v s
  | .shbTrig ctx line useAt => Sys2Proof.Machine.execShbTrig ctx line useAt s
  | .cmdAtReached => Sys2Proof.Machine.execCmdAtReached s
  | .segmentCopyDone u bad => Sys2Proof.Machine.execSegmentCopyDone u bad s
  | .spoolPush r => Sys2Proof.Machine.execSpoolPush r s
  | .compressionJobStart => Sys2Proof.Machine.execCompressionJobStart s
  | .compressionJobDone mismatch => Sys2Proof.Machine.execCompressionJobDone mismatch s
  | .staleExpiry spool lane => Sys2Proof.Machine.execStaleExpiry spool lane s
  | .lanePop who lane oneLane ecc => Sys2Proof.Machine.execLanePop who lane oneLane ecc s
  | .laneMark who lane all => Sys2Proof.Machine.execLaneMark who lane all s
  | .laneRewind who lane all => Sys2Proof.Machine.execLaneRewind who lane all s
  | .laneReleaseMark who lane all => Sys2Proof.Machine.execLaneReleaseMark who lane all s
  | .laneReleaseRead who lane all => Sys2Proof.Machine.execLaneReleaseRead who lane all s
  | .loupeItemDispatch => Sys2Proof.Machine.execLoupeItemDispatch s
  | .loupeTimerItem core => Sys2Proof.Machine.execLoupeTimerItem core s
  | .activationStart core => Sys2Proof.Machine.execActivationStart core s
  | .budgetExpiry core => Sys2Proof.Machine.execBudgetExpiry core s
  | .interruptEntry core => Sys2Proof.Machine.execInterruptEntry core s
  | .dmaDone core cycles => Sys2Proof.Machine.execDmaDone core cycles s
  | .tmrExpiry core => Sys2Proof.Machine.execTmrExpiry core s
  | .lpNop core => Sys2Proof.Machine.execLpNop core s
  | .lpAdd core => Sys2Proof.Machine.execLpAdd core s
  | .lpSub core => Sys2Proof.Machine.execLpSub core s
  | .lpAnd core => Sys2Proof.Machine.execLpAnd core s
  | .lpOr core => Sys2Proof.Machine.execLpOr core s
  | .lpXor core => Sys2Proof.Machine.execLpXor core s
  | .lpSlt core => Sys2Proof.Machine.execLpSlt core s
  | .lpMin core => Sys2Proof.Machine.execLpMin core s
  | .lpMax core => Sys2Proof.Machine.execLpMax core s
  | .lpAbs core => Sys2Proof.Machine.execLpAbs core s
  | .lpAddi core => Sys2Proof.Machine.execLpAddi core s
  | .lpLui core => Sys2Proof.Machine.execLpLui core s
  | .lpOri core => Sys2Proof.Machine.execLpOri core s
  | .lpShl core => Sys2Proof.Machine.execLpShl core s
  | .lpShr core => Sys2Proof.Machine.execLpShr core s
  | .lpSra core => Sys2Proof.Machine.execLpSra core s
  | .lpMul core => Sys2Proof.Machine.execLpMul core s
  | .lpMpy core => Sys2Proof.Machine.execLpMpy core s
  | .lpMac core => Sys2Proof.Machine.execLpMac core s
  | .lpMsu core => Sys2Proof.Machine.execLpMsu core s
  | .lpMova core => Sys2Proof.Machine.execLpMova core s
  | .lpMovta core => Sys2Proof.Machine.execLpMovta core s
  | .lpFtm core ex ey => Sys2Proof.Machine.execLpFtm core ex ey s
  | .lpLdh core ecc => Sys2Proof.Machine.execLpLdh core ecc s
  | .lpLdhu core ecc => Sys2Proof.Machine.execLpLdhu core ecc s
  | .lpLdw core ecc => Sys2Proof.Machine.execLpLdw core ecc s
  | .lpSth core => Sys2Proof.Machine.execLpSth core s
  | .lpStw core => Sys2Proof.Machine.execLpStw core s
  | .lpBeq core => Sys2Proof.Machine.execLpBeq core s
  | .lpBne core => Sys2Proof.Machine.execLpBne core s
  | .lpBlt core => Sys2Proof.Machine.execLpBlt core s
  | .lpBge core => Sys2Proof.Machine.execLpBge core s
  | .lpBr core => Sys2Proof.Machine.execLpBr core s
  | .lpCall core => Sys2Proof.Machine.execLpCall core s
  | .lpJr core => Sys2Proof.Machine.execLpJr core s
  | .lpRpt core => Sys2Proof.Machine.execLpRpt core s
  | .lpEnd core => Sys2Proof.Machine.execLpEnd core s
  | .lpWait core => Sys2Proof.Machine.execLpWait core s
  | .lpReti core => Sys2Proof.Machine.execLpReti core s
  | .lpEmit core => Sys2Proof.Machine.execLpEmit core s
  | .lpDmov core => Sys2Proof.Machine.execLpDmov core s
  | .lpIor core => Sys2Proof.Machine.execLpIor core s
  | .lpIow core => Sys2Proof.Machine.execLpIow core s
  | .lpMovs core => Sys2Proof.Machine.execLpMovs core s
  | .lpMovts core => Sys2Proof.Machine.execLpMovts core s
  | .illegalInstruction core => Sys2Proof.Machine.execIllegalInstruction core s
  | .pauseFrame port => Sys2Proof.Machine.execPauseFrame port s
  | .arpRequest port senderMac senderIp targetIp => Sys2Proof.Machine.execArpRequest port senderMac senderIp targetIp s
  | .icmpEchoRequest port mac payload => Sys2Proof.Machine.execIcmpEchoRequest port mac payload s
  | .esmcPdu port level => Sys2Proof.Machine.execEsmcPdu port level s
  | .ssmExpiry port => Sys2Proof.Machine.execSsmExpiry port s
  | .portInService port => Sys2Proof.Machine.execPortInService port s
  | .sessOpen m => Sys2Proof.Machine.execSessOpen m s
  | .sessClose m => Sys2Proof.Machine.execSessClose m s
  | .sessKeepalive m => Sys2Proof.Machine.execSessKeepalive m s
  | .sessCredit m => Sys2Proof.Machine.execSessCredit m s
  | .regRead m => Sys2Proof.Machine.execRegRead m s
  | .regWrite m met => Sys2Proof.Machine.execRegWrite m met s
  | .spoolOpPop m ecc => Sys2Proof.Machine.execSpoolOpPop m ecc s
  | .spoolOpMark m => Sys2Proof.Machine.execSpoolOpMark m s
  | .spoolOpRewind m => Sys2Proof.Machine.execSpoolOpRewind m s
  | .spoolOpReleaseMark m => Sys2Proof.Machine.execSpoolOpReleaseMark m s
  | .spoolOpReleaseRead m => Sys2Proof.Machine.execSpoolOpReleaseRead m s
  | .itemSend port ecc => Sys2Proof.Machine.execItemSend port ecc s
  | .keepaliveSend ctx => Sys2Proof.Machine.execKeepaliveSend ctx s
  | .sessionExpiry ctx => Sys2Proof.Machine.execSessionExpiry ctx s
  | .noticeSend ctx page => Sys2Proof.Machine.execNoticeSend ctx page s
  | .noticeHoldExpiry ctx page => Sys2Proof.Machine.execNoticeHoldExpiry ctx page s
  | .noticeRepeat ctx => Sys2Proof.Machine.execNoticeRepeat ctx s
  | .mspiRead addr count got => Sys2Proof.Machine.execMspiRead addr count got s
  | .mspiWrite addr count data met => Sys2Proof.Machine.execMspiWrite addr count data met s
  | .mspiTimeout => Sys2Proof.Machine.execMspiTimeout s
  | .ptpSync m ip origin corr arr twoStep => Sys2Proof.Machine.execPtpSync m ip origin corr arr twoStep s
  | .ptpFollowUp m origin corr => Sys2Proof.Machine.execPtpFollowUp m origin corr s
  | .ptpDelayResp m received corr interval => Sys2Proof.Machine.execPtpDelayResp m received corr interval s
  | .ptpAnnounce a => Sys2Proof.Machine.execPtpAnnounce a s
  | .delayReqSend t3 => Sys2Proof.Machine.execDelayReqSend t3 s
  | .delayRespMiss => Sys2Proof.Machine.execDelayRespMiss s
  | .announceTimeout => Sys2Proof.Machine.execAnnounceTimeout s
  | .mappingUpdate ratio => Sys2Proof.Machine.execMappingUpdate ratio s
  | .timRestep ctx => Sys2Proof.Machine.execTimRestep ctx s
  | .tetherBlockLock lane => Sys2Proof.Machine.execTetherBlockLock lane s
  | .hbSend => Sys2Proof.Machine.execHbSend s
  | .tetherHb lane crcOk hb => Sys2Proof.Machine.execTetherHb lane crcOk hb s
  | .pairHbBeat => Sys2Proof.Machine.execPairHbBeat s
  | .heartbeatMiss l0 l1 beat => Sys2Proof.Machine.execHeartbeatMiss l0 l1 beat s
  | .tetherTrainTimeout => Sys2Proof.Machine.execTetherTrainTimeout s
  | .tetherTrainRetry => Sys2Proof.Machine.execTetherTrainRetry s
  | .tetherFeedF lane crcOk f => Sys2Proof.Machine.execTetherFeedF lane crcOk f s
  | .tetherFeedW lane crcOk f => Sys2Proof.Machine.execTetherFeedW lane crcOk f s
  | .tetherTrig lane crcOk ts => Sys2Proof.Machine.execTetherTrig lane crcOk ts s
  | .tetherCopy lane crcOk c => Sys2Proof.Machine.execTetherCopy lane crcOk c s
  | .healthSend => Sys2Proof.Machine.execHealthSend s
  | .tetherHealth lane crcOk h => Sys2Proof.Machine.execTetherHealth lane crcOk h s
  | .tetherBulk lane crcOk b => Sys2Proof.Machine.execTetherBulk lane crcOk b s
  | .claimSend => Sys2Proof.Machine.execClaimSend s
  | .pairClaim c => Sys2Proof.Machine.execPairClaim c s
  | .pairHandover ctx => Sys2Proof.Machine.execPairHandover ctx s
  | .handoverRevertHold => Sys2Proof.Machine.execHandoverRevertHold s
  | .handoverOswSwitch => Sys2Proof.Machine.execHandoverOswSwitch s
  | .pairResync ctx => Sys2Proof.Machine.execPairResync ctx s
  | .ballastWrite who v => Sys2Proof.Machine.execBallastWrite who v s
  | .ballastWakeDone bank => Sys2Proof.Machine.execBallastWakeDone bank s
  | .memScrub mem ecc passEnd => Sys2Proof.Machine.execMemScrub mem ecc passEnd s
  | .dkrWipe ctx => Sys2Proof.Machine.execDkrWipe ctx s
  | .maintenanceStepStart cls r => Sys2Proof.Machine.execMaintenanceStepStart cls r s
  | .mntStart ctx cls => Sys2Proof.Machine.execMntStart ctx cls s
  | .mntAbort ctx cls => Sys2Proof.Machine.execMntAbort ctx cls s
  | .memtestBlockRestore core cycles => Sys2Proof.Machine.execMemtestBlockRestore core cycles s
  | .flashTimeout reserve => Sys2Proof.Machine.execFlashTimeout reserve s
  | .telPeriod m => Sys2Proof.Machine.execTelPeriod m s
  | .updStart ctx => Sys2Proof.Machine.execUpdStart ctx s
  | .updActivate ctx bank useBank => Sys2Proof.Machine.execUpdActivate ctx bank useBank s
  | .updConfirm ctx => Sys2Proof.Machine.execUpdConfirm ctx s
  | .updAbort ctx => Sys2Proof.Machine.execUpdAbort ctx s
  | .autoConfirm => Sys2Proof.Machine.execAutoConfirm s
  | .winchRestartDone good readable ver fmt => Sys2Proof.Machine.execWinchRestartDone good readable ver fmt s
  | .sdCardInsert card => Sys2Proof.Machine.execSdCardInsert card s
  | .sdCardRemove => Sys2Proof.Machine.execSdCardRemove s
  | .sdTimeout crc => Sys2Proof.Machine.execSdTimeout crc s
  | .keyInstall ctx slot => Sys2Proof.Machine.execKeyInstall ctx slot s
  | .keyRemove ctx slot => Sys2Proof.Machine.execKeyRemove ctx slot s
  | .returnArm ctx => Sys2Proof.Machine.execReturnArm ctx s
  | .returnArmExpiry => Sys2Proof.Machine.execReturnArmExpiry s
  | .partReturn ctx => Sys2Proof.Machine.execPartReturn ctx s
  | .blockLockLoss lane fec => Sys2Proof.Machine.execBlockLockLoss lane fec s
  | .uplinkBlockLock port fec => Sys2Proof.Machine.execUplinkBlockLock port fec s
  | .prbsSyncLoss lane => Sys2Proof.Machine.execPrbsSyncLoss lane s
  | .downstreamFrame port arr sfn valid => Sys2Proof.Machine.execDownstreamFrame port arr sfn valid s
  | .ramanSample st as_ => Sys2Proof.Machine.execRamanSample st as_ s
  | .sourceRecovers => Sys2Proof.Machine.execSourceRecovers s
  | .resetNRelease straps => Sys2Proof.Machine.execResetNRelease straps s
  | .rxFrameDropped port why => Sys2Proof.Machine.execRxFrameDropped port why s
  | .flashPatrolPeriod => Sys2Proof.Machine.execFlashPatrolPeriod s
  | .memtestPeriod => Sys2Proof.Machine.execMemtestPeriod s
  | .linkLocalProbeEnd => Sys2Proof.Machine.execLinkLocalProbeEnd s

end Sys2Proof.Machine
end

