-- ==== Sys2Proof/Machine/Step.lean ====
section
/-!
DEFINITION. One step of the block: the command at the front of the queue, or with nothing waiting one line tick.
-/

namespace Sys2Proof.Machine

/-- With no command waiting a line tick passes: the LTC counts where it runs (R3, R14). Nothing else happens by itself;
what happens at an instant is a command. -/
def State.tick (s : State) : State := if s.ltcRun then { s with ltc := s.ltc + 1 } else s

/-- A step takes the oldest waiting command and runs it with the queue's rest. -/
def step (s : State) : Host.Outcome State Fault Refusal :=
  match s.pending with
  | [] => .next s.tick
  | c :: rest => exec c { s with pending := rest }

/-- A command put in front of those that wait. -/
def State.withFront (s : State) (c : Instr) : State := { s with pending := c :: s.pending }

/-- The command that a table word spells, put in front of the queue; no row of the table has bits. -/
def State.withFetchWord (s : State) (nbits w : Nat) : State :=
  match decodeTableWord nbits w with
  | some c => s.withFront c
  | none => s

end Sys2Proof.Machine
end

