-- ==== Sys2Proof/WellFormed.lean ====
section
/-!
DEFINITION. Which commands the hub's balls, lanes, wires and units can bring: operands within the widths and ranges that
the spec gives the quantity they stand for. A meaning is total on every operand; this file says which ones can arrive.
-/

namespace Sys2Proof

/-- `n` fits into `w` bits, unsigned; `v` fits into `w` bits in two's complement. -/
def u (w n : Nat) : Bool := decide (n < 2 ^ w)
def i (w : Nat) (v : Int) : Bool := decide (-(2 ^ (w - 1) : Int) ≤ v) && decide (v < (2 ^ (w - 1) : Int))

/-- No value stands twice. -/
def distinct : List Nat → Bool
  | [] => true
  | x :: xs => !xs.contains x && distinct xs

/-- An aligned address of the register fabric (R452). -/
def wordAddr (a : Nat) : Bool := u 32 a && a % 4 == 0
/-- A page of the register map (R453). -/
def pageOk (p : Nat) : Bool := decide (p < 0x1B0)

/-- A Slozon message as a datagram can hold it (R347, R349). -/
def SlzMsg.ok (m : SlzMsg) : Bool :=
  u 32 m.ip && u 16 m.udp && u 48 m.mac && u 16 m.magic && u 8 m.ver && u 8 m.ctx && u 8 m.flags && u 16 m.len && u 32 m.session &&
    u 32 m.seq && u 32 m.ack && u 32 m.boot && decide (m.body.length + m.tag.length ≤ 8948)

/-- What the lane controller measures (R327, R329). -/
def LaneMeasure.ok (e : LaneMeasure) : Bool := u 8 e.height && u 8 e.width && u 32 e.eq && decide (e.errs ≤ e.bits)

/-- A 14-bit receiver code (R57). -/
def RawSample.ok (r : RawSample) : Bool := i 14 r.xi && i 14 r.xq && i 14 r.yi && i 14 r.yq

/-- A record a producer can form (R11). -/
def RawRecord.ok (r : RawRecord) : Bool :=
  decide (1 ≤ r.kind) && decide (r.kind ≤ 13) && decide (1 ≤ r.cls) && decide (r.cls ≤ 8) && u 24 r.idx &&
    r.payload.length % 16 == 0 && decide (r.payload.length < 65536)

/-- An upstream frame as its bytes can spell it (R227). -/
def UpFrame.ok (f : UpFrame) : Bool :=
  u 8 f.sfn && u 8 f.reply.addr && u 8 f.reply.code && decide (f.reply.dat.length ≤ 5) && f.status.all (fun e => u 16 e.1) &&
    f.events.all (fun e => u 8 e.addr && u 8 e.evt && u 20 e.offset) && f.blocks.all (fun e => decide (e.1 < 32))

/-- Header fields of PTP messages (R370, R371). -/
def PtpHead.ok (m : PtpHead) : Bool := u 8 m.domain && u 80 m.src && u 16 m.seq
def Announce.ok (a : Announce) : Bool :=
  u 8 a.domain && u 80 a.src && u 8 a.prio1 && u 8 a.cls && u 8 a.acc && u 16 a.var && u 8 a.prio2 && u 64 a.gm && u 16 a.steps &&
    i 16 a.utc && i 8 a.interval_

/-- Tether messages (R386). -/
def HbMsg.ok (h : HbMsg) : Bool :=
  decide (h.role ≤ 4) && decide (h.sync ≤ 3) && u 64 h.serial && decide (h.source ≤ 3) && u 32 h.ip && u 16 h.udp
/-- A read of `n` words of the point-state store finds at most so many corrected or lost. -/
def PssRead.ok (n : Nat) : PssRead → Bool
  | .corrected k => decide (k ≤ n)
  | .mixed k ws => decide (k + ws.length ≤ n) && decide ws.Nodup
  | _ => true
def FeedF.ok (f : FeedF) : Bool :=
  decide (f.slot < 4) && f.z.all (fun e => decide (e.1 < 4) && u 18 e.2.1 && i 16 e.2.2.1 && i 16 e.2.2.2) &&
    f.raman.all (fun e => u 12 e.1 && u 12 e.2)
def FeedW.ok (f : FeedW) : Bool := f.results.all (fun e => decide (e.1 < 64)) && f.nodes.all (fun e => decide (e.1 < 512))
def trigOk (t : Machine.Trigger) : Bool := decide (t.line < 16) && u 16 t.src && u 64 t.arg0
def CopyOp.ok (o : CopyOp) : Bool :=
  match o with
  | .write _ addr _ => wordAddr addr
  | .free lane _ => decide (lane < 256)
  | .ctx _ _ => true
  | .mapping _ => true
  | .timeState _ _ => true
  | .inj d => decide (d.ch < 64)
  | .coreInj core _ => decide (core < 16)
  | .notch set _ => decide (set < 301)
  | .band b _ => decide (b < 8)
  | .resync _ => true
  | .budget _ _ => true
  | .switchAt _ => true
def CopyMsg.ok (c : CopyMsg) : Bool := c.ops.all CopyOp.ok
def BulkPart.ok (b : BulkPart) : Bool :=
  match b with
  | .plan slot _ _ _ => decide (slot < 2)
  | .slots _ _ r => (match r with | some i => decide (i < 2) | none => true)
  | .join _ _ _ _ _ => true
  | .lane k rel mark rd wr items =>
    decide (k < 256) && decide (rel ≤ mark) && decide (mark ≤ rd) && decide (rd ≤ wr) && items.length == wr - rel
  | .lanesEnd => true
  | .item k _ => decide (k < 256)
  | .record point words => u 18 point && words.length == 6
  | .chains _ _ chans fields => chans.all (fun e => decide (e.1 < 576)) && fields.all (fun e => decide (e.1 < 64))
  | .bytes _ size _ => u 32 size
  | .core n _ => decide (n < 16)
  | .dTotal port _ => decide (port < 16)
  | .bridle port a b =>
    decide (port < 16) && decide (1 ≤ a) && decide (a ≤ 128) && u 8 b.type && u 8 b.repLat && u 16 b.serial && u 18 b.d && u 18 b.ofs && u 18 b.ofsRev
  | .split port _ n => decide (port < 16) && decide (n ≤ 128)
  | .farTrain port n => decide (port < 16) && decide (n ≤ 128)
def ClaimMsg.ok (c : ClaimMsg) : Bool := u 16 c.magic && u 64 c.serial && decide (c.tag.length ≤ 8)

/-- The command can arrive at the hub. -/
def Instr.wellFormed (c : Instr) : Bool :=
  match c with
  | .railOutOfWindow rails => decide (0 < rails) && u 9 rails
  | .railValidTimer _ => true
  | .resetNLow => true
  | .progressMonitorMiss f inst => decide (inst < (match f with | .driariPort => 16 | _ => 1))
  | .watchdogExpiry => true
  | .sysReset _ => true
  | .pfwFall => true
  | .pfwCommitDone _ => true
  | .pfwResume => true
  | .tamperTrip _ => true
  | .jtagTapReset => true
  | .laneLocked _ => true
  | .losDetect _ => true
  | .cdrUnlockTimeout _ => true
  | .freqCompareDone _ offset => i 32 offset
  | .synthTrouble => true
  | .holdoverTimeout => true
  | .clkResume => true
  | .clkSwitch _ _ => true
  | .switchHandshake => true
  | .switchHandshakeTimeout => true
  | .rampStep => true
  | .rampComplete pbo => i 64 pbo
  | .revertHoldElapsed => true
  | .eyeMeasure _ e => e.ok
  | .prbsInj1 _ _ => true
  | .prbsClr _ _ => true
  | .prbsRateInject _ => true
  | .prbsSync _ => true
  | .gateWrite _ _ => true
  | .gateEffective _ => true
  | .ungateDone _ => true
  | .firmwareLoaded _ _ _ fmt => u 16 fmt
  | .startupCalDone tempRx tempFld => i 16 tempRx && i 16 tempFld
  | .planLoadDone => true
  | .planData m => m.ok
  | .planDataWritten => true
  | .plnCommit _ _ => true
  | .commitCheckDone => true
  | .plnSwitch _ _ _ => true
  | .shadowLoadDone _ => true
  | .switchInstant => true
  | .activationRecordWritten => true
  | .plnAbort _ _ => true
  | .plnErase _ _ => true
  | .liveWrite _ addr _ => wordAddr addr
  | .registerWrite _ addr _ => wordAddr addr
  | .readClear _ addr _ => wordAddr addr
  | .loRead _ addr => wordAddr addr
  | .hiRead _ addr => wordAddr addr
  | .irqClrWrite _ page _ _ => pageOk page
  | .irqEnWrite _ page _ _ => pageOk page
  | .pageCtrlWrite _ page _ => pageOk page
  | .snapshotRead _ addr ecc => wordAddr addr && ecc.ok 1
  | .popDataRead _ => true
  | .shotBoundary => true
  | .slotLaunch => true
  | .pulseStart _ => true
  | .rmnTrigRise => true
  | .acquisitionWindowEnd rx => rx.length == 4 && rx.all (fun r => i 14 r.lo && i 14 r.hi && decide (r.lo ≤ r.hi))
  | .pointUpdate _ point new ecc => u 18 point && new.all RawSample.ok && ecc.ok 6
  | .pssScrub ecc => ecc.ok 1
  | .ramanConversion => true
  | .hspiGo => true
  | .hspiTransactionDone reply => decide (reply.length ≤ 256)
  | .hspiStartByteTimeout => true
  | .ofeRecal => true
  | .lasOn => true
  | .lasOff => true
  | .headScript => true
  | .ilkAccept => true
  | .ilkRelease => true
  | .lasStatRise => true
  | .lasStatFall => true
  | .lasStatTimeout => true
  | .convTempRead temp => i 16 temp
  | .rxRecalPeriod => true
  | .spareCalibrated _ _ => true
  | .fieldTickHold obs => distinct (obs.map (fun o => o.ch.val))
  | .conversionSlot _ slot code _ => decide (slot < 103) && i 18 code
  | .complianceLatch _ => true
  | .startHoldEnd => true
  | .injCmd _ => true
  | .injectedConversionDone _ code _ => i 18 code
  | .fldCal _ => true
  | .fieldRecalTrigger temp => i 16 temp
  | .fieldConverterCalDone => true
  | .recoveryDone _ _ => true
  | .comparatorCrossing _ v => i 44 v
  | .latchedRelease _ => true
  | .bandSelect => true
  | .lsyncEdge => true
  | .lsyncLost => true
  | .chainSync => true
  | .superframeBoundary => true
  | .dSofSend _ => true
  | .upstreamFrame _ f => f.ok
  | .uSofMissing _ bad => u 16 bad
  | .linkRetrainTimeout _ => true
  | .trainingAttemptTimeout _ => true
  | .noPartnerRetry _ => true
  | .assignReplyTimeout _ => true
  | .drpRetrain _ => true
  | .drpRejoin _ => true
  | .nodeCmd _ => true
  | .nodeCmdTimeout _ => true
  | .splitDetect _ => true
  | .autoRejoin _ => true
  | .shutInEdge edges => edges != [] && distinct (edges.map (fun e => e.n.val))
  | .shutInStuck _ => true
  | .lineStateExpiry _ => true
  | .schedulerFire _ => true
  | .schedCfgWrite _ _ _ => true
  | .schedAtWrite _ _ _ => true
  | .shbTrig _ _ _ => true
  | .cmdAtReached => true
  | .segmentCopyDone _ bad => distinct bad
  | .spoolPush r => r.ok
  | .compressionJobStart => true
  | .compressionJobDone _ => true
  | .staleExpiry _ _ => true
  | .lanePop _ _ _ _ => true
  | .laneMark _ _ _ => true
  | .laneRewind _ _ _ => true
  | .laneReleaseMark _ _ _ => true
  | .laneReleaseRead _ _ _ => true
  | .loupeItemDispatch => true
  | .loupeTimerItem _ => true
  | .activationStart _ => true
  | .budgetExpiry _ => true
  | .interruptEntry _ => true
  | .dmaDone _ cycles => u 32 cycles
  | .tmrExpiry _ => true
  | .lpNop _ => true
  | .lpAdd _ => true
  | .lpSub _ => true
  | .lpAnd _ => true
  | .lpOr _ => true
  | .lpXor _ => true
  | .lpSlt _ => true
  | .lpMin _ => true
  | .lpMax _ => true
  | .lpAbs _ => true
  | .lpAddi _ => true
  | .lpLui _ => true
  | .lpOri _ => true
  | .lpShl _ => true
  | .lpShr _ => true
  | .lpSra _ => true
  | .lpMul _ => true
  | .lpMpy _ => true
  | .lpMac _ => true
  | .lpMsu _ => true
  | .lpMova _ => true
  | .lpMovta _ => true
  | .lpFtm _ _ _ => true
  | .lpLdh _ _ => true
  | .lpLdhu _ _ => true
  | .lpLdw _ _ => true
  | .lpSth _ => true
  | .lpStw _ => true
  | .lpBeq _ => true
  | .lpBne _ => true
  | .lpBlt _ => true
  | .lpBge _ => true
  | .lpBr _ => true
  | .lpCall _ => true
  | .lpJr _ => true
  | .lpRpt _ => true
  | .lpEnd _ => true
  | .lpWait _ => true
  | .lpReti _ => true
  | .lpEmit _ => true
  | .lpDmov _ => true
  | .lpIor _ => true
  | .lpIow _ => true
  | .lpMovs _ => true
  | .lpMovts _ => true
  | .illegalInstruction _ => true
  | .pauseFrame _ => true
  | .arpRequest _ senderMac senderIp targetIp => u 48 senderMac && u 32 senderIp && u 32 targetIp
  | .icmpEchoRequest _ mac payload => u 48 mac && decide (payload.length ≤ 8972)
  | .esmcPdu _ _ => true
  | .ssmExpiry _ => true
  | .portInService _ => true
  | .sessOpen m => m.ok
  | .sessClose m => m.ok
  | .sessKeepalive m => m.ok
  | .sessCredit m => m.ok
  | .regRead m => m.msg.ok && decide (m.ecc.length ≤ 256) && m.ecc.all (fun e => e.ok 1)
  | .regWrite m met => m.ok && met.all (fun e => decide (e.word < 256))
  | .spoolOpPop m _ => m.ok
  | .spoolOpMark m => m.ok
  | .spoolOpRewind m => m.ok
  | .spoolOpReleaseMark m => m.ok
  | .spoolOpReleaseRead m => m.ok
  | .itemSend _ _ => true
  | .keepaliveSend _ => true
  | .sessionExpiry _ => true
  | .noticeSend _ page => pageOk page
  | .noticeHoldExpiry _ page => pageOk page
  | .noticeRepeat _ => true
  | .mspiRead addr count got => u 32 addr && u 16 count && decide (got ≤ count)
  | .mspiWrite addr count data met => u 32 addr && u 16 count && decide (data.length ≤ 4 * count) && met.all (fun e => decide (e.word < count))
  | .mspiTimeout => true
  | .ptpSync m ip _ corr _ _ => m.ok && u 32 ip && i 64 corr
  | .ptpFollowUp m _ corr => m.ok && i 64 corr
  | .ptpDelayResp m _ corr interval => m.ok && i 64 corr && i 8 interval
  | .ptpAnnounce a => a.ok
  | .delayReqSend _ => true
  | .delayRespMiss => true
  | .announceTimeout => true
  | .mappingUpdate ratio => decide (0 < ratio)
  | .timRestep _ => true
  | .tetherBlockLock _ => true
  | .hbSend => true
  | .tetherHb _ _ hb => hb.ok
  | .pairHbBeat => true
  | .heartbeatMiss _ _ _ => true
  | .tetherTrainTimeout => true
  | .tetherTrainRetry => true
  | .tetherFeedF _ _ f => f.ok
  | .tetherFeedW _ _ f => f.ok
  | .tetherTrig _ _ ts => ts.all trigOk
  | .tetherCopy _ _ c => c.ok
  | .healthSend => true
  | .tetherHealth _ _ _ => true
  | .tetherBulk _ _ b => b.ok
  | .claimSend => true
  | .pairClaim c => c.ok
  | .pairHandover _ => true
  | .handoverRevertHold => true
  | .handoverOswSwitch => true
  | .pairResync _ => true
  | .ballastWrite _ _ => true
  | .ballastWakeDone _ => true
  | .memScrub _ _ _ => true
  | .dkrWipe _ => true
  | .maintenanceStepStart _ _ => true
  | .mntStart _ _ => true
  | .mntAbort _ _ => true
  | .memtestBlockRestore _ cycles => u 32 cycles
  | .flashTimeout reserve => u 32 reserve
  | .telPeriod m => m.rails.length == 9 && i 16 m.tCore
  | .updStart _ => true
  | .updActivate _ _ _ => true
  | .updConfirm _ => true
  | .updAbort _ => true
  | .autoConfirm => true
  | .winchRestartDone _ _ _ fmt => u 16 fmt
  | .sdCardInsert _ => true
  | .sdCardRemove => true
  | .sdTimeout _ => true
  | .keyInstall _ _ => true
  | .keyRemove _ _ => true
  | .returnArm _ => true
  | .returnArmExpiry => true
  | .partReturn _ => true
  | .blockLockLoss _ _ => true
  | .uplinkBlockLock _ _ => true
  | .prbsSyncLoss _ => true
  | .downstreamFrame _ _ sfn _ => u 8 sfn
  | .ramanSample _ _ => true
  | .sourceRecovers => true
  | .resetNRelease _ => true
  | .rxFrameDropped _ _ => true
  | .flashPatrolPeriod => true
  | .memtestPeriod => true
  | .linkLocalProbeEnd => true

end Sys2Proof
end

