-- ==== Sys2Proof/Safety.lean ====
section
/-!
DEFINITION. What a safe run of the block is: every step answers a next state, and what the spec fixes about the state at
rest holds: maps in canonical form, lanes with their item numbers in order.
-/

namespace Sys2Proof.Safety

open Sys2Proof.Machine

/-- The step from `s` answers a next state. -/
def Runs (s : State) : Prop := ∃ t, step s = .next t

/-- Every command that waits can arrive at the hub. -/
def QueueOk (s : State) : Prop := s.pending.all Instr.wellFormed = true

/-- What manufacture fixes and no command changes (R346, R354): serial number, MAC addresses, IPv4 address and mask, and
Slozon port of the identity block. -/
def identity (s : State) : Nat × Nat × Nat × Nat × Nat × Nat :=
  (s.nv.serial, s.nv.macA, s.nv.macB, s.nv.ip, s.nv.mask, s.nv.udp)

/-- A run of `n` steps stays safe. -/
def RunsFor : Nat → State → Prop
  | 0, _ => True
  | n + 1, s => ∃ t, step s = .next t ∧ RunsFor n t

end Sys2Proof.Safety
end

