-- ==== Sys2Proof/Certificates/Slice0/Obligations.lean ====
section
/-!
DEFINITION. The statements about the hub, for the provers.
-/

namespace Sys2Proof.Claims

open Sys2Proof.Machine

/-! ### Words the statements share -/

/-- Event bit `b` of page `p` is set in IRQ_RAW (R455). -/
def IrqSet (t : State) (p b : Nat) : Prop := Word.bit (t.rd (Reg.HDR_IRQ_RAW p)) b = true

/-- ERR_CODE of page `p` holds code `c`, and its error bit is set (R456). -/
def Reports (t : State) (p c : Nat) : Prop := t.rd (Reg.HDR_ERR_CODE p) = w32 c ∧ IrqSet t p 31

/-- Every register outside the list reads as before. -/
def RegsBut (l : List Nat) (s t : State) : Prop := ∀ a, a ∉ l → t.rd a = s.rd a

/-- The registers of a page that an event or an error report writes. -/
def eventRegs (p : Nat) : List Nat := [Reg.HDR_IRQ_RAW p, Reg.HDR_SEQ p, Reg.HDR_ERR_CODE p, Reg.HDR_ERR_COUNT p]

/-- The shutter bus keeps its size (R246, R251), and no trigger of an earlier command is left over. -/
structure ShbOk (s : State) : Prop where
  lines : s.shb.lineUntil.length = 16 ∧ s.shb.lineCycle.length = 16
  inputs : s.shb.inState.length = 4 ∧ s.shb.inStuck.length = 4
  schedulers : s.shb.armed.length = 8
  gathered : s.shb.gather = []

/-- Every byte of the memories reads as before. -/
def SameBytes (s t : State) : Prop := ∀ a, t.rdByte a = s.rdByte a

end Sys2Proof.Claims

open Sys2Proof Sys2Proof.Machine Sys2Proof.Claims

/-- A step runs the command at the front of the queue. -/
def Obligations.FrontCommandRuns : Prop :=
  ∀ (c : Instr) (rest : List Instr) (s : State),
    step { s with pending := c :: rest } = exec c { s with pending := rest }

/-- With nothing waiting, a step is one line tick: the LTC counts where it runs, nothing else changes (the model's choice, log entry 1). -/
def Obligations.IdleStepCountsTheLtc : Prop :=
  ∀ s : State, s.pending = [] → step s = .next { s with ltc := if s.ltcRun then s.ltc + 1 else s.ltc }

/-- State after reset: LTC at zero and stopped, every register at its Reset value, no plan, no session, no counters. -/
def Obligations.ResetState : Prop :=
  State.reset.ltc = 0 ∧ State.reset.ltcRun = false ∧ (∀ a, State.reset.rd a = resetWord a) ∧
  (∀ a, State.reset.rdByte a = 0) ∧ State.reset.pln.run = none ∧ State.reset.sessions = [] ∧
  (∀ k, (State.reset.lane k).items = []) ∧ (∀ c i k, State.reset.seqOf c i k = 0) ∧ State.reset.sys.step = 0 ∧
  State.reset.pending = []

/-- The state after reset meets the invariants that the steps keep. -/
def Obligations.ResetIsWellFormed : Prop :=
  State.reset.memWf = true ∧ Safety.QueueOk State.reset ∧ Safety.Runs State.reset ∧ ShbOk State.reset

/-- Every step, whatever the command, keeps the canonical form of registers and memory and the order of the queue. -/
def Obligations.StepsKeepCanonicalForm : Prop :=
  ∀ s t : State, s.memWf = true → Safety.QueueOk s → step s = .next t →
    t.memWf = true ∧ Safety.QueueOk t ∧ t.pending = s.pending.tail

/-- No command changes what manufacture wrote: serial number, MAC addresses, IPv4 address and mask, port. -/
def Obligations.StepsKeepIdentity : Prop :=
  ∀ s t : State, step s = .next t → Safety.identity t = Safety.identity s

/-- Every command of the table completes in every state, and leaves the waiting commands alone. -/
def Obligations.EveryCommandRuns : Prop :=
  ∀ (c : Instr) (s : State), ∃ t, exec c s = .next t ∧ t.pending = s.pending

namespace Sys2Proof.Claims

open Sys2Proof.Machine

/-- `t` is the hub after a full reset of `s` whose RESET_CAUSE word is `w` (R31, R429): every register but RESET_CAUSE and
RAIL_FAIL at its Reset value, the LTC at zero, nothing in any table or queue; flash contents, identity and keys kept, one boot
more, one entry more in the fault log. -/
structure FullReset (w : Nat) (s t : State) : Prop where
  cause : t.rd Reg.SYS_RESET_CAUSE = w32 w
  regs : ∀ a, a ≠ Reg.SYS_RESET_CAUSE → a ≠ Reg.PWR_RAIL_FAIL → t.rd a = resetWord a
  bytes : ∀ a, t.rdByte a = 0
  ltc : t.ltc = 0 ∧ t.ltcRun = false
  start : t.sys.step = 0
  empty : t.pln.run = none ∧ t.lanes = [] ∧ t.seqs = [] ∧ t.jobs = [] ∧ t.units = [] ∧ t.sessions = [] ∧ t.drp = [] ∧ t.pops = []
  boot : t.nv.boot = (s.nv.boot + 1) % 2 ^ 32
  kept : Safety.identity t = Safety.identity s ∧ t.nv.planKey = s.nv.planKey ∧ t.nv.ctxKeys = s.nv.ctxKeys ∧
    t.nv.bank0 = s.nv.bank0 ∧ t.nv.bank1 = s.nv.bank1 ∧ t.nv.settings = s.nv.settings ∧ t.nv.history = s.nv.history ∧
    t.nv.life = s.nv.life ∧ t.nv.planRec0 = s.nv.planRec0 ∧ t.nv.planRec1 = s.nv.planRec1 ∧
    t.nv.slotA.image = s.nv.slotA.image ∧ t.nv.slotB.image = s.nv.slotB.image
  log : t.nv.faults = (s.logFault 0 0 w).nv.faults
  queue : t.pending = s.pending

/-- Full reset is not held already (R429). -/
def NotHeld (s : State) : Prop := s.sys.step ≠ 0

/-- A rail that leaves its window: SUPPLY, or POWER_ON where every rail is absent (R429). -/
def railCause (all : Nat) : Nat := if all = 511 then 1 else 2

end Sys2Proof.Claims

/-- Rails, RESET_N, a missed progress check, the watchdog and SYS.CMD RESET each lead to a full reset with their cause; a held one keeps the lowest. -/
def Obligations.FullResetByEachCause : Prop :=
  (∀ (rails : Nat) (s : State), rails % 512 ≠ 0 → NotHeld s →
    ∃ t, exec (.railOutOfWindow rails) s = .next t ∧ FullReset (railCause (s.sys.railsBad ||| rails % 512)) s t ∧
      t.rd Reg.PWR_RAIL_FAIL = w32 (s.sys.railsBad ||| rails % 512)) ∧
  (∀ s : State, NotHeld s → ∃ t, exec .resetNLow s = .next t ∧ FullReset 3 s t ∧ t.sys.resetLow = true) ∧
  (∀ (f : MonFn) (inst : Nat) (s : State), 3 ≤ s.sys.step →
    ∃ t, exec (.progressMonitorMiss f inst) s = .next t ∧ FullReset (4 + 65536 * monBlock f) s t) ∧
  (∀ s : State, 5 ≤ s.sys.step → s.sys.restarting = false → ∃ t, exec .watchdogExpiry s = .next t ∧ FullReset 5 s t) ∧
  (∀ s : State, ∃ t, exec (.sysReset 0) s = .next t ∧ FullReset 6 s t) ∧
  (∀ s : State, s.sys.step = 0 →
    (∃ t, exec .resetNLow s = .next t ∧
      t.rd Reg.SYS_RESET_CAUSE = (if 3 < (s.rd Reg.SYS_RESET_CAUSE).toNat % 16 then 3 else s.rd Reg.SYS_RESET_CAUSE) ∧
      RegsBut [Reg.SYS_RESET_CAUSE] s t ∧ t = { s with regs := t.regs, sys := t.sys }) ∧
    (∀ rails, rails % 512 ≠ 0 → ∃ t, exec (.railOutOfWindow rails) s = .next t ∧
      t.rd Reg.SYS_RESET_CAUSE =
        (if railCause (s.sys.railsBad ||| rails % 512) < (s.rd Reg.SYS_RESET_CAUSE).toNat % 16
         then w32 (railCause (s.sys.railsBad ||| rails % 512)) else s.rd Reg.SYS_RESET_CAUSE) ∧
      RegsBut [Reg.SYS_RESET_CAUSE, Reg.PWR_RAIL_FAIL] s t ∧ t = { s with regs := t.regs, sys := t.sys }))

/-- RETURN, armed and in OWNED, wipes the keys, erases slots, settings and history, and resets with cause LIFECYCLE. -/
def Obligations.ReturnWipesErasesAndResets : Prop :=
  (∀ s : State, s.sys.returnArmed = true → s.nv.life = 1 →
    ∃ t, exec (.partReturn 0) s = .next t ∧ t.rd Reg.SYS_RESET_CAUSE = 7 ∧ t.nv.life = 2 ∧ t.nv.planKey = none ∧
      t.nv.ctxKeys = [none, none, none, none] ∧ t.nv.slotA = ⟨0, []⟩ ∧ t.nv.slotB = ⟨0, []⟩ ∧ t.nv.settings = [] ∧
      t.nv.history = [] ∧ Safety.identity t = Safety.identity s ∧ t.nv.bank0 = s.nv.bank0 ∧ t.nv.bank1 = s.nv.bank1 ∧
      t.nv.boot = (s.nv.boot + 1) % 2 ^ 32 ∧ t.ltc = 0 ∧ t.pln.run = none ∧ t.pending = s.pending) ∧
  (∀ s : State, ∃ t, exec (.returnArm 0) s = .next t ∧ t.sys.returnArmed = true ∧
    (∀ i, i < 16 → t.rd (Reg.SEC_KEY_DATA i) = 0) ∧ RegsBut ((List.range 16).map Reg.SEC_KEY_DATA) s t ∧
    t = { s with regs := t.regs, sys := { s.sys with returnArmed := true } }) ∧
  (∀ s : State, exec .returnArmExpiry s = .next { s with sys := { s.sys with returnArmed := false } })

namespace Sys2Proof.Claims

open Sys2Proof.Machine

/-- The Darkroom was wiped for a cause (R409): no key but the update key, WIPED with the cause, the count, the time and
both reports. The other non-volatile contents, but for the fault log, stay. -/
structure Wiped (cause : Nat) (s t : State) : Prop where
  nv : t.nv = { s.nv with
    planKey := none, ctxKeys := [none, none, none, none], updKey := true, wiped := true, wipeCause := cause,
    faults := t.nv.faults, faultNext := t.nv.faultNext }
  time : t.rd64 Reg.DKR_WIPE_LTC_LO Reg.DKR_WIPE_LTC_HI = s.ltc.toNat
  wipes : s.rd Reg.DKR_WIPES ≠ 0xFFFFFFFF → t.rd Reg.DKR_WIPES = s.rd Reg.DKR_WIPES + 1
  reports : Reports t 0x59 Err.DKR_WIPED ∧ IrqSet t 0x59 0
  bytes : SameBytes s t

end Sys2Proof.Claims

/-- WIPE and tampering clear the keys; INSTALL stores a key and REMOVE deletes a context key. -/
def Obligations.WipesAndKeys : Prop :=
  (∀ s : State, ∃ t, exec (.dkrWipe 0) s = .next t ∧ Wiped 1 s t) ∧
  (∀ (src : TamperSrc) (s : State), ∃ t, exec (.tamperTrip src) s = .next t ∧ Wiped 3 s t ∧
    t.rd Reg.SEC_TAMPER_SRC = (match src with | .glitch => 1 | .mesh => 2 | .overtemp => 4) ∧
    Reports t 0x5 Err.SEC_TAMPER ∧ IrqSet t 0x5 0) ∧
  (∀ (slot : Fin 8) (s : State), 1 ≤ slot.val → slot.val < 5 → s.nv.life ≠ 2 →
    ∃ t, exec (.keyInstall 0 slot) s = .next t ∧
      t.nv = { s.nv with ctxKeys := setAt s.nv.ctxKeys (slot.val - 1) (some (s.keyBytes 4)), wiped := false } ∧
      (∀ i, i < 16 → t.rd (Reg.SEC_KEY_DATA i) = 0) ∧ RegsBut ((List.range 16).map Reg.SEC_KEY_DATA) s t) ∧
  (∀ s : State, s.nv.life = 1 → ∃ t, exec (.keyInstall 0 0) s = .next t ∧
      t.nv = { s.nv with planKey := some (s.rd Reg.SEC_INSTALL_ID, s.keyBytes 16), wiped := false } ∧
      (∀ i, i < 16 → t.rd (Reg.SEC_KEY_DATA i) = 0) ∧ RegsBut ((List.range 16).map Reg.SEC_KEY_DATA) s t) ∧
  (∀ s : State, s.nv.life = 0 → ∃ t, exec (.keyInstall 0 0) s = .next t ∧ t.nv.life = 1 ∧
      t.nv.planKey = some (s.rd Reg.SEC_INSTALL_ID, s.keyBytes 16) ∧ t.nv.ctxKeys = [none, none, none, none] ∧
      (∀ i, i < 16 → t.rd (Reg.SEC_KEY_DATA i) = 0)) ∧
  (∀ (slot : Fin 8) (s : State), 1 ≤ slot.val → slot.val < 5 → ∃ t, exec (.keyRemove 0 slot) s = .next t ∧
      t.nv = { s.nv with ctxKeys := setAt s.nv.ctxKeys (slot.val - 1) none } ∧
      (∀ i, i < 16 → t.rd (Reg.SEC_KEY_DATA i) = 0) ∧ RegsBut ((List.range 16).map Reg.SEC_KEY_DATA) s t) ∧
  (∀ (slot : Fin 8) (s : State), 5 ≤ slot.val →
    (∃ t, exec (.keyInstall 0 slot) s = .next t ∧ Reports t 0x5 Err.SEC_RANGE ∧ t.nv = s.nv) ∧
    (∃ t, exec (.keyRemove 0 slot) s = .next t ∧ Reports t 0x5 Err.SEC_RANGE ∧ t.nv = s.nv)) ∧
  (∀ (slot : Fin 8) (s : State), slot.val < 5 → s.nv.life = 2 →
    ∃ t, exec (.keyInstall 0 slot) s = .next t ∧ Reports t 0x5 Err.SEC_STATE ∧ t.nv = s.nv) ∧
  (∀ s : State, ∃ t, exec (.keyRemove 0 0) s = .next t ∧ Reports t 0x5 Err.SEC_STATE ∧ t.nv = s.nv)

/-- The start: straps latched at release, firmware, calibrations, the plan of the activation record, a Winch restart. -/
def Obligations.StartUpPhases : Prop :=
  (∀ (st : Straps) (s : State), s.sys.step = 0 → s.sys.resetLow = false → st.stable = true →
    ∃ t, exec (.railValidTimer st) s = .next t ∧ 1 ≤ t.sys.step ∧ t.sys.railsBad = 0 ∧
      t.rf Reg.SYS_STAT Fd.SYS_STAT_STRAP_MGMT = st.mgmt.val ∧ t.rf Reg.SYS_STAT Fd.SYS_STAT_STRAP_PAIR = b2n st.pair ∧
      t.rd Reg.SYS_RESET_CAUSE = (if s.rd Reg.SYS_RESET_CAUSE = 0 then 1 else s.rd Reg.SYS_RESET_CAUSE)) ∧
  (∀ (st : Straps) (s : State), s.sys.step = 0 → s.sys.resetLow = true → s.sys.railsBad = 0 → st.stable = true →
    ∃ t, exec (.resetNRelease st) s = .next t ∧ 1 ≤ t.sys.step ∧ t.sys.resetLow = false ∧
      t.rf Reg.SYS_STAT Fd.SYS_STAT_STRAP_MGMT = st.mgmt.val ∧ t.rf Reg.SYS_STAT Fd.SYS_STAT_STRAP_PAIR = b2n st.pair ∧
      t.rd Reg.SYS_RESET_CAUSE = (if s.rd Reg.SYS_RESET_CAUSE = 0 then 1 else s.rd Reg.SYS_RESET_CAUSE)) ∧
  (∀ (good readable : Bool) (ver : Word) (fmt : Nat) (s : State), s.sys.step = 3 →
    ∃ t, exec (.firmwareLoaded good readable ver fmt) s = .next t ∧ (t.sys.step = 5 ∨ t.sys.step = 9) ∧
      t.rf Reg.OFE_STAT Fd.OFE_STAT_CAL_BUSY = 1 ∧ t.rf Reg.FLD_STAT Fd.FLD_STAT_CAL_BUSY = 1 ∧ SameBytes s t) ∧
  (∀ (rx fl : Int) (s : State), 5 ≤ s.sys.step → s.sys.calDone = false →
    ∃ t, exec (.startupCalDone rx fl) s = .next t ∧ t.sys.calDone = true ∧
      t.rd Reg.OFE_TEMP_CAL = w32 (unsigned 16 rx) ∧ t.rd Reg.FLD_TEMP_CAL = w32 (unsigned 16 fl) ∧
      t.rf Reg.OFE_STAT Fd.OFE_STAT_CAL_BUSY = 0 ∧ t.rf Reg.FLD_STAT Fd.FLD_STAT_CAL_BUSY = 0 ∧ t.ofe.calAt = s.ltc ∧
      t.fld.calAt = s.ltc) ∧
  (∀ s : State, 5 ≤ s.sys.step → s.sys.planDone = false → ∃ t, exec .planLoadDone s = .next t ∧ t.sys.planDone = true) ∧
  (∀ (i : Nat) (s : State), 5 ≤ s.sys.step → s.sys.planDone = false → s.recordSlot = some i → (s.slot i).state = 4 →
    startCheck (s.slot i).image = true →
    ∃ t, exec .planLoadDone s = .next t ∧ t.pln.run.isSome = true ∧ t.pln.slot = i ∧
      t.sched = ⟨epochFrom (s.ltc.toNat + 4000), 0, 0, 0⟩) ∧
  (∀ (good readable : Bool) (ver : Word) (fmt : Nat) (s : State), s.sys.restarting = true →
    ∃ t, exec (.winchRestartDone good readable ver fmt) s = .next t ∧ t.sys.restarting = false ∧ t.nv.boot = s.nv.boot ∧
      t.ltc = s.ltc ∧ SameBytes s t)

/-- PFW_N: the fall reports and parks or deposes, the commit is recorded, the resume ends that park alone. -/
def Obligations.PowerFailParksAndResumes : Prop :=
  (∀ s : State, s.sys.pfw = false → ∃ t, exec .pfwFall s = .next t ∧ t.sys.pfw = true ∧ t.ltc = s.ltc ∧ SameBytes s t) ∧
  (∀ s : State, s.sys.pfw = false → s.pln.run = none → ∃ t, exec .pfwFall s = .next t ∧
    t.rf Reg.PWR_STAT Fd.PWR_STAT_PFW = 1 ∧ t.rf Reg.PWR_STAT Fd.PWR_STAT_COMMITTED = 0 ∧ Reports t 0x2 Err.PWR_FAIL ∧
    IrqSet t 0x2 0) ∧
  (∀ s : State, s.sys.pfw = false → s.role = 1 → s.syncState = 3 → ∃ t, exec .pfwFall s = .next t ∧
    t.rf Reg.PAI_STAT Fd.PAI_STAT_ROLE = 3 ∧ t.pai.silent = true ∧ IrqSet t 0x4d 0) ∧
  (∀ s : State, s.sys.pfw = false → s.role = 0 → s.pln.run.isSome = true → s.mainBoundary = 0 →
    ∃ t, exec .pfwFall s = .next t ∧ t.clk.parkPfw = true ∧ t.clk.parkClk = s.clk.parkClk) ∧
  (∀ (us : Nat) (s : State), s.sys.pfw = true → ∃ t, exec (.pfwCommitDone us) s = .next t ∧
    t.rf Reg.PWR_STAT Fd.PWR_STAT_COMMITTED = 1 ∧ t.rd Reg.PWR_COMMIT_US = w32 (min us 65535) ∧
    RegsBut [Reg.PWR_STAT, Reg.PWR_COMMIT_US] s t ∧ t = { s with regs := t.regs, mnt := { s.mnt with busy := t.mnt.busy } } ∧
    t.mBusy 2 = false ∧ t.mBusy 3 = false ∧ t.mBusy 4 = false) ∧
  (∀ s : State, s.sys.pfw = true → ∃ t, exec .pfwResume s = .next t ∧ t.sys.pfw = false ∧ t.clk.parkPfw = false ∧
    t.ltc = s.ltc ∧ SameBytes s t) ∧
  (∀ s : State, s.sys.pfw = true → (s.clk.parkClk = true ∨ s.clk.parkPfw = false) →
    ∃ t, exec .pfwResume s = .next t ∧ t.clk.parkClk = s.clk.parkClk ∧ t.sched = s.sched ∧ t.pai.silent = false ∧
      t.rf Reg.PWR_STAT Fd.PWR_STAT_PFW = 0 ∧ t.rf Reg.SYS_STAT Fd.SYS_STAT_PFW_PARK = 0 ∧
      RegsBut [Reg.PWR_STAT, Reg.SYS_STAT] s t) ∧
  (∀ s : State, exec .jtagTapReset s = .next s)

namespace Sys2Proof.Claims

open Sys2Proof.Machine

/-- A command of the update may be given: the stage is not DOWNLOADING, VERIFYING or ACTIVATING (R435). -/
def UpdateIdle (s : State) : Prop := s.updStage ≠ 1 ∧ s.updStage ≠ 3 ∧ s.updStage ≠ 5

/-- The record that governs afterwards is the given one, with the sequence number after that of `r` (R433). -/
def GovernedBy (t : State) (r : FwRec) (bank : Nat) (confirmed : Bool) (trials : Nat) : Prop :=
  ∃ copy, t.fwGov = some (⟨r.seq + 1, bank, confirmed, trials, true⟩, copy)

end Sys2Proof.Claims

/-- START downloads, ACTIVATE verifies or activates, CONFIRM and AUTO_CONFIRM confirm the image on trial, ABORT is noted. -/
def Obligations.UpdateStages : Prop :=
  (∀ (s : State) (c : SdCard), UpdateIdle s → s.sys.card = some c → (c.type.val = 1 ∨ c.type.val = 2) → c.fat32 = true →
    c.file.isSome = true → ∃ t, exec (.updStart 0) s = .next t ∧ t.updStage = 1 ∧ t.rd Reg.UPD_RESULT = 0 ∧
      t.sys.updPos = 0 ∧ t.sys.updBank = s.updTarget ∧ t.sys.verified = false ∧ t.nv = s.nv) ∧
  (∀ (bank : Fin 2) (s : State), UpdateIdle s → (s.sys.verified = false ∨ s.updTarget ≠ s.sys.updBank) →
    ∃ t, exec (.updActivate 0 bank false) s = .next t ∧ t.updStage = 3 ∧ t.sys.updBank = s.updTarget ∧ t.sys.updAct = true ∧
      t.nv = s.nv) ∧
  (∀ (bank : Fin 2) (s : State) (r : FwRec) (one : Bool), UpdateIdle s → s.sys.verified = true →
    s.updTarget = s.sys.updBank → s.fwGov = some (r, one) →
    ∃ t, exec (.updActivate 0 bank false) s = .next t ∧ t.updStage = 5 ∧ t.sys.restarting = true ∧
      GovernedBy t r s.updTarget false 0) ∧
  (∀ (s : State) (r : FwRec) (one : Bool), s.flag Reg.SYS_STAT Fd.SYS_STAT_TRIAL = true → s.sys.restarting = false →
    s.fwGov = some (r, one) → ∃ t, exec (.updConfirm 0) s = .next t ∧ GovernedBy t r r.bank true r.trials ∧
      t.rf Reg.SYS_STAT Fd.SYS_STAT_TRIAL = 0 ∧ t.rf Reg.UPD_STAT Fd.UPD_STAT_TRIAL = 0 ∧
      RegsBut [Reg.SYS_STAT, Reg.UPD_STAT] s t ∧ t = { s with regs := t.regs, nv := t.nv }) ∧
  (∀ (s : State) (r : FwRec) (one : Bool) (p : Time), s.flag Reg.SYS_STAT Fd.SYS_STAT_TRIAL = true →
    s.fwGov = some (r, one) → s.sys.planAt = some p → s.rf Reg.UPD_CFG Fd.UPD_CFG_AUTO_S ≠ 0 →
    s.sys.fwAt.toNat + s.rf Reg.UPD_CFG Fd.UPD_CFG_AUTO_S * tickS ≤ s.ltc.toNat →
    p.toNat + s.rf Reg.UPD_CFG Fd.UPD_CFG_AUTO_S * tickS ≤ s.ltc.toNat →
    ∃ t, exec .autoConfirm s = .next t ∧ GovernedBy t r r.bank true r.trials ∧
      t.rf Reg.SYS_STAT Fd.SYS_STAT_TRIAL = 0 ∧ t.rf Reg.UPD_STAT Fd.UPD_STAT_TRIAL = 0 ∧
      RegsBut [Reg.SYS_STAT, Reg.UPD_STAT] s t) ∧
  (∀ s : State, (s.updStage = 1 ∨ s.updStage = 3) →
    exec (.updAbort 0) s = .next { s with sys := { s.sys with updAbort := true } })

/-- A card that is inserted shows in SDC.STAT, a removed one leaves it at 0, a timeout or CRC error is counted and reported. -/
def Obligations.SdCardEvents : Prop :=
  (∀ (c : SdCard) (s : State), ∃ t, exec (.sdCardInsert c) s = .next t ∧ t.sys = { s.sys with card := some c } ∧
    t.rf Reg.SDC_STAT ⟨0, 1⟩ = 1 ∧ t.rf Reg.SDC_STAT ⟨2, 2⟩ = c.type.val ∧ IrqSet t 0x5b 0 ∧
    t.rf Reg.SDC_STAT ⟨1, 1⟩ = b2n (decide (c.type.val = 1 ∨ c.type.val = 2)) ∧
    (c.type.val = 0 ∨ c.type.val = 3 → Reports t 0x5b Err.SDC_CARD)) ∧
  (∀ s : State, s.sys.card.isSome = true → ∃ t, exec .sdCardRemove s = .next t ∧ t.sys.card = none ∧
    (s.updStage ≠ 1 → t.rd Reg.SDC_STAT = 0 ∧ IrqSet t 0x5b 1 ∧
      RegsBut (Reg.SDC_STAT :: eventRegs 0x5b) s t ∧ t = { s with regs := t.regs, sys := t.sys, sessions := t.sessions }) ∧
    (s.updStage = 1 → t.sys.updAct = false)) ∧
  (∀ (crc : Bool) (s : State), ∃ t, exec (.sdTimeout crc) s = .next t ∧ t.sys.card = s.sys.card ∧
    (s.updStage ≠ 1 → Reports t 0x5b Err.SDC_IO ∧
      (s.rd (if crc then Reg.SDC_CRC_ERR else Reg.SDC_TIMEOUTS) ≠ 0xFFFFFFFF →
        t.rd (if crc then Reg.SDC_CRC_ERR else Reg.SDC_TIMEOUTS) =
          s.rd (if crc then Reg.SDC_CRC_ERR else Reg.SDC_TIMEOUTS) + 1)) ∧
    (s.updStage = 1 → t.sys.updAct = false))

namespace Sys2Proof.Claims

open Sys2Proof.Machine

/-- The loss of lane `n` touches nothing but the lane: it is no ready source, no source is selected or taken, and its port
is not in service. -/
def LaneAlone (s : State) (n : Nat) : Prop :=
  (n < 3 → s.srcReady n = false ∧ s.clk.target = none ∧ (s.rf Reg.CLK_STAT Fd.CLK_STAT_VALID = 0 ∨ s.selected ≠ n)) ∧
  (n < 2 → s.rf (Reg.UL_STAT n) Fd.UL_STAT_IN_SERVICE = 0)

end Sys2Proof.Claims

/-- Lock, loss of signal, loss of lock and block lock of a lane show in LN.STAT and ULA/ULB.STAT, with counts and reports. -/
def Obligations.LaneReceiverEvents : Prop :=
  (∀ (n : Fin 4) (s : State), s.laneRuns n.val = true → s.rf (Reg.LN_STAT n.val) Fd.LN_STAT_CDR_LOCK = 0 →
    ∃ t, exec (.laneLocked n) s = .next t ∧ t.sys = { s.sys with laneSeen := true } ∧
      t.clk = { s.clk with passed := setAt s.clk.passed n.val false } ∧
      ((n.val < 2 → s.rf (Reg.UL_STAT n.val) Fd.UL_STAT_IN_SERVICE = 0) →
        t.rf (Reg.LN_STAT n.val) Fd.LN_STAT_STATE = 3 ∧ t.rf (Reg.LN_STAT n.val) Fd.LN_STAT_LOS = 0 ∧
        t.rf (Reg.LN_STAT n.val) Fd.LN_STAT_CDR_LOCK = 1 ∧ RegsBut [Reg.LN_STAT n.val] s t)) ∧
  (∀ (n : Fin 4) (s : State), s.laneRuns n.val = true → s.rf (Reg.LN_STAT n.val) Fd.LN_STAT_LOS = 0 →
    ∃ t, exec (.losDetect n) s = .next t ∧ t.sys = s.sys ∧ t.ltc = s.ltc ∧ SameBytes s t ∧
      (LaneAlone s n.val → t.rf (Reg.LN_STAT n.val) Fd.LN_STAT_STATE = 1 ∧ t.rf (Reg.LN_STAT n.val) Fd.LN_STAT_LOS = 1 ∧
        t.rf (Reg.LN_STAT n.val) Fd.LN_STAT_CDR_LOCK = 0 ∧ Reports t (0x50 + n.val) Err.LN_LOS ∧ IrqSet t (0x50 + n.val) 0 ∧
        (s.rd (Reg.LN_LOS_EVT n.val) ≠ 0xFFFFFFFF → t.rd (Reg.LN_LOS_EVT n.val) = s.rd (Reg.LN_LOS_EVT n.val) + 1))) ∧
  (∀ (n : Fin 4) (s : State), s.laneRuns n.val = true → s.rf (Reg.LN_STAT n.val) Fd.LN_STAT_CDR_LOCK = 1 →
    ∃ t, exec (.cdrUnlockTimeout n) s = .next t ∧ t.sys = s.sys ∧ t.ltc = s.ltc ∧ SameBytes s t ∧
      (LaneAlone s n.val → t.rf (Reg.LN_STAT n.val) Fd.LN_STAT_STATE = 2 ∧ t.rf (Reg.LN_STAT n.val) Fd.LN_STAT_CDR_LOCK = 0 ∧
        Reports t (0x50 + n.val) Err.LN_LOL ∧ IrqSet t (0x50 + n.val) 1 ∧
        (s.rd (Reg.LN_LOL_EVT n.val) ≠ 0xFFFFFFFF → t.rd (Reg.LN_LOL_EVT n.val) = s.rd (Reg.LN_LOL_EVT n.val) + 1))) ∧
  (∀ (n : Fin 4) (fec : Bool) (s : State), n.val < 2 → s.rf (Reg.UL_STAT n.val) Fd.UL_STAT_IN_SERVICE = 0 →
    ∃ t, exec (.blockLockLoss n fec) s = .next t ∧ t.rf (Reg.UL_STAT n.val) Fd.UL_STAT_FEC_ALIGN = 0 ∧
      t.rf (Reg.UL_STAT n.val) Fd.UL_STAT_BLOCK_LOCK = (if fec then s.rf (Reg.UL_STAT n.val) Fd.UL_STAT_BLOCK_LOCK else 0) ∧
      RegsBut [Reg.UL_STAT n.val] s t) ∧
  (∀ (n : Fin 4) (s : State), 2 ≤ n.val →
    ∃ t, exec (.blockLockLoss n false) s = .next t ∧ (t.tlane (n.val - 2)).up = false ∧ t.sys = s.sys ∧ t.clk = s.clk ∧
      t.ltc = s.ltc) ∧
  (∀ (p : Fin 2) (fec : Bool) (s : State), s.rf (Reg.UL_STAT p.val) Fd.UL_STAT_IN_SERVICE = 0 →
    ∃ t, exec (.uplinkBlockLock p fec) s = .next t ∧ t.rf (Reg.UL_STAT p.val) Fd.UL_STAT_BLOCK_LOCK = 1 ∧
      t.rf (Reg.UL_STAT p.val) Fd.UL_STAT_FEC_ALIGN = b2n fec ∧ RegsBut [Reg.UL_STAT p.val] s t)

/-- SWITCH: refused with CLK_OWNER, CLK_RANGE, CLK_BUSY or CLK_NOT_READY and the selection kept; to the selected source nothing. -/
def Obligations.SwitchCommandRefusals : Prop :=
  ∀ (x : Fin 4) (n : Fin 4) (s : State),
    let refused (code : Nat) : Prop := ∃ t, exec (.clkSwitch x n) s = .next t ∧ Reports t 0x1 code ∧
      RegsBut (eventRegs 0x1) s t ∧ t = { s with regs := t.regs, sessions := t.sessions }
    if x.val ≠ 0 then refused Err.CLK_OWNER
    else if n.val = 3 then refused Err.CLK_RANGE
    else if s.rf Reg.CLK_STAT Fd.CLK_STAT_VALID = 1 ∧ s.selected = n.val ∧ s.clkState = 1 then
      exec (.clkSwitch x n) s = .next s
    else if s.srcReady n.val = false then refused Err.CLK_NOT_READY
    else n.val ∈ s.prio → if s.clkState = 2 ∨ s.clkState = 3 then refused Err.CLK_BUSY
    else ∃ t, exec (.clkSwitch x n) s = .next t ∧ t.clkState = 2 ∧ RegsBut [Reg.CLK_STAT] s t ∧
      t = { s with regs := t.regs, clk := { s.clk with frozen := true, target := some n.val, ramp := 0 } }

namespace Sys2Proof.Claims

open Sys2Proof.Machine

/-- A switch to source `n` is complete (R335): the ramp begins at 16, SEL names the source, the completion is counted and
its time shown, and the event is raised. -/
def SwitchedTo (n : Nat) (timeout : Bool) (s t : State) : Prop :=
  t.clkState = 3 ∧ t.selected = n ∧ t.rf Reg.CLK_STAT Fd.CLK_STAT_VALID = 1 ∧
  t.rf Reg.CLK_STAT Fd.CLK_STAT_SW_TIMEOUT = b2n timeout ∧ t.clk = { s.clk with ramp := 16, starting := false, frozen := false } ∧
  t.rd64 Reg.CLK_SW_LTC_LO Reg.CLK_SW_LTC_HI = s.ltc.toNat ∧ IrqSet t 0x1 0 ∧
  (s.rd Reg.CLK_SWITCHES ≠ 0xFFFFFFFF → t.rd Reg.CLK_SWITCHES = s.rd Reg.CLK_SWITCHES + 1) ∧ t.ltc = s.ltc ∧
  RegsBut ([Reg.CLK_STAT, Reg.CLK_FREQ n, Reg.CLK_SWITCHES, Reg.CLK_SW_LTC_LO, Reg.CLK_SW_LTC_HI] ++ eventRegs 0x1) s t

end Sys2Proof.Claims

/-- A switch completes with or without its handshake, the divider ramp halves to 1, its end locks; revertive selection. -/
def Obligations.SwitchAndRamp : Prop :=
  (∀ (n : Nat) (s : State), n < 3 → s.clk.target = some n → s.clkState = 2 →
    ∃ t, exec .switchHandshake s = .next t ∧ SwitchedTo n false s t) ∧
  (∀ (n : Nat) (s : State), n < 3 → s.clk.target = some n → s.clkState = 2 →
    ∃ t, exec .switchHandshakeTimeout s = .next t ∧ SwitchedTo n true s t ∧ Reports t 0x1 Err.CLK_SW_TIMEOUT) ∧
  (∀ s : State, 1 < s.clk.ramp → exec .rampStep s = .next { s with clk := { s.clk with ramp := s.clk.ramp / 2 } }) ∧
  (∀ (pbo : Int) (s : State), s.clk.ramp = 1 → s.clk.starting = false →
    ∃ t, exec (.rampComplete pbo) s = .next t ∧ t.clkState = 1 ∧ t.clk.ramp = 0 ∧ t.clk.target = none ∧ t.clk.frozen = false ∧
      t.rd Reg.CLK_PBO = s.rd Reg.CLK_PBO + BitVec.ofInt 32 pbo ∧ RegsBut [Reg.CLK_STAT, Reg.CLK_PBO] s t ∧
      t = { s with regs := t.regs, clk := t.clk }) ∧
  (∀ (pbo : Int) (s : State), s.clk.ramp = 1 → s.clk.starting = true →
    ∃ t, exec (.rampComplete pbo) s = .next t ∧ t.clkState = 1 ∧ t.sys.step = max s.sys.step 3 ∧ t.fabricUp = true ∧
      RegsBut [Reg.CLK_STAT] s t) ∧
  (∀ (n : Nat) (f : Time) (s : State), n < 3 → s.rf Reg.CLK_PRIO Fd.CLK_PRIO_FIRST = n → s.selected ≠ n →
    s.srcReady n = true → nth s.clk.readyFrom n none = some f →
    s.rf Reg.CLK_CFG Fd.CLK_CFG_REVERT_HOLD * tickS ≤ s.ltc.toNat - f.toNat →
    s.rf Reg.CLK_CFG Fd.CLK_CFG_REVERT = 1 → s.clkState = 1 → s.sys.restarting = false →
    ∃ t, exec .revertHoldElapsed s = .next t ∧ t.clkState = 2 ∧ t.clk.target = some n ∧ t.clk.frozen = true ∧
      RegsBut [Reg.CLK_STAT] s t) ∧
  (∀ (n : Fin 4) (s : State), n.val ≠ 3 → n.val ∉ s.prio → ¬ (s.selected = n.val ∧ s.clkState = 1) →
    ∃ t, exec (.clkSwitch 0 n) s = .next t ∧ Reports t 0x1 Err.CLK_NOT_READY ∧ RegsBut (eventRegs 0x1) s t ∧
      t = { s with regs := t.regs, sessions := t.sessions })

/-- Frequency comparisons decide readiness; a short trouble freezes and resumes; holdover of 8 ms parks; a locked source ends the park. -/
def Obligations.SourcesHoldoverAndPark : Prop :=
  (∀ (n : Fin 3) (offset : Int) (s : State), s.clkState = 1 → s.selected ≠ n.val → s.parked = false →
    s.rf (Reg.LN_STAT n.val) Fd.LN_STAT_CDR_LOCK = 1 → offset.natAbs ≤ 10 * s.rf Reg.CLK_CFG Fd.CLK_CFG_TOL →
    (n.val = 2 → s.clk.held = false) →
    ∃ t, exec (.freqCompareDone n offset) s = .next t ∧ t.srcReady n.val = true ∧
      t.rd (Reg.CLK_FREQ n.val) = w32 (unsigned 16 (satS 16 offset)) ∧ t.rf (Reg.LN_STAT n.val) Fd.LN_STAT_IN_WINDOW = 1 ∧
      t.clkState = 1 ∧ t.selected = s.selected ∧ t.ltc = s.ltc) ∧
  (∀ (n : Fin 3) (offset : Int) (s : State), s.clkState = 1 → s.selected ≠ n.val → s.clk.target = none → s.parked = false →
    s.rf (Reg.LN_STAT n.val) Fd.LN_STAT_CDR_LOCK = 1 → 10 * s.rf Reg.CLK_CFG Fd.CLK_CFG_TOL < offset.natAbs →
    (n.val < 2 → s.rf (Reg.UL_STAT n.val) Fd.UL_STAT_IN_SERVICE = 0) →
    ∃ t, exec (.freqCompareDone n offset) s = .next t ∧ t.srcReady n.val = false ∧
      t.rf (Reg.LN_STAT n.val) Fd.LN_STAT_STATE = 2 ∧ t.rf (Reg.LN_STAT n.val) Fd.LN_STAT_CDR_LOCK = 0 ∧
      Reports t (0x50 + n.val) Err.LN_WINDOW ∧
      (s.rd (Reg.LN_WIN_EVT n.val) ≠ 0xFFFFFFFF → t.rd (Reg.LN_WIN_EVT n.val) = s.rd (Reg.LN_WIN_EVT n.val) + 1) ∧
      (n.val = 2 → (t.tlane 0).up = false)) ∧
  (∀ s : State, s.clkState = 1 → exec .synthTrouble s = .next { s with clk := { s.clk with frozen := true } }) ∧
  (∀ s : State, s.clkState = 1 → s.clk.frozen = true → ∃ t, exec .sourceRecovers s = .next t ∧
    t.clk = { s.clk with frozen := false } ∧
    (s.rd Reg.CLK_HITS ≠ 0xFFFFFFFF → t.rd Reg.CLK_HITS = s.rd Reg.CLK_HITS + 1) ∧ RegsBut [Reg.CLK_HITS] s t) ∧
  (∀ (f : Time) (s : State), s.clk.holdFrom = some f → s.clkState = 4 → 8 * tickMs ≤ s.ltc.toNat - f.toNat → s.pln.run = none →
    s.parked = false → ∃ t, exec .holdoverTimeout s = .next t ∧ t.clkState = 5 ∧ t.clk.parkClk = true ∧ Reports t 0x1 Err.CLK_PARK ∧
      IrqSet t 0x1 2 ∧ (s.rd Reg.CLK_PARKS ≠ 0xFFFFFFFF → t.rd Reg.CLK_PARKS = s.rd Reg.CLK_PARKS + 1)) ∧
  (∀ (f : Time) (s : State), s.clk.holdFrom = some f → s.clkState = 4 → 8 * tickMs ≤ s.ltc.toNat - f.toNat →
    s.mainBoundary = 0 → ∃ t, exec .holdoverTimeout s = .next t ∧ t.clk.parkClk = true ∧ t.ltc = s.ltc ∧ SameBytes s t) ∧
  (∀ (f : Time) (s : State), s.clk.holdFrom = some f → s.clkState = 4 → 8 * tickMs ≤ s.ltc.toNat - f.toNat →
    s.mainBoundary ≠ 0 → s.parked = false →
    exec .holdoverTimeout s = .next { s with clk := { s.clk with parkAsk := true } }) ∧
  (∀ s : State, s.clk.parkClk = true → s.clkState = 1 → s.clk.parkPfw = true →
    exec .clkResume s = .next { s with clk := { s.clk with parkClk := false } }) ∧
  (∀ s : State, s.clk.parkClk = true → s.clkState = 1 → s.clk.parkPfw = false →
    ∃ t, exec .clkResume s = .next t ∧ t.parked = false ∧ t.ltc = s.ltc ∧ t.pln = s.pln ∧ SameBytes s t)

/-- Eye and equaliser results, injected errors, cleared and saturating PRBS counts, PRBS synchronisation. -/
def Obligations.LaneTestPatterns : Prop :=
  (∀ (n : Fin 4) (e : LaneMeasure) (s : State), ∃ t, exec (.eyeMeasure n e) s = .next t ∧
    t.rd (Reg.LN_EYE n.val) = w32 (e.height % 256 + 256 * (e.width % 256)) ∧
    (s.rf (Reg.LN_CFG n.val) Fd.LN_CFG_ADAPT_FREEZE = 0 → t.rd (Reg.LN_RX_EQ n.val) = w32 (e.eq % 16) ∧
      t.rd (Reg.LN_DFE_LO n.val) = e.dfeLo ∧ t.rd (Reg.LN_DFE_HI n.val) = e.dfeHi) ∧
    (s.rf (Reg.LN_CFG n.val) Fd.LN_CFG_ADAPT_FREEZE = 1 → t.rd (Reg.LN_RX_EQ n.val) = s.rd (Reg.LN_RX_EQ n.val)) ∧
    (s.rf (Reg.LN_STAT n.val) Fd.LN_STAT_PRBS_SYNC = 1 →
      t.rd (Reg.LN_PRBS_ERR n.val) = w32 (min ((s.rd (Reg.LN_PRBS_ERR n.val)).toNat + e.errs) (2 ^ 32 - 1)) ∧
      t.rd64 (Reg.LN_PRBS_BITS_LO n.val) (Reg.LN_PRBS_BITS_HI n.val) =
        (s.rd64 (Reg.LN_PRBS_BITS_LO n.val) (Reg.LN_PRBS_BITS_HI n.val) + e.bits) % 2 ^ 64) ∧
    (s.rf (Reg.LN_STAT n.val) Fd.LN_STAT_PRBS_SYNC = 0 → t.rd (Reg.LN_PRBS_ERR n.val) = s.rd (Reg.LN_PRBS_ERR n.val)) ∧
    RegsBut [Reg.LN_EYE n.val, Reg.LN_RX_EQ n.val, Reg.LN_DFE_LO n.val, Reg.LN_DFE_HI n.val, Reg.LN_PRBS_ERR n.val,
      Reg.LN_PRBS_BITS_LO n.val, Reg.LN_PRBS_BITS_HI n.val] s t ∧ t = { s with regs := t.regs }) ∧
  (∀ (n : Fin 4) (s : State), s.rf (Reg.LN_PRBS_CFG n.val) Fd.LN_PRBS_CFG_GEN ≠ 0 →
    exec (.prbsInj1 0 n) s = .next (s.emitOut (.pin (0x100 + n.val) 1 s.ltc))) ∧
  (∀ (n : Fin 4) (s : State), s.rf (Reg.LN_PRBS_CFG n.val) Fd.LN_PRBS_CFG_GEN ≠ 0 →
    10 ≤ s.rf (Reg.LN_PRBS_CFG n.val) Fd.LN_PRBS_CFG_INJ_RATE →
    exec (.prbsRateInject n) s = .next (s.emitOut (.pin (0x100 + n.val) 1 s.ltc))) ∧
  (∀ (n : Fin 4) (s : State), ∃ t, exec (.prbsClr 0 n) s = .next t ∧ t.rd (Reg.LN_PRBS_ERR n.val) = 0 ∧
    t.rd (Reg.LN_PRBS_BITS_LO n.val) = 0 ∧ t.rd (Reg.LN_PRBS_BITS_HI n.val) = 0 ∧
    RegsBut [Reg.LN_PRBS_ERR n.val, Reg.LN_PRBS_BITS_LO n.val, Reg.LN_PRBS_BITS_HI n.val] s t ∧
    t = { s with regs := t.regs }) ∧
  (∀ (n : Fin 4) (s : State), s.rf (Reg.LN_PRBS_CFG n.val) Fd.LN_PRBS_CFG_CHK ≠ 0 →
    s.rf (Reg.LN_STAT n.val) Fd.LN_STAT_PRBS_SYNC = 0 → ∃ t, exec (.prbsSync n) s = .next t ∧
      t.rf (Reg.LN_STAT n.val) Fd.LN_STAT_PRBS_SYNC = 1 ∧ IrqSet t (0x50 + n.val) 3 ∧
      RegsBut (Reg.LN_STAT n.val :: eventRegs (0x50 + n.val)) s t) ∧
  (∀ (n : Fin 4) (s : State), s.rf (Reg.LN_PRBS_CFG n.val) Fd.LN_PRBS_CFG_CHK ≠ 0 →
    s.rf (Reg.LN_STAT n.val) Fd.LN_STAT_PRBS_SYNC = 1 → ∃ t, exec (.prbsSyncLoss n) s = .next t ∧
      t.rf (Reg.LN_STAT n.val) Fd.LN_STAT_PRBS_SYNC = 0 ∧ IrqSet t (0x50 + n.val) 3 ∧
      RegsBut (Reg.LN_STAT n.val :: eventRegs (0x50 + n.val)) s t)

namespace Sys2Proof.Claims

open Sys2Proof.Machine

/-- The gates of group `g` touch no clock source and no port in service: those of LN1, ULB and LN2 are in GATE0. -/
def NoSourceGated (s : State) (g : Nat) : Prop := g = 0 → LaneAlone s 1 ∧ LaneAlone s 2

end Sys2Proof.Claims

/-- Gate bits of used blocks are ignored and reported, the others act; a gated or ungated block holds its Reset values. -/
def Obligations.ClockGating : Prop :=
  (∀ (g : Fin 3) (v : Word) (s : State), ∃ t, exec (.gateWrite g v) s = .next t ∧
    (∀ b, b < gateBits g.val → Word.bit (t.rd (gateReg g.val)) b =
      (Word.bit v b && (Word.bit (s.rd (gateReg g.val)) b || !s.gateHeld g.val b))) ∧
    ((∃ b, b < gateBits g.val ∧ Word.bit v b = true ∧ Word.bit (s.rd (gateReg g.val)) b = false ∧ s.gateHeld g.val b = true) →
      Reports t 0x1 Err.CLK_GATE_USED) ∧
    RegsBut ([gateReg g.val, Reg.CLK_GATE_PEND] ++ eventRegs 0x1) s t ∧
    t = { s with regs := t.regs, sessions := t.sessions }) ∧
  (∀ (g : Fin 3) (s : State), s.clk.gates.length = 3 → ∃ t, exec (.gateEffective g) s = .next t ∧
    (∀ b, b < gateBits g.val → Word.bit (nth t.clk.gates g.val 0) b =
      (Word.bit (nth s.clk.gates g.val 0) b || Word.bit (s.rd (gateReg g.val)) b)) ∧
    (NoSourceGated s g.val →
      (∀ (a b : Nat), gateBit (a % 0x1000000 / 0x1000) = some (gateReg g.val, b) → b < gateBits g.val →
        Word.bit (s.rd (gateReg g.val)) b = true → Word.bit (nth s.clk.gates g.val 0) b = false → t.rd a = resetWord a) ∧
      (∀ a, gateBit (a % 0x1000000 / 0x1000) = none → a ≠ Reg.CLK_GATE_PEND → t.rd a = s.rd a) ∧
      (∀ b, b < gateBits g.val → Word.bit (s.rd (gateReg g.val)) b = true → Word.bit (nth s.clk.gates g.val 0) b = false →
        (g.val = 0 → b = 1 → t.tmp = TmpState.init) ∧ (g.val = 0 → b = 3 → t.units = []) ∧
        (g.val = 1 → t.port b = DrpPort.init))) ∧
    t.pln = s.pln ∧ t.ltc = s.ltc ∧ SameBytes s t) ∧
  (∀ (g : Fin 3) (s : State), s.clk.gates.length = 3 → ∃ t, exec (.ungateDone g) s = .next t ∧
    (∀ b, b < gateBits g.val → Word.bit (nth t.clk.gates g.val 0) b =
      (Word.bit (nth s.clk.gates g.val 0) b && Word.bit (s.rd (gateReg g.val)) b)) ∧
    (NoSourceGated s g.val →
      (∀ (a b : Nat), gateBit (a % 0x1000000 / 0x1000) = some (gateReg g.val, b) → b < gateBits g.val →
        Word.bit (s.rd (gateReg g.val)) b = false → Word.bit (nth s.clk.gates g.val 0) b = true → t.rd a = resetWord a) ∧
      (∀ a, gateBit (a % 0x1000000 / 0x1000) = none → a ≠ Reg.CLK_GATE_PEND → t.rd a = s.rd a)) ∧
    t.pln = s.pln ∧ t.ltc = s.ltc ∧ SameBytes s t)

namespace Sys2Proof.Claims

open Sys2Proof.Machine

/-- A session message of a type arrives that the hub accepts (R349 to R354): its port in service with an address in use, header, body and tag as
they must be, the session's number, boot count and addresses, and a sequence number ahead of the last one. -/
def Accepted (s : State) (type : Nat) (m : SlzMsg) (okBody : List Byte → Bool) : Prop :=
  s.hears m.port.val = true ∧ slzLayoutOk m okBody = true ∧ s.authOk type m = true ∧
  ∃ q, s.session m.ctx = some q ∧ m.session = q.number ∧ m.boot = s.nv.boot ∧ m.ip = q.ip ∧ m.udp = q.udp ∧
    q.rxSeq < m.seq

/-- A session that has accepted a message knows its number, its acknowledgement and where it came from (R350, R353). -/
def heardBy (s : State) (m : SlzMsg) (q : Session) : Session :=
  { q with
    rxSeq := m.seq, lastRx := s.ltc, home := m.port.val, macs := setAt q.macs m.port.val m.mac, acked := max q.acked m.ack,
    notices := q.notices.filter (fun n => decide (m.ack < n.no)) }

/-- The state in which an accepted message is performed: its frame is counted, and its session knows it. -/
def heard (s : State) (m : SlzMsg) : State :=
  (s.count (Reg.UL_RX_FRAMES m.port.val)).onSession m.ctx (heardBy s m)

/-- The body of PLAN_DATA: SLOT, three bytes 0, OFFSET, image bytes (R360). -/
def planBody (b : List Byte) : Bool := decide (8 ≤ b.length) && (sliceB b 1 3).all (· == 0)

/-- The command is refused with PLAN_SLOT and the state kept, but for the report (R44). -/
def SlotRefused (c : Instr) (s : State) : Prop :=
  ∃ t, exec c s = .next t ∧ Reports t 0x3 Err.PLAN_SLOT ∧ RegsBut (eventRegs 0x3) s t ∧
    t = { s with regs := t.regs, sessions := t.sessions }

end Sys2Proof.Claims

/-- A plan command that the slot state does not permit is refused with PLAN_SLOT; a transfer into a judged slot returns it to LOADING. -/
def Obligations.SlotStatesPermitCommands : Prop :=
  (∀ (b : Bool) (s : State), (s.slot (b2n b)).state ≠ 2 → SlotRefused (.plnCommit 0 b) s) ∧
  (∀ (b at_ : Bool) (s : State), (s.slot (b2n b)).state ≠ 4 → SlotRefused (.plnSwitch 0 b at_) s) ∧
  (∀ (b : Bool) (s : State), (s.slot (b2n b)).state ≠ 7 → SlotRefused (.plnAbort 0 b) s) ∧
  (∀ (b : Bool) (s : State), (s.slot (b2n b)).state ∉ [1, 2, 4, 6] → SlotRefused (.plnErase 0 b) s) ∧
  (∀ (m : SlzMsg) (s : State), Accepted s 0x30 m planBody → s.role < 2 → m.ctx = 0 → byteAt m.body 0 ≤ 1 →
    fieldAt m.body 4 4 = 0 → (m.body.drop 8).length ≤ 16777216 →
    ((s.slot (byteAt m.body 0)).state = 4 ∨ (s.slot (byteAt m.body 0)).state = 6) →
    ∃ t, exec (.planData m) s = .next t ∧ t.slot (byteAt m.body 0) = ⟨1, []⟩)

/-- Image bytes arrive in order and reach flash, COMMIT checks a LOADED slot, ERASE empties one, ABORT gives a switch up. -/
def Obligations.PlanTransfersAndCommits : Prop :=
  (∀ (m : SlzMsg) (s : State), Accepted s 0x30 m planBody → s.role < 2 → m.ctx = 0 → byteAt m.body 0 ≤ 1 →
    (s.slot (byteAt m.body 0)).state = 1 → fieldAt m.body 4 4 = (s.slot (byteAt m.body 0)).image.length →
    fieldAt m.body 4 4 ≠ 0 → fieldAt m.body 4 4 + (m.body.drop 8).length ≤ 16777216 →
    ∃ t, exec (.planData m) s = .next t ∧ t.slot (byteAt m.body 0) = s.slot (byteAt m.body 0) ∧
      t.pln.xfers = s.pln.xfers ++
        [⟨byteAt m.body 0, fieldAt m.body 4 4, m.body.drop 8, decide (m.flags / 4 % 2 = 1), m.ctx, m.seq⟩]) ∧
  (∀ (x : Xfer) (rest : List Xfer) (s : State), s.pln.xfers = x :: rest → (s.slot x.slot).state ∉ [3, 5, 7] →
    ∃ t, exec .planDataWritten s = .next t ∧ t.pln.xfers = rest ∧
      t.slot x.slot = ⟨if x.last then 2 else 1, (s.slot x.slot).image.take x.offset ++ x.data⟩) ∧
  (∀ (b : Bool) (s : State), (s.slot (b2n b)).state = 2 →
    ∃ t, exec (.plnCommit 0 b) s = .next t ∧ t.slot (b2n b) = { s.slot (b2n b) with state := 3 } ∧
      t.pln.checking.isSome = true ∧ RegsBut [] s t ∧ t.pln.run = s.pln.run) ∧
  (∀ (i : Nat) (s : State), s.pln.checking = some i → s.commitCheck i (s.slot i).image = none →
    ∃ t, exec .commitCheckDone s = .next t ∧ t.slot i = { s.slot i with state := 4 } ∧ t.rd Reg.PLN_RESULT = 0 ∧
      t.rd Reg.PLN_RESULT_ENTRY = 0 ∧ RegsBut [Reg.PLN_RESULT, Reg.PLN_RESULT_ENTRY] s t) ∧
  (∀ (i : Nat) (f : CheckFail) (s : State), s.pln.checking = some i → s.commitCheck i (s.slot i).image = some f →
    ∃ t, exec .commitCheckDone s = .next t ∧ t.slot i = { s.slot i with state := 6 } ∧
      t.rd Reg.PLN_RESULT = w32 (f.code + 65536 * (f.sec % 16)) ∧ t.rd Reg.PLN_RESULT_ENTRY = w32 f.entry ∧
      Reports t 0x3 f.code ∧ RegsBut ([Reg.PLN_RESULT, Reg.PLN_RESULT_ENTRY] ++ eventRegs 0x3) s t) ∧
  (∀ (b : Bool) (s : State), (s.slot (b2n b)).state ∈ [1, 2, 4, 6] →
    ∃ t, exec (.plnErase 0 b) s = .next t ∧ t.slot (b2n b) = ⟨0, []⟩ ∧
      t.pln.xfers = s.pln.xfers.filter (fun x => x.slot != b2n b) ∧ t.pln.run = s.pln.run) ∧
  (∀ (b at_ : Bool) (s : State), (s.slot (b2n b)).state = 7 → s.pln.target = some (b2n b, at_) →
    ∃ t, exec (.plnAbort 0 b) s = .next t ∧ t.slot (b2n b) = { s.slot (b2n b) with state := 4 } ∧ t.pln.target = none ∧
      t.pln.shadow = none ∧ t.pln.instant = none ∧ t.pln.run = s.pln.run ∧ RegsBut [Reg.MEM_RETAINED, Reg.MEM_WAKING] s t)

/-- SWITCH takes a COMMITTED slot, the shadow tables load or the switch is given up, the new plan begins at the instant, the record follows. -/
def Obligations.PlanSwitchRuns : Prop :=
  (∀ (b at_ : Bool) (s : State), (s.slot (b2n b)).state = 4 → s.pln.target = none → s.partnerReady (b2n b) = true →
    s.switchBarred (parsePlan (s.slot (b2n b)).image) = false →
    ∃ t, exec (.plnSwitch 0 b at_) s = .next t ∧ t.slot (b2n b) = { s.slot (b2n b) with state := 7 } ∧
      t.pln.target = some (b2n b, at_) ∧ t.pln.run = s.pln.run ∧ RegsBut [Reg.MEM_RETAINED, Reg.MEM_WAKING] s t ∧
      (∀ k, k < 32 → Word.bit (parsePlan (s.slot (b2n b)).image).ownedBanks k = true →
        Word.bit (t.rd Reg.MEM_RETAINED) k = false)) ∧
  (∀ (i : Nat) (at_ : Bool) (s : State), s.pln.target = some (i, at_) → s.pln.shadow = none → s.pln.instant = none →
    startCheck (s.slot i).image = true → s.switchBarred (parsePlan (s.slot i).image) = false →
    ∃ t, exec (.shadowLoadDone true) s = .next t ∧ t.pln.shadow = some (parsePlan (s.slot i).image) ∧
      t.pln.target = s.pln.target ∧ t.pln.run = s.pln.run ∧ RegsBut [] s t ∧
      (s.role ≠ 2 → s.mainBoundary = 0 → t.pln.instant = some (epochFrom s.ltc.toNat))) ∧
  (∀ (i : Nat) (at_ : Bool) (s : State), s.pln.target = some (i, at_) → s.pln.shadow = none → s.pln.instant = none →
    ∃ t, exec (.shadowLoadDone false) s = .next t ∧ t.slot i = { s.slot i with state := 4 } ∧ t.pln.target = none ∧
      t.pln.run = s.pln.run ∧ Reports t 0x3 (if loadCheck (fun _ => false) (s.slot i).image then Err.PLAN_SECTION else Err.PLAN_FORMAT) ∧
      RegsBut ([Reg.MEM_RETAINED, Reg.MEM_WAKING] ++ eventRegs 0x3) s t) ∧
  (∀ (i : Nat) (at_ : Bool) (e : Time) (s : State), s.pln.target = some (i, at_) → s.pln.instant = some e →
    ∃ t, exec .switchInstant s = .next t ∧ t.pln.run.isSome = true ∧ t.pln.slot = i ∧ t.sched = ⟨e, 0, 0, 0⟩ ∧
      t.pln.target = none ∧ t.pln.instant = none ∧ t.pln.live = [] ∧ t.pln.recordDue = true) ∧
  (∀ s : State, s.pln.recordDue = true → ∃ t, exec .activationRecordWritten s = .next t ∧
    t.recordSlot = some s.pln.slot ∧ t = { s with
      pln := { s.pln with recordDue := false }, nv := { s.nv with planRec0 := t.nv.planRec0, planRec1 := t.nv.planRec1 } })

/-- A command that only C0 may give, from another context, is dropped with its page's owner error. -/
def Obligations.OwnerCommandsOfOthersDropped : Prop :=
  ∀ (x : Fin 4) (s : State), x.val ≠ 0 →
    let dropped (c : Instr) (p code : Nat) : Prop := ∃ t, exec c s = .next t ∧ Reports t p code ∧
      RegsBut (eventRegs p) s t ∧ t = { s with regs := t.regs, sessions := t.sessions }
    dropped (.sysReset x) 0x0 Err.SYS_OWNER ∧ dropped (.dkrWipe x) 0x59 Err.DKR_OWNER ∧
    (∀ k, dropped (.keyInstall x k) 0x5 Err.SEC_OWNER ∧ dropped (.keyRemove x k) 0x5 Err.SEC_OWNER) ∧
    dropped (.returnArm x) 0x5 Err.SEC_OWNER ∧ dropped (.partReturn x) 0x5 Err.SEC_OWNER ∧
    dropped (.updStart x) 0x6 Err.UPD_OWNER ∧ (∀ b u, dropped (.updActivate x b u) 0x6 Err.UPD_OWNER) ∧
    dropped (.updConfirm x) 0x6 Err.UPD_OWNER ∧ dropped (.updAbort x) 0x6 Err.UPD_OWNER ∧
    (∀ b a, dropped (.plnCommit x b) 0x3 Err.PLAN_OWNER ∧ dropped (.plnSwitch x b a) 0x3 Err.PLAN_OWNER ∧
      dropped (.plnAbort x b) 0x3 Err.PLAN_OWNER ∧ dropped (.plnErase x b) 0x3 Err.PLAN_OWNER) ∧
    (∀ n, dropped (.clkSwitch x n) 0x1 Err.CLK_OWNER ∧ dropped (.prbsInj1 x n) (0x50 + n.val) Err.LN_OWNER ∧
      dropped (.prbsClr x n) (0x50 + n.val) Err.LN_OWNER) ∧
    (∀ k, dropped (.mntStart x k) 0x4 Err.MNT_OWNER ∧ dropped (.mntAbort x k) 0x4 Err.MNT_OWNER) ∧
    dropped (.timRestep x) 0x7 Err.TIM_OWNER ∧ dropped (.pairHandover x) 0x4D Err.PAI_OWNER ∧
    dropped (.pairResync x) 0x4D Err.PAI_OWNER

namespace Sys2Proof.Claims

open Sys2Proof.Machine

/-- A register of an assigned, ungated page that accessor `who` may reach once the ramp has ended (R355, R427). -/
def Reached (s : State) (addr : Nat) : Prop :=
  s.fabricUp = true ∧ addr % 4 = 0 ∧ addr < 0x1000000 ∧ (pageRows (addr / 0x1000)).isSome = true ∧
  s.pageGated (addr / 0x1000) = false

/-- A read that the masks allow (R361, R362). -/
def Readable (s : State) (who : Accessor) (addr : Nat) : Prop :=
  Reached s addr ∧ s.mayAccess (s.whoIdx who) (addr / 0x1000) false = true

/-- A write that no access rule refuses (R361, R362, R455, R457). -/
def Writable (s : State) (who : Accessor) (addr : Nat) : Prop :=
  Reached s addr ∧ s.writeRefusal (s.whoIdx who) addr = none

/-- The accessor holds no latch for the register (R461). -/
def NoLatch (s : State) (who : Accessor) (addr : Nat) : Prop := ∀ e ∈ s.latches, e.1 ≠ latchKey (s.whoIdx who) addr

/-- A register that only holds its value: a write sets it and does nothing else. -/
def plainReg (addr : Nat) : Bool :=
  let page := addr / 0x1000
  let o := addr % 0x1000
  decide (0x40 ≤ o) && page != 0x30 && !(decide (0x50 ≤ page) && decide (page < 0x54)) &&
  !(decide (0x20 ≤ page) && decide (page < 0x30)) && !(decide (0x140 ≤ page) && decide (page < 0x160)) &&
  !(decide (0x100 ≤ page) && decide (page < 0x140)) &&
  !([Reg.CLK_GATE0, Reg.CLK_GATE1, Reg.CLK_GATE2, Reg.MEM_BALLAST, Reg.MNT_CFG, Reg.CTX_MASK_DATA, Reg.UL_CFG 0, Reg.UL_CFG 1,
    Reg.TIM_CFG].contains addr)

/-- The answer that a host, the management port or Winch gets to a single access. -/
def Answered (t : State) (status : Nat) (ws : List Word) : Prop := t.ans = ⟨status, 0, ws⟩

end Sys2Proof.Claims

/-- Every step keeps the 16 lines, 4 inputs and 8 schedulers of the shutter bus, and no trigger outlasts the command that issued it. -/
def Obligations.StepsKeepTheShutterBus : Prop :=
  ∀ s t : State, ShbOk s → step s = .next t → ShbOk t

/-- A read of an RC register returns the value before an event of the same cycle, and the event is kept for the next read. -/
def Obligations.ReadClearKeepsTheEvent : Prop :=
  ∀ (who : Accessor) (addr : Nat) (r : RegRow) (ev : Word) (s : State), Readable s who addr → rowAt addr = some r →
    r.acc = .rc → NoLatch s who addr →
    ∃ t, exec (.readClear who addr ev) s = .next t ∧ Answered t stOk [s.regValue (s.whoIdx who) addr] ∧
      t.rd (s.accessKey (s.whoIdx who) addr) = ev ∧
      RegsBut [s.accessKey (s.whoIdx who) addr] s t ∧ SameBytes s t

/-- A read of a LO word latches its HI word for that accessor; the next HI read returns the latched value and ends the latch. -/
def Obligations.LatchedPairReads : Prop :=
  (∀ (who : Accessor) (addr : Nat) (s : State), Readable s who addr → loReg addr = true →
    ∃ t, exec (.loRead who addr) s = .next t ∧ Answered t stOk [s.regValue (s.whoIdx who) addr] ∧
      t.latches.find? (fun e => e.1 == latchKey (s.whoIdx who) (addr + 4)) =
        some (latchKey (s.whoIdx who) (addr + 4), s.regValue (s.whoIdx who) (addr + 4)) ∧
      (∀ k, k ≠ latchKey (s.whoIdx who) (addr + 4) →
        t.latches.find? (fun e => e.1 == k) = s.latches.find? (fun e => e.1 == k)) ∧ SameBytes s t) ∧
  (∀ (who : Accessor) (addr : Nat) (v : Word) (s : State), Readable s who addr → loReg addr = false →
    s.latches.find? (fun e => e.1 == latchKey (s.whoIdx who) addr) = some (latchKey (s.whoIdx who) addr, v) →
    ∃ t, exec (.hiRead who addr) s = .next t ∧ Answered t stOk [v] ∧ NoLatch t who addr ∧
      (∀ k, k ≠ latchKey (s.whoIdx who) addr →
        t.latches.find? (fun e => e.1 == k) = s.latches.find? (fun e => e.1 == k)) ∧ SameBytes s t) ∧
  (∀ (who : Accessor) (addr : Nat) (s : State), Readable s who addr → loReg addr = false → NoLatch s who addr →
    ∃ t, exec (.hiRead who addr) s = .next t ∧ Answered t stOk [s.regValue (s.whoIdx who) addr] ∧
      t.latches = s.latches ∧ SameBytes s t)

/-- IRQ_CLR clears the written bits but not those whose event comes with it, IRQ_EN notifies a bit already set, PAGE_CTRL obeys LOCK and C0. -/
def Obligations.HeaderWrites : Prop :=
  (∀ (who : Accessor) (page : Nat) (v ev : Word) (s : State), Writable s who (Reg.HDR_IRQ_CLR page) → page < 0x1000 →
    ∃ t, exec (.irqClrWrite who page v ev) s = .next t ∧ Answered t stOk [] ∧
      (∀ b, b < 32 → (IrqSet t page b ↔ (Word.bit ev b = true ∨ (IrqSet s page b ∧ Word.bit v b = false)))) ∧
      RegsBut [Reg.HDR_IRQ_RAW page, Reg.HDR_SEQ page] s t ∧ SameBytes s t) ∧
  (∀ (who : Accessor) (page : Nat) (x : Fin 4) (v : Word) (s : State), Writable s who (Reg.HDR_IRQ_EN_C page x.val) →
    page < 0x1000 →
    ∃ t, exec (.irqEnWrite who page x v) s = .next t ∧ Answered t stOk [] ∧ t.rd (Reg.HDR_IRQ_EN_C page x.val) = v ∧
      t.sessions = s.sessions.map (fun q =>
        if q.ctx = x.val ∧ v &&& ~~~ s.rd (Reg.HDR_IRQ_EN_C page x.val) &&& s.rd (Reg.HDR_IRQ_RAW page) ≠ 0
        then q.noteDue page (s.rf Reg.SLZ_CFG Fd.SLZ_CFG_NOTICE_HOLD) s.ltc else q) ∧
      RegsBut [Reg.HDR_IRQ_EN_C page x.val] s t ∧ SameBytes s t) ∧
  (∀ (page : Nat) (v : Word) (s : State), Reached s (Reg.HDR_PAGE_CTRL page) → page < 0x1000 →
    ∃ t, exec (.pageCtrlWrite (.ctx 0) page v) s = .next t ∧ Answered t stOk [] ∧
      (Word.bit (s.rd (Reg.HDR_PAGE_CTRL page)) 1 = false →
        t.rd (Reg.HDR_PAGE_CTRL page) = v &&& 3 ∧ RegsBut [Reg.HDR_PAGE_CTRL page] s t) ∧
      (Word.bit (s.rd (Reg.HDR_PAGE_CTRL page)) 1 = true →
        t.rd (Reg.HDR_PAGE_CTRL page) = s.rd (Reg.HDR_PAGE_CTRL page) ∧
        (if Word.bit v 0 = Word.bit (s.rd (Reg.HDR_PAGE_CTRL page)) 0 then RegsBut [] s t
         else Reports t page Err.PAGE_LOCKED ∧ RegsBut (eventRegs page) s t))) ∧
  (∀ (x : Fin 4) (page : Nat) (v : Word) (s : State), Reached s (Reg.HDR_PAGE_CTRL page) → page < 0x1000 → x.val ≠ 0 →
    ∃ t, exec (.pageCtrlWrite (.ctx x) page v) s = .next t ∧ Answered t stOwner [] ∧ Reports t page Err.PAGE_OWNER ∧
      RegsBut (eventRegs page) s t)

/-- A write of an RW register that holds its value sets it and nothing else, RO and RC ignore it, a refused one changes only its report. -/
def Obligations.RegisterWrites : Prop :=
  (∀ (who : Accessor) (addr : Nat) (v : Word) (r : RegRow) (s : State), Writable s who addr → rowAt addr = some r →
    r.acc = .rw → plainReg addr = true → s.pln.run = none → ShbOk s →
    let key := s.accessKey (s.whoIdx who) addr
    (rangeOk addr (s.rd key) (v &&& r.mask) = true → s.pointsOk addr (v &&& r.mask) = true →
      ∃ t, exec (.registerWrite who addr v) s = .next t ∧ Answered t stOk [] ∧ t.rd key = v &&& r.mask ∧
        RegsBut [key] s t ∧ SameBytes s t) ∧
    (rangeOk addr (s.rd key) (v &&& r.mask) = false →
      ∃ t, exec (.registerWrite who addr v) s = .next t ∧ Answered t stOk [] ∧
        Reports t (addr / 0x1000) (rangeError (addr / 0x1000)) ∧ RegsBut (eventRegs (addr / 0x1000)) s t ∧ SameBytes s t)) ∧
  (∀ (who : Accessor) (addr : Nat) (v : Word) (r : RegRow) (s : State), Writable s who addr → rowAt addr = some r →
    r.acc = .ro ∨ r.acc = .rc → ShbOk s →
    exec (.registerWrite who addr v) s = .next { s with ans := ⟨stOk, 0, []⟩ }) ∧
  (∀ (addr : Nat) (v : Word) (s : State), Reached s addr → addr % 0x1000 ≠ 8 →
    Word.bit (s.rd (Reg.HDR_PAGE_CTRL (addr / 0x1000))) 0 = false →
    ShbOk s → ∃ t, exec (.registerWrite (.ctx 0) addr v) s = .next t ∧ Answered t stDenied [] ∧
      Reports t (addr / 0x1000) Err.PAGE_DISABLED ∧ RegsBut (eventRegs (addr / 0x1000)) s t) ∧
  (∀ (x : Fin 4) (addr : Nat) (v : Word) (s : State), Reached s addr → x.val ≠ 0 → 0x40 ≤ addr % 0x1000 →
    ownerError addr = none → s.mayAccess x.val (addr / 0x1000) true = false → ShbOk s →
    ∃ t, exec (.registerWrite (.ctx x) addr v) s = .next t ∧ Answered t stDenied [] ∧ Reports t 0x8 Err.CTX_DENIED ∧
      RegsBut (Reg.CTX_DENIED :: eventRegs 0x8) s t) ∧
  (∀ (who : Accessor) (addr : Nat) (v : Word) (s : State), s.fabricUp = true → addr % 4 = 0 → addr < 0x1000000 →
    pageRows (addr / 0x1000) = none → ShbOk s →
    exec (.registerWrite who addr v) s = .next { s with ans := ⟨stRange, 0, []⟩ })

/-- While a plan runs, a live field waits for its boundary, a value outside MIN to MAX is dropped with LIVE_RANGE, other fields are locked. -/
def Obligations.LiveWrites : Prop :=
  ∀ (who : Accessor) (addr : Nat) (v : Word) (r : RegRow) (p : Plan) (s : State), Writable s who addr →
    rowAt addr = some r → r.acc = .rw → 0x40 ≤ addr % 0x1000 → addr ≠ Reg.CTX_MASK_DATA → s.pln.run = some p →
    let key := s.accessKey (s.whoIdx who) addr
    planKey key = true → ShbOk s →
    (rangeOk addr (s.rd key) (v &&& r.mask) = true → s.pointsOk addr (v &&& r.mask) = true →
      p.live.filter (fun e => 0x1000 * e.page + e.off == addr) = [] → s.rd key ≠ v &&& r.mask →
      ∃ t, exec (.liveWrite who addr v) s = .next t ∧ Answered t stOk [] ∧ t.pln = s.pln ∧
        Reports t (addr / 0x1000) Err.LIVE_LOCKED ∧ RegsBut (eventRegs (addr / 0x1000)) s t) ∧
    (∀ e : LiveEnt, p.live.filter (fun e => 0x1000 * e.page + e.off == addr) = [e] →
      (∀ b, b < 32 → Word.bit (s.rd key) b ≠ Word.bit (v &&& r.mask) b → e.lsb ≤ b ∧ b < e.lsb + e.width) →
      (v &&& r.mask).get ⟨e.lsb, e.width⟩ ≠ (s.rd key).get ⟨e.lsb, e.width⟩ →
      (e.takes ((v &&& r.mask).get ⟨e.lsb, e.width⟩) = true → rangeOk addr (s.rd key) (v &&& r.mask) = true →
        s.pointsOk addr (v &&& r.mask) = true → ∃ t, exec (.liveWrite who addr v) s = .next t ∧ Answered t stOk [] ∧ RegsBut [] s t ∧
          t.pln = { s.pln with
            live := s.pln.live.filter (fun x => !(x.addr == key && x.lsb == e.lsb && x.width == e.width)) ++
              [⟨key, e.lsb, e.width, (v &&& r.mask).get ⟨e.lsb, e.width⟩, s.liveKind key e, s.changeFrom⟩] }) ∧
      (e.takes ((v &&& r.mask).get ⟨e.lsb, e.width⟩) = false → s.pointsOk addr (s.rd key) = true →
        ∃ t, exec (.liveWrite who addr v) s = .next t ∧ Answered t stOk [] ∧ t.pln = s.pln ∧
          Reports t (addr / 0x1000) Err.LIVE_RANGE ∧ RegsBut (eventRegs (addr / 0x1000)) s t))

/-- Snapshot window reads answer a word of a record, SPL.DATA advances, Ballast takes free banks, the management port ends its transactions. -/
def Obligations.WindowAndSpecialAccesses : Prop :=
  (∀ (who : Accessor) (n : Nat) (ecc : PssRead) (s : State), s.fabricUp = true → who ≠ .mgmt → n < 1572864 →
    s.mayAccess (s.whoIdx who) 0x12 false = true →
    ∃ t, exec (.snapshotRead who (0x20000000 + 16 * n) ecc) s = .next t ∧
      Answered t stOk [w32 (if ecc.lost ≠ [] then 0 else nth (s.point (n / 6)) (n % 6) 0)] ∧ SameBytes s t) ∧
  (∀ (who : Accessor) (n i : Nat) (ecc : PssRead) (s : State), s.fabricUp = true → who ≠ .mgmt → n < 1572864 →
    s.mayAccess (s.whoIdx who) 0x12 false = true → 1 ≤ i → i < 4 →
    (NMap.get (fun _ => (2 ^ 32, 0)) s.fib.snap (s.whoIdx who)).1 ≠ n →
    ∃ t, exec (.snapshotRead who (0x20000000 + 16 * n + 4 * i) ecc) s = .next t ∧
      Answered t stOk [w32 ((if ecc.lost ≠ [] then 0 else nth (s.point (n / 6)) (n % 6) 0) / 2 ^ (32 * i))] ∧ SameBytes s t) ∧
  (∀ (who : Accessor) (n w i : Nat) (ecc : PssRead) (s : State), s.fabricUp = true → who ≠ .mgmt → n < 1572864 →
    s.mayAccess (s.whoIdx who) 0x12 false = true → 1 ≤ i → i < 4 →
    NMap.get (fun _ => (2 ^ 32, 0)) s.fib.snap (s.whoIdx who) = (n, w) →
    exec (.snapshotRead who (0x20000000 + 16 * n + 4 * i) ecc) s =
      .next { s with ans := ⟨stOk, 0, [w32 (w / 2 ^ (32 * i))]⟩ }) ∧
  (∀ (who : Accessor) (s : State), ∃ t, exec (.popDataRead who) s = .next t ∧
    Answered t stOk [w32 (leNat ((s.pop (s.whoIdx who)).data.take 4))] ∧
    (t.pop (s.whoIdx who)).data = (s.pop (s.whoIdx who)).data.drop 4 ∧ t = { s with pops := t.pops, ans := t.ans }) ∧
  (∀ (who : Accessor) (v : Word) (s : State), Writable s who Reg.MEM_BALLAST →
    ∃ t, exec (.ballastWrite who v) s = .next t ∧ Answered t stOk [] ∧
      t.rd Reg.MEM_BALLAST = v ∧
      (∀ b, b < 32 →
        (Word.bit (t.rd Reg.MEM_RETAINED) b = true ↔ Word.bit v b = true ∧ s.bankFree b = true) ∧
        (Word.bit (t.rd Reg.MEM_WAKING) b = true ↔ ¬ (Word.bit v b = true ∧ s.bankFree b = true) ∧
          (Word.bit (s.rd Reg.MEM_WAKING) b = true ∨ Word.bit (s.rd Reg.MEM_RETAINED) b = true))) ∧
      ((∃ b, b < 32 ∧ Word.bit v b = true ∧ s.bankFree b = false) → Reports t 0x58 Err.MEM_BALLAST_USED ∧ IrqSet t 0x58 2) ∧
      RegsBut ([Reg.MEM_BALLAST, Reg.MEM_RETAINED, Reg.MEM_WAKING] ++ eventRegs 0x58) s t ∧ SameBytes s t) ∧
  (∀ (bank : Fin 32) (s : State), ∃ t, exec (.ballastWakeDone bank) s = .next t ∧
    t.rd Reg.MEM_WAKING = Word.clrBit (s.rd Reg.MEM_WAKING) bank.val ∧ RegsBut [Reg.MEM_WAKING] s t ∧
    t = { s with regs := t.regs }) ∧
  (∀ (addr got : Nat) (s : State), s.fabricUp = true → ∃ t, exec (.mspiRead addr 0 got) s = .next t ∧
    t.sent = s.sent ++ [.mspi (s.mspiStatus ++ List.replicate 6 0)] ∧ t.sys.mspi = stOk ∧ RegsBut [] s t ∧ SameBytes s t) ∧
  (∀ (addr : Nat) (data : List Byte) (met : List Met) (s : State), s.fabricUp = true → ShbOk s →
    ∃ t, exec (.mspiWrite addr 0 data met) s = .next t ∧ t.sys.mspi = stOk ∧ RegsBut [] s t ∧ SameBytes s t) ∧
  (∀ s : State, s.fabricUp = true → ∃ t, exec .mspiTimeout s = .next t ∧ IrqSet t 0x8 31 ∧
    RegsBut (eventRegs 0x8) s t ∧ t.sys = s.sys ∧ SameBytes s t)

namespace Sys2Proof.Claims

open Sys2Proof.Machine

/-- A register whose read answers its value and changes nothing: no count that the read clears, no latch that it takes or
ends, no popped data, no measure that is a free value (R5, R295, R461). -/
def QuietRead (s : State) (who : Accessor) (addr : Nat) : Prop :=
  Readable s who addr ∧ NoLatch s who addr ∧ loReg addr = false ∧ addr ≠ Reg.SPL_DATA ∧ s.openReg addr = none ∧
  ∀ r, rowAt addr = some r → r.acc ≠ .rc

/-- Bodies of REG_READ and REG_WRITE (R350). -/
def readBody (b : List Byte) : Bool := b.length == 8 && fieldAt b 6 2 == 0
def writeBody (b : List Byte) : Bool := decide (8 ≤ b.length) && fieldAt b 6 2 == 0 && b.length == 8 + 4 * fieldAt b 4 2

/-- The answer to a message, kept with its session (R353). -/
def AnsweredMsg (t : State) (m : SlzMsg) (b : List Byte) : Prop :=
  (t.session m.ctx).bind (fun q => q.answers.head?) = some (m.seq, 0x90, b)

/-- What the words of a REG_WRITE do, one after another, up to the first refusal: status, index, state (R355, R363). -/
def wordsDone (s : State) (m : SlzMsg) (met : List Met) : Nat × Nat × State :=
  (heard s m).writeWords m.ctx (fieldAt m.body 0 4) met ((wordsOf (m.body.drop 8)).map w32) 0

end Sys2Proof.Claims

/-- REG_READ answers the words it reads, REG_WRITE performs its words, the management port does both, each with the status of the first refusal. -/
def Obligations.BlocksOfWords : Prop :=
  (∀ (m : SlzMsg) (c : Fin 4) (ecc : List PssRead) (s : State), Accepted s 0x10 m readBody → m.ctx = c.val →
    blockOkay (fieldAt m.body 0 4) (fieldAt m.body 4 2) = true →
    (∀ i, i < fieldAt m.body 4 2 → QuietRead (heard s m) (.ctx c) (fieldAt m.body 0 4 + 4 * i)) →
    ∃ t, exec (.regRead ⟨m, ecc⟩) s = .next t ∧ SameBytes s t ∧ AnsweredMsg t m (regResp stOk 0
      ((List.range (fieldAt m.body 4 2)).map (fun i => (heard s m).regValue m.ctx (fieldAt m.body 0 4 + 4 * i))))) ∧
  (∀ (m : SlzMsg) (ecc : List PssRead) (s : State), Accepted s 0x10 m readBody →
    ∃ (t : State) (st idx : Nat) (ws : List Word), exec (.regRead ⟨m, ecc⟩) s = .next t ∧ SameBytes s t ∧
      AnsweredMsg t m (regResp st idx ws) ∧ (st = stOk → idx = 0 ∧ ws.length = fieldAt m.body 4 2) ∧
      (st ≠ stOk → ws.length = idx) ∧
      (blockOkay (fieldAt m.body 0 4) (fieldAt m.body 4 2) = false → st = stRange ∧ idx = 0)) ∧
  (∀ (m : SlzMsg) (met : List Met) (s : State), Accepted s 0x11 m writeBody → s.role < 2 →
    blockOkay (fieldAt m.body 0 4) (fieldAt m.body 4 2) = true → ((wordsDone s m met).2.2.session m.ctx).isSome = true →
    ShbOk s → ∃ t, exec (.regWrite m met) s = .next t ∧
      AnsweredMsg t m (regResp (wordsDone s m met).1 (wordsDone s m met).2.1 []) ∧ t.ltc = (wordsDone s m met).2.2.ltc) ∧
  (∀ (m : SlzMsg) (met : List Met) (s : State), Accepted s 0x11 m writeBody → s.role < 2 →
    blockOkay (fieldAt m.body 0 4) (fieldAt m.body 4 2) = false → ShbOk s →
    ∃ t, exec (.regWrite m met) s = .next t ∧ AnsweredMsg t m (regResp stRange 0 []) ∧ SameBytes s t) ∧
  (∀ (m : SlzMsg) (r : RegRow) (s : State), Accepted s 0x11 m writeBody → m.ctx < 4 → s.role < 2 → fieldAt m.body 4 2 = 1 →
    (∀ c : Fin 4, c.val = m.ctx → Writable s (.ctx c) (fieldAt m.body 0 4)) →
    rowAt (fieldAt m.body 0 4) = some r → r.acc = .rw → plainReg (fieldAt m.body 0 4) = true →
    s.accessKey m.ctx (fieldAt m.body 0 4) = fieldAt m.body 0 4 → rangeOk (fieldAt m.body 0 4) (s.rd (fieldAt m.body 0 4))
      (w32 (fieldAt m.body 8 4) &&& r.mask) = true → s.pointsOk (fieldAt m.body 0 4) (w32 (fieldAt m.body 8 4) &&& r.mask) = true →
    s.pln.run = none → ShbOk s →
    ∃ t, exec (.regWrite m []) s = .next t ∧ AnsweredMsg t m (regResp stOk 0 []) ∧
      t.rd (fieldAt m.body 0 4) = w32 (fieldAt m.body 8 4) &&& r.mask ∧ SameBytes s t) ∧
  (∀ (m : SlzMsg) (met : List Met) (s : State), Accepted s 0x11 m writeBody → 2 ≤ s.role → ShbOk s →
    ∃ t, exec (.regWrite m met) s = .next t ∧ AnsweredMsg t m (regResp stStandby 0 []) ∧
      RegsBut [Reg.UL_RX_FRAMES m.port.val, Reg.UL_TX_FRAMES m.port.val] s t ∧ SameBytes s t) ∧
  (∀ (addr count got : Nat) (s : State), s.fabricUp = true → blockOkay addr count = true → 0 < count →
    addr + 4 * count ≤ 0x1000000 → (∀ i, i < min got count → QuietRead s .mgmt (addr + 4 * i)) →
    ∃ t, exec (.mspiRead addr count got) s = .next t ∧ t.sys.mspi = stOk ∧
      t.sent = s.sent ++ [.mspi (s.mspiStatus ++ (List.replicate 10 0 ++
        ((List.range (min got count)).map (fun i => s.regValue s.mgmtCtx (addr + 4 * i))).flatMap wordBytes))] ∧
      RegsBut [] s t ∧ SameBytes s t) ∧
  (∀ (addr count got : Nat) (s : State), s.fabricUp = true → 0 < count → blockOkay addr count = false →
    ∃ t, exec (.mspiRead addr count got) s = .next t ∧ t.sys.mspi = stRange ∧
      t.sent = s.sent ++ [.mspi (s.mspiStatus ++ List.replicate 10 0)] ∧ RegsBut [] s t ∧ SameBytes s t) ∧
  (∀ (addr count : Nat) (data : List Byte) (met : List Met) (s : State), s.fabricUp = true → blockOkay addr count = true →
    0 < count → ShbOk s →
    let n := min (data.length / 4) count
    let w := s.writeWords s.mgmtCtx addr met
      (((wordsOf (data.take (data.length / 4 * 4))).map w32).take n |>.take ((0x1000000 - addr) / 4)) 0
    ∃ t, exec (.mspiWrite addr count data met) s = .next t ∧ t.ltc = w.2.2.ltc ∧
      t.sys.mspi = (if w.1 = stOk ∧ (0x1000000 - addr) / 4 < n then stRange else w.1)) ∧
  (∀ (addr : Nat) (data : List Byte) (r : RegRow) (s : State), Writable s .mgmt addr → rowAt addr = some r → r.acc = .rw →
    plainReg addr = true → s.accessKey s.mgmtCtx addr = addr → s.pln.run = none → ShbOk s → data.length = 4 →
    rangeOk addr (s.rd addr) (w32 (leNat data) &&& r.mask) = true → s.pointsOk addr (w32 (leNat data) &&& r.mask) = true →
    ∃ t, exec (.mspiWrite addr 1 data []) s = .next t ∧ t.sys.mspi = stOk ∧ t.rd addr = w32 (leNat data) &&& r.mask ∧
      RegsBut [addr] s t ∧ SameBytes s t)

namespace Sys2Proof.Claims

open Sys2Proof.Machine

/-- A line that passes a trigger that arrives now: it is on, no trigger has reached it in this ECK cycle, and the hub is
not a standby (R246, R265). -/
def LineOpen (s : State) (line : Nat) : Prop :=
  line < 16 ∧ s.flag (Reg.SHB_LINE_CFG line) Fd.SHB_LINE_CFG_EN = true ∧
  nth s.shb.lineCycle line 0 ≠ s.ltc.toNat / 2 + 1 ∧ s.role ≠ 2

/-- A trigger of one source has passed its line, alone: it is the newest one that passed, and the line's state holds for
WIDTH ticks from its arrival (R246, R250). -/
def Passed (s t : State) (line src : Nat) (inst : Time) (arg0 : Nat) : Prop :=
  t.shb.recent.head? = some ⟨line, src, inst, s.ltc, arg0, false, false⟩ ∧
  (s.rf (Reg.SHB_LINE_CFG line) Fd.SHB_LINE_CFG_WIDTH ≠ 0 →
    nth t.shb.lineUntil line 0 = s.ltc + BitVec.ofNat 64 (s.rf (Reg.SHB_LINE_CFG line) Fd.SHB_LINE_CFG_WIDTH))

end Sys2Proof.Claims

/-- An accepted edge issues the trigger of its input less IN_DLY, a stuck input is ignored until released, a line state ends with WIDTH. -/
def Obligations.ShutterInputsAndLines : Prop :=
  (∀ (e : ShutEdge) (s : State), ShbOk s → let n := e.n.val
    let cfg := s.rd (Reg.SHB_IN_CFG n)
    let on := e.level != (cfg.get Fd.SHB_IN_CFG_POL == 1)
    let hit := cfg.get Fd.SHB_IN_CFG_EN = 1 ∧ on ≠ nth s.shb.inState n false ∧ nth s.shb.inStuck n false = false ∧
      (if on then cfg.get Fd.SHB_IN_CFG_EDGE % 2 = 1 else cfg.get Fd.SHB_IN_CFG_EDGE / 2 = 1)
    (hit → LineOpen s (cfg.get Fd.SHB_IN_CFG_LINE) → ∃ t, exec (.shutInEdge [e]) s = .next t ∧
      nth t.shb.inState n false = on ∧ Passed s t (cfg.get Fd.SHB_IN_CFG_LINE) n
        (e.t - BitVec.ofInt 64 (signed 16 (s.rf (Reg.SHB_IN_DLY n) Fd.SHB_IN_DLY_IN_DLY))) 0) ∧
    (¬ hit → ∃ t, exec (.shutInEdge [e]) s = .next t ∧ nth t.shb.inState n false = on ∧
      nth t.shb.inStuck n false = (on && nth s.shb.inStuck n false) ∧
      t = { s with shb := { s.shb with inState := t.shb.inState, inStuck := t.shb.inStuck } })) ∧
  (∀ (n : Fin 4) (s : State), ShbOk s → s.flag (Reg.SHB_IN_CFG n.val) Fd.SHB_IN_CFG_EN = true →
    nth s.shb.inState n.val false = true → nth s.shb.inStuck n.val false = false →
    s.rf (Reg.SHB_IN_CFG n.val) Fd.SHB_IN_CFG_STUCK ≠ 0 →
    ∃ t, exec (.shutInStuck n) s = .next t ∧ nth t.shb.inStuck n.val false = true ∧ Reports t 0x30 Err.SHUT_STUCK ∧
      IrqSet t 0x30 1 ∧
      (s.rd Reg.SHB_STUCK_EVT ≠ 0xFFFFFFFF → t.rd Reg.SHB_STUCK_EVT = s.rd Reg.SHB_STUCK_EVT + 1) ∧
      RegsBut (Reg.SHB_STUCK_EVT :: eventRegs 0x30) s t ∧ SameBytes s t) ∧
  (∀ (n : Fin 16) (s : State), ShbOk s → s.lineState n.val = false →
    ∃ t, exec (.lineStateExpiry n) s = .next t ∧ nth t.shb.lineUntil n.val 0 = 0 ∧ t.lineState n.val = false ∧
      t = { s with shb := { s.shb with lineUntil := t.shb.lineUntil } })

/-- Schedulers issue 24 ticks ahead, count and advance; CFG and AT writes arm them; host triggers go at once or wait for CMD_AT. -/
def Obligations.SchedulersAndHostTriggers : Prop :=
  (∀ (k : Fin 8) (s : State), ShbOk s → s.schedReady k.val = true →
    reached (s.now + 24) (s.rd (Reg.SHB_SCHED_AT k.val)) = true →
    LineOpen s (s.rf (Reg.SHB_SCHED_CFG k.val) Fd.SHB_SCHED_CFG_LINE) →
    ∃ t, exec (.schedulerFire k) s = .next t ∧
      Passed s t (s.rf (Reg.SHB_SCHED_CFG k.val) Fd.SHB_SCHED_CFG_LINE) (0x7000 + k.val)
        (s.fullTime (s.rd (Reg.SHB_SCHED_AT k.val))) 0 ∧
      t.rd (Reg.SHB_SCHED_LEFT k.val) = (if s.flag (Reg.SHB_SCHED_CFG k.val) Fd.SHB_SCHED_CFG_REPEAT = true
        then s.rd (Reg.SHB_SCHED_LEFT k.val) else s.rd (Reg.SHB_SCHED_LEFT k.val) - 1) ∧
      t.rd (Reg.SHB_SCHED_AT k.val) = s.rd (Reg.SHB_SCHED_AT k.val) + s.rd (Reg.SHB_SCHED_PER k.val) ∧
      nth t.shb.armed k.val false = (s.rd (Reg.SHB_SCHED_PER k.val) != 0)) ∧
  (∀ (who : Accessor) (k : Fin 8) (v : Word) (r : RegRow) (s : State), ShbOk s → Writable s who (Reg.SHB_SCHED_CFG k.val) →
    s.pln.run = none → rowAt (Reg.SHB_SCHED_CFG k.val) = some r → v &&& r.mask = v →
    rangeOk (Reg.SHB_SCHED_CFG k.val) (s.rd (Reg.SHB_SCHED_CFG k.val)) v = true →
    (s.rd (Reg.SHB_SCHED_CFG k.val)).get Fd.SHB_SCHED_CFG_EN = 0 → v.get Fd.SHB_SCHED_CFG_EN = 1 →
    reached s.now (s.rd (Reg.SHB_SCHED_AT k.val)) = false →
    ∃ t, exec (.schedCfgWrite who k v) s = .next t ∧ Answered t stOk [] ∧ t.rd (Reg.SHB_SCHED_CFG k.val) = v ∧
      t.rd (Reg.SHB_SCHED_LEFT k.val) = w32 (v.get Fd.SHB_SCHED_CFG_COUNT) ∧
      t.regValue 0 (Reg.SHB_SCHED_LEFT k.val) =
        (if v.get Fd.SHB_SCHED_CFG_REPEAT = 1 then 0xFFFF else w32 (v.get Fd.SHB_SCHED_CFG_COUNT)) ∧
      nth t.shb.armed k.val false = true ∧
      RegsBut [Reg.SHB_SCHED_CFG k.val, Reg.SHB_SCHED_LEFT k.val] s t ∧ SameBytes s t) ∧
  (∀ (who : Accessor) (k : Fin 8) (v : Word) (s : State), ShbOk s → Writable s who (Reg.SHB_SCHED_AT k.val) →
    s.pln.run = none → reached s.now v = false →
    ∃ t, exec (.schedAtWrite who k v) s = .next t ∧ Answered t stOk [] ∧ t.rd (Reg.SHB_SCHED_AT k.val) = v ∧
      nth t.shb.armed k.val false = true ∧ RegsBut [Reg.SHB_SCHED_AT k.val] s t ∧ SameBytes s t) ∧
  (∀ (who : Accessor) (k : Fin 8) (v : Word) (s : State), ShbOk s → Writable s who (Reg.SHB_SCHED_AT k.val) →
    s.pln.run = none → reached s.now v = true → s.flag (Reg.SHB_SCHED_CFG k.val) Fd.SHB_SCHED_CFG_EN = true →
    s.flag (Reg.SHB_SCHED_CFG k.val) Fd.SHB_SCHED_CFG_REPEAT = true →
    LineOpen s (s.rf (Reg.SHB_SCHED_CFG k.val) Fd.SHB_SCHED_CFG_LINE) →
    ∃ t, exec (.schedAtWrite who k v) s = .next t ∧
      Passed s t (s.rf (Reg.SHB_SCHED_CFG k.val) Fd.SHB_SCHED_CFG_LINE) (0x7000 + k.val) (s.fullTime v) 0) ∧
  (∀ (x : Fin 4) (line : Fin 16) (s : State), ShbOk s → LineOpen s line.val →
    ∃ t, exec (.shbTrig x line false) s = .next t ∧ Passed s t line.val (0x6000 + x.val) s.ltc 0) ∧
  (∀ (x : Fin 4) (line : Fin 16) (s : State), reached s.now (s.rd Reg.SHB_CMD_AT) = false →
    exec (.shbTrig x line true) s =
      .next { s with shb := { s.shb with cmdAt := s.shb.cmdAt ++ [(x.val, line.val, s.rd Reg.SHB_CMD_AT)] } }) ∧
  (∀ (x line : Nat) (v : Word) (s : State), ShbOk s → s.shb.cmdAt = [(x, line, v)] → reached s.now v = true →
    LineOpen s line → ∃ t, exec .cmdAtReached s = .next t ∧ t.shb.cmdAt = [] ∧
      Passed s t line (0x6000 + x) (s.fullTime v) 0)

/-- The copy of a unit's oldest segment ends: its buffer is free, its record is made, items with an uncorrectable word are 0 and reported. -/
def Obligations.SegmentsAreCopied : Prop :=
  (∀ (u : Fin 32) (g : Segment) (gs : List Segment) (bad : List Nat) (s : State), (s.unit u.val).copies = g :: gs →
    ∃ t, exec (.segmentCopyDone u bad) s = .next t ∧ t.unit u.val = { s.unit u.val with copies := gs } ∧
      (∀ v, v ≠ u.val → t.unit v = s.unit v) ∧ t.sched = s.sched ∧ t.shb = s.shb ∧ SameBytes s t ∧
      (∀ p e, s.pln.run = some p → findRoute p 6 u.val 5 = some e →
        t.seqOf 6 u.val 5 = (s.seqOf 6 u.val 5 + 1) % 2 ^ 32)) ∧
  (∀ (u : Fin 32) (g : Segment) (gs : List Segment) (bad : List Nat) (s : State), (s.unit u.val).copies = g :: gs →
    s.pln.run = none → (bad.any (fun i => decide (i < g.items))) = true →
    ∃ t, exec (.segmentCopyDone u bad) s = .next t ∧ Reports t 0x31 Err.SGM_UNCORR ∧ IrqSet t (0x140 + u.val) 2 ∧
      RegsBut (Reg.SCU_SGM_UNCORR :: eventRegs 0x31 ++ eventRegs (0x140 + u.val)) s t) ∧
  (∀ (u : Fin 32) (bad : List Nat) (s : State), (s.unit u.val).copies = [] → exec (.segmentCopyDone u bad) s = .next s)

/-- Each boundary takes the next period of its schedule: its number goes up by one and the LTC runs to its instant. -/
def Obligations.BoundariesAdvanceTheSchedules : Prop :=
  (∀ s : State, ShbOk s → s.shotPeriod ≠ 0 → s.pln.instant = none →
    ∃ t, exec .shotBoundary s = .next t ∧ t.sched = { s.sched with shotNo := s.sched.shotNo + 1 } ∧
      t.ltc = (s.advance (s.atPeriod s.sched.shotNo s.shotPeriod)).ltc ∧ t.nv = s.nv ∧ SameBytes s t ∧
      (s.role = 0 → s.parked = true → t.flag Reg.OFE_STAT Fd.OFE_STAT_LAUNCH = false) ∧
      (s.role = 0 → s.parked = false → s.clk.parkAsk = false → s.sys.pfw = false → s.pln.target = none → s.pln.live = [] →
        s.schedulesShots = true → s.quiet (s.atPeriod s.sched.shotNo s.shotPeriod) = false → let go := (s.advance (s.atPeriod s.sched.shotNo s.shotPeriod)).launches
        t.flag Reg.OFE_STAT Fd.OFE_STAT_LAUNCH = go ∧ t.ofe.dark = !go ∧
        (s.fenActive = true → t.fib.cur.shotNo = s.sched.shotNo ∧ t.fib.cur.dark = !go ∧
          t.fib.cur.launch = s.atPeriod s.sched.shotNo s.shotPeriod))) ∧
  (∀ (obs : List WireObs) (s : State), ShbOk s → s.fieldTick ≠ 0 → s.pln.instant = none →
    ∃ t, exec (.fieldTickHold obs) s = .next t ∧ t.sched = { s.sched with tickNo := s.sched.tickNo + 1 } ∧
      t.ltc = (s.advance (s.atPeriod s.sched.tickNo s.fieldTick)).ltc ∧ t.nv = s.nv ∧ SameBytes s t ∧
      (s.parked = true → t.fld.lastHold = none) ∧
      (s.role = 0 → s.parked = false → s.clk.parkAsk = false → s.sys.pfw = false → s.pln.target = none →
        s.hasSection 5 = true → t.fld.lastHold = some t.ltc ∧ t.rd Reg.FLD_TICK_NO = w32 s.sched.tickNo)) ∧
  (∀ s : State, ShbOk s → s.superframe ≠ 0 → s.pln.instant = none →
    ∃ t, exec .superframeBoundary s = .next t ∧ t.sched = { s.sched with sfNo := s.sched.sfNo + 1 } ∧
      t.ltc = (s.advance (s.atPeriod s.sched.sfNo s.superframe)).ltc ∧ t.nv = s.nv ∧ SameBytes s t)

/-- A slot of Q-stagger launches in its quarter, the pulse and RMN_TRIG go out for a shot that launches, the window end counts clips. -/
def Obligations.LaunchesAndWindows : Prop :=
  (∀ s : State, ShbOk s → s.shotPeriod ≠ 0 → s.fenMode = 3 → s.fenActive = true → s.parked = false → s.pln.instant = none →
    s.role < 2 → s.fib.cur.slot < 3 → s.fib.cur.shotNo + 1 = s.sched.shotNo →
    s.quiet (s.slotLaunch (s.fib.cur.slot + 1)) = false →
    ∃ t, exec .slotLaunch s = .next t ∧ t.fib.cur.slot = s.fib.cur.slot + 1 ∧ t.fib.cur.shotNo = s.fib.cur.shotNo ∧
      t.fib.cur.launch = s.slotLaunch (s.fib.cur.slot + 1) ∧ t.fib.cur.dark = s.ofe.dark ∧
      t.fib.cur.holdover = s.inHoldover ∧ t.fib.cur.live = true ∧ SameBytes s t) ∧
  (∀ s : State, s.schedulesShots = true → s.parked = false → s.pln.instant = none →
    s.endsAt (s.slotLaunch 0) = false → s.quiet (s.slotLaunch 0) = false →
    let half : Int := 2 * (((s.slotLaunch 0).toNat : Int) - s.dTx) - (s.waveLen 0 / 2 : Nat)
    (s.advance (BitVec.ofInt 64 (Int.fdiv half 2))).launches = true →
    ∃ t, exec (.pulseStart 0) s = .next t ∧ t.ltc = (s.advance (BitVec.ofInt 64 (Int.fdiv half 2))).ltc ∧
      t.sent = s.sent ++ [.launch 0 half.toNat (1000 + 2 * s.rf Reg.OFE_DAC_FS Fd.OFE_DAC_FS_FS) (s.waveData 0)] ∧
      t.ofe.pulseTo = some (BitVec.ofInt 64 (Int.fdiv (half + s.waveLen 0) 2)) ∧ t.ofe.pulse = some (s.sched.shotNo, 0) ∧
      t.ofe.pulseFs = s.rf Reg.OFE_DAC_FS Fd.OFE_DAC_FS_FS ∧
      t = { s with ltc := t.ltc, sent := t.sent, ofe := { s.ofe with
        pulseTo := t.ofe.pulseTo, pulse := t.ofe.pulse, pulseFs := t.ofe.pulseFs } }) ∧
  (∀ (j : Fin 4) (s : State), j.val ≠ 0 → s.fenMode = 3 → s.schedulesShots = true → s.parked = false → s.pln.instant = none →
    s.quiet (s.slotLaunch j) = false →
    let half : Int := 2 * (((s.slotLaunch j).toNat : Int) - s.dTx) - (s.waveLen j / 2 : Nat)
    ∃ t, exec (.pulseStart j) s = .next t ∧ t.ltc = (s.advance (BitVec.ofInt 64 (Int.fdiv half 2))).ltc ∧
      t = { s with ltc := t.ltc, sent := t.sent, ofe := { s.ofe with
        pulseTo := t.ofe.pulseTo, pulse := t.ofe.pulse, pulseFs := t.ofe.pulseFs } } ∧
      (if s.ofe.dark = false ∧ s.drives = true ∧ s.flag Reg.OFE_STAT Fd.OFE_STAT_ILK = false then
        t.sent = s.sent ++ [.launch j half.toNat (1000 + 2 * s.rf Reg.OFE_DAC_FS Fd.OFE_DAC_FS_FS) (s.waveData j)] ∧
        t.ofe.pulseTo = some (BitVec.ofInt 64 (Int.fdiv (half + s.waveLen j) 2)) ∧ t.ofe.pulse = some (s.shotNow, j.val) ∧
        t.ofe.pulseFs = s.rf Reg.OFE_DAC_FS Fd.OFE_DAC_FS_FS
       else t.sent = s.sent ∧ t.ofe = s.ofe)) ∧
  (∀ s : State, s.takesPart s.sched.shotNo = true → s.parked = false → s.pln.instant = none →
    s.quiet (s.atPeriod s.sched.shotNo s.shotPeriod) = false →
    s.rf Reg.OFE_RMN_TRIG Fd.OFE_RMN_TRIG_WIDTH ≠ 0 →
    let rise := s.atPeriod s.sched.shotNo s.shotPeriod - BitVec.ofNat 64 (s.rf Reg.OFE_RMN_TRIG Fd.OFE_RMN_TRIG_LEAD)
    let fall := rise + BitVec.ofNat 64 (s.rf Reg.OFE_RMN_TRIG Fd.OFE_RMN_TRIG_WIDTH)
    (s.advance rise).launches = true → (s.advance rise).endsAt (s.atPeriod s.sched.shotNo s.shotPeriod) = false →
    ∃ t, exec .rmnTrigRise s = .next t ∧ t.sent = s.sent ++ [.pin pinRmnTrig 1 rise, .pin pinRmnTrig 0 fall] ∧
      t.ofe.trigTo = some fall ∧
      t = { s with ltc := t.ltc, sent := t.sent, ofe := { s.ofe with trigTo := t.ofe.trigTo } }) ∧
  (∀ (rx : List AdcRange) (tw : Time) (last : Bool) (rest : List (Time × Bool)) (s : State), s.ofe.wins = (tw, last) :: rest →
    s.mSt mCalRx = 0 → (∀ e ∈ s.ofe.elems, e.ready = none) →
    let lo := s.ofe.rxMin.zipIdx.map (fun e => match rx[e.2]? with | some r => min e.1 r.lo | none => e.1)
    let hi := s.ofe.rxMax.zipIdx.map (fun e => match rx[e.2]? with | some r => max e.1 r.hi | none => e.1)
    let low := s.ofe.rxLow.zipIdx.map (fun e => if nth hi e.2 0 - nth lo e.2 0 < 16 then e.1 + 1 else 0)
    let stuck := low.any (fun n => decide (16 ≤ n))
    ∃ t, exec (.acquisitionWindowEnd rx) s = .next t ∧ t.ofe.wins = rest ∧ t.ltc = (s.advance tw).ltc ∧
      ((s.rd Reg.OFE_CLIP_RX).toNat + (rx.map AdcRange.clipped).sum < 2 ^ 32 →
        t.rd Reg.OFE_CLIP_RX = s.rd Reg.OFE_CLIP_RX + w32 (rx.map AdcRange.clipped).sum) ∧
      (last = false → t.ofe.rxMin = lo ∧ t.ofe.rxMax = hi ∧ t.ofe.rxLow = s.ofe.rxLow ∧ RegsBut [Reg.OFE_CLIP_RX] s t) ∧
      (last = true → t.ofe.rxLow = low ∧ t.flag Reg.OFE_STAT Fd.OFE_STAT_RX_STUCK = stuck ∧
        (stuck = true → s.flag Reg.OFE_STAT Fd.OFE_STAT_RX_STUCK = false → Reports t 0x10 Err.RX_STUCK ∧ IrqSet t 0x10 4)) ∧
      RegsBut ([Reg.OFE_CLIP_RX, Reg.OFE_STAT] ++ eventRegs 0x10) s t ∧ SameBytes s t)

/-- A point update changes one record, the scrub walks the store, Raman samples sum by position, a waiting interval becomes a profile. -/
def Obligations.FibreAndRamanData : Prop :=
  (∀ (j : Fin 4) (new : List RawSample) (ecc : PssRead) (s : State), ShbOk s → s.role = 0 → s.pai.digestDue = none →
    s.fib.older = [] → s.fib.cur.regs = [] → s.fib.cur.live = true → s.fib.cur.slot = j.val → s.fib.cur.next + 1 < s.fenN →
    let p := s.fib.cur.next
    ∃ t, exec (.pointUpdate j p new ecc) s = .next t ∧ t.fib.cur.next = p + 1 ∧ t.fib.cur.launch = s.fib.cur.launch ∧
      t.fib.cur.recs = (p, t.point p) :: s.fib.cur.recs ∧ (∀ q, q ≠ p → t.point q = s.point q) ∧ SameBytes s t) ∧
  (∀ (ecc : PssRead) (s : State), s.rf Reg.PSS_SCRUB_CFG Fd.PSS_SCRUB_CFG_PERIOD ≠ 0 →
    ∃ t, exec (.pssScrub ecc) s = .next t ∧
      t.fib.scrub = (if s.fib.scrub + 1 = scrubWords then 0 else s.fib.scrub + 1) ∧
      (s.fib.scrub + 1 = scrubWords → t.rd Reg.PSS_SCRUB_PASS = s.rd Reg.PSS_SCRUB_PASS + 1 ∧ IrqSet t 0x12 2) ∧
      (ecc.lost = [] → ecc.fixed ≠ 0 → IrqSet t 0x12 0 ∧
        (s.rd Reg.PSS_CORR ≠ 0xFFFFFFFF → t.rd Reg.PSS_CORR = s.rd Reg.PSS_CORR + 1)) ∧
      (ecc.lost ≠ [] → Reports t 0x12 Err.PSS_UNCORR ∧ IrqSet t 0x12 1 ∧
        (s.rd Reg.PSS_UNCORR ≠ 0xFFFFFFFF → t.rd Reg.PSS_UNCORR = s.rd Reg.PSS_UNCORR + 1)) ∧
      RegsBut ([Reg.PSS_SCRUB_PASS, Reg.PSS_CORR, Reg.PSS_UNCORR, Reg.PSS_LAST_UNCORR] ++ eventRegs 0x12) s t ∧
      SameBytes s t) ∧
  (∀ (a b : Fin 4096) (n : Nat) (L : Time) (s : State), s.role = 0 → s.tmp.shot = some (n, L) →
    0 < a.val → a.val < 4095 → 0 < b.val → b.val < 4095 →
    let buf := s.tmp.buf ++ [(a.val, b.val)]
    let old (m : List (Nat × Nat)) (q : Nat) : Nat := if s.tmp.cur.shots = 0 then 0 else NMap.get (fun _ => 0) m q
    (s.tmp.pos + 1 ≠ s.rmnP → ∃ t, exec (.ramanSample a b) s = .next t ∧
      t = { s with ltc := t.ltc, ofe := { s.ofe with rmnMin := t.ofe.rmnMin, rmnMax := t.ofe.rmnMax }
                   tmp := { s.tmp with pos := s.tmp.pos + 1, buf := buf } }) ∧
    (s.tmp.pos + 1 = s.rmnP → s.rmnLast n = false → s.mSt mCalRx = 0 → (∀ e ∈ s.ofe.elems, e.ready = none) →
      ∃ t, exec (.ramanSample a b) s = .next t ∧ t.tmp.shot = none ∧ t.tmp.conv = s.tmp.conv ∧
        t.tmp.cur.shots = s.tmp.cur.shots + b2n (!s.ofe.dark) ∧ t.rd Reg.TMP_ACC_SHOTS = w32 t.tmp.cur.shots ∧
        (s.ofe.dark = true → t.tmp.cur.st = s.tmp.cur.st ∧ t.tmp.cur.as_ = s.tmp.cur.as_) ∧
        (s.ofe.dark = false → ∀ q v, buf[q]? = some v →
          NMap.get (fun _ => 0) t.tmp.cur.st q = old s.tmp.cur.st q + v.1 ∧
          NMap.get (fun _ => 0) t.tmp.cur.as_ q = old s.tmp.cur.as_ q + v.2) ∧
        RegsBut ([Reg.OFE_STAT, Reg.TMP_ACC_SHOTS] ++ eventRegs 0x10) s t ∧ SameBytes s t)) ∧
  (∀ (i : RmnInt) (rest : List RmnInt) (s : State), s.tmp.conv = i :: rest →
    ∃ t, exec .ramanConversion s = .next t ∧ t.tmp.conv = rest ∧ t.tmp.profile = (s.tmp.profile + 1) % 2 ^ 32 ∧
      t.tmp.tRef = (s.rmnTRef i).1 ∧ t.tmp.cur = s.tmp.cur ∧ IrqSet t 0x14 0 ∧
      t.rd Reg.TMP_PROFILES = s.rd Reg.TMP_PROFILES + 1 ∧
      t.rd Reg.TMP_T_REF = w32 (unsigned 16 (match (s.rmnTRef i).1 with | some w => tempCode w | none => -32768)) ∧
      SameBytes s t)

namespace Sys2Proof.Claims

open Sys2Proof.Machine

/-- A transaction of the host on the head SPI is over: not busy, its status and attempts in HSPI_RESULT, HSPI_DONE. -/
def HspiOver (t : State) (status attempts : Nat) : Prop :=
  t.ofe.hspi = none ∧ t.flag Reg.OFE_STAT Fd.OFE_STAT_HSPI_BUSY = false ∧
  t.rd Reg.OFE_HSPI_RESULT = w32 (status + 4 * attempts + 16) ∧ IrqSet t 0x10 2

/-- A transaction is on its way: busy, and its command phase has gone out. -/
def HspiSent (s t : State) (x : HspiTx) : Prop :=
  t.ofe.hspi = some x ∧ t.flag Reg.OFE_STAT Fd.OFE_STAT_HSPI_BUSY = true ∧ t.sent = s.sent ++ [.hspi (s.hspiBytes x.tx)]

/-- The bytes of a reply that a GO has read stand in HSPI_RX0 upward; what lies beyond them is as before (R73). -/
def HspiKept (s t : State) (rx : Nat) (reply : List Byte) : Prop :=
  ∀ i, i < 8 → t.rd (Reg.OFE_HSPI_RX i) = if 4 * i < rx then
      w32 (leNat (((sliceB reply 0 rx).drop (4 * i)).take 4 ++ (wordBytes (s.rd (Reg.OFE_HSPI_RX i))).drop (rx - 4 * i)))
    else s.rd (Reg.OFE_HSPI_RX i)

end Sys2Proof.Claims

/-- GO sends a transaction, the reply or two failed attempts end it with its status, the head script runs its entries in order. -/
def Obligations.HeadSpiTransactions : Prop :=
  (∀ s : State, s.flag Reg.OFE_STAT Fd.OFE_STAT_HSPI_BUSY = true →
    (∃ t, exec .hspiGo s = .next t ∧ Reports t 0x10 Err.HSPI_BUSY ∧
      t.rf Reg.OFE_HSPI_RESULT Fd.OFE_HSPI_RESULT_STATUS = 3 ∧
      RegsBut (Reg.OFE_HSPI_RESULT :: eventRegs 0x10) s t ∧ t.ofe = s.ofe) ∧
    (∃ t, exec .headScript s = .next t ∧ Reports t 0x10 Err.HSPI_BUSY ∧ RegsBut (eventRegs 0x10) s t ∧ t.ofe = s.ofe)) ∧
  (∀ s : State, s.flag Reg.OFE_STAT Fd.OFE_STAT_HSPI_BUSY = false →
    let tx := s.rf Reg.OFE_HSPI_LEN Fd.OFE_HSPI_LEN_TX_LEN
    let rx := s.rf Reg.OFE_HSPI_LEN Fd.OFE_HSPI_LEN_RX_LEN
    (tx = 0 → rx = 0 → ∃ t, exec .hspiGo s = .next t ∧ t.rd Reg.OFE_HSPI_RESULT = 16 ∧ IrqSet t 0x10 2 ∧ t.ofe = s.ofe) ∧
    (tx ≠ 0 ∨ rx ≠ 0 → ∃ t, exec .hspiGo s = .next t ∧ HspiSent s t ⟨s.hspiTx.take tx, rx, 1, false⟩ ∧
      t.rf Reg.OFE_HSPI_RESULT Fd.OFE_HSPI_RESULT_DONE = 0 ∧ RegsBut [Reg.OFE_STAT, Reg.OFE_HSPI_RESULT] s t)) ∧
  (∀ (x : HspiTx) (reply : List Byte) (s : State), s.ofe.hspi = some x → x.script = false → s.ofe.script = [] →
    let good := x.rx = 0 ∨ s.rf Reg.OFE_HEAD_CFG Fd.OFE_HEAD_CFG_HSPI_CHK = 0 ∨
      byteAt reply x.rx = crc8 (sliceB reply 0 x.rx)
    (good → ∃ t, exec (.hspiTransactionDone reply) s = .next t ∧ HspiOver t 0 x.attempt ∧ HspiKept s t x.rx reply) ∧
    (¬ good → x.attempt = 1 → ∃ t, exec (.hspiTransactionDone reply) s = .next t ∧ HspiSent s t { x with attempt := 2 } ∧
      HspiKept s t x.rx reply ∧ RegsBut (Reg.OFE_STAT :: (List.range 8).map Reg.OFE_HSPI_RX) s t) ∧
    (¬ good → x.attempt = 2 → ∃ t, exec (.hspiTransactionDone reply) s = .next t ∧ HspiOver t 2 2 ∧
      HspiKept s t x.rx reply ∧ Reports t 0x10 Err.HEAD_SPI)) ∧
  (∀ (x : HspiTx) (reply : List Byte) (s : State), s.ofe.hspi = some x → x.script = true → x.rx ≠ 0 → x.attempt = 2 →
    s.rf Reg.OFE_HEAD_CFG Fd.OFE_HEAD_CFG_HSPI_CHK = 1 → byteAt reply x.rx ≠ crc8 (sliceB reply 0 x.rx) →
    ∃ t, exec (.hspiTransactionDone reply) s = .next t ∧ t.ofe.hspi = none ∧ t.ofe.script = [] ∧
      t.flag Reg.OFE_STAT Fd.OFE_STAT_SCRIPT_OK = false ∧ t.rd Reg.OFE_HSPI_RESULT = w32 (2 + 4 * 2 + 16) ∧
      Reports t 0x10 Err.HEAD_SPI) ∧
  (∀ (x : HspiTx) (s : State), s.ofe.hspi = some x → x.script = false → s.ofe.script = [] → x.rx ≠ 0 →
    (x.attempt = 1 → ∃ t, exec .hspiStartByteTimeout s = .next t ∧ HspiSent s t { x with attempt := 2 } ∧
      RegsBut [Reg.OFE_STAT] s t) ∧
    (x.attempt = 2 → ∃ t, exec .hspiStartByteTimeout s = .next t ∧ HspiOver t 1 2 ∧ Reports t 0x10 Err.HEAD_SPI)) ∧
  (∀ (p : Plan) (s : State), s.flag Reg.OFE_STAT Fd.OFE_STAT_HSPI_BUSY = false → s.headPlan = some p → s.headShots = true →
    let rest := p.script.dropWhile (fun e => e.tx == 0 && e.rx == 0)
    (rest = [] → ∃ t, exec .headScript s = .next t ∧ t.flag Reg.OFE_STAT Fd.OFE_STAT_SCRIPT_OK = true) ∧
    (∀ e es, rest = e :: es → ∃ t, exec .headScript s = .next t ∧ HspiSent s t ⟨e.cmd, e.rx, 1, true⟩ ∧
      t.ofe.script = es))

/-- LAS_EN follows plan, script, host and interlock; the interlock stops launches and the laser at once; LAS_STAT reports readiness. -/
def Obligations.LaserAndInterlock : Prop :=
  let en (t : State) : Bool := t.flag Reg.OFE_STAT Fd.OFE_STAT_LAS_EN
  let ilk (t : State) : Bool := t.flag Reg.OFE_STAT Fd.OFE_STAT_ILK
  let held (t : State) : Bool := t.flag Reg.OFE_STAT Fd.OFE_STAT_LAS_HELD
  (∀ s : State, ilk s = true → exec .lasOn s = .next { s with ofe := { s.ofe with lasOnHeld := true } }) ∧
  (∀ s : State, ilk s = false → ∃ t, exec .lasOn s = .next t ∧ held t = false ∧ t.ofe.ilkHold = false ∧
    en t = t.lasAllowed ∧ RegsBut [Reg.OFE_STAT] s t) ∧
  (∀ s : State, ∃ t, exec .lasOff s = .next t ∧ held t = true ∧ en t = false ∧ t.ofe.lasOnHeld = false ∧
    RegsBut [Reg.OFE_STAT] s t) ∧
  (∀ s : State, ilk s = false → ∃ t, exec .ilkAccept s = .next t ∧ ilk t = true ∧ en t = false ∧ t.ofe.pulseTo = none ∧
    t.ofe.trigTo = none ∧ Reports t 0x10 Err.HEAD_ILK ∧ IrqSet t 0x10 0 ∧
    (s.rd Reg.OFE_ILK_COUNT ≠ 0xFFFFFFFF → t.rd Reg.OFE_ILK_COUNT = s.rd Reg.OFE_ILK_COUNT + 1) ∧
    (s.ilkCuts = false → t.fib = s.fib ∧ t.tmp = s.tmp ∧ t.ofe.dark = s.ofe.dark ∧
      RegsBut ([Reg.OFE_STAT, Reg.OFE_ILK_COUNT] ++ eventRegs 0x10) s t) ∧
    (s.ilkCuts = true → t.ofe.dark = true ∧ (s.fib.cur.shotNo = s.shotNow → t.fib.cur.dark = true) ∧
      (s.rd Reg.OFE_DARK_SHOTS ≠ 0xFFFFFFFF → t.rd Reg.OFE_DARK_SHOTS = s.rd Reg.OFE_DARK_SHOTS + 1)) ∧
    RegsBut ([Reg.OFE_STAT, Reg.OFE_ILK_COUNT, Reg.OFE_DARK_SHOTS, Reg.TMP_MISSED] ++ eventRegs 0x10) s t) ∧
  (∀ s : State, ilk s = true → ∃ t, exec .ilkRelease s = .next t ∧ ilk t = false ∧ t.ofe.lasOnHeld = false ∧
    t.ofe.ilkHold = (!s.ofe.lasOnHeld && s.rf Reg.OFE_HEAD_CFG Fd.OFE_HEAD_CFG_ILK_AUTO == 0) ∧ en t = t.lasAllowed ∧
    RegsBut [Reg.OFE_STAT] s t) ∧
  (∀ s : State, ∃ t, exec .lasStatRise s = .next t ∧ t.flag Reg.OFE_STAT Fd.OFE_STAT_LAS_READY = true ∧
    RegsBut [Reg.OFE_STAT] s t ∧ t = { s with regs := t.regs }) ∧
  (∀ s : State, s.flag Reg.OFE_STAT Fd.OFE_STAT_LAS_READY = true → ∃ t, exec .lasStatFall s = .next t ∧
    t.flag Reg.OFE_STAT Fd.OFE_STAT_LAS_READY = false ∧ Reports t 0x10 Err.HEAD_NOT_READY ∧ IrqSet t 0x10 1 ∧
    RegsBut (Reg.OFE_STAT :: eventRegs 0x10) s t) ∧
  (∀ s : State, en s = true → s.flag Reg.OFE_STAT Fd.OFE_STAT_LAS_READY = false → ∃ t, exec .lasStatTimeout s = .next t ∧
    Reports t 0x10 Err.HEAD_NOT_READY ∧ IrqSet t 0x10 1 ∧ RegsBut (eventRegs 0x10) s t)

/-- Conversion slots store results or start injected ones, the compliance monitor latches OPEN, comparators follow their rule, holds end. -/
def Obligations.FieldConversionsAndWires : Prop :=
  (∀ (c : Fin 8) (slot : Nat) (code : Int) (h : Time) (s : State), ShbOk s → s.fld.lastHold = some h →
    s.fieldTick ≠ 0 → slot < s.fieldTick / 500 → s.convMode c.val = 1 →
    (slot < 8 → s.conn (8 * c.val + slot) ≠ 0 → nth s.fld.outTick c.val false = false →
      ∃ t, exec (.conversionSlot c slot code false) s = .next t ∧
        t.fch (8 * c.val + slot) = { s.fch (8 * c.val + slot) with
          conv := some ⟨satS 18 (if s.conn (8 * c.val + slot) = 5 then
              roundShr (code * 2 ^ s.rf (Reg.FCH_CFG (8 * c.val + slot)) Fd.FCH_CFG_EXC_V) 3 else code), (s.fch (8 * c.val + slot)).range, (s.fch (8 * c.val + slot)).ovr⟩, badConv := false } ∧
        (∀ n, n ≠ 8 * c.val + slot → t.fch n = s.fch n) ∧ RegsBut [] s t ∧ SameBytes s t) ∧
    (∀ q : InjReq, s.parked = false → (8 ≤ slot ∨ s.conn (8 * c.val + slot) = 0) → s.convInjRunning c.val = false →
      s.injFor c.val slot = some q →
      ∃ t, exec (.conversionSlot c slot code false) s = .next t ∧
        t.fld.inj = s.fld.inj.map (fun r => if r = q then { r with hold := some (h + BitVec.ofNat 64 (500 * slot)) } else r) ∧
        t.rf (Reg.FCH_INJ_STAT q.ch) Fd.FCH_INJ_STAT_RUNNING = 1 ∧ t.rf (Reg.FCH_INJ_STAT q.ch) Fd.FCH_INJ_STAT_QUEUED = 0 ∧
        RegsBut [Reg.FCH_INJ_STAT q.ch] s t ∧ SameBytes s t)) ∧
  (∀ (n : Fin 64) (o : LoopObs) (s : State), ShbOk s → s.conn n.val = 6 →
    s.flag (Reg.FCH_CFG n.val) Fd.FCH_CFG_LOOP_PWR = true →
    (∀ i, o.cur = some i → 100 * s.rf (Reg.FCH_DIAG n.val) Fd.FCH_DIAG_LOOP_MIN ≤ i) →
    exec (.complianceLatch ⟨n, o⟩) s = .next s) ∧
  (∀ (n : Fin 64) (o : LoopObs) (s : State), ShbOk s → s.loopFound n.val o = true → s.role ≠ 2 → (s.fch n.val).openL = 0 →
    ∃ t, exec (.complianceLatch ⟨n, o⟩) s = .next t ∧ (t.fch n.val).openL = 1 ∧ (t.fch n.val).loopBad = true ∧
      t.rf (Reg.FCH_STAT n.val) Fd.FCH_STAT_OPEN = 1 ∧ Reports t (0x100 + n.val) Err.FCH_OPEN ∧
      IrqSet t (0x100 + n.val) 0 ∧ IrqSet t 0x18 0 ∧ SameBytes s t ∧ (s.rd (Reg.FCH_OPEN_EVT n.val) ≠ 0xFFFFFFFF →
        t.rd (Reg.FCH_OPEN_EVT n.val) = s.rd (Reg.FCH_OPEN_EVT n.val) + 1)) ∧
  (∀ s : State, ShbOk s → ∃ t, exec .startHoldEnd s = .next t ∧ SameBytes s t ∧
    ∀ n, n < 64 → (t.fch n).hold = (if (s.fch n).holdTo.toNat ≤ s.ltc.toNat then 0 else (s.fch n).hold)) ∧
  (∀ (n : Fin 64) (level : Int) (s : State), ShbOk s → (s.fch n.val).inSafe = false →
    ∃ t, exec (.comparatorCrossing n level) s = .next t ∧ (t.fch n.val).lim = level ∧ SameBytes s t ∧
      (∀ b, b < 2 → t.cmpState (2 * n.val + b) = s.cmpRule (2 * n.val + b) (s.cmpState (2 * n.val + b))
        (2 ^ 41 + level * 4 ^ (s.rd (Reg.FCH_LIM_CFG n.val)).get Fd.FCH_LIM_CFG_LIM_RANGE)) ∧
      (∀ i, i < 128 → i / 2 ≠ n.val → t.cmpState i = s.cmpState i)) ∧
  (∀ (v : Word) (s : State), ∃ t, exec (.latchedRelease v) s = .next t ∧
    (∀ j, j < 32 → Word.bit (t.rd Reg.THC_LATCHED) j =
      (s.flag (Reg.THC_OUT_CFG j) Fd.THC_OUT_CFG_LATCH && s.rf (Reg.THC_OUT_CFG j) Fd.THC_OUT_CFG_MODE != 0 &&
        ((Word.bit (s.rd Reg.THC_LATCHED) j && !Word.bit v j) || s.tswCond j))) ∧
    (∀ j, j < 32 → Word.bit (t.rd Reg.THC_TSW_STATE) j = (s.tswCond j || Word.bit (t.rd Reg.THC_LATCHED) j)) ∧
    RegsBut ([Reg.THC_LATCHED, Reg.THC_TSW_STATE] ++ eventRegs 0x1B) s t ∧ SameBytes s t)

/-- Injected conversions are queued or refused and end with their outcome; calibrations and recoveries take and return their converter. -/
def Obligations.FieldInjectionAndCalibration : Prop :=
  (∀ (v : Word) (s : State), let n := v.get Fd.FLD_INJ_CMD_CH
    let src := v.get Fd.FLD_INJ_CMD_SRC
    let refused (code : Nat) : Prop := ∃ t, exec (.injCmd v) s = .next t ∧ Reports t 0x18 code ∧
      RegsBut (eventRegs 0x18) s t ∧ t.fld = s.fld
    (src = 3 → refused Err.FLD_RANGE) ∧
    (src ≠ 3 → s.role ≠ 2 → s.injSlot n = false → refused Err.INJ_NO_SLOT) ∧
    (src ≠ 3 → s.role ≠ 2 → s.injSlot n = true → s.fld.inj.any (fun q => q.ch / 8 == n / 8) = true → refused Err.INJ_BUSY) ∧
    (src ≠ 3 → s.role ≠ 2 → s.injSlot n = true → s.fld.inj.any (fun q => q.ch / 8 == n / 8) = false →
      ∃ t, exec (.injCmd v) s = .next t ∧
        t.fld = { s.fld with inj := s.fld.inj ++ [⟨n, v.get Fd.FLD_INJ_CMD_TAG, src, none, 0⟩] } ∧
        t.rf (Reg.FCH_INJ_STAT n) Fd.FCH_INJ_STAT_QUEUED = 1 ∧ t.rf (Reg.FCH_INJ_STAT n) Fd.FCH_INJ_STAT_DONE = 0 ∧
        RegsBut [Reg.FCH_INJ_STAT n, Reg.FLD_CONV_STAT] s t ∧ SameBytes s t)) ∧
  (∀ (c : Fin 8) (code : Int) (ovf : Fin 3) (q : InjReq) (s : State),
    s.fld.inj.find? (fun q => q.ch / 8 == c.val && q.hold.isSome) = some q → q.core = 0 → s.fld.deferred = false →
    let out := unsigned 18 (satS 18 (if q.src = 0 then s.signalCode q.ch code else code))
    let rest := s.fld.inj.filter (fun r => r != q)
    (s.paired = false → ∃ t, exec (.injectedConversionDone c code ⟨ovf, false⟩) s = .next t ∧ t.fld = { s.fld with inj := rest } ∧
      t.rf (Reg.FCH_INJ_STAT q.ch) Fd.FCH_INJ_STAT_RUNNING = 0 ∧ t.rf (Reg.FCH_INJ_STAT q.ch) Fd.FCH_INJ_STAT_DONE = 1 ∧
      t.rd (Reg.FCH_INJ_CODE q.ch) = w32 (out + 2 ^ 18 * (if q.src = 0 then (s.fch q.ch).range else 0)) ∧
      t.rd (Reg.FCH_INJ_LTC_LO q.ch) = loW (q.hold.getD 0) ∧ t.rd (Reg.FCH_INJ_LTC_HI q.ch) = hiW (q.hold.getD 0) ∧
      IrqSet t (0x100 + q.ch) 3 ∧ IrqSet t 0x18 4 ∧
      (s.rd Reg.FLD_INJ_COUNT ≠ 0xFFFFFFFF → t.rd Reg.FLD_INJ_COUNT = s.rd Reg.FLD_INJ_COUNT + 1)) ∧
    (s.paired = true → ∃ t d, exec (.injectedConversionDone c code ⟨ovf, false⟩) s = .next t ∧
      t.fld = { s.fld with inj := rest, done := s.fld.done ++ [d] } ∧ d.ch = q.ch ∧ d.tag = q.tag ∧
      d.src = q.src ∧ d.code = out ∧ d.visible = s.changeFrom ∧ t.rf (Reg.FCH_INJ_STAT q.ch) Fd.FCH_INJ_STAT_RUNNING = 0 ∧
      RegsBut [Reg.FCH_INJ_STAT q.ch, Reg.FLD_CONV_STAT, Reg.FLD_INJ_COUNT] s t) ∧
    (s.convMode c.val ≠ 3 → ∃ t, exec (.injectedConversionDone c code ⟨ovf, true⟩) s = .next t ∧
      t.fld.recovering = setAt s.fld.recovering c.val true ∧ t.convMode c.val = 2 ∧ t.convBusy c.val = true)) ∧
  (∀ (conv : Fin 16) (s : State), (8 ≤ conv.val → conv.val < 15 → ∃ t, exec (.fldCal conv) s = .next t ∧
      Reports t 0x18 Err.FLD_RANGE ∧ RegsBut (eventRegs 0x18) s t ∧ t.fld = s.fld) ∧
    (conv.val < 8 → s.mEnabled mCalFld = true → s.mSt mCalFld = 0 → s.mFree mCalFld = true → s.sys.restarting = false →
      s.convInjRunning conv.val = false → s.convMode conv.val ≠ 3 →
      ∃ t, exec (.fldCal conv) s = .next t ∧ t.convMode conv.val = 2 ∧ t.convBusy conv.val = true ∧
        t.fld.calOne = some conv.val ∧ t.fld.calTurn = conv.val ∧ t.rf Reg.FLD_STAT Fd.FLD_STAT_CAL_BUSY = 1 ∧
        RegsBut [Reg.FLD_CONV_STAT, Reg.FLD_STAT, Reg.MNT_MAX_WAIT, Reg.MNT_STEP_LTC] s t)) ∧
  (∀ (temp : Int) (s : State), ∃ t, exec (.fieldRecalTrigger temp) s = .next t ∧
    t.rd Reg.FLD_TEMP_NOW = w32 (unsigned 16 (satS 16 temp)) ∧
    (s.mSt mCalFld ≠ 0 → RegsBut [Reg.FLD_TEMP_NOW, Reg.FLD_STAT] s t ∧
      (dtReached temp (signed 16 (s.rd Reg.FLD_TEMP_CAL).toNat) (s.rf Reg.FLD_RECAL_CFG Fd.FLD_RECAL_CFG_DT) = true →
        dtReached (signed 16 (s.rd Reg.FLD_TEMP_NOW).toNat) (signed 16 (s.rd Reg.FLD_TEMP_CAL).toNat)
          (s.rf Reg.FLD_RECAL_CFG Fd.FLD_RECAL_CFG_DT) = false → t.rf Reg.FLD_STAT Fd.FLD_STAT_CAL_PEND = 1))) ∧
  (∀ s : State, s.mSt mCalFld = 2 → s.fld.deferred = false → s.fld.calTurn < 8 → s.convMode s.fld.calTurn ≠ 3 →
    (∀ one, s.fld.calOne = some one → s.fld.calWait = [] → s.flag Reg.FLD_STAT Fd.FLD_STAT_CAL_PEND = false →
      ∃ t, exec .fieldConverterCalDone s = .next t ∧ t.convBusy s.fld.calTurn = false ∧ IrqSet t 0x18 3 ∧ IrqSet t 0x4 1 ∧
        t.convMode s.fld.calTurn = s.convRest ∧ t.fld.calEnd = setAt s.fld.calEnd s.fld.calTurn true) ∧
    (∀ d, s.fld.calOne = none → ((List.range 8).filter (fun d => decide (s.fld.calTurn < d) && s.convMode d != 3)).head? = some d →
      s.convInjRunning d = false →
      ∃ t, exec .fieldConverterCalDone s = .next t ∧ t.convBusy s.fld.calTurn = false ∧ t.fld.calTurn = d ∧
        t.convMode d = 2 ∧ t.convBusy d = true ∧ RegsBut [Reg.FLD_CONV_STAT] s t)) ∧
  (∀ (c : Fin 8) (s : State), nth s.fld.recovering c.val false = true →
    (∃ t, exec (.recoveryDone c true) s = .next t ∧ nth t.fld.recovering c.val false = false ∧
      t.convMode c.val = s.convRest ∧ t.convBusy c.val = false ∧ RegsBut [Reg.FLD_CONV_STAT, Reg.FLD_STAT] s t) ∧
    (2 ≤ ((nth s.fld.failAt c.val []).filter (fun t => decide (s.ltc.toNat - t.toNat ≤ tickS))).length →
      ∃ t, exec (.recoveryDone c false) s = .next t ∧ nth t.fld.recovering c.val false = false ∧ t.convMode c.val = 3 ∧
        Reports t 0x18 Err.CONV_FAIL ∧ IrqSet t 0x18 5))

/-- LSYNC edges give the frequency and the notch set, a lost LSYNC reports a dip, BAND_SELECT moves one band, SYNC waits for its boundary. -/
def Obligations.LineFrequencyBandsAndResync : Prop :=
  (∀ s : State, let es := (s.ltc :: s.flt.edges).take 10
    let at_ (i : Nat) : Nat := (nth es i 0).toNat
    let f := lineFreq (at_ 0 - at_ 8)
    (es.length < 9 → exec .lsyncEdge s = .next { s with flt := { s.flt with edges := es } }) ∧
    (9 ≤ es.length → (es.length = 10 → 32 * (at_ 0 - at_ 1) ≤ 5 * (at_ 1 - at_ 9)) → 4000 ≤ f → f ≤ 7000 →
      ∃ t, exec .lsyncEdge s = .next t ∧ t.rd Reg.FLT_LINE_FREQ = w32 f ∧ t.flt.edges = es ∧
        t.flag Reg.FLT_NOTCH Fd.FLT_NOTCH_LOST = false ∧
        RegsBut [Reg.FLT_LINE_FREQ, Reg.FLT_NOTCH, Reg.HDR_IRQ_RAW 0x19, Reg.HDR_SEQ 0x19] s t ∧
        (s.role ≠ 2 → s.pln.run.isSome = true → s.sys.restarting = false →
          let near := (((f : Int) - (4000 + 10 * s.lastNotch : Nat)).natAbs ≤ 7)
          let n := if near then s.lastNotch else (clampI 0 300 (roundDiv ((f : Int) - 4000) 10)).toNat
          (near → s.flt.measured = true → t.flt.setNext = s.flt.setNext ∧ t.flt.setNextN = s.flt.setNextN) ∧
          (¬ near ∨ s.flt.measured = false → t.flt.measured = true ∧
            t.flt.setNext = (if s.fieldTick = 0 then s.flt.setNext else some (n, s.changeFrom)) ∧
            t.flt.setNextN = (if s.superframe = 0 then s.flt.setNextN else some (n, s.changeFrom))))) ∧
    (9 ≤ es.length → (es.length = 10 → 32 * (at_ 0 - at_ 1) ≤ 5 * (at_ 1 - at_ 9)) → f < 4000 ∨ 7000 < f →
      ∃ t, exec .lsyncEdge s = .next t ∧ t.rd Reg.FLT_LINE_FREQ = 0 ∧ t.flag Reg.FLT_NOTCH Fd.FLT_NOTCH_LOST = true ∧
        (s.flag Reg.FLT_NOTCH Fd.FLT_NOTCH_LOST = false → Reports t 0x19 Err.LSYNC_LOST ∧ IrqSet t 0x19 2))) ∧
  (∀ (e : Time) (es : List Time) (s : State), s.flt.edges = e :: es → 50 * tickMs ≤ s.ltc.toNat - e.toNat →
    ∃ t, exec .lsyncLost s = .next t ∧ t.flt.edges = [] ∧ t.flag Reg.FLT_NOTCH Fd.FLT_NOTCH_LOST = true ∧
      t.rd Reg.FLT_LINE_FREQ = 0 ∧ Reports t 0x2 Err.PWR_DIP ∧ IrqSet t 0x2 1 ∧
      t.rd Reg.PWR_DIP_LAST = w32 (satU 16 ((s.ltc.toNat - e.toNat) / tickMs)) ∧
      (s.rd Reg.PWR_DIPS ≠ 0xFFFFFFFF → t.rd Reg.PWR_DIPS = s.rd Reg.PWR_DIPS + 1)) ∧
  (∀ s : State, s.flt.edges = [] → 50 * tickMs ≤ s.ltc.toNat → s.flag Reg.FLT_NOTCH Fd.FLT_NOTCH_LOST = false →
    ∃ t, exec .lsyncLost s = .next t ∧ t.flag Reg.FLT_NOTCH Fd.FLT_NOTCH_LOST = true ∧ t.rd Reg.FLT_LINE_FREQ = 0 ∧
      Reports t 0x19 Err.LSYNC_LOST ∧ IrqSet t 0x19 2 ∧ Reports t 0x2 Err.PWR_DIP ∧ IrqSet t 0x2 1) ∧
  (∀ s : State, s.rf Reg.FLT_BAND_CFG Fd.FLT_BAND_CFG_SRC ≠ 0 → s.pln.run.isSome = true → s.role ≠ 2 →
    s.sys.restarting = false →
    let since := max (s.bandSource.2.getD 0).toNat s.flt.bandAt.toNat
    (∀ v, s.bandSource.1 = some v → s.ltc.toNat < since + tickS → s.flt.bandNext = none →
      ∃ t, exec .bandSelect s = .next t ∧ t.rd Reg.FLT_BAND_T = v ∧ t.flt.bandLost = false ∧
        (s.bandDecide s.activeBand v = s.activeBand → t.flt.bandNext = none ∧ RegsBut [Reg.FLT_BAND_T] s t) ∧
        (s.bandDecide s.activeBand v ≠ s.activeBand → IrqSet t 0x19 3 ∧
          t.flt.bandNext = some (s.bandDecide s.activeBand v, s.changeFrom) ∧
          t.rf Reg.THC_BAND Fd.THC_BAND_PEND = 1 ∧ t.activeBand = s.activeBand)) ∧
    (since + tickS ≤ s.ltc.toNat → s.flt.bandLost = false →
      ∃ t, exec .bandSelect s = .next t ∧ Reports t 0x19 Err.BAND_SRC_LOST ∧ t.flt.bandLost = true ∧
        RegsBut (eventRegs 0x19) s t)) ∧
  (∀ s : State, s.resync.field = none ∨ s.resync.node = none →
    ∃ t, exec .chainSync s = .next t ∧
      t.resync = ⟨some (s.resync.field.getD s.changeFrom), some (s.resync.node.getD s.changeFrom)⟩ ∧
      t = { s with resync := t.resync, pai := { s.pai with ops := t.pai.ops } }) ∧
  (∀ s : State, s.resync.field.isSome = true → s.resync.node.isSome = true → exec .chainSync s = .next s)

namespace Sys2Proof.Claims

open Sys2Proof.Machine

/-- Port `q` has begun a training (R233): step 1 of the first attempt, the broadcast that forwards nothing waiting, of what
was sent and waited only a NODE_CMD left for its time-out, the retraining counted. Unless the chain is split no node is
assigned; a split one stays split, its second end serving it (R240). -/
def Retrained (s t : State) (q : Nat) : Prop :=
  t.drpState q = 1 ∧ (t.port q).step = 1 ∧ (t.port q).attempt = 1 ∧ (t.port q).queue = [⟨0xFF, 8, arg5 0, false⟩] ∧
  (t.port q).outs = (s.port q).dropped ∧ (t.port q).busy = (s.port q).busy ∧ t.splitOn q = s.splitOn q ∧
  (s.splitOn q = false → ∀ a, ((t.port q).node a).assigned = false) ∧ (s.splitOn q = true → t.breakAt q = 0) ∧
  (s.rd (Reg.DRP_RETRAINS q) ≠ 0xFFFFFFFF → t.rd (Reg.DRP_RETRAINS q) = s.rd (Reg.DRP_RETRAINS q) + 1) ∧
  (∀ p, p ≠ q → t.port p = s.port p) ∧ SameBytes s t

/-- Port `q` has lost its link (R242). -/
def LinkLost (s t : State) (q : Nat) : Prop :=
  t.drpState q = 3 ∧ (t.port q).good = 0 ∧ Reports t (0x20 + q) Err.DRP_LINK ∧ IrqSet t (0x20 + q) 0 ∧
  (s.rd (Reg.DRP_LINK_EVT q) ≠ 0xFFFFFFFF → t.rd (Reg.DRP_LINK_EVT q) = s.rd (Reg.DRP_LINK_EVT q) + 1)

end Sys2Proof.Claims

/-- RETRAIN, 10 ms in LINK and 1 s in NO_PARTNER train a chain anew; attempts and ASSIGN retries run out into NO_PARTNER and a truncated chain. -/
def Obligations.NodeChainTraining : Prop :=
  (∀ (q : Fin 16) (s : State), s.firstEnd q.val = true → ∃ t, exec (.drpRetrain q) s = .next t ∧ Retrained s t q.val) ∧
  (∀ (q : Fin 16) (s : State), s.role = 0 → s.firstEnd q.val = true → s.drpState q.val = 3 →
    ∃ t, exec (.linkRetrainTimeout q) s = .next t ∧ Retrained s t q.val) ∧
  (∀ (q : Fin 16) (s : State), s.role = 0 → s.firstEnd q.val = true → s.drpState q.val = 4 →
    ∃ t, exec (.noPartnerRetry q) s = .next t ∧ Retrained s t q.val) ∧
  (∀ (q : Fin 16) (s : State), s.role = 0 → s.drpState q.val = 1 → (s.port q.val).step = 1 →
    ((s.port q.val).attempt < 3 → ∃ t, exec (.trainingAttemptTimeout q) s = .next t ∧ t.drpState q.val = 1 ∧
      (t.port q.val).attempt = (s.port q.val).attempt + 1 ∧ (t.port q.val).step = 1 ∧ RegsBut [Reg.DRP_STAT q.val] s t) ∧
    (3 ≤ (s.port q.val).attempt → ∃ t, exec (.trainingAttemptTimeout q) s = .next t ∧ t.drpState q.val = 4 ∧
      (t.port q.val).step = 0 ∧ Reports t (0x20 + q.val) Err.DRP_NO_PARTNER ∧ IrqSet t (0x20 + q.val) 2 ∧
      RegsBut (Reg.DRP_STAT q.val :: eventRegs (0x20 + q.val)) s t)) ∧
  (∀ (q : Fin 16) (s : State), s.role = 0 → s.chainPort q.val = q.val → s.ownSecond q.val = none →
    (s.port q.val).step = 2 → (s.port q.val).outs.any (fun o => o.2.op == 1) = true →
    ((s.port q.val).retry < 3 → ∃ t, exec (.assignReplyTimeout q) s = .next t ∧
      t.port q.val = { s.port q.val with
        outs := (s.port q.val).outs.filter (fun o => o.2.op != 1), retry := (s.port q.val).retry + 1
        queue := (s.port q.val).queue ++ [⟨0, 1, arg5 (s.port q.val).asg, false⟩] } ∧ RegsBut [] s t) ∧
    (3 ≤ (s.port q.val).retry → ∃ t, exec (.assignReplyTimeout q) s = .next t ∧ (t.port q.val).step = 3 ∧
      Reports t (0x20 + q.val) Err.DRP_TRUNCATED ∧ IrqSet t (0x20 + q.val) 3 ∧
      RegsBut (Reg.DRP_STAT q.val :: eventRegs (0x20 + q.val)) s t)) ∧
  (∀ (q : Fin 16) (s : State), let c0 := (s.rd (Reg.DRP_NCMD0 q.val)).toNat
    let known := c0 / 256 % 256 = 2 ∨ c0 / 256 % 256 = 9 ∨ c0 / 256 % 256 = 0xA
    (¬ known → ∃ t, exec (.nodeCmd q) s = .next t ∧ Reports t (0x20 + q.val) Err.DRP_RANGE ∧ t.drp = s.drp ∧
      RegsBut (eventRegs (0x20 + q.val)) s t) ∧
    (known → (s.port q.val).busy = true ∨ s.drpState q.val ≠ 2 → ∃ t, exec (.nodeCmd q) s = .next t ∧
      Reports t (0x20 + q.val) Err.DRP_BUSY ∧ t.drp = s.drp ∧ RegsBut (eventRegs (0x20 + q.val)) s t) ∧
    (known → (s.port q.val).busy = false → s.drpState q.val = 2 → s.role ≠ 2 → ∃ t, exec (.nodeCmd q) s = .next t ∧
      t.port q.val = { s.port q.val with
        busy := true
        queue := ⟨c0 % 256, c0 / 256 % 256, leBytes 2 (c0 / 65536) ++ leBytes 3 (s.rd (Reg.DRP_NCMD1 q.val)).toNat, true⟩ ::
          (s.port q.val).queue } ∧ RegsBut [Reg.DRP_NRSP1 q.val] s t)) ∧
  (∀ (q : Fin 16) (s : State), s.role = 0 → (s.port q.val).busy = true → (s.port q.val).outs.any (fun o => o.2.host) = true →
    ∃ t, exec (.nodeCmdTimeout q) s = .next t ∧ IrqSet t (0x20 + q.val) 4 ∧
      t.rd (Reg.DRP_NRSP1 q.val) = w32 ((s.rd (Reg.DRP_NRSP1 q.val)).toNat % 2 ^ 24 + 2 ^ 25) ∧
      t.port q.val = { s.port q.val with busy := false, outs := (s.port q.val).outs.filter (fun o => !o.2.host) } ∧
      RegsBut [Reg.DRP_NRSP1 q.val, Reg.HDR_IRQ_RAW (0x20 + q.val), Reg.HDR_SEQ (0x20 + q.val)] s t)

/-- D_SOF names its frame, a valid frame shows the round trip, a lost one is a LINK, two good ones end it; rings split, serve and rejoin. -/
def Obligations.NodeChainFrames : Prop :=
  (∀ (q : Fin 16) (s : State), ShbOk s → s.role = 0 → s.chainPort q.val = q.val → s.sends q.val = true →
    s.drpState q.val = 2 →
    let low := ceilDiv (s.ltc.toNat + lead - s.sched.epoch.toNat) s.superframe
    let n := match (s.port q.val).sent with | some m => max (m + 1) low | none => low
    let head := by1 (n % 256) ++ by1 (n % s.statC q.val)
    ∃ t syms, exec (.dSofSend q) s = .next t ∧ (t.port q.val).sent = some n ∧
      t.sent = s.sent ++ [.driari q.val 1 (s.dsof n) syms (s.superframe / 40 - 15)] ∧ syms.length = 15 ∧
      syms.take 4 = dSof :: (head ++ by1 (crc8 head)).map BitVec.toNat ∧ t.drpState q.val = 2 ∧ SameBytes s t) ∧
  (∀ (q : Fin 16) (n : Nat) (f : UpFrame) (s : State), ShbOk s → s.role = 0 → s.chainPort q.val = q.val →
    s.sends q.val = true → (s.port q.val).frameOf f.sfn = some n → f.hdrOk = true → f.bad < 4 → f.reply.addr = 0 →
    let rt := f.arr.toNat - (s.dsof n).toNat
    (s.drpState q.val = 2 → ∃ t, exec (.upstreamFrame q f) s = .next t ∧ (t.port q.val).lastUp = some n ∧
      (t.port q.val).lastRt = some rt ∧ t.rd (Reg.DRP_RT_END q.val) = w32 (rt % 2 ^ 19) ∧ t.drpState q.val = 2 ∧ SameBytes s t) ∧
    (s.drpState q.val = 3 → 1 ≤ (s.port q.val).good → (s.port q.val).lastRt = some rt →
      ∃ t, exec (.upstreamFrame q f) s = .next t ∧ t.drpState q.val = 2 ∧
        t.rd (Reg.DRP_RT_END q.val) = w32 (rt % 2 ^ 19) ∧ SameBytes s t)) ∧
  (∀ (q : Fin 16) (n : Nat) (f : UpFrame) (s : State), ShbOk s → s.role = 0 → s.chainPort q.val = q.val →
    s.sends q.val = true → (s.port q.val).frameOf f.sfn = some n → 4 ≤ f.bad → s.drpState q.val = 2 →
    ∃ t, exec (.upstreamFrame q f) s = .next t ∧ LinkLost s t q.val ∧ SameBytes s t) ∧
  (∀ (q : Fin 16) (m bad : Nat) (s : State), ShbOk s → s.role = 0 → s.chainPort q.val = q.val → s.sends q.val = true →
    (s.port q.val).sent = some m → s.drpState q.val = 2 →
    ∃ t, exec (.uSofMissing q bad) s = .next t ∧ LinkLost s t q.val ∧ SameBytes s t) ∧
  (∀ (q : Fin 16) (s : State), (s.secondOf q.val).isSome = true → s.drpState q.val = 5 →
    ∃ t, exec (.splitDetect q) s = .next t ∧ t.drpState q.val = 6 ∧ (t.port q.val).farGood = 0 ∧
      t.splitOn (s.splitPage q.val) = true ∧ Reports t (0x20 + s.splitPage q.val) Err.DRP_HEALED ∧
      IrqSet t (0x20 + s.splitPage q.val) 1 ∧ SameBytes s t) ∧
  (∀ (q : Fin 16) (arr : Time) (sfn : Nat) (valid : Bool) (s : State), s.secondOf q.val = none →
    exec (.downstreamFrame q arr sfn valid) s = .next s) ∧
  (∀ (q : Fin 16) (P : Nat) (arr : Time) (sfn : Nat) (s : State), s.role = 0 → s.secondOf q.val = some P → s.superframe ≠ 0 →
    s.drpState q.val ≠ 6 →
    let top := (arr.toNat + lead - s.sched.epoch.toNat) / s.superframe
    ∃ t, exec (.downstreamFrame q arr sfn true) s = .next t ∧ t.drpState q.val = 5 ∧
      (t.port q.val).farGood = (s.port q.val).farGood + 1 ∧
      (t.port P).dTotal = some (arr.toNat - (s.dsof (top - (top + 256 - sfn % 256) % 256)).toNat) ∧
      t.sent = s.sent ++ [.driari q.val 2 (arr + 256) [uSof, sfn % 256, crc8 (by1 sfn) % 256] (s.superframe / 40 - 3)] ∧
      RegsBut [Reg.DRP_STAT q.val] s t) ∧
  (∀ (q : Fin 16) (P : Nat) (arr : Time) (sfn : Nat) (s : State), s.role = 0 → s.secondOf q.val = some P → s.superframe ≠ 0 →
    s.drpState q.val = 6 → ∃ t, exec (.downstreamFrame q arr sfn true) s = .next t ∧
      (t.port q.val).farGood = (s.port q.val).farGood + 1 ∧
      ((s.port q.val).farGood = 0 → t.drpState q.val = 6 ∧ t.splitOn P = s.splitOn P) ∧
      (1 ≤ (s.port q.val).farGood → t.drpState q.val = 5 ∧ t.splitOn P = false ∧ t.breakAt P = 0)) ∧
  (∀ (q : Fin 16) (s : State), s.firstEnd q.val = true → s.splitOn q.val = true → s.breakAt q.val ≠ 0 →
    let want := s.onPort q.val (fun x => { x with queue := x.queue ++ [⟨s.breakAt q.val, 3, arg5 1, false⟩] })
    exec (.drpRejoin q) s = .next want ∧
    (∀ since, ((s.port q.val).node (s.breakAt q.val)).bSince = some since → since.toNat + tickS ≤ s.ltc.toNat →
      s.flag (Reg.DRP_CFG q.val) Fd.DRP_CFG_AUTO_REJOIN = true → exec (.autoRejoin q) s = .next want))

/-- A routed record becomes the next item of its lane, or is dropped with a GAP account; jobs start by rank and end with their stream or a failure. -/
def Obligations.SpoolsTakeAndCompress : Prop :=
  (∀ (r : RawRecord) (p : Plan) (s : State), s.pln.run = some p → findRoute p r.cls r.idx r.kind = none →
    exec (.spoolPush r) s = .next s) ∧
  (∀ (r : RawRecord) (p : Plan) (e : RouteEnt) (s : State), s.pln.run = some p →
    findRoute p r.cls r.idx r.kind = some e → e.dest2En = false → s.syncing = false → s.pai.lost = false →
    let k := destLane e.dest
    let l := s.lane k
    s.spoolUsed (k / 4) = true → l.retired = false → l.shed = false → s.laneSize k ≠ 0 → l.gaps = [] →
    (l.used + s.storedSize (k / 4) r.payload.length + 64 ≤ s.laneSize k →
      ∃ t it, exec (.spoolPush r) s = .next t ∧ (t.lane k).items = l.items ++ [it] ∧ it.no = l.wr % 2 ^ 32 ∧
        it.record = ⟨r.kind, r.cls, r.idx, s.seqOf r.cls r.idx r.kind, r.ref, r.payload⟩ ∧
        it.size = s.storedSize (k / 4) r.payload.length ∧ (t.lane k).wr = l.wr + 1 ∧ (t.lane k).rel = l.rel ∧
        (t.lane k).rd = l.rd ∧ (∀ m, m ≠ k → t.lane m = s.lane m) ∧
        t.seqOf r.cls r.idx r.kind = (s.seqOf r.cls r.idx r.kind + 1) % 2 ^ 32 ∧ SameBytes s t) ∧
    (s.laneSize k < l.used + s.storedSize (k / 4) r.payload.length + 64 →
      ∃ t g, exec (.spoolPush r) s = .next t ∧ (t.lane k).items = l.items ∧ (t.lane k).gaps = [g] ∧ g.cause = 1 ∧
        g.items = 1 ∧ (t.lane k).full = true ∧ IrqSet t (0x160 + k / 4) 2 ∧
        (s.rd (Reg.SPLN_DROPS (k / 4) (k % 4)) = 0 → Reports t (0x160 + k / 4) Err.SPL_GAP) ∧
        (s.rd (Reg.SPLN_DROPS (k / 4) (k % 4)) ≠ 0xFFFFFFFF →
          t.rd (Reg.SPLN_DROPS (k / 4) (k % 4)) = s.rd (Reg.SPLN_DROPS (k / 4) (k % 4)) + 1) ∧
        t.seqOf r.cls r.idx r.kind = (s.seqOf r.cls r.idx r.kind + 1) % 2 ^ 32 ∧ SameBytes s t)) ∧
  (∀ (b : Job) (s : State), bestJob s.jobs = some b →
    (runningJob s.jobs = none → ∃ t, exec .compressionJobStart s = .next t ∧
      t.jobs = s.jobs.map (fun j => if j.lane = b.lane ∧ j.no = b.no
        then { j with started := some (j.started.getD s.ltc), flushed := false } else j) ∧
      RegsBut [Reg.CMP_MAX_WAIT] s t ∧ t = { s with regs := t.regs, jobs := t.jobs }) ∧
    (∀ r, runningJob s.jobs = some r → (r.lane ≠ b.lane ∨ r.no ≠ b.no) → ∃ t, exec .compressionJobStart s = .next t ∧
      (∀ j ∈ t.jobs, j.lane = r.lane → j.no = r.no → j.flushed = true ∧ j.cut = true) ∧
      (s.rd Reg.CMP_FLUSHES ≠ 0xFFFFFFFF → t.rd Reg.CMP_FLUSHES = s.rd Reg.CMP_FLUSHES + 1) ∧
      RegsBut [Reg.CMP_FLUSHES, Reg.CMP_MAX_WAIT] s t)) ∧
  (∀ (m : Bool) (j : Job) (s : State), runningJob s.jobs = some j →
    ∃ t, exec (.compressionJobDone m) s = .next t ∧
      t.jobs = s.jobs.filter (fun q => !(q.lane == j.lane && q.no == j.no)) ∧ t.rd Reg.CMP_JOBS = s.rd Reg.CMP_JOBS + 1 ∧
      (t.lane j.lane).items.map Item.no = (s.lane j.lane).items.map Item.no ∧
      (t.lane j.lane).items.map Item.record = (s.lane j.lane).items.map Item.record ∧
      (∀ n, n ≠ j.lane → t.lane n = s.lane n) ∧ SameBytes s t ∧
      (m = true → (∀ i ∈ (t.lane j.lane).items, i.no = j.no → i.flags = 4) ∧ Reports t 0x39 Err.CMP_VERIFY ∧ IrqSet t 0x39 0 ∧
        (s.rd Reg.CMP_FAIL_VERIFY ≠ 0xFFFFFFFF → t.rd Reg.CMP_FAIL_VERIFY = s.rd Reg.CMP_FAIL_VERIFY + 1))) ∧
  (∀ (sp : Fin 64) (L : Fin 4) (s : State), let l := s.lane (4 * sp.val + L.val)
    let ms := s.rf (Reg.SPLN_STALE_CFG sp.val L.val) Fd.SPLN_STALE_CFG_STALE
    l.stale = false → l.depth ≠ 0 → ms ≠ 0 → ms * tickMs ≤ s.ltc.toNat - l.staleFrom.toNat →
    ∃ t, exec (.staleExpiry sp L) s = .next t ∧ t.lane (4 * sp.val + L.val) = { l with stale := true } ∧
      Reports t (0x160 + sp.val) Err.SPL_STALE ∧ IrqSet t (0x160 + sp.val) 0 ∧ RegsBut (eventRegs (0x160 + sp.val)) s t)

/-- A pop returns the oldest unread item of the named lane, MARK, REWIND and the releases move its item numbers; refused ones only report. -/
def Obligations.SpoolPageOperations : Prop :=
  (∀ (who : Accessor) (L : Fin 4) (it : Item) (rest : List Item) (s : State), s.splRefusal who true = none →
    s.spoolReadable (s.selSpool who) = true → let k := 4 * s.selSpool who + L.val
    (s.lane k).unread = it :: rest → s.paired = false →
    s.flag (Reg.SPLN_CFG (s.selSpool who)) Fd.SPLN_CFG_REL_ON_READ = false →
    ∃ t, exec (.lanePop who L true .clean) s = .next t ∧ t.pop (s.whoIdx who) = PopView.ofItem k it ∧
      t.lane k = { s.lane k with rd := (s.lane k).rd + 1, stale := false, staleFrom := s.ltc } ∧
      (∀ m, m ≠ k → t.lane m = s.lane m) ∧ RegsBut [] s t ∧ SameBytes s t) ∧
  (∀ (who : Accessor) (L : Fin 4) (ecc : Ecc) (s : State), s.splRefusal who true = none →
    s.spoolReadable (s.selSpool who) = true → (s.lane (4 * s.selSpool who + L.val)).unread = [] →
    ∃ t, exec (.lanePop who L true ecc) s = .next t ∧ t = { s with pops := t.pops } ∧
      (t.pop (s.whoIdx who)).stat = w32 (0x4F + 16 * ((s.pop (s.whoIdx who)).stat.toNat / 16 % 4))) ∧
  (∀ (who : Accessor) (L : Fin 4) (b : Bool) (s : State), s.spoolReadable (s.selSpool who) = true →
    s.whoIdx who ≠ s.rf (Reg.SPLN_CFG (s.selSpool who)) Fd.SPLN_CFG_CTX →
    ∀ c ∈ [Instr.lanePop who L b .clean, .laneMark who L b, .laneRewind who L b, .laneReleaseMark who L b,
        .laneReleaseRead who L b],
      ∃ t, exec c s = .next t ∧ Reports t 0x38 Err.SPL_NOT_OWNER ∧ t.lanes = s.lanes ∧ RegsBut (eventRegs 0x38) s t ∧
        Word.bit (t.pop (s.whoIdx who)).stat 6 = true ∧ Word.bit (t.pop (s.whoIdx who)).stat 7 = true) ∧
  (∀ (who : Accessor) (L : Fin 4) (s : State), s.splRefusal who false = none →
    let k := 4 * s.selSpool who + L.val
    let l := s.lane k
    let moved (c : Instr) (l1 : Lane) : Prop := ∃ t, exec c s = .next t ∧
      t.lane k = (if l.depth = 0 ∧ l1.depth ≠ 0 then { l1 with staleFrom := s.ltc } else l1) ∧
      (∀ m, m ≠ k → t.lane m = s.lane m) ∧ RegsBut [] s t ∧ SameBytes s t ∧
      (t.pop (s.whoIdx who)).data = (s.pop (s.whoIdx who)).data ∧ Word.bit (t.pop (s.whoIdx who)).stat 6 = true ∧
      Word.bit (t.pop (s.whoIdx who)).stat 7 = false
    moved (.laneMark who L false) { l with mark := l.rd } ∧ moved (.laneRewind who L false) { l with rd := l.mark } ∧
    (s.paired = false → l.retired = false →
      moved (.laneReleaseMark who L false) { l with items := l.items.drop (l.mark - l.rel), rel := max l.rel l.mark, rd := max l.rd l.mark } ∧
      moved (.laneReleaseRead who L false) { l with
        mark := l.rd, items := l.items.drop (l.rd - l.rel), rel := max l.rel l.rd }))

namespace Sys2Proof.Claims

open Sys2Proof.Machine

/-- The coordinator holds the seven classes, and the head interface its five converters (R80, R415). -/
def MntOk (s : State) : Prop :=
  s.mnt.st.length = 7 ∧ s.mnt.busy.length = 7 ∧ s.mnt.since.length = 7 ∧ s.mnt.abort.length = 7 ∧ s.ofe.elems.length = 5

/-- A converter has a healthy spare (R81). -/
def SpareLeft (s : State) : Prop := ∃ e ∈ s.ofe.elems, e.spares ≠ []

/-- Every other class is as before. -/
def OtherClasses (k : Nat) (s t : State) : Prop := ∀ j, j ≠ k → t.mSt j = s.mSt j ∧ t.mBusy j = s.mBusy j

/-- What a request of class `k`, which is idle, does (R417): dropped while disabled, queued behind a conflict and counted,
else started. -/
def Asked (k : Nat) (s t : State) : Prop :=
  (s.mEnabled k = false → t = s) ∧
  (s.mEnabled k = true → (s.mFree k = false ∨ s.sys.restarting = true) →
    t.mSt k = 1 ∧ nth t.mnt.since k 0 = s.ltc ∧ IrqSet t 0x4 0 ∧ OtherClasses k s t ∧
    (s.rd Reg.MNT_QUEUED_CNT ≠ 0xFFFFFFFF → t.rd Reg.MNT_QUEUED_CNT = s.rd Reg.MNT_QUEUED_CNT + 1) ∧
    RegsBut [Reg.MNT_QUEUED_CNT, Reg.HDR_IRQ_RAW 0x4, Reg.HDR_SEQ 0x4] s t) ∧
  (s.mEnabled k = true → s.mFree k = true → s.sys.restarting = false →
    t.mSt k = 2 ∧ t.mBusy k = true ∧ t.rd Reg.MNT_STEP_LTC = s.now ∧ OtherClasses k s t)

/-- No other activity runs or waits, and Winch does not restart. -/
def AloneOn (k : Nat) (s : State) : Prop :=
  s.sys.restarting = false ∧ ∀ j, j ≠ k → s.mSt j = 0 ∧ s.mBusy j = false

end Sys2Proof.Claims

/-- RECAL, the PERIOD and a DT reached ask for a rotation, or for one further; spares calibrate, exchange, fail, and the rotation ends. -/
def Obligations.ConverterRotations : Prop :=
  let elapsed (s : State) : Prop := s.rf Reg.OFE_RECAL_CFG Fd.OFE_RECAL_CFG_PERIOD ≠ 0 ∧
    s.rf Reg.OFE_RECAL_CFG Fd.OFE_RECAL_CFG_PERIOD * tickS ≤ s.ltc.toNat - s.ofe.calAt.toNat
  let asks (c : Instr) (s : State) : Prop := c = .ofeRecal ∨ c = .mntStart 0 0 ∨ (c = .rxRecalPeriod ∧ elapsed s)
  (∀ (c : Instr) (s : State), asks c s → s.mSt 0 ≠ 0 →
    exec c s = .next (s.wf Reg.OFE_STAT Fd.OFE_STAT_CAL_PEND 1)) ∧
  (∀ (c : Instr) (s : State), asks c s → MntOk s → SpareLeft s → s.mSt 0 = 0 →
    ∃ t, exec c s = .next t ∧ Asked 0 s t ∧
      t = { s with regs := t.regs, free := t.free, mnt := t.mnt, sessions := t.sessions, ofe := t.ofe } ∧
      (t.mSt 0 = 2 → t.flag Reg.OFE_STAT Fd.OFE_STAT_CAL_BUSY = true ∧
        ∀ (i : Nat) (e : Elems) (x : Nat) (xs : List Nat), s.ofe.elems[i]? = some e → e.spares = x :: xs →
          t.ofe.elems[i]? = some { e with spares := xs, cal := some x, ready := none, done := [], active := true })) ∧
  (∀ s : State, ¬ elapsed s → exec .rxRecalPeriod s = .next s) ∧
  (∀ (temp : Int) (s : State), MntOk s → SpareLeft s →
    let cal := signed 16 (s.rd Reg.OFE_TEMP_CAL).toNat
    let old := signed 16 (s.rd Reg.OFE_TEMP_NOW).toNat
    let dt := s.rf Reg.OFE_RECAL_CFG Fd.OFE_RECAL_CFG_DT
    let s1 := s.wr Reg.OFE_TEMP_NOW (w32 (unsigned 16 (satS 16 temp)))
    let reached := dtReached temp cal dt = true ∧ (dtReached old cal dt = false ∨ s.mSt 0 = 0)
    (¬ reached → exec (.convTempRead temp) s = .next s1) ∧
    (reached → s.mSt 0 ≠ 0 → exec (.convTempRead temp) s = .next (s1.wf Reg.OFE_STAT Fd.OFE_STAT_CAL_PEND 1)) ∧
    (reached → s.mSt 0 = 0 → ∃ t, exec (.convTempRead temp) s = .next t ∧ Asked 0 s1 t)) ∧
  (∀ (c : Fin 4) (e : Elems) (x : Nat) (s : State), s.ofe.elems[c.val]? = some e → e.cal = some x →
    s.schedulesShots = true → s.parked = false → e.active = true → (∀ q, s.ofe.elems[4]? = some q → q.ready = none) →
    exec (.spareCalibrated ⟨c.val, by omega⟩ true) s = .next { s with ofe := { s.ofe with
      elems := setAt s.ofe.elems c.val { e with cal := none, ready := some x, done := e.done ++ [x] } } }) ∧
  (∀ (c : Fin 5) (e : Elems) (x o : Nat) (sv : List Nat) (s : State), MntOk s → s.ofe.elems[c.val]? = some e →
    e.cal = some x → e.serving = o :: sv → s.schedulesShots = false → e.active = true →
    (∀ i q, s.ofe.elems[i]? = some q → i ≠ c.val → q.ready = none) →
    (o ∉ e.done ++ [x] → ∃ t, exec (.spareCalibrated c true) s = .next t ∧ t = { s with ofe := t.ofe } ∧
      t.ofe.elems[c.val]? = some { e with
        serving := sv ++ [x], cal := some o, ready := none, done := e.done ++ [x],
        spares := (e.spares ++ [o]).filter (fun y => y != o) }) ∧
    ((∀ y ∈ e.spares ++ [o], y ∈ e.done ++ [x]) → s.mSt 0 = 2 →
      (∀ i q, s.ofe.elems[i]? = some q → i ≠ c.val → q.active = false) →
      s.flag Reg.OFE_STAT Fd.OFE_STAT_CAL_PEND = false →
      ∃ t, exec (.spareCalibrated c true) s = .next t ∧ t.mSt 0 = 0 ∧ t.rd Reg.OFE_TEMP_CAL = s.rd Reg.OFE_TEMP_NOW ∧
        t.rd Reg.OFE_CAL_COUNT = s.rd Reg.OFE_CAL_COUNT + 1 ∧ t.flag Reg.OFE_STAT Fd.OFE_STAT_CAL_BUSY = false ∧
        IrqSet t 0x10 3 ∧ IrqSet t 0x4 1 ∧ t.ofe.calAt = s.ltc ∧
        RegsBut [Reg.OFE_TEMP_CAL, Reg.OFE_CAL_COUNT, Reg.OFE_STAT, Reg.HDR_IRQ_RAW 0x10, Reg.HDR_SEQ 0x10,
          Reg.HDR_IRQ_RAW 0x4, Reg.HDR_SEQ 0x4] s t)) ∧
  (∀ (c : Fin 5) (e : Elems) (x y : Nat) (s : State), MntOk s → s.ofe.elems[c.val]? = some e → e.cal = some x →
    e.active = true → (e.spares.filter (fun z => !e.done.contains z)).head? = some y →
    ∃ t, exec (.spareCalibrated c false) s = .next t ∧ Reports t 0x10 Err.CAL_ELEM_FAIL ∧
      t.nv.faults = (s.logFault Err.CAL_ELEM_FAIL 0x10 (16 * c.val + x)).nv.faults ∧
      t.ofe.elems[c.val]? = some { e with cal := some y, spares := e.spares.filter (fun z => z != y) } ∧
      (∀ i, i ≠ c.val → t.ofe.elems[i]? = s.ofe.elems[i]?) ∧ RegsBut (eventRegs 0x10) s t)

/-- START and the periods ask for patrol, memory test and telemetry, ABORT gives one up, other classes and contexts are refused. -/
def Obligations.MaintenanceRequests : Prop :=
  (∀ (k : Nat) (c : Instr) (s : State), MntOk s →
    ((k = 4 ∧ (c = .mntStart 0 4 ∨ (c = .flashPatrolPeriod ∧ s.rf Reg.NVS_CFG Fd.NVS_CFG_PATROL ≠ 0))) ∨
     (k = 5 ∧ (c = .mntStart 0 5 ∨ (c = .memtestPeriod ∧ s.rf Reg.MEM_TEST_CFG Fd.MEM_TEST_CFG_PERIOD ≠ 0)))) →
    (s.mSt k ≠ 0 → exec c s = .next s) ∧
    (s.mSt k = 0 → ∃ t, exec c s = .next t ∧ Asked k s t ∧
      t = { s with regs := t.regs, free := t.free, mnt := t.mnt, sessions := t.sessions } ∧
      (t.mSt k = 2 → k = 5 → t.mnt.borrowed = s.nextBlock s.mnt.cursor))) ∧
  (∀ s : State, s.rf Reg.NVS_CFG Fd.NVS_CFG_PATROL = 0 → exec .flashPatrolPeriod s = .next s) ∧
  (∀ s : State, s.rf Reg.MEM_TEST_CFG Fd.MEM_TEST_CFG_PERIOD = 0 → exec .memtestPeriod s = .next s) ∧
  (∀ (k : Fin 8) (s : State), MntOk s → k.val ∈ [4, 5, 6] →
    (s.mSt k.val = 0 → exec (.mntAbort 0 k) s = .next s) ∧
    (s.mSt k.val ≠ 0 → s.mBusy k.val = true →
      exec (.mntAbort 0 k) s = .next { s with mnt := { s.mnt with abort := setAt s.mnt.abort k.val true } }) ∧
    (s.mSt k.val ≠ 0 → s.mBusy k.val = false → (∀ j, j ≠ k.val → s.mSt j = 0 ∨ s.mBusy j = true) →
      ∃ t, exec (.mntAbort 0 k) s = .next t ∧ t.mSt k.val = 0 ∧ OtherClasses k.val s t ∧ IrqSet t 0x4 1 ∧
        RegsBut [Reg.HDR_IRQ_RAW 0x4, Reg.HDR_SEQ 0x4] s t)) ∧
  (∀ (x : Fin 4) (k : Fin 8) (s : State), x ≠ 0 → ∀ c ∈ [Instr.mntStart x k, .mntAbort x k],
    ∃ t, exec c s = .next t ∧ Reports t 0x4 Err.MNT_OWNER ∧ RegsBut (eventRegs 0x4) s t ∧
      t = { s with regs := t.regs, sessions := t.sessions }) ∧
  (∀ (k : Fin 8) (c : Instr) (s : State), (k.val ∈ [2, 3, 7] ∧ c = .mntStart 0 k) ∨
      (k.val ∈ [0, 1, 2, 3, 7] ∧ c = .mntAbort 0 k) →
    ∃ t, exec c s = .next t ∧ Reports t 0x4 Err.MNT_RANGE ∧ RegsBut (eventRegs 0x4) s t ∧
      t = { s with regs := t.regs, sessions := t.sessions })

/-- Steps of patrol, wear and memory test continue or end, a borrowed block is given back, scrub, flash timeout and telemetry do their accounts. -/
def Obligations.BackgroundStepsAndFindings : Prop :=
  (∀ (k : Fin 7) (r : StepEnd) (s : State), MntOk s → k.val ∈ [3, 4] → s.mBusy k.val = true → AloneOn k.val s →
    nth s.mnt.abort k.val false = false → s.nv.reserve ≠ 0 →
    ∃ t, exec (.maintenanceStepStart k r) s = .next t ∧
      RegsBut [Reg.MNT_STEP_LTC, Reg.NVS_REFRESHED, Reg.HDR_IRQ_RAW 0x4, Reg.HDR_SEQ 0x4] s t ∧
      (r.last = false → t.mSt k.val = 2 ∧ t.mBusy k.val = true ∧ t.rd Reg.MNT_STEP_LTC = s.now) ∧
      (r.last = true → t.mSt k.val = 0 ∧ t.mBusy k.val = false ∧ IrqSet t 0x4 1) ∧
      (k.val = 4 → r.refresh = true → s.rd Reg.NVS_REFRESHED ≠ 0xFFFFFFFF →
        t.rd Reg.NVS_REFRESHED = s.rd Reg.NVS_REFRESHED + 1) ∧
      (k.val = 3 ∨ r.refresh = false → t.rd Reg.NVS_REFRESHED = s.rd Reg.NVS_REFRESHED)) ∧
  (∀ (r : StepEnd) (i : Nat) (s : State), MntOk s → s.mBusy 5 = true → AloneOn 5 s → s.mnt.borrowed = some i →
    ∃ t, exec (.maintenanceStepStart 5 r) s = .next t ∧ t.mSt 5 = 0 ∧ IrqSet t 0x4 1 ∧ t.mnt.borrowed = none ∧
      t.mnt.cursor = i + 1 ∧ SameBytes s t ∧
      (r.fail = true → Reports t 0x58 Err.MEM_TEST_FAIL ∧ IrqSet t 0x58 1 ∧
        t.rd Reg.MEM_TEST_FAIL_ADDR = w32 ((blockAddr testAreas i).getD 0) ∧
        t.nv.faults = (s.logFault Err.MEM_TEST_FAIL 0x58 ((blockAddr testAreas i).getD 0)).nv.faults) ∧
      (r.fail = false → RegsBut [Reg.MEM_TEST_PASS, Reg.HDR_IRQ_RAW 0x4, Reg.HDR_SEQ 0x4] s t)) ∧
  (∀ (core : Option (Fin 16)) (n : Nat) (s : State), s.mnt.borrowed = none →
    exec (.memtestBlockRestore core n) s = .next s) ∧
  (∀ (core : Fin 16) (n i : Nat) (s : State), MntOk s → s.mnt.borrowed = some i → AloneOn 5 s →
    (s.rd Reg.MEM_TEST_ABANDON).toNat + 1 < 2 ^ 32 → (s.rd (Reg.LPE_STALL core.val)).toNat + n < 2 ^ 32 →
    ∃ t, exec (.memtestBlockRestore (some core) n) s = .next t ∧ t.mnt.borrowed = none ∧ t.mnt.cursor = i + 1 ∧
      t.mSt 5 = 0 ∧ t.rd Reg.MEM_TEST_ABANDON = s.rd Reg.MEM_TEST_ABANDON + 1 ∧
      t.rd (Reg.LPE_STALL core.val) = s.rd (Reg.LPE_STALL core.val) + w32 n ∧ SameBytes s t ∧
      RegsBut [Reg.MEM_TEST_ABANDON, Reg.MEM_TEST_PASS, Reg.LPE_STALL core.val, Reg.HDR_IRQ_RAW 0x4, Reg.HDR_SEQ 0x4] s t) ∧
  (∀ (m : Fin 4) (e : Ecc) (last : Bool) (s : State),
    (s.rf Reg.MEM_SCRUB_CFG Fd.MEM_SCRUB_CFG_PERIOD = 0 → exec (.memScrub m e last) s = .next s) ∧
    (s.rf Reg.MEM_SCRUB_CFG Fd.MEM_SCRUB_CFG_PERIOD ≠ 0 →
      (m.val < 3 → e = .corrected → ∃ t, exec (.memScrub m e last) s = .next t ∧
        let a := if m.val = 0 then Reg.SCU_SGM_CORR else if m.val = 1 then Reg.SPL_SPM_CORR else Reg.MEM_SCM_CORR
        (s.rd a ≠ 0xFFFFFFFF → t.rd a = s.rd a + 1) ∧ RegsBut [a, Reg.MEM_SCRUB_PASS] s t ∧ SameBytes s t) ∧
      (m.val = 3 → e = .body ∨ e = .descriptor →
        ∃ t, exec (.memScrub m e last) s = .next t ∧ Wiped 4 s t ∧ SameBytes s t))) ∧
  (∀ (left : Nat) (s : State), MntOk s →
    let low := 100 * left < s.rf Reg.NVS_CFG Fd.NVS_CFG_RES_WARN * Config.reserveSize
    ∃ t, exec (.flashTimeout left) s = .next t ∧ t.nv.retired = s.nv.retired + 1 ∧ t.nv.reserve = left ∧
      (s.rd Reg.NVS_FLASH_TO ≠ 0xFFFFFFFF → t.rd Reg.NVS_FLASH_TO = s.rd Reg.NVS_FLASH_TO + 1) ∧ IrqSet t 0x5c 1 ∧
      t.nv.faults = (s.logFault Err.FLASH_TIMEOUT 0x5c 0).nv.faults ∧
      (low → s.flag Reg.NVS_STAT Fd.NVS_STAT_RES_WARN = false →
        t.flag Reg.NVS_STAT Fd.NVS_STAT_RES_WARN = true ∧ Reports t 0x5c Err.NVS_RESERVE ∧ IrqSet t 0x5c 0) ∧
      (¬ low → Reports t 0x5c Err.FLASH_TIMEOUT ∧ t.rd Reg.NVS_STAT = s.rd Reg.NVS_STAT) ∧ SameBytes s t) ∧
  (∀ (m : Monitors) (s : State), ∃ t, exec (.telPeriod m) s = .next t ∧ t.mnt.tCore = satS 16 m.tCore ∧
    t.mnt.power = satU 32 m.power ∧ t.mnt.iVdd = satU 32 m.iVdd ∧ t.mnt.telAt = s.ltc ∧ SameBytes s t ∧
    (s.rf Reg.TEL_CFG Fd.TEL_CFG_PERIOD = 0 → RegsBut [] s t ∧ t.seqs = s.seqs) ∧
    (s.rf Reg.TEL_CFG Fd.TEL_CFG_PERIOD ≠ 0 → MntOk s → s.mEnabled 6 = true → s.mSt 6 = 0 → s.sys.restarting = false →
      t.rd Reg.TEL_RECORDS = s.rd Reg.TEL_RECORDS + 1 ∧ IrqSet t 0x5a 0 ∧ IrqSet t 0x4 1 ∧ t.mSt 6 = 0 ∧
      t.rd Reg.MNT_STEP_LTC = s.now ∧
      (∀ p e, s.pln.run = some p → findRoute p 0x8 0x500 0xA = some e →
        t.seqOf 0x8 0x500 0xA = (s.seqOf 0x8 0x500 0xA + 1) % 2 ^ 32)))

namespace Sys2Proof.Claims

open Sys2Proof.Machine

/-- Core `c` is at an instruction with OP `op`, it runs and does not wait, and its budget covers the instruction (R304,
R312). -/
def AtOp (s : State) (c op : Nat) : Prop :=
  (s.core c).running = true ∧ (s.core c).waiting = false ∧ insF (s.coreFetch c) 26 6 = op ∧
  (s.core c).cycles (s.coreFetch c) ≤ (s.core c).bud

/-- The core is in straight-line code with nothing on its way: no delay slot, no repeat, no late result (R305 to R307). -/
def Straight (s : State) (c op : Nat) : Prop :=
  AtOp s c op ∧ (s.core c).br = none ∧ (s.core c).rpt = none ∧ (s.core c).late = [] ∧ (s.core c).accOld = none

/-- The core after `n` cycles, at the following instruction. -/
def wentOn (x : LpeCore) (n : Nat) : LpeCore := { x.burn n with pc := (x.pc + 1) % 2 ^ 14, loadSlot := false }

/-- A general register written for the next instruction; G0 ignores writes (R300). -/
def withG (x : LpeCore) (d : Nat) (v : Word) : LpeCore := { x with g := if d = 0 then x.g else setAt x.g d v }

/-- A general register written for the second or third following instruction. -/
def lateOne (k d : Nat) (v : Word) : List (Nat × Nat × Word) := if d = 0 then [] else [(k, d, v)]

/-- An accumulator with a new value, which saturates at ±(2^39 − 1) and sets SAT (R304). -/
def withAcc (x : LpeCore) (n : Nat) (v : Int) : LpeCore :=
  { x with acc := setAt x.acc n (max (1 - 2 ^ 39) (min (2 ^ 39 - 1) v)),
           flg := if 1 - 2 ^ 39 ≤ v ∧ v ≤ 2 ^ 39 - 1 then x.flg else x.flg ||| 1 }

/-- An activation of core `c` ended by overrun or fault with a cause (R312, R313, R324). -/
structure Cut (cause c : Nat) (s t : State) : Prop where
  core : (t.core c).running = false ∧ (t.core c).item = none ∧ (t.core c).events = [] ∧ (t.core c).ip = 0 ∧
    (t.core c).cause = cause ∧ (t.core c).acc = (s.core c).acc ∧ (t.core c).ad = (s.core c).ad
  queue : (t.core c).queue = if (s.core c).item.isSome then (s.core c).queue.drop 1 else (s.core c).queue
  place : t.rd (Reg.LPE_LAST_PC c) = w32 (s.core c).pc
  counts : s.rd (Reg.LPE_OVERRUNS c) ≠ 0xFFFFFFFF → t.rd (Reg.LPE_OVERRUNS c) = s.rd (Reg.LPE_OVERRUNS c) + 1
  events : IrqSet t (0x1a0 + c) (if cause = 1 then 0 else 1) ∧ IrqSet t 0x40 0
  fault : cause ≠ 1 → Reports t (0x1a0 + c) Err.LPE_FAULT
  budget : cause = 1 → (s.core c).budSeen = false → Reports t (0x1a0 + c) Err.LPE_OVERRUN
  others : ∀ d, d ≠ c → t.core d = s.core d
  bytes : SameBytes s t

end Sys2Proof.Claims

/-- Each Loupe register instruction writes its result, its flags and the next pc, takes its cycle, and changes nothing else of the hub. -/
def Obligations.LoupeArithmetic : Prop :=
  ∀ (c : Fin 16) (s : State),
    let x := s.core c.val
    let w := s.coreFetch c.val
    let d := insF w 22 4
    let G (n : Nat) : Word := if n = 0 then 0 else nth x.g n 0
    let a := G (insF w 18 4)
    let b := G (insF w 14 4)
    let imm := insS w 0 18
    let sh := insF w 0 5
    let p : Int := signed 16 a.toNat * signed 16 b.toNat
    let n := insF w 24 2
    let go (i : Fin 16 → Instr) (op : Nat) (y : LpeCore) : Prop :=
      Straight s c.val op → exec (i c) s = .next (s.setCore c.val y)
    let puts (i : Fin 16 → Instr) (op : Nat) (v : Word) : Prop := go i op (withG (wentOn x 1) d v)
    go .lpNop 0x00 (wentOn x 1) ∧
    puts .lpAdd 0x01 (w32 (a.toNat + b.toNat)) ∧ puts .lpSub 0x02 (w32 (unsigned 32 (a.toInt - b.toInt))) ∧
    puts .lpAnd 0x03 (a &&& b) ∧ puts .lpOr 0x04 (a ||| b) ∧ puts .lpXor 0x05 (a ^^^ b) ∧
    puts .lpSlt 0x06 (if a.toInt < b.toInt then 1 else 0) ∧
    puts .lpMin 0x07 (if a.toInt < b.toInt then a else b) ∧ puts .lpMax 0x08 (if a.toInt < b.toInt then b else a) ∧
    (a ≠ 0x80000000 → puts .lpAbs 0x09 (w32 a.toInt.natAbs)) ∧
    (a = 0x80000000 → go .lpAbs 0x09 { withG (wentOn x 1) d 0x7FFFFFFF with flg := x.flg ||| 1 }) ∧
    puts .lpAddi 0x0a (w32 (unsigned 32 (a.toInt + imm))) ∧ puts .lpLui 0x0b (w32 (65536 * insF w 0 16)) ∧
    puts .lpOri 0x0c (a ||| w32 (insF w 0 16)) ∧ puts .lpShl 0x0d (w32 (a.toNat * 2 ^ sh)) ∧
    puts .lpShr 0x0e (w32 (a.toNat / 2 ^ sh)) ∧ puts .lpSra 0x0f (w32 (unsigned 32 (Int.fdiv a.toInt (2 ^ sh)))) ∧
    go .lpMul 0x10 { wentOn x 1 with late := lateOne 1 d (w32 (unsigned 32 p)) } ∧
    go .lpMpy 0x11 { withAcc (wentOn x 1) n p with accOld := some (n, nth x.acc n 0) } ∧
    go .lpMac 0x12 { withAcc (wentOn x 1) n (nth x.acc n 0 + p) with accOld := some (n, nth x.acc n 0) } ∧
    go .lpMsu 0x13 { withAcc (wentOn x 1) n (nth x.acc n 0 - p) with accOld := some (n, nth x.acc n 0) } ∧
    puts .lpMova 0x14 (w32 (unsigned 32 (satS 32 (roundShr (nth x.acc (insF w 20 2) 0) sh)))) ∧
    go .lpMovta 0x15 { wentOn x 1 with acc := setAt x.acc n a.toInt }

/-- Loads, stores and the filter tap reach the addressed bytes alone and post-modify; EMIT, DMOV, IOR, IOW, MOVS, MOVTS do as R304 says. -/
def Obligations.LoupeMemoryAndSystem : Prop :=
  ∀ (c : Fin 16) (s : State),
    let x := s.core c.val
    let w := s.coreFetch c.val
    let d := insF w 22 4
    let G (n : Nat) : Word := if n = 0 then 0 else nth x.g n 0
    let at_ := x.memAt w
    let cyc (a : Nat) : Nat := if 0x10000000 ≤ a ∧ a < 0x10800000 then 5 else 0
    let n := insF w 19 3
    let went := { wentOn x (1 + cyc at_) with
      ad := if insF w 17 2 = 1 then setAt x.ad n (postMod (nth x.ad n 0) (insS w 0 16) (nth x.md n 0))
        else if insF w 17 2 = 2 then setAt x.ad n (postMod (nth x.ad n 0) (nth x.of_ n 0).toInt (nth x.md n 0)) else x.ad }
    let loads (i : Instr) (op size : Nat) (v : Nat → Nat) : Prop :=
      Straight s c.val op → s.accessFault c.val at_ size = 0 → exec i s = .next (s.setCore c.val { went with
        late := lateOne 1 d (w32 (v (s.coreLd c.val at_ size))), loadSlot := true })
    let stores (i : Instr) (op size : Nat) : Prop :=
      Straight s c.val op → s.accessFault c.val at_ size = 0 →
      ∃ t, exec i s = .next t ∧ t.core c.val = went ∧ t = { s with mem := t.mem, lpe := t.lpe } ∧
        (∀ j, j ≠ c.val → t.core j = s.core j) ∧
        ∀ p, s.coreAddr c.val at_ size = some p →
          (∀ j, j < size → t.rdByte (p + j) = BitVec.ofNat 8 ((G d).toNat / 256 ^ j)) ∧
          (∀ q, q < p ∨ p + size ≤ q → t.rdByte q = s.rdByte q)
    let puts (i : Instr) (op : Nat) (v : Word) : Prop :=
      Straight s c.val op → exec i s = .next (s.setCore c.val (withG (wentOn x 1) d v))
    loads (.lpLdh c .clean) 0x18 2 (fun v => if v < 32768 then v else v + 0xFFFF0000) ∧
    loads (.lpLdhu c .clean) 0x19 2 id ∧ loads (.lpLdw c .clean) 0x1a 4 id ∧
    (∀ e : Ecc, at_ < 0x10000000 → loads (.lpLdw c e) 0x1a 4 id) ∧
    (∀ e : Ecc, e = .body ∨ e = .descriptor → Straight s c.val 0x1a → s.accessFault c.val at_ 4 = 0 → 0x10000000 ≤ at_ →
      ∃ t, exec (.lpLdw c e) s = .next t ∧ Reports t 0x58 Err.MEM_SCM_UNCORR ∧ t.rd Reg.MEM_LAST_UNCORR = w32 at_ ∧
        (t.core c.val).late = lateOne 1 d 0 ∧
        RegsBut ([Reg.MEM_SCM_UNCORR, Reg.MEM_LAST_UNCORR] ++ eventRegs 0x58) s t ∧ SameBytes s t) ∧
    stores (.lpSth c) 0x1b 2 ∧ stores (.lpStw c) 0x1c 4 ∧
    (let ax := (nth x.ad (insF w 21 3) 0).toNat
     let ay := (nth x.ad (insF w 18 3) 0).toNat
     let n := insF w 24 2
     let ad1 := setAt x.ad (insF w 21 3) (postMod (nth x.ad (insF w 21 3) 0) (nth x.of_ (insF w 21 3) 0).toInt
       (nth x.md (insF w 21 3) 0))
     ∀ p, Straight s c.val 0x16 → s.coreAddr c.val (ax + 2) 2 = some p → s.accessFault c.val ax 2 = 0 →
      s.accessFault c.val ay 2 = 0 → s.accessFault c.val (ax + 2) 2 = 0 →
      ∃ t, exec (.lpFtm c .clean .clean) s = .next t ∧ t = { s with mem := t.mem, lpe := t.lpe } ∧
        t.core c.val =
          { withAcc (wentOn x (1 + cyc ax + cyc ay + cyc (ax + 2))) n
              (nth x.acc n 0 + signed 16 (s.coreLd c.val ax 2) * signed 16 (s.coreLd c.val ay 2)) with
            accOld := some (n, nth x.acc n 0),
            ad := setAt ad1 (insF w 18 3) (postMod (nth ad1 (insF w 18 3) 0) (nth x.of_ (insF w 18 3) 0).toInt
              (nth x.md (insF w 18 3) 0)) } ∧
        (∀ j, j < 2 → t.rdByte (p + j) = BitVec.ofNat 8 (s.coreLd c.val ax 2 / 256 ^ j)) ∧
        (∀ q, q < p ∨ p + 2 ≤ q → t.rdByte q = s.rdByte q)) ∧
    (let a := (G d).toNat
     let k := (G (insF w 18 4)).toNat
     Straight s c.val 0x30 → x.events.length < 16 → 0x100 ≤ k / 65536 → insF w 10 8 ≠ 255 → k % 65536 ≤ 224 →
      a + k % 65536 ≤ 0x20000 →
      exec (.lpEmit c) s = .next (s.setCore c.val { wentOn x 1 with
        events := x.events ++ [(insF w 10 8, k / 65536, s.rdBytes (coreDm c.val + a) (k % 65536))] })) ∧
    (let a := (G d).toNat
     let b := (G (insF w 18 4)).toNat
     let len := (G (insF w 14 4)).toNat
     Straight s c.val 0x31 → x.dma = none →
      (len = 0 → ∃ t, exec (.lpDmov c) s = .next t ∧ (t.core c.val).dmaDone = true ∧ (t.core c.val).dma = none ∧
        Nat.testBit (t.core c.val).ip 0 = true ∧ (t.core c.val).pc = (x.pc + 1) % 2 ^ 14 ∧ t = { s with lpe := t.lpe }) ∧
      (∀ p q, len ≠ 0 → len % 16 = 0 → inScratch a ≠ inScratch b → s.coreAddr c.val a len = some p →
        s.coreAddr c.val b len = some q → exec (.lpDmov c) s = .next (s.setCore c.val { wentOn x 1 with
          dma := some (p, q, len), dmaDone := false }))) ∧
    (∀ iv ∈ [(0, w32 x.ie), (1, w32 x.ip), (2, w32 x.tmr), (6, x.injCode), (7, x.injLtc), (8, w32 c.val), (9, 0), (4, 0),
        (3, w32 (b2n x.dma.isSome + 2 * b2n x.dmaDone)), (5, w32 (x.injStat.toNat / 2 * 2 + b2n x.injPend)), (63, 0)],
      insF w 0 6 = iv.1 → puts (.lpIor c) 0x32 iv.2) ∧
    (Straight s c.val 0x33 →
      let v := G d
      let i := insF w 0 6
      let y := wentOn x 1
      (i = 0 → exec (.lpIow c) s = .next (s.setCore c.val { y with ie := v.toNat % 16 })) ∧
      (i = 1 → exec (.lpIow c) s = .next (s.setCore c.val { y with
        ip := (w32 y.ip &&& ~~~ v).toNat, irqAt := y.irqAt.filter (fun e => v.toNat / 2 ^ e.1 % 2 == 0) })) ∧
      (i = 2 → exec (.lpIow c) s = .next (s.setCore c.val { y with tmr := v.toNat })) ∧
      (i = 3 ∨ 5 ≤ i → exec (.lpIow c) s = .next (s.setCore c.val y)) ∧
      (i = 4 → x.injPend = true → exec (.lpIow c) s = .next (s.setCore c.val { y with injStat := x.injStat.put ⟨2, 2⟩ 2 })) ∧
      (i = 4 → x.injPend = false → v.get Fd.FLD_INJ_CMD_SRC ≠ 3 → ∃ t, exec (.lpIow c) s = .next t ∧
        (t.core c.val).injPend = true ∧ (t.core c.val).injStat = injOutcome false 0 (v.get Fd.FLD_INJ_CMD_TAG) 0 ∧
        (t.core c.val).pc = y.pc ∧ SameBytes s t) ∧
      (i = 4 → x.injPend = false → v.get Fd.FLD_INJ_CMD_SRC = 3 → ∃ t, exec (.lpIow c) s = .next t ∧ t.core c.val = y ∧
        Reports t 0x18 Err.FLD_RANGE ∧ RegsBut (eventRegs 0x18) s t ∧ SameBytes s t)) ∧
    (let i := insF w 17 5
     (i < 8 → puts (.lpMovs c) 0x34 (nth x.ad i 0)) ∧ (8 ≤ i → i < 16 → puts (.lpMovs c) 0x34 (nth x.of_ (i - 8) 0)) ∧
     (16 ≤ i → i < 24 → puts (.lpMovs c) 0x34 (w32 (nth x.md (i - 16) 0))) ∧ (i = 24 → puts (.lpMovs c) 0x34 (w32 x.flg)) ∧
     (i = 25 → puts (.lpMovs c) 0x34 (w32 x.cyc)) ∧ (i = 26 → puts (.lpMovs c) 0x34 (w32 x.bud)) ∧
     (i = 27 → puts (.lpMovs c) 0x34 (w32 x.epc)) ∧ (i = 28 → puts (.lpMovs c) 0x34 0)) ∧
    (Straight s c.val 0x35 →
      let v := G d
      let i := insF w 17 5
      let goes (y : LpeCore) : Prop := exec (.lpMovts c) s = .next (s.setCore c.val y)
      let y := wentOn x 1
      (i < 8 → goes { y with ad := setAt x.ad i v }) ∧ (8 ≤ i → i < 16 → goes { y with of_ := setAt x.of_ (i - 8) v }) ∧
      (16 ≤ i → i < 24 → goes { y with md := setAt x.md (i - 16) (v.toNat % 2 ^ 17) }) ∧
      (i = 24 → goes { y with flg := v.toNat % 4 }) ∧ (i = 27 → goes { y with epc := v.toNat % 2 ^ 14 }) ∧
      (i = 25 ∨ i = 26 ∨ 28 ≤ i → goes y))

/-- Branches, CALL, JR and RETI take effect behind two delay slots, RPT repeats its body, WAIT idles, END ends the activation, results land late. -/
def Obligations.LoupeControlFlow : Prop :=
  ∀ (c : Fin 16) (s : State),
    let x := s.core c.val
    let w := s.coreFetch c.val
    let G (n : Nat) : Word := if n = 0 then 0 else nth x.g n 0
    let a := G (insF w 22 4)
    let b := G (insF w 18 4)
    let next := (x.pc + 1) % 2 ^ 14
    let goes (i : Fin 16 → Instr) (op : Nat) (y : LpeCore) : Prop :=
      Straight s c.val op → exec (i c) s = .next (s.setCore c.val y)
    let off := unsigned 14 ((x.pc : Int) + insS w 0 18)
    let branch (i : Fin 16 → Instr) (op : Nat) (taken : Bool) : Prop :=
      goes i op { wentOn x 1 with br := some (if taken then off else (x.pc + 3) % 2 ^ 14, 2) }
    branch .lpBeq 0x20 (decide (a.toNat = b.toNat)) ∧ branch .lpBne 0x21 (decide (a.toNat ≠ b.toNat)) ∧
    branch .lpBlt 0x22 (decide (a.toInt < b.toInt)) ∧ branch .lpBge 0x23 (decide (b.toInt ≤ a.toInt)) ∧
    branch .lpBr 0x24 true ∧
    goes .lpCall 0x25 { wentOn x 1 with br := some (off, 2), late := [(2, 15, w32 (next + 2))] } ∧
    goes .lpJr 0x26 { wentOn x 1 with br := some (a.toNat % 2 ^ 14, 2) } ∧
    goes .lpReti 0x2a { wentOn x 1 with br := some (x.epc, 2), ie := x.ie % 8 + 8, inIrq := false } ∧
    (let len := insF w 13 9
     let cmax := insF w 0 13
     let g := insF w 22 4
     (len = 0 → goes .lpRpt 0x27 (wentOn x 1)) ∧
     (1 ≤ len → len ≤ 256 → g = 0 → cmax = 0 → goes .lpRpt 0x27 { wentOn x 1 with pc := (next + len) % 2 ^ 14 }) ∧
     (1 ≤ len → len ≤ 256 → g = 0 → 0 < cmax →
       goes .lpRpt 0x27 { wentOn x 1 with rpt := some (next, (next + len - 1) % 2 ^ 14, cmax) }) ∧
     (1 ≤ len → len ≤ 256 → g ≠ 0 → 0 < a.toInt → a.toInt ≤ cmax →
       goes .lpRpt 0x27 { wentOn x 1 with rpt := some (next, (next + len - 1) % 2 ^ 14, a.toNat) }) ∧
     (1 ≤ len → len ≤ 256 → g ≠ 0 → 0 < cmax → (cmax : Int) < a.toInt →
       goes .lpRpt 0x27 { wentOn x 1 with
         rpt := some (next, (next + len - 1) % 2 ^ 14, cmax), flg := x.flg ||| 2 }) ∧
     (1 ≤ len → len ≤ 256 → g ≠ 0 → a.toInt = 0 → goes .lpRpt 0x27 { wentOn x 1 with pc := (next + len) % 2 ^ 14 }) ∧
     (1 ≤ len → len ≤ 256 → g ≠ 0 → a.toInt < 0 ∨ (cmax = 0 ∧ 0 < a.toInt) →
       goes .lpRpt 0x27 { wentOn x 1 with pc := (next + len) % 2 ^ 14, flg := x.flg ||| 2 }) ∧
     (256 < len → Straight s c.val 0x27 → ∃ t, exec (.lpRpt c) s = .next t ∧ Cut 2 c.val s t)) ∧
    (let y := wentOn x 1
     goes .lpWait 0x29 { y with
       waiting := !(List.range 3).any (fun i => y.ie / 2 ^ i % 2 == 1 && y.ip / 2 ^ i % 2 == 1) }) ∧
    (Straight s c.val 0x28 → ∃ t, exec (.lpEnd c) s = .next t ∧ (t.core c.val).running = false ∧
      (t.core c.val).item = none ∧ (t.core c.val).events = [] ∧ (t.core c.val).ip = 0 ∧
      (t.core c.val).queue = (if x.item.isSome then x.queue.drop 1 else x.queue) ∧ (t.core c.val).g = x.g ∧
      (t.core c.val).acc = x.acc ∧ (t.core c.val).ad = x.ad ∧
      (t.rd (Reg.LPE_CYC_MAX c.val)).toNat = max (s.rd (Reg.LPE_CYC_MAX c.val)).toNat (x.burn 1).cyc ∧
      t.rd (Reg.LPE_EMITS c.val) = s.rd (Reg.LPE_EMITS c.val) + w32 x.events.length ∧
      (∀ j, j ≠ c.val → t.core j = s.core j) ∧ SameBytes s t) ∧
    (AtOp s c.val 0x00 → ∃ t, exec (.lpNop c) s = .next t ∧ t = s.setCore c.val (t.core c.val) ∧
      (x.br = none → x.rpt = none → (t.core c.val).pc = next) ∧
      (∀ k, x.rpt = none → x.br = some (k, 2) → (t.core c.val).br = some (k, 1) ∧ (t.core c.val).pc = next) ∧
      (∀ k, x.rpt = none → x.br = some (k, 1) → (t.core c.val).br = none ∧ (t.core c.val).pc = k) ∧
      (∀ f l n, x.br = none → x.rpt = some (f, l, n) →
        (x.pc ≠ l → (t.core c.val).rpt = some (f, l, n) ∧ (t.core c.val).pc = next) ∧
        (x.pc = l → 1 < n → (t.core c.val).rpt = some (f, l, n - 1) ∧ (t.core c.val).pc = f) ∧
        (x.pc = l → n ≤ 1 → (t.core c.val).rpt = none ∧ (t.core c.val).pc = next)) ∧
      (∀ r v, x.late = [(1, r, v)] → (t.core c.val).g = setAt x.g r v ∧ (t.core c.val).late = []) ∧
      (∀ k r v, 1 < k → x.late = [(k, r, v)] → (t.core c.val).g = x.g ∧ (t.core c.val).late = [(k - 1, r, v)])) ∧
    (∀ old : Int, AtOp s c.val 0x14 → x.accOld = some (insF w 20 2, old) → insF w 22 4 ≠ 0 → x.late = [] →
      ∃ t, exec (.lpMova c) s = .next t ∧ t = s.setCore c.val (t.core c.val) ∧ (t.core c.val).accOld = none ∧
        (t.core c.val).g = setAt x.g (insF w 22 4) (w32 (unsigned 32 (satS 32 (roundShr old (insF w 0 5)))))) ∧
    (∀ oi ∈ [(0x20, Instr.lpBeq c), (0x21, .lpBne c), (0x22, .lpBlt c), (0x23, .lpBge c), (0x24, .lpBr c),
        (0x25, .lpCall c), (0x26, .lpJr c), (0x27, .lpRpt c), (0x28, .lpEnd c), (0x29, .lpWait c), (0x2a, .lpReti c)],
      (x.br ≠ none ∨ x.rpt ≠ none) → AtOp s c.val oi.1 → ∃ t, exec oi.2 s = .next t ∧ Cut 2 c.val s t) ∧
    (∀ e : Ecc, ∀ oi ∈ [(0x00, Instr.lpNop c), (0x01, .lpAdd c), (0x12, .lpMac c), (0x16, .lpFtm c e e),
        (0x18, .lpLdh c e), (0x1c, .lpStw c), (0x24, .lpBr c), (0x28, .lpEnd c), (0x30, .lpEmit c), (0x33, .lpIow c)],
      (x.running = false ∨ x.waiting = true ∨ insF w 26 6 ≠ oi.1 → exec oi.2 s = .next s) ∧
      (x.running = true → x.waiting = false → insF w 26 6 = oi.1 → x.bud < x.cycles w →
        ∃ t, exec oi.2 s = .next t ∧ Cut 1 c.val s t))

/-- Items enter the queue of their core or are dropped, activations start, end on faults and budget, take interrupts and DMA as laid down. -/
def Obligations.LoupeActivations : Prop :=
  (∀ s : State, s.lpe.disp = [] → exec .loupeItemDispatch s = .next s) ∧
  (∀ (c : Fin 16) (it : LpeItem) (rest : List (Nat × LpeItem)) (s : State), s.lpe.disp = (c.val, it) :: rest →
    (s.core c.val).reload = false →
    let x := s.core c.val
    let size := (s.rd (Reg.LPE_QSIZE c.val)).toNat
    (x.fill + it.room ≤ size → 0 < size → ∃ t, exec .loupeItemDispatch s = .next t ∧ t.lpe.disp = rest ∧
      t.core c.val = { x with queue := x.queue ++ [(it, x.qTail)], qTail := (x.qTail + it.room) % size } ∧
      (∀ j, j < it.bytes.length →
        t.rdByte (coreDm c.val + (s.rd (Reg.LPE_QBASE c.val)).toNat + (x.qTail + j) % size) = nth it.bytes j 0) ∧
      (t.rd (Reg.LPE_QMAX c.val)).toNat = max (s.rd (Reg.LPE_QMAX c.val)).toNat (x.fill + it.room) ∧
      RegsBut [Reg.LPE_QMAX c.val] s t) ∧
    (size < x.fill + it.room → ∃ t, exec .loupeItemDispatch s = .next t ∧ t.lpe.disp = rest ∧
      (t.core c.val).queue = x.queue ∧ Reports t (0x1a0 + c.val) Err.LPE_QDROP ∧ IrqSet t (0x1a0 + c.val) 2 ∧
      (s.rd (Reg.LPE_QDROP c.val) ≠ 0xFFFFFFFF → t.rd (Reg.LPE_QDROP c.val) = s.rd (Reg.LPE_QDROP c.val) + 1) ∧
      SameBytes s t)) ∧
  (∀ (c : Fin 16) (s : State),
    let x := s.core c.val
    let per := (s.rd (Reg.LPE_TPER c.val)).toNat
    let e := s.sched.epoch.toNat
    let i := max x.tmrNext (ceilDiv (s.ltc.toNat - e) per)
    let on := s.coreLoaded c.val = true ∧ s.parked = false ∧ per ≠ 0 ∧ (s.rd (Reg.LPE_BUD_TMR c.val)).toNat % 2 ^ 24 ≠ 0
    (¬ on → exec (.loupeTimerItem c) s = .next s) ∧
    (on → x.reload = false → x.fill + 16 ≤ (s.rd (Reg.LPE_QSIZE c.val)).toNat → ∃ t it, exec (.loupeTimerItem c) s = .next t ∧
      (t.core c.val).queue = x.queue ++ [(it, x.qTail)] ∧ it.type = 3 ∧ it.bytes.length = 16 ∧ it.seq = x.tmrSeq ∧
      it.ref = BitVec.ofNat 64 (e + i * per) ∧ (t.core c.val).tmrNext = i + 1 ∧
      (t.core c.val).tmrSeq = (x.tmrSeq + 1) % 2 ^ 32 ∧ RegsBut [Reg.LPE_QMAX c.val] s t)) ∧
  (∀ (c : Fin 16) (s : State), let x := s.core c.val
    (s.syncing = false → s.coreLoaded c.val = false ∨ x.running = true → exec (.activationStart c) s = .next s) ∧
    (s.syncing = false → s.coreLoaded c.val = true → x.running = false → x.reload = false → x.g.length = 16 →
      (x.initDue = false → x.queue = [] → exec (.activationStart c) s = .next s) ∧
      (x.initDue = true ∨ x.queue ≠ [] → ∃ t, exec (.activationStart c) s = .next t ∧
        let y := t.core c.val
        y.running = true ∧ y.waiting = false ∧ y.ie = 0 ∧ y.ip = 0 ∧ y.tmr = 0 ∧ y.cyc = 0 ∧ y.startAt = s.ltc ∧
        y.pc = (s.rd (Reg.LPE_ENTRY c.val)).toNat % 2 ^ 14 ∧ y.initDue = false ∧ y.queue = x.queue ∧ y.acc = x.acc ∧
        y.ad = x.ad ∧ y.of_ = x.of_ ∧ y.md = x.md ∧ y.flg = x.flg ∧
        (∀ r, r = 0 ∨ 3 < r → nth y.g r 0 = nth x.g r 0) ∧
        (x.initDue = true → y.bud = 65536 ∧ y.item = none) ∧
        (∀ it off rest, x.initDue = false → x.queue = (it, off) :: rest → y.item = some it ∧
          nth y.g 1 0 = w32 ((s.rd (Reg.LPE_QBASE c.val)).toNat + off) ∧ nth y.g 2 0 = w32 it.bytes.length ∧
          nth y.g 3 0 = w32 it.type ∧
          y.bud = (s.rd (if it.type = 1 then Reg.LPE_BUD_ZONE c.val else if it.type = 2 then Reg.LPE_BUD_CHAN c.val
            else Reg.LPE_BUD_TMR c.val)).toNat % 2 ^ 24) ∧
        t.rd (Reg.LPE_ACTS c.val) = s.rd (Reg.LPE_ACTS c.val) + 1 ∧
        RegsBut [Reg.LPE_ACTS c.val, Reg.LPC_ACTS_ALL] s t ∧ SameBytes s t))) ∧
  (∀ (c : Fin 16) (s : State), let x := s.core c.val
    (x.running = true → x.bud = 0 ∨ x.waiting = true → ∃ t, exec (.budgetExpiry c) s = .next t ∧ Cut 1 c.val s t) ∧
    (x.running = false ∨ (x.bud ≠ 0 ∧ x.waiting = false) → exec (.budgetExpiry c) s = .next s)) ∧
  (∀ (c : Fin 16) (s : State), let x := s.core c.val
    let hit := ∃ b, b < 3 ∧ Nat.testBit x.ie b = true ∧ Nat.testBit x.ip b = true
    (∀ b, b < 3 → Nat.testBit x.ie b = true → Nat.testBit x.ip b = true →
      (∀ e, e < b → Nat.testBit x.ie e = false ∨ Nat.testBit x.ip e = false) →
      x.running = true → Nat.testBit x.ie 3 = true → x.br = none → x.rpt = none → x.loadSlot = false →
      ∃ t, exec (.interruptEntry c) s = .next t ∧ t.core c.val = { x with
        epc := x.pc, ie := x.ie % 8, pc := (s.rd (Reg.LPE_IVEC c.val)).toNat % 2 ^ 14, inIrq := true, waiting := false,
        irqAt := x.irqAt.filter (fun e => e.1 != b) } ∧
      (∀ n, x.irqAt.find? (fun e => e.1 == b) = some (b, n) → n ≤ x.cyc → x.cyc < 2 ^ 32 →
        (t.rd (Reg.LPE_LAT_MAX c.val)).toNat = max (s.rd (Reg.LPE_LAT_MAX c.val)).toNat (x.cyc - n)) ∧ RegsBut [Reg.LPE_LAT_MAX c.val] s t ∧ SameBytes s t) ∧
    (x.running = false ∨ ¬ hit ∨ Nat.testBit x.ie 3 = false ∨ x.br ≠ none ∨ x.rpt ≠ none ∨ x.loadSlot = true →
      exec (.interruptEntry c) s = .next s)) ∧
  (∀ (c : Fin 16) (n : Nat) (s : State), (s.core c.val).dma = none → exec (.dmaDone c n) s = .next s) ∧
  (∀ (c : Fin 16) (n src dst len : Nat) (s : State), (s.core c.val).dma = some (src, dst, len) →
    (s.core c.val).waiting = false →
    ∃ t, exec (.dmaDone c n) s = .next t ∧ (t.core c.val).dma = none ∧ (t.core c.val).dmaDone = true ∧
      ((s.core c.val).running = true → Nat.testBit (t.core c.val).ip 0 = true) ∧
      (∀ j, j < len → t.rdByte (dst + j) = s.rdByte (src + j)) ∧
      (∀ q, q < dst ∨ dst + len ≤ q → t.rdByte q = s.rdByte q) ∧ RegsBut [] s t) ∧
  (∀ (c : Fin 16) (s : State), let x := s.core c.val
    (x.running = true → x.waiting = true → x.tmr ≠ 0 → x.tmr < x.bud → ∃ t, exec (.tmrExpiry c) s = .next t ∧
      let y := t.core c.val
      y.tmr = 0 ∧ y.bud = x.bud - x.tmr ∧ y.cyc = (x.cyc + x.tmr) % 2 ^ 32 ∧ Nat.testBit y.ip 2 = true ∧
      y.waiting = !(Nat.testBit x.ie 2) ∧ y.pc = x.pc ∧ t = { s with lpe := t.lpe }) ∧
    (x.running = false ∨ x.waiting = false ∨ x.tmr = 0 ∨ x.bud < x.tmr → exec (.tmrExpiry c) s = .next s)) ∧
  (∀ (c : Fin 16) (s : State), let x := s.core c.val
    let op := insF (s.coreFetch c.val) 26 6
    (x.running = true → x.waiting = false → x.bud ≠ 0 →
      op = 0x17 ∨ (0x1d ≤ op ∧ op < 0x20) ∨ (0x2b ≤ op ∧ op < 0x30) ∨ 0x36 ≤ op →
      ∃ t, exec (.illegalInstruction c) s = .next t ∧ Cut 2 c.val s t) ∧
    (x.running = false ∨ x.waiting = true ∨ op < 0x17 → exec (.illegalInstruction c) s = .next s)) ∧
  (∀ (c : Fin 16) (e : Ecc) (s : State), let x := s.core c.val
    let w := s.coreFetch c.val
    (∀ q ∈ [(0x18, 2, Instr.lpLdh c e), (0x19, 2, .lpLdhu c e), (0x1a, 4, .lpLdw c e), (0x1b, 2, .lpSth c),
        (0x1c, 4, .lpStw c)],
      AtOp s c.val q.1 → s.accessFault c.val (x.memAt w) q.2.1 ≠ 0 →
      ∃ t, exec q.2.2 s = .next t ∧ Cut (s.accessFault c.val (x.memAt w) q.2.1) c.val s t) ∧
    (AtOp s c.val 0x30 → 16 ≤ x.events.length ∨ insF w 10 8 = 255 →
      ∃ t, exec (.lpEmit c) s = .next t ∧ Cut 5 c.val s t) ∧
    (AtOp s c.val 0x31 → x.dma ≠ none → ∃ t, exec (.lpDmov c) s = .next t ∧ Cut 6 c.val s t))

namespace Sys2Proof.Claims

open Sys2Proof.Machine

/-- A counter counts one event; past its last value it is open (R343). -/
def Counts (a : Nat) (s t : State) : Prop := s.rd a ≠ 0xFFFFFFFF → t.rd a = s.rd a + 1

/-- A frame as a port sends it: while VLAN.EN is 1 with the port's tag (R343). -/
def Tagged (s : State) (p : Nat) (o : Out) : List Out :=
  let v := s.rd (Reg.UL_VLAN p)
  (if v.get Fd.UL_VLAN_EN = 1 then [.vlan p (v.get Fd.UL_VLAN_PCP) (v.get Fd.UL_VLAN_VID)] else []) ++ [o]

/-- The next message of context `x` on its session `q`, as its port sends it to the session's host (R343, R347, R349,
R354). -/
def SessionMsg (s : State) (q : Session) (x type : Nat) (body : List Byte) : List Out :=
  let flags := b2n (s.ctxKey x).isSome
  let seq := (q.txSeq + 1) % 2 ^ 32
  Tagged s q.home (.slozon q.home x type flags q.number seq q.rxSeq s.nv.boot body
    (match s.ctxKey x with
     | some k => tag64 k (slzHeader type x flags body.length q.number seq q.rxSeq s.nv.boot ++ body)
     | none => []) ⟨nth q.macs q.home 0, q.ip, q.udp⟩)

/-- A lane whose RD_NO has returned to MARK_NO (R277); if that makes it non-empty its STALE time starts (R282). -/
def Rewound (s : State) (l : Lane) : Lane :=
  let r := { l with rd := l.mark }
  if l.depth = 0 ∧ r.depth ≠ 0 then { r with staleFrom := s.ltc } else r

/-- Nothing but registers, counts and the uplink's own state has changed. -/
def UplinkOnly (s t : State) : Prop :=
  t = { s with regs := t.regs, free := t.free, mnt := t.mnt, sessions := t.sessions, upl := t.upl, pai := t.pai, sent := t.sent }

end Sys2Proof.Claims

/-- A port counts, answers ARP and ping within its limit, drops what it must, keeps its quality level, and comes into service after one second. -/
def Obligations.UplinkPortFrames : Prop :=
  ∀ (p : Fin 2) (s : State), let rx := Reg.UL_RX_FRAMES p.val
    let own := if p = 0 then s.nv.macA else s.nv.macB
    (∃ t, exec (.pauseFrame p) s = .next t ∧ Counts rx s t ∧ Counts (Reg.UL_RX_PAUSE p.val) s t ∧ t.sent = s.sent ∧
      RegsBut [rx, Reg.UL_RX_PAUSE p.val] s t ∧ UplinkOnly s t) ∧
    (∀ why : FrameFault, let a := match why with
        | .fcs => Reg.UL_RX_FCS p.val | .vlan => Reg.UL_RX_VLAN p.val | .ipOptions => Reg.UL_RX_OPT p.val
        | .fragment => Reg.UL_RX_FRAG p.val | .slozonType | .malformed => Reg.SLZ_BAD_MSG
        | .tooLong | .ipChecksum | .udpChecksum | .udpPort | .etherType | .protocol | .ptpMessage => Reg.UL_RX_OTHER p.val
      ∃ t, exec (.rxFrameDropped p why) s = .next t ∧ Counts rx s t ∧ Counts a s t ∧ t.sent = s.sent ∧
        RegsBut [rx, a] s t ∧ UplinkOnly s t) ∧
    (∀ sm si ti : Nat, s.upl.probing = false → s.nv.ip ≠ 0 → ∃ t, exec (.arpRequest p sm si ti) s = .next t ∧
      t.sent = s.sent ++ (if ti = (s.rd Reg.SLZ_IP_ADDR).toNat
        then Tagged s p (.frame p.val 2 (leBytes 6 own ++ leBytes 6 sm ++ le4 si)) else []) ∧
      RegsBut [rx, Reg.UL_TX_FRAMES p.val] s t ∧ t.upl = s.upl ∧ UplinkOnly s t) ∧
    (∀ sm si ti : Nat, s.nv.ip = 0 → sm ≠ own →
      (si = if s.upl.probing then s.upl.candidate else (s.rd Reg.SLZ_IP_ADDR).toNat) →
      ∃ t, exec (.arpRequest p sm si ti) s = .next t ∧ Reports t 0x4A Err.UL_IP_CONFLICT ∧
        t.upl = { s.upl with probing := true, candidate := nextLinkLocal si } ∧
        t.sent = s.sent ++ Tagged s p (.frame p.val 3 (le4 (nextLinkLocal si))) ∧ t.rd Reg.SLZ_IP_ADDR = s.rd Reg.SLZ_IP_ADDR ∧
        UplinkOnly s t) ∧
    (s.upl.probing = true → ∃ t, exec .linkLocalProbeEnd s = .next t ∧ t.rd Reg.SLZ_IP_ADDR = w32 s.upl.candidate ∧
      t.upl = { s.upl with probing := false } ∧ RegsBut [Reg.SLZ_IP_ADDR] s t ∧ UplinkOnly s t ∧ t.sent = s.sent) ∧
    (s.upl.probing = false → exec .linkLocalProbeEnd s = .next s) ∧
    (∀ (mac : Nat) (pay : List Byte), let fresh := tickS ≤ s.ltc.toNat - s.upl.icmpAt.toNat ∨ s.upl.icmpN = 0
      ∃ t, exec (.icmpEchoRequest p mac pay) s = .next t ∧ Counts rx s t ∧
        RegsBut [rx, Reg.UL_TX_FRAMES p.val] s t ∧ UplinkOnly s t ∧
        (s.hears p.val = false ∨ (¬ fresh ∧ 1000 ≤ s.upl.icmpN) → t.sent = s.sent ∧ t.upl = s.upl) ∧
        (s.hears p.val = true → fresh ∨ s.upl.icmpN < 1000 →
          t.sent = s.sent ++ Tagged s p (.frame p.val 4 (leBytes 6 mac ++ pay))) ∧
        (s.hears p.val = true → fresh → t.upl.icmpN = 1 ∧ t.upl.icmpAt = s.ltc) ∧
        (s.hears p.val = true → ¬ fresh → s.upl.icmpN < 1000 → t.upl.icmpN = s.upl.icmpN + 1 ∧ t.upl.icmpAt = s.upl.icmpAt)) ∧
    (∀ lv : Fin 16, ∃ t, exec (.esmcPdu p lv) s = .next t ∧ t.rd (Reg.UL_SSM p.val) = w32 (lv.val + 16) ∧
      t.upl = { s.upl with ssmAt := setAt s.upl.ssmAt p.val s.ltc } ∧ t.sent = s.sent ∧ UplinkOnly s t ∧
      (s.rd (Reg.UL_SSM p.val) = w32 (lv.val + 16) → RegsBut [rx] s t) ∧
      (s.rd (Reg.UL_SSM p.val) ≠ w32 (lv.val + 16) → IrqSet t (0x48 + p.val) 2)) ∧
    (let old := s.flag (Reg.UL_SSM p.val) Fd.UL_SSM_VALID = true ∧
        5 * tickS ≤ s.ltc.toNat - (nth s.upl.ssmAt p.val 0).toNat
     (¬ old → exec (.ssmExpiry p) s = .next s) ∧
     (old → ∃ t, exec (.ssmExpiry p) s = .next t ∧ t.flag (Reg.UL_SSM p.val) Fd.UL_SSM_VALID = false ∧
        t.rf (Reg.UL_SSM p.val) ⟨0, 4⟩ = s.rf (Reg.UL_SSM p.val) ⟨0, 4⟩ ∧ IrqSet t (0x48 + p.val) 2 ∧
        RegsBut [Reg.UL_SSM p.val, Reg.HDR_IRQ_RAW (0x48 + p.val), Reg.HDR_SEQ (0x48 + p.val)] s t)) ∧
    (let ready (t0 : Time) : Prop := s.inService p.val = false ∧ s.portReady p.val = true ∧
        tickS ≤ s.ltc.toNat - t0.toNat
     (∀ t0, nth s.upl.holdFrom p.val none = some t0 → ready t0 → s.role < 2 → ∃ t, exec (.portInService p) s = .next t ∧
        t.inService p.val = true ∧ t.inService (1 - p.val) = s.inService (1 - p.val) ∧ IrqSet t (0x48 + p.val) 1 ∧
        t.upl.next.map (·.1) = some (s.inService (1 - p.val)) ∧
        t.sent = s.sent ++ Tagged s p (if s.upl.probing then .frame p.val 3 (le4 s.upl.candidate)
          else .frame p.val 1 (wordBytes (s.rd Reg.SLZ_IP_ADDR))) ∧
        RegsBut [Reg.UL_STAT p.val, Reg.HDR_IRQ_RAW (0x48 + p.val), Reg.HDR_SEQ (0x48 + p.val), Reg.UL_TX_FRAMES p.val] s t ∧
        UplinkOnly s t) ∧
     (nth s.upl.holdFrom p.val none = none → exec (.portInService p) s = .next s) ∧
     (∀ t0, nth s.upl.holdFrom p.val none = some t0 → ¬ ready t0 → exec (.portInService p) s = .next s))

/-- Sessions open, renew, gain credit, close and expire; wrong or repeated messages only count; notices go out once and again. -/
def Obligations.SessionsAndNotices : Prop :=
  (∀ (m : SlzMsg) (s : State), s.hears m.port.val = true → slzLayoutOk m (fun b => b.length == 4) = true →
    m.session = 0 → m.boot = 0 → s.authOk 0x01 m = true →
    (m.ctx ≠ s.mgmtCtx → s.session m.ctx = none → ∃ t q, exec (.sessOpen m) s = .next t ∧ t.session m.ctx = some q ∧
      q.number = s.sessNo + 1 ∧ q.ip = m.ip ∧ q.udp = m.udp ∧ q.home = m.port.val ∧ q.limit = w32 (fieldAt m.body 0 4) ∧
      q.rxSeq = m.seq ∧ q.lastRx = s.ltc ∧ q.sending = [] ∧ t.sessNo = s.sessNo + 1 ∧ IrqSet t 0x4A 0 ∧
      q.macs = [m.mac, m.mac] ∧ t.sent = s.sent ++ SessionMsg s { q with txSeq := 0 } m.ctx 0x81 s.openAck ∧
      t.lanes = s.lanes) ∧
    (m.ctx = s.mgmtCtx → ∃ t, exec (.sessOpen m) s = .next t ∧ t.sessions = s.sessions ∧ t.sessNo = s.sessNo)) ∧
  (∀ (m : SlzMsg) (q : Session) (s : State), s.session m.ctx = some q →
    (Accepted s 0x03 m (fun b => b.length == 0) → ∃ t, exec (.sessKeepalive m) s = .next t ∧ t.sent = s.sent ∧
      t.session m.ctx = some { heardBy s m q with answers := ((m.seq, 0, []) :: q.answers).take 16 } ∧
      (∀ x, x ≠ m.ctx → t.session x = s.session x) ∧ RegsBut [Reg.UL_RX_FRAMES m.port.val] s t) ∧
    (Accepted s 0x04 m (fun b => b.length == 4) → ∃ t q1, exec (.sessCredit m) s = .next t ∧ t.session m.ctx = some q1 ∧
      q1.limit = (if 0 < tsDiff (w32 (fieldAt m.body 0 4)) q.limit then w32 (fieldAt m.body 0 4) else q.limit) ∧
      q1.rxSeq = m.seq ∧ q1.sentBytes = q.sentBytes ∧ q1.sending = q.sending ∧ t.sent = s.sent ∧
      (∀ x, x ≠ m.ctx → t.session x = s.session x) ∧ RegsBut [Reg.UL_RX_FRAMES m.port.val] s t) ∧
    (Accepted s 0x02 m (fun b => b.length == 0) → ∃ t, exec (.sessClose m) s = .next t ∧ t.session m.ctx = none ∧
      t.sent = s.sent ++ SessionMsg s (heardBy s m q) m.ctx 0x82 [] ∧ IrqSet t 0x4A 0 ∧
      (∀ sp L, sp < 64 → L < 4 → t.lane (4 * sp + L) =
        if s.spoolReadable sp = true ∧ s.rf (Reg.SPLN_CFG sp) Fd.SPLN_CFG_CTX = m.ctx
        then Rewound s (s.lane (4 * sp + L)) else s.lane (4 * sp + L)) ∧ SameBytes s t) ∧
    (s.hears m.port.val = true → slzLayoutOk m (fun b => b.length == 0) = true → s.authOk 0x03 m = false →
      ∃ t, exec (.sessKeepalive m) s = .next t ∧ Counts Reg.SLZ_AUTH_FAIL s t ∧ Reports t 0x4A Err.SLZ_AUTH ∧
        (t.session m.ctx).map Session.rxSeq = some q.rxSeq ∧ t.sent = s.sent) ∧
    (s.hears m.port.val = true → slzLayoutOk m (fun b => b.length == 0) = true → s.authOk 0x03 m = true →
      m.session = q.number → m.boot = s.nv.boot → m.ip = q.ip → m.udp = q.udp → m.seq ≤ q.rxSeq →
      q.answers.find? (fun a => a.1 == m.seq) = none →
      ∃ t, exec (.sessKeepalive m) s = .next t ∧ Counts Reg.SLZ_REPLAY s t ∧ t.sessions = s.sessions ∧ t.sent = s.sent ∧
        RegsBut [Reg.UL_RX_FRAMES m.port.val, Reg.SLZ_REPLAY] s t)) ∧
  (∀ (x : Fin 4) (page : Nat) (s : State), s.session x.val = none →
    ∀ c ∈ [Instr.keepaliveSend x, .sessionExpiry x, .noticeSend x page, .noticeHoldExpiry x page, .noticeRepeat x],
      exec c s = .next s) ∧
  (∀ (x : Fin 4) (q : Session) (s : State), s.session x.val = some q →
    let limit := s.rf Reg.SLZ_CFG Fd.SLZ_CFG_SESS_TO * tickMs
    (4 * (s.ltc.toNat - q.lastTx.toNat) < limit → exec (.keepaliveSend x) s = .next s) ∧
    (limit ≤ 4 * (s.ltc.toNat - q.lastTx.toNat) → ∃ t, exec (.keepaliveSend x) s = .next t ∧ t.sent = s.sent ++ SessionMsg s q x.val 0x03 [] ∧
      t.session x.val = some { q with txSeq := (q.txSeq + 1) % 2 ^ 32, lastTx := s.ltc } ∧
      RegsBut [Reg.UL_TX_FRAMES q.home] s t) ∧
    (s.ltc.toNat - q.lastRx.toNat < limit → exec (.sessionExpiry x) s = .next s) ∧
    (limit ≤ s.ltc.toNat - q.lastRx.toNat → ∃ t, exec (.sessionExpiry x) s = .next t ∧ t.session x.val = none ∧
      Counts Reg.SLZ_SESS_EXP s t ∧ Reports t 0x4A Err.SLZ_SESS_EXPIRED ∧ IrqSet t 0x4A 0 ∧
      RegsBut (Reg.SLZ_SESS_EXP :: eventRegs 0x4A) s t ∧ t.sent = s.sent) ∧
    (∀ page : Nat,
      let sends (c : Instr) : Prop := ∃ t body q1, exec c s = .next t ∧
        t.sent = s.sent ++ SessionMsg s q x.val 0xC0 body ∧ t.session x.val = some q1 ∧ q1.noticeNo = q.noticeNo + 1 ∧
        q1.notices = q.notices ++ [⟨q.noticeNo + 1, page, body, s.ltc⟩] ∧ q1.due = q.due.filter (fun d => d.1 != page) ∧
        body = le4 (q.noticeNo + 1) ++ le2 page ++ le2 (s.rd (Reg.HDR_ERR_CODE page)).toNat ++
          wordBytes (s.rd (Reg.HDR_IRQ_RAW page)) ++ wordBytes (s.rd (Reg.HDR_SEQ page)) ∧
        RegsBut [Reg.UL_TX_FRAMES q.home] s t
      ((page, none) ∈ q.due → sends (.noticeSend x page)) ∧
      ((page, none) ∉ q.due → exec (.noticeSend x page) s = .next s) ∧
      ((∃ d : Time, (page, some d) ∈ q.due ∧ d.toNat ≤ s.ltc.toNat) → sends (.noticeHoldExpiry x page)) ∧
      (¬ (∃ d : Time, (page, some d) ∈ q.due ∧ d.toNat ≤ s.ltc.toNat) → exec (.noticeHoldExpiry x page) s = .next s)) ∧
    (∃ t, exec (.noticeRepeat x) s = .next t ∧ t.sent.length = s.sent.length +
        (q.notices.filter (fun n => decide (100 * tickMs ≤ s.ltc.toNat - n.sentAt.toNat))).length *
          (1 + s.rf (Reg.UL_VLAN q.home) Fd.UL_VLAN_EN) ∧
      (t.session x.val).map Session.noticeNo = some q.noticeNo ∧ RegsBut [Reg.UL_TX_FRAMES q.home] s t))

/-- A SPOOL_OP message pops or moves the named lane and is answered with its status; ITEM_SEND sends the next chunk of the spool whose turn it is. -/
def Obligations.SpoolDeliveryToHosts : Prop :=
  (∀ (op : Nat) (c : SlzMsg → Instr) (m : SlzMsg) (q : Session) (s : State),
    (op = 1 ∧ c = (fun m => .spoolOpPop m [.clean]) ∨ op = 2 ∧ c = .spoolOpMark ∨ op = 3 ∧ c = .spoolOpRewind ∨
      op = 4 ∧ c = .spoolOpReleaseMark ∨ op = 5 ∧ c = .spoolOpReleaseRead) →
    Accepted s 0x20 m (fun b => b.length == 4 && byteAt b 1 == op) → s.session m.ctx = some q → s.role = 0 →
    let sp := byteAt m.body 0
    let L := byteAt m.body 2 % 4
    let k := 4 * sp + L
    let l := s.lane k
    let answers (t : State) (st n : Nat) : Prop :=
      t.sent = s.sent ++ SessionMsg s (heardBy s m q) m.ctx 0xA1 (by1 sp ++ by1 op ++ by1 st ++ by1 n)
    let fresh (l1 : Lane) : Lane := if l.depth = 0 ∧ l1.depth ≠ 0 then { l1 with staleFrom := s.ltc } else l1
    sp < 64 → byteAt m.body 2 = (if op = 1 then 8 + L else L) → (op = 1 → byteAt m.body 3 = 1) →
    s.spoolReadable sp = true →
    (s.rf (Reg.SPLN_CFG sp) Fd.SPLN_CFG_CTX ≠ m.ctx → ∃ t, exec (c m) s = .next t ∧ answers t 4 0 ∧
      Reports t 0x38 Err.SPL_NOT_OWNER ∧ t.lanes = s.lanes) ∧
    (s.rf (Reg.SPLN_CFG sp) Fd.SPLN_CFG_CTX = m.ctx →
      (2 ≤ op → l.retired = false → ∃ t, exec (c m) s = .next t ∧ answers t 0 0 ∧
        t.lane k = fresh (if op = 2 then { l with mark := l.rd } else if op = 3 then { l with rd := l.mark }
          else if op = 4 then { l with items := l.items.drop (l.mark - l.rel), rel := max l.rel l.mark, rd := max l.rd l.mark }
          else { l with mark := l.rd, items := l.items.drop (l.rd - l.rel), rel := max l.rel l.rd }) ∧
        (∀ j, j ≠ k → t.lane j = s.lane j) ∧ SameBytes s t) ∧
      (op = 1 → s.flag (Reg.SPLN_CFG sp) Fd.SPLN_CFG_PUSH = false → l.unread = [] →
        ∃ t, exec (c m) s = .next t ∧ answers t 0 0 ∧ t.lanes = s.lanes) ∧
      (op = 1 → s.flag (Reg.SPLN_CFG sp) Fd.SPLN_CFG_PUSH = false →
        s.flag (Reg.SPLN_CFG sp) Fd.SPLN_CFG_REL_ON_READ = false → ∀ it rest, l.unread = it :: rest →
        q.creditFor (q.queued (s.maxChunk m.port.val) + itemCost (s.maxChunk m.port.val) (it.delivered k).length) = true →
        ∃ t q1, exec (c m) s = .next t ∧ answers t 0 1 ∧
          t.lane k = { l with rd := l.rd + 1, stale := false, staleFrom := s.ltc } ∧ (∀ j, j ≠ k → t.lane j = s.lane j) ∧
          t.session m.ctx = some q1 ∧ q1.sending = q.sending ++ [⟨sp, L, it.delivered k, 0⟩] ∧ SameBytes s t))) ∧
  (∀ (p : Fin 2) (e : Ecc) (s : State), s.inService p.val = false ∨ 2 ≤ s.role → exec (.itemSend p e) s = .next s) ∧
  (∀ (p : Fin 2) (e : Ecc) (s : State), s.inService p.val = true → s.role < 2 →
    ((∀ sp, sp < 64 → s.servable p.val sp = false) → ∃ t, exec (.itemSend p e) s = .next t ∧ t.sent = s.sent ∧
      t.lanes = s.lanes ∧ t.sessions = s.sessions ∧ RegsBut [] s t) ∧
    ((∃ sp, sp < 64 ∧ s.servable p.val sp = true) → ∃ t sp q q1, exec (.itemSend p e) s = .next t ∧ sp < 64 ∧
      s.servable p.val sp = true ∧
      (∀ j, j < 64 → s.servable p.val j = true → 0 < s.growAllow.allowance j →
        0 < s.growAllow.allowance sp ∧ sp ≤ j) ∧
      (s.growAllow.allowance sp ≤ 0 → ∀ j, j < 64 → s.servable p.val j = true → sp ≤ j) ∧
      s.session (s.rf (Reg.SPLN_CFG sp) Fd.SPLN_CFG_CTX) = some q ∧
      t.session (s.rf (Reg.SPLN_CFG sp) Fd.SPLN_CFG_CTX) = some q1 ∧ q.sentBytes < q1.sentBytes ∧
      t.sent.length = s.sent.length + 1 + s.rf (Reg.UL_VLAN p.val) Fd.UL_VLAN_EN ∧ SameBytes s t))

/-- Sync and Follow_Up of the selected master are taken, an exchange gives offset and delay, eight that agree lock, RATE stays in its limit. -/
def Obligations.WallTimeFollowsTheMaster : Prop :=
  (∀ (m : PtpHead) (ip origin arr : Nat) (corr : Int) (two : Bool) (s : State),
    ∃ t, exec (.ptpSync m ip origin corr arr two) s = .next t ∧ Counts (Reg.UL_RX_FRAMES m.port.val) s t ∧
      RegsBut [Reg.UL_RX_FRAMES m.port.val] s t ∧ t = { s with regs := t.regs, free := t.free, mnt := t.mnt, tim := t.tim } ∧
      t.tim = (if s.fromMaster m = true then { s.tim with
        sync := some ⟨m.seq, if two then none else some (65536 * origin + corr), corr, arr, ip⟩ } else s.tim)) ∧
  (∀ (m : PtpHead) (origin : Nat) (corr : Int) (y : SyncStamp) (s : State), s.tim.sync = some y →
    ∃ t, exec (.ptpFollowUp m origin corr) s = .next t ∧ Counts (Reg.UL_RX_FRAMES m.port.val) s t ∧
      RegsBut [Reg.UL_RX_FRAMES m.port.val] s t ∧ t = { s with regs := t.regs, free := t.free, mnt := t.mnt, tim := t.tim } ∧
      t.tim = (if s.fromMaster m = true ∧ y.seq = m.seq ∧ y.t1 = none then { s.tim with
        sync := some { y with t1 := some (65536 * origin + corr + y.corr) } } else s.tim)) ∧
  (∀ (t3 : Nat) (o : Master) (y : SyncStamp) (s : State), s.tim.sel = some o → s.tim.sync = some y →
    let wait := ∃ a, s.tim.reqAt = some a ∧ s.ltc.toNat - a.toNat < s.reqInterval
    (wait → exec (.delayReqSend t3) s = .next s) ∧
    (¬ wait → ∃ t, exec (.delayReqSend t3) s = .next t ∧
      t.tim.req = some ((s.tim.reqSeq + 1) % 65536, t3, s.ltc) ∧ t.tim.reqAt = some s.ltc ∧
      t.sent = s.sent ++ Tagged s o.ann.port (.frame o.ann.port.val 5 (le4 y.ip ++ le2 ((s.tim.reqSeq + 1) % 65536))) ∧
      RegsBut [Reg.UL_TX_FRAMES o.ann.port.val] s t)) ∧
  (∀ (n t3 : Nat) (a : Time) (s : State), s.tim.req = some (n, t3, a) →
    (s.ltc.toNat - a.toNat < tickS → exec .delayRespMiss s = .next s) ∧
    (tickS ≤ s.ltc.toNat - a.toNat → ∃ t, exec .delayRespMiss s = .next t ∧ t.tim = { s.tim with req := none } ∧
      Counts Reg.TIM_DRESP_MISS s t ∧ RegsBut [Reg.TIM_DRESP_MISS] s t)) ∧
  (∀ (m : PtpHead) (got t3 : Nat) (corr iv t1 : Int) (a : Time) (y : SyncStamp) (s : State), s.tim.sync = some y →
    s.tim.req = some (m.seq, t3, a) → y.t1 = some t1 → s.fromMaster m = true → s.role = 0 →
    let mpd := ((s.tai16 y.t2 - t1 * 2 ^ 28) + ((65536 * (got : Int) - corr) * 2 ^ 28 - s.tai16 t3)) / 2
    let off := s.tai16 y.t2 - t1 * 2 ^ 28 - mpd - signed 32 (s.rd Reg.TIM_ASYM).toNat * 2 ^ 44
    let pend := s.flag Reg.TIM_STAT Fd.TIM_STAT_RESTEP_PEND
    let offs := (roundShr off 44 :: s.tim.offs).take 8
    let agree := offs.length = 8 ∧ ∀ a ∈ offs, ∀ b ∈ offs, (a - b).natAbs ≤ 1000
    ∃ t, exec (.ptpDelayResp m got corr iv) s = .next t ∧ t.tim.req = none ∧ t.tim.reqLog = iv ∧
      t.rd Reg.TIM_OFFSET = w32 (unsigned 32 (satS 32 (roundShr off 44))) ∧
      t.rd Reg.TIM_MPD = w32 (unsigned 32 (satS 32 (roundShr mpd 44))) ∧
      (s.timState ≠ 0 → pend = false →
        RegsBut [Reg.UL_RX_FRAMES m.port.val, Reg.TIM_OFFSET, Reg.TIM_MPD] s t) ∧
      (s.timState ≠ 0 → pend = true → t.rd64 Reg.TIM_L0_LO Reg.TIM_L0_HI = s.ltc.toNat ∧
        t.rd64 Reg.TIM_T0_LO Reg.TIM_T0_HI = unsigned 64 (floorShr (s.tai16 (16 * s.ltc.toNat) - off) 44) ∧
        t.flag Reg.TIM_STAT Fd.TIM_STAT_RESTEP_PEND = false ∧ Reports t 0x7 Err.TIM_STEP ∧ IrqSet t 0x7 2 ∧
        t.rd Reg.TIM_MAP_NO = s.rd Reg.TIM_MAP_NO + 1) ∧
      (s.timState = 0 → agree → t.timState = 1 ∧
        t.rd64 Reg.TIM_L0_LO Reg.TIM_L0_HI = s.ltc.toNat ∧ t.rd64 Reg.TIM_RATE_LO Reg.TIM_RATE_HI = 0xF83E0F83E1 ∧
        t.rd64 Reg.TIM_T0_LO Reg.TIM_T0_HI = unsigned 64 (floorShr (s.tai16 (16 * s.ltc.toNat) - off) 44) ∧
        IrqSet t 0x7 0 ∧ IrqSet t 0x7 1 ∧ IrqSet t 0x7 2) ∧
      (s.timState = 0 → ¬ agree → t.timState = 0 ∧ t.tim.offs = offs ∧
        RegsBut [Reg.UL_RX_FRAMES m.port.val, Reg.TIM_OFFSET, Reg.TIM_MPD] s t)) ∧
  (∀ (a : Announce) (s : State), a.domain ≠ s.rf Reg.TIM_CFG Fd.TIM_CFG_DOMAIN →
    ∃ t, exec (.ptpAnnounce a) s = .next t ∧ t.tim = s.tim ∧ RegsBut [Reg.UL_RX_FRAMES a.port.val] s t) ∧
  (∀ (a : Announce) (s : State), a.domain = s.rf Reg.TIM_CFG Fd.TIM_CFG_DOMAIN → s.tim.masters = [] → s.tim.sel = none →
    s.inService a.port.val = true → s.ptpPortOk a.port.val = true → a.gm < 2 ^ 64 →
    s.annExpired ⟨a, s.ltc⟩ = false →
    ∃ t, exec (.ptpAnnounce a) s = .next t ∧ t.tim.sel = some ⟨a, s.ltc⟩ ∧ t.tim.utc = a.utc ∧
      t.rd64 Reg.TIM_GM_ID_LO Reg.TIM_GM_ID_HI = a.gm ∧ t.flag Reg.TIM_STAT Fd.TIM_STAT_MASTER = true ∧
      t.rf Reg.TIM_STAT Fd.TIM_STAT_PORT = a.port.val ∧ t.flag (Reg.UL_STAT a.port.val) Fd.UL_STAT_PTP = true ∧
      t.timState = if s.timState = 2 then 1 else s.timState) ∧
  (∀ (o : Master) (s : State), s.tim.sel = some o →
    ((∃ m ∈ s.tim.masters, m.ann.src = o.ann.src ∧ m.ann.port = o.ann.port ∧ s.annExpired m = false) →
      exec .announceTimeout s = .next s) ∧
    ((∀ m ∈ s.tim.masters, s.annExpired m = true) → ∃ t, exec .announceTimeout s = .next t ∧ t.tim.sel = none ∧
      Counts Reg.TIM_ANN_LOSS s t ∧ t.flag Reg.TIM_STAT Fd.TIM_STAT_MASTER = false ∧ Reports t 0x7 Err.TIM_ANN_LOSS ∧
      t.timState = if s.timState = 1 then 2 else s.timState)) ∧
  (∀ (ratio : Nat) (s : State),
    let due := s.timState = 1 ∧ s.rf Reg.TIM_UPD Fd.TIM_UPD_UPD_MS * tickMs ≤ s.ltc.toNat - s.tim.updAt.toNat ∧
      s.role ≠ 2 ∧ s.sys.restarting = false
    let lim := ratio * s.rf Reg.TIM_CFG Fd.TIM_CFG_SLEW_MAX / 1000000
    (¬ due → exec (.mappingUpdate ratio) s = .next s) ∧
    (due → s.mainBoundary = 0 → ratio + lim < 2 ^ 64 → ∃ t, exec (.mappingUpdate ratio) s = .next t ∧
      t.rd64 Reg.TIM_L0_LO Reg.TIM_L0_HI = s.ltc.toNat ∧
      t.rd64 Reg.TIM_T0_LO Reg.TIM_T0_HI = unsigned 64 (floorShr (s.tai16 (16 * s.ltc.toNat)) 44) ∧
      ratio - lim ≤ t.rd64 Reg.TIM_RATE_LO Reg.TIM_RATE_HI ∧ t.rd64 Reg.TIM_RATE_LO Reg.TIM_RATE_HI ≤ ratio + lim ∧
      t.rd Reg.TIM_MAP_NO = s.rd Reg.TIM_MAP_NO + 1 ∧ IrqSet t 0x7 0) ∧
    (due → s.mainBoundary ≠ 0 → ∃ t n, exec (.mappingUpdate ratio) s = .next t ∧ t.tim.next = some n ∧ n.step = none ∧
      ratio - lim ≤ n.rate ∧ n.rate ≤ ratio + lim ∧ n.notBefore = s.changeFrom ∧ RegsBut [] s t ∧ SameBytes s t)) ∧
  (∀ (x : Fin 4) (s : State),
    (x.val ≠ 0 → ∃ t, exec (.timRestep x) s = .next t ∧ Reports t 0x7 Err.TIM_OWNER ∧ RegsBut (eventRegs 0x7) s t ∧
      t = { s with regs := t.regs, sessions := t.sessions }) ∧
    (x = 0 → s.timState = 0 → exec (.timRestep x) s = .next s) ∧
    (x = 0 → s.timState ≠ 0 → exec (.timRestep x) s = .next (s.wf Reg.TIM_STAT Fd.TIM_STAT_RESTEP_PEND 1)))

namespace Sys2Proof.Claims

open Sys2Proof.Machine

/-- A message arrives on a tether lane of a hub of a pair that has block lock there (R386). -/
def Heard (s : State) (i : Fin 2) : Prop := s.isPair = true ∧ (s.tlane i.val).block = true

/-- The same on a trained lane, on a standby that shadows (R388, R398). -/
def Shadowed (s : State) (i : Fin 2) : Prop := Heard s i ∧ (s.tlane i.val).up = true ∧ s.shadows = true

end Sys2Proof.Claims

/-- Heartbeats train the tether and settle the roles; four lost on both paths make the standby take over, a claim deposes the old active hub. -/
def Obligations.TetherRolesAndTakeover : Prop :=
  (∀ (i : Fin 2) (s : State),
    let go : Prop := s.isPair = true ∧ s.laneOut (i.val + 2) = false ∧
      s.flag (Reg.LN_STAT (i.val + 2)) Fd.LN_STAT_CDR_LOCK = true ∧ (s.tlane i.val).block = false
    (go → exec (.tetherBlockLock i) s = .next (s.setTlane i.val { TethLane.init with block := true })) ∧
    (¬ go → exec (.tetherBlockLock i) s = .next s)) ∧
  (∀ s : State, (s.isPair = false ∨ s.pai.silent = true → exec .hbSend s = .next s) ∧
    (s.isPair = true → s.pai.silent = false → s.inHoldover = false → ∃ t, exec .hbSend s = .next t ∧ RegsBut [] s t ∧
      t.sent.length = s.sent.length + b2n (s.tlane 0).block + b2n (s.tlane 1).block + 1 ∧
      t.sent.getLast? = some (.pin 3 1 s.ltc) ∧
      (∀ i : Fin 2, (s.tlane i.val).block = true → ∃ n, .tether i.val 1 n (.hb (s.hbOf i.val)) ∈ t.sent))) ∧
  (∀ (i : Fin 2) (hb : HbMsg) (s : State), Heard s i →
    (∃ t, exec (.tetherHb i false hb) s = .next t ∧ Counts Reg.TTH_MSG_ERR s t ∧ RegsBut [Reg.TTH_MSG_ERR] s t ∧
      t.pai = (s.setTlane i.val { s.tlane i.val with run := 0 }).pai) ∧
    ((s.tlane i.val).up = true → s.pai.lanes.length = 2 → s.role = 1 → s.syncState = 3 → hb.role = 2 → hb.sync = 3 →
      hb.ask = false → ∃ t, exec (.tetherHb i true hb) s = .next t ∧ t.role = 1 ∧ t.syncState = 3 ∧ t.pai.acked = hb.ack ∧
        t.pai.held = s.pai.held.filter (fun h => decide (hb.ack < h.no)) ∧ t.pai.tMiss = 0 ∧
        (t.tlane i.val).miss = 0 ∧ (t.tlane i.val).arr = s.ltc ∧ t.rf Reg.PAI_STAT Fd.PAI_STAT_PARTNER_ROLE = 2) ∧
    (∀ e : Time, (s.tlane i.val).up = false → (s.tlane (1 - i.val)).up = false → s.pai.lanes.length = 2 → s.tthState = 1 →
      s.role = 0 → s.syncState = 0 → (s.tlane i.val).serial = hb.serial → 15 ≤ (s.tlane i.val).run → hb.echo = some e →
      (s.ltc.toNat - e.toNat - hb.hold) / 2 ≤ 2063 → hb.role = 4 → hb.since = 0 →
      hb.pref = s.flag Reg.PAI_CFG Fd.PAI_CFG_PREF → hb.serial < 2 ^ 64 →
      ∃ t, exec (.tetherHb i true hb) s = .next t ∧ (t.tlane i.val).up = true ∧ t.tthState = 3 ∧ IrqSet t 0x4c 2 ∧
        t.rd64 Reg.PAI_PARTNER_SN_LO Reg.PAI_PARTNER_SN_HI = hb.serial ∧
        t.rd Reg.TTH_DELAY = w32 ((s.ltc.toNat - e.toNat - hb.hold) / 2) ∧
        (s.nv.serial < hb.serial → t.role = 1 ∧ t.pai.since = s.ltc) ∧
        (hb.serial ≤ s.nv.serial → t.role = 2 ∧ t.syncState = 1 ∧ t.pai.since = 0))) ∧
  (∀ s : State, s.isPair = false → exec .pairHbBeat s = .next s) ∧
  (∀ s : State, s.isPair = true →
    (s.pai.tMiss < 4 → exec .pairHbBeat s = .next { s with pai := { s.pai with pMiss := 0 } }) ∧
    (4 ≤ s.pai.tMiss → s.anyLane = false → 2 ≤ s.tthState → s.pai.down = false → s.role = 1 ∨ s.role = 2 →
      ∃ t, exec .pairHbBeat s = .next t ∧ t.tthState = 4 ∧ t.syncState = 0 ∧ t.role = s.role ∧
        Reports t 0x4c Err.TTH_DOWN ∧ IrqSet t 0x4c 0 ∧ t.pai.down = true ∧ t.pai.pMiss = 0)) ∧
  (∀ (a b c : Bool) (s : State), ShbOk s → s.isPair = false ∨ s.tthState < 2 → exec (.heartbeatMiss a b c) s = .next s) ∧
  (∀ s : State, ShbOk s → s.isPair = true → 2 ≤ s.tthState → s.pai.lanes.length = 2 →
    (s.role = 2 → s.syncState ≠ 0 → s.pai.tMiss = 3 → s.pai.pMiss = 3 →
      ∃ t, exec (.heartbeatMiss true true true) s = .next t ∧ t.role = 1 ∧ t.syncState = 0 ∧ t.pai.since = s.ltc ∧
        t.pai.quietTo = s.ltc + 16245 ∧ t.rd64 Reg.PAI_LAST_TO_LO Reg.PAI_LAST_TO_HI = s.ltc.toNat ∧
        Counts Reg.PAI_TAKEOVERS s t ∧ Reports t 0x4d Err.PAI_TAKEOVER ∧ IrqSet t 0x4d 0) ∧
    (s.pai.tMiss = 0 → s.pai.pMiss = 3 → (s.tlane 0).up = true → ∃ t, exec (.heartbeatMiss false false true) s = .next t ∧
      Reports t 0x4d Err.PAI_HB_LOST ∧ t.role = s.role ∧ t.syncState = s.syncState ∧ t.pai.pMiss = 4 ∧
      RegsBut (Reg.TTH_PHB_MISS :: eventRegs 0x4d) s t)) ∧
  (∀ s : State, ShbOk s →
    let out : Prop := s.isPair = true ∧ s.anyLane = false
    (¬ (out ∧ s.tthState = 1) → exec .tetherTrainTimeout s = .next s) ∧
    (out → s.tthState = 1 → ∃ t, exec .tetherTrainTimeout s = .next t ∧ t.tthState = 0 ∧ Counts Reg.TTH_TRAIN_FAIL s t ∧
      Reports t 0x4c Err.TTH_TRAIN ∧ t.role = if s.pai.settled then s.role else 1) ∧
    (¬ (out ∧ s.tthState = 0) → exec .tetherTrainRetry s = .next s) ∧
    (out → s.tthState = 0 → s.pai.lanes.length = 2 → ∃ t, exec .tetherTrainRetry s = .next t ∧ t.tthState = 1 ∧
      (∀ i, i < 2 → t.tlane i = { s.tlane i with run := 0, echoed := false }) ∧ RegsBut [Reg.TTH_STAT] s t)) ∧
  (∀ s : State, (s.pai.claimTo = none → exec .claimSend s = .next s) ∧
    (∀ e : Time, s.pai.claimTo = some e →
      (e.toNat < s.ltc.toNat → exec .claimSend s = .next { s with pai := { s.pai with claimTo := none } }) ∧
      (s.ltc.toNat ≤ e.toNat → ∃ t, exec .claimSend s = .next t ∧ t.pai = s.pai ∧
        t.sent.length = s.sent.length + b2n (s.inService 0) * (1 + s.rf (Reg.UL_VLAN 0) Fd.UL_VLAN_EN) +
          b2n (s.inService 1) * (1 + s.rf (Reg.UL_VLAN 1) Fd.UL_VLAN_EN) ∧
        RegsBut [Reg.UL_TX_FRAMES 0, Reg.UL_TX_FRAMES 1] s t))) ∧
  (∀ (c : ClaimMsg) (s : State),
    (s.claimValid c = true → ∃ t, exec (.pairClaim c) s = .next t ∧ t.role = 3 ∧ t.syncState = 0 ∧
      Reports t 0x4d Err.PAI_DEPOSED ∧ t.pai.since = 0 ∧ t.pai.held = []) ∧
    (s.claimValid c = false → ∃ t, exec (.pairClaim c) s = .next t ∧ t.pai = s.pai ∧ t.sent = s.sent ∧
      RegsBut [Reg.UL_RX_FRAMES c.port.val] s t)) ∧
  (∀ (x : Fin 4) (s : State),
    (x.val ≠ 0 → ∀ c ∈ [Instr.pairHandover x, .pairResync x], ∃ t, exec c s = .next t ∧ Reports t 0x4d Err.PAI_OWNER ∧
      RegsBut (eventRegs 0x4d) s t ∧ t.pai = s.pai) ∧
    (x = 0 → s.role ≠ 1 ∨ s.syncState ≠ 3 → ∃ t, exec (.pairHandover x) s = .next t ∧
      Reports t 0x4d Err.PAI_NOT_SYNC ∧ RegsBut (eventRegs 0x4d) s t ∧ t.pai = s.pai) ∧
    (x = 0 → s.role = 1 → s.syncState = 3 → s.pai.handover = none → s.mainPeriod ≠ 0 →
      ∃ t, exec (.pairHandover x) s = .next t ∧
        t.pai.handover = some (s.nextBoundary + BitVec.ofNat 64 s.mainPeriod) ∧
        t.flag Reg.PAI_STAT Fd.PAI_STAT_HANDOVER_PEND = true ∧ t.role = 1 ∧ RegsBut [Reg.PAI_STAT] s t) ∧
    (x = 0 → s.role = 2 → 2 ≤ s.syncState → ∃ t, exec (.pairResync x) s = .next t ∧ t.syncState = 2 ∧ t.role = 2 ∧
      t.pai.prog = SyncState.init ∧ t.pai.copies = [] ∧ Counts Reg.PAI_RESYNCS s t) ∧
    (x = 0 → s.role = 1 → s.syncState = 0 → exec (.pairResync x) s = .next s) ∧
    (x = 0 → s.role = 1 → s.syncState ≠ 0 → s.unscheduled = false → exec (.pairResync x) s = .next { s with
      pai := { s.pai with ops := s.pai.ops ++ [.write (.ctx 0) Reg.PAI_CMD 2] } })) ∧
  (∀ s : State,
    let due : Prop := s.role = 2 ∧ s.syncState = 3 ∧ s.flag Reg.PAI_CFG Fd.PAI_CFG_PREF = true ∧
      s.flag Reg.PAI_CFG Fd.PAI_CFG_REVERT = true ∧ ∃ a, s.pai.syncAt = some a ∧
      a.toNat + s.rf Reg.PAI_CFG Fd.PAI_CFG_REVERT_HOLD * tickS ≤ s.ltc.toNat
    (due → exec .handoverRevertHold s = .next { s with pai := { s.pai with ask := true } }) ∧
    (¬ due → exec .handoverRevertHold s = .next s)) ∧
  (∀ s : State, (s.pai.handover = none → exec .handoverOswSwitch s = .next s) ∧
    (∀ b : Time, s.pai.handover = some b → ∃ t, exec .handoverOswSwitch s = .next t ∧
      t.flag Reg.OFE_STAT Fd.OFE_STAT_OSW_SEL = decide (s.role = 2) ∧ RegsBut [Reg.OFE_STAT] s t ∧ SameBytes s t))

/-- A standby takes the fed points, node words and triggers, applies each copied item once, compares digests, reports health and takes what it joins with. -/
def Obligations.StandbyShadowsAndCopies : Prop :=
  (∀ (i : Fin 2) (f : FeedF) (w : FeedW) (ts : List Trigger) (c : CopyMsg) (h : Word) (b : BulkPart) (s : State),
    ShbOk s → s.isPair = true →
    ((s.tlane i.val).block = true → ∀ m ∈ [Instr.tetherFeedF i false f, .tetherFeedW i false w, .tetherTrig i false ts,
        .tetherCopy i false c, .tetherHealth i false h, .tetherBulk i false b],
      ∃ t, exec m s = .next t ∧ Counts Reg.TTH_MSG_ERR s t ∧ RegsBut [Reg.TTH_MSG_ERR] s t ∧ SameBytes s t ∧
        t.pai = (s.setTlane i.val { s.tlane i.val with run := 0 }).pai) ∧
    ((s.tlane i.val).block = false ∨ (s.tlane i.val).up = false → ∀ m ∈ [Instr.tetherFeedF i true f, .tetherFeedW i true w,
        .tetherTrig i true ts, .tetherCopy i true c, .tetherHealth i true h, .tetherBulk i true b], exec m s = .next s) ∧
    (s.shadows = false → s.role ≠ 1 → ∀ m ∈ [Instr.tetherFeedF i true f, .tetherFeedW i true w, .tetherCopy i true c,
        .tetherHealth i true h, .tetherBulk i true b], exec m s = .next s)) ∧
  (∀ (i : Fin 2) (f : FeedF) (p : Nat) (re im : Int) (s : State), ShbOk s → Shadowed s i → s.fenActive = true →
    s.fib.cur.live = true → s.fib.cur.launch = f.launch → s.fib.cur.slot = f.slot → f.z = [(f.slot, p, re, im)] →
    f.raman = [] → ∃ t, exec (.tetherFeedF i true f) s = .next t ∧ t = { s with fib := t.fib } ∧
      NMap.get (fun _ => Cplx.mk 0 0) t.fib.cur.fed (2 ^ 20 * f.slot + p) = ⟨re, im⟩ ∧
      (∀ k, k ≠ 2 ^ 20 * f.slot + p → NMap.get (fun _ => Cplx.mk 0 0) t.fib.cur.fed k =
        NMap.get (fun _ => Cplx.mk 0 0) s.fib.cur.fed k)) ∧
  (∀ (i : Fin 2) (k : Nat) (die : Word) (s : State), ShbOk s → Shadowed s i → s.fieldTick ≠ 0 →
    ∃ t, exec (.tetherFeedW i true ⟨some (k, 0, die), [], [], none⟩) s = .next t ∧ t.flt.dieLatch = die ∧ SameBytes s t) ∧
  (∀ (i : Fin 2) (n j : Nat) (ws : List Word) (s : State), ShbOk s → Shadowed s i → n < 512 →
    (s.port (n / 32)).nextIn.length = 32 →
    (s.slotNode (n / 32) (n % 32) = 0 ∨ j < nth (s.port (n / 32)).nextIn (n % 32) 0 →
      exec (.tetherFeedW i true ⟨none, [], [(n, j, ws)], none⟩) s = .next s) ∧
    (s.slotNode (n / 32) (n % 32) ≠ 0 → nth (s.port (n / 32)).nextIn (n % 32) 0 ≤ j →
      ∃ t, exec (.tetherFeedW i true ⟨none, [], [(n, j, ws)], none⟩) s = .next t ∧
        nth (t.port (n / 32)).nextIn (n % 32) 0 = j + 1 ∧ SameBytes s t)) ∧
  (∀ (i : Fin 2) (x : Trigger) (s : State), ShbOk s → Heard s i → (s.tlane i.val).up = true → s.role = 2 →
    (s.syncState = 0 ∨ x.arr.toNat / 2 + 1 ≤ nth s.shb.lineCycle x.line 0 →
      exec (.tetherTrig i true [x]) s = .next s) ∧
    (s.syncState ≠ 0 → nth s.shb.lineCycle x.line 0 < x.arr.toNat / 2 + 1 → ∃ t, exec (.tetherTrig i true [x]) s = .next t ∧
      t.shb.lastFwd.toNat = max s.shb.lastFwd.toNat x.inst.toNat ∧ SameBytes s t)) ∧
  (∀ (i : Fin 2) (c : CopyMsg) (s : State), ShbOk s → Shadowed s i →
    (c.no ≤ s.pai.acked → exec (.tetherCopy i true c) s = .next s) ∧
    (s.pai.acked < c.no → s.syncState = 1 → c.digest = none →
      let done (a : State) : Prop := exec (.tetherCopy i true c) s =
        .next { a with pai := { a.pai with copyEnd := none, acked := c.no } }
      (c.ops = [] → done s) ∧
      (∀ k n, c.ops = [.free k n] → done (s.setLane k
        (if s.unscheduled then ((s.lane k).freeUpTo n).settle else { s.lane k with freeNow := some n }))) ∧
      (∀ m, c.ops = [.mapping m] → s.unscheduled = false → done { s with tim := { s.tim with next := some m } }) ∧
      (∀ v b, c.ops = [.timeState v b] → s.unscheduled = false →
        done { s with tim := { s.tim with pubs := s.tim.pubs ++ [(v, b)] } }) ∧
      (∀ d, c.ops = [.inj d] → done { s with fld := { s.fld with done := s.fld.done ++ [d] } }) ∧
      (∀ n j, c.ops = [.coreInj n j] → done (s.setCore n { s.core n with injNext := some j })) ∧
      (∀ n a, c.ops = [.notch n a] → done { s with flt := { s.flt with
        setNext := if s.fieldTick = 0 then s.flt.setNext else some (n, a),
        setNextN := if s.superframe = 0 then s.flt.setNextN else some (n, a), measured := true } }) ∧
      (∀ a, c.ops = [.resync a] → done { s with resync := ⟨some (s.resync.field.getD a), some (s.resync.node.getD a)⟩ }) ∧
      (∀ two a, c.ops = [.budget two a] → done { s with upl := { s.upl with next := some (two, a) } }) ∧
      (∀ a, c.ops = [.switchAt a] → done { s with pln :=
        if s.unscheduled then { s.pln with instant := some (epochFrom a.toNat) } else { s.pln with swFrom := some a } })) ∧
    (∀ n v mine : Nat, s.pai.acked < c.no → s.syncState = 3 → c.ops = [] → c.digest = some (n, v) → 
      (s.fib.digests.find? (fun d => d.1 == n)).map (·.2) = some mine → ∃ t, exec (.tetherCopy i true c) s = .next t ∧
        t.rd Reg.PAI_DIGEST = w32 mine ∧ t.pai.acked = c.no ∧ t.pai.digestDue = none ∧ SameBytes s t ∧
        (mine = v → t.syncState = 3 ∧ RegsBut [Reg.PAI_DIGEST] s t) ∧
        (mine ≠ v → t.syncState = 2 ∧ Reports t 0x4d Err.PAI_DIGEST ∧ IrqSet t 0x4d 3 ∧ IrqSet t 0x4d 1 ∧
          Counts Reg.PAI_DIGEST_MISS s t ∧ Counts Reg.PAI_RESYNCS s t ∧ t.pai.prog = SyncState.init))) ∧
  (∀ s : State, (s.shadows = false → exec .healthSend s = .next s) ∧
    (s.shadows = true → ∃ t, exec .healthSend s = .next t ∧ t.pai.rxSum = 0 ∧ t.pai.rxN = 0 ∧ t.pai.diverged = false ∧
      Word.bit (t.rd Reg.PAI_HEALTH) 2 = s.pai.diverged ∧ Word.bit (t.rd Reg.PAI_HEALTH) 3 = s.convFail ∧
      Word.bit (t.rd Reg.PAI_HEALTH) 4 = !(s.srcReady 0 || s.srcReady 1) ∧
      Word.bit (t.rd Reg.PAI_HEALTH) 5 = Word.bit (s.rd Reg.PAI_HEALTH) 5 ∧
      (s.pai.rxN = 0 → Word.bit (t.rd Reg.PAI_HEALTH) 0 = false) ∧
      t.sent.length = s.sent.length + b2n (s.tlane 0).up + b2n (s.tlane 1).up ∧
      RegsBut ([Reg.PAI_HEALTH, Reg.PAI_RX_MATCH] ++ eventRegs 0x4d) s t)) ∧
  (∀ (i : Fin 2) (h : Word) (s : State), Heard s i → (s.tlane i.val).up = true → s.role = 1 →
    exec (.tetherHealth i true h) s = .next (s.wr Reg.PAI_PARTNER_HEALTH h)) ∧
  (∀ (i : Fin 2) (s : State), ShbOk s → Shadowed s i →
    let takes (b : BulkPart) (t : State) : Prop := exec (.tetherBulk i true b) s = .next t
    (∀ a b r, takes (.slots a b r) { s with pai := { s.pai with pSlots := some (a, b, r) } }) ∧
    (∀ (slot off : Nat) (bs : List Byte) (last : Bool), takes (.plan slot off bs last)
      (s.setSlot slot ⟨if last then 2 else 1, (s.slot slot).image.take off ++ bs⟩)) ∧
    (∀ p ws, ∃ t, takes (.record p ws) t ∧ NMap.get (fun _ => []) t.pai.copies p = ws ∧
      (∀ k, k ≠ p → NMap.get (fun _ => []) t.pai.copies k = NMap.get (fun _ => []) s.pai.copies k) ∧
      t = { s with pai := { s.pai with copies := t.pai.copies } }) ∧
    (∀ n c, ∃ t, takes (.core n c) t ∧ t.core n = c ∧ (∀ k, k ≠ n → t.core k = s.core k) ∧
      t.pai.prog.cores = n :: s.pai.prog.cores ∧ RegsBut [] s t ∧ SameBytes s t) ∧
    (∀ (lo size : Nat) (cells : List (Nat × Byte)), (cells.map (·.1)).Nodup → ∃ t, takes (.bytes lo size cells) t ∧
      (∀ a v, (a, v) ∈ cells → lo ≤ a → a < lo + size → t.rdByte a = v) ∧
      (∀ a, lo ≤ a → a < lo + size → (∀ v, (a, v) ∉ cells) → t.rdByte a = 0) ∧
      (∀ a, a < lo ∨ lo + size ≤ a → t.rdByte a = s.rdByte a) ∧ t = { s with mem := t.mem }) ∧
    (∀ k rel mark rd wr items, s.syncState = 1 → ∃ t, takes (.lane k rel mark rd wr items) t ∧ (t.lane k).rel = rel ∧
      (t.lane k).mark = mark ∧ (t.lane k).rd = rd ∧ (t.lane k).wr = wr ∧ (t.lane k).items.length = items.length ∧
      (∀ it ∈ (t.lane k).items, it.ph = true) ∧ (t.lane k).items.map Item.size = items.map StoredItem.size ∧
      (∀ n, n ≠ k → t.lane n = s.lane n) ∧ t = { s with lanes := t.lanes }) ∧
    (s.syncState = 1 → ∃ t, takes .lanesEnd t ∧ t.syncState = 2 ∧ IrqSet t 0x4d 1 ∧ t.pai.prog = SyncState.init ∧
      RegsBut [Reg.PAI_STAT, Reg.HDR_IRQ_RAW 0x4d, Reg.HDR_SEQ 0x4d] s t) ∧
    (s.syncState ≠ 1 → takes .lanesEnd s))
end

