-- ==== Sys2Proof/Laws/Store.lean ====
section
/-!
SUPPORT. Laws of the finite maps that hold registers and memory: what a read after a write gives, and that every
operation keeps the canonical form.
-/

namespace Sys2Proof.Machine

variable {α : Type}

@[simp] theorem NMap.get_nil (d : Nat → α) (k : Nat) : NMap.get d [] k = d k := rfl

theorem NMap.get_insert_same (d : Nat → α) (k : Nat) (v : α) (m : List (Nat × α)) (h : ∀ e ∈ m, e.1 ≠ k) :
    NMap.get d (NMap.insert k v m) k = v := by
  induction m with
  | nil => simp [NMap.insert, NMap.get]
  | cons e t ih =>
    obtain ⟨a, w⟩ := e
    have ha : a ≠ k := h _ List.mem_cons_self
    simp only [NMap.insert]
    split
    · simp [NMap.get]
    · simp only [NMap.get, ha, if_false]
      exact ih (fun e he => h e (List.mem_cons_of_mem _ he))

theorem NMap.get_insert_ne (d : Nat → α) {k j : Nat} (v : α) (m : List (Nat × α)) (h : k ≠ j) :
    NMap.get d (NMap.insert k v m) j = NMap.get d m j := by
  induction m with
  | nil => simp [NMap.insert, NMap.get, h]
  | cons e t ih =>
    obtain ⟨a, w⟩ := e
    simp only [NMap.insert]
    split
    · simp [NMap.get, h]
    · simp only [NMap.get, ih]

theorem NMap.erase_eq (k : Nat) (m : List (Nat × α)) : NMap.erase k m = m.filter (fun e => e.1 ≠ k) := by
  induction m with
  | nil => rfl
  | cons e t ih =>
    obtain ⟨a, w⟩ := e
    by_cases h : a = k <;> simp [NMap.erase, h, ih]

theorem NMap.erase_no (k : Nat) (m : List (Nat × α)) : ∀ e ∈ NMap.erase k m, e.1 ≠ k := by
  intro e he
  rw [NMap.erase_eq] at he
  simpa using (List.mem_filter.1 he).2

theorem NMap.get_none (d : Nat → α) (k : Nat) (m : List (Nat × α)) (h : ∀ e ∈ m, e.1 ≠ k) : NMap.get d m k = d k := by
  induction m with
  | nil => rfl
  | cons e t ih =>
    obtain ⟨a, w⟩ := e
    have ha : a ≠ k := h _ List.mem_cons_self
    simp only [NMap.get, ha, if_false]
    exact ih (fun e he => h e (List.mem_cons_of_mem _ he))

theorem NMap.get_erase_ne (d : Nat → α) {k j : Nat} (m : List (Nat × α)) (h : k ≠ j) :
    NMap.get d (NMap.erase k m) j = NMap.get d m j := by
  induction m with
  | nil => rfl
  | cons e t ih =>
    obtain ⟨a, w⟩ := e
    by_cases ha : a = k
    · simp [NMap.erase, NMap.get, ha, h, ih]
    · simp [NMap.erase, NMap.get, ha, ih]

/-- A read of the key that was written gives the value written. -/
@[simp] theorem NMap.get_set_same [DecidableEq α] (d : Nat → α) (m : List (Nat × α)) (k : Nat) (v : α) :
    NMap.get d (NMap.set d m k v) k = v := by
  unfold NMap.set
  split
  · rename_i h
    rw [NMap.get_none d k _ (NMap.erase_no k m), h]
  · exact NMap.get_insert_same d k v _ (NMap.erase_no k m)

/-- A read of another key gives what it gave. -/
theorem NMap.get_set_ne [DecidableEq α] (d : Nat → α) (m : List (Nat × α)) {k j : Nat} (v : α) (h : k ≠ j) :
    NMap.get d (NMap.set d m k v) j = NMap.get d m j := by
  unfold NMap.set
  split
  · exact NMap.get_erase_ne d m h
  · rw [NMap.get_insert_ne d v _ h, NMap.get_erase_ne d m h]

/-- The canonical form, entry by entry. -/
theorem NMap.wf_cons [DecidableEq α] (d : Nat → α) (a : Nat) (v : α) (t : List (Nat × α)) :
    NMap.wf d ((a, v) :: t) = true ↔ v ≠ d a ∧ (∀ e ∈ t, a < e.1) ∧ NMap.wf d t = true := by
  induction t generalizing a v with
  | nil => simp [NMap.wf]
  | cons e t ih =>
    obtain ⟨b, w⟩ := e
    simp only [NMap.wf, Bool.and_eq_true, decide_eq_true_eq]
    constructor
    · rintro ⟨⟨h1, h2⟩, h3⟩
      refine ⟨h1, ?_, h3⟩
      intro e he
      rcases List.mem_cons.1 he with rfl | he
      · exact h2
      · exact Nat.lt_trans h2 (((ih b w).1 h3).2.1 e he)
    · rintro ⟨h1, h2, h3⟩
      exact ⟨⟨h1, h2 _ List.mem_cons_self⟩, h3⟩

theorem NMap.wf_filter [DecidableEq α] (d : Nat → α) (p : Nat × α → Bool) (m : List (Nat × α))
    (h : NMap.wf d m = true) : NMap.wf d (m.filter p) = true := by
  induction m with
  | nil => rfl
  | cons e t ih =>
    obtain ⟨a, v⟩ := e
    have k := (NMap.wf_cons d a v t).1 h
    simp only [List.filter_cons]
    split
    · exact (NMap.wf_cons d a v _).2 ⟨k.1, fun e he => k.2.1 e (List.mem_filter.1 he).1, ih k.2.2⟩
    · exact ih k.2.2

theorem NMap.wf_erase [DecidableEq α] (d : Nat → α) (k : Nat) (m : List (Nat × α)) (h : NMap.wf d m = true) :
    NMap.wf d (NMap.erase k m) = true := by
  rw [NMap.erase_eq]; exact NMap.wf_filter d _ m h

theorem NMap.mem_insert (k : Nat) (v : α) (m : List (Nat × α)) (e : Nat × α) (h : e ∈ NMap.insert k v m) :
    e = (k, v) ∨ e ∈ m := by
  induction m with
  | nil => simp [NMap.insert] at h; exact .inl h
  | cons x t ih =>
    obtain ⟨a, w⟩ := x
    simp only [NMap.insert] at h
    split at h
    · rcases List.mem_cons.1 h with h | h
      · exact .inl h
      · exact .inr h
    · rcases List.mem_cons.1 h with h | h
      · exact .inr (h ▸ List.mem_cons_self)
      · rcases ih h with h | h
        · exact .inl h
        · exact .inr (List.mem_cons_of_mem _ h)

theorem NMap.wf_insert [DecidableEq α] (d : Nat → α) (k : Nat) (v : α) (m : List (Nat × α)) (hv : v ≠ d k)
    (hk : ∀ e ∈ m, e.1 ≠ k) (h : NMap.wf d m = true) : NMap.wf d (NMap.insert k v m) = true := by
  induction m with
  | nil => simp [NMap.insert, NMap.wf, hv]
  | cons x t ih =>
    obtain ⟨a, w⟩ := x
    have c := (NMap.wf_cons d a w t).1 h
    have ha : a ≠ k := hk _ List.mem_cons_self
    simp only [NMap.insert]
    split
    · rename_i hlt
      refine (NMap.wf_cons d k v _).2 ⟨hv, ?_, h⟩
      intro e he
      rcases List.mem_cons.1 he with rfl | he
      · exact hlt
      · exact Nat.lt_trans hlt (c.2.1 e he)
    · rename_i hlt
      refine (NMap.wf_cons d a w _).2 ⟨c.1, ?_, ih (fun e he => hk e (List.mem_cons_of_mem _ he)) c.2.2⟩
      intro e he
      rcases NMap.mem_insert k v t e he with rfl | he
      · exact Nat.lt_of_le_of_ne (Nat.le_of_not_lt hlt) ha
      · exact c.2.1 e he

/-- A write keeps the canonical form. -/
theorem NMap.wf_set [DecidableEq α] (d : Nat → α) (m : List (Nat × α)) (k : Nat) (v : α) (h : NMap.wf d m = true) :
    NMap.wf d (NMap.set d m k v) = true := by
  unfold NMap.set
  split
  · exact NMap.wf_erase d k m h
  · rename_i hv
    exact NMap.wf_insert d k v _ hv (NMap.erase_no k m) (NMap.wf_erase d k m h)

theorem NMap.wf_clear [DecidableEq α] (d : Nat → α) (lo hi : Nat) (m : List (Nat × α)) (h : NMap.wf d m = true) :
    NMap.wf d (NMap.clear lo hi m) = true := NMap.wf_filter d _ m h

theorem NMap.wf_foldl [DecidableEq α] (d : Nat → α) {β : Type} (f : List (Nat × α) → β → List (Nat × α)) (l : List β)
    (hf : ∀ m x, NMap.wf d m = true → NMap.wf d (f m x) = true) (m : List (Nat × α)) (h : NMap.wf d m = true) :
    NMap.wf d (l.foldl f m) = true := by
  induction l generalizing m with
  | nil => exact h
  | cons x l ih => exact ih _ (hf m x h)

/-! ### Registers -/

@[simp] theorem State.rd_wr_same (s : State) (a : Nat) (w : Word) : (s.wr a w).rd a = w := by
  simp [State.rd, State.wr]

theorem State.rd_wr_ne (s : State) {a b : Nat} (w : Word) (h : a ≠ b) : (s.wr a w).rd b = s.rd b := by
  simp [State.rd, State.wr, NMap.get_set_ne, h]

theorem State.rd_wr (s : State) (a b : Nat) (w : Word) : (s.wr a w).rd b = if a = b then w else s.rd b := by
  split
  · rename_i h; subst h; simp
  · rename_i h; exact State.rd_wr_ne s w h

/-! ### Memory -/

@[simp] theorem State.rdByte_wrByte_same (s : State) (a : Nat) (b : Byte) : (s.wrByte a b).rdByte a = b := by
  simp [State.rdByte, State.wrByte]

theorem State.rdByte_wrByte_ne (s : State) {a j : Nat} (b : Byte) (h : a ≠ j) : (s.wrByte a b).rdByte j = s.rdByte j := by
  simp [State.rdByte, State.wrByte, NMap.get_set_ne, h]

end Sys2Proof.Machine
end

