-- ==== Sys2Proof/Laws/Bits.lean ====
section
/-!
SUPPORT. Laws of register fields: a field that was replaced reads as the new value, every other field as before.
-/

namespace Sys2Proof

theorem Word.put_toNat (w : Word) (f : Fld) (v : Nat) (h : f.lsb + f.width ≤ 32) :
    (w.put f v).toNat =
      w.toNat % 2 ^ f.lsb + 2 ^ f.lsb * (v % 2 ^ f.width) + 2 ^ (f.lsb + f.width) * (w.toNat / 2 ^ (f.lsb + f.width)) := by
  unfold Word.put
  rw [BitVec.toNat_ofNat]
  apply Nat.mod_eq_of_lt
  have hw : w.toNat < 2 ^ 32 := w.isLt
  have hp : 2 ^ 32 = 2 ^ (f.lsb + f.width) * 2 ^ (32 - (f.lsb + f.width)) := by
    rw [← Nat.pow_add]; congr 1; omega
  have hq : w.toNat / 2 ^ (f.lsb + f.width) < 2 ^ (32 - (f.lsb + f.width)) := by
    apply Nat.div_lt_of_lt_mul
    rw [← hp]; exact hw
  have h1 : w.toNat % 2 ^ f.lsb < 2 ^ f.lsb := Nat.mod_lt _ (Nat.two_pow_pos _)
  have h2 : v % 2 ^ f.width < 2 ^ f.width := Nat.mod_lt _ (Nat.two_pow_pos _)
  have h3 : 2 ^ f.lsb * (v % 2 ^ f.width) + 2 ^ f.lsb ≤ 2 ^ (f.lsb + f.width) := by
    rw [Nat.pow_add, ← Nat.mul_succ]
    exact Nat.mul_le_mul (Nat.le_refl _) h2
  have h4 : 2 ^ (f.lsb + f.width) * (w.toNat / 2 ^ (f.lsb + f.width)) + 2 ^ (f.lsb + f.width) ≤ 2 ^ 32 := by
    rw [hp, ← Nat.mul_succ]
    exact Nat.mul_le_mul (Nat.le_refl _) hq
  omega

/-- A field that was replaced reads as the low bits of the new value. -/
theorem Word.get_put_same (w : Word) (f : Fld) (v : Nat) (h : f.lsb + f.width ≤ 32) :
    (w.put f v).get f = v % 2 ^ f.width := by
  unfold Word.get
  rw [Word.put_toNat w f v h, Nat.pow_add]
  have h1 : w.toNat % 2 ^ f.lsb < 2 ^ f.lsb := Nat.mod_lt _ (Nat.two_pow_pos _)
  have e : w.toNat % 2 ^ f.lsb + 2 ^ f.lsb * (v % 2 ^ f.width) +
      2 ^ f.lsb * 2 ^ f.width * (w.toNat / (2 ^ f.lsb * 2 ^ f.width)) =
      w.toNat % 2 ^ f.lsb + 2 ^ f.lsb * (v % 2 ^ f.width + 2 ^ f.width * (w.toNat / (2 ^ f.lsb * 2 ^ f.width))) := by
    rw [Nat.mul_add, Nat.mul_assoc, Nat.add_assoc]
  rw [e, Nat.add_mul_div_left _ _ (Nat.two_pow_pos _), Nat.div_eq_of_lt h1, Nat.zero_add, Nat.add_mul_mod_self_left,
    Nat.mod_mod]

/-- A field below the one that was replaced reads as before. -/
theorem Word.get_put_below (w : Word) (f g : Fld) (v : Nat) (h : f.lsb + f.width ≤ 32) (k : g.lsb + g.width ≤ f.lsb) :
    (w.put f v).get g = w.get g := by
  unfold Word.get
  rw [Word.put_toNat w f v h]
  have e : w.toNat % 2 ^ f.lsb + 2 ^ f.lsb * (v % 2 ^ f.width) + 2 ^ (f.lsb + f.width) * (w.toNat / 2 ^ (f.lsb + f.width)) =
      w.toNat % 2 ^ f.lsb + 2 ^ f.lsb * (v % 2 ^ f.width + 2 ^ f.width * (w.toNat / 2 ^ (f.lsb + f.width))) := by
    rw [Nat.mul_add, Nat.pow_add, Nat.mul_assoc, Nat.add_assoc]
  rw [e]
  have split : ∀ n : Nat, n / 2 ^ g.lsb % 2 ^ g.width = n % 2 ^ f.lsb / 2 ^ g.lsb % 2 ^ g.width := by
    intro n
    obtain ⟨d, hd⟩ : ∃ d, f.lsb = g.lsb + (g.width + d) := ⟨f.lsb - (g.lsb + g.width), by omega⟩
    rw [hd, Nat.pow_add 2 g.lsb, Nat.mod_mul_right_div_self, Nat.pow_add, Nat.mod_mul_right_mod]
  rw [split, Nat.add_mul_mod_self_left, Nat.mod_mod, ← split]

/-- A field above the one that was replaced reads as before. -/
theorem Word.get_put_above (w : Word) (f g : Fld) (v : Nat) (h : f.lsb + f.width ≤ 32) (k : f.lsb + f.width ≤ g.lsb) :
    (w.put f v).get g = w.get g := by
  unfold Word.get
  rw [Word.put_toNat w f v h]
  obtain ⟨d, hd⟩ : ∃ d, g.lsb = (f.lsb + f.width) + d := ⟨g.lsb - (f.lsb + f.width), by omega⟩
  have h1 : w.toNat % 2 ^ f.lsb < 2 ^ f.lsb := Nat.mod_lt _ (Nat.two_pow_pos _)
  have h2 : v % 2 ^ f.width < 2 ^ f.width := Nat.mod_lt _ (Nat.two_pow_pos _)
  have h3 : 2 ^ f.lsb * (v % 2 ^ f.width) + 2 ^ f.lsb ≤ 2 ^ (f.lsb + f.width) := by
    rw [Nat.pow_add, ← Nat.mul_succ]
    exact Nat.mul_le_mul (Nat.le_refl _) h2
  rw [hd, Nat.pow_add 2 (f.lsb + f.width) d, ← Nat.div_div_eq_div_mul, ← Nat.div_div_eq_div_mul,
    Nat.add_mul_div_left _ _ (Nat.two_pow_pos _),
    Nat.div_eq_of_lt (show w.toNat % 2 ^ f.lsb + 2 ^ f.lsb * (v % 2 ^ f.width) < 2 ^ (f.lsb + f.width) by omega),
    Nat.zero_add]

namespace Machine

theorem State.rf_wf_same (s : State) (a : Nat) (f : Fld) (v : Nat) (h : f.lsb + f.width ≤ 32) :
    (s.wf a f v).rf a f = v % 2 ^ f.width := by
  simp [State.rf, State.wf, Word.get_put_same _ _ _ h]

theorem State.rf_wf_below (s : State) (a : Nat) (f g : Fld) (v : Nat) (h : f.lsb + f.width ≤ 32)
    (k : g.lsb + g.width ≤ f.lsb) : (s.wf a f v).rf a g = s.rf a g := by
  simp [State.rf, State.wf, Word.get_put_below _ _ _ _ h k]

theorem State.rf_wf_above (s : State) (a : Nat) (f g : Fld) (v : Nat) (h : f.lsb + f.width ≤ 32)
    (k : f.lsb + f.width ≤ g.lsb) : (s.wf a f v).rf a g = s.rf a g := by
  simp [State.rf, State.wf, Word.get_put_above _ _ _ _ h k]

theorem State.rf_wf_ne (s : State) {a b : Nat} (f g : Fld) (v : Nat) (h : a ≠ b) : (s.wf a f v).rf b g = s.rf b g := by
  simp [State.rf, State.wf, State.rd_wr_ne _ _ h]

theorem State.rf_wr_ne (s : State) {a b : Nat} (w : Word) (g : Fld) (h : a ≠ b) : (s.wr a w).rf b g = s.rf b g := by
  simp [State.rf, State.rd_wr_ne _ _ h]

theorem State.rd_wf_ne (s : State) {a b : Nat} (f : Fld) (v : Nat) (h : a ≠ b) : (s.wf a f v).rd b = s.rd b := by
  simp [State.wf, State.rd_wr_ne _ _ h]

/-! ### Elements of lists -/

theorem nth_setAt_same {α : Type} (l : List α) (i : Nat) (v d : α) (h : i < l.length) : nth (setAt l i v) i d = v := by
  simp [nth, setAt, h]

theorem nth_setAt_ne {α : Type} (l : List α) (i j : Nat) (v d : α) (h : j ≠ i) : nth (setAt l i v) j d = nth l j d := by
  simp [nth, setAt, List.getElem?_set_ne (Ne.symm h)]

theorem nth_replicate {α : Type} (n j : Nat) (d : α) : nth (List.replicate n d) j d = d := by
  simp only [nth, List.getD_eq_getElem?_getD, List.getElem?_replicate]
  split <;> rfl

/-! ### Reset values of copies -/

/-- A key's reset value is that of its address. -/
theorem resetWord_of_mod (x y : Nat) (h : x % 0x1000000 = y % 0x1000000) : resetWord x = resetWord y := by
  unfold resetWord; rw [h]

theorem resetWord_copyKey (a c : Nat) : resetWord (copyKey a c) = resetWord a :=
  resetWord_of_mod _ _ (by unfold copyKey; omega)

end Machine

end Sys2Proof
end

