-- ==== Sys2Proof/Laws/Frame.lean ====
section
/-!
SUPPORT. What an operation leaves alone. `Frame W s t` says that `t` differs from `s` at most in the fields of State
whose bit `W` has, that the waiting commands and the identity block are the same, and that the register and memory maps
keep their canonical form. Every operation of the machine has one lemma of this form, named after it, in the files
Laws/Frame….lean.
-/

namespace Sys2Proof.Machine

set_option linter.all false
set_option Elab.async false

/-- What manufacture fixes of the non-volatile contents (R346, R354). -/
def NonVol.identity (n : NonVol) : Nat × Nat × Nat × Nat × Nat × Nat := (n.serial, n.macA, n.macB, n.ip, n.mask, n.udp)

/-- Field `i` of State is outside `W`. -/
abbrev out (W i : Nat) : Prop := W.testBit i = false

structure Frame (W : Nat) (s t : State) : Prop where
  regs : out W 0 → t.regs = s.regs
  mem : out W 1 → t.mem = s.mem
  ltc : out W 2 → t.ltc = s.ltc
  ltcRun : out W 3 → t.ltcRun = s.ltcRun
  free : out W 4 → t.free = s.free
  nv : out W 5 → t.nv = s.nv
  sys : out W 6 → t.sys = s.sys
  pln : out W 7 → t.pln = s.pln
  sched : out W 8 → t.sched = s.sched
  lanes : out W 9 → t.lanes = s.lanes
  seqs : out W 10 → t.seqs = s.seqs
  pops : out W 11 → t.pops = s.pops
  jobs : out W 12 → t.jobs = s.jobs
  clk : out W 13 → t.clk = s.clk
  shb : out W 14 → t.shb = s.shb
  resync : out W 15 → t.resync = s.resync
  units : out W 16 → t.units = s.units
  sessions : out W 17 → t.sessions = s.sessions
  upl : out W 18 → t.upl = s.upl
  tim : out W 19 → t.tim = s.tim
  mnt : out W 20 → t.mnt = s.mnt
  flt : out W 21 → t.flt = s.flt
  fld : out W 22 → t.fld = s.fld
  ofe : out W 23 → t.ofe = s.ofe
  fib : out W 24 → t.fib = s.fib
  tmp : out W 25 → t.tmp = s.tmp
  lpe : out W 26 → t.lpe = s.lpe
  drp : out W 27 → t.drp = s.drp
  pai : out W 28 → t.pai = s.pai
  sessNo : out W 29 → t.sessNo = s.sessNo
  latches : out W 30 → t.latches = s.latches
  ans : out W 31 → t.ans = s.ans
  sent : out W 32 → t.sent = s.sent
  pending : t.pending = s.pending
  identity : t.nv.identity = s.nv.identity
  regsWf : NMap.wf resetWord s.regs = true → NMap.wf resetWord t.regs = true
  memWf : NMap.wf memDefault s.mem = true → NMap.wf memDefault t.mem = true

/-- Every field of `M` is one of `W`. -/
def Within (M W : Nat) : Prop := ∀ i, out W i → out M i

theorem within_of_land {M W : Nat} (h : M &&& W = M) : Within M W := by
  intro i hi
  have h2 := congrArg (fun n => Nat.testBit n i) h
  simp only [Nat.testBit_and] at h2
  unfold out at *
  rw [hi] at h2
  simpa using h2.symm

theorem within_trans {L M W : Nat} (h : L &&& M = L) (w : Within M W) : Within L W :=
  fun i hi => within_of_land h i (w i hi)

theorem within_refl (W : Nat) : Within W W := fun _ h => h

theorem frame_refl (W : Nat) (s : State) : Frame W s s := by
  constructor <;> first | exact fun _ => rfl | rfl | exact id

theorem frame_trans {W : Nat} {s t u : State} (h : Frame W s t) (k : Frame W t u) : Frame W s u where
  regs w := (k.regs w).trans (h.regs w)
  mem w := (k.mem w).trans (h.mem w)
  ltc w := (k.ltc w).trans (h.ltc w)
  ltcRun w := (k.ltcRun w).trans (h.ltcRun w)
  free w := (k.free w).trans (h.free w)
  nv w := (k.nv w).trans (h.nv w)
  sys w := (k.sys w).trans (h.sys w)
  pln w := (k.pln w).trans (h.pln w)
  sched w := (k.sched w).trans (h.sched w)
  lanes w := (k.lanes w).trans (h.lanes w)
  seqs w := (k.seqs w).trans (h.seqs w)
  pops w := (k.pops w).trans (h.pops w)
  jobs w := (k.jobs w).trans (h.jobs w)
  clk w := (k.clk w).trans (h.clk w)
  shb w := (k.shb w).trans (h.shb w)
  resync w := (k.resync w).trans (h.resync w)
  units w := (k.units w).trans (h.units w)
  sessions w := (k.sessions w).trans (h.sessions w)
  upl w := (k.upl w).trans (h.upl w)
  tim w := (k.tim w).trans (h.tim w)
  mnt w := (k.mnt w).trans (h.mnt w)
  flt w := (k.flt w).trans (h.flt w)
  fld w := (k.fld w).trans (h.fld w)
  ofe w := (k.ofe w).trans (h.ofe w)
  fib w := (k.fib w).trans (h.fib w)
  tmp w := (k.tmp w).trans (h.tmp w)
  lpe w := (k.lpe w).trans (h.lpe w)
  drp w := (k.drp w).trans (h.drp w)
  pai w := (k.pai w).trans (h.pai w)
  sessNo w := (k.sessNo w).trans (h.sessNo w)
  latches w := (k.latches w).trans (h.latches w)
  ans w := (k.ans w).trans (h.ans w)
  sent w := (k.sent w).trans (h.sent w)
  pending := k.pending.trans h.pending
  identity := k.identity.trans h.identity
  regsWf w := k.regsWf (h.regsWf w)
  memWf w := k.memWf (h.memWf w)

theorem frame_mono {M W : Nat} {s t : State} (w : Within M W) (h : Frame M s t) : Frame W s t where
  regs b := h.regs (w 0 b)
  mem b := h.mem (w 1 b)
  ltc b := h.ltc (w 2 b)
  ltcRun b := h.ltcRun (w 3 b)
  free b := h.free (w 4 b)
  nv b := h.nv (w 5 b)
  sys b := h.sys (w 6 b)
  pln b := h.pln (w 7 b)
  sched b := h.sched (w 8 b)
  lanes b := h.lanes (w 9 b)
  seqs b := h.seqs (w 10 b)
  pops b := h.pops (w 11 b)
  jobs b := h.jobs (w 12 b)
  clk b := h.clk (w 13 b)
  shb b := h.shb (w 14 b)
  resync b := h.resync (w 15 b)
  units b := h.units (w 16 b)
  sessions b := h.sessions (w 17 b)
  upl b := h.upl (w 18 b)
  tim b := h.tim (w 19 b)
  mnt b := h.mnt (w 20 b)
  flt b := h.flt (w 21 b)
  fld b := h.fld (w 22 b)
  ofe b := h.ofe (w 23 b)
  fib b := h.fib (w 24 b)
  tmp b := h.tmp (w 25 b)
  lpe b := h.lpe (w 26 b)
  drp b := h.drp (w 27 b)
  pai b := h.pai (w 28 b)
  sessNo b := h.sessNo (w 29 b)
  latches b := h.latches (w 30 b)
  ans b := h.ans (w 31 b)
  sent b := h.sent (w 32 b)
  pending := h.pending
  identity := h.identity
  regsWf := h.regsWf
  memWf := h.memWf

theorem frame_ite {W : Nat} {s : State} {c : Prop} [Decidable c] {a b : State} (ha : Frame W s a) (hb : Frame W s b) :
    Frame W s (if c then a else b) := by
  split <;> assumption

theorem frame_ite_fst {W : Nat} {s : State} {c : Prop} [Decidable c] {β : Type} {a b : State × β} (ha : Frame W s a.1)
    (hb : Frame W s b.1) : Frame W s (if c then a else b).1 := by
  split <;> assumption

theorem frame_ite_snd {W : Nat} {s : State} {c : Prop} [Decidable c] {β : Type} {a b : β × State} (ha : Frame W s a.2)
    (hb : Frame W s b.2) : Frame W s (if c then a else b).2 := by
  split <;> assumption

theorem frame_ite_snd2 {W : Nat} {s : State} {c : Prop} [Decidable c] {β γ : Type} {a b : β × γ × State}
    (ha : Frame W s a.2.2) (hb : Frame W s b.2.2) : Frame W s (if c then a else b).2.2 := by
  split <;> assumption

theorem frame_iter {W : Nat} {s : State} {n : Nat} {f : Nat → State → State} {t : State}
    (hf : ∀ i a, Frame W s a → Frame W s (f i a)) (h : Frame W s t) : Frame W s (iter n f t) := by
  unfold iter
  generalize List.range n = l
  induction l generalizing t with
  | nil => exact h
  | cons x l ih => exact ih (hf x t h)

theorem frame_iter_fst {W : Nat} {s : State} {n : Nat} {β : Type} {f : Nat → State × β → State × β} {t : State × β}
    (hf : ∀ i a, Frame W s a.1 → Frame W s (f i a).1) (h : Frame W s t.1) : Frame W s (iter n f t).1 := by
  unfold iter
  generalize List.range n = l
  induction l generalizing t with
  | nil => exact h
  | cons x l ih => exact ih (hf x t h)

theorem frame_foldl {W : Nat} {s : State} {α : Type} {l : List α} {f : State → α → State} {t : State}
    (hf : ∀ a x, Frame W s a → Frame W s (f a x)) (h : Frame W s t) : Frame W s (l.foldl f t) := by
  induction l generalizing t with
  | nil => exact h
  | cons x l ih => exact ih (hf t x h)

/-- A fold that carries a state beside something else. -/
theorem frame_foldl_fst {W : Nat} {s : State} {α β : Type} {l : List α} {f : State × β → α → State × β} {p : State × β}
    (hf : ∀ a x, Frame W s a.1 → Frame W s (f a x).1) (h : Frame W s p.1) : Frame W s (l.foldl f p).1 := by
  induction l generalizing p with
  | nil => exact h
  | cons x l ih => exact ih (hf p x h)

theorem frame_foldl_snd {W : Nat} {s : State} {α β : Type} {l : List α} {f : β × State → α → β × State} {p : β × State}
    (hf : ∀ a x, Frame W s a.2 → Frame W s (f a x).2) (h : Frame W s p.2) : Frame W s (l.foldl f p).2 := by
  induction l generalizing p with
  | nil => exact h
  | cons x l ih => exact ih (hf p x h)

theorem frame_mk {W : Nat} {s t : State} (h : Frame W s t)
    {x_ltc} (h_ltc : out W 2 → x_ltc = t.ltc)
    {x_ltcRun} (h_ltcRun : out W 3 → x_ltcRun = t.ltcRun)
    {x_free} (h_free : out W 4 → x_free = t.free)
    {x_nv} (h_nv : out W 5 → x_nv = t.nv)
    {x_sys} (h_sys : out W 6 → x_sys = t.sys)
    {x_pln} (h_pln : out W 7 → x_pln = t.pln)
    {x_sched} (h_sched : out W 8 → x_sched = t.sched)
    {x_lanes} (h_lanes : out W 9 → x_lanes = t.lanes)
    {x_seqs} (h_seqs : out W 10 → x_seqs = t.seqs)
    {x_pops} (h_pops : out W 11 → x_pops = t.pops)
    {x_jobs} (h_jobs : out W 12 → x_jobs = t.jobs)
    {x_clk} (h_clk : out W 13 → x_clk = t.clk)
    {x_shb} (h_shb : out W 14 → x_shb = t.shb)
    {x_resync} (h_resync : out W 15 → x_resync = t.resync)
    {x_units} (h_units : out W 16 → x_units = t.units)
    {x_sessions} (h_sessions : out W 17 → x_sessions = t.sessions)
    {x_upl} (h_upl : out W 18 → x_upl = t.upl)
    {x_tim} (h_tim : out W 19 → x_tim = t.tim)
    {x_mnt} (h_mnt : out W 20 → x_mnt = t.mnt)
    {x_flt} (h_flt : out W 21 → x_flt = t.flt)
    {x_fld} (h_fld : out W 22 → x_fld = t.fld)
    {x_ofe} (h_ofe : out W 23 → x_ofe = t.ofe)
    {x_fib} (h_fib : out W 24 → x_fib = t.fib)
    {x_tmp} (h_tmp : out W 25 → x_tmp = t.tmp)
    {x_lpe} (h_lpe : out W 26 → x_lpe = t.lpe)
    {x_drp} (h_drp : out W 27 → x_drp = t.drp)
    {x_pai} (h_pai : out W 28 → x_pai = t.pai)
    {x_sessNo} (h_sessNo : out W 29 → x_sessNo = t.sessNo)
    {x_latches} (h_latches : out W 30 → x_latches = t.latches)
    {x_ans} (h_ans : out W 31 → x_ans = t.ans)
    {x_sent} (h_sent : out W 32 → x_sent = t.sent)
    (hi : x_nv.identity = t.nv.identity) :
    Frame W s ⟨t.regs, t.mem, x_ltc, x_ltcRun, x_free, x_nv, x_sys, x_pln, x_sched, x_lanes, x_seqs, x_pops, x_jobs, x_clk, x_shb, x_resync, x_units, x_sessions, x_upl, x_tim, x_mnt, x_flt, x_fld, x_ofe, x_fib, x_tmp, x_lpe, x_drp, x_pai, x_sessNo, x_latches, x_ans, x_sent, t.pending⟩ :=
  frame_trans h
    { ltc := h_ltc,
      ltcRun := h_ltcRun,
      free := h_free,
      nv := h_nv,
      sys := h_sys,
      pln := h_pln,
      sched := h_sched,
      lanes := h_lanes,
      seqs := h_seqs,
      pops := h_pops,
      jobs := h_jobs,
      clk := h_clk,
      shb := h_shb,
      resync := h_resync,
      units := h_units,
      sessions := h_sessions,
      upl := h_upl,
      tim := h_tim,
      mnt := h_mnt,
      flt := h_flt,
      fld := h_fld,
      ofe := h_ofe,
      fib := h_fib,
      tmp := h_tmp,
      lpe := h_lpe,
      drp := h_drp,
      pai := h_pai,
      sessNo := h_sessNo,
      latches := h_latches,
      ans := h_ans,
      sent := h_sent,
      regs := fun _ => rfl,
      mem := fun _ => rfl,
      pending := rfl,
      identity := hi,
      regsWf := id,
      memWf := id }

theorem frame_regs {W : Nat} {s t : State} (w : Within 1 W) (h : Frame W s t) {r : List (Nat × Word)}
    (k : NMap.wf resetWord t.regs = true → NMap.wf resetWord r = true) : Frame W s { t with regs := r } :=
  frame_trans h
    { mem := fun _ => rfl,
      ltc := fun _ => rfl,
      ltcRun := fun _ => rfl,
      free := fun _ => rfl,
      nv := fun _ => rfl,
      sys := fun _ => rfl,
      pln := fun _ => rfl,
      sched := fun _ => rfl,
      lanes := fun _ => rfl,
      seqs := fun _ => rfl,
      pops := fun _ => rfl,
      jobs := fun _ => rfl,
      clk := fun _ => rfl,
      shb := fun _ => rfl,
      resync := fun _ => rfl,
      units := fun _ => rfl,
      sessions := fun _ => rfl,
      upl := fun _ => rfl,
      tim := fun _ => rfl,
      mnt := fun _ => rfl,
      flt := fun _ => rfl,
      fld := fun _ => rfl,
      ofe := fun _ => rfl,
      fib := fun _ => rfl,
      tmp := fun _ => rfl,
      lpe := fun _ => rfl,
      drp := fun _ => rfl,
      pai := fun _ => rfl,
      sessNo := fun _ => rfl,
      latches := fun _ => rfl,
      ans := fun _ => rfl,
      sent := fun _ => rfl,
      regs := fun b => absurd (w 0 b) (by decide),
      pending := rfl,
      identity := rfl,
      regsWf := k,
      memWf := id }

theorem frame_mem {W : Nat} {s t : State} (w : Within 2 W) (h : Frame W s t) {m : List Host.Cell}
    (k : NMap.wf memDefault t.mem = true → NMap.wf memDefault m = true) : Frame W s { t with mem := m } :=
  frame_trans h
    { regs := fun _ => rfl,
      ltc := fun _ => rfl,
      ltcRun := fun _ => rfl,
      free := fun _ => rfl,
      nv := fun _ => rfl,
      sys := fun _ => rfl,
      pln := fun _ => rfl,
      sched := fun _ => rfl,
      lanes := fun _ => rfl,
      seqs := fun _ => rfl,
      pops := fun _ => rfl,
      jobs := fun _ => rfl,
      clk := fun _ => rfl,
      shb := fun _ => rfl,
      resync := fun _ => rfl,
      units := fun _ => rfl,
      sessions := fun _ => rfl,
      upl := fun _ => rfl,
      tim := fun _ => rfl,
      mnt := fun _ => rfl,
      flt := fun _ => rfl,
      fld := fun _ => rfl,
      ofe := fun _ => rfl,
      fib := fun _ => rfl,
      tmp := fun _ => rfl,
      lpe := fun _ => rfl,
      drp := fun _ => rfl,
      pai := fun _ => rfl,
      sessNo := fun _ => rfl,
      latches := fun _ => rfl,
      ans := fun _ => rfl,
      sent := fun _ => rfl,
      mem := fun b => absurd (w 1 b) (by decide),
      pending := rfl,
      identity := rfl,
      regsWf := id,
      memWf := k }

end Sys2Proof.Machine
end

