-- ==== Sys2Proof/Laws/FrameOps.lean ====
section
/-!
SUPPORT. The frame of each operation of Machine/Ops.lean.
-/

set_option maxRecDepth 4000

namespace Sys2Proof.Machine

set_option linter.all false
set_option Elab.async false

theorem State.wr_frame {W : Nat} {zz s : State} {a : Nat} {v : Word} (w : Within 1 W) (h : Frame W zz s) :
    Frame W zz (s.wr a v) := frame_regs w h (NMap.wf_set resetWord s.regs a v)

theorem State.wf_frame {W : Nat} {zz : State} {s : State} {a : Nat} {f : Fld} {v : Nat} (hw : Within 1 W) (hs : Frame W zz s) :
    Frame W zz (State.wf s a f v) := by
  unfold State.wf
  try dsimp only
  repeat' (first
    | with_reducible exact hs
    | with_reducible assumption
    | with_reducible refine frame_ite ?_ ?_
    | with_reducible refine State.wr_frame (within_trans (by decide) hw) ?_
    | dsimp only)

theorem State.wr64_frame {W : Nat} {zz : State} {s : State} {lo hi : Nat} {v : Nat} (hw : Within 1 W) (hs : Frame W zz s) :
    Frame W zz (State.wr64 s lo hi v) := by
  unfold State.wr64
  try dsimp only
  repeat' (first
    | with_reducible exact hs
    | with_reducible assumption
    | with_reducible refine frame_ite ?_ ?_
    | with_reducible refine State.wr_frame (within_trans (by decide) hw) ?_
    | dsimp only)

theorem State.fresh_frame {W : Nat} {zz : State} {s : State} (hw : Within 16 W) (hs : Frame W zz s) :
    Frame W zz (State.fresh s) := by
  unfold State.fresh
  try dsimp only
  repeat' (first
    | with_reducible exact hs
    | with_reducible assumption
    | with_reducible refine frame_ite ?_ ?_
    | ((conv => arg 3; arg 34); with_reducible apply frame_mk)
    | exact fun b => absurd (hw _ b) (by decide)
    | with_reducible exact fun _ => rfl
    | ((with_reducible show NonVol.identity _ = NonVol.identity _); rfl)
    | dsimp only)

theorem State.tally_frame {W : Nat} {zz : State} {s : State} {a n : Nat} (hw : Within 1048576 W) (hs : Frame W zz s) :
    Frame W zz (State.tally s a n) := by
  unfold State.tally
  try dsimp only
  repeat' (first
    | with_reducible exact hs
    | with_reducible assumption
    | with_reducible refine frame_ite ?_ ?_
    | ((conv => arg 3; arg 34); with_reducible apply frame_mk)
    | exact fun b => absurd (hw _ b) (by decide)
    | with_reducible exact fun _ => rfl
    | ((with_reducible show NonVol.identity _ = NonVol.identity _); rfl)
    | split
    | dsimp only)

theorem State.count_frame {W : Nat} {zz : State} {s : State} {a : Nat} (hw : Within 1048593 W) (hs : Frame W zz s) :
    Frame W zz (State.count s a) := by
  unfold State.count
  try dsimp only
  repeat' (first
    | with_reducible exact hs
    | with_reducible assumption
    | with_reducible refine frame_ite ?_ ?_
    | with_reducible refine State.wr_frame (within_trans (by decide) hw) ?_
    | with_reducible refine State.fresh_frame (within_trans (by decide) hw) ?_
    | with_reducible refine State.tally_frame (within_trans (by decide) hw) ?_
    | split
    | dsimp only)

theorem State.countN_frame {W : Nat} {zz : State} {s : State} {a n : Nat} (hw : Within 1048593 W) (hs : Frame W zz s) :
    Frame W zz (State.countN s a n) := by
  unfold State.countN
  try dsimp only
  repeat' (first
    | with_reducible exact hs
    | with_reducible assumption
    | with_reducible refine frame_ite ?_ ?_
    | with_reducible refine State.wr_frame (within_trans (by decide) hw) ?_
    | with_reducible refine State.fresh_frame (within_trans (by decide) hw) ?_
    | with_reducible refine State.tally_frame (within_trans (by decide) hw) ?_
    | split
    | dsimp only)

theorem State.countMod_frame {W : Nat} {zz : State} {s : State} {a : Nat} (hw : Within 1 W) (hs : Frame W zz s) :
    Frame W zz (State.countMod s a) := by
  unfold State.countMod
  try dsimp only
  repeat' (first
    | with_reducible exact hs
    | with_reducible assumption
    | with_reducible refine frame_ite ?_ ?_
    | with_reducible refine State.wr_frame (within_trans (by decide) hw) ?_
    | dsimp only)

theorem State.keepMax_frame {W : Nat} {zz : State} {s : State} {a v : Nat} (hw : Within 1 W) (hs : Frame W zz s) :
    Frame W zz (State.keepMax s a v) := by
  unfold State.keepMax
  try dsimp only
  repeat' (first
    | with_reducible exact hs
    | with_reducible assumption
    | with_reducible refine frame_ite ?_ ?_
    | with_reducible refine State.wr_frame (within_trans (by decide) hw) ?_
    | split
    | dsimp only)

theorem State.advance_frame {W : Nat} {zz : State} {s : State} {t : Time} (hw : Within 4 W) (hs : Frame W zz s) :
    Frame W zz (State.advance s t) := by
  unfold State.advance
  try dsimp only
  repeat' (first
    | with_reducible exact hs
    | with_reducible assumption
    | with_reducible refine frame_ite ?_ ?_
    | ((conv => arg 3; arg 34); with_reducible apply frame_mk)
    | exact fun b => absurd (hw _ b) (by decide)
    | with_reducible exact fun _ => rfl
    | ((with_reducible show NonVol.identity _ = NonVol.identity _); rfl)
    | split
    | dsimp only)

theorem State.onSession_frame {W : Nat} {zz : State} {s : State} {x : Nat} {f : Session → Session} (hw : Within 131072 W) (hs : Frame W zz s) :
    Frame W zz (State.onSession s x f) := by
  unfold State.onSession
  try dsimp only
  repeat' (first
    | with_reducible exact hs
    | with_reducible assumption
    | with_reducible refine frame_ite ?_ ?_
    | ((conv => arg 3; arg 34); with_reducible apply frame_mk)
    | exact fun b => absurd (hw _ b) (by decide)
    | with_reducible exact fun _ => rfl
    | ((with_reducible show NonVol.identity _ = NonVol.identity _); rfl)
    | split
    | dsimp only)

theorem State.noteEvent_frame {W : Nat} {zz : State} {s : State} {page bit : Nat} (hw : Within 131072 W) (hs : Frame W zz s) :
    Frame W zz (State.noteEvent s page bit) := by
  unfold State.noteEvent
  try dsimp only
  repeat' (first
    | with_reducible exact hs
    | with_reducible assumption
    | with_reducible refine frame_ite ?_ ?_
    | ((conv => arg 3; arg 34); with_reducible apply frame_mk)
    | exact fun b => absurd (hw _ b) (by decide)
    | with_reducible exact fun _ => rfl
    | ((with_reducible show NonVol.identity _ = NonVol.identity _); rfl)
    | split
    | dsimp only)

theorem State.raise_frame {W : Nat} {zz : State} {s : State} {page bit : Nat} (hw : Within 131073 W) (hs : Frame W zz s) :
    Frame W zz (State.raise s page bit) := by
  unfold State.raise
  try dsimp only
  repeat' (first
    | with_reducible exact hs
    | with_reducible assumption
    | with_reducible refine frame_ite ?_ ?_
    | with_reducible refine State.wr_frame (within_trans (by decide) hw) ?_
    | with_reducible refine State.countMod_frame (within_trans (by decide) hw) ?_
    | with_reducible refine State.noteEvent_frame (within_trans (by decide) hw) ?_
    | split
    | dsimp only)

theorem State.err_frame {W : Nat} {zz : State} {s : State} {page code : Nat} (hw : Within 131073 W) (hs : Frame W zz s) :
    Frame W zz (State.err s page code) := by
  unfold State.err
  try dsimp only
  repeat' (first
    | with_reducible exact hs
    | with_reducible assumption
    | with_reducible refine frame_ite ?_ ?_
    | with_reducible refine State.wr_frame (within_trans (by decide) hw) ?_
    | with_reducible refine State.countMod_frame (within_trans (by decide) hw) ?_
    | with_reducible refine State.noteEvent_frame (within_trans (by decide) hw) ?_
    | split
    | dsimp only)

theorem State.wrByte_frame {W : Nat} {zz s : State} {a : Nat} {b : Byte} (w : Within 2 W) (h : Frame W zz s) :
    Frame W zz (s.wrByte a b) := frame_mem w h (NMap.wf_set memDefault s.mem a b)

theorem State.wrBytes_frame {W : Nat} {zz s : State} {a : Nat} {l : List Byte} (w : Within 2 W)
    (h : Frame W zz s) : Frame W zz (s.wrBytes a l) := by
  induction l generalizing s a with
  | nil => exact h
  | cons b l ih => exact ih (State.wrByte_frame w h)

theorem State.wrWord_frame {W : Nat} {zz : State} {s : State} {a : Nat} {w : Word} (hw : Within 2 W) (hs : Frame W zz s) :
    Frame W zz (State.wrWord s a w) := by
  unfold State.wrWord
  try dsimp only
  repeat' (first
    | with_reducible exact hs
    | with_reducible assumption
    | with_reducible refine frame_ite ?_ ?_
    | with_reducible refine State.wrBytes_frame (within_trans (by decide) hw) ?_
    | dsimp only)

theorem State.emitOut_frame {W : Nat} {zz : State} {s : State} {o : Out} (hw : Within 4294967296 W) (hs : Frame W zz s) :
    Frame W zz (State.emitOut s o) := by
  unfold State.emitOut
  try dsimp only
  repeat' (first
    | with_reducible exact hs
    | with_reducible assumption
    | with_reducible refine frame_ite ?_ ?_
    | ((conv => arg 3; arg 34); with_reducible apply frame_mk)
    | exact fun b => absurd (hw _ b) (by decide)
    | with_reducible exact fun _ => rfl
    | ((with_reducible show NonVol.identity _ = NonVol.identity _); rfl)
    | dsimp only)

theorem State.logFault_frame {W : Nat} {zz : State} {s : State} {err page data : Nat} (hw : Within 1048608 W) (hs : Frame W zz s) :
    Frame W zz (State.logFault s err page data) := by
  unfold State.logFault
  try dsimp only
  repeat' (first
    | with_reducible exact hs
    | with_reducible assumption
    | with_reducible refine frame_ite ?_ ?_
    | ((conv => arg 3; arg 34); with_reducible apply frame_mk)
    | exact fun b => absurd (hw _ b) (by decide)
    | with_reducible exact fun _ => rfl
    | ((with_reducible show NonVol.identity _ = NonVol.identity _); rfl)
    | split
    | dsimp only)

theorem State.sendTether_frame {W : Nat} {zz : State} {s : State} {i kind : Nat} {m : TethMsg} (hw : Within 4563403776 W) (hs : Frame W zz s) :
    Frame W zz (State.sendTether s i kind m) := by
  unfold State.sendTether
  try dsimp only
  repeat' (first
    | with_reducible exact hs
    | with_reducible assumption
    | with_reducible refine frame_ite ?_ ?_
    | ((conv => arg 3; arg 34); with_reducible apply frame_mk)
    | exact fun b => absurd (hw _ b) (by decide)
    | with_reducible exact fun _ => rfl
    | ((with_reducible show NonVol.identity _ = NonVol.identity _); rfl)
    | dsimp only)

theorem State.sendLane_frame {W : Nat} {zz : State} {s : State} {i kind : Nat} {m : TethMsg} (hw : Within 4563403776 W) (hs : Frame W zz s) :
    Frame W zz (State.sendLane s i kind m) := by
  unfold State.sendLane
  try dsimp only
  repeat' (first
    | with_reducible exact hs
    | with_reducible assumption
    | with_reducible refine frame_ite ?_ ?_
    | with_reducible refine State.sendTether_frame (within_trans (by decide) hw) ?_
    | split
    | dsimp only)

theorem State.sendBoth_frame {W : Nat} {zz : State} {s : State} {kind : Nat} {m : TethMsg} (hw : Within 4563403776 W) (hs : Frame W zz s) :
    Frame W zz (State.sendBoth s kind m) := by
  unfold State.sendBoth
  try dsimp only
  repeat' (first
    | with_reducible exact hs
    | with_reducible assumption
    | with_reducible refine frame_ite ?_ ?_
    | with_reducible refine State.sendTether_frame (within_trans (by decide) hw) ?_
    | split
    | dsimp only)

theorem State.copyItem_frame {W : Nat} {zz : State} {s : State} {o : CopyOp} (hw : Within 4563403776 W) (hs : Frame W zz s) :
    Frame W zz (State.copyItem s o) := by
  unfold State.copyItem
  try dsimp only
  repeat' (first
    | with_reducible exact hs
    | with_reducible assumption
    | with_reducible refine frame_ite ?_ ?_
    | with_reducible refine State.sendBoth_frame (within_trans (by decide) hw) ?_
    | ((conv => arg 3; arg 34); with_reducible apply frame_mk)
    | exact fun b => absurd (hw _ b) (by decide)
    | with_reducible exact fun _ => rfl
    | ((with_reducible show NonVol.identity _ = NonVol.identity _); rfl)
    | split
    | dsimp only)

end Sys2Proof.Machine
end

