-- ==== Sys2Proof/Laws/State.lean ====
section
/-!
SUPPORT. What the named operations of Machine/Ops.lean leave alone, field by field, for the simplifier.
-/

namespace Sys2Proof.Machine

@[simp] theorem State.wr_mem (s : State) (a : Nat) (w : Word) : (State.wr s a w).mem = s.mem :=
  (State.wr_frame (within_refl _) (frame_refl _ s)).mem (by decide)
@[simp] theorem State.wr_ltc (s : State) (a : Nat) (w : Word) : (State.wr s a w).ltc = s.ltc :=
  (State.wr_frame (within_refl _) (frame_refl _ s)).ltc (by decide)
@[simp] theorem State.wr_ltcRun (s : State) (a : Nat) (w : Word) : (State.wr s a w).ltcRun = s.ltcRun :=
  (State.wr_frame (within_refl _) (frame_refl _ s)).ltcRun (by decide)
@[simp] theorem State.wr_free (s : State) (a : Nat) (w : Word) : (State.wr s a w).free = s.free :=
  (State.wr_frame (within_refl _) (frame_refl _ s)).free (by decide)
@[simp] theorem State.wr_nv (s : State) (a : Nat) (w : Word) : (State.wr s a w).nv = s.nv :=
  (State.wr_frame (within_refl _) (frame_refl _ s)).nv (by decide)
@[simp] theorem State.wr_sys (s : State) (a : Nat) (w : Word) : (State.wr s a w).sys = s.sys :=
  (State.wr_frame (within_refl _) (frame_refl _ s)).sys (by decide)
@[simp] theorem State.wr_pln (s : State) (a : Nat) (w : Word) : (State.wr s a w).pln = s.pln :=
  (State.wr_frame (within_refl _) (frame_refl _ s)).pln (by decide)
@[simp] theorem State.wr_sched (s : State) (a : Nat) (w : Word) : (State.wr s a w).sched = s.sched :=
  (State.wr_frame (within_refl _) (frame_refl _ s)).sched (by decide)
@[simp] theorem State.wr_lanes (s : State) (a : Nat) (w : Word) : (State.wr s a w).lanes = s.lanes :=
  (State.wr_frame (within_refl _) (frame_refl _ s)).lanes (by decide)
@[simp] theorem State.wr_seqs (s : State) (a : Nat) (w : Word) : (State.wr s a w).seqs = s.seqs :=
  (State.wr_frame (within_refl _) (frame_refl _ s)).seqs (by decide)
@[simp] theorem State.wr_pops (s : State) (a : Nat) (w : Word) : (State.wr s a w).pops = s.pops :=
  (State.wr_frame (within_refl _) (frame_refl _ s)).pops (by decide)
@[simp] theorem State.wr_jobs (s : State) (a : Nat) (w : Word) : (State.wr s a w).jobs = s.jobs :=
  (State.wr_frame (within_refl _) (frame_refl _ s)).jobs (by decide)
@[simp] theorem State.wr_clk (s : State) (a : Nat) (w : Word) : (State.wr s a w).clk = s.clk :=
  (State.wr_frame (within_refl _) (frame_refl _ s)).clk (by decide)
@[simp] theorem State.wr_shb (s : State) (a : Nat) (w : Word) : (State.wr s a w).shb = s.shb :=
  (State.wr_frame (within_refl _) (frame_refl _ s)).shb (by decide)
@[simp] theorem State.wr_resync (s : State) (a : Nat) (w : Word) : (State.wr s a w).resync = s.resync :=
  (State.wr_frame (within_refl _) (frame_refl _ s)).resync (by decide)
@[simp] theorem State.wr_units (s : State) (a : Nat) (w : Word) : (State.wr s a w).units = s.units :=
  (State.wr_frame (within_refl _) (frame_refl _ s)).units (by decide)
@[simp] theorem State.wr_sessions (s : State) (a : Nat) (w : Word) : (State.wr s a w).sessions = s.sessions :=
  (State.wr_frame (within_refl _) (frame_refl _ s)).sessions (by decide)
@[simp] theorem State.wr_upl (s : State) (a : Nat) (w : Word) : (State.wr s a w).upl = s.upl :=
  (State.wr_frame (within_refl _) (frame_refl _ s)).upl (by decide)
@[simp] theorem State.wr_tim (s : State) (a : Nat) (w : Word) : (State.wr s a w).tim = s.tim :=
  (State.wr_frame (within_refl _) (frame_refl _ s)).tim (by decide)
@[simp] theorem State.wr_mnt (s : State) (a : Nat) (w : Word) : (State.wr s a w).mnt = s.mnt :=
  (State.wr_frame (within_refl _) (frame_refl _ s)).mnt (by decide)
@[simp] theorem State.wr_flt (s : State) (a : Nat) (w : Word) : (State.wr s a w).flt = s.flt :=
  (State.wr_frame (within_refl _) (frame_refl _ s)).flt (by decide)
@[simp] theorem State.wr_fld (s : State) (a : Nat) (w : Word) : (State.wr s a w).fld = s.fld :=
  (State.wr_frame (within_refl _) (frame_refl _ s)).fld (by decide)
@[simp] theorem State.wr_ofe (s : State) (a : Nat) (w : Word) : (State.wr s a w).ofe = s.ofe :=
  (State.wr_frame (within_refl _) (frame_refl _ s)).ofe (by decide)
@[simp] theorem State.wr_fib (s : State) (a : Nat) (w : Word) : (State.wr s a w).fib = s.fib :=
  (State.wr_frame (within_refl _) (frame_refl _ s)).fib (by decide)
@[simp] theorem State.wr_tmp (s : State) (a : Nat) (w : Word) : (State.wr s a w).tmp = s.tmp :=
  (State.wr_frame (within_refl _) (frame_refl _ s)).tmp (by decide)
@[simp] theorem State.wr_lpe (s : State) (a : Nat) (w : Word) : (State.wr s a w).lpe = s.lpe :=
  (State.wr_frame (within_refl _) (frame_refl _ s)).lpe (by decide)
@[simp] theorem State.wr_drp (s : State) (a : Nat) (w : Word) : (State.wr s a w).drp = s.drp :=
  (State.wr_frame (within_refl _) (frame_refl _ s)).drp (by decide)
@[simp] theorem State.wr_pai (s : State) (a : Nat) (w : Word) : (State.wr s a w).pai = s.pai :=
  (State.wr_frame (within_refl _) (frame_refl _ s)).pai (by decide)
@[simp] theorem State.wr_sessNo (s : State) (a : Nat) (w : Word) : (State.wr s a w).sessNo = s.sessNo :=
  (State.wr_frame (within_refl _) (frame_refl _ s)).sessNo (by decide)
@[simp] theorem State.wr_latches (s : State) (a : Nat) (w : Word) : (State.wr s a w).latches = s.latches :=
  (State.wr_frame (within_refl _) (frame_refl _ s)).latches (by decide)
@[simp] theorem State.wr_ans (s : State) (a : Nat) (w : Word) : (State.wr s a w).ans = s.ans :=
  (State.wr_frame (within_refl _) (frame_refl _ s)).ans (by decide)
@[simp] theorem State.wr_sent (s : State) (a : Nat) (w : Word) : (State.wr s a w).sent = s.sent :=
  (State.wr_frame (within_refl _) (frame_refl _ s)).sent (by decide)
@[simp] theorem State.wr_pending (s : State) (a : Nat) (w : Word) : (State.wr s a w).pending = s.pending :=
  (State.wr_frame (within_refl _) (frame_refl _ s)).pending

@[simp] theorem State.wf_mem (s : State) (a : Nat) (f : Fld) (v : Nat) : (State.wf s a f v).mem = s.mem :=
  (State.wf_frame (within_refl _) (frame_refl _ s)).mem (by decide)
@[simp] theorem State.wf_ltc (s : State) (a : Nat) (f : Fld) (v : Nat) : (State.wf s a f v).ltc = s.ltc :=
  (State.wf_frame (within_refl _) (frame_refl _ s)).ltc (by decide)
@[simp] theorem State.wf_ltcRun (s : State) (a : Nat) (f : Fld) (v : Nat) : (State.wf s a f v).ltcRun = s.ltcRun :=
  (State.wf_frame (within_refl _) (frame_refl _ s)).ltcRun (by decide)
@[simp] theorem State.wf_free (s : State) (a : Nat) (f : Fld) (v : Nat) : (State.wf s a f v).free = s.free :=
  (State.wf_frame (within_refl _) (frame_refl _ s)).free (by decide)
@[simp] theorem State.wf_nv (s : State) (a : Nat) (f : Fld) (v : Nat) : (State.wf s a f v).nv = s.nv :=
  (State.wf_frame (within_refl _) (frame_refl _ s)).nv (by decide)
@[simp] theorem State.wf_sys (s : State) (a : Nat) (f : Fld) (v : Nat) : (State.wf s a f v).sys = s.sys :=
  (State.wf_frame (within_refl _) (frame_refl _ s)).sys (by decide)
@[simp] theorem State.wf_pln (s : State) (a : Nat) (f : Fld) (v : Nat) : (State.wf s a f v).pln = s.pln :=
  (State.wf_frame (within_refl _) (frame_refl _ s)).pln (by decide)
@[simp] theorem State.wf_sched (s : State) (a : Nat) (f : Fld) (v : Nat) : (State.wf s a f v).sched = s.sched :=
  (State.wf_frame (within_refl _) (frame_refl _ s)).sched (by decide)
@[simp] theorem State.wf_lanes (s : State) (a : Nat) (f : Fld) (v : Nat) : (State.wf s a f v).lanes = s.lanes :=
  (State.wf_frame (within_refl _) (frame_refl _ s)).lanes (by decide)
@[simp] theorem State.wf_seqs (s : State) (a : Nat) (f : Fld) (v : Nat) : (State.wf s a f v).seqs = s.seqs :=
  (State.wf_frame (within_refl _) (frame_refl _ s)).seqs (by decide)
@[simp] theorem State.wf_pops (s : State) (a : Nat) (f : Fld) (v : Nat) : (State.wf s a f v).pops = s.pops :=
  (State.wf_frame (within_refl _) (frame_refl _ s)).pops (by decide)
@[simp] theorem State.wf_jobs (s : State) (a : Nat) (f : Fld) (v : Nat) : (State.wf s a f v).jobs = s.jobs :=
  (State.wf_frame (within_refl _) (frame_refl _ s)).jobs (by decide)
@[simp] theorem State.wf_clk (s : State) (a : Nat) (f : Fld) (v : Nat) : (State.wf s a f v).clk = s.clk :=
  (State.wf_frame (within_refl _) (frame_refl _ s)).clk (by decide)
@[simp] theorem State.wf_shb (s : State) (a : Nat) (f : Fld) (v : Nat) : (State.wf s a f v).shb = s.shb :=
  (State.wf_frame (within_refl _) (frame_refl _ s)).shb (by decide)
@[simp] theorem State.wf_resync (s : State) (a : Nat) (f : Fld) (v : Nat) : (State.wf s a f v).resync = s.resync :=
  (State.wf_frame (within_refl _) (frame_refl _ s)).resync (by decide)
@[simp] theorem State.wf_units (s : State) (a : Nat) (f : Fld) (v : Nat) : (State.wf s a f v).units = s.units :=
  (State.wf_frame (within_refl _) (frame_refl _ s)).units (by decide)
@[simp] theorem State.wf_sessions (s : State) (a : Nat) (f : Fld) (v : Nat) : (State.wf s a f v).sessions = s.sessions :=
  (State.wf_frame (within_refl _) (frame_refl _ s)).sessions (by decide)
@[simp] theorem State.wf_upl (s : State) (a : Nat) (f : Fld) (v : Nat) : (State.wf s a f v).upl = s.upl :=
  (State.wf_frame (within_refl _) (frame_refl _ s)).upl (by decide)
@[simp] theorem State.wf_tim (s : State) (a : Nat) (f : Fld) (v : Nat) : (State.wf s a f v).tim = s.tim :=
  (State.wf_frame (within_refl _) (frame_refl _ s)).tim (by decide)
@[simp] theorem State.wf_mnt (s : State) (a : Nat) (f : Fld) (v : Nat) : (State.wf s a f v).mnt = s.mnt :=
  (State.wf_frame (within_refl _) (frame_refl _ s)).mnt (by decide)
@[simp] theorem State.wf_flt (s : State) (a : Nat) (f : Fld) (v : Nat) : (State.wf s a f v).flt = s.flt :=
  (State.wf_frame (within_refl _) (frame_refl _ s)).flt (by decide)
@[simp] theorem State.wf_fld (s : State) (a : Nat) (f : Fld) (v : Nat) : (State.wf s a f v).fld = s.fld :=
  (State.wf_frame (within_refl _) (frame_refl _ s)).fld (by decide)
@[simp] theorem State.wf_ofe (s : State) (a : Nat) (f : Fld) (v : Nat) : (State.wf s a f v).ofe = s.ofe :=
  (State.wf_frame (within_refl _) (frame_refl _ s)).ofe (by decide)
@[simp] theorem State.wf_fib (s : State) (a : Nat) (f : Fld) (v : Nat) : (State.wf s a f v).fib = s.fib :=
  (State.wf_frame (within_refl _) (frame_refl _ s)).fib (by decide)
@[simp] theorem State.wf_tmp (s : State) (a : Nat) (f : Fld) (v : Nat) : (State.wf s a f v).tmp = s.tmp :=
  (State.wf_frame (within_refl _) (frame_refl _ s)).tmp (by decide)
@[simp] theorem State.wf_lpe (s : State) (a : Nat) (f : Fld) (v : Nat) : (State.wf s a f v).lpe = s.lpe :=
  (State.wf_frame (within_refl _) (frame_refl _ s)).lpe (by decide)
@[simp] theorem State.wf_drp (s : State) (a : Nat) (f : Fld) (v : Nat) : (State.wf s a f v).drp = s.drp :=
  (State.wf_frame (within_refl _) (frame_refl _ s)).drp (by decide)
@[simp] theorem State.wf_pai (s : State) (a : Nat) (f : Fld) (v : Nat) : (State.wf s a f v).pai = s.pai :=
  (State.wf_frame (within_refl _) (frame_refl _ s)).pai (by decide)
@[simp] theorem State.wf_sessNo (s : State) (a : Nat) (f : Fld) (v : Nat) : (State.wf s a f v).sessNo = s.sessNo :=
  (State.wf_frame (within_refl _) (frame_refl _ s)).sessNo (by decide)
@[simp] theorem State.wf_latches (s : State) (a : Nat) (f : Fld) (v : Nat) : (State.wf s a f v).latches = s.latches :=
  (State.wf_frame (within_refl _) (frame_refl _ s)).latches (by decide)
@[simp] theorem State.wf_ans (s : State) (a : Nat) (f : Fld) (v : Nat) : (State.wf s a f v).ans = s.ans :=
  (State.wf_frame (within_refl _) (frame_refl _ s)).ans (by decide)
@[simp] theorem State.wf_sent (s : State) (a : Nat) (f : Fld) (v : Nat) : (State.wf s a f v).sent = s.sent :=
  (State.wf_frame (within_refl _) (frame_refl _ s)).sent (by decide)
@[simp] theorem State.wf_pending (s : State) (a : Nat) (f : Fld) (v : Nat) : (State.wf s a f v).pending = s.pending :=
  (State.wf_frame (within_refl _) (frame_refl _ s)).pending

@[simp] theorem State.wr64_mem (s : State) (lo hi : Nat) (v : Nat) : (State.wr64 s lo hi v).mem = s.mem :=
  (State.wr64_frame (within_refl _) (frame_refl _ s)).mem (by decide)
@[simp] theorem State.wr64_ltc (s : State) (lo hi : Nat) (v : Nat) : (State.wr64 s lo hi v).ltc = s.ltc :=
  (State.wr64_frame (within_refl _) (frame_refl _ s)).ltc (by decide)
@[simp] theorem State.wr64_ltcRun (s : State) (lo hi : Nat) (v : Nat) : (State.wr64 s lo hi v).ltcRun = s.ltcRun :=
  (State.wr64_frame (within_refl _) (frame_refl _ s)).ltcRun (by decide)
@[simp] theorem State.wr64_free (s : State) (lo hi : Nat) (v : Nat) : (State.wr64 s lo hi v).free = s.free :=
  (State.wr64_frame (within_refl _) (frame_refl _ s)).free (by decide)
@[simp] theorem State.wr64_nv (s : State) (lo hi : Nat) (v : Nat) : (State.wr64 s lo hi v).nv = s.nv :=
  (State.wr64_frame (within_refl _) (frame_refl _ s)).nv (by decide)
@[simp] theorem State.wr64_sys (s : State) (lo hi : Nat) (v : Nat) : (State.wr64 s lo hi v).sys = s.sys :=
  (State.wr64_frame (within_refl _) (frame_refl _ s)).sys (by decide)
@[simp] theorem State.wr64_pln (s : State) (lo hi : Nat) (v : Nat) : (State.wr64 s lo hi v).pln = s.pln :=
  (State.wr64_frame (within_refl _) (frame_refl _ s)).pln (by decide)
@[simp] theorem State.wr64_sched (s : State) (lo hi : Nat) (v : Nat) : (State.wr64 s lo hi v).sched = s.sched :=
  (State.wr64_frame (within_refl _) (frame_refl _ s)).sched (by decide)
@[simp] theorem State.wr64_lanes (s : State) (lo hi : Nat) (v : Nat) : (State.wr64 s lo hi v).lanes = s.lanes :=
  (State.wr64_frame (within_refl _) (frame_refl _ s)).lanes (by decide)
@[simp] theorem State.wr64_seqs (s : State) (lo hi : Nat) (v : Nat) : (State.wr64 s lo hi v).seqs = s.seqs :=
  (State.wr64_frame (within_refl _) (frame_refl _ s)).seqs (by decide)
@[simp] theorem State.wr64_pops (s : State) (lo hi : Nat) (v : Nat) : (State.wr64 s lo hi v).pops = s.pops :=
  (State.wr64_frame (within_refl _) (frame_refl _ s)).pops (by decide)
@[simp] theorem State.wr64_jobs (s : State) (lo hi : Nat) (v : Nat) : (State.wr64 s lo hi v).jobs = s.jobs :=
  (State.wr64_frame (within_refl _) (frame_refl _ s)).jobs (by decide)
@[simp] theorem State.wr64_clk (s : State) (lo hi : Nat) (v : Nat) : (State.wr64 s lo hi v).clk = s.clk :=
  (State.wr64_frame (within_refl _) (frame_refl _ s)).clk (by decide)
@[simp] theorem State.wr64_shb (s : State) (lo hi : Nat) (v : Nat) : (State.wr64 s lo hi v).shb = s.shb :=
  (State.wr64_frame (within_refl _) (frame_refl _ s)).shb (by decide)
@[simp] theorem State.wr64_resync (s : State) (lo hi : Nat) (v : Nat) : (State.wr64 s lo hi v).resync = s.resync :=
  (State.wr64_frame (within_refl _) (frame_refl _ s)).resync (by decide)
@[simp] theorem State.wr64_units (s : State) (lo hi : Nat) (v : Nat) : (State.wr64 s lo hi v).units = s.units :=
  (State.wr64_frame (within_refl _) (frame_refl _ s)).units (by decide)
@[simp] theorem State.wr64_sessions (s : State) (lo hi : Nat) (v : Nat) : (State.wr64 s lo hi v).sessions = s.sessions :=
  (State.wr64_frame (within_refl _) (frame_refl _ s)).sessions (by decide)
@[simp] theorem State.wr64_upl (s : State) (lo hi : Nat) (v : Nat) : (State.wr64 s lo hi v).upl = s.upl :=
  (State.wr64_frame (within_refl _) (frame_refl _ s)).upl (by decide)
@[simp] theorem State.wr64_tim (s : State) (lo hi : Nat) (v : Nat) : (State.wr64 s lo hi v).tim = s.tim :=
  (State.wr64_frame (within_refl _) (frame_refl _ s)).tim (by decide)
@[simp] theorem State.wr64_mnt (s : State) (lo hi : Nat) (v : Nat) : (State.wr64 s lo hi v).mnt = s.mnt :=
  (State.wr64_frame (within_refl _) (frame_refl _ s)).mnt (by decide)
@[simp] theorem State.wr64_flt (s : State) (lo hi : Nat) (v : Nat) : (State.wr64 s lo hi v).flt = s.flt :=
  (State.wr64_frame (within_refl _) (frame_refl _ s)).flt (by decide)
@[simp] theorem State.wr64_fld (s : State) (lo hi : Nat) (v : Nat) : (State.wr64 s lo hi v).fld = s.fld :=
  (State.wr64_frame (within_refl _) (frame_refl _ s)).fld (by decide)
@[simp] theorem State.wr64_ofe (s : State) (lo hi : Nat) (v : Nat) : (State.wr64 s lo hi v).ofe = s.ofe :=
  (State.wr64_frame (within_refl _) (frame_refl _ s)).ofe (by decide)
@[simp] theorem State.wr64_fib (s : State) (lo hi : Nat) (v : Nat) : (State.wr64 s lo hi v).fib = s.fib :=
  (State.wr64_frame (within_refl _) (frame_refl _ s)).fib (by decide)
@[simp] theorem State.wr64_tmp (s : State) (lo hi : Nat) (v : Nat) : (State.wr64 s lo hi v).tmp = s.tmp :=
  (State.wr64_frame (within_refl _) (frame_refl _ s)).tmp (by decide)
@[simp] theorem State.wr64_lpe (s : State) (lo hi : Nat) (v : Nat) : (State.wr64 s lo hi v).lpe = s.lpe :=
  (State.wr64_frame (within_refl _) (frame_refl _ s)).lpe (by decide)
@[simp] theorem State.wr64_drp (s : State) (lo hi : Nat) (v : Nat) : (State.wr64 s lo hi v).drp = s.drp :=
  (State.wr64_frame (within_refl _) (frame_refl _ s)).drp (by decide)
@[simp] theorem State.wr64_pai (s : State) (lo hi : Nat) (v : Nat) : (State.wr64 s lo hi v).pai = s.pai :=
  (State.wr64_frame (within_refl _) (frame_refl _ s)).pai (by decide)
@[simp] theorem State.wr64_sessNo (s : State) (lo hi : Nat) (v : Nat) : (State.wr64 s lo hi v).sessNo = s.sessNo :=
  (State.wr64_frame (within_refl _) (frame_refl _ s)).sessNo (by decide)
@[simp] theorem State.wr64_latches (s : State) (lo hi : Nat) (v : Nat) : (State.wr64 s lo hi v).latches = s.latches :=
  (State.wr64_frame (within_refl _) (frame_refl _ s)).latches (by decide)
@[simp] theorem State.wr64_ans (s : State) (lo hi : Nat) (v : Nat) : (State.wr64 s lo hi v).ans = s.ans :=
  (State.wr64_frame (within_refl _) (frame_refl _ s)).ans (by decide)
@[simp] theorem State.wr64_sent (s : State) (lo hi : Nat) (v : Nat) : (State.wr64 s lo hi v).sent = s.sent :=
  (State.wr64_frame (within_refl _) (frame_refl _ s)).sent (by decide)
@[simp] theorem State.wr64_pending (s : State) (lo hi : Nat) (v : Nat) : (State.wr64 s lo hi v).pending = s.pending :=
  (State.wr64_frame (within_refl _) (frame_refl _ s)).pending

@[simp] theorem State.fresh_regs (s : State) : (State.fresh s).regs = s.regs :=
  (State.fresh_frame (within_refl _) (frame_refl _ s)).regs (by decide)
@[simp] theorem State.fresh_mem (s : State) : (State.fresh s).mem = s.mem :=
  (State.fresh_frame (within_refl _) (frame_refl _ s)).mem (by decide)
@[simp] theorem State.fresh_ltc (s : State) : (State.fresh s).ltc = s.ltc :=
  (State.fresh_frame (within_refl _) (frame_refl _ s)).ltc (by decide)
@[simp] theorem State.fresh_ltcRun (s : State) : (State.fresh s).ltcRun = s.ltcRun :=
  (State.fresh_frame (within_refl _) (frame_refl _ s)).ltcRun (by decide)
@[simp] theorem State.fresh_nv (s : State) : (State.fresh s).nv = s.nv :=
  (State.fresh_frame (within_refl _) (frame_refl _ s)).nv (by decide)
@[simp] theorem State.fresh_sys (s : State) : (State.fresh s).sys = s.sys :=
  (State.fresh_frame (within_refl _) (frame_refl _ s)).sys (by decide)
@[simp] theorem State.fresh_pln (s : State) : (State.fresh s).pln = s.pln :=
  (State.fresh_frame (within_refl _) (frame_refl _ s)).pln (by decide)
@[simp] theorem State.fresh_sched (s : State) : (State.fresh s).sched = s.sched :=
  (State.fresh_frame (within_refl _) (frame_refl _ s)).sched (by decide)
@[simp] theorem State.fresh_lanes (s : State) : (State.fresh s).lanes = s.lanes :=
  (State.fresh_frame (within_refl _) (frame_refl _ s)).lanes (by decide)
@[simp] theorem State.fresh_seqs (s : State) : (State.fresh s).seqs = s.seqs :=
  (State.fresh_frame (within_refl _) (frame_refl _ s)).seqs (by decide)
@[simp] theorem State.fresh_pops (s : State) : (State.fresh s).pops = s.pops :=
  (State.fresh_frame (within_refl _) (frame_refl _ s)).pops (by decide)
@[simp] theorem State.fresh_jobs (s : State) : (State.fresh s).jobs = s.jobs :=
  (State.fresh_frame (within_refl _) (frame_refl _ s)).jobs (by decide)
@[simp] theorem State.fresh_clk (s : State) : (State.fresh s).clk = s.clk :=
  (State.fresh_frame (within_refl _) (frame_refl _ s)).clk (by decide)
@[simp] theorem State.fresh_shb (s : State) : (State.fresh s).shb = s.shb :=
  (State.fresh_frame (within_refl _) (frame_refl _ s)).shb (by decide)
@[simp] theorem State.fresh_resync (s : State) : (State.fresh s).resync = s.resync :=
  (State.fresh_frame (within_refl _) (frame_refl _ s)).resync (by decide)
@[simp] theorem State.fresh_units (s : State) : (State.fresh s).units = s.units :=
  (State.fresh_frame (within_refl _) (frame_refl _ s)).units (by decide)
@[simp] theorem State.fresh_sessions (s : State) : (State.fresh s).sessions = s.sessions :=
  (State.fresh_frame (within_refl _) (frame_refl _ s)).sessions (by decide)
@[simp] theorem State.fresh_upl (s : State) : (State.fresh s).upl = s.upl :=
  (State.fresh_frame (within_refl _) (frame_refl _ s)).upl (by decide)
@[simp] theorem State.fresh_tim (s : State) : (State.fresh s).tim = s.tim :=
  (State.fresh_frame (within_refl _) (frame_refl _ s)).tim (by decide)
@[simp] theorem State.fresh_mnt (s : State) : (State.fresh s).mnt = s.mnt :=
  (State.fresh_frame (within_refl _) (frame_refl _ s)).mnt (by decide)
@[simp] theorem State.fresh_flt (s : State) : (State.fresh s).flt = s.flt :=
  (State.fresh_frame (within_refl _) (frame_refl _ s)).flt (by decide)
@[simp] theorem State.fresh_fld (s : State) : (State.fresh s).fld = s.fld :=
  (State.fresh_frame (within_refl _) (frame_refl _ s)).fld (by decide)
@[simp] theorem State.fresh_ofe (s : State) : (State.fresh s).ofe = s.ofe :=
  (State.fresh_frame (within_refl _) (frame_refl _ s)).ofe (by decide)
@[simp] theorem State.fresh_fib (s : State) : (State.fresh s).fib = s.fib :=
  (State.fresh_frame (within_refl _) (frame_refl _ s)).fib (by decide)
@[simp] theorem State.fresh_tmp (s : State) : (State.fresh s).tmp = s.tmp :=
  (State.fresh_frame (within_refl _) (frame_refl _ s)).tmp (by decide)
@[simp] theorem State.fresh_lpe (s : State) : (State.fresh s).lpe = s.lpe :=
  (State.fresh_frame (within_refl _) (frame_refl _ s)).lpe (by decide)
@[simp] theorem State.fresh_drp (s : State) : (State.fresh s).drp = s.drp :=
  (State.fresh_frame (within_refl _) (frame_refl _ s)).drp (by decide)
@[simp] theorem State.fresh_pai (s : State) : (State.fresh s).pai = s.pai :=
  (State.fresh_frame (within_refl _) (frame_refl _ s)).pai (by decide)
@[simp] theorem State.fresh_sessNo (s : State) : (State.fresh s).sessNo = s.sessNo :=
  (State.fresh_frame (within_refl _) (frame_refl _ s)).sessNo (by decide)
@[simp] theorem State.fresh_latches (s : State) : (State.fresh s).latches = s.latches :=
  (State.fresh_frame (within_refl _) (frame_refl _ s)).latches (by decide)
@[simp] theorem State.fresh_ans (s : State) : (State.fresh s).ans = s.ans :=
  (State.fresh_frame (within_refl _) (frame_refl _ s)).ans (by decide)
@[simp] theorem State.fresh_sent (s : State) : (State.fresh s).sent = s.sent :=
  (State.fresh_frame (within_refl _) (frame_refl _ s)).sent (by decide)
@[simp] theorem State.fresh_pending (s : State) : (State.fresh s).pending = s.pending :=
  (State.fresh_frame (within_refl _) (frame_refl _ s)).pending

@[simp] theorem State.tally_regs (s : State) (a n : Nat) : (State.tally s a n).regs = s.regs :=
  (State.tally_frame (within_refl _) (frame_refl _ s)).regs (by decide)
@[simp] theorem State.tally_mem (s : State) (a n : Nat) : (State.tally s a n).mem = s.mem :=
  (State.tally_frame (within_refl _) (frame_refl _ s)).mem (by decide)
@[simp] theorem State.tally_ltc (s : State) (a n : Nat) : (State.tally s a n).ltc = s.ltc :=
  (State.tally_frame (within_refl _) (frame_refl _ s)).ltc (by decide)
@[simp] theorem State.tally_ltcRun (s : State) (a n : Nat) : (State.tally s a n).ltcRun = s.ltcRun :=
  (State.tally_frame (within_refl _) (frame_refl _ s)).ltcRun (by decide)
@[simp] theorem State.tally_free (s : State) (a n : Nat) : (State.tally s a n).free = s.free :=
  (State.tally_frame (within_refl _) (frame_refl _ s)).free (by decide)
@[simp] theorem State.tally_nv (s : State) (a n : Nat) : (State.tally s a n).nv = s.nv :=
  (State.tally_frame (within_refl _) (frame_refl _ s)).nv (by decide)
@[simp] theorem State.tally_sys (s : State) (a n : Nat) : (State.tally s a n).sys = s.sys :=
  (State.tally_frame (within_refl _) (frame_refl _ s)).sys (by decide)
@[simp] theorem State.tally_pln (s : State) (a n : Nat) : (State.tally s a n).pln = s.pln :=
  (State.tally_frame (within_refl _) (frame_refl _ s)).pln (by decide)
@[simp] theorem State.tally_sched (s : State) (a n : Nat) : (State.tally s a n).sched = s.sched :=
  (State.tally_frame (within_refl _) (frame_refl _ s)).sched (by decide)
@[simp] theorem State.tally_lanes (s : State) (a n : Nat) : (State.tally s a n).lanes = s.lanes :=
  (State.tally_frame (within_refl _) (frame_refl _ s)).lanes (by decide)
@[simp] theorem State.tally_seqs (s : State) (a n : Nat) : (State.tally s a n).seqs = s.seqs :=
  (State.tally_frame (within_refl _) (frame_refl _ s)).seqs (by decide)
@[simp] theorem State.tally_pops (s : State) (a n : Nat) : (State.tally s a n).pops = s.pops :=
  (State.tally_frame (within_refl _) (frame_refl _ s)).pops (by decide)
@[simp] theorem State.tally_jobs (s : State) (a n : Nat) : (State.tally s a n).jobs = s.jobs :=
  (State.tally_frame (within_refl _) (frame_refl _ s)).jobs (by decide)
@[simp] theorem State.tally_clk (s : State) (a n : Nat) : (State.tally s a n).clk = s.clk :=
  (State.tally_frame (within_refl _) (frame_refl _ s)).clk (by decide)
@[simp] theorem State.tally_shb (s : State) (a n : Nat) : (State.tally s a n).shb = s.shb :=
  (State.tally_frame (within_refl _) (frame_refl _ s)).shb (by decide)
@[simp] theorem State.tally_resync (s : State) (a n : Nat) : (State.tally s a n).resync = s.resync :=
  (State.tally_frame (within_refl _) (frame_refl _ s)).resync (by decide)
@[simp] theorem State.tally_units (s : State) (a n : Nat) : (State.tally s a n).units = s.units :=
  (State.tally_frame (within_refl _) (frame_refl _ s)).units (by decide)
@[simp] theorem State.tally_sessions (s : State) (a n : Nat) : (State.tally s a n).sessions = s.sessions :=
  (State.tally_frame (within_refl _) (frame_refl _ s)).sessions (by decide)
@[simp] theorem State.tally_upl (s : State) (a n : Nat) : (State.tally s a n).upl = s.upl :=
  (State.tally_frame (within_refl _) (frame_refl _ s)).upl (by decide)
@[simp] theorem State.tally_tim (s : State) (a n : Nat) : (State.tally s a n).tim = s.tim :=
  (State.tally_frame (within_refl _) (frame_refl _ s)).tim (by decide)
@[simp] theorem State.tally_flt (s : State) (a n : Nat) : (State.tally s a n).flt = s.flt :=
  (State.tally_frame (within_refl _) (frame_refl _ s)).flt (by decide)
@[simp] theorem State.tally_fld (s : State) (a n : Nat) : (State.tally s a n).fld = s.fld :=
  (State.tally_frame (within_refl _) (frame_refl _ s)).fld (by decide)
@[simp] theorem State.tally_ofe (s : State) (a n : Nat) : (State.tally s a n).ofe = s.ofe :=
  (State.tally_frame (within_refl _) (frame_refl _ s)).ofe (by decide)
@[simp] theorem State.tally_fib (s : State) (a n : Nat) : (State.tally s a n).fib = s.fib :=
  (State.tally_frame (within_refl _) (frame_refl _ s)).fib (by decide)
@[simp] theorem State.tally_tmp (s : State) (a n : Nat) : (State.tally s a n).tmp = s.tmp :=
  (State.tally_frame (within_refl _) (frame_refl _ s)).tmp (by decide)
@[simp] theorem State.tally_lpe (s : State) (a n : Nat) : (State.tally s a n).lpe = s.lpe :=
  (State.tally_frame (within_refl _) (frame_refl _ s)).lpe (by decide)
@[simp] theorem State.tally_drp (s : State) (a n : Nat) : (State.tally s a n).drp = s.drp :=
  (State.tally_frame (within_refl _) (frame_refl _ s)).drp (by decide)
@[simp] theorem State.tally_pai (s : State) (a n : Nat) : (State.tally s a n).pai = s.pai :=
  (State.tally_frame (within_refl _) (frame_refl _ s)).pai (by decide)
@[simp] theorem State.tally_sessNo (s : State) (a n : Nat) : (State.tally s a n).sessNo = s.sessNo :=
  (State.tally_frame (within_refl _) (frame_refl _ s)).sessNo (by decide)
@[simp] theorem State.tally_latches (s : State) (a n : Nat) : (State.tally s a n).latches = s.latches :=
  (State.tally_frame (within_refl _) (frame_refl _ s)).latches (by decide)
@[simp] theorem State.tally_ans (s : State) (a n : Nat) : (State.tally s a n).ans = s.ans :=
  (State.tally_frame (within_refl _) (frame_refl _ s)).ans (by decide)
@[simp] theorem State.tally_sent (s : State) (a n : Nat) : (State.tally s a n).sent = s.sent :=
  (State.tally_frame (within_refl _) (frame_refl _ s)).sent (by decide)
@[simp] theorem State.tally_pending (s : State) (a n : Nat) : (State.tally s a n).pending = s.pending :=
  (State.tally_frame (within_refl _) (frame_refl _ s)).pending

@[simp] theorem State.count_mem (s : State) (a : Nat) : (State.count s a).mem = s.mem :=
  (State.count_frame (within_refl _) (frame_refl _ s)).mem (by decide)
@[simp] theorem State.count_ltc (s : State) (a : Nat) : (State.count s a).ltc = s.ltc :=
  (State.count_frame (within_refl _) (frame_refl _ s)).ltc (by decide)
@[simp] theorem State.count_ltcRun (s : State) (a : Nat) : (State.count s a).ltcRun = s.ltcRun :=
  (State.count_frame (within_refl _) (frame_refl _ s)).ltcRun (by decide)
@[simp] theorem State.count_nv (s : State) (a : Nat) : (State.count s a).nv = s.nv :=
  (State.count_frame (within_refl _) (frame_refl _ s)).nv (by decide)
@[simp] theorem State.count_sys (s : State) (a : Nat) : (State.count s a).sys = s.sys :=
  (State.count_frame (within_refl _) (frame_refl _ s)).sys (by decide)
@[simp] theorem State.count_pln (s : State) (a : Nat) : (State.count s a).pln = s.pln :=
  (State.count_frame (within_refl _) (frame_refl _ s)).pln (by decide)
@[simp] theorem State.count_sched (s : State) (a : Nat) : (State.count s a).sched = s.sched :=
  (State.count_frame (within_refl _) (frame_refl _ s)).sched (by decide)
@[simp] theorem State.count_lanes (s : State) (a : Nat) : (State.count s a).lanes = s.lanes :=
  (State.count_frame (within_refl _) (frame_refl _ s)).lanes (by decide)
@[simp] theorem State.count_seqs (s : State) (a : Nat) : (State.count s a).seqs = s.seqs :=
  (State.count_frame (within_refl _) (frame_refl _ s)).seqs (by decide)
@[simp] theorem State.count_pops (s : State) (a : Nat) : (State.count s a).pops = s.pops :=
  (State.count_frame (within_refl _) (frame_refl _ s)).pops (by decide)
@[simp] theorem State.count_jobs (s : State) (a : Nat) : (State.count s a).jobs = s.jobs :=
  (State.count_frame (within_refl _) (frame_refl _ s)).jobs (by decide)
@[simp] theorem State.count_clk (s : State) (a : Nat) : (State.count s a).clk = s.clk :=
  (State.count_frame (within_refl _) (frame_refl _ s)).clk (by decide)
@[simp] theorem State.count_shb (s : State) (a : Nat) : (State.count s a).shb = s.shb :=
  (State.count_frame (within_refl _) (frame_refl _ s)).shb (by decide)
@[simp] theorem State.count_resync (s : State) (a : Nat) : (State.count s a).resync = s.resync :=
  (State.count_frame (within_refl _) (frame_refl _ s)).resync (by decide)
@[simp] theorem State.count_units (s : State) (a : Nat) : (State.count s a).units = s.units :=
  (State.count_frame (within_refl _) (frame_refl _ s)).units (by decide)
@[simp] theorem State.count_sessions (s : State) (a : Nat) : (State.count s a).sessions = s.sessions :=
  (State.count_frame (within_refl _) (frame_refl _ s)).sessions (by decide)
@[simp] theorem State.count_upl (s : State) (a : Nat) : (State.count s a).upl = s.upl :=
  (State.count_frame (within_refl _) (frame_refl _ s)).upl (by decide)
@[simp] theorem State.count_tim (s : State) (a : Nat) : (State.count s a).tim = s.tim :=
  (State.count_frame (within_refl _) (frame_refl _ s)).tim (by decide)
@[simp] theorem State.count_flt (s : State) (a : Nat) : (State.count s a).flt = s.flt :=
  (State.count_frame (within_refl _) (frame_refl _ s)).flt (by decide)
@[simp] theorem State.count_fld (s : State) (a : Nat) : (State.count s a).fld = s.fld :=
  (State.count_frame (within_refl _) (frame_refl _ s)).fld (by decide)
@[simp] theorem State.count_ofe (s : State) (a : Nat) : (State.count s a).ofe = s.ofe :=
  (State.count_frame (within_refl _) (frame_refl _ s)).ofe (by decide)
@[simp] theorem State.count_fib (s : State) (a : Nat) : (State.count s a).fib = s.fib :=
  (State.count_frame (within_refl _) (frame_refl _ s)).fib (by decide)
@[simp] theorem State.count_tmp (s : State) (a : Nat) : (State.count s a).tmp = s.tmp :=
  (State.count_frame (within_refl _) (frame_refl _ s)).tmp (by decide)
@[simp] theorem State.count_lpe (s : State) (a : Nat) : (State.count s a).lpe = s.lpe :=
  (State.count_frame (within_refl _) (frame_refl _ s)).lpe (by decide)
@[simp] theorem State.count_drp (s : State) (a : Nat) : (State.count s a).drp = s.drp :=
  (State.count_frame (within_refl _) (frame_refl _ s)).drp (by decide)
@[simp] theorem State.count_pai (s : State) (a : Nat) : (State.count s a).pai = s.pai :=
  (State.count_frame (within_refl _) (frame_refl _ s)).pai (by decide)
@[simp] theorem State.count_sessNo (s : State) (a : Nat) : (State.count s a).sessNo = s.sessNo :=
  (State.count_frame (within_refl _) (frame_refl _ s)).sessNo (by decide)
@[simp] theorem State.count_latches (s : State) (a : Nat) : (State.count s a).latches = s.latches :=
  (State.count_frame (within_refl _) (frame_refl _ s)).latches (by decide)
@[simp] theorem State.count_ans (s : State) (a : Nat) : (State.count s a).ans = s.ans :=
  (State.count_frame (within_refl _) (frame_refl _ s)).ans (by decide)
@[simp] theorem State.count_sent (s : State) (a : Nat) : (State.count s a).sent = s.sent :=
  (State.count_frame (within_refl _) (frame_refl _ s)).sent (by decide)
@[simp] theorem State.count_pending (s : State) (a : Nat) : (State.count s a).pending = s.pending :=
  (State.count_frame (within_refl _) (frame_refl _ s)).pending

@[simp] theorem State.countN_mem (s : State) (a n : Nat) : (State.countN s a n).mem = s.mem :=
  (State.countN_frame (within_refl _) (frame_refl _ s)).mem (by decide)
@[simp] theorem State.countN_ltc (s : State) (a n : Nat) : (State.countN s a n).ltc = s.ltc :=
  (State.countN_frame (within_refl _) (frame_refl _ s)).ltc (by decide)
@[simp] theorem State.countN_ltcRun (s : State) (a n : Nat) : (State.countN s a n).ltcRun = s.ltcRun :=
  (State.countN_frame (within_refl _) (frame_refl _ s)).ltcRun (by decide)
@[simp] theorem State.countN_nv (s : State) (a n : Nat) : (State.countN s a n).nv = s.nv :=
  (State.countN_frame (within_refl _) (frame_refl _ s)).nv (by decide)
@[simp] theorem State.countN_sys (s : State) (a n : Nat) : (State.countN s a n).sys = s.sys :=
  (State.countN_frame (within_refl _) (frame_refl _ s)).sys (by decide)
@[simp] theorem State.countN_pln (s : State) (a n : Nat) : (State.countN s a n).pln = s.pln :=
  (State.countN_frame (within_refl _) (frame_refl _ s)).pln (by decide)
@[simp] theorem State.countN_sched (s : State) (a n : Nat) : (State.countN s a n).sched = s.sched :=
  (State.countN_frame (within_refl _) (frame_refl _ s)).sched (by decide)
@[simp] theorem State.countN_lanes (s : State) (a n : Nat) : (State.countN s a n).lanes = s.lanes :=
  (State.countN_frame (within_refl _) (frame_refl _ s)).lanes (by decide)
@[simp] theorem State.countN_seqs (s : State) (a n : Nat) : (State.countN s a n).seqs = s.seqs :=
  (State.countN_frame (within_refl _) (frame_refl _ s)).seqs (by decide)
@[simp] theorem State.countN_pops (s : State) (a n : Nat) : (State.countN s a n).pops = s.pops :=
  (State.countN_frame (within_refl _) (frame_refl _ s)).pops (by decide)
@[simp] theorem State.countN_jobs (s : State) (a n : Nat) : (State.countN s a n).jobs = s.jobs :=
  (State.countN_frame (within_refl _) (frame_refl _ s)).jobs (by decide)
@[simp] theorem State.countN_clk (s : State) (a n : Nat) : (State.countN s a n).clk = s.clk :=
  (State.countN_frame (within_refl _) (frame_refl _ s)).clk (by decide)
@[simp] theorem State.countN_shb (s : State) (a n : Nat) : (State.countN s a n).shb = s.shb :=
  (State.countN_frame (within_refl _) (frame_refl _ s)).shb (by decide)
@[simp] theorem State.countN_resync (s : State) (a n : Nat) : (State.countN s a n).resync = s.resync :=
  (State.countN_frame (within_refl _) (frame_refl _ s)).resync (by decide)
@[simp] theorem State.countN_units (s : State) (a n : Nat) : (State.countN s a n).units = s.units :=
  (State.countN_frame (within_refl _) (frame_refl _ s)).units (by decide)
@[simp] theorem State.countN_sessions (s : State) (a n : Nat) : (State.countN s a n).sessions = s.sessions :=
  (State.countN_frame (within_refl _) (frame_refl _ s)).sessions (by decide)
@[simp] theorem State.countN_upl (s : State) (a n : Nat) : (State.countN s a n).upl = s.upl :=
  (State.countN_frame (within_refl _) (frame_refl _ s)).upl (by decide)
@[simp] theorem State.countN_tim (s : State) (a n : Nat) : (State.countN s a n).tim = s.tim :=
  (State.countN_frame (within_refl _) (frame_refl _ s)).tim (by decide)
@[simp] theorem State.countN_flt (s : State) (a n : Nat) : (State.countN s a n).flt = s.flt :=
  (State.countN_frame (within_refl _) (frame_refl _ s)).flt (by decide)
@[simp] theorem State.countN_fld (s : State) (a n : Nat) : (State.countN s a n).fld = s.fld :=
  (State.countN_frame (within_refl _) (frame_refl _ s)).fld (by decide)
@[simp] theorem State.countN_ofe (s : State) (a n : Nat) : (State.countN s a n).ofe = s.ofe :=
  (State.countN_frame (within_refl _) (frame_refl _ s)).ofe (by decide)
@[simp] theorem State.countN_fib (s : State) (a n : Nat) : (State.countN s a n).fib = s.fib :=
  (State.countN_frame (within_refl _) (frame_refl _ s)).fib (by decide)
@[simp] theorem State.countN_tmp (s : State) (a n : Nat) : (State.countN s a n).tmp = s.tmp :=
  (State.countN_frame (within_refl _) (frame_refl _ s)).tmp (by decide)
@[simp] theorem State.countN_lpe (s : State) (a n : Nat) : (State.countN s a n).lpe = s.lpe :=
  (State.countN_frame (within_refl _) (frame_refl _ s)).lpe (by decide)
@[simp] theorem State.countN_drp (s : State) (a n : Nat) : (State.countN s a n).drp = s.drp :=
  (State.countN_frame (within_refl _) (frame_refl _ s)).drp (by decide)
@[simp] theorem State.countN_pai (s : State) (a n : Nat) : (State.countN s a n).pai = s.pai :=
  (State.countN_frame (within_refl _) (frame_refl _ s)).pai (by decide)
@[simp] theorem State.countN_sessNo (s : State) (a n : Nat) : (State.countN s a n).sessNo = s.sessNo :=
  (State.countN_frame (within_refl _) (frame_refl _ s)).sessNo (by decide)
@[simp] theorem State.countN_latches (s : State) (a n : Nat) : (State.countN s a n).latches = s.latches :=
  (State.countN_frame (within_refl _) (frame_refl _ s)).latches (by decide)
@[simp] theorem State.countN_ans (s : State) (a n : Nat) : (State.countN s a n).ans = s.ans :=
  (State.countN_frame (within_refl _) (frame_refl _ s)).ans (by decide)
@[simp] theorem State.countN_sent (s : State) (a n : Nat) : (State.countN s a n).sent = s.sent :=
  (State.countN_frame (within_refl _) (frame_refl _ s)).sent (by decide)
@[simp] theorem State.countN_pending (s : State) (a n : Nat) : (State.countN s a n).pending = s.pending :=
  (State.countN_frame (within_refl _) (frame_refl _ s)).pending

@[simp] theorem State.countMod_mem (s : State) (a : Nat) : (State.countMod s a).mem = s.mem :=
  (State.countMod_frame (within_refl _) (frame_refl _ s)).mem (by decide)
@[simp] theorem State.countMod_ltc (s : State) (a : Nat) : (State.countMod s a).ltc = s.ltc :=
  (State.countMod_frame (within_refl _) (frame_refl _ s)).ltc (by decide)
@[simp] theorem State.countMod_ltcRun (s : State) (a : Nat) : (State.countMod s a).ltcRun = s.ltcRun :=
  (State.countMod_frame (within_refl _) (frame_refl _ s)).ltcRun (by decide)
@[simp] theorem State.countMod_free (s : State) (a : Nat) : (State.countMod s a).free = s.free :=
  (State.countMod_frame (within_refl _) (frame_refl _ s)).free (by decide)
@[simp] theorem State.countMod_nv (s : State) (a : Nat) : (State.countMod s a).nv = s.nv :=
  (State.countMod_frame (within_refl _) (frame_refl _ s)).nv (by decide)
@[simp] theorem State.countMod_sys (s : State) (a : Nat) : (State.countMod s a).sys = s.sys :=
  (State.countMod_frame (within_refl _) (frame_refl _ s)).sys (by decide)
@[simp] theorem State.countMod_pln (s : State) (a : Nat) : (State.countMod s a).pln = s.pln :=
  (State.countMod_frame (within_refl _) (frame_refl _ s)).pln (by decide)
@[simp] theorem State.countMod_sched (s : State) (a : Nat) : (State.countMod s a).sched = s.sched :=
  (State.countMod_frame (within_refl _) (frame_refl _ s)).sched (by decide)
@[simp] theorem State.countMod_lanes (s : State) (a : Nat) : (State.countMod s a).lanes = s.lanes :=
  (State.countMod_frame (within_refl _) (frame_refl _ s)).lanes (by decide)
@[simp] theorem State.countMod_seqs (s : State) (a : Nat) : (State.countMod s a).seqs = s.seqs :=
  (State.countMod_frame (within_refl _) (frame_refl _ s)).seqs (by decide)
@[simp] theorem State.countMod_pops (s : State) (a : Nat) : (State.countMod s a).pops = s.pops :=
  (State.countMod_frame (within_refl _) (frame_refl _ s)).pops (by decide)
@[simp] theorem State.countMod_jobs (s : State) (a : Nat) : (State.countMod s a).jobs = s.jobs :=
  (State.countMod_frame (within_refl _) (frame_refl _ s)).jobs (by decide)
@[simp] theorem State.countMod_clk (s : State) (a : Nat) : (State.countMod s a).clk = s.clk :=
  (State.countMod_frame (within_refl _) (frame_refl _ s)).clk (by decide)
@[simp] theorem State.countMod_shb (s : State) (a : Nat) : (State.countMod s a).shb = s.shb :=
  (State.countMod_frame (within_refl _) (frame_refl _ s)).shb (by decide)
@[simp] theorem State.countMod_resync (s : State) (a : Nat) : (State.countMod s a).resync = s.resync :=
  (State.countMod_frame (within_refl _) (frame_refl _ s)).resync (by decide)
@[simp] theorem State.countMod_units (s : State) (a : Nat) : (State.countMod s a).units = s.units :=
  (State.countMod_frame (within_refl _) (frame_refl _ s)).units (by decide)
@[simp] theorem State.countMod_sessions (s : State) (a : Nat) : (State.countMod s a).sessions = s.sessions :=
  (State.countMod_frame (within_refl _) (frame_refl _ s)).sessions (by decide)
@[simp] theorem State.countMod_upl (s : State) (a : Nat) : (State.countMod s a).upl = s.upl :=
  (State.countMod_frame (within_refl _) (frame_refl _ s)).upl (by decide)
@[simp] theorem State.countMod_tim (s : State) (a : Nat) : (State.countMod s a).tim = s.tim :=
  (State.countMod_frame (within_refl _) (frame_refl _ s)).tim (by decide)
@[simp] theorem State.countMod_mnt (s : State) (a : Nat) : (State.countMod s a).mnt = s.mnt :=
  (State.countMod_frame (within_refl _) (frame_refl _ s)).mnt (by decide)
@[simp] theorem State.countMod_flt (s : State) (a : Nat) : (State.countMod s a).flt = s.flt :=
  (State.countMod_frame (within_refl _) (frame_refl _ s)).flt (by decide)
@[simp] theorem State.countMod_fld (s : State) (a : Nat) : (State.countMod s a).fld = s.fld :=
  (State.countMod_frame (within_refl _) (frame_refl _ s)).fld (by decide)
@[simp] theorem State.countMod_ofe (s : State) (a : Nat) : (State.countMod s a).ofe = s.ofe :=
  (State.countMod_frame (within_refl _) (frame_refl _ s)).ofe (by decide)
@[simp] theorem State.countMod_fib (s : State) (a : Nat) : (State.countMod s a).fib = s.fib :=
  (State.countMod_frame (within_refl _) (frame_refl _ s)).fib (by decide)
@[simp] theorem State.countMod_tmp (s : State) (a : Nat) : (State.countMod s a).tmp = s.tmp :=
  (State.countMod_frame (within_refl _) (frame_refl _ s)).tmp (by decide)
@[simp] theorem State.countMod_lpe (s : State) (a : Nat) : (State.countMod s a).lpe = s.lpe :=
  (State.countMod_frame (within_refl _) (frame_refl _ s)).lpe (by decide)
@[simp] theorem State.countMod_drp (s : State) (a : Nat) : (State.countMod s a).drp = s.drp :=
  (State.countMod_frame (within_refl _) (frame_refl _ s)).drp (by decide)
@[simp] theorem State.countMod_pai (s : State) (a : Nat) : (State.countMod s a).pai = s.pai :=
  (State.countMod_frame (within_refl _) (frame_refl _ s)).pai (by decide)
@[simp] theorem State.countMod_sessNo (s : State) (a : Nat) : (State.countMod s a).sessNo = s.sessNo :=
  (State.countMod_frame (within_refl _) (frame_refl _ s)).sessNo (by decide)
@[simp] theorem State.countMod_latches (s : State) (a : Nat) : (State.countMod s a).latches = s.latches :=
  (State.countMod_frame (within_refl _) (frame_refl _ s)).latches (by decide)
@[simp] theorem State.countMod_ans (s : State) (a : Nat) : (State.countMod s a).ans = s.ans :=
  (State.countMod_frame (within_refl _) (frame_refl _ s)).ans (by decide)
@[simp] theorem State.countMod_sent (s : State) (a : Nat) : (State.countMod s a).sent = s.sent :=
  (State.countMod_frame (within_refl _) (frame_refl _ s)).sent (by decide)
@[simp] theorem State.countMod_pending (s : State) (a : Nat) : (State.countMod s a).pending = s.pending :=
  (State.countMod_frame (within_refl _) (frame_refl _ s)).pending

@[simp] theorem State.keepMax_mem (s : State) (a v : Nat) : (State.keepMax s a v).mem = s.mem :=
  (State.keepMax_frame (within_refl _) (frame_refl _ s)).mem (by decide)
@[simp] theorem State.keepMax_ltc (s : State) (a v : Nat) : (State.keepMax s a v).ltc = s.ltc :=
  (State.keepMax_frame (within_refl _) (frame_refl _ s)).ltc (by decide)
@[simp] theorem State.keepMax_ltcRun (s : State) (a v : Nat) : (State.keepMax s a v).ltcRun = s.ltcRun :=
  (State.keepMax_frame (within_refl _) (frame_refl _ s)).ltcRun (by decide)
@[simp] theorem State.keepMax_free (s : State) (a v : Nat) : (State.keepMax s a v).free = s.free :=
  (State.keepMax_frame (within_refl _) (frame_refl _ s)).free (by decide)
@[simp] theorem State.keepMax_nv (s : State) (a v : Nat) : (State.keepMax s a v).nv = s.nv :=
  (State.keepMax_frame (within_refl _) (frame_refl _ s)).nv (by decide)
@[simp] theorem State.keepMax_sys (s : State) (a v : Nat) : (State.keepMax s a v).sys = s.sys :=
  (State.keepMax_frame (within_refl _) (frame_refl _ s)).sys (by decide)
@[simp] theorem State.keepMax_pln (s : State) (a v : Nat) : (State.keepMax s a v).pln = s.pln :=
  (State.keepMax_frame (within_refl _) (frame_refl _ s)).pln (by decide)
@[simp] theorem State.keepMax_sched (s : State) (a v : Nat) : (State.keepMax s a v).sched = s.sched :=
  (State.keepMax_frame (within_refl _) (frame_refl _ s)).sched (by decide)
@[simp] theorem State.keepMax_lanes (s : State) (a v : Nat) : (State.keepMax s a v).lanes = s.lanes :=
  (State.keepMax_frame (within_refl _) (frame_refl _ s)).lanes (by decide)
@[simp] theorem State.keepMax_seqs (s : State) (a v : Nat) : (State.keepMax s a v).seqs = s.seqs :=
  (State.keepMax_frame (within_refl _) (frame_refl _ s)).seqs (by decide)
@[simp] theorem State.keepMax_pops (s : State) (a v : Nat) : (State.keepMax s a v).pops = s.pops :=
  (State.keepMax_frame (within_refl _) (frame_refl _ s)).pops (by decide)
@[simp] theorem State.keepMax_jobs (s : State) (a v : Nat) : (State.keepMax s a v).jobs = s.jobs :=
  (State.keepMax_frame (within_refl _) (frame_refl _ s)).jobs (by decide)
@[simp] theorem State.keepMax_clk (s : State) (a v : Nat) : (State.keepMax s a v).clk = s.clk :=
  (State.keepMax_frame (within_refl _) (frame_refl _ s)).clk (by decide)
@[simp] theorem State.keepMax_shb (s : State) (a v : Nat) : (State.keepMax s a v).shb = s.shb :=
  (State.keepMax_frame (within_refl _) (frame_refl _ s)).shb (by decide)
@[simp] theorem State.keepMax_resync (s : State) (a v : Nat) : (State.keepMax s a v).resync = s.resync :=
  (State.keepMax_frame (within_refl _) (frame_refl _ s)).resync (by decide)
@[simp] theorem State.keepMax_units (s : State) (a v : Nat) : (State.keepMax s a v).units = s.units :=
  (State.keepMax_frame (within_refl _) (frame_refl _ s)).units (by decide)
@[simp] theorem State.keepMax_sessions (s : State) (a v : Nat) : (State.keepMax s a v).sessions = s.sessions :=
  (State.keepMax_frame (within_refl _) (frame_refl _ s)).sessions (by decide)
@[simp] theorem State.keepMax_upl (s : State) (a v : Nat) : (State.keepMax s a v).upl = s.upl :=
  (State.keepMax_frame (within_refl _) (frame_refl _ s)).upl (by decide)
@[simp] theorem State.keepMax_tim (s : State) (a v : Nat) : (State.keepMax s a v).tim = s.tim :=
  (State.keepMax_frame (within_refl _) (frame_refl _ s)).tim (by decide)
@[simp] theorem State.keepMax_mnt (s : State) (a v : Nat) : (State.keepMax s a v).mnt = s.mnt :=
  (State.keepMax_frame (within_refl _) (frame_refl _ s)).mnt (by decide)
@[simp] theorem State.keepMax_flt (s : State) (a v : Nat) : (State.keepMax s a v).flt = s.flt :=
  (State.keepMax_frame (within_refl _) (frame_refl _ s)).flt (by decide)
@[simp] theorem State.keepMax_fld (s : State) (a v : Nat) : (State.keepMax s a v).fld = s.fld :=
  (State.keepMax_frame (within_refl _) (frame_refl _ s)).fld (by decide)
@[simp] theorem State.keepMax_ofe (s : State) (a v : Nat) : (State.keepMax s a v).ofe = s.ofe :=
  (State.keepMax_frame (within_refl _) (frame_refl _ s)).ofe (by decide)
@[simp] theorem State.keepMax_fib (s : State) (a v : Nat) : (State.keepMax s a v).fib = s.fib :=
  (State.keepMax_frame (within_refl _) (frame_refl _ s)).fib (by decide)
@[simp] theorem State.keepMax_tmp (s : State) (a v : Nat) : (State.keepMax s a v).tmp = s.tmp :=
  (State.keepMax_frame (within_refl _) (frame_refl _ s)).tmp (by decide)
@[simp] theorem State.keepMax_lpe (s : State) (a v : Nat) : (State.keepMax s a v).lpe = s.lpe :=
  (State.keepMax_frame (within_refl _) (frame_refl _ s)).lpe (by decide)
@[simp] theorem State.keepMax_drp (s : State) (a v : Nat) : (State.keepMax s a v).drp = s.drp :=
  (State.keepMax_frame (within_refl _) (frame_refl _ s)).drp (by decide)
@[simp] theorem State.keepMax_pai (s : State) (a v : Nat) : (State.keepMax s a v).pai = s.pai :=
  (State.keepMax_frame (within_refl _) (frame_refl _ s)).pai (by decide)
@[simp] theorem State.keepMax_sessNo (s : State) (a v : Nat) : (State.keepMax s a v).sessNo = s.sessNo :=
  (State.keepMax_frame (within_refl _) (frame_refl _ s)).sessNo (by decide)
@[simp] theorem State.keepMax_latches (s : State) (a v : Nat) : (State.keepMax s a v).latches = s.latches :=
  (State.keepMax_frame (within_refl _) (frame_refl _ s)).latches (by decide)
@[simp] theorem State.keepMax_ans (s : State) (a v : Nat) : (State.keepMax s a v).ans = s.ans :=
  (State.keepMax_frame (within_refl _) (frame_refl _ s)).ans (by decide)
@[simp] theorem State.keepMax_sent (s : State) (a v : Nat) : (State.keepMax s a v).sent = s.sent :=
  (State.keepMax_frame (within_refl _) (frame_refl _ s)).sent (by decide)
@[simp] theorem State.keepMax_pending (s : State) (a v : Nat) : (State.keepMax s a v).pending = s.pending :=
  (State.keepMax_frame (within_refl _) (frame_refl _ s)).pending

@[simp] theorem State.advance_regs (s : State) (t : Time) : (State.advance s t).regs = s.regs :=
  (State.advance_frame (within_refl _) (frame_refl _ s)).regs (by decide)
@[simp] theorem State.advance_mem (s : State) (t : Time) : (State.advance s t).mem = s.mem :=
  (State.advance_frame (within_refl _) (frame_refl _ s)).mem (by decide)
@[simp] theorem State.advance_ltcRun (s : State) (t : Time) : (State.advance s t).ltcRun = s.ltcRun :=
  (State.advance_frame (within_refl _) (frame_refl _ s)).ltcRun (by decide)
@[simp] theorem State.advance_free (s : State) (t : Time) : (State.advance s t).free = s.free :=
  (State.advance_frame (within_refl _) (frame_refl _ s)).free (by decide)
@[simp] theorem State.advance_nv (s : State) (t : Time) : (State.advance s t).nv = s.nv :=
  (State.advance_frame (within_refl _) (frame_refl _ s)).nv (by decide)
@[simp] theorem State.advance_sys (s : State) (t : Time) : (State.advance s t).sys = s.sys :=
  (State.advance_frame (within_refl _) (frame_refl _ s)).sys (by decide)
@[simp] theorem State.advance_pln (s : State) (t : Time) : (State.advance s t).pln = s.pln :=
  (State.advance_frame (within_refl _) (frame_refl _ s)).pln (by decide)
@[simp] theorem State.advance_sched (s : State) (t : Time) : (State.advance s t).sched = s.sched :=
  (State.advance_frame (within_refl _) (frame_refl _ s)).sched (by decide)
@[simp] theorem State.advance_lanes (s : State) (t : Time) : (State.advance s t).lanes = s.lanes :=
  (State.advance_frame (within_refl _) (frame_refl _ s)).lanes (by decide)
@[simp] theorem State.advance_seqs (s : State) (t : Time) : (State.advance s t).seqs = s.seqs :=
  (State.advance_frame (within_refl _) (frame_refl _ s)).seqs (by decide)
@[simp] theorem State.advance_pops (s : State) (t : Time) : (State.advance s t).pops = s.pops :=
  (State.advance_frame (within_refl _) (frame_refl _ s)).pops (by decide)
@[simp] theorem State.advance_jobs (s : State) (t : Time) : (State.advance s t).jobs = s.jobs :=
  (State.advance_frame (within_refl _) (frame_refl _ s)).jobs (by decide)
@[simp] theorem State.advance_clk (s : State) (t : Time) : (State.advance s t).clk = s.clk :=
  (State.advance_frame (within_refl _) (frame_refl _ s)).clk (by decide)
@[simp] theorem State.advance_shb (s : State) (t : Time) : (State.advance s t).shb = s.shb :=
  (State.advance_frame (within_refl _) (frame_refl _ s)).shb (by decide)
@[simp] theorem State.advance_resync (s : State) (t : Time) : (State.advance s t).resync = s.resync :=
  (State.advance_frame (within_refl _) (frame_refl _ s)).resync (by decide)
@[simp] theorem State.advance_units (s : State) (t : Time) : (State.advance s t).units = s.units :=
  (State.advance_frame (within_refl _) (frame_refl _ s)).units (by decide)
@[simp] theorem State.advance_sessions (s : State) (t : Time) : (State.advance s t).sessions = s.sessions :=
  (State.advance_frame (within_refl _) (frame_refl _ s)).sessions (by decide)
@[simp] theorem State.advance_upl (s : State) (t : Time) : (State.advance s t).upl = s.upl :=
  (State.advance_frame (within_refl _) (frame_refl _ s)).upl (by decide)
@[simp] theorem State.advance_tim (s : State) (t : Time) : (State.advance s t).tim = s.tim :=
  (State.advance_frame (within_refl _) (frame_refl _ s)).tim (by decide)
@[simp] theorem State.advance_mnt (s : State) (t : Time) : (State.advance s t).mnt = s.mnt :=
  (State.advance_frame (within_refl _) (frame_refl _ s)).mnt (by decide)
@[simp] theorem State.advance_flt (s : State) (t : Time) : (State.advance s t).flt = s.flt :=
  (State.advance_frame (within_refl _) (frame_refl _ s)).flt (by decide)
@[simp] theorem State.advance_fld (s : State) (t : Time) : (State.advance s t).fld = s.fld :=
  (State.advance_frame (within_refl _) (frame_refl _ s)).fld (by decide)
@[simp] theorem State.advance_ofe (s : State) (t : Time) : (State.advance s t).ofe = s.ofe :=
  (State.advance_frame (within_refl _) (frame_refl _ s)).ofe (by decide)
@[simp] theorem State.advance_fib (s : State) (t : Time) : (State.advance s t).fib = s.fib :=
  (State.advance_frame (within_refl _) (frame_refl _ s)).fib (by decide)
@[simp] theorem State.advance_tmp (s : State) (t : Time) : (State.advance s t).tmp = s.tmp :=
  (State.advance_frame (within_refl _) (frame_refl _ s)).tmp (by decide)
@[simp] theorem State.advance_lpe (s : State) (t : Time) : (State.advance s t).lpe = s.lpe :=
  (State.advance_frame (within_refl _) (frame_refl _ s)).lpe (by decide)
@[simp] theorem State.advance_drp (s : State) (t : Time) : (State.advance s t).drp = s.drp :=
  (State.advance_frame (within_refl _) (frame_refl _ s)).drp (by decide)
@[simp] theorem State.advance_pai (s : State) (t : Time) : (State.advance s t).pai = s.pai :=
  (State.advance_frame (within_refl _) (frame_refl _ s)).pai (by decide)
@[simp] theorem State.advance_sessNo (s : State) (t : Time) : (State.advance s t).sessNo = s.sessNo :=
  (State.advance_frame (within_refl _) (frame_refl _ s)).sessNo (by decide)
@[simp] theorem State.advance_latches (s : State) (t : Time) : (State.advance s t).latches = s.latches :=
  (State.advance_frame (within_refl _) (frame_refl _ s)).latches (by decide)
@[simp] theorem State.advance_ans (s : State) (t : Time) : (State.advance s t).ans = s.ans :=
  (State.advance_frame (within_refl _) (frame_refl _ s)).ans (by decide)
@[simp] theorem State.advance_sent (s : State) (t : Time) : (State.advance s t).sent = s.sent :=
  (State.advance_frame (within_refl _) (frame_refl _ s)).sent (by decide)
@[simp] theorem State.advance_pending (s : State) (t : Time) : (State.advance s t).pending = s.pending :=
  (State.advance_frame (within_refl _) (frame_refl _ s)).pending

@[simp] theorem State.onSession_regs (s : State) (x : Nat) (f : Session → Session) : (State.onSession s x f).regs = s.regs :=
  (State.onSession_frame (within_refl _) (frame_refl _ s)).regs (by decide)
@[simp] theorem State.onSession_mem (s : State) (x : Nat) (f : Session → Session) : (State.onSession s x f).mem = s.mem :=
  (State.onSession_frame (within_refl _) (frame_refl _ s)).mem (by decide)
@[simp] theorem State.onSession_ltc (s : State) (x : Nat) (f : Session → Session) : (State.onSession s x f).ltc = s.ltc :=
  (State.onSession_frame (within_refl _) (frame_refl _ s)).ltc (by decide)
@[simp] theorem State.onSession_ltcRun (s : State) (x : Nat) (f : Session → Session) : (State.onSession s x f).ltcRun = s.ltcRun :=
  (State.onSession_frame (within_refl _) (frame_refl _ s)).ltcRun (by decide)
@[simp] theorem State.onSession_free (s : State) (x : Nat) (f : Session → Session) : (State.onSession s x f).free = s.free :=
  (State.onSession_frame (within_refl _) (frame_refl _ s)).free (by decide)
@[simp] theorem State.onSession_nv (s : State) (x : Nat) (f : Session → Session) : (State.onSession s x f).nv = s.nv :=
  (State.onSession_frame (within_refl _) (frame_refl _ s)).nv (by decide)
@[simp] theorem State.onSession_sys (s : State) (x : Nat) (f : Session → Session) : (State.onSession s x f).sys = s.sys :=
  (State.onSession_frame (within_refl _) (frame_refl _ s)).sys (by decide)
@[simp] theorem State.onSession_pln (s : State) (x : Nat) (f : Session → Session) : (State.onSession s x f).pln = s.pln :=
  (State.onSession_frame (within_refl _) (frame_refl _ s)).pln (by decide)
@[simp] theorem State.onSession_sched (s : State) (x : Nat) (f : Session → Session) : (State.onSession s x f).sched = s.sched :=
  (State.onSession_frame (within_refl _) (frame_refl _ s)).sched (by decide)
@[simp] theorem State.onSession_lanes (s : State) (x : Nat) (f : Session → Session) : (State.onSession s x f).lanes = s.lanes :=
  (State.onSession_frame (within_refl _) (frame_refl _ s)).lanes (by decide)
@[simp] theorem State.onSession_seqs (s : State) (x : Nat) (f : Session → Session) : (State.onSession s x f).seqs = s.seqs :=
  (State.onSession_frame (within_refl _) (frame_refl _ s)).seqs (by decide)
@[simp] theorem State.onSession_pops (s : State) (x : Nat) (f : Session → Session) : (State.onSession s x f).pops = s.pops :=
  (State.onSession_frame (within_refl _) (frame_refl _ s)).pops (by decide)
@[simp] theorem State.onSession_jobs (s : State) (x : Nat) (f : Session → Session) : (State.onSession s x f).jobs = s.jobs :=
  (State.onSession_frame (within_refl _) (frame_refl _ s)).jobs (by decide)
@[simp] theorem State.onSession_clk (s : State) (x : Nat) (f : Session → Session) : (State.onSession s x f).clk = s.clk :=
  (State.onSession_frame (within_refl _) (frame_refl _ s)).clk (by decide)
@[simp] theorem State.onSession_shb (s : State) (x : Nat) (f : Session → Session) : (State.onSession s x f).shb = s.shb :=
  (State.onSession_frame (within_refl _) (frame_refl _ s)).shb (by decide)
@[simp] theorem State.onSession_resync (s : State) (x : Nat) (f : Session → Session) : (State.onSession s x f).resync = s.resync :=
  (State.onSession_frame (within_refl _) (frame_refl _ s)).resync (by decide)
@[simp] theorem State.onSession_units (s : State) (x : Nat) (f : Session → Session) : (State.onSession s x f).units = s.units :=
  (State.onSession_frame (within_refl _) (frame_refl _ s)).units (by decide)
@[simp] theorem State.onSession_upl (s : State) (x : Nat) (f : Session → Session) : (State.onSession s x f).upl = s.upl :=
  (State.onSession_frame (within_refl _) (frame_refl _ s)).upl (by decide)
@[simp] theorem State.onSession_tim (s : State) (x : Nat) (f : Session → Session) : (State.onSession s x f).tim = s.tim :=
  (State.onSession_frame (within_refl _) (frame_refl _ s)).tim (by decide)
@[simp] theorem State.onSession_mnt (s : State) (x : Nat) (f : Session → Session) : (State.onSession s x f).mnt = s.mnt :=
  (State.onSession_frame (within_refl _) (frame_refl _ s)).mnt (by decide)
@[simp] theorem State.onSession_flt (s : State) (x : Nat) (f : Session → Session) : (State.onSession s x f).flt = s.flt :=
  (State.onSession_frame (within_refl _) (frame_refl _ s)).flt (by decide)
@[simp] theorem State.onSession_fld (s : State) (x : Nat) (f : Session → Session) : (State.onSession s x f).fld = s.fld :=
  (State.onSession_frame (within_refl _) (frame_refl _ s)).fld (by decide)
@[simp] theorem State.onSession_ofe (s : State) (x : Nat) (f : Session → Session) : (State.onSession s x f).ofe = s.ofe :=
  (State.onSession_frame (within_refl _) (frame_refl _ s)).ofe (by decide)
@[simp] theorem State.onSession_fib (s : State) (x : Nat) (f : Session → Session) : (State.onSession s x f).fib = s.fib :=
  (State.onSession_frame (within_refl _) (frame_refl _ s)).fib (by decide)
@[simp] theorem State.onSession_tmp (s : State) (x : Nat) (f : Session → Session) : (State.onSession s x f).tmp = s.tmp :=
  (State.onSession_frame (within_refl _) (frame_refl _ s)).tmp (by decide)
@[simp] theorem State.onSession_lpe (s : State) (x : Nat) (f : Session → Session) : (State.onSession s x f).lpe = s.lpe :=
  (State.onSession_frame (within_refl _) (frame_refl _ s)).lpe (by decide)
@[simp] theorem State.onSession_drp (s : State) (x : Nat) (f : Session → Session) : (State.onSession s x f).drp = s.drp :=
  (State.onSession_frame (within_refl _) (frame_refl _ s)).drp (by decide)
@[simp] theorem State.onSession_pai (s : State) (x : Nat) (f : Session → Session) : (State.onSession s x f).pai = s.pai :=
  (State.onSession_frame (within_refl _) (frame_refl _ s)).pai (by decide)
@[simp] theorem State.onSession_sessNo (s : State) (x : Nat) (f : Session → Session) : (State.onSession s x f).sessNo = s.sessNo :=
  (State.onSession_frame (within_refl _) (frame_refl _ s)).sessNo (by decide)
@[simp] theorem State.onSession_latches (s : State) (x : Nat) (f : Session → Session) : (State.onSession s x f).latches = s.latches :=
  (State.onSession_frame (within_refl _) (frame_refl _ s)).latches (by decide)
@[simp] theorem State.onSession_ans (s : State) (x : Nat) (f : Session → Session) : (State.onSession s x f).ans = s.ans :=
  (State.onSession_frame (within_refl _) (frame_refl _ s)).ans (by decide)
@[simp] theorem State.onSession_sent (s : State) (x : Nat) (f : Session → Session) : (State.onSession s x f).sent = s.sent :=
  (State.onSession_frame (within_refl _) (frame_refl _ s)).sent (by decide)
@[simp] theorem State.onSession_pending (s : State) (x : Nat) (f : Session → Session) : (State.onSession s x f).pending = s.pending :=
  (State.onSession_frame (within_refl _) (frame_refl _ s)).pending

@[simp] theorem State.noteEvent_regs (s : State) (page bit : Nat) : (State.noteEvent s page bit).regs = s.regs :=
  (State.noteEvent_frame (within_refl _) (frame_refl _ s)).regs (by decide)
@[simp] theorem State.noteEvent_mem (s : State) (page bit : Nat) : (State.noteEvent s page bit).mem = s.mem :=
  (State.noteEvent_frame (within_refl _) (frame_refl _ s)).mem (by decide)
@[simp] theorem State.noteEvent_ltc (s : State) (page bit : Nat) : (State.noteEvent s page bit).ltc = s.ltc :=
  (State.noteEvent_frame (within_refl _) (frame_refl _ s)).ltc (by decide)
@[simp] theorem State.noteEvent_ltcRun (s : State) (page bit : Nat) : (State.noteEvent s page bit).ltcRun = s.ltcRun :=
  (State.noteEvent_frame (within_refl _) (frame_refl _ s)).ltcRun (by decide)
@[simp] theorem State.noteEvent_free (s : State) (page bit : Nat) : (State.noteEvent s page bit).free = s.free :=
  (State.noteEvent_frame (within_refl _) (frame_refl _ s)).free (by decide)
@[simp] theorem State.noteEvent_nv (s : State) (page bit : Nat) : (State.noteEvent s page bit).nv = s.nv :=
  (State.noteEvent_frame (within_refl _) (frame_refl _ s)).nv (by decide)
@[simp] theorem State.noteEvent_sys (s : State) (page bit : Nat) : (State.noteEvent s page bit).sys = s.sys :=
  (State.noteEvent_frame (within_refl _) (frame_refl _ s)).sys (by decide)
@[simp] theorem State.noteEvent_pln (s : State) (page bit : Nat) : (State.noteEvent s page bit).pln = s.pln :=
  (State.noteEvent_frame (within_refl _) (frame_refl _ s)).pln (by decide)
@[simp] theorem State.noteEvent_sched (s : State) (page bit : Nat) : (State.noteEvent s page bit).sched = s.sched :=
  (State.noteEvent_frame (within_refl _) (frame_refl _ s)).sched (by decide)
@[simp] theorem State.noteEvent_lanes (s : State) (page bit : Nat) : (State.noteEvent s page bit).lanes = s.lanes :=
  (State.noteEvent_frame (within_refl _) (frame_refl _ s)).lanes (by decide)
@[simp] theorem State.noteEvent_seqs (s : State) (page bit : Nat) : (State.noteEvent s page bit).seqs = s.seqs :=
  (State.noteEvent_frame (within_refl _) (frame_refl _ s)).seqs (by decide)
@[simp] theorem State.noteEvent_pops (s : State) (page bit : Nat) : (State.noteEvent s page bit).pops = s.pops :=
  (State.noteEvent_frame (within_refl _) (frame_refl _ s)).pops (by decide)
@[simp] theorem State.noteEvent_jobs (s : State) (page bit : Nat) : (State.noteEvent s page bit).jobs = s.jobs :=
  (State.noteEvent_frame (within_refl _) (frame_refl _ s)).jobs (by decide)
@[simp] theorem State.noteEvent_clk (s : State) (page bit : Nat) : (State.noteEvent s page bit).clk = s.clk :=
  (State.noteEvent_frame (within_refl _) (frame_refl _ s)).clk (by decide)
@[simp] theorem State.noteEvent_shb (s : State) (page bit : Nat) : (State.noteEvent s page bit).shb = s.shb :=
  (State.noteEvent_frame (within_refl _) (frame_refl _ s)).shb (by decide)
@[simp] theorem State.noteEvent_resync (s : State) (page bit : Nat) : (State.noteEvent s page bit).resync = s.resync :=
  (State.noteEvent_frame (within_refl _) (frame_refl _ s)).resync (by decide)
@[simp] theorem State.noteEvent_units (s : State) (page bit : Nat) : (State.noteEvent s page bit).units = s.units :=
  (State.noteEvent_frame (within_refl _) (frame_refl _ s)).units (by decide)
@[simp] theorem State.noteEvent_upl (s : State) (page bit : Nat) : (State.noteEvent s page bit).upl = s.upl :=
  (State.noteEvent_frame (within_refl _) (frame_refl _ s)).upl (by decide)
@[simp] theorem State.noteEvent_tim (s : State) (page bit : Nat) : (State.noteEvent s page bit).tim = s.tim :=
  (State.noteEvent_frame (within_refl _) (frame_refl _ s)).tim (by decide)
@[simp] theorem State.noteEvent_mnt (s : State) (page bit : Nat) : (State.noteEvent s page bit).mnt = s.mnt :=
  (State.noteEvent_frame (within_refl _) (frame_refl _ s)).mnt (by decide)
@[simp] theorem State.noteEvent_flt (s : State) (page bit : Nat) : (State.noteEvent s page bit).flt = s.flt :=
  (State.noteEvent_frame (within_refl _) (frame_refl _ s)).flt (by decide)
@[simp] theorem State.noteEvent_fld (s : State) (page bit : Nat) : (State.noteEvent s page bit).fld = s.fld :=
  (State.noteEvent_frame (within_refl _) (frame_refl _ s)).fld (by decide)
@[simp] theorem State.noteEvent_ofe (s : State) (page bit : Nat) : (State.noteEvent s page bit).ofe = s.ofe :=
  (State.noteEvent_frame (within_refl _) (frame_refl _ s)).ofe (by decide)
@[simp] theorem State.noteEvent_fib (s : State) (page bit : Nat) : (State.noteEvent s page bit).fib = s.fib :=
  (State.noteEvent_frame (within_refl _) (frame_refl _ s)).fib (by decide)
@[simp] theorem State.noteEvent_tmp (s : State) (page bit : Nat) : (State.noteEvent s page bit).tmp = s.tmp :=
  (State.noteEvent_frame (within_refl _) (frame_refl _ s)).tmp (by decide)
@[simp] theorem State.noteEvent_lpe (s : State) (page bit : Nat) : (State.noteEvent s page bit).lpe = s.lpe :=
  (State.noteEvent_frame (within_refl _) (frame_refl _ s)).lpe (by decide)
@[simp] theorem State.noteEvent_drp (s : State) (page bit : Nat) : (State.noteEvent s page bit).drp = s.drp :=
  (State.noteEvent_frame (within_refl _) (frame_refl _ s)).drp (by decide)
@[simp] theorem State.noteEvent_pai (s : State) (page bit : Nat) : (State.noteEvent s page bit).pai = s.pai :=
  (State.noteEvent_frame (within_refl _) (frame_refl _ s)).pai (by decide)
@[simp] theorem State.noteEvent_sessNo (s : State) (page bit : Nat) : (State.noteEvent s page bit).sessNo = s.sessNo :=
  (State.noteEvent_frame (within_refl _) (frame_refl _ s)).sessNo (by decide)
@[simp] theorem State.noteEvent_latches (s : State) (page bit : Nat) : (State.noteEvent s page bit).latches = s.latches :=
  (State.noteEvent_frame (within_refl _) (frame_refl _ s)).latches (by decide)
@[simp] theorem State.noteEvent_ans (s : State) (page bit : Nat) : (State.noteEvent s page bit).ans = s.ans :=
  (State.noteEvent_frame (within_refl _) (frame_refl _ s)).ans (by decide)
@[simp] theorem State.noteEvent_sent (s : State) (page bit : Nat) : (State.noteEvent s page bit).sent = s.sent :=
  (State.noteEvent_frame (within_refl _) (frame_refl _ s)).sent (by decide)
@[simp] theorem State.noteEvent_pending (s : State) (page bit : Nat) : (State.noteEvent s page bit).pending = s.pending :=
  (State.noteEvent_frame (within_refl _) (frame_refl _ s)).pending

@[simp] theorem State.raise_mem (s : State) (page bit : Nat) : (State.raise s page bit).mem = s.mem :=
  (State.raise_frame (within_refl _) (frame_refl _ s)).mem (by decide)
@[simp] theorem State.raise_ltc (s : State) (page bit : Nat) : (State.raise s page bit).ltc = s.ltc :=
  (State.raise_frame (within_refl _) (frame_refl _ s)).ltc (by decide)
@[simp] theorem State.raise_ltcRun (s : State) (page bit : Nat) : (State.raise s page bit).ltcRun = s.ltcRun :=
  (State.raise_frame (within_refl _) (frame_refl _ s)).ltcRun (by decide)
@[simp] theorem State.raise_free (s : State) (page bit : Nat) : (State.raise s page bit).free = s.free :=
  (State.raise_frame (within_refl _) (frame_refl _ s)).free (by decide)
@[simp] theorem State.raise_nv (s : State) (page bit : Nat) : (State.raise s page bit).nv = s.nv :=
  (State.raise_frame (within_refl _) (frame_refl _ s)).nv (by decide)
@[simp] theorem State.raise_sys (s : State) (page bit : Nat) : (State.raise s page bit).sys = s.sys :=
  (State.raise_frame (within_refl _) (frame_refl _ s)).sys (by decide)
@[simp] theorem State.raise_pln (s : State) (page bit : Nat) : (State.raise s page bit).pln = s.pln :=
  (State.raise_frame (within_refl _) (frame_refl _ s)).pln (by decide)
@[simp] theorem State.raise_sched (s : State) (page bit : Nat) : (State.raise s page bit).sched = s.sched :=
  (State.raise_frame (within_refl _) (frame_refl _ s)).sched (by decide)
@[simp] theorem State.raise_lanes (s : State) (page bit : Nat) : (State.raise s page bit).lanes = s.lanes :=
  (State.raise_frame (within_refl _) (frame_refl _ s)).lanes (by decide)
@[simp] theorem State.raise_seqs (s : State) (page bit : Nat) : (State.raise s page bit).seqs = s.seqs :=
  (State.raise_frame (within_refl _) (frame_refl _ s)).seqs (by decide)
@[simp] theorem State.raise_pops (s : State) (page bit : Nat) : (State.raise s page bit).pops = s.pops :=
  (State.raise_frame (within_refl _) (frame_refl _ s)).pops (by decide)
@[simp] theorem State.raise_jobs (s : State) (page bit : Nat) : (State.raise s page bit).jobs = s.jobs :=
  (State.raise_frame (within_refl _) (frame_refl _ s)).jobs (by decide)
@[simp] theorem State.raise_clk (s : State) (page bit : Nat) : (State.raise s page bit).clk = s.clk :=
  (State.raise_frame (within_refl _) (frame_refl _ s)).clk (by decide)
@[simp] theorem State.raise_shb (s : State) (page bit : Nat) : (State.raise s page bit).shb = s.shb :=
  (State.raise_frame (within_refl _) (frame_refl _ s)).shb (by decide)
@[simp] theorem State.raise_resync (s : State) (page bit : Nat) : (State.raise s page bit).resync = s.resync :=
  (State.raise_frame (within_refl _) (frame_refl _ s)).resync (by decide)
@[simp] theorem State.raise_units (s : State) (page bit : Nat) : (State.raise s page bit).units = s.units :=
  (State.raise_frame (within_refl _) (frame_refl _ s)).units (by decide)
@[simp] theorem State.raise_upl (s : State) (page bit : Nat) : (State.raise s page bit).upl = s.upl :=
  (State.raise_frame (within_refl _) (frame_refl _ s)).upl (by decide)
@[simp] theorem State.raise_tim (s : State) (page bit : Nat) : (State.raise s page bit).tim = s.tim :=
  (State.raise_frame (within_refl _) (frame_refl _ s)).tim (by decide)
@[simp] theorem State.raise_mnt (s : State) (page bit : Nat) : (State.raise s page bit).mnt = s.mnt :=
  (State.raise_frame (within_refl _) (frame_refl _ s)).mnt (by decide)
@[simp] theorem State.raise_flt (s : State) (page bit : Nat) : (State.raise s page bit).flt = s.flt :=
  (State.raise_frame (within_refl _) (frame_refl _ s)).flt (by decide)
@[simp] theorem State.raise_fld (s : State) (page bit : Nat) : (State.raise s page bit).fld = s.fld :=
  (State.raise_frame (within_refl _) (frame_refl _ s)).fld (by decide)
@[simp] theorem State.raise_ofe (s : State) (page bit : Nat) : (State.raise s page bit).ofe = s.ofe :=
  (State.raise_frame (within_refl _) (frame_refl _ s)).ofe (by decide)
@[simp] theorem State.raise_fib (s : State) (page bit : Nat) : (State.raise s page bit).fib = s.fib :=
  (State.raise_frame (within_refl _) (frame_refl _ s)).fib (by decide)
@[simp] theorem State.raise_tmp (s : State) (page bit : Nat) : (State.raise s page bit).tmp = s.tmp :=
  (State.raise_frame (within_refl _) (frame_refl _ s)).tmp (by decide)
@[simp] theorem State.raise_lpe (s : State) (page bit : Nat) : (State.raise s page bit).lpe = s.lpe :=
  (State.raise_frame (within_refl _) (frame_refl _ s)).lpe (by decide)
@[simp] theorem State.raise_drp (s : State) (page bit : Nat) : (State.raise s page bit).drp = s.drp :=
  (State.raise_frame (within_refl _) (frame_refl _ s)).drp (by decide)
@[simp] theorem State.raise_pai (s : State) (page bit : Nat) : (State.raise s page bit).pai = s.pai :=
  (State.raise_frame (within_refl _) (frame_refl _ s)).pai (by decide)
@[simp] theorem State.raise_sessNo (s : State) (page bit : Nat) : (State.raise s page bit).sessNo = s.sessNo :=
  (State.raise_frame (within_refl _) (frame_refl _ s)).sessNo (by decide)
@[simp] theorem State.raise_latches (s : State) (page bit : Nat) : (State.raise s page bit).latches = s.latches :=
  (State.raise_frame (within_refl _) (frame_refl _ s)).latches (by decide)
@[simp] theorem State.raise_ans (s : State) (page bit : Nat) : (State.raise s page bit).ans = s.ans :=
  (State.raise_frame (within_refl _) (frame_refl _ s)).ans (by decide)
@[simp] theorem State.raise_sent (s : State) (page bit : Nat) : (State.raise s page bit).sent = s.sent :=
  (State.raise_frame (within_refl _) (frame_refl _ s)).sent (by decide)
@[simp] theorem State.raise_pending (s : State) (page bit : Nat) : (State.raise s page bit).pending = s.pending :=
  (State.raise_frame (within_refl _) (frame_refl _ s)).pending

@[simp] theorem State.err_mem (s : State) (page code : Nat) : (State.err s page code).mem = s.mem :=
  (State.err_frame (within_refl _) (frame_refl _ s)).mem (by decide)
@[simp] theorem State.err_ltc (s : State) (page code : Nat) : (State.err s page code).ltc = s.ltc :=
  (State.err_frame (within_refl _) (frame_refl _ s)).ltc (by decide)
@[simp] theorem State.err_ltcRun (s : State) (page code : Nat) : (State.err s page code).ltcRun = s.ltcRun :=
  (State.err_frame (within_refl _) (frame_refl _ s)).ltcRun (by decide)
@[simp] theorem State.err_free (s : State) (page code : Nat) : (State.err s page code).free = s.free :=
  (State.err_frame (within_refl _) (frame_refl _ s)).free (by decide)
@[simp] theorem State.err_nv (s : State) (page code : Nat) : (State.err s page code).nv = s.nv :=
  (State.err_frame (within_refl _) (frame_refl _ s)).nv (by decide)
@[simp] theorem State.err_sys (s : State) (page code : Nat) : (State.err s page code).sys = s.sys :=
  (State.err_frame (within_refl _) (frame_refl _ s)).sys (by decide)
@[simp] theorem State.err_pln (s : State) (page code : Nat) : (State.err s page code).pln = s.pln :=
  (State.err_frame (within_refl _) (frame_refl _ s)).pln (by decide)
@[simp] theorem State.err_sched (s : State) (page code : Nat) : (State.err s page code).sched = s.sched :=
  (State.err_frame (within_refl _) (frame_refl _ s)).sched (by decide)
@[simp] theorem State.err_lanes (s : State) (page code : Nat) : (State.err s page code).lanes = s.lanes :=
  (State.err_frame (within_refl _) (frame_refl _ s)).lanes (by decide)
@[simp] theorem State.err_seqs (s : State) (page code : Nat) : (State.err s page code).seqs = s.seqs :=
  (State.err_frame (within_refl _) (frame_refl _ s)).seqs (by decide)
@[simp] theorem State.err_pops (s : State) (page code : Nat) : (State.err s page code).pops = s.pops :=
  (State.err_frame (within_refl _) (frame_refl _ s)).pops (by decide)
@[simp] theorem State.err_jobs (s : State) (page code : Nat) : (State.err s page code).jobs = s.jobs :=
  (State.err_frame (within_refl _) (frame_refl _ s)).jobs (by decide)
@[simp] theorem State.err_clk (s : State) (page code : Nat) : (State.err s page code).clk = s.clk :=
  (State.err_frame (within_refl _) (frame_refl _ s)).clk (by decide)
@[simp] theorem State.err_shb (s : State) (page code : Nat) : (State.err s page code).shb = s.shb :=
  (State.err_frame (within_refl _) (frame_refl _ s)).shb (by decide)
@[simp] theorem State.err_resync (s : State) (page code : Nat) : (State.err s page code).resync = s.resync :=
  (State.err_frame (within_refl _) (frame_refl _ s)).resync (by decide)
@[simp] theorem State.err_units (s : State) (page code : Nat) : (State.err s page code).units = s.units :=
  (State.err_frame (within_refl _) (frame_refl _ s)).units (by decide)
@[simp] theorem State.err_upl (s : State) (page code : Nat) : (State.err s page code).upl = s.upl :=
  (State.err_frame (within_refl _) (frame_refl _ s)).upl (by decide)
@[simp] theorem State.err_tim (s : State) (page code : Nat) : (State.err s page code).tim = s.tim :=
  (State.err_frame (within_refl _) (frame_refl _ s)).tim (by decide)
@[simp] theorem State.err_mnt (s : State) (page code : Nat) : (State.err s page code).mnt = s.mnt :=
  (State.err_frame (within_refl _) (frame_refl _ s)).mnt (by decide)
@[simp] theorem State.err_flt (s : State) (page code : Nat) : (State.err s page code).flt = s.flt :=
  (State.err_frame (within_refl _) (frame_refl _ s)).flt (by decide)
@[simp] theorem State.err_fld (s : State) (page code : Nat) : (State.err s page code).fld = s.fld :=
  (State.err_frame (within_refl _) (frame_refl _ s)).fld (by decide)
@[simp] theorem State.err_ofe (s : State) (page code : Nat) : (State.err s page code).ofe = s.ofe :=
  (State.err_frame (within_refl _) (frame_refl _ s)).ofe (by decide)
@[simp] theorem State.err_fib (s : State) (page code : Nat) : (State.err s page code).fib = s.fib :=
  (State.err_frame (within_refl _) (frame_refl _ s)).fib (by decide)
@[simp] theorem State.err_tmp (s : State) (page code : Nat) : (State.err s page code).tmp = s.tmp :=
  (State.err_frame (within_refl _) (frame_refl _ s)).tmp (by decide)
@[simp] theorem State.err_lpe (s : State) (page code : Nat) : (State.err s page code).lpe = s.lpe :=
  (State.err_frame (within_refl _) (frame_refl _ s)).lpe (by decide)
@[simp] theorem State.err_drp (s : State) (page code : Nat) : (State.err s page code).drp = s.drp :=
  (State.err_frame (within_refl _) (frame_refl _ s)).drp (by decide)
@[simp] theorem State.err_pai (s : State) (page code : Nat) : (State.err s page code).pai = s.pai :=
  (State.err_frame (within_refl _) (frame_refl _ s)).pai (by decide)
@[simp] theorem State.err_sessNo (s : State) (page code : Nat) : (State.err s page code).sessNo = s.sessNo :=
  (State.err_frame (within_refl _) (frame_refl _ s)).sessNo (by decide)
@[simp] theorem State.err_latches (s : State) (page code : Nat) : (State.err s page code).latches = s.latches :=
  (State.err_frame (within_refl _) (frame_refl _ s)).latches (by decide)
@[simp] theorem State.err_ans (s : State) (page code : Nat) : (State.err s page code).ans = s.ans :=
  (State.err_frame (within_refl _) (frame_refl _ s)).ans (by decide)
@[simp] theorem State.err_sent (s : State) (page code : Nat) : (State.err s page code).sent = s.sent :=
  (State.err_frame (within_refl _) (frame_refl _ s)).sent (by decide)
@[simp] theorem State.err_pending (s : State) (page code : Nat) : (State.err s page code).pending = s.pending :=
  (State.err_frame (within_refl _) (frame_refl _ s)).pending

@[simp] theorem State.wrByte_regs (s : State) (a : Nat) (b : Byte) : (State.wrByte s a b).regs = s.regs :=
  (State.wrByte_frame (within_refl _) (frame_refl _ s)).regs (by decide)
@[simp] theorem State.wrByte_ltc (s : State) (a : Nat) (b : Byte) : (State.wrByte s a b).ltc = s.ltc :=
  (State.wrByte_frame (within_refl _) (frame_refl _ s)).ltc (by decide)
@[simp] theorem State.wrByte_ltcRun (s : State) (a : Nat) (b : Byte) : (State.wrByte s a b).ltcRun = s.ltcRun :=
  (State.wrByte_frame (within_refl _) (frame_refl _ s)).ltcRun (by decide)
@[simp] theorem State.wrByte_free (s : State) (a : Nat) (b : Byte) : (State.wrByte s a b).free = s.free :=
  (State.wrByte_frame (within_refl _) (frame_refl _ s)).free (by decide)
@[simp] theorem State.wrByte_nv (s : State) (a : Nat) (b : Byte) : (State.wrByte s a b).nv = s.nv :=
  (State.wrByte_frame (within_refl _) (frame_refl _ s)).nv (by decide)
@[simp] theorem State.wrByte_sys (s : State) (a : Nat) (b : Byte) : (State.wrByte s a b).sys = s.sys :=
  (State.wrByte_frame (within_refl _) (frame_refl _ s)).sys (by decide)
@[simp] theorem State.wrByte_pln (s : State) (a : Nat) (b : Byte) : (State.wrByte s a b).pln = s.pln :=
  (State.wrByte_frame (within_refl _) (frame_refl _ s)).pln (by decide)
@[simp] theorem State.wrByte_sched (s : State) (a : Nat) (b : Byte) : (State.wrByte s a b).sched = s.sched :=
  (State.wrByte_frame (within_refl _) (frame_refl _ s)).sched (by decide)
@[simp] theorem State.wrByte_lanes (s : State) (a : Nat) (b : Byte) : (State.wrByte s a b).lanes = s.lanes :=
  (State.wrByte_frame (within_refl _) (frame_refl _ s)).lanes (by decide)
@[simp] theorem State.wrByte_seqs (s : State) (a : Nat) (b : Byte) : (State.wrByte s a b).seqs = s.seqs :=
  (State.wrByte_frame (within_refl _) (frame_refl _ s)).seqs (by decide)
@[simp] theorem State.wrByte_pops (s : State) (a : Nat) (b : Byte) : (State.wrByte s a b).pops = s.pops :=
  (State.wrByte_frame (within_refl _) (frame_refl _ s)).pops (by decide)
@[simp] theorem State.wrByte_jobs (s : State) (a : Nat) (b : Byte) : (State.wrByte s a b).jobs = s.jobs :=
  (State.wrByte_frame (within_refl _) (frame_refl _ s)).jobs (by decide)
@[simp] theorem State.wrByte_clk (s : State) (a : Nat) (b : Byte) : (State.wrByte s a b).clk = s.clk :=
  (State.wrByte_frame (within_refl _) (frame_refl _ s)).clk (by decide)
@[simp] theorem State.wrByte_shb (s : State) (a : Nat) (b : Byte) : (State.wrByte s a b).shb = s.shb :=
  (State.wrByte_frame (within_refl _) (frame_refl _ s)).shb (by decide)
@[simp] theorem State.wrByte_resync (s : State) (a : Nat) (b : Byte) : (State.wrByte s a b).resync = s.resync :=
  (State.wrByte_frame (within_refl _) (frame_refl _ s)).resync (by decide)
@[simp] theorem State.wrByte_units (s : State) (a : Nat) (b : Byte) : (State.wrByte s a b).units = s.units :=
  (State.wrByte_frame (within_refl _) (frame_refl _ s)).units (by decide)
@[simp] theorem State.wrByte_sessions (s : State) (a : Nat) (b : Byte) : (State.wrByte s a b).sessions = s.sessions :=
  (State.wrByte_frame (within_refl _) (frame_refl _ s)).sessions (by decide)
@[simp] theorem State.wrByte_upl (s : State) (a : Nat) (b : Byte) : (State.wrByte s a b).upl = s.upl :=
  (State.wrByte_frame (within_refl _) (frame_refl _ s)).upl (by decide)
@[simp] theorem State.wrByte_tim (s : State) (a : Nat) (b : Byte) : (State.wrByte s a b).tim = s.tim :=
  (State.wrByte_frame (within_refl _) (frame_refl _ s)).tim (by decide)
@[simp] theorem State.wrByte_mnt (s : State) (a : Nat) (b : Byte) : (State.wrByte s a b).mnt = s.mnt :=
  (State.wrByte_frame (within_refl _) (frame_refl _ s)).mnt (by decide)
@[simp] theorem State.wrByte_flt (s : State) (a : Nat) (b : Byte) : (State.wrByte s a b).flt = s.flt :=
  (State.wrByte_frame (within_refl _) (frame_refl _ s)).flt (by decide)
@[simp] theorem State.wrByte_fld (s : State) (a : Nat) (b : Byte) : (State.wrByte s a b).fld = s.fld :=
  (State.wrByte_frame (within_refl _) (frame_refl _ s)).fld (by decide)
@[simp] theorem State.wrByte_ofe (s : State) (a : Nat) (b : Byte) : (State.wrByte s a b).ofe = s.ofe :=
  (State.wrByte_frame (within_refl _) (frame_refl _ s)).ofe (by decide)
@[simp] theorem State.wrByte_fib (s : State) (a : Nat) (b : Byte) : (State.wrByte s a b).fib = s.fib :=
  (State.wrByte_frame (within_refl _) (frame_refl _ s)).fib (by decide)
@[simp] theorem State.wrByte_tmp (s : State) (a : Nat) (b : Byte) : (State.wrByte s a b).tmp = s.tmp :=
  (State.wrByte_frame (within_refl _) (frame_refl _ s)).tmp (by decide)
@[simp] theorem State.wrByte_lpe (s : State) (a : Nat) (b : Byte) : (State.wrByte s a b).lpe = s.lpe :=
  (State.wrByte_frame (within_refl _) (frame_refl _ s)).lpe (by decide)
@[simp] theorem State.wrByte_drp (s : State) (a : Nat) (b : Byte) : (State.wrByte s a b).drp = s.drp :=
  (State.wrByte_frame (within_refl _) (frame_refl _ s)).drp (by decide)
@[simp] theorem State.wrByte_pai (s : State) (a : Nat) (b : Byte) : (State.wrByte s a b).pai = s.pai :=
  (State.wrByte_frame (within_refl _) (frame_refl _ s)).pai (by decide)
@[simp] theorem State.wrByte_sessNo (s : State) (a : Nat) (b : Byte) : (State.wrByte s a b).sessNo = s.sessNo :=
  (State.wrByte_frame (within_refl _) (frame_refl _ s)).sessNo (by decide)
@[simp] theorem State.wrByte_latches (s : State) (a : Nat) (b : Byte) : (State.wrByte s a b).latches = s.latches :=
  (State.wrByte_frame (within_refl _) (frame_refl _ s)).latches (by decide)
@[simp] theorem State.wrByte_ans (s : State) (a : Nat) (b : Byte) : (State.wrByte s a b).ans = s.ans :=
  (State.wrByte_frame (within_refl _) (frame_refl _ s)).ans (by decide)
@[simp] theorem State.wrByte_sent (s : State) (a : Nat) (b : Byte) : (State.wrByte s a b).sent = s.sent :=
  (State.wrByte_frame (within_refl _) (frame_refl _ s)).sent (by decide)
@[simp] theorem State.wrByte_pending (s : State) (a : Nat) (b : Byte) : (State.wrByte s a b).pending = s.pending :=
  (State.wrByte_frame (within_refl _) (frame_refl _ s)).pending

@[simp] theorem State.wrWord_regs (s : State) (a : Nat) (w : Word) : (State.wrWord s a w).regs = s.regs :=
  (State.wrWord_frame (within_refl _) (frame_refl _ s)).regs (by decide)
@[simp] theorem State.wrWord_ltc (s : State) (a : Nat) (w : Word) : (State.wrWord s a w).ltc = s.ltc :=
  (State.wrWord_frame (within_refl _) (frame_refl _ s)).ltc (by decide)
@[simp] theorem State.wrWord_ltcRun (s : State) (a : Nat) (w : Word) : (State.wrWord s a w).ltcRun = s.ltcRun :=
  (State.wrWord_frame (within_refl _) (frame_refl _ s)).ltcRun (by decide)
@[simp] theorem State.wrWord_free (s : State) (a : Nat) (w : Word) : (State.wrWord s a w).free = s.free :=
  (State.wrWord_frame (within_refl _) (frame_refl _ s)).free (by decide)
@[simp] theorem State.wrWord_nv (s : State) (a : Nat) (w : Word) : (State.wrWord s a w).nv = s.nv :=
  (State.wrWord_frame (within_refl _) (frame_refl _ s)).nv (by decide)
@[simp] theorem State.wrWord_sys (s : State) (a : Nat) (w : Word) : (State.wrWord s a w).sys = s.sys :=
  (State.wrWord_frame (within_refl _) (frame_refl _ s)).sys (by decide)
@[simp] theorem State.wrWord_pln (s : State) (a : Nat) (w : Word) : (State.wrWord s a w).pln = s.pln :=
  (State.wrWord_frame (within_refl _) (frame_refl _ s)).pln (by decide)
@[simp] theorem State.wrWord_sched (s : State) (a : Nat) (w : Word) : (State.wrWord s a w).sched = s.sched :=
  (State.wrWord_frame (within_refl _) (frame_refl _ s)).sched (by decide)
@[simp] theorem State.wrWord_lanes (s : State) (a : Nat) (w : Word) : (State.wrWord s a w).lanes = s.lanes :=
  (State.wrWord_frame (within_refl _) (frame_refl _ s)).lanes (by decide)
@[simp] theorem State.wrWord_seqs (s : State) (a : Nat) (w : Word) : (State.wrWord s a w).seqs = s.seqs :=
  (State.wrWord_frame (within_refl _) (frame_refl _ s)).seqs (by decide)
@[simp] theorem State.wrWord_pops (s : State) (a : Nat) (w : Word) : (State.wrWord s a w).pops = s.pops :=
  (State.wrWord_frame (within_refl _) (frame_refl _ s)).pops (by decide)
@[simp] theorem State.wrWord_jobs (s : State) (a : Nat) (w : Word) : (State.wrWord s a w).jobs = s.jobs :=
  (State.wrWord_frame (within_refl _) (frame_refl _ s)).jobs (by decide)
@[simp] theorem State.wrWord_clk (s : State) (a : Nat) (w : Word) : (State.wrWord s a w).clk = s.clk :=
  (State.wrWord_frame (within_refl _) (frame_refl _ s)).clk (by decide)
@[simp] theorem State.wrWord_shb (s : State) (a : Nat) (w : Word) : (State.wrWord s a w).shb = s.shb :=
  (State.wrWord_frame (within_refl _) (frame_refl _ s)).shb (by decide)
@[simp] theorem State.wrWord_resync (s : State) (a : Nat) (w : Word) : (State.wrWord s a w).resync = s.resync :=
  (State.wrWord_frame (within_refl _) (frame_refl _ s)).resync (by decide)
@[simp] theorem State.wrWord_units (s : State) (a : Nat) (w : Word) : (State.wrWord s a w).units = s.units :=
  (State.wrWord_frame (within_refl _) (frame_refl _ s)).units (by decide)
@[simp] theorem State.wrWord_sessions (s : State) (a : Nat) (w : Word) : (State.wrWord s a w).sessions = s.sessions :=
  (State.wrWord_frame (within_refl _) (frame_refl _ s)).sessions (by decide)
@[simp] theorem State.wrWord_upl (s : State) (a : Nat) (w : Word) : (State.wrWord s a w).upl = s.upl :=
  (State.wrWord_frame (within_refl _) (frame_refl _ s)).upl (by decide)
@[simp] theorem State.wrWord_tim (s : State) (a : Nat) (w : Word) : (State.wrWord s a w).tim = s.tim :=
  (State.wrWord_frame (within_refl _) (frame_refl _ s)).tim (by decide)
@[simp] theorem State.wrWord_mnt (s : State) (a : Nat) (w : Word) : (State.wrWord s a w).mnt = s.mnt :=
  (State.wrWord_frame (within_refl _) (frame_refl _ s)).mnt (by decide)
@[simp] theorem State.wrWord_flt (s : State) (a : Nat) (w : Word) : (State.wrWord s a w).flt = s.flt :=
  (State.wrWord_frame (within_refl _) (frame_refl _ s)).flt (by decide)
@[simp] theorem State.wrWord_fld (s : State) (a : Nat) (w : Word) : (State.wrWord s a w).fld = s.fld :=
  (State.wrWord_frame (within_refl _) (frame_refl _ s)).fld (by decide)
@[simp] theorem State.wrWord_ofe (s : State) (a : Nat) (w : Word) : (State.wrWord s a w).ofe = s.ofe :=
  (State.wrWord_frame (within_refl _) (frame_refl _ s)).ofe (by decide)
@[simp] theorem State.wrWord_fib (s : State) (a : Nat) (w : Word) : (State.wrWord s a w).fib = s.fib :=
  (State.wrWord_frame (within_refl _) (frame_refl _ s)).fib (by decide)
@[simp] theorem State.wrWord_tmp (s : State) (a : Nat) (w : Word) : (State.wrWord s a w).tmp = s.tmp :=
  (State.wrWord_frame (within_refl _) (frame_refl _ s)).tmp (by decide)
@[simp] theorem State.wrWord_lpe (s : State) (a : Nat) (w : Word) : (State.wrWord s a w).lpe = s.lpe :=
  (State.wrWord_frame (within_refl _) (frame_refl _ s)).lpe (by decide)
@[simp] theorem State.wrWord_drp (s : State) (a : Nat) (w : Word) : (State.wrWord s a w).drp = s.drp :=
  (State.wrWord_frame (within_refl _) (frame_refl _ s)).drp (by decide)
@[simp] theorem State.wrWord_pai (s : State) (a : Nat) (w : Word) : (State.wrWord s a w).pai = s.pai :=
  (State.wrWord_frame (within_refl _) (frame_refl _ s)).pai (by decide)
@[simp] theorem State.wrWord_sessNo (s : State) (a : Nat) (w : Word) : (State.wrWord s a w).sessNo = s.sessNo :=
  (State.wrWord_frame (within_refl _) (frame_refl _ s)).sessNo (by decide)
@[simp] theorem State.wrWord_latches (s : State) (a : Nat) (w : Word) : (State.wrWord s a w).latches = s.latches :=
  (State.wrWord_frame (within_refl _) (frame_refl _ s)).latches (by decide)
@[simp] theorem State.wrWord_ans (s : State) (a : Nat) (w : Word) : (State.wrWord s a w).ans = s.ans :=
  (State.wrWord_frame (within_refl _) (frame_refl _ s)).ans (by decide)
@[simp] theorem State.wrWord_sent (s : State) (a : Nat) (w : Word) : (State.wrWord s a w).sent = s.sent :=
  (State.wrWord_frame (within_refl _) (frame_refl _ s)).sent (by decide)
@[simp] theorem State.wrWord_pending (s : State) (a : Nat) (w : Word) : (State.wrWord s a w).pending = s.pending :=
  (State.wrWord_frame (within_refl _) (frame_refl _ s)).pending

@[simp] theorem State.emitOut_regs (s : State) (o : Out) : (State.emitOut s o).regs = s.regs :=
  (State.emitOut_frame (within_refl _) (frame_refl _ s)).regs (by decide)
@[simp] theorem State.emitOut_mem (s : State) (o : Out) : (State.emitOut s o).mem = s.mem :=
  (State.emitOut_frame (within_refl _) (frame_refl _ s)).mem (by decide)
@[simp] theorem State.emitOut_ltc (s : State) (o : Out) : (State.emitOut s o).ltc = s.ltc :=
  (State.emitOut_frame (within_refl _) (frame_refl _ s)).ltc (by decide)
@[simp] theorem State.emitOut_ltcRun (s : State) (o : Out) : (State.emitOut s o).ltcRun = s.ltcRun :=
  (State.emitOut_frame (within_refl _) (frame_refl _ s)).ltcRun (by decide)
@[simp] theorem State.emitOut_free (s : State) (o : Out) : (State.emitOut s o).free = s.free :=
  (State.emitOut_frame (within_refl _) (frame_refl _ s)).free (by decide)
@[simp] theorem State.emitOut_nv (s : State) (o : Out) : (State.emitOut s o).nv = s.nv :=
  (State.emitOut_frame (within_refl _) (frame_refl _ s)).nv (by decide)
@[simp] theorem State.emitOut_sys (s : State) (o : Out) : (State.emitOut s o).sys = s.sys :=
  (State.emitOut_frame (within_refl _) (frame_refl _ s)).sys (by decide)
@[simp] theorem State.emitOut_pln (s : State) (o : Out) : (State.emitOut s o).pln = s.pln :=
  (State.emitOut_frame (within_refl _) (frame_refl _ s)).pln (by decide)
@[simp] theorem State.emitOut_sched (s : State) (o : Out) : (State.emitOut s o).sched = s.sched :=
  (State.emitOut_frame (within_refl _) (frame_refl _ s)).sched (by decide)
@[simp] theorem State.emitOut_lanes (s : State) (o : Out) : (State.emitOut s o).lanes = s.lanes :=
  (State.emitOut_frame (within_refl _) (frame_refl _ s)).lanes (by decide)
@[simp] theorem State.emitOut_seqs (s : State) (o : Out) : (State.emitOut s o).seqs = s.seqs :=
  (State.emitOut_frame (within_refl _) (frame_refl _ s)).seqs (by decide)
@[simp] theorem State.emitOut_pops (s : State) (o : Out) : (State.emitOut s o).pops = s.pops :=
  (State.emitOut_frame (within_refl _) (frame_refl _ s)).pops (by decide)
@[simp] theorem State.emitOut_jobs (s : State) (o : Out) : (State.emitOut s o).jobs = s.jobs :=
  (State.emitOut_frame (within_refl _) (frame_refl _ s)).jobs (by decide)
@[simp] theorem State.emitOut_clk (s : State) (o : Out) : (State.emitOut s o).clk = s.clk :=
  (State.emitOut_frame (within_refl _) (frame_refl _ s)).clk (by decide)
@[simp] theorem State.emitOut_shb (s : State) (o : Out) : (State.emitOut s o).shb = s.shb :=
  (State.emitOut_frame (within_refl _) (frame_refl _ s)).shb (by decide)
@[simp] theorem State.emitOut_resync (s : State) (o : Out) : (State.emitOut s o).resync = s.resync :=
  (State.emitOut_frame (within_refl _) (frame_refl _ s)).resync (by decide)
@[simp] theorem State.emitOut_units (s : State) (o : Out) : (State.emitOut s o).units = s.units :=
  (State.emitOut_frame (within_refl _) (frame_refl _ s)).units (by decide)
@[simp] theorem State.emitOut_sessions (s : State) (o : Out) : (State.emitOut s o).sessions = s.sessions :=
  (State.emitOut_frame (within_refl _) (frame_refl _ s)).sessions (by decide)
@[simp] theorem State.emitOut_upl (s : State) (o : Out) : (State.emitOut s o).upl = s.upl :=
  (State.emitOut_frame (within_refl _) (frame_refl _ s)).upl (by decide)
@[simp] theorem State.emitOut_tim (s : State) (o : Out) : (State.emitOut s o).tim = s.tim :=
  (State.emitOut_frame (within_refl _) (frame_refl _ s)).tim (by decide)
@[simp] theorem State.emitOut_mnt (s : State) (o : Out) : (State.emitOut s o).mnt = s.mnt :=
  (State.emitOut_frame (within_refl _) (frame_refl _ s)).mnt (by decide)
@[simp] theorem State.emitOut_flt (s : State) (o : Out) : (State.emitOut s o).flt = s.flt :=
  (State.emitOut_frame (within_refl _) (frame_refl _ s)).flt (by decide)
@[simp] theorem State.emitOut_fld (s : State) (o : Out) : (State.emitOut s o).fld = s.fld :=
  (State.emitOut_frame (within_refl _) (frame_refl _ s)).fld (by decide)
@[simp] theorem State.emitOut_ofe (s : State) (o : Out) : (State.emitOut s o).ofe = s.ofe :=
  (State.emitOut_frame (within_refl _) (frame_refl _ s)).ofe (by decide)
@[simp] theorem State.emitOut_fib (s : State) (o : Out) : (State.emitOut s o).fib = s.fib :=
  (State.emitOut_frame (within_refl _) (frame_refl _ s)).fib (by decide)
@[simp] theorem State.emitOut_tmp (s : State) (o : Out) : (State.emitOut s o).tmp = s.tmp :=
  (State.emitOut_frame (within_refl _) (frame_refl _ s)).tmp (by decide)
@[simp] theorem State.emitOut_lpe (s : State) (o : Out) : (State.emitOut s o).lpe = s.lpe :=
  (State.emitOut_frame (within_refl _) (frame_refl _ s)).lpe (by decide)
@[simp] theorem State.emitOut_drp (s : State) (o : Out) : (State.emitOut s o).drp = s.drp :=
  (State.emitOut_frame (within_refl _) (frame_refl _ s)).drp (by decide)
@[simp] theorem State.emitOut_pai (s : State) (o : Out) : (State.emitOut s o).pai = s.pai :=
  (State.emitOut_frame (within_refl _) (frame_refl _ s)).pai (by decide)
@[simp] theorem State.emitOut_sessNo (s : State) (o : Out) : (State.emitOut s o).sessNo = s.sessNo :=
  (State.emitOut_frame (within_refl _) (frame_refl _ s)).sessNo (by decide)
@[simp] theorem State.emitOut_latches (s : State) (o : Out) : (State.emitOut s o).latches = s.latches :=
  (State.emitOut_frame (within_refl _) (frame_refl _ s)).latches (by decide)
@[simp] theorem State.emitOut_ans (s : State) (o : Out) : (State.emitOut s o).ans = s.ans :=
  (State.emitOut_frame (within_refl _) (frame_refl _ s)).ans (by decide)
@[simp] theorem State.emitOut_pending (s : State) (o : Out) : (State.emitOut s o).pending = s.pending :=
  (State.emitOut_frame (within_refl _) (frame_refl _ s)).pending

@[simp] theorem State.logFault_regs (s : State) (err page data : Nat) : (State.logFault s err page data).regs = s.regs :=
  (State.logFault_frame (within_refl _) (frame_refl _ s)).regs (by decide)
@[simp] theorem State.logFault_mem (s : State) (err page data : Nat) : (State.logFault s err page data).mem = s.mem :=
  (State.logFault_frame (within_refl _) (frame_refl _ s)).mem (by decide)
@[simp] theorem State.logFault_ltc (s : State) (err page data : Nat) : (State.logFault s err page data).ltc = s.ltc :=
  (State.logFault_frame (within_refl _) (frame_refl _ s)).ltc (by decide)
@[simp] theorem State.logFault_ltcRun (s : State) (err page data : Nat) : (State.logFault s err page data).ltcRun = s.ltcRun :=
  (State.logFault_frame (within_refl _) (frame_refl _ s)).ltcRun (by decide)
@[simp] theorem State.logFault_free (s : State) (err page data : Nat) : (State.logFault s err page data).free = s.free :=
  (State.logFault_frame (within_refl _) (frame_refl _ s)).free (by decide)
@[simp] theorem State.logFault_sys (s : State) (err page data : Nat) : (State.logFault s err page data).sys = s.sys :=
  (State.logFault_frame (within_refl _) (frame_refl _ s)).sys (by decide)
@[simp] theorem State.logFault_pln (s : State) (err page data : Nat) : (State.logFault s err page data).pln = s.pln :=
  (State.logFault_frame (within_refl _) (frame_refl _ s)).pln (by decide)
@[simp] theorem State.logFault_sched (s : State) (err page data : Nat) : (State.logFault s err page data).sched = s.sched :=
  (State.logFault_frame (within_refl _) (frame_refl _ s)).sched (by decide)
@[simp] theorem State.logFault_lanes (s : State) (err page data : Nat) : (State.logFault s err page data).lanes = s.lanes :=
  (State.logFault_frame (within_refl _) (frame_refl _ s)).lanes (by decide)
@[simp] theorem State.logFault_seqs (s : State) (err page data : Nat) : (State.logFault s err page data).seqs = s.seqs :=
  (State.logFault_frame (within_refl _) (frame_refl _ s)).seqs (by decide)
@[simp] theorem State.logFault_pops (s : State) (err page data : Nat) : (State.logFault s err page data).pops = s.pops :=
  (State.logFault_frame (within_refl _) (frame_refl _ s)).pops (by decide)
@[simp] theorem State.logFault_jobs (s : State) (err page data : Nat) : (State.logFault s err page data).jobs = s.jobs :=
  (State.logFault_frame (within_refl _) (frame_refl _ s)).jobs (by decide)
@[simp] theorem State.logFault_clk (s : State) (err page data : Nat) : (State.logFault s err page data).clk = s.clk :=
  (State.logFault_frame (within_refl _) (frame_refl _ s)).clk (by decide)
@[simp] theorem State.logFault_shb (s : State) (err page data : Nat) : (State.logFault s err page data).shb = s.shb :=
  (State.logFault_frame (within_refl _) (frame_refl _ s)).shb (by decide)
@[simp] theorem State.logFault_resync (s : State) (err page data : Nat) : (State.logFault s err page data).resync = s.resync :=
  (State.logFault_frame (within_refl _) (frame_refl _ s)).resync (by decide)
@[simp] theorem State.logFault_units (s : State) (err page data : Nat) : (State.logFault s err page data).units = s.units :=
  (State.logFault_frame (within_refl _) (frame_refl _ s)).units (by decide)
@[simp] theorem State.logFault_sessions (s : State) (err page data : Nat) : (State.logFault s err page data).sessions = s.sessions :=
  (State.logFault_frame (within_refl _) (frame_refl _ s)).sessions (by decide)
@[simp] theorem State.logFault_upl (s : State) (err page data : Nat) : (State.logFault s err page data).upl = s.upl :=
  (State.logFault_frame (within_refl _) (frame_refl _ s)).upl (by decide)
@[simp] theorem State.logFault_tim (s : State) (err page data : Nat) : (State.logFault s err page data).tim = s.tim :=
  (State.logFault_frame (within_refl _) (frame_refl _ s)).tim (by decide)
@[simp] theorem State.logFault_flt (s : State) (err page data : Nat) : (State.logFault s err page data).flt = s.flt :=
  (State.logFault_frame (within_refl _) (frame_refl _ s)).flt (by decide)
@[simp] theorem State.logFault_fld (s : State) (err page data : Nat) : (State.logFault s err page data).fld = s.fld :=
  (State.logFault_frame (within_refl _) (frame_refl _ s)).fld (by decide)
@[simp] theorem State.logFault_ofe (s : State) (err page data : Nat) : (State.logFault s err page data).ofe = s.ofe :=
  (State.logFault_frame (within_refl _) (frame_refl _ s)).ofe (by decide)
@[simp] theorem State.logFault_fib (s : State) (err page data : Nat) : (State.logFault s err page data).fib = s.fib :=
  (State.logFault_frame (within_refl _) (frame_refl _ s)).fib (by decide)
@[simp] theorem State.logFault_tmp (s : State) (err page data : Nat) : (State.logFault s err page data).tmp = s.tmp :=
  (State.logFault_frame (within_refl _) (frame_refl _ s)).tmp (by decide)
@[simp] theorem State.logFault_lpe (s : State) (err page data : Nat) : (State.logFault s err page data).lpe = s.lpe :=
  (State.logFault_frame (within_refl _) (frame_refl _ s)).lpe (by decide)
@[simp] theorem State.logFault_drp (s : State) (err page data : Nat) : (State.logFault s err page data).drp = s.drp :=
  (State.logFault_frame (within_refl _) (frame_refl _ s)).drp (by decide)
@[simp] theorem State.logFault_pai (s : State) (err page data : Nat) : (State.logFault s err page data).pai = s.pai :=
  (State.logFault_frame (within_refl _) (frame_refl _ s)).pai (by decide)
@[simp] theorem State.logFault_sessNo (s : State) (err page data : Nat) : (State.logFault s err page data).sessNo = s.sessNo :=
  (State.logFault_frame (within_refl _) (frame_refl _ s)).sessNo (by decide)
@[simp] theorem State.logFault_latches (s : State) (err page data : Nat) : (State.logFault s err page data).latches = s.latches :=
  (State.logFault_frame (within_refl _) (frame_refl _ s)).latches (by decide)
@[simp] theorem State.logFault_ans (s : State) (err page data : Nat) : (State.logFault s err page data).ans = s.ans :=
  (State.logFault_frame (within_refl _) (frame_refl _ s)).ans (by decide)
@[simp] theorem State.logFault_sent (s : State) (err page data : Nat) : (State.logFault s err page data).sent = s.sent :=
  (State.logFault_frame (within_refl _) (frame_refl _ s)).sent (by decide)
@[simp] theorem State.logFault_pending (s : State) (err page data : Nat) : (State.logFault s err page data).pending = s.pending :=
  (State.logFault_frame (within_refl _) (frame_refl _ s)).pending

@[simp] theorem State.sendTether_regs (s : State) (i kind : Nat) (m : TethMsg) : (State.sendTether s i kind m).regs = s.regs :=
  (State.sendTether_frame (within_refl _) (frame_refl _ s)).regs (by decide)
@[simp] theorem State.sendTether_mem (s : State) (i kind : Nat) (m : TethMsg) : (State.sendTether s i kind m).mem = s.mem :=
  (State.sendTether_frame (within_refl _) (frame_refl _ s)).mem (by decide)
@[simp] theorem State.sendTether_ltc (s : State) (i kind : Nat) (m : TethMsg) : (State.sendTether s i kind m).ltc = s.ltc :=
  (State.sendTether_frame (within_refl _) (frame_refl _ s)).ltc (by decide)
@[simp] theorem State.sendTether_ltcRun (s : State) (i kind : Nat) (m : TethMsg) : (State.sendTether s i kind m).ltcRun = s.ltcRun :=
  (State.sendTether_frame (within_refl _) (frame_refl _ s)).ltcRun (by decide)
@[simp] theorem State.sendTether_free (s : State) (i kind : Nat) (m : TethMsg) : (State.sendTether s i kind m).free = s.free :=
  (State.sendTether_frame (within_refl _) (frame_refl _ s)).free (by decide)
@[simp] theorem State.sendTether_nv (s : State) (i kind : Nat) (m : TethMsg) : (State.sendTether s i kind m).nv = s.nv :=
  (State.sendTether_frame (within_refl _) (frame_refl _ s)).nv (by decide)
@[simp] theorem State.sendTether_sys (s : State) (i kind : Nat) (m : TethMsg) : (State.sendTether s i kind m).sys = s.sys :=
  (State.sendTether_frame (within_refl _) (frame_refl _ s)).sys (by decide)
@[simp] theorem State.sendTether_pln (s : State) (i kind : Nat) (m : TethMsg) : (State.sendTether s i kind m).pln = s.pln :=
  (State.sendTether_frame (within_refl _) (frame_refl _ s)).pln (by decide)
@[simp] theorem State.sendTether_sched (s : State) (i kind : Nat) (m : TethMsg) : (State.sendTether s i kind m).sched = s.sched :=
  (State.sendTether_frame (within_refl _) (frame_refl _ s)).sched (by decide)
@[simp] theorem State.sendTether_lanes (s : State) (i kind : Nat) (m : TethMsg) : (State.sendTether s i kind m).lanes = s.lanes :=
  (State.sendTether_frame (within_refl _) (frame_refl _ s)).lanes (by decide)
@[simp] theorem State.sendTether_pops (s : State) (i kind : Nat) (m : TethMsg) : (State.sendTether s i kind m).pops = s.pops :=
  (State.sendTether_frame (within_refl _) (frame_refl _ s)).pops (by decide)
@[simp] theorem State.sendTether_jobs (s : State) (i kind : Nat) (m : TethMsg) : (State.sendTether s i kind m).jobs = s.jobs :=
  (State.sendTether_frame (within_refl _) (frame_refl _ s)).jobs (by decide)
@[simp] theorem State.sendTether_clk (s : State) (i kind : Nat) (m : TethMsg) : (State.sendTether s i kind m).clk = s.clk :=
  (State.sendTether_frame (within_refl _) (frame_refl _ s)).clk (by decide)
@[simp] theorem State.sendTether_shb (s : State) (i kind : Nat) (m : TethMsg) : (State.sendTether s i kind m).shb = s.shb :=
  (State.sendTether_frame (within_refl _) (frame_refl _ s)).shb (by decide)
@[simp] theorem State.sendTether_resync (s : State) (i kind : Nat) (m : TethMsg) : (State.sendTether s i kind m).resync = s.resync :=
  (State.sendTether_frame (within_refl _) (frame_refl _ s)).resync (by decide)
@[simp] theorem State.sendTether_units (s : State) (i kind : Nat) (m : TethMsg) : (State.sendTether s i kind m).units = s.units :=
  (State.sendTether_frame (within_refl _) (frame_refl _ s)).units (by decide)
@[simp] theorem State.sendTether_sessions (s : State) (i kind : Nat) (m : TethMsg) : (State.sendTether s i kind m).sessions = s.sessions :=
  (State.sendTether_frame (within_refl _) (frame_refl _ s)).sessions (by decide)
@[simp] theorem State.sendTether_upl (s : State) (i kind : Nat) (m : TethMsg) : (State.sendTether s i kind m).upl = s.upl :=
  (State.sendTether_frame (within_refl _) (frame_refl _ s)).upl (by decide)
@[simp] theorem State.sendTether_tim (s : State) (i kind : Nat) (m : TethMsg) : (State.sendTether s i kind m).tim = s.tim :=
  (State.sendTether_frame (within_refl _) (frame_refl _ s)).tim (by decide)
@[simp] theorem State.sendTether_mnt (s : State) (i kind : Nat) (m : TethMsg) : (State.sendTether s i kind m).mnt = s.mnt :=
  (State.sendTether_frame (within_refl _) (frame_refl _ s)).mnt (by decide)
@[simp] theorem State.sendTether_flt (s : State) (i kind : Nat) (m : TethMsg) : (State.sendTether s i kind m).flt = s.flt :=
  (State.sendTether_frame (within_refl _) (frame_refl _ s)).flt (by decide)
@[simp] theorem State.sendTether_fld (s : State) (i kind : Nat) (m : TethMsg) : (State.sendTether s i kind m).fld = s.fld :=
  (State.sendTether_frame (within_refl _) (frame_refl _ s)).fld (by decide)
@[simp] theorem State.sendTether_ofe (s : State) (i kind : Nat) (m : TethMsg) : (State.sendTether s i kind m).ofe = s.ofe :=
  (State.sendTether_frame (within_refl _) (frame_refl _ s)).ofe (by decide)
@[simp] theorem State.sendTether_fib (s : State) (i kind : Nat) (m : TethMsg) : (State.sendTether s i kind m).fib = s.fib :=
  (State.sendTether_frame (within_refl _) (frame_refl _ s)).fib (by decide)
@[simp] theorem State.sendTether_tmp (s : State) (i kind : Nat) (m : TethMsg) : (State.sendTether s i kind m).tmp = s.tmp :=
  (State.sendTether_frame (within_refl _) (frame_refl _ s)).tmp (by decide)
@[simp] theorem State.sendTether_lpe (s : State) (i kind : Nat) (m : TethMsg) : (State.sendTether s i kind m).lpe = s.lpe :=
  (State.sendTether_frame (within_refl _) (frame_refl _ s)).lpe (by decide)
@[simp] theorem State.sendTether_drp (s : State) (i kind : Nat) (m : TethMsg) : (State.sendTether s i kind m).drp = s.drp :=
  (State.sendTether_frame (within_refl _) (frame_refl _ s)).drp (by decide)
@[simp] theorem State.sendTether_sessNo (s : State) (i kind : Nat) (m : TethMsg) : (State.sendTether s i kind m).sessNo = s.sessNo :=
  (State.sendTether_frame (within_refl _) (frame_refl _ s)).sessNo (by decide)
@[simp] theorem State.sendTether_latches (s : State) (i kind : Nat) (m : TethMsg) : (State.sendTether s i kind m).latches = s.latches :=
  (State.sendTether_frame (within_refl _) (frame_refl _ s)).latches (by decide)
@[simp] theorem State.sendTether_ans (s : State) (i kind : Nat) (m : TethMsg) : (State.sendTether s i kind m).ans = s.ans :=
  (State.sendTether_frame (within_refl _) (frame_refl _ s)).ans (by decide)
@[simp] theorem State.sendTether_pending (s : State) (i kind : Nat) (m : TethMsg) : (State.sendTether s i kind m).pending = s.pending :=
  (State.sendTether_frame (within_refl _) (frame_refl _ s)).pending

@[simp] theorem State.sendLane_regs (s : State) (i kind : Nat) (m : TethMsg) : (State.sendLane s i kind m).regs = s.regs :=
  (State.sendLane_frame (within_refl _) (frame_refl _ s)).regs (by decide)
@[simp] theorem State.sendLane_mem (s : State) (i kind : Nat) (m : TethMsg) : (State.sendLane s i kind m).mem = s.mem :=
  (State.sendLane_frame (within_refl _) (frame_refl _ s)).mem (by decide)
@[simp] theorem State.sendLane_ltc (s : State) (i kind : Nat) (m : TethMsg) : (State.sendLane s i kind m).ltc = s.ltc :=
  (State.sendLane_frame (within_refl _) (frame_refl _ s)).ltc (by decide)
@[simp] theorem State.sendLane_ltcRun (s : State) (i kind : Nat) (m : TethMsg) : (State.sendLane s i kind m).ltcRun = s.ltcRun :=
  (State.sendLane_frame (within_refl _) (frame_refl _ s)).ltcRun (by decide)
@[simp] theorem State.sendLane_free (s : State) (i kind : Nat) (m : TethMsg) : (State.sendLane s i kind m).free = s.free :=
  (State.sendLane_frame (within_refl _) (frame_refl _ s)).free (by decide)
@[simp] theorem State.sendLane_nv (s : State) (i kind : Nat) (m : TethMsg) : (State.sendLane s i kind m).nv = s.nv :=
  (State.sendLane_frame (within_refl _) (frame_refl _ s)).nv (by decide)
@[simp] theorem State.sendLane_sys (s : State) (i kind : Nat) (m : TethMsg) : (State.sendLane s i kind m).sys = s.sys :=
  (State.sendLane_frame (within_refl _) (frame_refl _ s)).sys (by decide)
@[simp] theorem State.sendLane_pln (s : State) (i kind : Nat) (m : TethMsg) : (State.sendLane s i kind m).pln = s.pln :=
  (State.sendLane_frame (within_refl _) (frame_refl _ s)).pln (by decide)
@[simp] theorem State.sendLane_sched (s : State) (i kind : Nat) (m : TethMsg) : (State.sendLane s i kind m).sched = s.sched :=
  (State.sendLane_frame (within_refl _) (frame_refl _ s)).sched (by decide)
@[simp] theorem State.sendLane_lanes (s : State) (i kind : Nat) (m : TethMsg) : (State.sendLane s i kind m).lanes = s.lanes :=
  (State.sendLane_frame (within_refl _) (frame_refl _ s)).lanes (by decide)
@[simp] theorem State.sendLane_pops (s : State) (i kind : Nat) (m : TethMsg) : (State.sendLane s i kind m).pops = s.pops :=
  (State.sendLane_frame (within_refl _) (frame_refl _ s)).pops (by decide)
@[simp] theorem State.sendLane_jobs (s : State) (i kind : Nat) (m : TethMsg) : (State.sendLane s i kind m).jobs = s.jobs :=
  (State.sendLane_frame (within_refl _) (frame_refl _ s)).jobs (by decide)
@[simp] theorem State.sendLane_clk (s : State) (i kind : Nat) (m : TethMsg) : (State.sendLane s i kind m).clk = s.clk :=
  (State.sendLane_frame (within_refl _) (frame_refl _ s)).clk (by decide)
@[simp] theorem State.sendLane_shb (s : State) (i kind : Nat) (m : TethMsg) : (State.sendLane s i kind m).shb = s.shb :=
  (State.sendLane_frame (within_refl _) (frame_refl _ s)).shb (by decide)
@[simp] theorem State.sendLane_resync (s : State) (i kind : Nat) (m : TethMsg) : (State.sendLane s i kind m).resync = s.resync :=
  (State.sendLane_frame (within_refl _) (frame_refl _ s)).resync (by decide)
@[simp] theorem State.sendLane_units (s : State) (i kind : Nat) (m : TethMsg) : (State.sendLane s i kind m).units = s.units :=
  (State.sendLane_frame (within_refl _) (frame_refl _ s)).units (by decide)
@[simp] theorem State.sendLane_sessions (s : State) (i kind : Nat) (m : TethMsg) : (State.sendLane s i kind m).sessions = s.sessions :=
  (State.sendLane_frame (within_refl _) (frame_refl _ s)).sessions (by decide)
@[simp] theorem State.sendLane_upl (s : State) (i kind : Nat) (m : TethMsg) : (State.sendLane s i kind m).upl = s.upl :=
  (State.sendLane_frame (within_refl _) (frame_refl _ s)).upl (by decide)
@[simp] theorem State.sendLane_tim (s : State) (i kind : Nat) (m : TethMsg) : (State.sendLane s i kind m).tim = s.tim :=
  (State.sendLane_frame (within_refl _) (frame_refl _ s)).tim (by decide)
@[simp] theorem State.sendLane_mnt (s : State) (i kind : Nat) (m : TethMsg) : (State.sendLane s i kind m).mnt = s.mnt :=
  (State.sendLane_frame (within_refl _) (frame_refl _ s)).mnt (by decide)
@[simp] theorem State.sendLane_flt (s : State) (i kind : Nat) (m : TethMsg) : (State.sendLane s i kind m).flt = s.flt :=
  (State.sendLane_frame (within_refl _) (frame_refl _ s)).flt (by decide)
@[simp] theorem State.sendLane_fld (s : State) (i kind : Nat) (m : TethMsg) : (State.sendLane s i kind m).fld = s.fld :=
  (State.sendLane_frame (within_refl _) (frame_refl _ s)).fld (by decide)
@[simp] theorem State.sendLane_ofe (s : State) (i kind : Nat) (m : TethMsg) : (State.sendLane s i kind m).ofe = s.ofe :=
  (State.sendLane_frame (within_refl _) (frame_refl _ s)).ofe (by decide)
@[simp] theorem State.sendLane_fib (s : State) (i kind : Nat) (m : TethMsg) : (State.sendLane s i kind m).fib = s.fib :=
  (State.sendLane_frame (within_refl _) (frame_refl _ s)).fib (by decide)
@[simp] theorem State.sendLane_tmp (s : State) (i kind : Nat) (m : TethMsg) : (State.sendLane s i kind m).tmp = s.tmp :=
  (State.sendLane_frame (within_refl _) (frame_refl _ s)).tmp (by decide)
@[simp] theorem State.sendLane_lpe (s : State) (i kind : Nat) (m : TethMsg) : (State.sendLane s i kind m).lpe = s.lpe :=
  (State.sendLane_frame (within_refl _) (frame_refl _ s)).lpe (by decide)
@[simp] theorem State.sendLane_drp (s : State) (i kind : Nat) (m : TethMsg) : (State.sendLane s i kind m).drp = s.drp :=
  (State.sendLane_frame (within_refl _) (frame_refl _ s)).drp (by decide)
@[simp] theorem State.sendLane_sessNo (s : State) (i kind : Nat) (m : TethMsg) : (State.sendLane s i kind m).sessNo = s.sessNo :=
  (State.sendLane_frame (within_refl _) (frame_refl _ s)).sessNo (by decide)
@[simp] theorem State.sendLane_latches (s : State) (i kind : Nat) (m : TethMsg) : (State.sendLane s i kind m).latches = s.latches :=
  (State.sendLane_frame (within_refl _) (frame_refl _ s)).latches (by decide)
@[simp] theorem State.sendLane_ans (s : State) (i kind : Nat) (m : TethMsg) : (State.sendLane s i kind m).ans = s.ans :=
  (State.sendLane_frame (within_refl _) (frame_refl _ s)).ans (by decide)
@[simp] theorem State.sendLane_pending (s : State) (i kind : Nat) (m : TethMsg) : (State.sendLane s i kind m).pending = s.pending :=
  (State.sendLane_frame (within_refl _) (frame_refl _ s)).pending

@[simp] theorem State.sendBoth_regs (s : State) (kind : Nat) (m : TethMsg) : (State.sendBoth s kind m).regs = s.regs :=
  (State.sendBoth_frame (within_refl _) (frame_refl _ s)).regs (by decide)
@[simp] theorem State.sendBoth_mem (s : State) (kind : Nat) (m : TethMsg) : (State.sendBoth s kind m).mem = s.mem :=
  (State.sendBoth_frame (within_refl _) (frame_refl _ s)).mem (by decide)
@[simp] theorem State.sendBoth_ltc (s : State) (kind : Nat) (m : TethMsg) : (State.sendBoth s kind m).ltc = s.ltc :=
  (State.sendBoth_frame (within_refl _) (frame_refl _ s)).ltc (by decide)
@[simp] theorem State.sendBoth_ltcRun (s : State) (kind : Nat) (m : TethMsg) : (State.sendBoth s kind m).ltcRun = s.ltcRun :=
  (State.sendBoth_frame (within_refl _) (frame_refl _ s)).ltcRun (by decide)
@[simp] theorem State.sendBoth_free (s : State) (kind : Nat) (m : TethMsg) : (State.sendBoth s kind m).free = s.free :=
  (State.sendBoth_frame (within_refl _) (frame_refl _ s)).free (by decide)
@[simp] theorem State.sendBoth_nv (s : State) (kind : Nat) (m : TethMsg) : (State.sendBoth s kind m).nv = s.nv :=
  (State.sendBoth_frame (within_refl _) (frame_refl _ s)).nv (by decide)
@[simp] theorem State.sendBoth_sys (s : State) (kind : Nat) (m : TethMsg) : (State.sendBoth s kind m).sys = s.sys :=
  (State.sendBoth_frame (within_refl _) (frame_refl _ s)).sys (by decide)
@[simp] theorem State.sendBoth_pln (s : State) (kind : Nat) (m : TethMsg) : (State.sendBoth s kind m).pln = s.pln :=
  (State.sendBoth_frame (within_refl _) (frame_refl _ s)).pln (by decide)
@[simp] theorem State.sendBoth_sched (s : State) (kind : Nat) (m : TethMsg) : (State.sendBoth s kind m).sched = s.sched :=
  (State.sendBoth_frame (within_refl _) (frame_refl _ s)).sched (by decide)
@[simp] theorem State.sendBoth_lanes (s : State) (kind : Nat) (m : TethMsg) : (State.sendBoth s kind m).lanes = s.lanes :=
  (State.sendBoth_frame (within_refl _) (frame_refl _ s)).lanes (by decide)
@[simp] theorem State.sendBoth_pops (s : State) (kind : Nat) (m : TethMsg) : (State.sendBoth s kind m).pops = s.pops :=
  (State.sendBoth_frame (within_refl _) (frame_refl _ s)).pops (by decide)
@[simp] theorem State.sendBoth_jobs (s : State) (kind : Nat) (m : TethMsg) : (State.sendBoth s kind m).jobs = s.jobs :=
  (State.sendBoth_frame (within_refl _) (frame_refl _ s)).jobs (by decide)
@[simp] theorem State.sendBoth_clk (s : State) (kind : Nat) (m : TethMsg) : (State.sendBoth s kind m).clk = s.clk :=
  (State.sendBoth_frame (within_refl _) (frame_refl _ s)).clk (by decide)
@[simp] theorem State.sendBoth_shb (s : State) (kind : Nat) (m : TethMsg) : (State.sendBoth s kind m).shb = s.shb :=
  (State.sendBoth_frame (within_refl _) (frame_refl _ s)).shb (by decide)
@[simp] theorem State.sendBoth_resync (s : State) (kind : Nat) (m : TethMsg) : (State.sendBoth s kind m).resync = s.resync :=
  (State.sendBoth_frame (within_refl _) (frame_refl _ s)).resync (by decide)
@[simp] theorem State.sendBoth_units (s : State) (kind : Nat) (m : TethMsg) : (State.sendBoth s kind m).units = s.units :=
  (State.sendBoth_frame (within_refl _) (frame_refl _ s)).units (by decide)
@[simp] theorem State.sendBoth_sessions (s : State) (kind : Nat) (m : TethMsg) : (State.sendBoth s kind m).sessions = s.sessions :=
  (State.sendBoth_frame (within_refl _) (frame_refl _ s)).sessions (by decide)
@[simp] theorem State.sendBoth_upl (s : State) (kind : Nat) (m : TethMsg) : (State.sendBoth s kind m).upl = s.upl :=
  (State.sendBoth_frame (within_refl _) (frame_refl _ s)).upl (by decide)
@[simp] theorem State.sendBoth_tim (s : State) (kind : Nat) (m : TethMsg) : (State.sendBoth s kind m).tim = s.tim :=
  (State.sendBoth_frame (within_refl _) (frame_refl _ s)).tim (by decide)
@[simp] theorem State.sendBoth_mnt (s : State) (kind : Nat) (m : TethMsg) : (State.sendBoth s kind m).mnt = s.mnt :=
  (State.sendBoth_frame (within_refl _) (frame_refl _ s)).mnt (by decide)
@[simp] theorem State.sendBoth_flt (s : State) (kind : Nat) (m : TethMsg) : (State.sendBoth s kind m).flt = s.flt :=
  (State.sendBoth_frame (within_refl _) (frame_refl _ s)).flt (by decide)
@[simp] theorem State.sendBoth_fld (s : State) (kind : Nat) (m : TethMsg) : (State.sendBoth s kind m).fld = s.fld :=
  (State.sendBoth_frame (within_refl _) (frame_refl _ s)).fld (by decide)
@[simp] theorem State.sendBoth_ofe (s : State) (kind : Nat) (m : TethMsg) : (State.sendBoth s kind m).ofe = s.ofe :=
  (State.sendBoth_frame (within_refl _) (frame_refl _ s)).ofe (by decide)
@[simp] theorem State.sendBoth_fib (s : State) (kind : Nat) (m : TethMsg) : (State.sendBoth s kind m).fib = s.fib :=
  (State.sendBoth_frame (within_refl _) (frame_refl _ s)).fib (by decide)
@[simp] theorem State.sendBoth_tmp (s : State) (kind : Nat) (m : TethMsg) : (State.sendBoth s kind m).tmp = s.tmp :=
  (State.sendBoth_frame (within_refl _) (frame_refl _ s)).tmp (by decide)
@[simp] theorem State.sendBoth_lpe (s : State) (kind : Nat) (m : TethMsg) : (State.sendBoth s kind m).lpe = s.lpe :=
  (State.sendBoth_frame (within_refl _) (frame_refl _ s)).lpe (by decide)
@[simp] theorem State.sendBoth_drp (s : State) (kind : Nat) (m : TethMsg) : (State.sendBoth s kind m).drp = s.drp :=
  (State.sendBoth_frame (within_refl _) (frame_refl _ s)).drp (by decide)
@[simp] theorem State.sendBoth_sessNo (s : State) (kind : Nat) (m : TethMsg) : (State.sendBoth s kind m).sessNo = s.sessNo :=
  (State.sendBoth_frame (within_refl _) (frame_refl _ s)).sessNo (by decide)
@[simp] theorem State.sendBoth_latches (s : State) (kind : Nat) (m : TethMsg) : (State.sendBoth s kind m).latches = s.latches :=
  (State.sendBoth_frame (within_refl _) (frame_refl _ s)).latches (by decide)
@[simp] theorem State.sendBoth_ans (s : State) (kind : Nat) (m : TethMsg) : (State.sendBoth s kind m).ans = s.ans :=
  (State.sendBoth_frame (within_refl _) (frame_refl _ s)).ans (by decide)
@[simp] theorem State.sendBoth_pending (s : State) (kind : Nat) (m : TethMsg) : (State.sendBoth s kind m).pending = s.pending :=
  (State.sendBoth_frame (within_refl _) (frame_refl _ s)).pending

@[simp] theorem State.copyItem_regs (s : State) (o : CopyOp) : (State.copyItem s o).regs = s.regs :=
  (State.copyItem_frame (within_refl _) (frame_refl _ s)).regs (by decide)
@[simp] theorem State.copyItem_mem (s : State) (o : CopyOp) : (State.copyItem s o).mem = s.mem :=
  (State.copyItem_frame (within_refl _) (frame_refl _ s)).mem (by decide)
@[simp] theorem State.copyItem_ltc (s : State) (o : CopyOp) : (State.copyItem s o).ltc = s.ltc :=
  (State.copyItem_frame (within_refl _) (frame_refl _ s)).ltc (by decide)
@[simp] theorem State.copyItem_ltcRun (s : State) (o : CopyOp) : (State.copyItem s o).ltcRun = s.ltcRun :=
  (State.copyItem_frame (within_refl _) (frame_refl _ s)).ltcRun (by decide)
@[simp] theorem State.copyItem_free (s : State) (o : CopyOp) : (State.copyItem s o).free = s.free :=
  (State.copyItem_frame (within_refl _) (frame_refl _ s)).free (by decide)
@[simp] theorem State.copyItem_nv (s : State) (o : CopyOp) : (State.copyItem s o).nv = s.nv :=
  (State.copyItem_frame (within_refl _) (frame_refl _ s)).nv (by decide)
@[simp] theorem State.copyItem_sys (s : State) (o : CopyOp) : (State.copyItem s o).sys = s.sys :=
  (State.copyItem_frame (within_refl _) (frame_refl _ s)).sys (by decide)
@[simp] theorem State.copyItem_pln (s : State) (o : CopyOp) : (State.copyItem s o).pln = s.pln :=
  (State.copyItem_frame (within_refl _) (frame_refl _ s)).pln (by decide)
@[simp] theorem State.copyItem_sched (s : State) (o : CopyOp) : (State.copyItem s o).sched = s.sched :=
  (State.copyItem_frame (within_refl _) (frame_refl _ s)).sched (by decide)
@[simp] theorem State.copyItem_lanes (s : State) (o : CopyOp) : (State.copyItem s o).lanes = s.lanes :=
  (State.copyItem_frame (within_refl _) (frame_refl _ s)).lanes (by decide)
@[simp] theorem State.copyItem_pops (s : State) (o : CopyOp) : (State.copyItem s o).pops = s.pops :=
  (State.copyItem_frame (within_refl _) (frame_refl _ s)).pops (by decide)
@[simp] theorem State.copyItem_jobs (s : State) (o : CopyOp) : (State.copyItem s o).jobs = s.jobs :=
  (State.copyItem_frame (within_refl _) (frame_refl _ s)).jobs (by decide)
@[simp] theorem State.copyItem_clk (s : State) (o : CopyOp) : (State.copyItem s o).clk = s.clk :=
  (State.copyItem_frame (within_refl _) (frame_refl _ s)).clk (by decide)
@[simp] theorem State.copyItem_shb (s : State) (o : CopyOp) : (State.copyItem s o).shb = s.shb :=
  (State.copyItem_frame (within_refl _) (frame_refl _ s)).shb (by decide)
@[simp] theorem State.copyItem_resync (s : State) (o : CopyOp) : (State.copyItem s o).resync = s.resync :=
  (State.copyItem_frame (within_refl _) (frame_refl _ s)).resync (by decide)
@[simp] theorem State.copyItem_units (s : State) (o : CopyOp) : (State.copyItem s o).units = s.units :=
  (State.copyItem_frame (within_refl _) (frame_refl _ s)).units (by decide)
@[simp] theorem State.copyItem_sessions (s : State) (o : CopyOp) : (State.copyItem s o).sessions = s.sessions :=
  (State.copyItem_frame (within_refl _) (frame_refl _ s)).sessions (by decide)
@[simp] theorem State.copyItem_upl (s : State) (o : CopyOp) : (State.copyItem s o).upl = s.upl :=
  (State.copyItem_frame (within_refl _) (frame_refl _ s)).upl (by decide)
@[simp] theorem State.copyItem_tim (s : State) (o : CopyOp) : (State.copyItem s o).tim = s.tim :=
  (State.copyItem_frame (within_refl _) (frame_refl _ s)).tim (by decide)
@[simp] theorem State.copyItem_mnt (s : State) (o : CopyOp) : (State.copyItem s o).mnt = s.mnt :=
  (State.copyItem_frame (within_refl _) (frame_refl _ s)).mnt (by decide)
@[simp] theorem State.copyItem_flt (s : State) (o : CopyOp) : (State.copyItem s o).flt = s.flt :=
  (State.copyItem_frame (within_refl _) (frame_refl _ s)).flt (by decide)
@[simp] theorem State.copyItem_fld (s : State) (o : CopyOp) : (State.copyItem s o).fld = s.fld :=
  (State.copyItem_frame (within_refl _) (frame_refl _ s)).fld (by decide)
@[simp] theorem State.copyItem_ofe (s : State) (o : CopyOp) : (State.copyItem s o).ofe = s.ofe :=
  (State.copyItem_frame (within_refl _) (frame_refl _ s)).ofe (by decide)
@[simp] theorem State.copyItem_fib (s : State) (o : CopyOp) : (State.copyItem s o).fib = s.fib :=
  (State.copyItem_frame (within_refl _) (frame_refl _ s)).fib (by decide)
@[simp] theorem State.copyItem_tmp (s : State) (o : CopyOp) : (State.copyItem s o).tmp = s.tmp :=
  (State.copyItem_frame (within_refl _) (frame_refl _ s)).tmp (by decide)
@[simp] theorem State.copyItem_lpe (s : State) (o : CopyOp) : (State.copyItem s o).lpe = s.lpe :=
  (State.copyItem_frame (within_refl _) (frame_refl _ s)).lpe (by decide)
@[simp] theorem State.copyItem_drp (s : State) (o : CopyOp) : (State.copyItem s o).drp = s.drp :=
  (State.copyItem_frame (within_refl _) (frame_refl _ s)).drp (by decide)
@[simp] theorem State.copyItem_sessNo (s : State) (o : CopyOp) : (State.copyItem s o).sessNo = s.sessNo :=
  (State.copyItem_frame (within_refl _) (frame_refl _ s)).sessNo (by decide)
@[simp] theorem State.copyItem_latches (s : State) (o : CopyOp) : (State.copyItem s o).latches = s.latches :=
  (State.copyItem_frame (within_refl _) (frame_refl _ s)).latches (by decide)
@[simp] theorem State.copyItem_ans (s : State) (o : CopyOp) : (State.copyItem s o).ans = s.ans :=
  (State.copyItem_frame (within_refl _) (frame_refl _ s)).ans (by decide)
@[simp] theorem State.copyItem_pending (s : State) (o : CopyOp) : (State.copyItem s o).pending = s.pending :=
  (State.copyItem_frame (within_refl _) (frame_refl _ s)).pending

end Sys2Proof.Machine
end

