-- ==== Sys2Proof/Laws/Events.lean ====
section
/-!
SUPPORT. What the shared reporting operations do to registers and to single bits: event bits, error reports, counters,
log entries. With Laws/State.lean it lets a proof read a register after a chain of operations without unfolding them.
-/

namespace Sys2Proof

set_option linter.all false
set_option Elab.async false

theorem Word.bit_setBit (w : Word) (i j : Nat) (h : j < 32) :
    Word.bit (Word.setBit w i) j = (Word.bit w j || decide (i = j)) := by
  simp only [Word.bit, Word.setBit, BitVec.getLsbD_or, BitVec.getLsbD_ofNat, h, decide_true, Bool.true_and,
    Nat.testBit_two_pow]

theorem Word.bit_clrBit (w : Word) (i j : Nat) (h : j < 32) :
    Word.bit (Word.clrBit w i) j = (Word.bit w j && !decide (i = j)) := by
  simp only [Word.bit, Word.clrBit, BitVec.getLsbD_and, BitVec.getLsbD_not, BitVec.getLsbD_ofNat, h, decide_true,
    Bool.true_and, Nat.testBit_two_pow]

@[simp] theorem Word.bit_setBit_same (w : Word) (i : Nat) (h : i < 32) : Word.bit (Word.setBit w i) i = true := by
  simp [Word.bit_setBit _ _ _ h]

theorem Word.bit_putBit (w : Word) (i j : Nat) (b : Bool) (h : j < 32) :
    Word.bit (Word.putBit w i b) j = if i = j then b else Word.bit w j := by
  unfold Word.putBit
  split <;> by_cases e : i = j <;> simp_all [Word.bit_setBit, Word.bit_clrBit]

theorem Word.setBit_of_bit (w : Word) (i : Nat) (h : Word.bit w i = true) : Word.setBit w i = w := by
  apply BitVec.eq_of_getLsbD_eq
  intro j hj
  have := Word.bit_setBit w i j hj
  simp only [Word.bit] at this h
  rw [this]
  by_cases e : i = j
  · subst e; simp [h]
  · simp [e]

namespace Machine

/-- A register read depends on the register map alone. -/
theorem State.rd_congr {s t : State} (h : t.regs = s.regs) (a : Nat) : t.rd a = s.rd a := by
  unfold State.rd; rw [h]

theorem State.rf_congr {s t : State} (h : t.regs = s.regs) (a : Nat) (f : Fld) : t.rf a f = s.rf a f := by
  unfold State.rf; rw [State.rd_congr h]

/-- Reading a register of a state written field by field. -/
@[simp] theorem State.rd_mk (regs mem ltc ltcRun free nv sys pln sched lanes seqs pops jobs clk shb resync units sessions upl tim mnt flt fld ofe fib tmp lpe drp pai sessNo latches ans sent pending) (a : Nat) :
    (State.mk regs mem ltc ltcRun free nv sys pln sched lanes seqs pops jobs clk shb resync units sessions upl tim mnt flt fld ofe fib tmp lpe drp pai sessNo latches ans sent pending).rd a = NMap.get resetWord regs a := rfl

@[simp] theorem State.get_regs (s : State) (a : Nat) : NMap.get resetWord s.regs a = s.rd a := rfl

theorem State.rf_eq (s : State) (a : Nat) (f : Fld) : s.rf a f = (s.rd a).get f := rfl

@[simp] theorem State.rdByte_mk (regs mem ltc ltcRun free nv sys pln sched lanes seqs pops jobs clk shb resync units sessions upl tim mnt flt fld ofe fib tmp lpe drp pai sessNo latches ans sent pending) (a : Nat) :
    (State.mk regs mem ltc ltcRun free nv sys pln sched lanes seqs pops jobs clk shb resync units sessions upl tim mnt flt fld ofe fib tmp lpe drp pai sessNo latches ans sent pending).rdByte a = NMap.get memDefault mem a := rfl

@[simp] theorem State.get_mem (s : State) (a : Nat) : NMap.get memDefault s.mem a = s.rdByte a := rfl

theorem State.rdByte_congr {s t : State} (h : t.mem = s.mem) (a : Nat) : t.rdByte a = s.rdByte a := by
  unfold State.rdByte; rw [h]

@[simp] theorem State.fresh_rd (s : State) (a : Nat) : s.fresh.rd a = s.rd a := rfl
@[simp] theorem State.emitOut_rd (s : State) (o : Out) (a : Nat) : (s.emitOut o).rd a = s.rd a := rfl
@[simp] theorem State.logFault_rd (s : State) (e p d a : Nat) : (s.logFault e p d).rd a = s.rd a := rfl
@[simp] theorem State.noteEvent_rd (s : State) (p b a : Nat) : (s.noteEvent p b).rd a = s.rd a := rfl
@[simp] theorem State.onSession_rd (s : State) (x : Nat) (f : Session → Session) (a : Nat) :
    (s.onSession x f).rd a = s.rd a := rfl
@[simp] theorem State.wrByte_rd (s : State) (k : Nat) (b : Byte) (a : Nat) : (s.wrByte k b).rd a = s.rd a := rfl
@[simp] theorem State.sendTether_rd (s : State) (i k : Nat) (m : TethMsg) (a : Nat) : (s.sendTether i k m).rd a = s.rd a := rfl

@[simp] theorem State.tally_rd (s : State) (k n a : Nat) : (s.tally k n).rd a = s.rd a := by
  unfold State.tally; split <;> rfl

@[simp] theorem State.advance_rd (s : State) (t : Time) (a : Nat) : (s.advance t).rd a = s.rd a := by
  unfold State.advance; split <;> rfl

theorem State.wf_rd (s : State) (a b : Nat) (f : Fld) (v : Nat) :
    (s.wf a f v).rd b = if a = b then (s.rd a).put f v else s.rd b := by
  unfold State.wf; rw [State.rd_wr]

theorem State.wr64_rd (s : State) (lo hi v b : Nat) :
    (s.wr64 lo hi v).rd b = if hi = b then w32 (v / 2 ^ 32) else if lo = b then w32 v else s.rd b := by
  unfold State.wr64; rw [State.rd_wr, State.rd_wr]

theorem State.countMod_rd (s : State) (a b : Nat) : (s.countMod a).rd b = if a = b then s.rd a + 1 else s.rd b := by
  unfold State.countMod; rw [State.rd_wr]

/-- A counter goes up by one; past its largest value it holds a free value. No other register changes. -/
theorem State.count_rd (s : State) (k a : Nat) :
    (s.count k).rd a = if a = k then (if s.rd k = 0xFFFFFFFF then Config.counterOver s.free else s.rd k + 1) else s.rd a := by
  unfold State.count
  simp only
  split <;> by_cases h : a = k <;>
    simp_all [State.rd_wr, eq_comm]

theorem State.countN_rd (s : State) (k n a : Nat) :
    (s.countN k n).rd a =
      if a = k then (if (s.rd k).toNat + n < 2 ^ 32 then s.rd k + w32 n else Config.counterOver s.free) else s.rd a := by
  unfold State.countN
  simp only
  split <;> by_cases h : a = k <;>
    simp_all [State.rd_wr, eq_comm]

theorem State.keepMax_rd (s : State) (k v a : Nat) :
    (s.keepMax k v).rd a = if a = k ∧ (s.rd k).toNat < v then w32 (min v 0xFFFFFFFF) else s.rd a := by
  unfold State.keepMax
  by_cases l : (s.rd k).toNat < v
  · by_cases h : a = k
    · subst h; simp [l]
    · simp [l, h, State.rd_wr, Ne.symm h]
  · simp [l]

/-- Raising an event sets its bit of IRQ_RAW, adds one to SEQ where the bit was clear, and changes no other register. -/
theorem State.raise_rd (s : State) (p b a : Nat) :
    (s.raise p b).rd a =
      if a = Reg.HDR_IRQ_RAW p then Word.setBit (s.rd (Reg.HDR_IRQ_RAW p)) b
      else if a = Reg.HDR_SEQ p ∧ Word.bit (s.rd (Reg.HDR_IRQ_RAW p)) b = false then s.rd (Reg.HDR_SEQ p) + 1
      else s.rd a := by
  unfold State.raise
  simp only
  split
  · next h =>
    by_cases k : a = Reg.HDR_IRQ_RAW p
    · rw [if_pos k, k, Word.setBit_of_bit _ _ h]
    · rw [if_neg k, h]; simp
  · next h =>
    have ne : Reg.HDR_IRQ_RAW p ≠ Reg.HDR_SEQ p := by simp only [Reg.HDR_SEQ, Reg.HDR_IRQ_RAW]; omega
    rw [State.noteEvent_rd, State.countMod_rd]
    by_cases k : a = Reg.HDR_IRQ_RAW p
    · rw [if_pos k, k, if_neg (Ne.symm ne), State.rd_wr_same]
    · by_cases l : a = Reg.HDR_SEQ p
      · rw [if_neg k, if_pos l.symm, if_pos ⟨l, by simpa using h⟩, State.rd_wr_ne _ _ ne]
      · rw [if_neg k, if_neg (Ne.symm l), if_neg (fun x => l x.1), State.rd_wr_ne _ _ (Ne.symm k)]

/-- An error report changes ERR_CODE, ERR_COUNT, IRQ_RAW and SEQ of its page alone. -/
theorem State.err_rd_ne (s : State) {p a : Nat} (c : Nat) (h1 : Reg.HDR_ERR_CODE p ≠ a) (h2 : Reg.HDR_ERR_COUNT p ≠ a)
    (h3 : Reg.HDR_IRQ_RAW p ≠ a) (h4 : Reg.HDR_SEQ p ≠ a) : (s.err p c).rd a = s.rd a := by
  unfold State.err
  simp only
  repeat' split
  all_goals simp [State.countMod_rd, State.rd_wr, h1, h2, h3, h4]

/-- The code of an error report stands in ERR_CODE. -/
theorem State.err_code (s : State) (p c : Nat) : (s.err p c).rd (Reg.HDR_ERR_CODE p) = w32 c := by
  unfold State.err
  simp only
  repeat' split
  all_goals simp [State.countMod_rd, State.rd_wr]

theorem State.err_raw (s : State) (p c : Nat) :
    (s.err p c).rd (Reg.HDR_IRQ_RAW p) = Word.setBit (s.rd (Reg.HDR_IRQ_RAW p)) 31 := by
  unfold State.err
  simp only
  repeat' split
  all_goals simp [State.countMod_rd, State.rd_wr]

/-- ERR_COUNT goes up by one and stays at its largest value. -/
theorem State.err_count (s : State) (p c : Nat) :
    (s.err p c).rd (Reg.HDR_ERR_COUNT p) =
      if s.rd (Reg.HDR_ERR_COUNT p) = 0xFFFFFFFF then 0xFFFFFFFF else s.rd (Reg.HDR_ERR_COUNT p) + 1 := by
  unfold State.err
  simp only
  repeat' split
  all_goals simp_all [State.countMod_rd, State.rd_wr]

/-- An error report writes ERR_CODE, ERR_COUNT, bit 31 of IRQ_RAW and SEQ of its page, and no other register. -/
theorem State.err_rd (s : State) (p c a : Nat) :
    (s.err p c).rd a =
      if a = Reg.HDR_ERR_CODE p then w32 c
      else if a = Reg.HDR_ERR_COUNT p then
        (if s.rd (Reg.HDR_ERR_COUNT p) = 0xFFFFFFFF then 0xFFFFFFFF else s.rd (Reg.HDR_ERR_COUNT p) + 1)
      else if a = Reg.HDR_IRQ_RAW p then Word.setBit (s.rd (Reg.HDR_IRQ_RAW p)) 31
      else if a = Reg.HDR_SEQ p then s.rd (Reg.HDR_SEQ p) + 1
      else s.rd a := by
  have n1 : Reg.HDR_ERR_CODE p ≠ Reg.HDR_ERR_COUNT p := by simp only [Reg.HDR_ERR_CODE, Reg.HDR_ERR_COUNT]; omega
  have n2 : Reg.HDR_ERR_CODE p ≠ Reg.HDR_IRQ_RAW p := by simp only [Reg.HDR_ERR_CODE, Reg.HDR_IRQ_RAW]; omega
  have n3 : Reg.HDR_ERR_CODE p ≠ Reg.HDR_SEQ p := by simp only [Reg.HDR_ERR_CODE, Reg.HDR_SEQ]; omega
  have n4 : Reg.HDR_ERR_COUNT p ≠ Reg.HDR_IRQ_RAW p := by simp only [Reg.HDR_IRQ_RAW, Reg.HDR_ERR_COUNT]; omega
  have n5 : Reg.HDR_ERR_COUNT p ≠ Reg.HDR_SEQ p := by simp only [Reg.HDR_SEQ, Reg.HDR_ERR_COUNT]; omega
  have n6 : Reg.HDR_IRQ_RAW p ≠ Reg.HDR_SEQ p := by simp only [Reg.HDR_IRQ_RAW, Reg.HDR_SEQ]; omega
  by_cases h1 : a = Reg.HDR_ERR_CODE p
  · subst h1; rw [State.err_code, if_pos rfl]
  by_cases h2 : a = Reg.HDR_ERR_COUNT p
  · subst h2; rw [State.err_count, if_neg (Ne.symm n1), if_pos rfl]
  by_cases h3 : a = Reg.HDR_IRQ_RAW p
  · subst h3; rw [State.err_raw, if_neg (Ne.symm n2), if_neg (Ne.symm n4), if_pos rfl]
  by_cases h4 : a = Reg.HDR_SEQ p
  · subst h4
    rw [if_neg h1, if_neg h2, if_neg h3, if_pos rfl]
    unfold State.err
    simp only
    split <;> split <;>
      simp only [State.noteEvent_rd, State.countMod_rd, if_true, State.rd_wr_ne _ _ n6, State.rd_wr_ne _ _ n5,
        State.rd_wr_ne _ _ n3]
  · rw [if_neg h1, if_neg h2, if_neg h3, if_neg h4]
    exact State.err_rd_ne s c (Ne.symm h1) (Ne.symm h2) (Ne.symm h3) (Ne.symm h4)

end Machine

end Sys2Proof
end

