-- ==== Sys2Proof/Laws/FrameSpoolOps.lean ====
section
/-!
SUPPORT. The frame of each operation of Machine/SpoolOps.lean.
-/

set_option maxRecDepth 4000

namespace Sys2Proof.Machine

set_option linter.all false
set_option Elab.async false

theorem State.setLane_frame {W : Nat} {zz : State} {s : State} {k : Nat} {l : Lane} (hw : Within 512 W) (hs : Frame W zz s) :
    Frame W zz (State.setLane s k l) := by
  unfold State.setLane
  try dsimp only
  repeat' (first
    | with_reducible exact hs
    | with_reducible assumption
    | with_reducible refine frame_ite ?_ ?_
    | ((conv => arg 3; arg 34); with_reducible apply frame_mk)
    | exact fun b => absurd (hw _ b) (by decide)
    | with_reducible exact fun _ => rfl
    | ((with_reducible show NonVol.identity _ = NonVol.identity _); rfl)
    | dsimp only)

theorem State.bumpSeq_frame {W : Nat} {zz : State} {s : State} {cls idx kind : Nat} (hw : Within 1024 W) (hs : Frame W zz s) :
    Frame W zz (State.bumpSeq s cls idx kind) := by
  unfold State.bumpSeq
  try dsimp only
  repeat' (first
    | with_reducible exact hs
    | with_reducible assumption
    | with_reducible refine frame_ite ?_ ?_
    | ((conv => arg 3; arg 34); with_reducible apply frame_mk)
    | exact fun b => absurd (hw _ b) (by decide)
    | with_reducible exact fun _ => rfl
    | ((with_reducible show NonVol.identity _ = NonVol.identity _); rfl)
    | dsimp only)

theorem State.storeItem_frame {W : Nat} {zz : State} {s : State} {k : Nat} {r : Rec} (hw : Within 1053201 W) (hs : Frame W zz s) :
    Frame W zz (State.storeItem s k r) := by
  unfold State.storeItem
  try dsimp only
  repeat' (first
    | with_reducible exact hs
    | with_reducible assumption
    | with_reducible refine frame_ite ?_ ?_
    | with_reducible refine State.wr_frame (within_trans (by decide) hw) ?_
    | with_reducible refine State.count_frame (within_trans (by decide) hw) ?_
    | with_reducible refine State.setLane_frame (within_trans (by decide) hw) ?_
    | ((conv => arg 3; arg 34); with_reducible apply frame_mk)
    | exact fun b => absurd (hw _ b) (by decide)
    | with_reducible exact fun _ => rfl
    | ((with_reducible show NonVol.identity _ = NonVol.identity _); rfl)
    | split
    | dsimp only)

theorem State.writeGap_frame {W : Nat} {zz : State} {s : State} {k : Nat} (hw : Within 1185297 W) (hs : Frame W zz s) :
    Frame W zz (State.writeGap s k) := by
  unfold State.writeGap
  try dsimp only
  repeat' (first
    | with_reducible exact hs
    | with_reducible assumption
    | with_reducible refine frame_ite ?_ ?_
    | with_reducible refine State.count_frame (within_trans (by decide) hw) ?_
    | with_reducible refine State.countMod_frame (within_trans (by decide) hw) ?_
    | with_reducible refine State.raise_frame (within_trans (by decide) hw) ?_
    | with_reducible refine State.setLane_frame (within_trans (by decide) hw) ?_
    | with_reducible refine State.bumpSeq_frame (within_trans (by decide) hw) ?_
    | with_reducible refine State.storeItem_frame (within_trans (by decide) hw) ?_
    | ((conv => arg 3; arg 34); with_reducible apply frame_mk)
    | exact fun b => absurd (hw _ b) (by decide)
    | with_reducible exact fun _ => rfl
    | ((with_reducible show NonVol.identity _ = NonVol.identity _); rfl)
    | split
    | dsimp only)

theorem State.writeGaps_frame {W : Nat} {zz : State} {s : State} {k : Nat} (hw : Within 1185297 W) (hs : Frame W zz s) :
    Frame W zz (State.writeGaps s k) := by
  unfold State.writeGaps
  try dsimp only
  repeat' (first
    | with_reducible exact hs
    | with_reducible assumption
    | with_reducible refine frame_ite ?_ ?_
    | with_reducible refine State.writeGap_frame (within_trans (by decide) hw) ?_
    | (with_reducible refine frame_iter ?_ ?_) | (with_reducible refine frame_iter_fst ?_ ?_) | (intro _ _ _)
    | dsimp only)

theorem State.dropItem_frame {W : Nat} {zz : State} {s : State} {k cause : Nat} {r : Rec} (hw : Within 1180177 W) (hs : Frame W zz s) :
    Frame W zz (State.dropItem s k cause r) := by
  unfold State.dropItem
  try dsimp only
  repeat' (first
    | with_reducible exact hs
    | with_reducible assumption
    | with_reducible refine frame_ite ?_ ?_
    | with_reducible refine State.count_frame (within_trans (by decide) hw) ?_
    | with_reducible refine State.countN_frame (within_trans (by decide) hw) ?_
    | with_reducible refine State.raise_frame (within_trans (by decide) hw) ?_
    | with_reducible refine State.err_frame (within_trans (by decide) hw) ?_
    | with_reducible refine State.setLane_frame (within_trans (by decide) hw) ?_
    | ((conv => arg 3; arg 34); with_reducible apply frame_mk)
    | exact fun b => absurd (hw _ b) (by decide)
    | with_reducible exact fun _ => rfl
    | ((with_reducible show NonVol.identity _ = NonVol.identity _); rfl)
    | split
    | dsimp only)

theorem State.pushOwn_frame {W : Nat} {zz : State} {s : State} {k : Nat} {r : Rec} (hw : Within 1185297 W) (hs : Frame W zz s) :
    Frame W zz (State.pushOwn s k r) := by
  unfold State.pushOwn
  try dsimp only
  repeat' (first
    | with_reducible exact hs
    | with_reducible assumption
    | with_reducible refine frame_ite ?_ ?_
    | with_reducible refine State.setLane_frame (within_trans (by decide) hw) ?_
    | with_reducible refine State.storeItem_frame (within_trans (by decide) hw) ?_
    | with_reducible refine State.writeGaps_frame (within_trans (by decide) hw) ?_
    | with_reducible refine State.dropItem_frame (within_trans (by decide) hw) ?_
    | ((conv => arg 3; arg 34); with_reducible apply frame_mk)
    | exact fun b => absurd (hw _ b) (by decide)
    | with_reducible exact fun _ => rfl
    | ((with_reducible show NonVol.identity _ = NonVol.identity _); rfl)
    | split
    | dsimp only)

theorem State.push_frame {W : Nat} {zz : State} {s : State} {k : Nat} {r : Rec} (hw : Within 4564588049 W) (hs : Frame W zz s) :
    Frame W zz (State.push s k r) := by
  unfold State.push
  try dsimp only
  repeat' (first
    | with_reducible exact hs
    | with_reducible assumption
    | with_reducible refine frame_ite ?_ ?_
    | with_reducible refine State.sendLane_frame (within_trans (by decide) hw) ?_
    | with_reducible refine State.pushOwn_frame (within_trans (by decide) hw) ?_
    | split
    | dsimp only)

theorem State.pushPlaceholder_frame {W : Nat} {zz : State} {s : State} {k size : Nat} {r : Rec} (hw : Within 1185297 W) (hs : Frame W zz s) :
    Frame W zz (State.pushPlaceholder s k size r) := by
  unfold State.pushPlaceholder
  try dsimp only
  repeat' (first
    | with_reducible exact hs
    | with_reducible assumption
    | with_reducible refine frame_ite ?_ ?_
    | with_reducible refine State.wr_frame (within_trans (by decide) hw) ?_
    | with_reducible refine State.setLane_frame (within_trans (by decide) hw) ?_
    | with_reducible refine State.writeGaps_frame (within_trans (by decide) hw) ?_
    | with_reducible refine State.dropItem_frame (within_trans (by decide) hw) ?_
    | ((conv => arg 3; arg 34); with_reducible apply frame_mk)
    | exact fun b => absurd (hw _ b) (by decide)
    | with_reducible exact fun _ => rfl
    | ((with_reducible show NonVol.identity _ = NonVol.identity _); rfl)
    | split
    | dsimp only)

theorem State.gapBoundary_frame {W : Nat} {zz : State} {s : State} {k : Nat} (hw : Within 1185297 W) (hs : Frame W zz s) :
    Frame W zz (State.gapBoundary s k) := by
  unfold State.gapBoundary
  try dsimp only
  repeat' (first
    | with_reducible exact hs
    | with_reducible assumption
    | with_reducible refine frame_ite ?_ ?_
    | with_reducible refine State.writeGap_frame (within_trans (by decide) hw) ?_
    | (with_reducible refine frame_iter ?_ ?_) | (with_reducible refine frame_iter_fst ?_ ?_) | (intro _ _ _)
    | split
    | dsimp only)

theorem State.emit_frame {W : Nat} {zz : State} {s : State} {kind cls idx : Nat} {ref : Time} {payload : List Byte} (hw : Within 4564588049 W) (hs : Frame W zz s) :
    Frame W zz (State.emit s kind cls idx ref payload) := by
  unfold State.emit
  try dsimp only
  repeat' (first
    | with_reducible exact hs
    | with_reducible assumption
    | with_reducible refine frame_ite ?_ ?_
    | with_reducible refine State.bumpSeq_frame (within_trans (by decide) hw) ?_
    | with_reducible refine State.push_frame (within_trans (by decide) hw) ?_
    | ((conv => arg 3; arg 34); with_reducible apply frame_mk)
    | exact fun b => absurd (hw _ b) (by decide)
    | with_reducible exact fun _ => rfl
    | ((with_reducible show NonVol.identity _ = NonVol.identity _); rfl)
    | split
    | dsimp only)

theorem State.sysMarkTo_frame {W : Nat} {zz : State} {s : State} {lanes : List Nat} {kind : Nat} {t : Time} {arg0 arg1 : Nat} (hw : Within 4564588049 W) (hs : Frame W zz s) :
    Frame W zz (State.sysMarkTo s lanes kind t arg0 arg1) := by
  unfold State.sysMarkTo
  try dsimp only
  repeat' (first
    | with_reducible exact hs
    | with_reducible assumption
    | with_reducible refine frame_ite ?_ ?_
    | with_reducible refine State.bumpSeq_frame (within_trans (by decide) hw) ?_
    | with_reducible refine State.push_frame (within_trans (by decide) hw) ?_
    | (with_reducible refine frame_foldl ?_ ?_) | (with_reducible refine frame_foldl_fst ?_ ?_) | (with_reducible refine frame_foldl_snd ?_ ?_) | (intro _ _ _)
    | split
    | dsimp only)

theorem State.sysMark_frame {W : Nat} {zz : State} {s : State} {kind : Nat} {t : Time} {arg0 arg1 : Nat} (hw : Within 4564588049 W) (hs : Frame W zz s) :
    Frame W zz (State.sysMark s kind t arg0 arg1) := by
  unfold State.sysMark
  try dsimp only
  repeat' (first
    | with_reducible exact hs
    | with_reducible assumption
    | with_reducible refine frame_ite ?_ ?_
    | with_reducible refine State.sysMarkTo_frame (within_trans (by decide) hw) ?_
    | ((conv => arg 3; arg 34); with_reducible apply frame_mk)
    | exact fun b => absurd (hw _ b) (by decide)
    | with_reducible exact fun _ => rfl
    | ((with_reducible show NonVol.identity _ = NonVol.identity _); rfl)
    | split
    | dsimp only)

theorem State.setReleased_frame {W : Nat} {zz : State} {s : State} {k : Nat} {l : Lane} (hw : Within 4563404288 W) (hs : Frame W zz s) :
    Frame W zz (State.setReleased s k l) := by
  unfold State.setReleased
  try dsimp only
  repeat' (first
    | with_reducible exact hs
    | with_reducible assumption
    | with_reducible refine frame_ite ?_ ?_
    | with_reducible refine State.copyItem_frame (within_trans (by decide) hw) ?_
    | with_reducible refine State.setLane_frame (within_trans (by decide) hw) ?_
    | ((conv => arg 3; arg 34); with_reducible apply frame_mk)
    | exact fun b => absurd (hw _ b) (by decide)
    | with_reducible exact fun _ => rfl
    | ((with_reducible show NonVol.identity _ = NonVol.identity _); rfl)
    | split
    | dsimp only)

theorem State.laneOp_frame {W : Nat} {zz : State} {s : State} {sp lane : Nat} {all : Bool} {op : Nat} (hw : Within 4563404288 W) (hs : Frame W zz s) :
    Frame W zz (State.laneOp s sp lane all op) := by
  unfold State.laneOp
  try dsimp only
  repeat' (first
    | with_reducible exact hs
    | with_reducible assumption
    | with_reducible refine frame_ite ?_ ?_
    | with_reducible refine State.setReleased_frame (within_trans (by decide) hw) ?_
    | (with_reducible refine frame_foldl ?_ ?_) | (with_reducible refine frame_foldl_fst ?_ ?_) | (with_reducible refine frame_foldl_snd ?_ ?_) | (intro _ _ _)
    | ((conv => arg 3; arg 34); with_reducible apply frame_mk)
    | exact fun b => absurd (hw _ b) (by decide)
    | with_reducible exact fun _ => rfl
    | ((with_reducible show NonVol.identity _ = NonVol.identity _); rfl)
    | split
    | dsimp only)

theorem State.popItem_frame {W : Nat} {zz : State} {s : State} {sp lane : Nat} {oneLane : Bool} {ecc : Ecc} (hw : Within 4564583953 W) (hs : Frame W zz s) :
    Frame W zz (State.popItem s sp lane oneLane ecc).2 := by
  unfold State.popItem
  try dsimp only
  repeat' (first
    | with_reducible exact hs
    | with_reducible assumption
    | with_reducible refine frame_ite ?_ ?_
    | with_reducible refine frame_ite_fst ?_ ?_
    | with_reducible refine frame_ite_snd ?_ ?_
    | with_reducible refine frame_ite_snd2 ?_ ?_
    | with_reducible refine State.wr_frame (within_trans (by decide) hw) ?_
    | with_reducible refine State.count_frame (within_trans (by decide) hw) ?_
    | with_reducible refine State.raise_frame (within_trans (by decide) hw) ?_
    | with_reducible refine State.err_frame (within_trans (by decide) hw) ?_
    | with_reducible refine State.bumpSeq_frame (within_trans (by decide) hw) ?_
    | with_reducible refine State.setReleased_frame (within_trans (by decide) hw) ?_
    | ((conv => arg 3; arg 34); with_reducible apply frame_mk)
    | exact fun b => absurd (hw _ b) (by decide)
    | with_reducible exact fun _ => rfl
    | ((with_reducible show NonVol.identity _ = NonVol.identity _); rfl)
    | split
    | dsimp only)

theorem State.popItem_frame' {W : Nat} {zz u : State} {s : State} {sp lane : Nat} {oneLane : Bool} {ecc : Ecc} {y_} (he_ : State.popItem s sp lane oneLane ecc = (y_, u)) (hw : Within 4564583953 W)
    (hs : Frame W zz s) : Frame W zz u := by
  have k : Frame W zz (State.popItem s sp lane oneLane ecc).2 := State.popItem_frame hw hs
  rw [he_] at k
  exact k

end Sys2Proof.Machine
end

