-- ==== Sys2Proof/Laws/FrameSpool.lean ====
section
/-!
SUPPORT. The frame of each operation of Machine/Spool.lean.
-/

set_option maxRecDepth 4000

namespace Sys2Proof.Machine

set_option linter.all false
set_option Elab.async false

theorem opSpoolPush_frame {W : Nat} {zz : State} {r : RawRecord} {s : State} (hw : Within 4564588049 W) (hs : Frame W zz s) :
    Frame W zz (opSpoolPush r s) := by
  unfold opSpoolPush
  try dsimp only
  repeat' (first
    | with_reducible exact hs
    | with_reducible assumption
    | with_reducible refine frame_ite ?_ ?_
    | with_reducible refine State.emit_frame (within_trans (by decide) hw) ?_
    | dsimp only)

theorem opJobStart_frame {W : Nat} {zz : State} {s : State} (hw : Within 1052689 W) (hs : Frame W zz s) :
    Frame W zz (opJobStart s) := by
  unfold opJobStart
  try dsimp only
  repeat' (first
    | with_reducible exact hs
    | with_reducible assumption
    | with_reducible refine frame_ite ?_ ?_
    | with_reducible refine State.count_frame (within_trans (by decide) hw) ?_
    | with_reducible refine State.keepMax_frame (within_trans (by decide) hw) ?_
    | ((conv => arg 3; arg 34); with_reducible apply frame_mk)
    | exact fun b => absurd (hw _ b) (by decide)
    | with_reducible exact fun _ => rfl
    | ((with_reducible show NonVol.identity _ = NonVol.identity _); rfl)
    | split
    | dsimp only)

theorem opJobDone_frame {W : Nat} {zz : State} {mismatch : Bool} {s : State} (hw : Within 1184273 W) (hs : Frame W zz s) :
    Frame W zz (opJobDone mismatch s) := by
  unfold opJobDone
  try dsimp only
  repeat' (first
    | with_reducible exact hs
    | with_reducible assumption
    | with_reducible refine frame_ite ?_ ?_
    | with_reducible refine State.wr64_frame (within_trans (by decide) hw) ?_
    | with_reducible refine State.fresh_frame (within_trans (by decide) hw) ?_
    | with_reducible refine State.count_frame (within_trans (by decide) hw) ?_
    | with_reducible refine State.countMod_frame (within_trans (by decide) hw) ?_
    | with_reducible refine State.raise_frame (within_trans (by decide) hw) ?_
    | with_reducible refine State.err_frame (within_trans (by decide) hw) ?_
    | with_reducible refine State.setLane_frame (within_trans (by decide) hw) ?_
    | ((conv => arg 3; arg 34); with_reducible apply frame_mk)
    | exact fun b => absurd (hw _ b) (by decide)
    | with_reducible exact fun _ => rfl
    | ((with_reducible show NonVol.identity _ = NonVol.identity _); rfl)
    | split
    | dsimp only)

theorem opStaleExpiry_frame {W : Nat} {zz : State} {sp L : Nat} {s : State} (hw : Within 131585 W) (hs : Frame W zz s) :
    Frame W zz (opStaleExpiry sp L s) := by
  unfold opStaleExpiry
  try dsimp only
  repeat' (first
    | with_reducible exact hs
    | with_reducible assumption
    | with_reducible refine frame_ite ?_ ?_
    | with_reducible refine State.raise_frame (within_trans (by decide) hw) ?_
    | with_reducible refine State.err_frame (within_trans (by decide) hw) ?_
    | with_reducible refine State.setLane_frame (within_trans (by decide) hw) ?_
    | ((conv => arg 3; arg 34); with_reducible apply frame_mk)
    | exact fun b => absurd (hw _ b) (by decide)
    | with_reducible exact fun _ => rfl
    | ((with_reducible show NonVol.identity _ = NonVol.identity _); rfl)
    | split
    | dsimp only)

theorem State.setPop_frame {W : Nat} {zz : State} {s : State} {x : Nat} {v : PopView} (hw : Within 2048 W) (hs : Frame W zz s) :
    Frame W zz (State.setPop s x v) := by
  unfold State.setPop
  try dsimp only
  repeat' (first
    | with_reducible exact hs
    | with_reducible assumption
    | with_reducible refine frame_ite ?_ ?_
    | ((conv => arg 3; arg 34); with_reducible apply frame_mk)
    | exact fun b => absurd (hw _ b) (by decide)
    | with_reducible exact fun _ => rfl
    | ((with_reducible show NonVol.identity _ = NonVol.identity _); rfl)
    | dsimp only)

theorem State.popStat_frame {W : Nat} {zz : State} {s : State} {x : Nat} {refused : Bool} (hw : Within 2048 W) (hs : Frame W zz s) :
    Frame W zz (State.popStat s x refused) := by
  unfold State.popStat
  try dsimp only
  repeat' (first
    | with_reducible exact hs
    | with_reducible assumption
    | with_reducible refine frame_ite ?_ ?_
    | with_reducible refine State.setPop_frame (within_trans (by decide) hw) ?_
    | ((conv => arg 3; arg 34); with_reducible apply frame_mk)
    | exact fun b => absurd (hw _ b) (by decide)
    | with_reducible exact fun _ => rfl
    | ((with_reducible show NonVol.identity _ = NonVol.identity _); rfl)
    | dsimp only)

theorem State.popNone_frame {W : Nat} {zz : State} {s : State} {x : Nat} {refused : Bool} (hw : Within 2048 W) (hs : Frame W zz s) :
    Frame W zz (State.popNone s x refused) := by
  unfold State.popNone
  try dsimp only
  repeat' (first
    | with_reducible exact hs
    | with_reducible assumption
    | with_reducible refine frame_ite ?_ ?_
    | with_reducible refine State.setPop_frame (within_trans (by decide) hw) ?_
    | ((conv => arg 3; arg 34); with_reducible apply frame_mk)
    | exact fun b => absurd (hw _ b) (by decide)
    | with_reducible exact fun _ => rfl
    | ((with_reducible show NonVol.identity _ = NonVol.identity _); rfl)
    | dsimp only)

theorem opSplPop_frame {W : Nat} {zz : State} {who : Accessor} {lane : Nat} {oneLane : Bool} {ecc : Ecc} {s : State} (hw : Within 4564586001 W) (hs : Frame W zz s) :
    Frame W zz (opSplPop who lane oneLane ecc s) := by
  unfold opSplPop
  try dsimp only
  repeat' (first
    | with_reducible exact hs
    | with_reducible assumption
    | with_reducible refine frame_ite ?_ ?_
    | with_reducible refine frame_ite_fst ?_ ?_
    | with_reducible refine frame_ite_snd ?_ ?_
    | with_reducible refine frame_ite_snd2 ?_ ?_
    | with_reducible refine State.err_frame (within_trans (by decide) hw) ?_
    | with_reducible refine State.popItem_frame (within_trans (by decide) hw) ?_
    | with_reducible refine State.popItem_frame' (by assumption) (within_trans (by decide) hw) ?_
    | with_reducible refine State.setPop_frame (within_trans (by decide) hw) ?_
    | with_reducible refine State.popNone_frame (within_trans (by decide) hw) ?_
    | ((conv => arg 3; arg 34); with_reducible apply frame_mk)
    | exact fun b => absurd (hw _ b) (by decide)
    | with_reducible exact fun _ => rfl
    | ((with_reducible show NonVol.identity _ = NonVol.identity _); rfl)
    | split
    | dsimp only)

theorem opSplLane_frame {W : Nat} {zz : State} {op : Nat} {who : Accessor} {lane : Nat} {all : Bool} {s : State} (hw : Within 4563537409 W) (hs : Frame W zz s) :
    Frame W zz (opSplLane op who lane all s) := by
  unfold opSplLane
  try dsimp only
  repeat' (first
    | with_reducible exact hs
    | with_reducible assumption
    | with_reducible refine frame_ite ?_ ?_
    | with_reducible refine State.err_frame (within_trans (by decide) hw) ?_
    | with_reducible refine State.laneOp_frame (within_trans (by decide) hw) ?_
    | with_reducible refine State.popStat_frame (within_trans (by decide) hw) ?_
    | ((conv => arg 3; arg 34); with_reducible apply frame_mk)
    | exact fun b => absurd (hw _ b) (by decide)
    | with_reducible exact fun _ => rfl
    | ((with_reducible show NonVol.identity _ = NonVol.identity _); rfl)
    | split
    | dsimp only)

theorem opPopData_frame {W : Nat} {zz : State} {who : Accessor} {s : State} (hw : Within 2147485696 W) (hs : Frame W zz s) :
    Frame W zz (opPopData who s) := by
  unfold opPopData
  try dsimp only
  repeat' (first
    | with_reducible exact hs
    | with_reducible assumption
    | with_reducible refine frame_ite ?_ ?_
    | with_reducible refine State.setPop_frame (within_trans (by decide) hw) ?_
    | ((conv => arg 3; arg 34); with_reducible apply frame_mk)
    | exact fun b => absurd (hw _ b) (by decide)
    | with_reducible exact fun _ => rfl
    | ((with_reducible show NonVol.identity _ = NonVol.identity _); rfl)
    | dsimp only)

end Sys2Proof.Machine
end

