-- ==== Sys2Proof/Laws/FrameShutter.lean ====
section
/-!
SUPPORT. The frame of each operation of Machine/Shutter.lean.
-/

set_option maxRecDepth 4000

namespace Sys2Proof.Machine

set_option linter.all false
set_option Elab.async false

theorem State.setUnit_frame {W : Nat} {zz : State} {s : State} {u : Nat} {c : CapUnit} (hw : Within 65536 W) (hs : Frame W zz s) :
    Frame W zz (State.setUnit s u c) := by
  unfold State.setUnit
  try dsimp only
  repeat' (first
    | with_reducible exact hs
    | with_reducible assumption
    | with_reducible refine frame_ite ?_ ?_
    | ((conv => arg 3; arg 34); with_reducible apply frame_mk)
    | exact fun b => absurd (hw _ b) (by decide)
    | with_reducible exact fun _ => rfl
    | ((with_reducible show NonVol.identity _ = NonVol.identity _); rfl)
    | dsimp only)

theorem State.showCap_frame {W : Nat} {zz : State} {s : State} {u : Nat} (hw : Within 1 W) (hs : Frame W zz s) :
    Frame W zz (State.showCap s u) := by
  unfold State.showCap
  try dsimp only
  repeat' (first
    | with_reducible exact hs
    | with_reducible assumption
    | with_reducible refine frame_ite ?_ ?_
    | with_reducible refine State.wr_frame (within_trans (by decide) hw) ?_
    | dsimp only)

theorem State.closeSegment_frame {W : Nat} {zz : State} {s : State} {u period : Nat} {t : Trigger} {anchorInst : Time} {pre post : List RingItem}
    {flags : Nat} {lastInst : Time} {rest : List RingItem} (hw : Within 196609 W) (hs : Frame W zz s) :
    Frame W zz (State.closeSegment s u period t anchorInst pre post flags lastInst rest) := by
  unfold State.closeSegment
  try dsimp only
  repeat' (first
    | with_reducible exact hs
    | with_reducible assumption
    | with_reducible refine frame_ite ?_ ?_
    | with_reducible refine State.wr_frame (within_trans (by decide) hw) ?_
    | with_reducible refine State.wf_frame (within_trans (by decide) hw) ?_
    | with_reducible refine State.wr64_frame (within_trans (by decide) hw) ?_
    | with_reducible refine State.countMod_frame (within_trans (by decide) hw) ?_
    | with_reducible refine State.raise_frame (within_trans (by decide) hw) ?_
    | with_reducible refine State.setUnit_frame (within_trans (by decide) hw) ?_
    | ((conv => arg 3; arg 34); with_reducible apply frame_mk)
    | exact fun b => absurd (hw _ b) (by decide)
    | with_reducible exact fun _ => rfl
    | ((with_reducible show NonVol.identity _ = NonVol.identity _); rfl)
    | split
    | dsimp only)

theorem State.capTry_frame {W : Nat} {zz : State} {s : State} {u period : Nat} (hw : Within 196609 W) (hs : Frame W zz s) :
    Frame W zz (State.capTry s u period) := by
  unfold State.capTry
  try dsimp only
  repeat' (first
    | with_reducible exact hs
    | with_reducible assumption
    | with_reducible refine frame_ite ?_ ?_
    | with_reducible refine State.closeSegment_frame (within_trans (by decide) hw) ?_
    | ((conv => arg 3; arg 34); with_reducible apply frame_mk)
    | exact fun b => absurd (hw _ b) (by decide)
    | with_reducible exact fun _ => rfl
    | ((with_reducible show NonVol.identity _ = NonVol.identity _); rfl)
    | split
    | dsimp only)

theorem State.capTrigger_frame {W : Nat} {zz : State} {s : State} {u period : Nat} {t : Trigger} (hw : Within 4564653585 W) (hs : Frame W zz s) :
    Frame W zz (State.capTrigger s u period t) := by
  unfold State.capTrigger
  try dsimp only
  repeat' (first
    | with_reducible exact hs
    | with_reducible assumption
    | with_reducible refine frame_ite ?_ ?_
    | with_reducible refine State.wr_frame (within_trans (by decide) hw) ?_
    | with_reducible refine State.count_frame (within_trans (by decide) hw) ?_
    | with_reducible refine State.raise_frame (within_trans (by decide) hw) ?_
    | with_reducible refine State.err_frame (within_trans (by decide) hw) ?_
    | with_reducible refine State.bumpSeq_frame (within_trans (by decide) hw) ?_
    | with_reducible refine State.push_frame (within_trans (by decide) hw) ?_
    | with_reducible refine State.setUnit_frame (within_trans (by decide) hw) ?_
    | with_reducible refine State.capTry_frame (within_trans (by decide) hw) ?_
    | ((conv => arg 3; arg 34); with_reducible apply frame_mk)
    | exact fun b => absurd (hw _ b) (by decide)
    | with_reducible exact fun _ => rfl
    | ((with_reducible show NonVol.identity _ = NonVol.identity _); rfl)
    | split
    | dsimp only)

theorem State.capHeld_frame {W : Nat} {zz : State} {s : State} {u period : Nat} (hw : Within 4564653585 W) (hs : Frame W zz s) :
    Frame W zz (State.capHeld s u period) := by
  unfold State.capHeld
  try dsimp only
  repeat' (first
    | with_reducible exact hs
    | with_reducible assumption
    | with_reducible refine frame_ite ?_ ?_
    | with_reducible refine State.setUnit_frame (within_trans (by decide) hw) ?_
    | with_reducible refine State.capTrigger_frame (within_trans (by decide) hw) ?_
    | (with_reducible refine frame_foldl ?_ ?_) | (with_reducible refine frame_foldl_fst ?_ ?_) | (with_reducible refine frame_foldl_snd ?_ ?_) | (intro _ _ _)
    | ((conv => arg 3; arg 34); with_reducible apply frame_mk)
    | exact fun b => absurd (hw _ b) (by decide)
    | with_reducible exact fun _ => rfl
    | ((with_reducible show NonVol.identity _ = NonVol.identity _); rfl)
    | split
    | dsimp only)

theorem State.capItem_frame {W : Nat} {zz : State} {s : State} {u period : Nat} {it : RingItem} (hw : Within 4564653585 W) (hs : Frame W zz s) :
    Frame W zz (State.capItem s u period it) := by
  unfold State.capItem
  try dsimp only
  repeat' (first
    | with_reducible exact hs
    | with_reducible assumption
    | with_reducible refine frame_ite ?_ ?_
    | with_reducible refine State.setUnit_frame (within_trans (by decide) hw) ?_
    | with_reducible refine State.capTry_frame (within_trans (by decide) hw) ?_
    | with_reducible refine State.capHeld_frame (within_trans (by decide) hw) ?_
    | ((conv => arg 3; arg 34); with_reducible apply frame_mk)
    | exact fun b => absurd (hw _ b) (by decide)
    | with_reducible exact fun _ => rfl
    | ((with_reducible show NonVol.identity _ = NonVol.identity _); rfl)
    | split
    | dsimp only)

theorem State.triggerMark_frame {W : Nat} {zz : State} {s : State} {t : Trigger} (hw : Within 4564588049 W) (hs : Frame W zz s) :
    Frame W zz (State.triggerMark s t) := by
  unfold State.triggerMark
  try dsimp only
  repeat' (first
    | with_reducible exact hs
    | with_reducible assumption
    | with_reducible refine frame_ite ?_ ?_
    | with_reducible refine State.bumpSeq_frame (within_trans (by decide) hw) ?_
    | with_reducible refine State.push_frame (within_trans (by decide) hw) ?_
    | (with_reducible refine frame_foldl ?_ ?_) | (with_reducible refine frame_foldl_fst ?_ ?_) | (with_reducible refine frame_foldl_snd ?_ ?_) | (intro _ _ _)
    | split
    | dsimp only)

theorem State.setSyncFrom_frame {W : Nat} {zz : State} {s : State} {t : Time} (hw : Within 32768 W) (hs : Frame W zz s) :
    Frame W zz (State.setSyncFrom s t) := by
  unfold State.setSyncFrom
  try dsimp only
  repeat' (first
    | with_reducible exact hs
    | with_reducible assumption
    | with_reducible refine frame_ite ?_ ?_
    | ((conv => arg 3; arg 34); with_reducible apply frame_mk)
    | exact fun b => absurd (hw _ b) (by decide)
    | with_reducible exact fun _ => rfl
    | ((with_reducible show NonVol.identity _ = NonVol.identity _); rfl)
    | dsimp only)

theorem State.requestSync_frame {W : Nat} {zz : State} {s : State} (hw : Within 4563436544 W) (hs : Frame W zz s) :
    Frame W zz (State.requestSync s) := by
  unfold State.requestSync
  try dsimp only
  repeat' (first
    | with_reducible exact hs
    | with_reducible assumption
    | with_reducible refine frame_ite ?_ ?_
    | with_reducible refine State.copyItem_frame (within_trans (by decide) hw) ?_
    | with_reducible refine State.setSyncFrom_frame (within_trans (by decide) hw) ?_
    | split
    | dsimp only)

theorem State.lineTrigger_frame {W : Nat} {zz : State} {s : State} {t : Trigger} (hw : Within 4564637201 W) (hs : Frame W zz s) :
    Frame W zz (State.lineTrigger s t) := by
  unfold State.lineTrigger
  try dsimp only
  repeat' (first
    | with_reducible exact hs
    | with_reducible assumption
    | with_reducible refine frame_ite ?_ ?_
    | with_reducible refine State.count_frame (within_trans (by decide) hw) ?_
    | with_reducible refine State.raise_frame (within_trans (by decide) hw) ?_
    | with_reducible refine State.triggerMark_frame (within_trans (by decide) hw) ?_
    | with_reducible refine State.requestSync_frame (within_trans (by decide) hw) ?_
    | ((conv => arg 3; arg 34); with_reducible apply frame_mk)
    | exact fun b => absurd (hw _ b) (by decide)
    | with_reducible exact fun _ => rfl
    | ((with_reducible show NonVol.identity _ = NonVol.identity _); rfl)
    | split
    | dsimp only)

theorem State.unitTrigger_frame {W : Nat} {zz : State} {s : State} {t : Trigger} (hw : Within 4564653585 W) (hs : Frame W zz s) :
    Frame W zz (State.unitTrigger s t) := by
  unfold State.unitTrigger
  try dsimp only
  repeat' (first
    | with_reducible exact hs
    | with_reducible assumption
    | with_reducible refine frame_ite ?_ ?_
    | with_reducible refine State.capTrigger_frame (within_trans (by decide) hw) ?_
    | (with_reducible refine frame_iter ?_ ?_) | (with_reducible refine frame_iter_fst ?_ ?_) | (intro _ _ _)
    | split
    | dsimp only)

theorem State.passTrigger_frame {W : Nat} {zz : State} {s : State} {t : Trigger} (hw : Within 4564702737 W) (hs : Frame W zz s) :
    Frame W zz (State.passTrigger s t) := by
  unfold State.passTrigger
  try dsimp only
  repeat' (first
    | with_reducible exact hs
    | with_reducible assumption
    | with_reducible refine frame_ite ?_ ?_
    | with_reducible refine State.lineTrigger_frame (within_trans (by decide) hw) ?_
    | with_reducible refine State.unitTrigger_frame (within_trans (by decide) hw) ?_
    | dsimp only)

theorem State.diverge_frame {W : Nat} {zz : State} {s : State} (hw : Within 269615121 W) (hs : Frame W zz s) :
    Frame W zz (State.diverge s) := by
  unfold State.diverge
  try dsimp only
  repeat' (first
    | with_reducible exact hs
    | with_reducible assumption
    | with_reducible refine frame_ite ?_ ?_
    | with_reducible refine State.count_frame (within_trans (by decide) hw) ?_
    | with_reducible refine State.err_frame (within_trans (by decide) hw) ?_
    | ((conv => arg 3; arg 34); with_reducible apply frame_mk)
    | exact fun b => absurd (hw _ b) (by decide)
    | with_reducible exact fun _ => rfl
    | ((with_reducible show NonVol.identity _ = NonVol.identity _); rfl)
    | dsimp only)

theorem State.ownTrigger_frame {W : Nat} {zz : State} {s : State} {t : Trigger} (hw : Within 269615121 W) (hs : Frame W zz s) :
    Frame W zz (State.ownTrigger s t) := by
  unfold State.ownTrigger
  try dsimp only
  repeat' (first
    | with_reducible exact hs
    | with_reducible assumption
    | with_reducible refine frame_ite ?_ ?_
    | with_reducible refine State.diverge_frame (within_trans (by decide) hw) ?_
    | ((conv => arg 3; arg 34); with_reducible apply frame_mk)
    | exact fun b => absurd (hw _ b) (by decide)
    | with_reducible exact fun _ => rfl
    | ((with_reducible show NonVol.identity _ = NonVol.identity _); rfl)
    | split
    | dsimp only)

theorem State.fwdTrigger_frame {W : Nat} {zz : State} {s : State} {t : Trigger} (hw : Within 269615121 W) (hs : Frame W zz s) :
    Frame W zz (State.fwdTrigger s t) := by
  unfold State.fwdTrigger
  try dsimp only
  repeat' (first
    | with_reducible exact hs
    | with_reducible assumption
    | with_reducible refine frame_ite ?_ ?_
    | with_reducible refine State.diverge_frame (within_trans (by decide) hw) ?_
    | ((conv => arg 3; arg 34); with_reducible apply frame_mk)
    | exact fun b => absurd (hw _ b) (by decide)
    | with_reducible exact fun _ => rfl
    | ((with_reducible show NonVol.identity _ = NonVol.identity _); rfl)
    | split
    | dsimp only)

theorem State.issueLine_frame {W : Nat} {zz : State} {s : State} {line : Nat} {ts : List Trigger} (hw : Within 4564637201 W) (hs : Frame W zz s) :
    Frame W zz (State.issueLine s line ts).1 := by
  unfold State.issueLine
  try dsimp only
  repeat' (first
    | with_reducible exact hs
    | with_reducible assumption
    | with_reducible refine frame_ite ?_ ?_
    | with_reducible refine frame_ite_fst ?_ ?_
    | with_reducible refine frame_ite_snd ?_ ?_
    | with_reducible refine frame_ite_snd2 ?_ ?_
    | with_reducible refine State.countN_frame (within_trans (by decide) hw) ?_
    | with_reducible refine State.sendBoth_frame (within_trans (by decide) hw) ?_
    | with_reducible refine State.lineTrigger_frame (within_trans (by decide) hw) ?_
    | with_reducible refine State.ownTrigger_frame (within_trans (by decide) hw) ?_
    | ((conv => arg 3; arg 34); with_reducible apply frame_mk)
    | exact fun b => absurd (hw _ b) (by decide)
    | with_reducible exact fun _ => rfl
    | ((with_reducible show NonVol.identity _ = NonVol.identity _); rfl)
    | split
    | dsimp only)

theorem State.issueLine_frame' {W : Nat} {zz u : State} {s : State} {line : Nat} {ts : List Trigger} {y_} (he_ : State.issueLine s line ts = (u, y_)) (hw : Within 4564637201 W)
    (hs : Frame W zz s) : Frame W zz u := by
  have k : Frame W zz (State.issueLine s line ts).1 := State.issueLine_frame hw hs
  rw [he_] at k
  exact k

theorem State.issue_frame {W : Nat} {zz : State} {s : State} {ts : List Trigger} (hw : Within 4564702737 W) (hs : Frame W zz s) :
    Frame W zz (State.issue s ts) := by
  unfold State.issue
  try dsimp only
  repeat' (first
    | with_reducible exact hs
    | with_reducible assumption
    | with_reducible refine frame_ite ?_ ?_
    | with_reducible refine frame_ite_fst ?_ ?_
    | with_reducible refine frame_ite_snd ?_ ?_
    | with_reducible refine frame_ite_snd2 ?_ ?_
    | with_reducible refine State.unitTrigger_frame (within_trans (by decide) hw) ?_
    | with_reducible refine State.issueLine_frame (within_trans (by decide) hw) ?_
    | with_reducible refine State.issueLine_frame' (by assumption) (within_trans (by decide) hw) ?_
    | (with_reducible refine frame_iter ?_ ?_) | (with_reducible refine frame_iter_fst ?_ ?_) | (intro _ _ _)
    | (with_reducible refine frame_foldl ?_ ?_) | (with_reducible refine frame_foldl_fst ?_ ?_) | (with_reducible refine frame_foldl_snd ?_ ?_) | (intro _ _ _)
    | dsimp only)

theorem State.inputEdge_frame {W : Nat} {zz : State} {s : State} {e : ShutEdge} (hw : Within 16384 W) (hs : Frame W zz s) :
    Frame W zz (State.inputEdge s e).1 := by
  unfold State.inputEdge
  try dsimp only
  repeat' (first
    | with_reducible exact hs
    | with_reducible assumption
    | with_reducible refine frame_ite ?_ ?_
    | with_reducible refine frame_ite_fst ?_ ?_
    | with_reducible refine frame_ite_snd ?_ ?_
    | with_reducible refine frame_ite_snd2 ?_ ?_
    | ((conv => arg 3; arg 34); with_reducible apply frame_mk)
    | exact fun b => absurd (hw _ b) (by decide)
    | with_reducible exact fun _ => rfl
    | ((with_reducible show NonVol.identity _ = NonVol.identity _); rfl)
    | split
    | dsimp only)

theorem State.inputEdge_frame' {W : Nat} {zz u : State} {s : State} {e : ShutEdge} {y_} (he_ : State.inputEdge s e = (u, y_)) (hw : Within 16384 W)
    (hs : Frame W zz s) : Frame W zz u := by
  have k : Frame W zz (State.inputEdge s e).1 := State.inputEdge_frame hw hs
  rw [he_] at k
  exact k

theorem opShutInEdge_frame {W : Nat} {zz : State} {edges : List ShutEdge} {s : State} (hw : Within 4564702737 W) (hs : Frame W zz s) :
    Frame W zz (opShutInEdge edges s) := by
  unfold opShutInEdge
  try dsimp only
  repeat' (first
    | with_reducible exact hs
    | with_reducible assumption
    | with_reducible refine frame_ite ?_ ?_
    | with_reducible refine frame_ite_fst ?_ ?_
    | with_reducible refine frame_ite_snd ?_ ?_
    | with_reducible refine frame_ite_snd2 ?_ ?_
    | with_reducible refine State.issue_frame (within_trans (by decide) hw) ?_
    | with_reducible refine State.inputEdge_frame (within_trans (by decide) hw) ?_
    | with_reducible refine State.inputEdge_frame' (by assumption) (within_trans (by decide) hw) ?_
    | (with_reducible refine frame_foldl ?_ ?_) | (with_reducible refine frame_foldl_fst ?_ ?_) | (with_reducible refine frame_foldl_snd ?_ ?_) | (intro _ _ _)
    | dsimp only)

theorem opShutInStuck_frame {W : Nat} {zz : State} {n : Nat} {s : State} (hw : Within 1196049 W) (hs : Frame W zz s) :
    Frame W zz (opShutInStuck n s) := by
  unfold opShutInStuck
  try dsimp only
  repeat' (first
    | with_reducible exact hs
    | with_reducible assumption
    | with_reducible refine frame_ite ?_ ?_
    | with_reducible refine State.count_frame (within_trans (by decide) hw) ?_
    | with_reducible refine State.raise_frame (within_trans (by decide) hw) ?_
    | with_reducible refine State.err_frame (within_trans (by decide) hw) ?_
    | ((conv => arg 3; arg 34); with_reducible apply frame_mk)
    | exact fun b => absurd (hw _ b) (by decide)
    | with_reducible exact fun _ => rfl
    | ((with_reducible show NonVol.identity _ = NonVol.identity _); rfl)
    | split
    | dsimp only)

theorem opLineExpiry_frame {W : Nat} {zz : State} {n : Nat} {s : State} (hw : Within 16384 W) (hs : Frame W zz s) :
    Frame W zz (opLineExpiry n s) := by
  unfold opLineExpiry
  try dsimp only
  repeat' (first
    | with_reducible exact hs
    | with_reducible assumption
    | with_reducible refine frame_ite ?_ ?_
    | ((conv => arg 3; arg 34); with_reducible apply frame_mk)
    | exact fun b => absurd (hw _ b) (by decide)
    | with_reducible exact fun _ => rfl
    | ((with_reducible show NonVol.identity _ = NonVol.identity _); rfl)
    | split
    | dsimp only)

theorem State.schedIssue_frame {W : Nat} {zz : State} {s : State} {k steps : Nat} (hw : Within 4564702737 W) (hs : Frame W zz s) :
    Frame W zz (State.schedIssue s k steps) := by
  unfold State.schedIssue
  try dsimp only
  repeat' (first
    | with_reducible exact hs
    | with_reducible assumption
    | with_reducible refine frame_ite ?_ ?_
    | with_reducible refine State.wr_frame (within_trans (by decide) hw) ?_
    | with_reducible refine State.issue_frame (within_trans (by decide) hw) ?_
    | ((conv => arg 3; arg 34); with_reducible apply frame_mk)
    | exact fun b => absurd (hw _ b) (by decide)
    | with_reducible exact fun _ => rfl
    | ((with_reducible show NonVol.identity _ = NonVol.identity _); rfl)
    | split
    | dsimp only)

theorem State.schedLate_frame {W : Nat} {zz : State} {s : State} {k : Nat} (hw : Within 4564702737 W) (hs : Frame W zz s) :
    Frame W zz (State.schedLate s k) := by
  unfold State.schedLate
  try dsimp only
  repeat' (first
    | with_reducible exact hs
    | with_reducible assumption
    | with_reducible refine frame_ite ?_ ?_
    | with_reducible refine State.schedIssue_frame (within_trans (by decide) hw) ?_
    | split
    | dsimp only)

theorem State.schedCfgSet_frame {W : Nat} {zz : State} {s : State} {k : Nat} {old : Word} (hw : Within 4564702737 W) (hs : Frame W zz s) :
    Frame W zz (State.schedCfgSet s k old) := by
  unfold State.schedCfgSet
  try dsimp only
  repeat' (first
    | with_reducible exact hs
    | with_reducible assumption
    | with_reducible refine frame_ite ?_ ?_
    | with_reducible refine State.wr_frame (within_trans (by decide) hw) ?_
    | with_reducible refine State.schedLate_frame (within_trans (by decide) hw) ?_
    | ((conv => arg 3; arg 34); with_reducible apply frame_mk)
    | exact fun b => absurd (hw _ b) (by decide)
    | with_reducible exact fun _ => rfl
    | ((with_reducible show NonVol.identity _ = NonVol.identity _); rfl)
    | split
    | dsimp only)

theorem State.schedAtSet_frame {W : Nat} {zz : State} {s : State} {k : Nat} (hw : Within 4564702737 W) (hs : Frame W zz s) :
    Frame W zz (State.schedAtSet s k) := by
  unfold State.schedAtSet
  try dsimp only
  repeat' (first
    | with_reducible exact hs
    | with_reducible assumption
    | with_reducible refine frame_ite ?_ ?_
    | with_reducible refine State.schedLate_frame (within_trans (by decide) hw) ?_
    | ((conv => arg 3; arg 34); with_reducible apply frame_mk)
    | exact fun b => absurd (hw _ b) (by decide)
    | with_reducible exact fun _ => rfl
    | ((with_reducible show NonVol.identity _ = NonVol.identity _); rfl)
    | dsimp only)

theorem opSchedulerFire_frame {W : Nat} {zz : State} {k : Nat} {s : State} (hw : Within 4564702737 W) (hs : Frame W zz s) :
    Frame W zz (opSchedulerFire k s) := by
  unfold opSchedulerFire
  try dsimp only
  repeat' (first
    | with_reducible exact hs
    | with_reducible assumption
    | with_reducible refine frame_ite ?_ ?_
    | with_reducible refine State.schedIssue_frame (within_trans (by decide) hw) ?_
    | split
    | dsimp only)

theorem opShbTrig_frame {W : Nat} {zz : State} {x line : Nat} {useAt : Bool} {s : State} (hw : Within 4564702737 W) (hs : Frame W zz s) :
    Frame W zz (opShbTrig x line useAt s) := by
  unfold opShbTrig
  try dsimp only
  repeat' (first
    | with_reducible exact hs
    | with_reducible assumption
    | with_reducible refine frame_ite ?_ ?_
    | with_reducible refine State.issue_frame (within_trans (by decide) hw) ?_
    | ((conv => arg 3; arg 34); with_reducible apply frame_mk)
    | exact fun b => absurd (hw _ b) (by decide)
    | with_reducible exact fun _ => rfl
    | ((with_reducible show NonVol.identity _ = NonVol.identity _); rfl)
    | split
    | dsimp only)

theorem opCmdAtReached_frame {W : Nat} {zz : State} {s : State} (hw : Within 4564702737 W) (hs : Frame W zz s) :
    Frame W zz (opCmdAtReached s) := by
  unfold opCmdAtReached
  try dsimp only
  repeat' (first
    | with_reducible exact hs
    | with_reducible assumption
    | with_reducible refine frame_ite ?_ ?_
    | with_reducible refine State.issue_frame (within_trans (by decide) hw) ?_
    | ((conv => arg 3; arg 34); with_reducible apply frame_mk)
    | exact fun b => absurd (hw _ b) (by decide)
    | with_reducible exact fun _ => rfl
    | ((with_reducible show NonVol.identity _ = NonVol.identity _); rfl)
    | dsimp only)

theorem opSegmentCopy_frame {W : Nat} {zz : State} {u : Nat} {bad : List Nat} {s : State} (hw : Within 4564653585 W) (hs : Frame W zz s) :
    Frame W zz (opSegmentCopy u bad s) := by
  unfold opSegmentCopy
  try dsimp only
  repeat' (first
    | with_reducible exact hs
    | with_reducible assumption
    | with_reducible refine frame_ite ?_ ?_
    | with_reducible refine State.countN_frame (within_trans (by decide) hw) ?_
    | with_reducible refine State.raise_frame (within_trans (by decide) hw) ?_
    | with_reducible refine State.err_frame (within_trans (by decide) hw) ?_
    | with_reducible refine State.emit_frame (within_trans (by decide) hw) ?_
    | with_reducible refine State.setUnit_frame (within_trans (by decide) hw) ?_
    | ((conv => arg 3; arg 34); with_reducible apply frame_mk)
    | exact fun b => absurd (hw _ b) (by decide)
    | with_reducible exact fun _ => rfl
    | ((with_reducible show NonVol.identity _ = NonVol.identity _); rfl)
    | split
    | dsimp only)

theorem State.cutSegment_frame {W : Nat} {zz : State} {s : State} {u period flags : Nat} (hw : Within 196609 W) (hs : Frame W zz s) :
    Frame W zz (State.cutSegment s u period flags) := by
  unfold State.cutSegment
  try dsimp only
  repeat' (first
    | with_reducible exact hs
    | with_reducible assumption
    | with_reducible refine frame_ite ?_ ?_
    | with_reducible refine State.closeSegment_frame (within_trans (by decide) hw) ?_
    | ((conv => arg 3; arg 34); with_reducible apply frame_mk)
    | exact fun b => absurd (hw _ b) (by decide)
    | with_reducible exact fun _ => rfl
    | ((with_reducible show NonVol.identity _ = NonVol.identity _); rfl)
    | split
    | dsimp only)

theorem State.inOld_frame {W : Nat} {zz : State} {s : State} {u : Nat} {o : CapOld} {f : State → State} (hw : Within 65537 W) (hs : Frame W zz s) (hf_ : ∀ x0_, Frame W zz x0_ → Frame W zz (f x0_)) :
    Frame W zz (State.inOld s u o f) := by
  unfold State.inOld
  try dsimp only
  repeat' (first
    | with_reducible exact hs
    | with_reducible assumption
    | with_reducible refine frame_ite ?_ ?_
    | with_reducible apply hf_
    | with_reducible refine State.wr_frame (within_trans (by decide) hw) ?_
    | with_reducible refine State.setUnit_frame (within_trans (by decide) hw) ?_
    | (with_reducible refine frame_foldl ?_ ?_) | (with_reducible refine frame_foldl_fst ?_ ?_) | (with_reducible refine frame_foldl_snd ?_ ?_) | (intro _ _ _)
    | ((conv => arg 3; arg 34); with_reducible apply frame_mk)
    | exact fun b => absurd (hw _ b) (by decide)
    | with_reducible exact fun _ => rfl
    | ((with_reducible show NonVol.identity _ = NonVol.identity _); rfl)
    | split
    | dsimp only)

theorem State.eachOld_frame {W : Nat} {zz : State} {s : State} {u : Nat} {f : State → State} (hw : Within 65537 W) (hs : Frame W zz s) (hf_ : ∀ x0_, Frame W zz x0_ → Frame W zz (f x0_)) :
    Frame W zz (State.eachOld s u f) := by
  unfold State.eachOld
  try dsimp only
  repeat' (first
    | with_reducible exact hs
    | with_reducible assumption
    | with_reducible refine frame_ite ?_ ?_
    | with_reducible apply hf_
    | with_reducible refine State.setUnit_frame (within_trans (by decide) hw) ?_
    | with_reducible refine State.inOld_frame (within_trans (by decide) hw) ?_ ?_
    | intro _ _ _
    | intro _ _
    | (with_reducible refine frame_foldl ?_ ?_) | (with_reducible refine frame_foldl_fst ?_ ?_) | (with_reducible refine frame_foldl_snd ?_ ?_) | (intro _ _ _)
    | ((conv => arg 3; arg 34); with_reducible apply frame_mk)
    | exact fun b => absurd (hw _ b) (by decide)
    | with_reducible exact fun _ => rfl
    | ((with_reducible show NonVol.identity _ = NonVol.identity _); rfl)
    | split
    | dsimp only)

theorem State.tapUnits_frame {W : Nat} {zz : State} {s : State} {f : Nat → State → State} (hw : Within 65537 W) (hs : Frame W zz s) (hf_ : ∀ x0_ x1_, Frame W zz x1_ → Frame W zz (f x0_ x1_)) :
    Frame W zz (State.tapUnits s f) := by
  unfold State.tapUnits
  try dsimp only
  repeat' (first
    | with_reducible exact hs
    | with_reducible assumption
    | with_reducible refine frame_ite ?_ ?_
    | with_reducible refine hf_ _ _ ?_
    | with_reducible refine State.eachOld_frame (within_trans (by decide) hw) ?_ ?_
    | intro _ _ _
    | intro _ _
    | (with_reducible refine frame_iter ?_ ?_) | (with_reducible refine frame_iter_fst ?_ ?_) | (intro _ _ _)
    | dsimp only)

end Sys2Proof.Machine
end

