-- ==== Sys2Proof/Laws/FrameSlozon.lean ====
section
/-!
SUPPORT. The frame of each operation of Machine/Slozon.lean.
-/

set_option maxRecDepth 4000

namespace Sys2Proof.Machine

set_option linter.all false
set_option Elab.async false

theorem State.txFrame_frame {W : Nat} {zz : State} {s : State} {p : Nat} {o : Out} (hw : Within 4296015889 W) (hs : Frame W zz s) :
    Frame W zz (State.txFrame s p o) := by
  unfold State.txFrame
  try dsimp only
  repeat' (first
    | with_reducible exact hs
    | with_reducible assumption
    | with_reducible refine frame_ite ?_ ?_
    | with_reducible refine State.count_frame (within_trans (by decide) hw) ?_
    | with_reducible refine State.emitOut_frame (within_trans (by decide) hw) ?_
    | split
    | dsimp only)

theorem State.sendBare_frame {W : Nat} {zz : State} {s : State} {port ctx type : Nat} {dst : HostAddr} {body : List Byte} (hw : Within 4296015889 W) (hs : Frame W zz s) :
    Frame W zz (State.sendBare s port ctx type dst body) := by
  unfold State.sendBare
  try dsimp only
  repeat' (first
    | with_reducible exact hs
    | with_reducible assumption
    | with_reducible refine frame_ite ?_ ?_
    | with_reducible refine State.txFrame_frame (within_trans (by decide) hw) ?_
    | ((conv => arg 3; arg 34); with_reducible apply frame_mk)
    | exact fun b => absurd (hw _ b) (by decide)
    | with_reducible exact fun _ => rfl
    | ((with_reducible show NonVol.identity _ = NonVol.identity _); rfl)
    | split
    | dsimp only)

theorem State.sendMsg_frame {W : Nat} {zz : State} {s : State} {x type : Nat} {body : List Byte} (hw : Within 4296146961 W) (hs : Frame W zz s) :
    Frame W zz (State.sendMsg s x type body) := by
  unfold State.sendMsg
  try dsimp only
  repeat' (first
    | with_reducible exact hs
    | with_reducible assumption
    | with_reducible refine frame_ite ?_ ?_
    | with_reducible refine State.onSession_frame (within_trans (by decide) hw) ?_
    | with_reducible refine State.txFrame_frame (within_trans (by decide) hw) ?_
    | ((conv => arg 3; arg 34); with_reducible apply frame_mk)
    | exact fun b => absurd (hw _ b) (by decide)
    | with_reducible exact fun _ => rfl
    | ((with_reducible show NonVol.identity _ = NonVol.identity _); rfl)
    | split
    | dsimp only)

end Sys2Proof.Machine
end

