-- ==== Sys2Proof/Laws/FrameTimeMap.lean ====
section
/-!
SUPPORT. The frame of each operation of Machine/TimeMap.lean.
-/

set_option maxRecDepth 4000

namespace Sys2Proof.Machine

set_option linter.all false
set_option Elab.async false

theorem State.publish_frame {W : Nat} {zz : State} {s : State} {v : TimeView} {step : Bool} (hw : Within 4565112337 W) (hs : Frame W zz s) :
    Frame W zz (State.publish s v step) := by
  unfold State.publish
  try dsimp only
  repeat' (first
    | with_reducible exact hs
    | with_reducible assumption
    | with_reducible refine frame_ite ?_ ?_
    | with_reducible refine State.emit_frame (within_trans (by decide) hw) ?_
    | with_reducible refine State.sendMsg_frame (within_trans (by decide) hw) ?_
    | (with_reducible refine frame_foldl ?_ ?_) | (with_reducible refine frame_foldl_fst ?_ ?_) | (with_reducible refine frame_foldl_snd ?_ ?_) | (intro _ _ _)
    | ((conv => arg 3; arg 34); with_reducible apply frame_mk)
    | exact fun b => absurd (hw _ b) (by decide)
    | with_reducible exact fun _ => rfl
    | ((with_reducible show NonVol.identity _ = NonVol.identity _); rfl)
    | split
    | dsimp only)

theorem State.emitTimeMap_frame {W : Nat} {zz : State} {s : State} {step : Bool} (hw : Within 4565112337 W) (hs : Frame W zz s) :
    Frame W zz (State.emitTimeMap s step) := by
  unfold State.emitTimeMap
  try dsimp only
  repeat' (first
    | with_reducible exact hs
    | with_reducible assumption
    | with_reducible refine frame_ite ?_ ?_
    | with_reducible refine State.publish_frame (within_trans (by decide) hw) ?_
    | dsimp only)

theorem State.setTimState_frame {W : Nat} {zz : State} {s : State} {v : Nat} (hw : Within 131073 W) (hs : Frame W zz s) :
    Frame W zz (State.setTimState s v) := by
  unfold State.setTimState
  try dsimp only
  repeat' (first
    | with_reducible exact hs
    | with_reducible assumption
    | with_reducible refine frame_ite ?_ ?_
    | with_reducible refine State.wf_frame (within_trans (by decide) hw) ?_
    | with_reducible refine State.raise_frame (within_trans (by decide) hw) ?_
    | split
    | dsimp only)

theorem State.applyMap_frame {W : Nat} {zz : State} {s : State} {m : MapNext} {t : Time} (hw : Within 4565112337 W) (hs : Frame W zz s) :
    Frame W zz (State.applyMap s m t) := by
  unfold State.applyMap
  try dsimp only
  repeat' (first
    | with_reducible exact hs
    | with_reducible assumption
    | with_reducible refine frame_ite ?_ ?_
    | with_reducible refine State.wf_frame (within_trans (by decide) hw) ?_
    | with_reducible refine State.wr64_frame (within_trans (by decide) hw) ?_
    | with_reducible refine State.countMod_frame (within_trans (by decide) hw) ?_
    | with_reducible refine State.raise_frame (within_trans (by decide) hw) ?_
    | with_reducible refine State.err_frame (within_trans (by decide) hw) ?_
    | with_reducible refine State.sysMark_frame (within_trans (by decide) hw) ?_
    | with_reducible refine State.publish_frame (within_trans (by decide) hw) ?_
    | with_reducible refine State.setTimState_frame (within_trans (by decide) hw) ?_
    | ((conv => arg 3; arg 34); with_reducible apply frame_mk)
    | exact fun b => absurd (hw _ b) (by decide)
    | with_reducible exact fun _ => rfl
    | ((with_reducible show NonVol.identity _ = NonVol.identity _); rfl)
    | split
    | dsimp only)

theorem State.mapFormed_frame {W : Nat} {zz : State} {s : State} {m0 : MapNext} (hw : Within 4565112337 W) (hs : Frame W zz s) :
    Frame W zz (State.mapFormed s m0) := by
  unfold State.mapFormed
  try dsimp only
  repeat' (first
    | with_reducible exact hs
    | with_reducible assumption
    | with_reducible refine frame_ite ?_ ?_
    | with_reducible refine State.copyItem_frame (within_trans (by decide) hw) ?_
    | with_reducible refine State.applyMap_frame (within_trans (by decide) hw) ?_
    | ((conv => arg 3; arg 34); with_reducible apply frame_mk)
    | exact fun b => absurd (hw _ b) (by decide)
    | with_reducible exact fun _ => rfl
    | ((with_reducible show NonVol.identity _ = NonVol.identity _); rfl)
    | split
    | dsimp only)

theorem State.tellState_frame {W : Nat} {zz : State} {s : State} (hw : Within 4565112337 W) (hs : Frame W zz s) :
    Frame W zz (State.tellState s) := by
  unfold State.tellState
  try dsimp only
  repeat' (first
    | with_reducible exact hs
    | with_reducible assumption
    | with_reducible refine frame_ite ?_ ?_
    | with_reducible refine State.copyItem_frame (within_trans (by decide) hw) ?_
    | with_reducible refine State.publish_frame (within_trans (by decide) hw) ?_
    | with_reducible refine State.emitTimeMap_frame (within_trans (by decide) hw) ?_
    | ((conv => arg 3; arg 34); with_reducible apply frame_mk)
    | exact fun b => absurd (hw _ b) (by decide)
    | with_reducible exact fun _ => rfl
    | ((with_reducible show NonVol.identity _ = NonVol.identity _); rfl)
    | split
    | dsimp only)

theorem State.mapBoundary_frame {W : Nat} {zz : State} {s : State} (hw : Within 4565112337 W) (hs : Frame W zz s) :
    Frame W zz (State.mapBoundary s) := by
  unfold State.mapBoundary
  try dsimp only
  repeat' (first
    | with_reducible exact hs
    | with_reducible assumption
    | with_reducible refine frame_ite ?_ ?_
    | with_reducible refine State.publish_frame (within_trans (by decide) hw) ?_
    | with_reducible refine State.applyMap_frame (within_trans (by decide) hw) ?_
    | (with_reducible refine frame_foldl ?_ ?_) | (with_reducible refine frame_foldl_fst ?_ ?_) | (with_reducible refine frame_foldl_snd ?_ ?_) | (intro _ _ _)
    | ((conv => arg 3; arg 34); with_reducible apply frame_mk)
    | exact fun b => absurd (hw _ b) (by decide)
    | with_reducible exact fun _ => rfl
    | ((with_reducible show NonVol.identity _ = NonVol.identity _); rfl)
    | split
    | dsimp only)

theorem State.ptpBind_frame {W : Nat} {zz : State} {s : State} {p : Nat} (hw : Within 1 W) (hs : Frame W zz s) :
    Frame W zz (State.ptpBind s p) := by
  unfold State.ptpBind
  try dsimp only
  repeat' (first
    | with_reducible exact hs
    | with_reducible assumption
    | with_reducible refine frame_ite ?_ ?_
    | with_reducible refine State.wf_frame (within_trans (by decide) hw) ?_
    | dsimp only)

theorem State.ptpTake_frame {W : Nat} {zz : State} {s : State} {m : Master} (hw : Within 4565112337 W) (hs : Frame W zz s) :
    Frame W zz (State.ptpTake s m) := by
  unfold State.ptpTake
  try dsimp only
  repeat' (first
    | with_reducible exact hs
    | with_reducible assumption
    | with_reducible refine frame_ite ?_ ?_
    | with_reducible refine State.wf_frame (within_trans (by decide) hw) ?_
    | with_reducible refine State.wr64_frame (within_trans (by decide) hw) ?_
    | with_reducible refine State.count_frame (within_trans (by decide) hw) ?_
    | with_reducible refine State.setTimState_frame (within_trans (by decide) hw) ?_
    | with_reducible refine State.tellState_frame (within_trans (by decide) hw) ?_
    | with_reducible refine State.ptpBind_frame (within_trans (by decide) hw) ?_
    | ((conv => arg 3; arg 34); with_reducible apply frame_mk)
    | exact fun b => absurd (hw _ b) (by decide)
    | with_reducible exact fun _ => rfl
    | ((with_reducible show NonVol.identity _ = NonVol.identity _); rfl)
    | split
    | dsimp only)

theorem State.ptpSelect_frame {W : Nat} {zz : State} {s : State} (hw : Within 4565112337 W) (hs : Frame W zz s) :
    Frame W zz (State.ptpSelect s) := by
  unfold State.ptpSelect
  try dsimp only
  repeat' (first
    | with_reducible exact hs
    | with_reducible assumption
    | with_reducible refine frame_ite ?_ ?_
    | with_reducible refine State.ptpTake_frame (within_trans (by decide) hw) ?_
    | ((conv => arg 3; arg 34); with_reducible apply frame_mk)
    | exact fun b => absurd (hw _ b) (by decide)
    | with_reducible exact fun _ => rfl
    | ((with_reducible show NonVol.identity _ = NonVol.identity _); rfl)
    | split
    | dsimp only)

theorem opPtpAnnounce_frame {W : Nat} {zz : State} {a : Announce} {s : State} (hw : Within 4565112337 W) (hs : Frame W zz s) :
    Frame W zz (opPtpAnnounce a s) := by
  unfold opPtpAnnounce
  try dsimp only
  repeat' (first
    | with_reducible exact hs
    | with_reducible assumption
    | with_reducible refine frame_ite ?_ ?_
    | with_reducible refine State.count_frame (within_trans (by decide) hw) ?_
    | with_reducible refine State.ptpTake_frame (within_trans (by decide) hw) ?_
    | with_reducible refine State.ptpSelect_frame (within_trans (by decide) hw) ?_
    | ((conv => arg 3; arg 34); with_reducible apply frame_mk)
    | exact fun b => absurd (hw _ b) (by decide)
    | with_reducible exact fun _ => rfl
    | ((with_reducible show NonVol.identity _ = NonVol.identity _); rfl)
    | split
    | dsimp only)

theorem opAnnTimeout_frame {W : Nat} {zz : State} {s : State} (hw : Within 4565112337 W) (hs : Frame W zz s) :
    Frame W zz (opAnnTimeout s) := by
  unfold opAnnTimeout
  try dsimp only
  repeat' (first
    | with_reducible exact hs
    | with_reducible assumption
    | with_reducible refine frame_ite ?_ ?_
    | with_reducible refine State.wf_frame (within_trans (by decide) hw) ?_
    | with_reducible refine State.count_frame (within_trans (by decide) hw) ?_
    | with_reducible refine State.err_frame (within_trans (by decide) hw) ?_
    | with_reducible refine State.setTimState_frame (within_trans (by decide) hw) ?_
    | with_reducible refine State.tellState_frame (within_trans (by decide) hw) ?_
    | with_reducible refine State.ptpSelect_frame (within_trans (by decide) hw) ?_
    | ((conv => arg 3; arg 34); with_reducible apply frame_mk)
    | exact fun b => absurd (hw _ b) (by decide)
    | with_reducible exact fun _ => rfl
    | ((with_reducible show NonVol.identity _ = NonVol.identity _); rfl)
    | split
    | dsimp only)

theorem opPtpSync_frame {W : Nat} {zz : State} {m : PtpHead} {ip origin : Nat} {corr : Int} {arr : Nat} {twoStep : Bool} {s : State} (hw : Within 1572881 W) (hs : Frame W zz s) :
    Frame W zz (opPtpSync m ip origin corr arr twoStep s) := by
  unfold opPtpSync
  try dsimp only
  repeat' (first
    | with_reducible exact hs
    | with_reducible assumption
    | with_reducible refine frame_ite ?_ ?_
    | with_reducible refine State.count_frame (within_trans (by decide) hw) ?_
    | ((conv => arg 3; arg 34); with_reducible apply frame_mk)
    | exact fun b => absurd (hw _ b) (by decide)
    | with_reducible exact fun _ => rfl
    | ((with_reducible show NonVol.identity _ = NonVol.identity _); rfl)
    | split
    | dsimp only)

theorem opPtpFollowUp_frame {W : Nat} {zz : State} {m : PtpHead} {origin : Nat} {corr : Int} {s : State} (hw : Within 1572881 W) (hs : Frame W zz s) :
    Frame W zz (opPtpFollowUp m origin corr s) := by
  unfold opPtpFollowUp
  try dsimp only
  repeat' (first
    | with_reducible exact hs
    | with_reducible assumption
    | with_reducible refine frame_ite ?_ ?_
    | with_reducible refine State.count_frame (within_trans (by decide) hw) ?_
    | ((conv => arg 3; arg 34); with_reducible apply frame_mk)
    | exact fun b => absurd (hw _ b) (by decide)
    | with_reducible exact fun _ => rfl
    | ((with_reducible show NonVol.identity _ = NonVol.identity _); rfl)
    | split
    | dsimp only)

theorem opDelayReq_frame {W : Nat} {zz : State} {t3 : Nat} {s : State} (hw : Within 4296540177 W) (hs : Frame W zz s) :
    Frame W zz (opDelayReq t3 s) := by
  unfold opDelayReq
  try dsimp only
  repeat' (first
    | with_reducible exact hs
    | with_reducible assumption
    | with_reducible refine frame_ite ?_ ?_
    | with_reducible refine State.txFrame_frame (within_trans (by decide) hw) ?_
    | ((conv => arg 3; arg 34); with_reducible apply frame_mk)
    | exact fun b => absurd (hw _ b) (by decide)
    | with_reducible exact fun _ => rfl
    | ((with_reducible show NonVol.identity _ = NonVol.identity _); rfl)
    | split
    | dsimp only)

theorem opDelayRespMiss_frame {W : Nat} {zz : State} {s : State} (hw : Within 1572881 W) (hs : Frame W zz s) :
    Frame W zz (opDelayRespMiss s) := by
  unfold opDelayRespMiss
  try dsimp only
  repeat' (first
    | with_reducible exact hs
    | with_reducible assumption
    | with_reducible refine frame_ite ?_ ?_
    | with_reducible refine State.count_frame (within_trans (by decide) hw) ?_
    | ((conv => arg 3; arg 34); with_reducible apply frame_mk)
    | exact fun b => absurd (hw _ b) (by decide)
    | with_reducible exact fun _ => rfl
    | ((with_reducible show NonVol.identity _ = NonVol.identity _); rfl)
    | split
    | dsimp only)

theorem State.measured_frame {W : Nat} {zz : State} {s : State} {mpd off : Int} (hw : Within 4565112337 W) (hs : Frame W zz s) :
    Frame W zz (State.measured s mpd off) := by
  unfold State.measured
  try dsimp only
  repeat' (first
    | with_reducible exact hs
    | with_reducible assumption
    | with_reducible refine frame_ite ?_ ?_
    | with_reducible refine State.wr_frame (within_trans (by decide) hw) ?_
    | with_reducible refine State.applyMap_frame (within_trans (by decide) hw) ?_
    | with_reducible refine State.mapFormed_frame (within_trans (by decide) hw) ?_
    | ((conv => arg 3; arg 34); with_reducible apply frame_mk)
    | exact fun b => absurd (hw _ b) (by decide)
    | with_reducible exact fun _ => rfl
    | ((with_reducible show NonVol.identity _ = NonVol.identity _); rfl)
    | split
    | dsimp only)

theorem opDelayResp_frame {W : Nat} {zz : State} {m : PtpHead} {received : Nat} {corr : Int} {interval : Int} {s : State} (hw : Within 4565112337 W) (hs : Frame W zz s) :
    Frame W zz (opDelayResp m received corr interval s) := by
  unfold opDelayResp
  try dsimp only
  repeat' (first
    | with_reducible exact hs
    | with_reducible assumption
    | with_reducible refine frame_ite ?_ ?_
    | with_reducible refine State.count_frame (within_trans (by decide) hw) ?_
    | with_reducible refine State.measured_frame (within_trans (by decide) hw) ?_
    | ((conv => arg 3; arg 34); with_reducible apply frame_mk)
    | exact fun b => absurd (hw _ b) (by decide)
    | with_reducible exact fun _ => rfl
    | ((with_reducible show NonVol.identity _ = NonVol.identity _); rfl)
    | split
    | dsimp only)

theorem opMappingUpdate_frame {W : Nat} {zz : State} {ratio : Nat} {s : State} (hw : Within 4565112337 W) (hs : Frame W zz s) :
    Frame W zz (opMappingUpdate ratio s) := by
  unfold opMappingUpdate
  try dsimp only
  repeat' (first
    | with_reducible exact hs
    | with_reducible assumption
    | with_reducible refine frame_ite ?_ ?_
    | with_reducible refine State.fresh_frame (within_trans (by decide) hw) ?_
    | with_reducible refine State.mapFormed_frame (within_trans (by decide) hw) ?_
    | ((conv => arg 3; arg 34); with_reducible apply frame_mk)
    | exact fun b => absurd (hw _ b) (by decide)
    | with_reducible exact fun _ => rfl
    | ((with_reducible show NonVol.identity _ = NonVol.identity _); rfl)
    | split
    | dsimp only)

theorem opRestep_frame {W : Nat} {zz : State} {x : Nat} {s : State} (hw : Within 131073 W) (hs : Frame W zz s) :
    Frame W zz (opRestep x s) := by
  unfold opRestep
  try dsimp only
  repeat' (first
    | with_reducible exact hs
    | with_reducible assumption
    | with_reducible refine frame_ite ?_ ?_
    | with_reducible refine State.wf_frame (within_trans (by decide) hw) ?_
    | with_reducible refine State.err_frame (within_trans (by decide) hw) ?_
    | split
    | dsimp only)

end Sys2Proof.Machine
end

