-- ==== Sys2Proof/Laws/FrameUplink.lean ====
section
/-!
SUPPORT. The frame of each operation of Machine/Uplink.lean.
-/

set_option maxRecDepth 4000

namespace Sys2Proof.Machine

set_option linter.all false
set_option Elab.async false

theorem State.gratuitousArp_frame {W : Nat} {zz : State} {s : State} {p : Nat} (hw : Within 4296015889 W) (hs : Frame W zz s) :
    Frame W zz (State.gratuitousArp s p) := by
  unfold State.gratuitousArp
  try dsimp only
  repeat' (first
    | with_reducible exact hs
    | with_reducible assumption
    | with_reducible refine frame_ite ?_ ?_
    | with_reducible refine State.txFrame_frame (within_trans (by decide) hw) ?_
    | split
    | dsimp only)

theorem State.takeAddress_frame {W : Nat} {zz : State} {s : State} (hw : Within 262145 W) (hs : Frame W zz s) :
    Frame W zz (State.takeAddress s) := by
  unfold State.takeAddress
  try dsimp only
  repeat' (first
    | with_reducible exact hs
    | with_reducible assumption
    | with_reducible refine frame_ite ?_ ?_
    | with_reducible refine State.wr_frame (within_trans (by decide) hw) ?_
    | ((conv => arg 3; arg 34); with_reducible apply frame_mk)
    | exact fun b => absurd (hw _ b) (by decide)
    | with_reducible exact fun _ => rfl
    | ((with_reducible show NonVol.identity _ = NonVol.identity _); rfl)
    | split
    | dsimp only)

theorem State.budgetChange_frame {W : Nat} {zz : State} {s : State} {two : Bool} (hw : Within 4563665920 W) (hs : Frame W zz s) :
    Frame W zz (State.budgetChange s two) := by
  unfold State.budgetChange
  try dsimp only
  repeat' (first
    | with_reducible exact hs
    | with_reducible assumption
    | with_reducible refine frame_ite ?_ ?_
    | with_reducible refine State.copyItem_frame (within_trans (by decide) hw) ?_
    | ((conv => arg 3; arg 34); with_reducible apply frame_mk)
    | exact fun b => absurd (hw _ b) (by decide)
    | with_reducible exact fun _ => rfl
    | ((with_reducible show NonVol.identity _ = NonVol.identity _); rfl)
    | split
    | dsimp only)

theorem State.portDown_frame {W : Nat} {zz : State} {s : State} {p : Nat} (hw : Within 4565374481 W) (hs : Frame W zz s) :
    Frame W zz (State.portDown s p) := by
  unfold State.portDown
  try dsimp only
  repeat' (first
    | with_reducible exact hs
    | with_reducible assumption
    | with_reducible refine frame_ite ?_ ?_
    | with_reducible refine State.wf_frame (within_trans (by decide) hw) ?_
    | with_reducible refine State.count_frame (within_trans (by decide) hw) ?_
    | with_reducible refine State.raise_frame (within_trans (by decide) hw) ?_
    | with_reducible refine State.err_frame (within_trans (by decide) hw) ?_
    | with_reducible refine State.ptpSelect_frame (within_trans (by decide) hw) ?_
    | with_reducible refine State.gratuitousArp_frame (within_trans (by decide) hw) ?_
    | with_reducible refine State.budgetChange_frame (within_trans (by decide) hw) ?_
    | ((conv => arg 3; arg 34); with_reducible apply frame_mk)
    | exact fun b => absurd (hw _ b) (by decide)
    | with_reducible exact fun _ => rfl
    | ((with_reducible show NonVol.identity _ = NonVol.identity _); rfl)
    | split
    | dsimp only)

theorem State.portCheck_frame {W : Nat} {zz : State} {s : State} {p : Nat} (hw : Within 4565374481 W) (hs : Frame W zz s) :
    Frame W zz (State.portCheck s p) := by
  unfold State.portCheck
  try dsimp only
  repeat' (first
    | with_reducible exact hs
    | with_reducible assumption
    | with_reducible refine frame_ite ?_ ?_
    | with_reducible refine State.portDown_frame (within_trans (by decide) hw) ?_
    | ((conv => arg 3; arg 34); with_reducible apply frame_mk)
    | exact fun b => absurd (hw _ b) (by decide)
    | with_reducible exact fun _ => rfl
    | ((with_reducible show NonVol.identity _ = NonVol.identity _); rfl)
    | split
    | dsimp only)

theorem opPortInService_frame {W : Nat} {zz : State} {p : Nat} {s : State} (hw : Within 4564845585 W) (hs : Frame W zz s) :
    Frame W zz (opPortInService p s) := by
  unfold opPortInService
  try dsimp only
  repeat' (first
    | with_reducible exact hs
    | with_reducible assumption
    | with_reducible refine frame_ite ?_ ?_
    | with_reducible refine State.wf_frame (within_trans (by decide) hw) ?_
    | with_reducible refine State.raise_frame (within_trans (by decide) hw) ?_
    | with_reducible refine State.gratuitousArp_frame (within_trans (by decide) hw) ?_
    | with_reducible refine State.budgetChange_frame (within_trans (by decide) hw) ?_
    | ((conv => arg 3; arg 34); with_reducible apply frame_mk)
    | exact fun b => absurd (hw _ b) (by decide)
    | with_reducible exact fun _ => rfl
    | ((with_reducible show NonVol.identity _ = NonVol.identity _); rfl)
    | split
    | dsimp only)

theorem opUplinkBlockLock_frame {W : Nat} {zz : State} {p : Nat} {fec : Bool} {s : State} (hw : Within 4565374481 W) (hs : Frame W zz s) :
    Frame W zz (opUplinkBlockLock p fec s) := by
  unfold opUplinkBlockLock
  try dsimp only
  repeat' (first
    | with_reducible exact hs
    | with_reducible assumption
    | with_reducible refine frame_ite ?_ ?_
    | with_reducible refine State.wf_frame (within_trans (by decide) hw) ?_
    | with_reducible refine State.portCheck_frame (within_trans (by decide) hw) ?_
    | dsimp only)

theorem opPauseFrame_frame {W : Nat} {zz : State} {p : Nat} {s : State} (hw : Within 1048593 W) (hs : Frame W zz s) :
    Frame W zz (opPauseFrame p s) := by
  unfold opPauseFrame
  try dsimp only
  repeat' (first
    | with_reducible exact hs
    | with_reducible assumption
    | with_reducible refine frame_ite ?_ ?_
    | with_reducible refine State.count_frame (within_trans (by decide) hw) ?_
    | dsimp only)

theorem opFrameDropped_frame {W : Nat} {zz : State} {p : Nat} {why : FrameFault} {s : State} (hw : Within 1048593 W) (hs : Frame W zz s) :
    Frame W zz (opFrameDropped p why s) := by
  unfold opFrameDropped
  try dsimp only
  repeat' (first
    | with_reducible exact hs
    | with_reducible assumption
    | with_reducible refine frame_ite ?_ ?_
    | with_reducible refine State.count_frame (within_trans (by decide) hw) ?_
    | ((conv => arg 3; arg 34); with_reducible apply frame_mk)
    | exact fun b => absurd (hw _ b) (by decide)
    | with_reducible exact fun _ => rfl
    | ((with_reducible show NonVol.identity _ = NonVol.identity _); rfl)
    | split
    | dsimp only)

theorem opArpRequest_frame {W : Nat} {zz : State} {p senderMac senderIp targetIp : Nat} {s : State} (hw : Within 4296409105 W) (hs : Frame W zz s) :
    Frame W zz (opArpRequest p senderMac senderIp targetIp s) := by
  unfold opArpRequest
  try dsimp only
  repeat' (first
    | with_reducible exact hs
    | with_reducible assumption
    | with_reducible refine frame_ite ?_ ?_
    | with_reducible refine State.count_frame (within_trans (by decide) hw) ?_
    | with_reducible refine State.err_frame (within_trans (by decide) hw) ?_
    | with_reducible refine State.txFrame_frame (within_trans (by decide) hw) ?_
    | ((conv => arg 3; arg 34); with_reducible apply frame_mk)
    | exact fun b => absurd (hw _ b) (by decide)
    | with_reducible exact fun _ => rfl
    | ((with_reducible show NonVol.identity _ = NonVol.identity _); rfl)
    | split
    | dsimp only)

theorem opProbeEnd_frame {W : Nat} {zz : State} {s : State} (hw : Within 262145 W) (hs : Frame W zz s) :
    Frame W zz (opProbeEnd s) := by
  unfold opProbeEnd
  try dsimp only
  repeat' (first
    | with_reducible exact hs
    | with_reducible assumption
    | with_reducible refine frame_ite ?_ ?_
    | with_reducible refine State.wr_frame (within_trans (by decide) hw) ?_
    | ((conv => arg 3; arg 34); with_reducible apply frame_mk)
    | exact fun b => absurd (hw _ b) (by decide)
    | with_reducible exact fun _ => rfl
    | ((with_reducible show NonVol.identity _ = NonVol.identity _); rfl)
    | split
    | dsimp only)

theorem opIcmpEcho_frame {W : Nat} {zz : State} {p mac : Nat} {payload : List Byte} {s : State} (hw : Within 4296278033 W) (hs : Frame W zz s) :
    Frame W zz (opIcmpEcho p mac payload s) := by
  unfold opIcmpEcho
  try dsimp only
  repeat' (first
    | with_reducible exact hs
    | with_reducible assumption
    | with_reducible refine frame_ite ?_ ?_
    | with_reducible refine State.count_frame (within_trans (by decide) hw) ?_
    | with_reducible refine State.txFrame_frame (within_trans (by decide) hw) ?_
    | ((conv => arg 3; arg 34); with_reducible apply frame_mk)
    | exact fun b => absurd (hw _ b) (by decide)
    | with_reducible exact fun _ => rfl
    | ((with_reducible show NonVol.identity _ = NonVol.identity _); rfl)
    | split
    | dsimp only)

theorem opEsmc_frame {W : Nat} {zz : State} {p level : Nat} {s : State} (hw : Within 1441809 W) (hs : Frame W zz s) :
    Frame W zz (opEsmc p level s) := by
  unfold opEsmc
  try dsimp only
  repeat' (first
    | with_reducible exact hs
    | with_reducible assumption
    | with_reducible refine frame_ite ?_ ?_
    | with_reducible refine State.wr_frame (within_trans (by decide) hw) ?_
    | with_reducible refine State.count_frame (within_trans (by decide) hw) ?_
    | with_reducible refine State.raise_frame (within_trans (by decide) hw) ?_
    | ((conv => arg 3; arg 34); with_reducible apply frame_mk)
    | exact fun b => absurd (hw _ b) (by decide)
    | with_reducible exact fun _ => rfl
    | ((with_reducible show NonVol.identity _ = NonVol.identity _); rfl)
    | split
    | dsimp only)

theorem opSsmExpiry_frame {W : Nat} {zz : State} {p : Nat} {s : State} (hw : Within 131073 W) (hs : Frame W zz s) :
    Frame W zz (opSsmExpiry p s) := by
  unfold opSsmExpiry
  try dsimp only
  repeat' (first
    | with_reducible exact hs
    | with_reducible assumption
    | with_reducible refine frame_ite ?_ ?_
    | with_reducible refine State.wf_frame (within_trans (by decide) hw) ?_
    | with_reducible refine State.raise_frame (within_trans (by decide) hw) ?_
    | split
    | dsimp only)

theorem State.authFail_frame {W : Nat} {zz : State} {s : State} (hw : Within 1179665 W) (hs : Frame W zz s) :
    Frame W zz (State.authFail s) := by
  unfold State.authFail
  try dsimp only
  repeat' (first
    | with_reducible exact hs
    | with_reducible assumption
    | with_reducible refine frame_ite ?_ ?_
    | with_reducible refine State.count_frame (within_trans (by decide) hw) ?_
    | with_reducible refine State.raise_frame (within_trans (by decide) hw) ?_
    | with_reducible refine State.err_frame (within_trans (by decide) hw) ?_
    | dsimp only)

theorem State.answer_frame {W : Nat} {zz : State} {s : State} {x seq type : Nat} {body : List Byte} (hw : Within 4296146961 W) (hs : Frame W zz s) :
    Frame W zz (State.answer s x seq type body) := by
  unfold State.answer
  try dsimp only
  repeat' (first
    | with_reducible exact hs
    | with_reducible assumption
    | with_reducible refine frame_ite ?_ ?_
    | with_reducible refine State.onSession_frame (within_trans (by decide) hw) ?_
    | with_reducible refine State.sendMsg_frame (within_trans (by decide) hw) ?_
    | ((conv => arg 3; arg 34); with_reducible apply frame_mk)
    | exact fun b => absurd (hw _ b) (by decide)
    | with_reducible exact fun _ => rfl
    | ((with_reducible show NonVol.identity _ = NonVol.identity _); rfl)
    | split
    | dsimp only)

theorem State.answerHeld_frame {W : Nat} {zz : State} {s : State} {x seq type : Nat} {body : List Byte} (hw : Within 4564582417 W) (hs : Frame W zz s) :
    Frame W zz (State.answerHeld s x seq type body) := by
  unfold State.answerHeld
  try dsimp only
  repeat' (first
    | with_reducible exact hs
    | with_reducible assumption
    | with_reducible refine frame_ite ?_ ?_
    | with_reducible refine State.onSession_frame (within_trans (by decide) hw) ?_
    | with_reducible refine State.answer_frame (within_trans (by decide) hw) ?_
    | ((conv => arg 3; arg 34); with_reducible apply frame_mk)
    | exact fun b => absurd (hw _ b) (by decide)
    | with_reducible exact fun _ => rfl
    | ((with_reducible show NonVol.identity _ = NonVol.identity _); rfl)
    | split
    | dsimp only)

theorem State.slzReceive_frame {W : Nat} {zz : State} {s : State} {type : Nat} {m : SlzMsg} {okBody : List Byte → Bool}
    {run : State → State × Nat × List Byte} {hold : Bool} (hw : Within 4564582417 W) (hs : Frame W zz s) (hrun_ : ∀ x0_, Frame W zz x0_ → Frame W zz (run x0_).1) :
    Frame W zz (State.slzReceive s type m okBody run hold) := by
  unfold State.slzReceive
  try dsimp only
  repeat' (first
    | with_reducible exact hs
    | with_reducible assumption
    | with_reducible refine frame_ite ?_ ?_
    | with_reducible apply hrun_
    | with_reducible refine State.count_frame (within_trans (by decide) hw) ?_
    | with_reducible refine State.onSession_frame (within_trans (by decide) hw) ?_
    | with_reducible refine State.sendBare_frame (within_trans (by decide) hw) ?_
    | with_reducible refine State.sendMsg_frame (within_trans (by decide) hw) ?_
    | with_reducible refine State.authFail_frame (within_trans (by decide) hw) ?_
    | with_reducible refine State.answer_frame (within_trans (by decide) hw) ?_
    | with_reducible refine State.answerHeld_frame (within_trans (by decide) hw) ?_
    | ((conv => arg 3; arg 34); with_reducible apply frame_mk)
    | exact fun b => absurd (hw _ b) (by decide)
    | with_reducible exact fun _ => rfl
    | ((with_reducible show NonVol.identity _ = NonVol.identity _); rfl)
    | split
    | dsimp only)

theorem State.endSession_frame {W : Nat} {zz : State} {s : State} {x : Nat} (hw : Within 4563535361 W) (hs : Frame W zz s) :
    Frame W zz (State.endSession s x) := by
  unfold State.endSession
  try dsimp only
  repeat' (first
    | with_reducible exact hs
    | with_reducible assumption
    | with_reducible refine frame_ite ?_ ?_
    | with_reducible refine State.raise_frame (within_trans (by decide) hw) ?_
    | with_reducible refine State.laneOp_frame (within_trans (by decide) hw) ?_
    | (with_reducible refine frame_iter ?_ ?_) | (with_reducible refine frame_iter_fst ?_ ?_) | (intro _ _ _)
    | ((conv => arg 3; arg 34); with_reducible apply frame_mk)
    | exact fun b => absurd (hw _ b) (by decide)
    | with_reducible exact fun _ => rfl
    | ((with_reducible show NonVol.identity _ = NonVol.identity _); rfl)
    | split
    | dsimp only)

theorem opSessOpen_frame {W : Nat} {zz : State} {m : SlzMsg} {s : State} (hw : Within 5101454865 W) (hs : Frame W zz s) :
    Frame W zz (opSessOpen m s) := by
  unfold opSessOpen
  try dsimp only
  repeat' (first
    | with_reducible exact hs
    | with_reducible assumption
    | with_reducible refine frame_ite ?_ ?_
    | with_reducible refine State.count_frame (within_trans (by decide) hw) ?_
    | with_reducible refine State.raise_frame (within_trans (by decide) hw) ?_
    | with_reducible refine State.sendBare_frame (within_trans (by decide) hw) ?_
    | with_reducible refine State.authFail_frame (within_trans (by decide) hw) ?_
    | with_reducible refine State.answer_frame (within_trans (by decide) hw) ?_
    | with_reducible refine State.endSession_frame (within_trans (by decide) hw) ?_
    | ((conv => arg 3; arg 34); with_reducible apply frame_mk)
    | exact fun b => absurd (hw _ b) (by decide)
    | with_reducible exact fun _ => rfl
    | ((with_reducible show NonVol.identity _ = NonVol.identity _); rfl)
    | split
    | dsimp only)

theorem opSessClose_frame {W : Nat} {zz : State} {m : SlzMsg} {s : State} (hw : Within 4564583953 W) (hs : Frame W zz s) :
    Frame W zz (opSessClose m s) := by
  unfold opSessClose
  try dsimp only
  repeat' (first
    | with_reducible exact hs
    | with_reducible assumption
    | with_reducible refine frame_ite ?_ ?_
    | with_reducible refine State.sendMsg_frame (within_trans (by decide) hw) ?_
    | with_reducible refine State.slzReceive_frame (within_trans (by decide) hw) ?_ ?_
    | with_reducible refine State.endSession_frame (within_trans (by decide) hw) ?_
    | intro _ _ _
    | intro _ _
    | dsimp only)

theorem opSessKeepalive_frame {W : Nat} {zz : State} {m : SlzMsg} {s : State} (hw : Within 4564582417 W) (hs : Frame W zz s) :
    Frame W zz (opSessKeepalive m s) := by
  unfold opSessKeepalive
  try dsimp only
  repeat' (first
    | with_reducible exact hs
    | with_reducible assumption
    | with_reducible refine frame_ite ?_ ?_
    | with_reducible refine State.slzReceive_frame (within_trans (by decide) hw) ?_ ?_
    | intro _ _ _
    | intro _ _
    | dsimp only)

theorem opSessCredit_frame {W : Nat} {zz : State} {m : SlzMsg} {s : State} (hw : Within 4564582417 W) (hs : Frame W zz s) :
    Frame W zz (opSessCredit m s) := by
  unfold opSessCredit
  try dsimp only
  repeat' (first
    | with_reducible exact hs
    | with_reducible assumption
    | with_reducible refine frame_ite ?_ ?_
    | with_reducible refine State.onSession_frame (within_trans (by decide) hw) ?_
    | with_reducible refine State.slzReceive_frame (within_trans (by decide) hw) ?_ ?_
    | intro _ _ _
    | intro _ _
    | ((conv => arg 3; arg 34); with_reducible apply frame_mk)
    | exact fun b => absurd (hw _ b) (by decide)
    | with_reducible exact fun _ => rfl
    | ((with_reducible show NonVol.identity _ = NonVol.identity _); rfl)
    | split
    | dsimp only)

theorem opKeepaliveSend_frame {W : Nat} {zz : State} {x : Nat} {s : State} (hw : Within 4296146961 W) (hs : Frame W zz s) :
    Frame W zz (opKeepaliveSend x s) := by
  unfold opKeepaliveSend
  try dsimp only
  repeat' (first
    | with_reducible exact hs
    | with_reducible assumption
    | with_reducible refine frame_ite ?_ ?_
    | with_reducible refine State.sendMsg_frame (within_trans (by decide) hw) ?_
    | ((conv => arg 3; arg 34); with_reducible apply frame_mk)
    | exact fun b => absurd (hw _ b) (by decide)
    | with_reducible exact fun _ => rfl
    | ((with_reducible show NonVol.identity _ = NonVol.identity _); rfl)
    | split
    | dsimp only)

theorem opSessionExpiry_frame {W : Nat} {zz : State} {x : Nat} {s : State} (hw : Within 4564583953 W) (hs : Frame W zz s) :
    Frame W zz (opSessionExpiry x s) := by
  unfold opSessionExpiry
  try dsimp only
  repeat' (first
    | with_reducible exact hs
    | with_reducible assumption
    | with_reducible refine frame_ite ?_ ?_
    | with_reducible refine State.count_frame (within_trans (by decide) hw) ?_
    | with_reducible refine State.err_frame (within_trans (by decide) hw) ?_
    | with_reducible refine State.endSession_frame (within_trans (by decide) hw) ?_
    | ((conv => arg 3; arg 34); with_reducible apply frame_mk)
    | exact fun b => absurd (hw _ b) (by decide)
    | with_reducible exact fun _ => rfl
    | ((with_reducible show NonVol.identity _ = NonVol.identity _); rfl)
    | split
    | dsimp only)

theorem State.popSome_frame {W : Nat} {zz : State} {s : State} {x sp lane : Nat} {one : Bool} {l : List Ecc} {n : Nat}
    (hw : Within 4564583953 W) (hs : Frame W zz s) : Frame W zz (s.popSome x sp lane one l n).1 := by
  induction l generalizing s n with
  | nil => exact hs
  | cons e es ih =>
    unfold State.popSome
    split
    · exact hs
    · rename_i k it s1 he
      have h1 : Frame W zz s1 := State.popItem_frame' he (within_trans (by decide) hw) hs
      dsimp only
      refine frame_ite_fst (ih ?_) hs
      exact State.onSession_frame (within_trans (by decide) hw) h1

theorem State.spoolOp_frame {W : Nat} {zz : State} {s : State} {op : Nat} {m : SlzMsg} {ecc : List Ecc} (hw : Within 4564583953 W) (hs : Frame W zz s) :
    Frame W zz (State.spoolOp s op m ecc) := by
  unfold State.spoolOp
  try dsimp only
  repeat' (first
    | with_reducible exact hs
    | with_reducible assumption
    | with_reducible refine frame_ite ?_ ?_
    | with_reducible refine frame_ite_fst ?_ ?_
    | with_reducible refine frame_ite_snd ?_ ?_
    | with_reducible refine frame_ite_snd2 ?_ ?_
    | with_reducible refine State.err_frame (within_trans (by decide) hw) ?_
    | with_reducible refine State.laneOp_frame (within_trans (by decide) hw) ?_
    | with_reducible refine State.slzReceive_frame (within_trans (by decide) hw) ?_ ?_
    | with_reducible refine State.popSome_frame (within_trans (by decide) hw) ?_
    | intro _ _ _
    | intro _ _
    | split
    | dsimp only)

theorem State.growAllow_frame {W : Nat} {zz : State} {s : State} (hw : Within 262144 W) (hs : Frame W zz s) :
    Frame W zz (State.growAllow s) := by
  unfold State.growAllow
  try dsimp only
  repeat' (first
    | with_reducible exact hs
    | with_reducible assumption
    | with_reducible refine frame_ite ?_ ?_
    | (with_reducible refine frame_foldl ?_ ?_) | (with_reducible refine frame_foldl_fst ?_ ?_) | (with_reducible refine frame_foldl_snd ?_ ?_) | (intro _ _ _)
    | ((conv => arg 3; arg 34); with_reducible apply frame_mk)
    | exact fun b => absurd (hw _ b) (by decide)
    | with_reducible exact fun _ => rfl
    | ((with_reducible show NonVol.identity _ = NonVol.identity _); rfl)
    | dsimp only)

theorem State.sendChunk_frame {W : Nat} {zz : State} {s : State} {x sp : Nat} (hw : Within 4296409105 W) (hs : Frame W zz s) :
    Frame W zz (State.sendChunk s x sp) := by
  unfold State.sendChunk
  try dsimp only
  repeat' (first
    | with_reducible exact hs
    | with_reducible assumption
    | with_reducible refine frame_ite ?_ ?_
    | with_reducible refine State.onSession_frame (within_trans (by decide) hw) ?_
    | with_reducible refine State.sendMsg_frame (within_trans (by decide) hw) ?_
    | ((conv => arg 3; arg 34); with_reducible apply frame_mk)
    | exact fun b => absurd (hw _ b) (by decide)
    | with_reducible exact fun _ => rfl
    | ((with_reducible show NonVol.identity _ = NonVol.identity _); rfl)
    | split
    | dsimp only)

theorem opItemSend_frame {W : Nat} {zz : State} {p : Nat} {ecc : Ecc} {s : State} (hw : Within 4564846097 W) (hs : Frame W zz s) :
    Frame W zz (opItemSend p ecc s) := by
  unfold opItemSend
  try dsimp only
  repeat' (first
    | with_reducible exact hs
    | with_reducible assumption
    | with_reducible refine frame_ite ?_ ?_
    | with_reducible refine frame_ite_fst ?_ ?_
    | with_reducible refine frame_ite_snd ?_ ?_
    | with_reducible refine frame_ite_snd2 ?_ ?_
    | with_reducible refine State.onSession_frame (within_trans (by decide) hw) ?_
    | with_reducible refine State.popItem_frame (within_trans (by decide) hw) ?_
    | with_reducible refine State.popItem_frame' (by assumption) (within_trans (by decide) hw) ?_
    | with_reducible refine State.growAllow_frame (within_trans (by decide) hw) ?_
    | with_reducible refine State.sendChunk_frame (within_trans (by decide) hw) ?_
    | ((conv => arg 3; arg 34); with_reducible apply frame_mk)
    | exact fun b => absurd (hw _ b) (by decide)
    | with_reducible exact fun _ => rfl
    | ((with_reducible show NonVol.identity _ = NonVol.identity _); rfl)
    | split
    | dsimp only)

theorem State.applyBudget_frame {W : Nat} {zz : State} {s : State} {two : Bool} (hw : Within 393729 W) (hs : Frame W zz s) :
    Frame W zz (State.applyBudget s two) := by
  unfold State.applyBudget
  try dsimp only
  repeat' (first
    | with_reducible exact hs
    | with_reducible assumption
    | with_reducible refine frame_ite ?_ ?_
    | with_reducible refine State.wf_frame (within_trans (by decide) hw) ?_
    | with_reducible refine State.raise_frame (within_trans (by decide) hw) ?_
    | with_reducible refine State.err_frame (within_trans (by decide) hw) ?_
    | with_reducible refine State.setLane_frame (within_trans (by decide) hw) ?_
    | with_reducible refine State.growAllow_frame (within_trans (by decide) hw) ?_
    | (with_reducible refine frame_iter ?_ ?_) | (with_reducible refine frame_iter_fst ?_ ?_) | (intro _ _ _)
    | ((conv => arg 3; arg 34); with_reducible apply frame_mk)
    | exact fun b => absurd (hw _ b) (by decide)
    | with_reducible exact fun _ => rfl
    | ((with_reducible show NonVol.identity _ = NonVol.identity _); rfl)
    | split
    | dsimp only)

theorem State.budgetBoundary_frame {W : Nat} {zz : State} {s : State} (hw : Within 393729 W) (hs : Frame W zz s) :
    Frame W zz (State.budgetBoundary s) := by
  unfold State.budgetBoundary
  try dsimp only
  repeat' (first
    | with_reducible exact hs
    | with_reducible assumption
    | with_reducible refine frame_ite ?_ ?_
    | with_reducible refine State.applyBudget_frame (within_trans (by decide) hw) ?_
    | ((conv => arg 3; arg 34); with_reducible apply frame_mk)
    | exact fun b => absurd (hw _ b) (by decide)
    | with_reducible exact fun _ => rfl
    | ((with_reducible show NonVol.identity _ = NonVol.identity _); rfl)
    | split
    | dsimp only)

theorem State.sendNotice_frame {W : Nat} {zz : State} {s : State} {x page : Nat} (hw : Within 4296146961 W) (hs : Frame W zz s) :
    Frame W zz (State.sendNotice s x page) := by
  unfold State.sendNotice
  try dsimp only
  repeat' (first
    | with_reducible exact hs
    | with_reducible assumption
    | with_reducible refine frame_ite ?_ ?_
    | with_reducible refine State.onSession_frame (within_trans (by decide) hw) ?_
    | with_reducible refine State.sendMsg_frame (within_trans (by decide) hw) ?_
    | ((conv => arg 3; arg 34); with_reducible apply frame_mk)
    | exact fun b => absurd (hw _ b) (by decide)
    | with_reducible exact fun _ => rfl
    | ((with_reducible show NonVol.identity _ = NonVol.identity _); rfl)
    | split
    | dsimp only)

theorem opNoticeSend_frame {W : Nat} {zz : State} {x page : Nat} {s : State} (hw : Within 4296146961 W) (hs : Frame W zz s) :
    Frame W zz (opNoticeSend x page s) := by
  unfold opNoticeSend
  try dsimp only
  repeat' (first
    | with_reducible exact hs
    | with_reducible assumption
    | with_reducible refine frame_ite ?_ ?_
    | with_reducible refine State.sendNotice_frame (within_trans (by decide) hw) ?_
    | ((conv => arg 3; arg 34); with_reducible apply frame_mk)
    | exact fun b => absurd (hw _ b) (by decide)
    | with_reducible exact fun _ => rfl
    | ((with_reducible show NonVol.identity _ = NonVol.identity _); rfl)
    | split
    | dsimp only)

theorem opNoticeHold_frame {W : Nat} {zz : State} {x page : Nat} {s : State} (hw : Within 4296146961 W) (hs : Frame W zz s) :
    Frame W zz (opNoticeHold x page s) := by
  unfold opNoticeHold
  try dsimp only
  repeat' (first
    | with_reducible exact hs
    | with_reducible assumption
    | with_reducible refine frame_ite ?_ ?_
    | with_reducible refine State.sendNotice_frame (within_trans (by decide) hw) ?_
    | ((conv => arg 3; arg 34); with_reducible apply frame_mk)
    | exact fun b => absurd (hw _ b) (by decide)
    | with_reducible exact fun _ => rfl
    | ((with_reducible show NonVol.identity _ = NonVol.identity _); rfl)
    | split
    | dsimp only)

theorem opNoticeRepeat_frame {W : Nat} {zz : State} {x : Nat} {s : State} (hw : Within 4296146961 W) (hs : Frame W zz s) :
    Frame W zz (opNoticeRepeat x s) := by
  unfold opNoticeRepeat
  try dsimp only
  repeat' (first
    | with_reducible exact hs
    | with_reducible assumption
    | with_reducible refine frame_ite ?_ ?_
    | with_reducible refine State.onSession_frame (within_trans (by decide) hw) ?_
    | with_reducible refine State.sendMsg_frame (within_trans (by decide) hw) ?_
    | (with_reducible refine frame_foldl ?_ ?_) | (with_reducible refine frame_foldl_fst ?_ ?_) | (with_reducible refine frame_foldl_snd ?_ ?_) | (intro _ _ _)
    | ((conv => arg 3; arg 34); with_reducible apply frame_mk)
    | exact fun b => absurd (hw _ b) (by decide)
    | with_reducible exact fun _ => rfl
    | ((with_reducible show NonVol.identity _ = NonVol.identity _); rfl)
    | split
    | dsimp only)

end Sys2Proof.Machine
end

