-- ==== Sys2Proof/Laws/FrameClock.lean ====
section
/-!
SUPPORT. The frame of each operation of Machine/Clock.lean.
-/

set_option maxRecDepth 4000

namespace Sys2Proof.Machine

set_option linter.all false
set_option Elab.async false

theorem State.setClk_frame {W : Nat} {zz : State} {s : State} {v : Nat} (hw : Within 1 W) (hs : Frame W zz s) :
    Frame W zz (State.setClk s v) := by
  unfold State.setClk
  try dsimp only
  repeat' (first
    | with_reducible exact hs
    | with_reducible assumption
    | with_reducible refine frame_ite ?_ ?_
    | with_reducible refine State.wf_frame (within_trans (by decide) hw) ?_
    | dsimp only)

theorem State.setReady_frame {W : Nat} {zz : State} {s : State} {n : Nat} {r : Bool} (hw : Within 139265 W) (hs : Frame W zz s) :
    Frame W zz (State.setReady s n r) := by
  unfold State.setReady
  try dsimp only
  repeat' (first
    | with_reducible exact hs
    | with_reducible assumption
    | with_reducible refine frame_ite ?_ ?_
    | with_reducible refine State.wr_frame (within_trans (by decide) hw) ?_
    | with_reducible refine State.wf_frame (within_trans (by decide) hw) ?_
    | with_reducible refine State.raise_frame (within_trans (by decide) hw) ?_
    | ((conv => arg 3; arg 34); with_reducible apply frame_mk)
    | exact fun b => absurd (hw _ b) (by decide)
    | with_reducible exact fun _ => rfl
    | ((with_reducible show NonVol.identity _ = NonVol.identity _); rfl)
    | split
    | dsimp only)

theorem State.enterHoldover_frame {W : Nat} {zz : State} {s : State} {lost : Nat} (hw : Within 4564596241 W) (hs : Frame W zz s) :
    Frame W zz (State.enterHoldover s lost) := by
  unfold State.enterHoldover
  try dsimp only
  repeat' (first
    | with_reducible exact hs
    | with_reducible assumption
    | with_reducible refine frame_ite ?_ ?_
    | with_reducible refine State.count_frame (within_trans (by decide) hw) ?_
    | with_reducible refine State.raise_frame (within_trans (by decide) hw) ?_
    | with_reducible refine State.err_frame (within_trans (by decide) hw) ?_
    | with_reducible refine State.sysMark_frame (within_trans (by decide) hw) ?_
    | with_reducible refine State.setClk_frame (within_trans (by decide) hw) ?_
    | ((conv => arg 3; arg 34); with_reducible apply frame_mk)
    | exact fun b => absurd (hw _ b) (by decide)
    | with_reducible exact fun _ => rfl
    | ((with_reducible show NonVol.identity _ = NonVol.identity _); rfl)
    | dsimp only)

theorem State.startSwitch_frame {W : Nat} {zz : State} {s : State} {n : Nat} (hw : Within 8193 W) (hs : Frame W zz s) :
    Frame W zz (State.startSwitch s n) := by
  unfold State.startSwitch
  try dsimp only
  repeat' (first
    | with_reducible exact hs
    | with_reducible assumption
    | with_reducible refine frame_ite ?_ ?_
    | with_reducible refine State.setClk_frame (within_trans (by decide) hw) ?_
    | ((conv => arg 3; arg 34); with_reducible apply frame_mk)
    | exact fun b => absurd (hw _ b) (by decide)
    | with_reducible exact fun _ => rfl
    | ((with_reducible show NonVol.identity _ = NonVol.identity _); rfl)
    | dsimp only)

theorem State.sourceLost_frame {W : Nat} {zz : State} {s : State} {n : Nat} (hw : Within 4564596241 W) (hs : Frame W zz s) :
    Frame W zz (State.sourceLost s n) := by
  unfold State.sourceLost
  try dsimp only
  repeat' (first
    | with_reducible exact hs
    | with_reducible assumption
    | with_reducible refine frame_ite ?_ ?_
    | with_reducible refine State.setClk_frame (within_trans (by decide) hw) ?_
    | with_reducible refine State.setReady_frame (within_trans (by decide) hw) ?_
    | with_reducible refine State.enterHoldover_frame (within_trans (by decide) hw) ?_
    | with_reducible refine State.startSwitch_frame (within_trans (by decide) hw) ?_
    | ((conv => arg 3; arg 34); with_reducible apply frame_mk)
    | exact fun b => absurd (hw _ b) (by decide)
    | with_reducible exact fun _ => rfl
    | ((with_reducible show NonVol.identity _ = NonVol.identity _); rfl)
    | split
    | dsimp only)

theorem State.takeSource_frame {W : Nat} {zz : State} {s : State} (hw : Within 8265 W) (hs : Frame W zz s) :
    Frame W zz (State.takeSource s) := by
  unfold State.takeSource
  try dsimp only
  repeat' (first
    | with_reducible exact hs
    | with_reducible assumption
    | with_reducible refine frame_ite ?_ ?_
    | with_reducible refine State.wr_frame (within_trans (by decide) hw) ?_
    | with_reducible refine State.wf_frame (within_trans (by decide) hw) ?_
    | with_reducible refine State.setClk_frame (within_trans (by decide) hw) ?_
    | with_reducible refine State.startSwitch_frame (within_trans (by decide) hw) ?_
    | ((conv => arg 3; arg 34); with_reducible apply frame_mk)
    | exact fun b => absurd (hw _ b) (by decide)
    | with_reducible exact fun _ => rfl
    | ((with_reducible show NonVol.identity _ = NonVol.identity _); rfl)
    | split
    | dsimp only)

theorem State.holdLn2_frame {W : Nat} {zz : State} {s : State} {h : Bool} (hw : Within 139337 W) (hs : Frame W zz s) :
    Frame W zz (State.holdLn2 s h) := by
  unfold State.holdLn2
  try dsimp only
  repeat' (first
    | with_reducible exact hs
    | with_reducible assumption
    | with_reducible refine frame_ite ?_ ?_
    | with_reducible refine State.wf_frame (within_trans (by decide) hw) ?_
    | with_reducible refine State.err_frame (within_trans (by decide) hw) ?_
    | with_reducible refine State.setReady_frame (within_trans (by decide) hw) ?_
    | with_reducible refine State.takeSource_frame (within_trans (by decide) hw) ?_
    | ((conv => arg 3; arg 34); with_reducible apply frame_mk)
    | exact fun b => absurd (hw _ b) (by decide)
    | with_reducible exact fun _ => rfl
    | ((with_reducible show NonVol.identity _ = NonVol.identity _); rfl)
    | split
    | dsimp only)

theorem opSynthTrouble_frame {W : Nat} {zz : State} {s : State} (hw : Within 8192 W) (hs : Frame W zz s) :
    Frame W zz (opSynthTrouble s) := by
  unfold opSynthTrouble
  try dsimp only
  repeat' (first
    | with_reducible exact hs
    | with_reducible assumption
    | with_reducible refine frame_ite ?_ ?_
    | ((conv => arg 3; arg 34); with_reducible apply frame_mk)
    | exact fun b => absurd (hw _ b) (by decide)
    | with_reducible exact fun _ => rfl
    | ((with_reducible show NonVol.identity _ = NonVol.identity _); rfl)
    | split
    | dsimp only)

theorem opSourceRecovers_frame {W : Nat} {zz : State} {s : State} (hw : Within 1056785 W) (hs : Frame W zz s) :
    Frame W zz (opSourceRecovers s) := by
  unfold opSourceRecovers
  try dsimp only
  repeat' (first
    | with_reducible exact hs
    | with_reducible assumption
    | with_reducible refine frame_ite ?_ ?_
    | with_reducible refine State.count_frame (within_trans (by decide) hw) ?_
    | ((conv => arg 3; arg 34); with_reducible apply frame_mk)
    | exact fun b => absurd (hw _ b) (by decide)
    | with_reducible exact fun _ => rfl
    | ((with_reducible show NonVol.identity _ = NonVol.identity _); rfl)
    | split
    | dsimp only)

theorem opClkSwitch_frame {W : Nat} {zz : State} {x n : Nat} {s : State} (hw : Within 139265 W) (hs : Frame W zz s) :
    Frame W zz (opClkSwitch x n s) := by
  unfold opClkSwitch
  try dsimp only
  repeat' (first
    | with_reducible exact hs
    | with_reducible assumption
    | with_reducible refine frame_ite ?_ ?_
    | with_reducible refine State.err_frame (within_trans (by decide) hw) ?_
    | with_reducible refine State.startSwitch_frame (within_trans (by decide) hw) ?_
    | split
    | dsimp only)

theorem State.switchDone_frame {W : Nat} {zz : State} {s : State} {timeout : Bool} (hw : Within 1187857 W) (hs : Frame W zz s) :
    Frame W zz (State.switchDone s timeout) := by
  unfold State.switchDone
  try dsimp only
  repeat' (first
    | with_reducible exact hs
    | with_reducible assumption
    | with_reducible refine frame_ite ?_ ?_
    | with_reducible refine State.wr_frame (within_trans (by decide) hw) ?_
    | with_reducible refine State.wf_frame (within_trans (by decide) hw) ?_
    | with_reducible refine State.wr64_frame (within_trans (by decide) hw) ?_
    | with_reducible refine State.count_frame (within_trans (by decide) hw) ?_
    | with_reducible refine State.raise_frame (within_trans (by decide) hw) ?_
    | with_reducible refine State.err_frame (within_trans (by decide) hw) ?_
    | with_reducible refine State.setClk_frame (within_trans (by decide) hw) ?_
    | ((conv => arg 3; arg 34); with_reducible apply frame_mk)
    | exact fun b => absurd (hw _ b) (by decide)
    | with_reducible exact fun _ => rfl
    | ((with_reducible show NonVol.identity _ = NonVol.identity _); rfl)
    | split
    | dsimp only)

theorem opRampStep_frame {W : Nat} {zz : State} {s : State} (hw : Within 8192 W) (hs : Frame W zz s) :
    Frame W zz (opRampStep s) := by
  unfold opRampStep
  try dsimp only
  repeat' (first
    | with_reducible exact hs
    | with_reducible assumption
    | with_reducible refine frame_ite ?_ ?_
    | ((conv => arg 3; arg 34); with_reducible apply frame_mk)
    | exact fun b => absurd (hw _ b) (by decide)
    | with_reducible exact fun _ => rfl
    | ((with_reducible show NonVol.identity _ = NonVol.identity _); rfl)
    | split
    | dsimp only)

theorem opRampComplete_frame {W : Nat} {zz : State} {pbo : Int} {s : State} (hw : Within 8257 W) (hs : Frame W zz s) :
    Frame W zz (opRampComplete pbo s) := by
  unfold opRampComplete
  try dsimp only
  repeat' (first
    | with_reducible exact hs
    | with_reducible assumption
    | with_reducible refine frame_ite ?_ ?_
    | with_reducible refine State.wr_frame (within_trans (by decide) hw) ?_
    | with_reducible refine State.setClk_frame (within_trans (by decide) hw) ?_
    | ((conv => arg 3; arg 34); with_reducible apply frame_mk)
    | exact fun b => absurd (hw _ b) (by decide)
    | with_reducible exact fun _ => rfl
    | ((with_reducible show NonVol.identity _ = NonVol.identity _); rfl)
    | split
    | dsimp only)

theorem opRevertHold_frame {W : Nat} {zz : State} {s : State} (hw : Within 8193 W) (hs : Frame W zz s) :
    Frame W zz (opRevertHold s) := by
  unfold opRevertHold
  try dsimp only
  repeat' (first
    | with_reducible exact hs
    | with_reducible assumption
    | with_reducible refine frame_ite ?_ ?_
    | with_reducible refine State.startSwitch_frame (within_trans (by decide) hw) ?_
    | ((conv => arg 3; arg 34); with_reducible apply frame_mk)
    | exact fun b => absurd (hw _ b) (by decide)
    | with_reducible exact fun _ => rfl
    | ((with_reducible show NonVol.identity _ = NonVol.identity _); rfl)
    | split
    | dsimp only)

theorem State.enterPark_frame {W : Nat} {zz : State} {s : State} {byClock : Bool} (hw : Within 4564661777 W) (hs : Frame W zz s) :
    Frame W zz (State.enterPark s byClock) := by
  unfold State.enterPark
  try dsimp only
  repeat' (first
    | with_reducible exact hs
    | with_reducible assumption
    | with_reducible refine frame_ite ?_ ?_
    | with_reducible refine State.wf_frame (within_trans (by decide) hw) ?_
    | with_reducible refine State.count_frame (within_trans (by decide) hw) ?_
    | with_reducible refine State.raise_frame (within_trans (by decide) hw) ?_
    | with_reducible refine State.err_frame (within_trans (by decide) hw) ?_
    | with_reducible refine State.sysMark_frame (within_trans (by decide) hw) ?_
    | with_reducible refine State.setUnit_frame (within_trans (by decide) hw) ?_
    | with_reducible refine State.setClk_frame (within_trans (by decide) hw) ?_
    | (with_reducible refine frame_iter ?_ ?_) | (with_reducible refine frame_iter_fst ?_ ?_) | (intro _ _ _)
    | ((conv => arg 3; arg 34); with_reducible apply frame_mk)
    | exact fun b => absurd (hw _ b) (by decide)
    | with_reducible exact fun _ => rfl
    | ((with_reducible show NonVol.identity _ = NonVol.identity _); rfl)
    | split
    | dsimp only)

theorem opHoldoverTimeout_frame {W : Nat} {zz : State} {s : State} (hw : Within 4564661777 W) (hs : Frame W zz s) :
    Frame W zz (opHoldoverTimeout s) := by
  unfold opHoldoverTimeout
  try dsimp only
  repeat' (first
    | with_reducible exact hs
    | with_reducible assumption
    | with_reducible refine frame_ite ?_ ?_
    | with_reducible refine State.enterPark_frame (within_trans (by decide) hw) ?_
    | ((conv => arg 3; arg 34); with_reducible apply frame_mk)
    | exact fun b => absurd (hw _ b) (by decide)
    | with_reducible exact fun _ => rfl
    | ((with_reducible show NonVol.identity _ = NonVol.identity _); rfl)
    | split
    | dsimp only)

theorem State.endPark_frame {W : Nat} {zz : State} {s : State} (hw : Within 4564596497 W) (hs : Frame W zz s) :
    Frame W zz (State.endPark s) := by
  unfold State.endPark
  try dsimp only
  repeat' (first
    | with_reducible exact hs
    | with_reducible assumption
    | with_reducible refine frame_ite ?_ ?_
    | with_reducible refine State.sysMark_frame (within_trans (by decide) hw) ?_
    | ((conv => arg 3; arg 34); with_reducible apply frame_mk)
    | exact fun b => absurd (hw _ b) (by decide)
    | with_reducible exact fun _ => rfl
    | ((with_reducible show NonVol.identity _ = NonVol.identity _); rfl)
    | dsimp only)

theorem opClkResume_frame {W : Nat} {zz : State} {s : State} (hw : Within 4564596497 W) (hs : Frame W zz s) :
    Frame W zz (opClkResume s) := by
  unfold opClkResume
  try dsimp only
  repeat' (first
    | with_reducible exact hs
    | with_reducible assumption
    | with_reducible refine frame_ite ?_ ?_
    | with_reducible refine State.endPark_frame (within_trans (by decide) hw) ?_
    | ((conv => arg 3; arg 34); with_reducible apply frame_mk)
    | exact fun b => absurd (hw _ b) (by decide)
    | with_reducible exact fun _ => rfl
    | ((with_reducible show NonVol.identity _ = NonVol.identity _); rfl)
    | split
    | dsimp only)

theorem State.parkBoundary_frame {W : Nat} {zz : State} {s : State} (hw : Within 4564661777 W) (hs : Frame W zz s) :
    Frame W zz (State.parkBoundary s) := by
  unfold State.parkBoundary
  try dsimp only
  repeat' (first
    | with_reducible exact hs
    | with_reducible assumption
    | with_reducible refine frame_ite ?_ ?_
    | with_reducible refine State.enterPark_frame (within_trans (by decide) hw) ?_
    | split
    | dsimp only)

theorem opEyeMeasure_frame {W : Nat} {zz : State} {n : Nat} {e : LaneMeasure} {s : State} (hw : Within 1 W) (hs : Frame W zz s) :
    Frame W zz (opEyeMeasure n e s) := by
  unfold opEyeMeasure
  try dsimp only
  repeat' (first
    | with_reducible exact hs
    | with_reducible assumption
    | with_reducible refine frame_ite ?_ ?_
    | with_reducible refine State.wr_frame (within_trans (by decide) hw) ?_
    | with_reducible refine State.wr64_frame (within_trans (by decide) hw) ?_
    | split
    | dsimp only)

theorem State.injectError_frame {W : Nat} {zz : State} {s : State} {n : Nat} (hw : Within 4294967296 W) (hs : Frame W zz s) :
    Frame W zz (State.injectError s n) := by
  unfold State.injectError
  try dsimp only
  repeat' (first
    | with_reducible exact hs
    | with_reducible assumption
    | with_reducible refine frame_ite ?_ ?_
    | with_reducible refine State.emitOut_frame (within_trans (by decide) hw) ?_
    | split
    | dsimp only)

theorem opPrbsInj1_frame {W : Nat} {zz : State} {x n : Nat} {s : State} (hw : Within 4295098369 W) (hs : Frame W zz s) :
    Frame W zz (opPrbsInj1 x n s) := by
  unfold opPrbsInj1
  try dsimp only
  repeat' (first
    | with_reducible exact hs
    | with_reducible assumption
    | with_reducible refine frame_ite ?_ ?_
    | with_reducible refine State.err_frame (within_trans (by decide) hw) ?_
    | with_reducible refine State.injectError_frame (within_trans (by decide) hw) ?_
    | split
    | dsimp only)

theorem opPrbsClr_frame {W : Nat} {zz : State} {x n : Nat} {s : State} (hw : Within 131073 W) (hs : Frame W zz s) :
    Frame W zz (opPrbsClr x n s) := by
  unfold opPrbsClr
  try dsimp only
  repeat' (first
    | with_reducible exact hs
    | with_reducible assumption
    | with_reducible refine frame_ite ?_ ?_
    | with_reducible refine State.wr_frame (within_trans (by decide) hw) ?_
    | with_reducible refine State.err_frame (within_trans (by decide) hw) ?_
    | split
    | dsimp only)

theorem opPrbsRate_frame {W : Nat} {zz : State} {n : Nat} {s : State} (hw : Within 4294967296 W) (hs : Frame W zz s) :
    Frame W zz (opPrbsRate n s) := by
  unfold opPrbsRate
  try dsimp only
  repeat' (first
    | with_reducible exact hs
    | with_reducible assumption
    | with_reducible refine frame_ite ?_ ?_
    | with_reducible refine State.injectError_frame (within_trans (by decide) hw) ?_
    | split
    | dsimp only)

theorem State.setPrbsSync_frame {W : Nat} {zz : State} {s : State} {n : Nat} {v : Bool} (hw : Within 131073 W) (hs : Frame W zz s) :
    Frame W zz (State.setPrbsSync s n v) := by
  unfold State.setPrbsSync
  try dsimp only
  repeat' (first
    | with_reducible exact hs
    | with_reducible assumption
    | with_reducible refine frame_ite ?_ ?_
    | with_reducible refine State.wf_frame (within_trans (by decide) hw) ?_
    | with_reducible refine State.raise_frame (within_trans (by decide) hw) ?_
    | split
    | dsimp only)

theorem opGateWrite_frame {W : Nat} {zz : State} {g : Nat} {v : Word} {s : State} (hw : Within 131073 W) (hs : Frame W zz s) :
    Frame W zz (opGateWrite g v s) := by
  unfold opGateWrite
  try dsimp only
  repeat' (first
    | with_reducible exact hs
    | with_reducible assumption
    | with_reducible refine frame_ite ?_ ?_
    | with_reducible refine State.wr_frame (within_trans (by decide) hw) ?_
    | with_reducible refine State.err_frame (within_trans (by decide) hw) ?_
    | (with_reducible refine frame_foldl ?_ ?_) | (with_reducible refine frame_foldl_fst ?_ ?_) | (with_reducible refine frame_foldl_snd ?_ ?_) | (intro _ _ _)
    | split
    | dsimp only)

theorem State.resetParts_frame {W : Nat} {zz : State} {s : State} {g b : Nat} (hw : Within 4829689361 W) (hs : Frame W zz s) :
    Frame W zz (State.resetParts s g b) := by
  unfold State.resetParts
  try dsimp only
  repeat' (first
    | with_reducible exact hs
    | with_reducible assumption
    | with_reducible refine frame_ite ?_ ?_
    | with_reducible refine State.portDown_frame (within_trans (by decide) hw) ?_
    | with_reducible refine State.sourceLost_frame (within_trans (by decide) hw) ?_
    | ((conv => arg 3; arg 34); with_reducible apply frame_mk)
    | exact fun b => absurd (hw _ b) (by decide)
    | with_reducible exact fun _ => rfl
    | ((with_reducible show NonVol.identity _ = NonVol.identity _); rfl)
    | split
    | dsimp only)

theorem State.resetBlock_frame {W : Nat} {zz : State} {s : State} {g b : Nat} (hw : Within 4829689361 W) (hs : Frame W zz s) :
    Frame W zz (State.resetBlock s g b) := by
  unfold State.resetBlock
  try dsimp only
  repeat' (first
    | with_reducible exact hs
    | with_reducible assumption
    | with_reducible refine frame_ite ?_ ?_
    | with_reducible refine State.resetParts_frame (within_trans (by decide) hw) ?_
    | ((conv => arg 3; arg 34); with_reducible apply frame_mk)
    | exact fun b => absurd (hw _ b) (by decide)
    | with_reducible exact fun _ => rfl
    | ((with_reducible show NonVol.identity _ = NonVol.identity _); rfl)
    | (with_reducible refine frame_regs (within_trans (by decide) hw) ?_ (NMap.wf_filter _ _ _))
    | split
    | dsimp only)

theorem State.gateApply_frame {W : Nat} {zz : State} {s : State} {g : Nat} {on : Bool} (hw : Within 4829689361 W) (hs : Frame W zz s) :
    Frame W zz (State.gateApply s g on) := by
  unfold State.gateApply
  try dsimp only
  repeat' (first
    | with_reducible exact hs
    | with_reducible assumption
    | with_reducible refine frame_ite ?_ ?_
    | with_reducible refine State.wr_frame (within_trans (by decide) hw) ?_
    | with_reducible refine State.resetBlock_frame (within_trans (by decide) hw) ?_
    | (with_reducible refine frame_foldl ?_ ?_) | (with_reducible refine frame_foldl_fst ?_ ?_) | (with_reducible refine frame_foldl_snd ?_ ?_) | (intro _ _ _)
    | ((conv => arg 3; arg 34); with_reducible apply frame_mk)
    | exact fun b => absurd (hw _ b) (by decide)
    | with_reducible exact fun _ => rfl
    | ((with_reducible show NonVol.identity _ = NonVol.identity _); rfl)
    | dsimp only)

end Sys2Proof.Machine
end

