-- ==== Sys2Proof/Laws/FrameLoupeOps.lean ====
section
/-!
SUPPORT. The frame of each operation of Machine/LoupeOps.lean.
-/

set_option maxRecDepth 4000

namespace Sys2Proof.Machine

set_option linter.all false
set_option Elab.async false

theorem State.setCore_frame {W : Nat} {zz : State} {s : State} {c : Nat} {x : LpeCore} (hw : Within 67108864 W) (hs : Frame W zz s) :
    Frame W zz (State.setCore s c x) := by
  unfold State.setCore
  try dsimp only
  repeat' (first
    | with_reducible exact hs
    | with_reducible assumption
    | with_reducible refine frame_ite ?_ ?_
    | ((conv => arg 3; arg 34); with_reducible apply frame_mk)
    | exact fun b => absurd (hw _ b) (by decide)
    | with_reducible exact fun _ => rfl
    | ((with_reducible show NonVol.identity _ = NonVol.identity _); rfl)
    | dsimp only)

theorem State.coreEvent_frame {W : Nat} {zz : State} {s : State} {c kind stream flags act : Nat} {it : LpeItem} {dat : List Byte} (hw : Within 4564588049 W) (hs : Frame W zz s) :
    Frame W zz (State.coreEvent s c kind stream flags act it dat) := by
  unfold State.coreEvent
  try dsimp only
  repeat' (first
    | with_reducible exact hs
    | with_reducible assumption
    | with_reducible refine frame_ite ?_ ?_
    | with_reducible refine State.emit_frame (within_trans (by decide) hw) ?_
    | dsimp only)

theorem State.countOverrun_frame {W : Nat} {zz : State} {s : State} {c cause pc : Nat} (hw : Within 68157457 W) (hs : Frame W zz s) :
    Frame W zz (State.countOverrun s c cause pc) := by
  unfold State.countOverrun
  try dsimp only
  repeat' (first
    | with_reducible exact hs
    | with_reducible assumption
    | with_reducible refine frame_ite ?_ ?_
    | with_reducible refine State.wr_frame (within_trans (by decide) hw) ?_
    | with_reducible refine State.count_frame (within_trans (by decide) hw) ?_
    | with_reducible refine State.setCore_frame (within_trans (by decide) hw) ?_
    | ((conv => arg 3; arg 34); with_reducible apply frame_mk)
    | exact fun b => absurd (hw _ b) (by decide)
    | with_reducible exact fun _ => rfl
    | ((with_reducible show NonVol.identity _ = NonVol.identity _); rfl)
    | dsimp only)

theorem State.overrun_frame {W : Nat} {zz : State} {s : State} {c cause : Nat} (hw : Within 4631696913 W) (hs : Frame W zz s) :
    Frame W zz (State.overrun s c cause) := by
  unfold State.overrun
  try dsimp only
  repeat' (first
    | with_reducible exact hs
    | with_reducible assumption
    | with_reducible refine frame_ite ?_ ?_
    | with_reducible refine State.raise_frame (within_trans (by decide) hw) ?_
    | with_reducible refine State.err_frame (within_trans (by decide) hw) ?_
    | with_reducible refine State.setCore_frame (within_trans (by decide) hw) ?_
    | with_reducible refine State.coreEvent_frame (within_trans (by decide) hw) ?_
    | with_reducible refine State.countOverrun_frame (within_trans (by decide) hw) ?_
    | ((conv => arg 3; arg 34); with_reducible apply frame_mk)
    | exact fun b => absurd (hw _ b) (by decide)
    | with_reducible exact fun _ => rfl
    | ((with_reducible show NonVol.identity _ = NonVol.identity _); rfl)
    | split
    | dsimp only)

theorem State.coreIdle_frame {W : Nat} {zz : State} {s : State} {c n : Nat} (hw : Within 4631696913 W) (hs : Frame W zz s) :
    Frame W zz (State.coreIdle s c n) := by
  unfold State.coreIdle
  try dsimp only
  repeat' (first
    | with_reducible exact hs
    | with_reducible assumption
    | with_reducible refine frame_ite ?_ ?_
    | with_reducible refine State.setCore_frame (within_trans (by decide) hw) ?_
    | with_reducible refine State.overrun_frame (within_trans (by decide) hw) ?_
    | ((conv => arg 3; arg 34); with_reducible apply frame_mk)
    | exact fun b => absurd (hw _ b) (by decide)
    | with_reducible exact fun _ => rfl
    | ((with_reducible show NonVol.identity _ = NonVol.identity _); rfl)
    | split
    | dsimp only)

theorem State.coreCatchUp_frame {W : Nat} {zz : State} {s : State} {c : Nat} (hw : Within 4631696913 W) (hs : Frame W zz s) :
    Frame W zz (State.coreCatchUp s c) := by
  unfold State.coreCatchUp
  try dsimp only
  repeat' (first
    | with_reducible exact hs
    | with_reducible assumption
    | with_reducible refine frame_ite ?_ ?_
    | with_reducible refine State.coreIdle_frame (within_trans (by decide) hw) ?_
    | split
    | dsimp only)

theorem State.handZone_frame {W : Nat} {zz : State} {s : State} {mask : Nat} {it : LpeItem} (hw : Within 67108864 W) (hs : Frame W zz s) :
    Frame W zz (State.handZone s mask it) := by
  unfold State.handZone
  try dsimp only
  repeat' (first
    | with_reducible exact hs
    | with_reducible assumption
    | with_reducible refine frame_ite ?_ ?_
    | ((conv => arg 3; arg 34); with_reducible apply frame_mk)
    | exact fun b => absurd (hw _ b) (by decide)
    | with_reducible exact fun _ => rfl
    | ((with_reducible show NonVol.identity _ = NonVol.identity _); rfl)
    | dsimp only)

theorem State.coreSample_frame {W : Nat} {zz : State} {s : State} {ch cls idx : Nat} {w : Word} {inst : Time} {no period flags : Nat} (hw : Within 67108864 W) (hs : Frame W zz s) :
    Frame W zz (State.coreSample s ch cls idx w inst no period flags) := by
  unfold State.coreSample
  try dsimp only
  repeat' (first
    | with_reducible exact hs
    | with_reducible assumption
    | with_reducible refine frame_ite ?_ ?_
    | with_reducible refine State.setCore_frame (within_trans (by decide) hw) ?_
    | (with_reducible refine frame_iter ?_ ?_) | (with_reducible refine frame_iter_fst ?_ ?_) | (intro _ _ _)
    | ((conv => arg 3; arg 34); with_reducible apply frame_mk)
    | exact fun b => absurd (hw _ b) (by decide)
    | with_reducible exact fun _ => rfl
    | ((with_reducible show NonVol.identity _ = NonVol.identity _); rfl)
    | split
    | dsimp only)

theorem State.coreFlush_frame {W : Nat} {zz : State} {s : State} {ch : Nat} (hw : Within 67108864 W) (hs : Frame W zz s) :
    Frame W zz (State.coreFlush s ch) := by
  unfold State.coreFlush
  try dsimp only
  repeat' (first
    | with_reducible exact hs
    | with_reducible assumption
    | with_reducible refine frame_ite ?_ ?_
    | with_reducible refine State.setCore_frame (within_trans (by decide) hw) ?_
    | (with_reducible refine frame_iter ?_ ?_) | (with_reducible refine frame_iter_fst ?_ ?_) | (intro _ _ _)
    | ((conv => arg 3; arg 34); with_reducible apply frame_mk)
    | exact fun b => absurd (hw _ b) (by decide)
    | with_reducible exact fun _ => rfl
    | ((with_reducible show NonVol.identity _ = NonVol.identity _); rfl)
    | split
    | dsimp only)

theorem State.coreInjRefused_frame {W : Nat} {zz : State} {s : State} {c tag why : Nat} (hw : Within 67108864 W) (hs : Frame W zz s) :
    Frame W zz (State.coreInjRefused s c tag why) := by
  unfold State.coreInjRefused
  try dsimp only
  repeat' (first
    | with_reducible exact hs
    | with_reducible assumption
    | with_reducible refine frame_ite ?_ ?_
    | with_reducible refine State.setCore_frame (within_trans (by decide) hw) ?_
    | ((conv => arg 3; arg 34); with_reducible apply frame_mk)
    | exact fun b => absurd (hw _ b) (by decide)
    | with_reducible exact fun _ => rfl
    | ((with_reducible show NonVol.identity _ = NonVol.identity _); rfl)
    | dsimp only)

theorem State.coreInjResult_frame {W : Nat} {zz : State} {s : State} {c tag resTag : Nat} {code hold : Word} (hw : Within 67108864 W) (hs : Frame W zz s) :
    Frame W zz (State.coreInjResult s c tag resTag code hold) := by
  unfold State.coreInjResult
  try dsimp only
  repeat' (first
    | with_reducible exact hs
    | with_reducible assumption
    | with_reducible refine frame_ite ?_ ?_
    | with_reducible refine State.setCore_frame (within_trans (by decide) hw) ?_
    | ((conv => arg 3; arg 34); with_reducible apply frame_mk)
    | exact fun b => absurd (hw _ b) (by decide)
    | with_reducible exact fun _ => rfl
    | ((with_reducible show NonVol.identity _ = NonVol.identity _); rfl)
    | dsimp only)

theorem State.copyCoreInj_frame {W : Nat} {zz : State} {s : State} {c : Nat} (hw : Within 4634838017 W) (hs : Frame W zz s) :
    Frame W zz (State.copyCoreInj s c) := by
  unfold State.copyCoreInj
  try dsimp only
  repeat' (first
    | with_reducible exact hs
    | with_reducible assumption
    | with_reducible refine frame_ite ?_ ?_
    | with_reducible refine State.copyItem_frame (within_trans (by decide) hw) ?_
    | ((conv => arg 3; arg 34); with_reducible apply frame_mk)
    | exact fun b => absurd (hw _ b) (by decide)
    | with_reducible exact fun _ => rfl
    | ((with_reducible show NonVol.identity _ = NonVol.identity _); rfl)
    | split
    | dsimp only)

theorem State.showCoreInj_frame {W : Nat} {zz : State} {s : State} (hw : Within 4631696913 W) (hs : Frame W zz s) :
    Frame W zz (State.showCoreInj s) := by
  unfold State.showCoreInj
  try dsimp only
  repeat' (first
    | with_reducible exact hs
    | with_reducible assumption
    | with_reducible refine frame_ite ?_ ?_
    | with_reducible refine State.setCore_frame (within_trans (by decide) hw) ?_
    | with_reducible refine State.coreCatchUp_frame (within_trans (by decide) hw) ?_
    | (with_reducible refine frame_iter ?_ ?_) | (with_reducible refine frame_iter_fst ?_ ?_) | (intro _ _ _)
    | ((conv => arg 3; arg 34); with_reducible apply frame_mk)
    | exact fun b => absurd (hw _ b) (by decide)
    | with_reducible exact fun _ => rfl
    | ((with_reducible show NonVol.identity _ = NonVol.identity _); rfl)
    | split
    | dsimp only)

end Sys2Proof.Machine
end

