-- ==== Sys2Proof/Laws/FrameFilter.lean ====
section
/-!
SUPPORT. The frame of each operation of Machine/Filter.lean.
-/

set_option maxRecDepth 4000

namespace Sys2Proof.Machine

set_option linter.all false
set_option Elab.async false

theorem State.gatherTrig_frame {W : Nat} {zz : State} {s : State} {t : Trigger} (hw : Within 16384 W) (hs : Frame W zz s) :
    Frame W zz (State.gatherTrig s t) := by
  unfold State.gatherTrig
  try dsimp only
  repeat' (first
    | with_reducible exact hs
    | with_reducible assumption
    | with_reducible refine frame_ite ?_ ?_
    | ((conv => arg 3; arg 34); with_reducible apply frame_mk)
    | exact fun b => absurd (hw _ b) (by decide)
    | with_reducible exact fun _ => rfl
    | ((with_reducible show NonVol.identity _ = NonVol.identity _); rfl)
    | dsimp only)

theorem State.flushTrig_frame {W : Nat} {zz : State} {s : State} (hw : Within 4564702737 W) (hs : Frame W zz s) :
    Frame W zz (State.flushTrig s) := by
  unfold State.flushTrig
  try dsimp only
  repeat' (first
    | with_reducible exact hs
    | with_reducible assumption
    | with_reducible refine frame_ite ?_ ?_
    | with_reducible refine State.issue_frame (within_trans (by decide) hw) ?_
    | ((conv => arg 3; arg 34); with_reducible apply frame_mk)
    | exact fun b => absurd (hw _ b) (by decide)
    | with_reducible exact fun _ => rfl
    | ((with_reducible show NonVol.identity _ = NonVol.identity _); rfl)
    | dsimp only)

theorem State.setChain_frame {W : Nat} {zz : State} {s : State} {c : Nat} {x : ChainCh} (hw : Within 2097152 W) (hs : Frame W zz s) :
    Frame W zz (State.setChain s c x) := by
  unfold State.setChain
  try dsimp only
  repeat' (first
    | with_reducible exact hs
    | with_reducible assumption
    | with_reducible refine frame_ite ?_ ?_
    | ((conv => arg 3; arg 34); with_reducible apply frame_mk)
    | exact fun b => absurd (hw _ b) (by decide)
    | with_reducible exact fun _ => rfl
    | ((with_reducible show NonVol.identity _ = NonVol.identity _); rfl)
    | dsimp only)

theorem State.closeSamples_frame {W : Nat} {zz : State} {s : State} {c : Nat} (hw : Within 4566685201 W) (hs : Frame W zz s) :
    Frame W zz (State.closeSamples s c) := by
  unfold State.closeSamples
  try dsimp only
  repeat' (first
    | with_reducible exact hs
    | with_reducible assumption
    | with_reducible refine frame_ite ?_ ?_
    | with_reducible refine State.emit_frame (within_trans (by decide) hw) ?_
    | with_reducible refine State.setChain_frame (within_trans (by decide) hw) ?_
    | ((conv => arg 3; arg 34); with_reducible apply frame_mk)
    | exact fun b => absurd (hw _ b) (by decide)
    | with_reducible exact fun _ => rfl
    | ((with_reducible show NonVol.identity _ = NonVol.identity _); rfl)
    | split
    | dsimp only)

theorem State.addSample_frame {W : Nat} {zz : State} {s : State} {c : Nat} {w : Word} {inst : Time} {no period : Nat} {half : Bool} (hw : Within 4566685201 W) (hs : Frame W zz s) :
    Frame W zz (State.addSample s c w inst no period half) := by
  unfold State.addSample
  try dsimp only
  repeat' (first
    | with_reducible exact hs
    | with_reducible assumption
    | with_reducible refine frame_ite ?_ ?_
    | with_reducible refine State.setChain_frame (within_trans (by decide) hw) ?_
    | with_reducible refine State.closeSamples_frame (within_trans (by decide) hw) ?_
    | ((conv => arg 3; arg 34); with_reducible apply frame_mk)
    | exact fun b => absurd (hw _ b) (by decide)
    | with_reducible exact fun _ => rfl
    | ((with_reducible show NonVol.identity _ = NonVol.identity _); rfl)
    | split
    | dsimp only)

theorem State.closeEnvRec_frame {W : Nat} {zz : State} {s : State} {c : Nat} (hw : Within 4566685201 W) (hs : Frame W zz s) :
    Frame W zz (State.closeEnvRec s c) := by
  unfold State.closeEnvRec
  try dsimp only
  repeat' (first
    | with_reducible exact hs
    | with_reducible assumption
    | with_reducible refine frame_ite ?_ ?_
    | with_reducible refine State.countMod_frame (within_trans (by decide) hw) ?_
    | with_reducible refine State.raise_frame (within_trans (by decide) hw) ?_
    | with_reducible refine State.emit_frame (within_trans (by decide) hw) ?_
    | with_reducible refine State.setChain_frame (within_trans (by decide) hw) ?_
    | ((conv => arg 3; arg 34); with_reducible apply frame_mk)
    | exact fun b => absurd (hw _ b) (by decide)
    | with_reducible exact fun _ => rfl
    | ((with_reducible show NonVol.identity _ = NonVol.identity _); rfl)
    | split
    | dsimp only)

theorem State.closeEnv_frame {W : Nat} {zz : State} {s : State} {c : Nat} {part : Bool} (hw : Within 4566685201 W) (hs : Frame W zz s) :
    Frame W zz (State.closeEnv s c part) := by
  unfold State.closeEnv
  try dsimp only
  repeat' (first
    | with_reducible exact hs
    | with_reducible assumption
    | with_reducible refine frame_ite ?_ ?_
    | with_reducible refine State.count_frame (within_trans (by decide) hw) ?_
    | with_reducible refine State.setChain_frame (within_trans (by decide) hw) ?_
    | with_reducible refine State.closeEnvRec_frame (within_trans (by decide) hw) ?_
    | ((conv => arg 3; arg 34); with_reducible apply frame_mk)
    | exact fun b => absurd (hw _ b) (by decide)
    | with_reducible exact fun _ => rfl
    | ((with_reducible show NonVol.identity _ = NonVol.identity _); rfl)
    | split
    | dsimp only)

theorem State.addEnv_frame {W : Nat} {zz : State} {s : State} {c : Nat} {val : Int} {tag sub : Nat} {inst : Time} (hw : Within 4566685201 W) (hs : Frame W zz s) :
    Frame W zz (State.addEnv s c val tag sub inst) := by
  unfold State.addEnv
  try dsimp only
  repeat' (first
    | with_reducible exact hs
    | with_reducible assumption
    | with_reducible refine frame_ite ?_ ?_
    | with_reducible refine State.count_frame (within_trans (by decide) hw) ?_
    | with_reducible refine State.setChain_frame (within_trans (by decide) hw) ?_
    | with_reducible refine State.closeEnv_frame (within_trans (by decide) hw) ?_
    | ((conv => arg 3; arg 34); with_reducible apply frame_mk)
    | exact fun b => absurd (hw _ b) (by decide)
    | with_reducible exact fun _ => rfl
    | ((with_reducible show NonVol.identity _ = NonVol.identity _); rfl)
    | split
    | dsimp only)

theorem State.tapChain_frame {W : Nat} {zz : State} {s : State} {c : Nat} {inst : Time} {period : Nat} (hw : Within 4564653585 W) (hs : Frame W zz s) :
    Frame W zz (State.tapChain s c inst period) := by
  unfold State.tapChain
  try dsimp only
  repeat' (first
    | with_reducible exact hs
    | with_reducible assumption
    | with_reducible refine frame_ite ?_ ?_
    | with_reducible refine State.setUnit_frame (within_trans (by decide) hw) ?_
    | with_reducible refine State.capItem_frame (within_trans (by decide) hw) ?_
    | with_reducible refine State.tapUnits_frame (within_trans (by decide) hw) ?_ ?_
    | intro _ _ _
    | intro _ _
    | ((conv => arg 3; arg 34); with_reducible apply frame_mk)
    | exact fun b => absurd (hw _ b) (by decide)
    | with_reducible exact fun _ => rfl
    | ((with_reducible show NonVol.identity _ = NonVol.identity _); rfl)
    | split
    | dsimp only)

theorem State.thresholds_frame {W : Nat} {zz : State} {s : State} {c : Nat} {y : Word} {inst : Time} (hw : Within 3293201 W) (hs : Frame W zz s) :
    Frame W zz (State.thresholds s c y inst) := by
  unfold State.thresholds
  try dsimp only
  repeat' (first
    | with_reducible exact hs
    | with_reducible assumption
    | with_reducible refine frame_ite ?_ ?_
    | with_reducible refine State.count_frame (within_trans (by decide) hw) ?_
    | with_reducible refine State.raise_frame (within_trans (by decide) hw) ?_
    | with_reducible refine State.gatherTrig_frame (within_trans (by decide) hw) ?_
    | with_reducible refine State.setChain_frame (within_trans (by decide) hw) ?_
    | ((conv => arg 3; arg 34); with_reducible apply frame_mk)
    | exact fun b => absurd (hw _ b) (by decide)
    | with_reducible exact fun _ => rfl
    | ((with_reducible show NonVol.identity _ = NonVol.identity _); rfl)
    | split
    | dsimp only)

theorem State.stages34_frame {W : Nat} {zz : State} {s : State} {c : Nat} {x : Int} (hw : Within 3145745 W) (hs : Frame W zz s) :
    Frame W zz (State.stages34 s c x).2 := by
  unfold State.stages34
  try dsimp only
  repeat' (first
    | with_reducible exact hs
    | with_reducible assumption
    | with_reducible refine frame_ite ?_ ?_
    | with_reducible refine frame_ite_fst ?_ ?_
    | with_reducible refine frame_ite_snd ?_ ?_
    | with_reducible refine frame_ite_snd2 ?_ ?_
    | with_reducible refine State.count_frame (within_trans (by decide) hw) ?_
    | with_reducible refine State.setChain_frame (within_trans (by decide) hw) ?_
    | ((conv => arg 3; arg 34); with_reducible apply frame_mk)
    | exact fun b => absurd (hw _ b) (by decide)
    | with_reducible exact fun _ => rfl
    | ((with_reducible show NonVol.identity _ = NonVol.identity _); rfl)
    | split
    | dsimp only)

theorem State.stages34_frame' {W : Nat} {zz u : State} {s : State} {c : Nat} {x : Int} {y_} (he_ : State.stages34 s c x = (y_, u)) (hw : Within 3145745 W)
    (hs : Frame W zz s) : Frame W zz u := by
  have k : Frame W zz (State.stages34 s c x).2 := State.stages34_frame hw hs
  rw [he_] at k
  exact k

theorem State.ramanRef_frame {W : Nat} {zz : State} {s : State} {c : Nat} {y : Word} {inst : Time} (hw : Within 33554432 W) (hs : Frame W zz s) :
    Frame W zz (State.ramanRef s c y inst) := by
  unfold State.ramanRef
  try dsimp only
  repeat' (first
    | with_reducible exact hs
    | with_reducible assumption
    | with_reducible refine frame_ite ?_ ?_
    | ((conv => arg 3; arg 34); with_reducible apply frame_mk)
    | exact fun b => absurd (hw _ b) (by decide)
    | with_reducible exact fun _ => rfl
    | ((with_reducible show NonVol.identity _ = NonVol.identity _); rfl)
    | split
    | dsimp only)

theorem State.chainOut_frame {W : Nat} {zz : State} {s0 : State} {c : Nat} {x : Int} {sum : TagSum} {k : Nat} {inst0 : Time} {per : Nat} (hw : Within 4667430417 W) (hs : Frame W zz s0) :
    Frame W zz (State.chainOut s0 c x sum k inst0 per) := by
  unfold State.chainOut
  try dsimp only
  repeat' (first
    | with_reducible exact hs
    | with_reducible assumption
    | with_reducible refine frame_ite ?_ ?_
    | with_reducible refine frame_ite_fst ?_ ?_
    | with_reducible refine frame_ite_snd ?_ ?_
    | with_reducible refine frame_ite_snd2 ?_ ?_
    | with_reducible refine State.wr_frame (within_trans (by decide) hw) ?_
    | with_reducible refine State.count_frame (within_trans (by decide) hw) ?_
    | with_reducible refine State.raise_frame (within_trans (by decide) hw) ?_
    | with_reducible refine State.err_frame (within_trans (by decide) hw) ?_
    | with_reducible refine State.coreSample_frame (within_trans (by decide) hw) ?_
    | with_reducible refine State.setChain_frame (within_trans (by decide) hw) ?_
    | with_reducible refine State.addSample_frame (within_trans (by decide) hw) ?_
    | with_reducible refine State.addEnv_frame (within_trans (by decide) hw) ?_
    | with_reducible refine State.tapChain_frame (within_trans (by decide) hw) ?_
    | with_reducible refine State.thresholds_frame (within_trans (by decide) hw) ?_
    | with_reducible refine State.stages34_frame (within_trans (by decide) hw) ?_
    | with_reducible refine State.stages34_frame' (by assumption) (within_trans (by decide) hw) ?_
    | with_reducible refine State.ramanRef_frame (within_trans (by decide) hw) ?_
    | ((conv => arg 3; arg 34); with_reducible apply frame_mk)
    | exact fun b => absurd (hw _ b) (by decide)
    | with_reducible exact fun _ => rfl
    | ((with_reducible show NonVol.identity _ = NonVol.identity _); rfl)
    | split
    | dsimp only)

theorem State.halfBands_frame {W : Nat} {zz : State} {s : State} {c k : Nat} {inst0 : Time} {per l i n : Nat} {x : Int}
    {sum : TagSum} (hw : Within 4667430417 W) (hs : Frame W zz s) :
    Frame W zz (s.halfBands c k inst0 per l i n x sum) := by
  induction l generalizing s i n x sum with
  | zero =>
    unfold State.halfBands
    with_reducible exact State.chainOut_frame (within_trans (by decide) hw) hs
  | succ l ih =>
    unfold State.halfBands
    dsimp only
    repeat' (first
      | with_reducible exact hs
      | with_reducible refine State.setChain_frame (within_trans (by decide) hw) ?_
      | with_reducible refine State.count_frame (within_trans (by decide) hw) ?_
      | with_reducible refine State.fresh_frame (within_trans (by decide) hw) ?_
      | with_reducible refine frame_ite ?_ ?_
      | with_reducible refine ih ?_)

theorem State.chainIn_frame {W : Nat} {zz : State} {s : State} {c k k0 : Nat} {inst : Time} {per : Nat} {v : Int} {tag sub rem : Nat} (hw : Within 4667430417 W) (hs : Frame W zz s) :
    Frame W zz (State.chainIn s c k k0 inst per v tag sub rem) := by
  unfold State.chainIn
  try dsimp only
  repeat' (first
    | with_reducible exact hs
    | with_reducible assumption
    | with_reducible refine frame_ite ?_ ?_
    | with_reducible refine State.setChain_frame (within_trans (by decide) hw) ?_
    | with_reducible refine State.halfBands_frame (within_trans (by decide) hw) ?_
    | ((conv => arg 3; arg 34); with_reducible apply frame_mk)
    | exact fun b => absurd (hw _ b) (by decide)
    | with_reducible exact fun _ => rfl
    | ((with_reducible show NonVol.identity _ = NonVol.identity _); rfl)
    | split
    | dsimp only)

theorem State.latchField_frame {W : Nat} {zz : State} {s : State} {die : Word} (hw : Within 2097152 W) (hs : Frame W zz s) :
    Frame W zz (State.latchField s die) := by
  unfold State.latchField
  try dsimp only
  repeat' (first
    | with_reducible exact hs
    | with_reducible assumption
    | with_reducible refine frame_ite ?_ ?_
    | ((conv => arg 3; arg 34); with_reducible apply frame_mk)
    | exact fun b => absurd (hw _ b) (by decide)
    | with_reducible exact fun _ => rfl
    | ((with_reducible show NonVol.identity _ = NonVol.identity _); rfl)
    | dsimp only)

theorem State.latchNode_frame {W : Nat} {zz : State} {s : State} {die : Word} (hw : Within 2097152 W) (hs : Frame W zz s) :
    Frame W zz (State.latchNode s die) := by
  unfold State.latchNode
  try dsimp only
  repeat' (first
    | with_reducible exact hs
    | with_reducible assumption
    | with_reducible refine frame_ite ?_ ?_
    | ((conv => arg 3; arg 34); with_reducible apply frame_mk)
    | exact fun b => absurd (hw _ b) (by decide)
    | with_reducible exact fun _ => rfl
    | ((with_reducible show NonVol.identity _ = NonVol.identity _); rfl)
    | dsimp only)

theorem State.resyncChain_frame {W : Nat} {zz : State} {s : State} {flags envFlags : Nat} {c : Nat} (hw : Within 4633794065 W) (hs : Frame W zz s) :
    Frame W zz (State.resyncChain s flags envFlags c) := by
  unfold State.resyncChain
  try dsimp only
  repeat' (first
    | with_reducible exact hs
    | with_reducible assumption
    | with_reducible refine frame_ite ?_ ?_
    | with_reducible refine State.coreFlush_frame (within_trans (by decide) hw) ?_
    | with_reducible refine State.setChain_frame (within_trans (by decide) hw) ?_
    | with_reducible refine State.closeSamples_frame (within_trans (by decide) hw) ?_
    | with_reducible refine State.closeEnvRec_frame (within_trans (by decide) hw) ?_
    | with_reducible refine State.closeEnv_frame (within_trans (by decide) hw) ?_
    | ((conv => arg 3; arg 34); with_reducible apply frame_mk)
    | exact fun b => absurd (hw _ b) (by decide)
    | with_reducible exact fun _ => rfl
    | ((with_reducible show NonVol.identity _ = NonVol.identity _); rfl)
    | dsimp only)

theorem State.resyncField_frame {W : Nat} {zz : State} {s : State} {no : Nat} {t : Time} (hw : Within 4633826833 W) (hs : Frame W zz s) :
    Frame W zz (State.resyncField s no t) := by
  unfold State.resyncField
  try dsimp only
  repeat' (first
    | with_reducible exact hs
    | with_reducible assumption
    | with_reducible refine frame_ite ?_ ?_
    | with_reducible refine State.countMod_frame (within_trans (by decide) hw) ?_
    | with_reducible refine State.resyncChain_frame (within_trans (by decide) hw) ?_
    | (with_reducible refine frame_foldl ?_ ?_) | (with_reducible refine frame_foldl_fst ?_ ?_) | (with_reducible refine frame_foldl_snd ?_ ?_) | (intro _ _ _)
    | ((conv => arg 3; arg 34); with_reducible apply frame_mk)
    | exact fun b => absurd (hw _ b) (by decide)
    | with_reducible exact fun _ => rfl
    | ((with_reducible show NonVol.identity _ = NonVol.identity _); rfl)
    | split
    | dsimp only)

theorem State.resyncNode_frame {W : Nat} {zz : State} {s : State} {no : Nat} (hw : Within 2129921 W) (hs : Frame W zz s) :
    Frame W zz (State.resyncNode s no) := by
  unfold State.resyncNode
  try dsimp only
  repeat' (first
    | with_reducible exact hs
    | with_reducible assumption
    | with_reducible refine frame_ite ?_ ?_
    | with_reducible refine State.countMod_frame (within_trans (by decide) hw) ?_
    | with_reducible refine State.setChain_frame (within_trans (by decide) hw) ?_
    | (with_reducible refine frame_foldl ?_ ?_) | (with_reducible refine frame_foldl_fst ?_ ?_) | (with_reducible refine frame_foldl_snd ?_ ?_) | (intro _ _ _)
    | ((conv => arg 3; arg 34); with_reducible apply frame_mk)
    | exact fun b => absurd (hw _ b) (by decide)
    | with_reducible exact fun _ => rfl
    | ((with_reducible show NonVol.identity _ = NonVol.identity _); rfl)
    | split
    | dsimp only)

theorem opChainSync_frame {W : Nat} {zz : State} {s : State} (hw : Within 4563436544 W) (hs : Frame W zz s) :
    Frame W zz (opChainSync s) := by
  unfold opChainSync
  try dsimp only
  repeat' (first
    | with_reducible exact hs
    | with_reducible assumption
    | with_reducible refine frame_ite ?_ ?_
    | with_reducible refine State.requestSync_frame (within_trans (by decide) hw) ?_
    | dsimp only)

end Sys2Proof.Machine
end

