-- ==== Sys2Proof/Laws/FrameFieldOps.lean ====
section
/-!
SUPPORT. The frame of each operation of Machine/FieldOps.lean.
-/

set_option maxRecDepth 4000

namespace Sys2Proof.Machine

set_option linter.all false
set_option Elab.async false

theorem State.setFch_frame {W : Nat} {zz : State} {s : State} {n : Nat} {x : FldCh} (hw : Within 4194304 W) (hs : Frame W zz s) :
    Frame W zz (State.setFch s n x) := by
  unfold State.setFch
  try dsimp only
  repeat' (first
    | with_reducible exact hs
    | with_reducible assumption
    | with_reducible refine frame_ite ?_ ?_
    | ((conv => arg 3; arg 34); with_reducible apply frame_mk)
    | exact fun b => absurd (hw _ b) (by decide)
    | with_reducible exact fun _ => rfl
    | ((with_reducible show NonVol.identity _ = NonVol.identity _); rfl)
    | dsimp only)

theorem State.setConv_frame {W : Nat} {zz : State} {s : State} {c mode : Nat} {cal : Bool} (hw : Within 1 W) (hs : Frame W zz s) :
    Frame W zz (State.setConv s c mode cal) := by
  unfold State.setConv
  try dsimp only
  repeat' (first
    | with_reducible exact hs
    | with_reducible assumption
    | with_reducible refine frame_ite ?_ ?_
    | with_reducible refine State.wr_frame (within_trans (by decide) hw) ?_
    | dsimp only)

theorem State.setConvInj_frame {W : Nat} {zz : State} {s : State} {c : Nat} {b : Bool} (hw : Within 1 W) (hs : Frame W zz s) :
    Frame W zz (State.setConvInj s c b) := by
  unfold State.setConvInj
  try dsimp only
  repeat' (first
    | with_reducible exact hs
    | with_reducible assumption
    | with_reducible refine frame_ite ?_ ?_
    | with_reducible refine State.wr_frame (within_trans (by decide) hw) ?_
    | dsimp only)

theorem State.convCal_frame {W : Nat} {zz : State} {s : State} {c : Nat} (hw : Within 4194305 W) (hs : Frame W zz s) :
    Frame W zz (State.convCal s c) := by
  unfold State.convCal
  try dsimp only
  repeat' (first
    | with_reducible exact hs
    | with_reducible assumption
    | with_reducible refine frame_ite ?_ ?_
    | with_reducible refine State.setConv_frame (within_trans (by decide) hw) ?_
    | ((conv => arg 3; arg 34); with_reducible apply frame_mk)
    | exact fun b => absurd (hw _ b) (by decide)
    | with_reducible exact fun _ => rfl
    | ((with_reducible show NonVol.identity _ = NonVol.identity _); rfl)
    | split
    | dsimp only)

theorem State.convTurn_frame {W : Nat} {zz : State} {s : State} {c : Nat} (hw : Within 5242897 W) (hs : Frame W zz s) :
    Frame W zz (State.convTurn s c) := by
  unfold State.convTurn
  try dsimp only
  repeat' (first
    | with_reducible exact hs
    | with_reducible assumption
    | with_reducible refine frame_ite ?_ ?_
    | with_reducible refine State.wf_frame (within_trans (by decide) hw) ?_
    | with_reducible refine State.count_frame (within_trans (by decide) hw) ?_
    | with_reducible refine State.convCal_frame (within_trans (by decide) hw) ?_
    | ((conv => arg 3; arg 34); with_reducible apply frame_mk)
    | exact fun b => absurd (hw _ b) (by decide)
    | with_reducible exact fun _ => rfl
    | ((with_reducible show NonVol.identity _ = NonVol.identity _); rfl)
    | split
    | dsimp only)

theorem State.convSettle_frame {W : Nat} {zz : State} {s : State} {c : Nat} (hw : Within 4194304 W) (hs : Frame W zz s) :
    Frame W zz (State.convSettle s c) := by
  unfold State.convSettle
  try dsimp only
  repeat' (first
    | with_reducible exact hs
    | with_reducible assumption
    | with_reducible refine frame_ite ?_ ?_
    | ((conv => arg 3; arg 34); with_reducible apply frame_mk)
    | exact fun b => absurd (hw _ b) (by decide)
    | with_reducible exact fun _ => rfl
    | ((with_reducible show NonVol.identity _ = NonVol.identity _); rfl)
    | dsimp only)

theorem State.calSettle_frame {W : Nat} {zz : State} {s : State} (hw : Within 4194304 W) (hs : Frame W zz s) :
    Frame W zz (State.calSettle s) := by
  unfold State.calSettle
  try dsimp only
  repeat' (first
    | with_reducible exact hs
    | with_reducible assumption
    | with_reducible refine frame_ite ?_ ?_
    | with_reducible refine State.setFch_frame (within_trans (by decide) hw) ?_
    | (with_reducible refine frame_iter ?_ ?_) | (with_reducible refine frame_iter_fst ?_ ?_) | (intro _ _ _)
    | ((conv => arg 3; arg 34); with_reducible apply frame_mk)
    | exact fun b => absurd (hw _ b) (by decide)
    | with_reducible exact fun _ => rfl
    | ((with_reducible show NonVol.identity _ = NonVol.identity _); rfl)
    | split
    | dsimp only)

theorem State.fldBusy_frame {W : Nat} {zz : State} {s : State} (hw : Within 1 W) (hs : Frame W zz s) :
    Frame W zz (State.fldBusy s) := by
  unfold State.fldBusy
  try dsimp only
  repeat' (first
    | with_reducible exact hs
    | with_reducible assumption
    | with_reducible refine frame_ite ?_ ?_
    | with_reducible refine State.wf_frame (within_trans (by decide) hw) ?_
    | dsimp only)

theorem State.tswForm_frame {W : Nat} {zz : State} {s : State} (hw : Within 131073 W) (hs : Frame W zz s) :
    Frame W zz (State.tswForm s) := by
  unfold State.tswForm
  try dsimp only
  repeat' (first
    | with_reducible exact hs
    | with_reducible assumption
    | with_reducible refine frame_ite ?_ ?_
    | with_reducible refine State.wr_frame (within_trans (by decide) hw) ?_
    | with_reducible refine State.raise_frame (within_trans (by decide) hw) ?_
    | (with_reducible refine frame_iter ?_ ?_) | (with_reducible refine frame_iter_fst ?_ ?_) | (intro _ _ _)
    | split
    | dsimp only)

theorem State.tswBalls_frame {W : Nat} {zz : State} {s : State} (hw : Within 4299161600 W) (hs : Frame W zz s) :
    Frame W zz (State.tswBalls s) := by
  unfold State.tswBalls
  try dsimp only
  repeat' (first
    | with_reducible exact hs
    | with_reducible assumption
    | with_reducible refine frame_ite ?_ ?_
    | with_reducible refine State.emitOut_frame (within_trans (by decide) hw) ?_
    | (with_reducible refine frame_iter ?_ ?_) | (with_reducible refine frame_iter_fst ?_ ?_) | (intro _ _ _)
    | ((conv => arg 3; arg 34); with_reducible apply frame_mk)
    | exact fun b => absurd (hw _ b) (by decide)
    | with_reducible exact fun _ => rfl
    | ((with_reducible show NonVol.identity _ = NonVol.identity _); rfl)
    | split
    | dsimp only)

theorem State.tswUpdate_frame {W : Nat} {zz : State} {s : State} (hw : Within 4299292673 W) (hs : Frame W zz s) :
    Frame W zz (State.tswUpdate s) := by
  unfold State.tswUpdate
  try dsimp only
  repeat' (first
    | with_reducible exact hs
    | with_reducible assumption
    | with_reducible refine frame_ite ?_ ?_
    | with_reducible refine State.tswForm_frame (within_trans (by decide) hw) ?_
    | with_reducible refine State.tswBalls_frame (within_trans (by decide) hw) ?_
    | dsimp only)

theorem State.setCmp_frame {W : Nat} {zz : State} {s : State} {i : Nat} {v : Bool} {inst : Time} (hw : Within 4341761 W) (hs : Frame W zz s) :
    Frame W zz (State.setCmp s i v inst) := by
  unfold State.setCmp
  try dsimp only
  repeat' (first
    | with_reducible exact hs
    | with_reducible assumption
    | with_reducible refine frame_ite ?_ ?_
    | with_reducible refine State.wr_frame (within_trans (by decide) hw) ?_
    | with_reducible refine State.raise_frame (within_trans (by decide) hw) ?_
    | with_reducible refine State.gatherTrig_frame (within_trans (by decide) hw) ?_
    | with_reducible refine State.setFch_frame (within_trans (by decide) hw) ?_
    | ((conv => arg 3; arg 34); with_reducible apply frame_mk)
    | exact fun b => absurd (hw _ b) (by decide)
    | with_reducible exact fun _ => rfl
    | ((with_reducible show NonVol.identity _ = NonVol.identity _); rfl)
    | split
    | dsimp only)

theorem State.cmpStep_frame {W : Nat} {zz : State} {s : State} {n : Nat} {inst : Time} (hw : Within 4341761 W) (hs : Frame W zz s) :
    Frame W zz (State.cmpStep s n inst) := by
  unfold State.cmpStep
  try dsimp only
  repeat' (first
    | with_reducible exact hs
    | with_reducible assumption
    | with_reducible refine frame_ite ?_ ?_
    | with_reducible refine State.wf_frame (within_trans (by decide) hw) ?_
    | with_reducible refine State.setCmp_frame (within_trans (by decide) hw) ?_
    | split
    | dsimp only)

theorem State.cmpRefresh_frame {W : Nat} {zz : State} {s : State} {n : Nat} {inst : Time} (hw : Within 4299309057 W) (hs : Frame W zz s) :
    Frame W zz (State.cmpRefresh s n inst) := by
  unfold State.cmpRefresh
  try dsimp only
  repeat' (first
    | with_reducible exact hs
    | with_reducible assumption
    | with_reducible refine frame_ite ?_ ?_
    | with_reducible refine State.tswUpdate_frame (within_trans (by decide) hw) ?_
    | with_reducible refine State.cmpStep_frame (within_trans (by decide) hw) ?_
    | dsimp only)

theorem State.cmpKeep_frame {W : Nat} {zz : State} {s : State} {n : Nat} (hw : Within 4194304 W) (hs : Frame W zz s) :
    Frame W zz (State.cmpKeep s n) := by
  unfold State.cmpKeep
  try dsimp only
  repeat' (first
    | with_reducible exact hs
    | with_reducible assumption
    | with_reducible refine frame_ite ?_ ?_
    | with_reducible refine State.setFch_frame (within_trans (by decide) hw) ?_
    | ((conv => arg 3; arg 34); with_reducible apply frame_mk)
    | exact fun b => absurd (hw _ b) (by decide)
    | with_reducible exact fun _ => rfl
    | ((with_reducible show NonVol.identity _ = NonVol.identity _); rfl)
    | split
    | dsimp only)

theorem State.mapBit_frame {W : Nat} {zz : State} {s : State} {lo n : Nat} {v : Bool} (hw : Within 1 W) (hs : Frame W zz s) :
    Frame W zz (State.mapBit s lo n v) := by
  unfold State.mapBit
  try dsimp only
  repeat' (first
    | with_reducible exact hs
    | with_reducible assumption
    | with_reducible refine frame_ite ?_ ?_
    | with_reducible refine State.wr_frame (within_trans (by decide) hw) ?_
    | dsimp only)

theorem State.showGood_frame {W : Nat} {zz : State} {s : State} {n : Nat} (hw : Within 1 W) (hs : Frame W zz s) :
    Frame W zz (State.showGood s n) := by
  unfold State.showGood
  try dsimp only
  repeat' (first
    | with_reducible exact hs
    | with_reducible assumption
    | with_reducible refine frame_ite ?_ ?_
    | with_reducible refine State.wf_frame (within_trans (by decide) hw) ?_
    | split
    | dsimp only)

theorem State.latchOpen_frame {W : Nat} {zz : State} {s : State} {n bits : Nat} {test : Option Nat} (hw : Within 4300357649 W) (hs : Frame W zz s) :
    Frame W zz (State.latchOpen s n bits test) := by
  unfold State.latchOpen
  try dsimp only
  repeat' (first
    | with_reducible exact hs
    | with_reducible assumption
    | with_reducible refine frame_ite ?_ ?_
    | with_reducible refine State.wf_frame (within_trans (by decide) hw) ?_
    | with_reducible refine State.count_frame (within_trans (by decide) hw) ?_
    | with_reducible refine State.raise_frame (within_trans (by decide) hw) ?_
    | with_reducible refine State.err_frame (within_trans (by decide) hw) ?_
    | with_reducible refine State.setFch_frame (within_trans (by decide) hw) ?_
    | with_reducible refine State.cmpRefresh_frame (within_trans (by decide) hw) ?_
    | with_reducible refine State.cmpKeep_frame (within_trans (by decide) hw) ?_
    | with_reducible refine State.mapBit_frame (within_trans (by decide) hw) ?_
    | with_reducible refine State.showGood_frame (within_trans (by decide) hw) ?_
    | ((conv => arg 3; arg 34); with_reducible apply frame_mk)
    | exact fun b => absurd (hw _ b) (by decide)
    | with_reducible exact fun _ => rfl
    | ((with_reducible show NonVol.identity _ = NonVol.identity _); rfl)
    | split
    | dsimp only)

theorem State.latchShort_frame {W : Nat} {zz : State} {s : State} {n bits : Nat} (hw : Within 4300357649 W) (hs : Frame W zz s) :
    Frame W zz (State.latchShort s n bits) := by
  unfold State.latchShort
  try dsimp only
  repeat' (first
    | with_reducible exact hs
    | with_reducible assumption
    | with_reducible refine frame_ite ?_ ?_
    | with_reducible refine State.wf_frame (within_trans (by decide) hw) ?_
    | with_reducible refine State.count_frame (within_trans (by decide) hw) ?_
    | with_reducible refine State.raise_frame (within_trans (by decide) hw) ?_
    | with_reducible refine State.err_frame (within_trans (by decide) hw) ?_
    | with_reducible refine State.setFch_frame (within_trans (by decide) hw) ?_
    | with_reducible refine State.cmpRefresh_frame (within_trans (by decide) hw) ?_
    | with_reducible refine State.cmpKeep_frame (within_trans (by decide) hw) ?_
    | with_reducible refine State.mapBit_frame (within_trans (by decide) hw) ?_
    | with_reducible refine State.showGood_frame (within_trans (by decide) hw) ?_
    | ((conv => arg 3; arg 34); with_reducible apply frame_mk)
    | exact fun b => absurd (hw _ b) (by decide)
    | with_reducible exact fun _ => rfl
    | ((with_reducible show NonVol.identity _ = NonVol.identity _); rfl)
    | split
    | dsimp only)

theorem State.clearOpen_frame {W : Nat} {zz : State} {s : State} {n : Nat} (hw : Within 4299309057 W) (hs : Frame W zz s) :
    Frame W zz (State.clearOpen s n) := by
  unfold State.clearOpen
  try dsimp only
  repeat' (first
    | with_reducible exact hs
    | with_reducible assumption
    | with_reducible refine frame_ite ?_ ?_
    | with_reducible refine State.wf_frame (within_trans (by decide) hw) ?_
    | with_reducible refine State.setFch_frame (within_trans (by decide) hw) ?_
    | with_reducible refine State.cmpRefresh_frame (within_trans (by decide) hw) ?_
    | with_reducible refine State.mapBit_frame (within_trans (by decide) hw) ?_
    | ((conv => arg 3; arg 34); with_reducible apply frame_mk)
    | exact fun b => absurd (hw _ b) (by decide)
    | with_reducible exact fun _ => rfl
    | ((with_reducible show NonVol.identity _ = NonVol.identity _); rfl)
    | dsimp only)

theorem State.clearShort_frame {W : Nat} {zz : State} {s : State} {n : Nat} (hw : Within 4299309057 W) (hs : Frame W zz s) :
    Frame W zz (State.clearShort s n) := by
  unfold State.clearShort
  try dsimp only
  repeat' (first
    | with_reducible exact hs
    | with_reducible assumption
    | with_reducible refine frame_ite ?_ ?_
    | with_reducible refine State.wf_frame (within_trans (by decide) hw) ?_
    | with_reducible refine State.setFch_frame (within_trans (by decide) hw) ?_
    | with_reducible refine State.cmpRefresh_frame (within_trans (by decide) hw) ?_
    | with_reducible refine State.mapBit_frame (within_trans (by decide) hw) ?_
    | ((conv => arg 3; arg 34); with_reducible apply frame_mk)
    | exact fun b => absurd (hw _ b) (by decide)
    | with_reducible exact fun _ => rfl
    | ((with_reducible show NonVol.identity _ = NonVol.identity _); rfl)
    | dsimp only)

theorem State.goodTick_frame {W : Nat} {zz : State} {s : State} {n : Nat} (hw : Within 4299309057 W) (hs : Frame W zz s) :
    Frame W zz (State.goodTick s n) := by
  unfold State.goodTick
  try dsimp only
  repeat' (first
    | with_reducible exact hs
    | with_reducible assumption
    | with_reducible refine frame_ite ?_ ?_
    | with_reducible refine State.setFch_frame (within_trans (by decide) hw) ?_
    | with_reducible refine State.showGood_frame (within_trans (by decide) hw) ?_
    | with_reducible refine State.clearOpen_frame (within_trans (by decide) hw) ?_
    | with_reducible refine State.clearShort_frame (within_trans (by decide) hw) ?_
    | ((conv => arg 3; arg 34); with_reducible apply frame_mk)
    | exact fun b => absurd (hw _ b) (by decide)
    | with_reducible exact fun _ => rfl
    | ((with_reducible show NonVol.identity _ = NonVol.identity _); rfl)
    | split
    | dsimp only)

theorem State.applyRange_frame {W : Nat} {zz : State} {s : State} {n k r : Nat} (hw : Within 5373969 W) (hs : Frame W zz s) :
    Frame W zz (State.applyRange s n k r) := by
  unfold State.applyRange
  try dsimp only
  repeat' (first
    | with_reducible exact hs
    | with_reducible assumption
    | with_reducible refine frame_ite ?_ ?_
    | with_reducible refine State.wf_frame (within_trans (by decide) hw) ?_
    | with_reducible refine State.count_frame (within_trans (by decide) hw) ?_
    | with_reducible refine State.raise_frame (within_trans (by decide) hw) ?_
    | with_reducible refine State.setFch_frame (within_trans (by decide) hw) ?_
    | ((conv => arg 3; arg 34); with_reducible apply frame_mk)
    | exact fun b => absurd (hw _ b) (by decide)
    | with_reducible exact fun _ => rfl
    | ((with_reducible show NonVol.identity _ = NonVol.identity _); rfl)
    | split
    | dsimp only)

theorem State.autorange_frame {W : Nat} {zz : State} {s : State} {n k : Nat} {code : Int} {r tag : Nat} (hw : Within 4194304 W) (hs : Frame W zz s) :
    Frame W zz (State.autorange s n k code r tag) := by
  unfold State.autorange
  try dsimp only
  repeat' (first
    | with_reducible exact hs
    | with_reducible assumption
    | with_reducible refine frame_ite ?_ ?_
    | with_reducible refine State.setFch_frame (within_trans (by decide) hw) ?_
    | ((conv => arg 3; arg 34); with_reducible apply frame_mk)
    | exact fun b => absurd (hw _ b) (by decide)
    | with_reducible exact fun _ => rfl
    | ((with_reducible show NonVol.identity _ = NonVol.identity _); rfl)
    | split
    | dsimp only)

theorem State.rangeHold_frame {W : Nat} {zz : State} {s : State} {n h : Nat} (hw : Within 5373969 W) (hs : Frame W zz s) :
    Frame W zz (State.rangeHold s n h) := by
  unfold State.rangeHold
  try dsimp only
  repeat' (first
    | with_reducible exact hs
    | with_reducible assumption
    | with_reducible refine frame_ite ?_ ?_
    | with_reducible refine State.setFch_frame (within_trans (by decide) hw) ?_
    | with_reducible refine State.applyRange_frame (within_trans (by decide) hw) ?_
    | (with_reducible refine frame_foldl ?_ ?_) | (with_reducible refine frame_foldl_fst ?_ ?_) | (with_reducible refine frame_foldl_snd ?_ ?_) | (intro _ _ _)
    | ((conv => arg 3; arg 34); with_reducible apply frame_mk)
    | exact fun b => absurd (hw _ b) (by decide)
    | with_reducible exact fun _ => rfl
    | ((with_reducible show NonVol.identity _ = NonVol.identity _); rfl)
    | split
    | dsimp only)

theorem State.dueRange_frame {W : Nat} {zz : State} {s : State} {n k : Nat} (hw : Within 5373969 W) (hs : Frame W zz s) :
    Frame W zz (State.dueRange s n k) := by
  unfold State.dueRange
  try dsimp only
  repeat' (first
    | with_reducible exact hs
    | with_reducible assumption
    | with_reducible refine frame_ite ?_ ?_
    | with_reducible refine State.setFch_frame (within_trans (by decide) hw) ?_
    | with_reducible refine State.rangeHold_frame (within_trans (by decide) hw) ?_
    | (with_reducible refine frame_iter ?_ ?_) | (with_reducible refine frame_iter_fst ?_ ?_) | (intro _ _ _)
    | ((conv => arg 3; arg 34); with_reducible apply frame_mk)
    | exact fun b => absurd (hw _ b) (by decide)
    | with_reducible exact fun _ => rfl
    | ((with_reducible show NonVol.identity _ = NonVol.identity _); rfl)
    | split
    | dsimp only)

theorem State.passResult_frame {W : Nat} {zz : State} {s : State} {n k : Nat} {inst : Time} {code : Int} {r tag sub rem : Nat} (hw : Within 4671624721 W) (hs : Frame W zz s) :
    Frame W zz (State.passResult s n k inst code r tag sub rem) := by
  unfold State.passResult
  try dsimp only
  repeat' (first
    | with_reducible exact hs
    | with_reducible assumption
    | with_reducible refine frame_ite ?_ ?_
    | with_reducible refine State.wr_frame (within_trans (by decide) hw) ?_
    | with_reducible refine State.count_frame (within_trans (by decide) hw) ?_
    | with_reducible refine State.raise_frame (within_trans (by decide) hw) ?_
    | with_reducible refine State.chainIn_frame (within_trans (by decide) hw) ?_
    | with_reducible refine State.setFch_frame (within_trans (by decide) hw) ?_
    | with_reducible refine State.mapBit_frame (within_trans (by decide) hw) ?_
    | with_reducible refine State.autorange_frame (within_trans (by decide) hw) ?_
    | ((conv => arg 3; arg 34); with_reducible apply frame_mk)
    | exact fun b => absurd (hw _ b) (by decide)
    | with_reducible exact fun _ => rfl
    | ((with_reducible show NonVol.identity _ = NonVol.identity _); rfl)
    | split
    | dsimp only)

theorem State.passChannel_frame {W : Nat} {zz : State} {s0 : State} {n k : Nat} {inst : Time} (hw : Within 4671624721 W) (hs : Frame W zz s0) :
    Frame W zz (State.passChannel s0 n k inst) := by
  unfold State.passChannel
  try dsimp only
  repeat' (first
    | with_reducible exact hs
    | with_reducible assumption
    | with_reducible refine frame_ite ?_ ?_
    | with_reducible refine State.setFch_frame (within_trans (by decide) hw) ?_
    | with_reducible refine State.goodTick_frame (within_trans (by decide) hw) ?_
    | with_reducible refine State.passResult_frame (within_trans (by decide) hw) ?_
    | ((conv => arg 3; arg 34); with_reducible apply frame_mk)
    | exact fun b => absurd (hw _ b) (by decide)
    | with_reducible exact fun _ => rfl
    | ((with_reducible show NonVol.identity _ = NonVol.identity _); rfl)
    | split
    | dsimp only)

theorem State.tapField_frame {W : Nat} {zz : State} {s : State} {inst : Time} (hw : Within 4564653585 W) (hs : Frame W zz s) :
    Frame W zz (State.tapField s inst) := by
  unfold State.tapField
  try dsimp only
  repeat' (first
    | with_reducible exact hs
    | with_reducible assumption
    | with_reducible refine frame_ite ?_ ?_
    | with_reducible refine State.capItem_frame (within_trans (by decide) hw) ?_
    | with_reducible refine State.tapUnits_frame (within_trans (by decide) hw) ?_ ?_
    | intro _ _ _
    | intro _ _
    | split
    | dsimp only)

end Sys2Proof.Machine
end

