-- ==== Sys2Proof/Laws/FrameMaint.lean ====
section
/-!
SUPPORT. The frame of each operation of Machine/Maint.lean.
-/

set_option maxRecDepth 4000

namespace Sys2Proof.Machine

set_option linter.all false
set_option Elab.async false

theorem State.mSet_frame {W : Nat} {zz : State} {s : State} {k st : Nat} {busy : Bool} (hw : Within 1048576 W) (hs : Frame W zz s) :
    Frame W zz (State.mSet s k st busy) := by
  unfold State.mSet
  try dsimp only
  repeat' (first
    | with_reducible exact hs
    | with_reducible assumption
    | with_reducible refine frame_ite ?_ ?_
    | ((conv => arg 3; arg 34); with_reducible apply frame_mk)
    | exact fun b => absurd (hw _ b) (by decide)
    | with_reducible exact fun _ => rfl
    | ((with_reducible show NonVol.identity _ = NonVol.identity _); rfl)
    | dsimp only)

theorem State.elemBegin_frame {W : Nat} {zz : State} {s : State} {c : Nat} (hw : Within 8519681 W) (hs : Frame W zz s) :
    Frame W zz (State.elemBegin s c) := by
  unfold State.elemBegin
  try dsimp only
  repeat' (first
    | with_reducible exact hs
    | with_reducible assumption
    | with_reducible refine frame_ite ?_ ?_
    | with_reducible refine State.err_frame (within_trans (by decide) hw) ?_
    | ((conv => arg 3; arg 34); with_reducible apply frame_mk)
    | exact fun b => absurd (hw _ b) (by decide)
    | with_reducible exact fun _ => rfl
    | ((with_reducible show NonVol.identity _ = NonVol.identity _); rfl)
    | split
    | dsimp only)

theorem State.rxRotDone_frame {W : Nat} {zz : State} {s : State} (hw : Within 8519681 W) (hs : Frame W zz s) :
    Frame W zz (State.rxRotDone s) := by
  unfold State.rxRotDone
  try dsimp only
  repeat' (first
    | with_reducible exact hs
    | with_reducible assumption
    | with_reducible refine frame_ite ?_ ?_
    | with_reducible refine State.wr_frame (within_trans (by decide) hw) ?_
    | with_reducible refine State.wf_frame (within_trans (by decide) hw) ?_
    | with_reducible refine State.countMod_frame (within_trans (by decide) hw) ?_
    | with_reducible refine State.raise_frame (within_trans (by decide) hw) ?_
    | ((conv => arg 3; arg 34); with_reducible apply frame_mk)
    | exact fun b => absurd (hw _ b) (by decide)
    | with_reducible exact fun _ => rfl
    | ((with_reducible show NonVol.identity _ = NonVol.identity _); rfl)
    | dsimp only)

theorem State.mBegin_frame {W : Nat} {zz : State} {s : State} {k : Nat} (hw : Within 13762577 W) (hs : Frame W zz s) :
    Frame W zz (State.mBegin s k) := by
  unfold State.mBegin
  try dsimp only
  repeat' (first
    | with_reducible exact hs
    | with_reducible assumption
    | with_reducible refine frame_ite ?_ ?_
    | with_reducible refine State.wr_frame (within_trans (by decide) hw) ?_
    | with_reducible refine State.wf_frame (within_trans (by decide) hw) ?_
    | with_reducible refine State.keepMax_frame (within_trans (by decide) hw) ?_
    | with_reducible refine State.raise_frame (within_trans (by decide) hw) ?_
    | with_reducible refine State.convTurn_frame (within_trans (by decide) hw) ?_
    | with_reducible refine State.mSet_frame (within_trans (by decide) hw) ?_
    | with_reducible refine State.elemBegin_frame (within_trans (by decide) hw) ?_
    | with_reducible refine State.rxRotDone_frame (within_trans (by decide) hw) ?_
    | (with_reducible refine frame_iter ?_ ?_) | (with_reducible refine frame_iter_fst ?_ ?_) | (intro _ _ _)
    | ((conv => arg 3; arg 34); with_reducible apply frame_mk)
    | exact fun b => absurd (hw _ b) (by decide)
    | with_reducible exact fun _ => rfl
    | ((with_reducible show NonVol.identity _ = NonVol.identity _); rfl)
    | split
    | dsimp only)

theorem State.mRequest_frame {W : Nat} {zz : State} {s : State} {k : Nat} (hw : Within 13762577 W) (hs : Frame W zz s) :
    Frame W zz (State.mRequest s k) := by
  unfold State.mRequest
  try dsimp only
  repeat' (first
    | with_reducible exact hs
    | with_reducible assumption
    | with_reducible refine frame_ite ?_ ?_
    | with_reducible refine State.count_frame (within_trans (by decide) hw) ?_
    | with_reducible refine State.raise_frame (within_trans (by decide) hw) ?_
    | with_reducible refine State.mSet_frame (within_trans (by decide) hw) ?_
    | with_reducible refine State.mBegin_frame (within_trans (by decide) hw) ?_
    | ((conv => arg 3; arg 34); with_reducible apply frame_mk)
    | exact fun b => absurd (hw _ b) (by decide)
    | with_reducible exact fun _ => rfl
    | ((with_reducible show NonVol.identity _ = NonVol.identity _); rfl)
    | split
    | dsimp only)

theorem State.calTrigger_frame {W : Nat} {zz : State} {s : State} {k : Nat} (hw : Within 13762577 W) (hs : Frame W zz s) :
    Frame W zz (State.calTrigger s k) := by
  unfold State.calTrigger
  try dsimp only
  repeat' (first
    | with_reducible exact hs
    | with_reducible assumption
    | with_reducible refine frame_ite ?_ ?_
    | with_reducible refine State.wf_frame (within_trans (by decide) hw) ?_
    | with_reducible refine State.mRequest_frame (within_trans (by decide) hw) ?_
    | split
    | dsimp only)

theorem State.mEnd_frame {W : Nat} {zz : State} {s : State} {k : Nat} (hw : Within 1179649 W) (hs : Frame W zz s) :
    Frame W zz (State.mEnd s k) := by
  unfold State.mEnd
  try dsimp only
  repeat' (first
    | with_reducible exact hs
    | with_reducible assumption
    | with_reducible refine frame_ite ?_ ?_
    | with_reducible refine State.raise_frame (within_trans (by decide) hw) ?_
    | with_reducible refine State.mSet_frame (within_trans (by decide) hw) ?_
    | dsimp only)

theorem State.mPump_frame {W : Nat} {zz : State} {s : State} (hw : Within 13762577 W) (hs : Frame W zz s) :
    Frame W zz (State.mPump s) := by
  unfold State.mPump
  try dsimp only
  repeat' (first
    | with_reducible exact hs
    | with_reducible assumption
    | with_reducible refine frame_ite ?_ ?_
    | with_reducible refine State.mSet_frame (within_trans (by decide) hw) ?_
    | with_reducible refine State.mBegin_frame (within_trans (by decide) hw) ?_
    | (with_reducible refine frame_foldl ?_ ?_) | (with_reducible refine frame_foldl_fst ?_ ?_) | (with_reducible refine frame_foldl_snd ?_ ?_) | (intro _ _ _)
    | ((conv => arg 3; arg 34); with_reducible apply frame_mk)
    | exact fun b => absurd (hw _ b) (by decide)
    | with_reducible exact fun _ => rfl
    | ((with_reducible show NonVol.identity _ = NonVol.identity _); rfl)
    | split
    | dsimp only)

end Sys2Proof.Machine
end

