-- ==== Sys2Proof/Laws/FrameField.lean ====
section
/-!
SUPPORT. The frame of each operation of Machine/Field.lean.
-/

set_option maxRecDepth 4000

namespace Sys2Proof.Machine

set_option linter.all false
set_option Elab.async false

theorem State.holdChannel_frame {W : Nat} {zz : State} {s : State} {n k : Nat} {o : Option WireObs} (hw : Within 4300357649 W) (hs : Frame W zz s) :
    Frame W zz (State.holdChannel s n k o) := by
  unfold State.holdChannel
  try dsimp only
  repeat' (first
    | with_reducible exact hs
    | with_reducible assumption
    | with_reducible refine frame_ite ?_ ?_
    | with_reducible refine State.setFch_frame (within_trans (by decide) hw) ?_
    | with_reducible refine State.latchOpen_frame (within_trans (by decide) hw) ?_
    | with_reducible refine State.latchShort_frame (within_trans (by decide) hw) ?_
    | ((conv => arg 3; arg 34); with_reducible apply frame_mk)
    | exact fun b => absurd (hw _ b) (by decide)
    | with_reducible exact fun _ => rfl
    | ((with_reducible show NonVol.identity _ = NonVol.identity _); rfl)
    | split
    | dsimp only)

theorem State.liveRange_frame {W : Nat} {zz : State} {s : State} {n k : Nat} (hw : Within 5373969 W) (hs : Frame W zz s) :
    Frame W zz (State.liveRange s n k) := by
  unfold State.liveRange
  try dsimp only
  repeat' (first
    | with_reducible exact hs
    | with_reducible assumption
    | with_reducible refine frame_ite ?_ ?_
    | with_reducible refine State.applyRange_frame (within_trans (by decide) hw) ?_
    | dsimp only)

theorem State.showOutcome_frame {W : Nat} {zz : State} {s : State} {d : InjDone} (hw : Within 131073 W) (hs : Frame W zz s) :
    Frame W zz (State.showOutcome s d) := by
  unfold State.showOutcome
  try dsimp only
  repeat' (first
    | with_reducible exact hs
    | with_reducible assumption
    | with_reducible refine frame_ite ?_ ?_
    | with_reducible refine State.wr_frame (within_trans (by decide) hw) ?_
    | with_reducible refine State.wr64_frame (within_trans (by decide) hw) ?_
    | with_reducible refine State.raise_frame (within_trans (by decide) hw) ?_
    | dsimp only)

theorem State.showInjected_frame {W : Nat} {zz : State} {s : State} (hw : Within 4325377 W) (hs : Frame W zz s) :
    Frame W zz (State.showInjected s) := by
  unfold State.showInjected
  try dsimp only
  repeat' (first
    | with_reducible exact hs
    | with_reducible assumption
    | with_reducible refine frame_ite ?_ ?_
    | with_reducible refine State.showOutcome_frame (within_trans (by decide) hw) ?_
    | (with_reducible refine frame_foldl ?_ ?_) | (with_reducible refine frame_foldl_fst ?_ ?_) | (with_reducible refine frame_foldl_snd ?_ ?_) | (intro _ _ _)
    | ((conv => arg 3; arg 34); with_reducible apply frame_mk)
    | exact fun b => absurd (hw _ b) (by decide)
    | with_reducible exact fun _ => rfl
    | ((with_reducible show NonVol.identity _ = NonVol.identity _); rfl)
    | dsimp only)

theorem State.nextNotch_frame {W : Nat} {zz : State} {s : State} {n : Nat} {t : Time} (hw : Within 2097152 W) (hs : Frame W zz s) :
    Frame W zz (State.nextNotch s n t) := by
  unfold State.nextNotch
  try dsimp only
  repeat' (first
    | with_reducible exact hs
    | with_reducible assumption
    | with_reducible refine frame_ite ?_ ?_
    | ((conv => arg 3; arg 34); with_reducible apply frame_mk)
    | exact fun b => absurd (hw _ b) (by decide)
    | with_reducible exact fun _ => rfl
    | ((with_reducible show NonVol.identity _ = NonVol.identity _); rfl)
    | split
    | dsimp only)

theorem State.notchBoundaryN_frame {W : Nat} {zz : State} {s : State} {b : Time} (hw : Within 2228225 W) (hs : Frame W zz s) :
    Frame W zz (State.notchBoundaryN s b) := by
  unfold State.notchBoundaryN
  try dsimp only
  repeat' (first
    | with_reducible exact hs
    | with_reducible assumption
    | with_reducible refine frame_ite ?_ ?_
    | with_reducible refine State.wf_frame (within_trans (by decide) hw) ?_
    | with_reducible refine State.raise_frame (within_trans (by decide) hw) ?_
    | ((conv => arg 3; arg 34); with_reducible apply frame_mk)
    | exact fun b => absurd (hw _ b) (by decide)
    | with_reducible exact fun _ => rfl
    | ((with_reducible show NonVol.identity _ = NonVol.identity _); rfl)
    | split
    | dsimp only)

theorem State.notchBoundary_frame {W : Nat} {zz : State} {s : State} {b : Time} (hw : Within 2228225 W) (hs : Frame W zz s) :
    Frame W zz (State.notchBoundary s b) := by
  unfold State.notchBoundary
  try dsimp only
  repeat' (first
    | with_reducible exact hs
    | with_reducible assumption
    | with_reducible refine frame_ite ?_ ?_
    | with_reducible refine State.wf_frame (within_trans (by decide) hw) ?_
    | with_reducible refine State.raise_frame (within_trans (by decide) hw) ?_
    | ((conv => arg 3; arg 34); with_reducible apply frame_mk)
    | exact fun b => absurd (hw _ b) (by decide)
    | with_reducible exact fun _ => rfl
    | ((with_reducible show NonVol.identity _ = NonVol.identity _); rfl)
    | split
    | dsimp only)

theorem State.bandBoundary_frame {W : Nat} {zz : State} {s : State} (hw : Within 4301406209 W) (hs : Frame W zz s) :
    Frame W zz (State.bandBoundary s) := by
  unfold State.bandBoundary
  try dsimp only
  repeat' (first
    | with_reducible exact hs
    | with_reducible assumption
    | with_reducible refine frame_ite ?_ ?_
    | with_reducible refine frame_ite_fst ?_ ?_
    | with_reducible refine frame_ite_snd ?_ ?_
    | with_reducible refine frame_ite_snd2 ?_ ?_
    | with_reducible refine State.wf_frame (within_trans (by decide) hw) ?_
    | with_reducible refine State.countMod_frame (within_trans (by decide) hw) ?_
    | with_reducible refine State.raise_frame (within_trans (by decide) hw) ?_
    | with_reducible refine State.tswUpdate_frame (within_trans (by decide) hw) ?_
    | with_reducible refine State.cmpStep_frame (within_trans (by decide) hw) ?_
    | (with_reducible refine frame_iter ?_ ?_) | (with_reducible refine frame_iter_fst ?_ ?_) | (intro _ _ _)
    | ((conv => arg 3; arg 34); with_reducible apply frame_mk)
    | exact fun b => absurd (hw _ b) (by decide)
    | with_reducible exact fun _ => rfl
    | ((with_reducible show NonVol.identity _ = NonVol.identity _); rfl)
    | split
    | dsimp only)

theorem State.fieldPass_frame {W : Nat} {zz : State} {s : State} (hw : Within 4671624721 W) (hs : Frame W zz s) :
    Frame W zz (State.fieldPass s) := by
  unfold State.fieldPass
  try dsimp only
  repeat' (first
    | with_reducible exact hs
    | with_reducible assumption
    | with_reducible refine frame_ite ?_ ?_
    | with_reducible refine State.passChannel_frame (within_trans (by decide) hw) ?_
    | with_reducible refine State.tapField_frame (within_trans (by decide) hw) ?_
    | (with_reducible refine frame_foldl ?_ ?_) | (with_reducible refine frame_foldl_fst ?_ ?_) | (with_reducible refine frame_foldl_snd ?_ ?_) | (intro _ _ _)
    | ((conv => arg 3; arg 34); with_reducible apply frame_mk)
    | exact fun b => absurd (hw _ b) (by decide)
    | with_reducible exact fun _ => rfl
    | ((with_reducible show NonVol.identity _ = NonVol.identity _); rfl)
    | split
    | dsimp only)

theorem State.fieldHold_frame {W : Nat} {zz : State} {s : State} {obs : List WireObs} (hw : Within 4300357649 W) (hs : Frame W zz s) :
    Frame W zz (State.fieldHold s obs) := by
  unfold State.fieldHold
  try dsimp only
  repeat' (first
    | with_reducible exact hs
    | with_reducible assumption
    | with_reducible refine frame_ite ?_ ?_
    | with_reducible refine State.wr_frame (within_trans (by decide) hw) ?_
    | with_reducible refine State.wf_frame (within_trans (by decide) hw) ?_
    | with_reducible refine State.calSettle_frame (within_trans (by decide) hw) ?_
    | with_reducible refine State.dueRange_frame (within_trans (by decide) hw) ?_
    | with_reducible refine State.holdChannel_frame (within_trans (by decide) hw) ?_
    | (with_reducible refine frame_foldl ?_ ?_) | (with_reducible refine frame_foldl_fst ?_ ?_) | (with_reducible refine frame_foldl_snd ?_ ?_) | (intro _ _ _)
    | ((conv => arg 3; arg 34); with_reducible apply frame_mk)
    | exact fun b => absurd (hw _ b) (by decide)
    | with_reducible exact fun _ => rfl
    | ((with_reducible show NonVol.identity _ = NonVol.identity _); rfl)
    | split
    | dsimp only)

theorem State.startRecovery_frame {W : Nat} {zz : State} {s : State} {c : Nat} (hw : Within 4194305 W) (hs : Frame W zz s) :
    Frame W zz (State.startRecovery s c) := by
  unfold State.startRecovery
  try dsimp only
  repeat' (first
    | with_reducible exact hs
    | with_reducible assumption
    | with_reducible refine frame_ite ?_ ?_
    | with_reducible refine State.convCal_frame (within_trans (by decide) hw) ?_
    | with_reducible refine State.fldBusy_frame (within_trans (by decide) hw) ?_
    | ((conv => arg 3; arg 34); with_reducible apply frame_mk)
    | exact fun b => absurd (hw _ b) (by decide)
    | with_reducible exact fun _ => rfl
    | ((with_reducible show NonVol.identity _ = NonVol.identity _); rfl)
    | dsimp only)

theorem opConversion_frame {W : Nat} {zz : State} {c slot : Nat} {code : Int} {bad : Bool} {s : State} (hw : Within 4194309 W) (hs : Frame W zz s) :
    Frame W zz (opConversion c slot code bad s) := by
  unfold opConversion
  try dsimp only
  repeat' (first
    | with_reducible exact hs
    | with_reducible assumption
    | with_reducible refine frame_ite ?_ ?_
    | with_reducible refine State.wr_frame (within_trans (by decide) hw) ?_
    | with_reducible refine State.advance_frame (within_trans (by decide) hw) ?_
    | with_reducible refine State.setFch_frame (within_trans (by decide) hw) ?_
    | with_reducible refine State.startRecovery_frame (within_trans (by decide) hw) ?_
    | ((conv => arg 3; arg 34); with_reducible apply frame_mk)
    | exact fun b => absurd (hw _ b) (by decide)
    | with_reducible exact fun _ => rfl
    | ((with_reducible show NonVol.identity _ = NonVol.identity _); rfl)
    | split
    | dsimp only)

theorem opCompliance_frame {W : Nat} {zz : State} {n : Nat} {o : LoopObs} {s : State} (hw : Within 4300357649 W) (hs : Frame W zz s) :
    Frame W zz (opCompliance n o s) := by
  unfold opCompliance
  try dsimp only
  repeat' (first
    | with_reducible exact hs
    | with_reducible assumption
    | with_reducible refine frame_ite ?_ ?_
    | with_reducible refine State.setFch_frame (within_trans (by decide) hw) ?_
    | with_reducible refine State.latchOpen_frame (within_trans (by decide) hw) ?_
    | ((conv => arg 3; arg 34); with_reducible apply frame_mk)
    | exact fun b => absurd (hw _ b) (by decide)
    | with_reducible exact fun _ => rfl
    | ((with_reducible show NonVol.identity _ = NonVol.identity _); rfl)
    | split
    | dsimp only)

theorem State.startHold_frame {W : Nat} {zz : State} {s : State} {n mode : Nat} (hw : Within 4341761 W) (hs : Frame W zz s) :
    Frame W zz (State.startHold s n mode) := by
  unfold State.startHold
  try dsimp only
  repeat' (first
    | with_reducible exact hs
    | with_reducible assumption
    | with_reducible refine frame_ite ?_ ?_
    | with_reducible refine State.wf_frame (within_trans (by decide) hw) ?_
    | with_reducible refine State.setFch_frame (within_trans (by decide) hw) ?_
    | with_reducible refine State.cmpStep_frame (within_trans (by decide) hw) ?_
    | with_reducible refine State.cmpKeep_frame (within_trans (by decide) hw) ?_
    | ((conv => arg 3; arg 34); with_reducible apply frame_mk)
    | exact fun b => absurd (hw _ b) (by decide)
    | with_reducible exact fun _ => rfl
    | ((with_reducible show NonVol.identity _ = NonVol.identity _); rfl)
    | dsimp only)

theorem opStartHoldEnd_frame {W : Nat} {zz : State} {s : State} (hw : Within 4299309057 W) (hs : Frame W zz s) :
    Frame W zz (opStartHoldEnd s) := by
  unfold opStartHoldEnd
  try dsimp only
  repeat' (first
    | with_reducible exact hs
    | with_reducible assumption
    | with_reducible refine frame_ite ?_ ?_
    | with_reducible refine State.wf_frame (within_trans (by decide) hw) ?_
    | with_reducible refine State.setFch_frame (within_trans (by decide) hw) ?_
    | with_reducible refine State.tswUpdate_frame (within_trans (by decide) hw) ?_
    | with_reducible refine State.cmpStep_frame (within_trans (by decide) hw) ?_
    | (with_reducible refine frame_iter ?_ ?_) | (with_reducible refine frame_iter_fst ?_ ?_) | (intro _ _ _)
    | ((conv => arg 3; arg 34); with_reducible apply frame_mk)
    | exact fun b => absurd (hw _ b) (by decide)
    | with_reducible exact fun _ => rfl
    | ((with_reducible show NonVol.identity _ = NonVol.identity _); rfl)
    | split
    | dsimp only)

theorem opCrossing_frame {W : Nat} {zz : State} {n : Nat} {v : Int} {s : State} (hw : Within 4299309057 W) (hs : Frame W zz s) :
    Frame W zz (opCrossing n v s) := by
  unfold opCrossing
  try dsimp only
  repeat' (first
    | with_reducible exact hs
    | with_reducible assumption
    | with_reducible refine frame_ite ?_ ?_
    | with_reducible refine State.setFch_frame (within_trans (by decide) hw) ?_
    | with_reducible refine State.cmpRefresh_frame (within_trans (by decide) hw) ?_
    | ((conv => arg 3; arg 34); with_reducible apply frame_mk)
    | exact fun b => absurd (hw _ b) (by decide)
    | with_reducible exact fun _ => rfl
    | ((with_reducible show NonVol.identity _ = NonVol.identity _); rfl)
    | dsimp only)

theorem opLatchedRelease_frame {W : Nat} {zz : State} {v : Word} {s : State} (hw : Within 4299292673 W) (hs : Frame W zz s) :
    Frame W zz (opLatchedRelease v s) := by
  unfold opLatchedRelease
  try dsimp only
  repeat' (first
    | with_reducible exact hs
    | with_reducible assumption
    | with_reducible refine frame_ite ?_ ?_
    | with_reducible refine State.wr_frame (within_trans (by decide) hw) ?_
    | with_reducible refine State.tswUpdate_frame (within_trans (by decide) hw) ?_
    | dsimp only)

theorem State.injRefuse_frame {W : Nat} {zz : State} {s : State} {tag core err why : Nat} (hw : Within 4634838017 W) (hs : Frame W zz s) :
    Frame W zz (State.injRefuse s tag core err why) := by
  unfold State.injRefuse
  try dsimp only
  repeat' (first
    | with_reducible exact hs
    | with_reducible assumption
    | with_reducible refine frame_ite ?_ ?_
    | with_reducible refine State.err_frame (within_trans (by decide) hw) ?_
    | with_reducible refine State.coreInjRefused_frame (within_trans (by decide) hw) ?_
    | with_reducible refine State.copyCoreInj_frame (within_trans (by decide) hw) ?_
    | split
    | dsimp only)

theorem State.injRequest_frame {W : Nat} {zz : State} {s : State} {v : Word} {core : Nat} (hw : Within 4634838017 W) (hs : Frame W zz s) :
    Frame W zz (State.injRequest s v core) := by
  unfold State.injRequest
  try dsimp only
  repeat' (first
    | with_reducible exact hs
    | with_reducible assumption
    | with_reducible refine frame_ite ?_ ?_
    | with_reducible refine State.wr_frame (within_trans (by decide) hw) ?_
    | with_reducible refine State.err_frame (within_trans (by decide) hw) ?_
    | with_reducible refine State.setConvInj_frame (within_trans (by decide) hw) ?_
    | with_reducible refine State.injRefuse_frame (within_trans (by decide) hw) ?_
    | ((conv => arg 3; arg 34); with_reducible apply frame_mk)
    | exact fun b => absurd (hw _ b) (by decide)
    | with_reducible exact fun _ => rfl
    | ((with_reducible show NonVol.identity _ = NonVol.identity _); rfl)
    | split
    | dsimp only)

theorem State.sendOutcome_frame {W : Nat} {zz : State} {s : State} {q : InjReq} {d : InjDone} (hw : Within 4634838017 W) (hs : Frame W zz s) :
    Frame W zz (State.sendOutcome s q d) := by
  unfold State.sendOutcome
  try dsimp only
  repeat' (first
    | with_reducible exact hs
    | with_reducible assumption
    | with_reducible refine frame_ite ?_ ?_
    | with_reducible refine State.copyItem_frame (within_trans (by decide) hw) ?_
    | with_reducible refine State.coreInjResult_frame (within_trans (by decide) hw) ?_
    | with_reducible refine State.copyCoreInj_frame (within_trans (by decide) hw) ?_
    | split
    | dsimp only)

theorem State.endInjected_frame {W : Nat} {zz : State} {s : State} {c ch : Nat} {d : InjDone} (hw : Within 5373969 W) (hs : Frame W zz s) :
    Frame W zz (State.endInjected s c ch d) := by
  unfold State.endInjected
  try dsimp only
  repeat' (first
    | with_reducible exact hs
    | with_reducible assumption
    | with_reducible refine frame_ite ?_ ?_
    | with_reducible refine State.wr_frame (within_trans (by decide) hw) ?_
    | with_reducible refine State.count_frame (within_trans (by decide) hw) ?_
    | with_reducible refine State.setConvInj_frame (within_trans (by decide) hw) ?_
    | with_reducible refine State.showOutcome_frame (within_trans (by decide) hw) ?_
    | ((conv => arg 3; arg 34); with_reducible apply frame_mk)
    | exact fun b => absurd (hw _ b) (by decide)
    | with_reducible exact fun _ => rfl
    | ((with_reducible show NonVol.identity _ = NonVol.identity _); rfl)
    | split
    | dsimp only)

theorem State.deferredCal_frame {W : Nat} {zz : State} {s : State} {c : Nat} (hw : Within 4194305 W) (hs : Frame W zz s) :
    Frame W zz (State.deferredCal s c) := by
  unfold State.deferredCal
  try dsimp only
  repeat' (first
    | with_reducible exact hs
    | with_reducible assumption
    | with_reducible refine frame_ite ?_ ?_
    | with_reducible refine State.wf_frame (within_trans (by decide) hw) ?_
    | with_reducible refine State.convCal_frame (within_trans (by decide) hw) ?_
    | ((conv => arg 3; arg 34); with_reducible apply frame_mk)
    | exact fun b => absurd (hw _ b) (by decide)
    | with_reducible exact fun _ => rfl
    | ((with_reducible show NonVol.identity _ = NonVol.identity _); rfl)
    | split
    | dsimp only)

theorem opInjDone_frame {W : Nat} {zz : State} {c : Nat} {code : Int} {ovf : Nat} {bad : Bool} {s : State} (hw : Within 4635886609 W) (hs : Frame W zz s) :
    Frame W zz (opInjDone c code ovf bad s) := by
  unfold opInjDone
  try dsimp only
  repeat' (first
    | with_reducible exact hs
    | with_reducible assumption
    | with_reducible refine frame_ite ?_ ?_
    | with_reducible refine State.startRecovery_frame (within_trans (by decide) hw) ?_
    | with_reducible refine State.sendOutcome_frame (within_trans (by decide) hw) ?_
    | with_reducible refine State.endInjected_frame (within_trans (by decide) hw) ?_
    | with_reducible refine State.deferredCal_frame (within_trans (by decide) hw) ?_
    | ((conv => arg 3; arg 34); with_reducible apply frame_mk)
    | exact fun b => absurd (hw _ b) (by decide)
    | with_reducible exact fun _ => rfl
    | ((with_reducible show NonVol.identity _ = NonVol.identity _); rfl)
    | split
    | dsimp only)

theorem opFldCal_frame {W : Nat} {zz : State} {conv : Nat} {s : State} (hw : Within 13762577 W) (hs : Frame W zz s) :
    Frame W zz (opFldCal conv s) := by
  unfold opFldCal
  try dsimp only
  repeat' (first
    | with_reducible exact hs
    | with_reducible assumption
    | with_reducible refine frame_ite ?_ ?_
    | with_reducible refine State.err_frame (within_trans (by decide) hw) ?_
    | with_reducible refine State.mRequest_frame (within_trans (by decide) hw) ?_
    | with_reducible refine State.calTrigger_frame (within_trans (by decide) hw) ?_
    | ((conv => arg 3; arg 34); with_reducible apply frame_mk)
    | exact fun b => absurd (hw _ b) (by decide)
    | with_reducible exact fun _ => rfl
    | ((with_reducible show NonVol.identity _ = NonVol.identity _); rfl)
    | split
    | dsimp only)

theorem opFieldRecal_frame {W : Nat} {zz : State} {temp : Int} {s : State} (hw : Within 13762577 W) (hs : Frame W zz s) :
    Frame W zz (opFieldRecal temp s) := by
  unfold opFieldRecal
  try dsimp only
  repeat' (first
    | with_reducible exact hs
    | with_reducible assumption
    | with_reducible refine frame_ite ?_ ?_
    | with_reducible refine State.wr_frame (within_trans (by decide) hw) ?_
    | with_reducible refine State.calTrigger_frame (within_trans (by decide) hw) ?_
    | ((conv => arg 3; arg 34); with_reducible apply frame_mk)
    | exact fun b => absurd (hw _ b) (by decide)
    | with_reducible exact fun _ => rfl
    | ((with_reducible show NonVol.identity _ = NonVol.identity _); rfl)
    | split
    | dsimp only)

theorem State.fldCalEnd_frame {W : Nat} {zz : State} {s : State} (hw : Within 13762577 W) (hs : Frame W zz s) :
    Frame W zz (State.fldCalEnd s) := by
  unfold State.fldCalEnd
  try dsimp only
  repeat' (first
    | with_reducible exact hs
    | with_reducible assumption
    | with_reducible refine frame_ite ?_ ?_
    | with_reducible refine State.wr_frame (within_trans (by decide) hw) ?_
    | with_reducible refine State.wf_frame (within_trans (by decide) hw) ?_
    | with_reducible refine State.countMod_frame (within_trans (by decide) hw) ?_
    | with_reducible refine State.raise_frame (within_trans (by decide) hw) ?_
    | with_reducible refine State.fldBusy_frame (within_trans (by decide) hw) ?_
    | with_reducible refine State.mRequest_frame (within_trans (by decide) hw) ?_
    | with_reducible refine State.mEnd_frame (within_trans (by decide) hw) ?_
    | ((conv => arg 3; arg 34); with_reducible apply frame_mk)
    | exact fun b => absurd (hw _ b) (by decide)
    | with_reducible exact fun _ => rfl
    | ((with_reducible show NonVol.identity _ = NonVol.identity _); rfl)
    | split
    | dsimp only)

theorem opConvCalDone_frame {W : Nat} {zz : State} {s : State} (hw : Within 13762577 W) (hs : Frame W zz s) :
    Frame W zz (opConvCalDone s) := by
  unfold opConvCalDone
  try dsimp only
  repeat' (first
    | with_reducible exact hs
    | with_reducible assumption
    | with_reducible refine frame_ite ?_ ?_
    | with_reducible refine State.setConv_frame (within_trans (by decide) hw) ?_
    | with_reducible refine State.convTurn_frame (within_trans (by decide) hw) ?_
    | with_reducible refine State.convSettle_frame (within_trans (by decide) hw) ?_
    | with_reducible refine State.fldCalEnd_frame (within_trans (by decide) hw) ?_
    | ((conv => arg 3; arg 34); with_reducible apply frame_mk)
    | exact fun b => absurd (hw _ b) (by decide)
    | with_reducible exact fun _ => rfl
    | ((with_reducible show NonVol.identity _ = NonVol.identity _); rfl)
    | split
    | dsimp only)

theorem opRecoveryDone_frame {W : Nat} {zz : State} {c : Nat} {good : Bool} {s : State} (hw : Within 4325377 W) (hs : Frame W zz s) :
    Frame W zz (opRecoveryDone c good s) := by
  unfold opRecoveryDone
  try dsimp only
  repeat' (first
    | with_reducible exact hs
    | with_reducible assumption
    | with_reducible refine frame_ite ?_ ?_
    | with_reducible refine State.raise_frame (within_trans (by decide) hw) ?_
    | with_reducible refine State.err_frame (within_trans (by decide) hw) ?_
    | with_reducible refine State.setConv_frame (within_trans (by decide) hw) ?_
    | with_reducible refine State.convSettle_frame (within_trans (by decide) hw) ?_
    | with_reducible refine State.fldBusy_frame (within_trans (by decide) hw) ?_
    | ((conv => arg 3; arg 34); with_reducible apply frame_mk)
    | exact fun b => absurd (hw _ b) (by decide)
    | with_reducible exact fun _ => rfl
    | ((with_reducible show NonVol.identity _ = NonVol.identity _); rfl)
    | split
    | dsimp only)

theorem State.mainsDip_frame {W : Nat} {zz : State} {s : State} {len : Nat} (hw : Within 1179697 W) (hs : Frame W zz s) :
    Frame W zz (State.mainsDip s len) := by
  unfold State.mainsDip
  try dsimp only
  repeat' (first
    | with_reducible exact hs
    | with_reducible assumption
    | with_reducible refine frame_ite ?_ ?_
    | with_reducible refine State.wr_frame (within_trans (by decide) hw) ?_
    | with_reducible refine State.count_frame (within_trans (by decide) hw) ?_
    | with_reducible refine State.raise_frame (within_trans (by decide) hw) ?_
    | with_reducible refine State.err_frame (within_trans (by decide) hw) ?_
    | with_reducible refine State.logFault_frame (within_trans (by decide) hw) ?_
    | dsimp only)

theorem State.lsyncBad_frame {W : Nat} {zz : State} {s : State} (hw : Within 131073 W) (hs : Frame W zz s) :
    Frame W zz (State.lsyncBad s) := by
  unfold State.lsyncBad
  try dsimp only
  repeat' (first
    | with_reducible exact hs
    | with_reducible assumption
    | with_reducible refine frame_ite ?_ ?_
    | with_reducible refine State.wr_frame (within_trans (by decide) hw) ?_
    | with_reducible refine State.wf_frame (within_trans (by decide) hw) ?_
    | with_reducible refine State.raise_frame (within_trans (by decide) hw) ?_
    | with_reducible refine State.err_frame (within_trans (by decide) hw) ?_
    | split
    | dsimp only)

theorem opLsyncEdge_frame {W : Nat} {zz : State} {s : State} (hw : Within 4567209521 W) (hs : Frame W zz s) :
    Frame W zz (opLsyncEdge s) := by
  unfold opLsyncEdge
  try dsimp only
  repeat' (first
    | with_reducible exact hs
    | with_reducible assumption
    | with_reducible refine frame_ite ?_ ?_
    | with_reducible refine State.wr_frame (within_trans (by decide) hw) ?_
    | with_reducible refine State.wf_frame (within_trans (by decide) hw) ?_
    | with_reducible refine State.raise_frame (within_trans (by decide) hw) ?_
    | with_reducible refine State.copyItem_frame (within_trans (by decide) hw) ?_
    | with_reducible refine State.measured_frame (within_trans (by decide) hw) ?_
    | with_reducible refine State.nextNotch_frame (within_trans (by decide) hw) ?_
    | with_reducible refine State.mainsDip_frame (within_trans (by decide) hw) ?_
    | with_reducible refine State.lsyncBad_frame (within_trans (by decide) hw) ?_
    | ((conv => arg 3; arg 34); with_reducible apply frame_mk)
    | exact fun b => absurd (hw _ b) (by decide)
    | with_reducible exact fun _ => rfl
    | ((with_reducible show NonVol.identity _ = NonVol.identity _); rfl)
    | split
    | dsimp only)

theorem opLsyncLost_frame {W : Nat} {zz : State} {s : State} (hw : Within 3276849 W) (hs : Frame W zz s) :
    Frame W zz (opLsyncLost s) := by
  unfold opLsyncLost
  try dsimp only
  repeat' (first
    | with_reducible exact hs
    | with_reducible assumption
    | with_reducible refine frame_ite ?_ ?_
    | with_reducible refine State.mainsDip_frame (within_trans (by decide) hw) ?_
    | with_reducible refine State.lsyncBad_frame (within_trans (by decide) hw) ?_
    | ((conv => arg 3; arg 34); with_reducible apply frame_mk)
    | exact fun b => absurd (hw _ b) (by decide)
    | with_reducible exact fun _ => rfl
    | ((with_reducible show NonVol.identity _ = NonVol.identity _); rfl)
    | split
    | dsimp only)

theorem opBandSelect_frame {W : Nat} {zz : State} {s : State} (hw : Within 4565632001 W) (hs : Frame W zz s) :
    Frame W zz (opBandSelect s) := by
  unfold opBandSelect
  try dsimp only
  repeat' (first
    | with_reducible exact hs
    | with_reducible assumption
    | with_reducible refine frame_ite ?_ ?_
    | with_reducible refine frame_ite_fst ?_ ?_
    | with_reducible refine frame_ite_snd ?_ ?_
    | with_reducible refine frame_ite_snd2 ?_ ?_
    | with_reducible refine State.wr_frame (within_trans (by decide) hw) ?_
    | with_reducible refine State.wf_frame (within_trans (by decide) hw) ?_
    | with_reducible refine State.raise_frame (within_trans (by decide) hw) ?_
    | with_reducible refine State.err_frame (within_trans (by decide) hw) ?_
    | with_reducible refine State.copyItem_frame (within_trans (by decide) hw) ?_
    | ((conv => arg 3; arg 34); with_reducible apply frame_mk)
    | exact fun b => absurd (hw _ b) (by decide)
    | with_reducible exact fun _ => rfl
    | ((with_reducible show NonVol.identity _ = NonVol.identity _); rfl)
    | split
    | dsimp only)

end Sys2Proof.Machine
end

