-- ==== Sys2Proof/Laws/FrameLoupeLoad.lean ====
section
/-!
SUPPORT. The frame of each operation of Machine/LoupeLoad.lean.
-/

set_option maxRecDepth 4000

namespace Sys2Proof.Machine

set_option linter.all false
set_option Elab.async false

theorem State.loadCore_frame {W : Nat} {zz : State} {s : State} {c : Nat} (hw : Within 67108867 W)
    (hs : Frame W zz s) : Frame W zz (s.loadCore c) := by
  unfold State.loadCore
  split
  · exact hs
  · dsimp only
    have h1 : ∀ r m, (NMap.wf resetWord s.regs = true → NMap.wf resetWord r = true) →
        (NMap.wf memDefault s.mem = true → NMap.wf memDefault m = true) →
        Frame W zz { s with regs := r, mem := m } := by
      intro r m hr hm
      refine frame_trans hs ?_
      constructor <;> first
        | exact hr
        | exact hm
        | exact fun _ => rfl
        | exact fun b => absurd (hw _ b) (by decide)
        | rfl
    have h2 := h1 _ _ (NMap.wf_filter resetWord (fun e => !(decide (e.1 / 0x1000 = 0x1A0 + c) && decide (0x40 ≤ e.1 % 0x1000)))
      s.regs) (NMap.wf_clear memDefault (corePm c) (corePm c + 0x30000) s.mem)
    repeat' (first
      | with_reducible exact h2
      | with_reducible assumption
      | with_reducible refine State.wr_frame (within_trans (by decide) hw) ?_
      | with_reducible refine State.wrWord_frame (within_trans (by decide) hw) ?_
      | with_reducible refine State.wrByte_frame (within_trans (by decide) hw) ?_
      | with_reducible refine State.setCore_frame (within_trans (by decide) hw) ?_
      | with_reducible refine frame_ite ?_ ?_
      | with_reducible refine frame_foldl ?_ ?_
      | intro _ _ _)

end Sys2Proof.Machine
end

