-- ==== Sys2Proof/Laws/FrameLoupe.lean ====
section
/-!
SUPPORT. The frame of each operation of Machine/Loupe.lean.
-/

set_option maxRecDepth 4000

namespace Sys2Proof.Machine

set_option linter.all false
set_option Elab.async false

theorem State.enqueue_frame {W : Nat} {zz : State} {s : State} {c : Nat} {it : LpeItem} (hw : Within 4631696915 W) (hs : Frame W zz s) :
    Frame W zz (State.enqueue s c it) := by
  unfold State.enqueue
  try dsimp only
  repeat' (first
    | with_reducible exact hs
    | with_reducible assumption
    | with_reducible refine frame_ite ?_ ?_
    | with_reducible refine State.fresh_frame (within_trans (by decide) hw) ?_
    | with_reducible refine State.count_frame (within_trans (by decide) hw) ?_
    | with_reducible refine State.keepMax_frame (within_trans (by decide) hw) ?_
    | with_reducible refine State.raise_frame (within_trans (by decide) hw) ?_
    | with_reducible refine State.err_frame (within_trans (by decide) hw) ?_
    | with_reducible refine State.wrByte_frame (within_trans (by decide) hw) ?_
    | with_reducible refine State.setCore_frame (within_trans (by decide) hw) ?_
    | with_reducible refine State.coreEvent_frame (within_trans (by decide) hw) ?_
    | with_reducible refine State.countOverrun_frame (within_trans (by decide) hw) ?_
    | (with_reducible refine frame_foldl ?_ ?_) | (with_reducible refine frame_foldl_fst ?_ ?_) | (with_reducible refine frame_foldl_snd ?_ ?_) | (intro _ _ _)
    | ((conv => arg 3; arg 34); with_reducible apply frame_mk)
    | exact fun b => absurd (hw _ b) (by decide)
    | with_reducible exact fun _ => rfl
    | ((with_reducible show NonVol.identity _ = NonVol.identity _); rfl)
    | split
    | dsimp only)

theorem opLoupeItemDispatch_frame {W : Nat} {zz : State} {s : State} (hw : Within 4631696915 W) (hs : Frame W zz s) :
    Frame W zz (opLoupeItemDispatch s) := by
  unfold opLoupeItemDispatch
  try dsimp only
  repeat' (first
    | with_reducible exact hs
    | with_reducible assumption
    | with_reducible refine frame_ite ?_ ?_
    | with_reducible refine frame_ite_fst ?_ ?_
    | with_reducible refine frame_ite_snd ?_ ?_
    | with_reducible refine frame_ite_snd2 ?_ ?_
    | with_reducible refine State.enqueue_frame (within_trans (by decide) hw) ?_
    | ((conv => arg 3; arg 34); with_reducible apply frame_mk)
    | exact fun b => absurd (hw _ b) (by decide)
    | with_reducible exact fun _ => rfl
    | ((with_reducible show NonVol.identity _ = NonVol.identity _); rfl)
    | split
    | dsimp only)

theorem opLoupeTimerItem_frame {W : Nat} {zz : State} {c : Nat} {s : State} (hw : Within 4631696919 W) (hs : Frame W zz s) :
    Frame W zz (opLoupeTimerItem c s) := by
  unfold opLoupeTimerItem
  try dsimp only
  repeat' (first
    | with_reducible exact hs
    | with_reducible assumption
    | with_reducible refine frame_ite ?_ ?_
    | with_reducible refine State.advance_frame (within_trans (by decide) hw) ?_
    | with_reducible refine State.setCore_frame (within_trans (by decide) hw) ?_
    | with_reducible refine State.enqueue_frame (within_trans (by decide) hw) ?_
    | ((conv => arg 3; arg 34); with_reducible apply frame_mk)
    | exact fun b => absurd (hw _ b) (by decide)
    | with_reducible exact fun _ => rfl
    | ((with_reducible show NonVol.identity _ = NonVol.identity _); rfl)
    | split
    | dsimp only)

theorem State.activate_frame {W : Nat} {zz : State} {s : State} {c : Nat} {it : Option (LpeItem × Nat)} {budget : Nat} (hw : Within 67108865 W) (hs : Frame W zz s) :
    Frame W zz (State.activate s c it budget) := by
  unfold State.activate
  try dsimp only
  repeat' (first
    | with_reducible exact hs
    | with_reducible assumption
    | with_reducible refine frame_ite ?_ ?_
    | with_reducible refine frame_ite_fst ?_ ?_
    | with_reducible refine frame_ite_snd ?_ ?_
    | with_reducible refine frame_ite_snd2 ?_ ?_
    | with_reducible refine State.countMod_frame (within_trans (by decide) hw) ?_
    | with_reducible refine State.setCore_frame (within_trans (by decide) hw) ?_
    | ((conv => arg 3; arg 34); with_reducible apply frame_mk)
    | exact fun b => absurd (hw _ b) (by decide)
    | with_reducible exact fun _ => rfl
    | ((with_reducible show NonVol.identity _ = NonVol.identity _); rfl)
    | split
    | dsimp only)

theorem opActivationOwn_frame {W : Nat} {zz : State} {c : Nat} {s : State} (hw : Within 67108867 W) (hs : Frame W zz s) :
    Frame W zz (opActivationOwn c s) := by
  unfold opActivationOwn
  try dsimp only
  repeat' (first
    | with_reducible exact hs
    | with_reducible assumption
    | with_reducible refine frame_ite ?_ ?_
    | with_reducible refine State.loadCore_frame (within_trans (by decide) hw) ?_
    | with_reducible refine State.activate_frame (within_trans (by decide) hw) ?_
    | ((conv => arg 3; arg 34); with_reducible apply frame_mk)
    | exact fun b => absurd (hw _ b) (by decide)
    | with_reducible exact fun _ => rfl
    | ((with_reducible show NonVol.identity _ = NonVol.identity _); rfl)
    | split
    | dsimp only)

theorem State.sweepCore_frame {W : Nat} {zz : State} {s : State} {c : Nat} (hw : Within 4563403776 W) (hs : Frame W zz s) :
    Frame W zz (State.sweepCore s c) := by
  unfold State.sweepCore
  try dsimp only
  repeat' (first
    | with_reducible exact hs
    | with_reducible assumption
    | with_reducible refine frame_ite ?_ ?_
    | with_reducible refine State.sendLane_frame (within_trans (by decide) hw) ?_
    | (with_reducible refine frame_foldl ?_ ?_) | (with_reducible refine frame_foldl_fst ?_ ?_) | (with_reducible refine frame_foldl_snd ?_ ?_) | (intro _ _ _)
    | ((conv => arg 3; arg 34); with_reducible apply frame_mk)
    | exact fun b => absurd (hw _ b) (by decide)
    | with_reducible exact fun _ => rfl
    | ((with_reducible show NonVol.identity _ = NonVol.identity _); rfl)
    | dsimp only)

theorem opActivationStart_frame {W : Nat} {zz : State} {c : Nat} {s : State} (hw : Within 4630512643 W) (hs : Frame W zz s) :
    Frame W zz (opActivationStart c s) := by
  unfold opActivationStart
  try dsimp only
  repeat' (first
    | with_reducible exact hs
    | with_reducible assumption
    | with_reducible refine frame_ite ?_ ?_
    | with_reducible refine opActivationOwn_frame (within_trans (by decide) hw) ?_
    | with_reducible refine State.sweepCore_frame (within_trans (by decide) hw) ?_
    | split
    | dsimp only)

theorem opBudgetExpiry_frame {W : Nat} {zz : State} {c : Nat} {s : State} (hw : Within 4631696913 W) (hs : Frame W zz s) :
    Frame W zz (opBudgetExpiry c s) := by
  unfold opBudgetExpiry
  try dsimp only
  repeat' (first
    | with_reducible exact hs
    | with_reducible assumption
    | with_reducible refine frame_ite ?_ ?_
    | with_reducible refine State.overrun_frame (within_trans (by decide) hw) ?_
    | with_reducible refine State.coreIdle_frame (within_trans (by decide) hw) ?_
    | split
    | dsimp only)

theorem opInterruptEntry_frame {W : Nat} {zz : State} {c : Nat} {s : State} (hw : Within 67108865 W) (hs : Frame W zz s) :
    Frame W zz (opInterruptEntry c s) := by
  unfold opInterruptEntry
  try dsimp only
  repeat' (first
    | with_reducible exact hs
    | with_reducible assumption
    | with_reducible refine frame_ite ?_ ?_
    | with_reducible refine State.keepMax_frame (within_trans (by decide) hw) ?_
    | with_reducible refine State.setCore_frame (within_trans (by decide) hw) ?_
    | ((conv => arg 3; arg 34); with_reducible apply frame_mk)
    | exact fun b => absurd (hw _ b) (by decide)
    | with_reducible exact fun _ => rfl
    | ((with_reducible show NonVol.identity _ = NonVol.identity _); rfl)
    | split
    | dsimp only)

theorem opDmaDone_frame {W : Nat} {zz : State} {c cycles : Nat} {s : State} (hw : Within 4631696915 W) (hs : Frame W zz s) :
    Frame W zz (opDmaDone c cycles s) := by
  unfold opDmaDone
  try dsimp only
  repeat' (first
    | with_reducible exact hs
    | with_reducible assumption
    | with_reducible refine frame_ite ?_ ?_
    | with_reducible refine State.wrBytes_frame (within_trans (by decide) hw) ?_
    | with_reducible refine State.setCore_frame (within_trans (by decide) hw) ?_
    | with_reducible refine State.coreIdle_frame (within_trans (by decide) hw) ?_
    | ((conv => arg 3; arg 34); with_reducible apply frame_mk)
    | exact fun b => absurd (hw _ b) (by decide)
    | with_reducible exact fun _ => rfl
    | ((with_reducible show NonVol.identity _ = NonVol.identity _); rfl)
    | split
    | dsimp only)

theorem opTmrExpiry_frame {W : Nat} {zz : State} {c : Nat} {s : State} (hw : Within 4631696913 W) (hs : Frame W zz s) :
    Frame W zz (opTmrExpiry c s) := by
  unfold opTmrExpiry
  try dsimp only
  repeat' (first
    | with_reducible exact hs
    | with_reducible assumption
    | with_reducible refine frame_ite ?_ ?_
    | with_reducible refine State.coreIdle_frame (within_trans (by decide) hw) ?_
    | split
    | dsimp only)

theorem State.coreSt_frame {W : Nat} {zz : State} {s : State} {c a n v : Nat} (hw : Within 2 W) (hs : Frame W zz s) :
    Frame W zz (State.coreSt s c a n v) := by
  unfold State.coreSt
  try dsimp only
  repeat' (first
    | with_reducible exact hs
    | with_reducible assumption
    | with_reducible refine frame_ite ?_ ?_
    | with_reducible refine State.wrBytes_frame (within_trans (by decide) hw) ?_
    | dsimp only)

theorem State.coreEcc_frame {W : Nat} {zz : State} {s : State} {a : Nat} {e : Ecc} {v : Nat} (hw : Within 1179665 W) (hs : Frame W zz s) :
    Frame W zz (State.coreEcc s a e v).1 := by
  unfold State.coreEcc
  try dsimp only
  repeat' (first
    | with_reducible exact hs
    | with_reducible assumption
    | with_reducible refine frame_ite ?_ ?_
    | with_reducible refine frame_ite_fst ?_ ?_
    | with_reducible refine frame_ite_snd ?_ ?_
    | with_reducible refine frame_ite_snd2 ?_ ?_
    | with_reducible refine State.wr_frame (within_trans (by decide) hw) ?_
    | with_reducible refine State.count_frame (within_trans (by decide) hw) ?_
    | with_reducible refine State.err_frame (within_trans (by decide) hw) ?_
    | ((conv => arg 3; arg 34); with_reducible apply frame_mk)
    | exact fun b => absurd (hw _ b) (by decide)
    | with_reducible exact fun _ => rfl
    | ((with_reducible show NonVol.identity _ = NonVol.identity _); rfl)
    | split
    | dsimp only)

theorem State.coreEcc_frame' {W : Nat} {zz u : State} {s : State} {a : Nat} {e : Ecc} {v : Nat} {y_} (he_ : State.coreEcc s a e v = (u, y_)) (hw : Within 1179665 W)
    (hs : Frame W zz s) : Frame W zz u := by
  have k : Frame W zz (State.coreEcc s a e v).1 := State.coreEcc_frame hw hs
  rw [he_] at k
  exact k

theorem State.instrWith_frame {W : Nat} {zz : State} {s : State} {c op : Nat} {fin : LpeCore → LpeCore → Word → State} (hw : Within 4631696913 W) (hs : Frame W zz s) (hfin_ : ∀ x0_ x1_ x2_, Frame W zz (fin x0_ x1_ x2_)) :
    Frame W zz (State.instrWith s c op fin) := by
  unfold State.instrWith
  try dsimp only
  repeat' (first
    | with_reducible exact hs
    | with_reducible assumption
    | with_reducible refine frame_ite ?_ ?_
    | with_reducible apply hfin_
    | with_reducible refine State.setCore_frame (within_trans (by decide) hw) ?_
    | with_reducible refine State.overrun_frame (within_trans (by decide) hw) ?_
    | split
    | dsimp only)

/-- The body of an instruction faults or leaves a state within a frame. -/
def OkFrame (W : Nat) (s : State) : Except Nat (State × LpeCore) → Prop
  | .ok p => Frame W s p.1
  | .error _ => True

theorem okFrame_ok {W : Nat} {s t : State} {y : LpeCore} (h : Frame W s t) : OkFrame W s (.ok (t, y)) := h

theorem okFrame_error {W : Nat} {s : State} {n : Nat} : OkFrame W s (.error n) := trivial

theorem okFrame_ite {W : Nat} {s : State} {c : Prop} [Decidable c] {a b : Except Nat (State × LpeCore)}
    (ha : OkFrame W s a) (hb : OkFrame W s b) : OkFrame W s (if c then a else b) := by
  split <;> assumption

theorem State.instr_frame {W : Nat} {zz : State} {s : State} {c op : Nat}
    {body : LpeCore → LpeCore → Word → Except Nat (State × LpeCore)} (hw : Within 4631696913 W) (hs : Frame W zz s)
    (hb : ∀ x y w, OkFrame W zz (body x y w)) : Frame W zz (s.instr c op body) := by
  unfold State.instr
  refine State.instrWith_frame (within_trans (by decide) hw) hs (fun x y w => ?_)
  have k := hb x { y with pc := (y.pc + 1) % 2 ^ 14 } w
  split
  · exact State.overrun_frame (within_trans (by decide) hw) (State.setCore_frame (within_trans (by decide) hw) hs)
  · rename_i t z he
    rw [he] at k
    exact State.setCore_frame (within_trans (by decide) hw) k

theorem State.instrR_frame {W : Nat} {zz : State} {s : State} {c op : Nat} {f : LpeCore → Word → LpeCore} (hw : Within 4631696913 W) (hs : Frame W zz s) :
    Frame W zz (State.instrR s c op f) := by
  unfold State.instrR
  try dsimp only
  repeat' (first
    | with_reducible exact hs
    | with_reducible assumption
    | with_reducible refine frame_ite ?_ ?_
    | with_reducible refine State.instr_frame (within_trans (by decide) hw) ?_ ?_
    | with_reducible refine okFrame_ite ?_ ?_
    | with_reducible refine okFrame_ok ?_
    | with_reducible exact okFrame_error
    | intro _ _ _
    | intro _ _
    | dsimp only)

theorem State.instrF1_frame {W : Nat} {zz : State} {s : State} {c op : Nat} {f : Word → Word → Word} (hw : Within 4631696913 W) (hs : Frame W zz s) :
    Frame W zz (State.instrF1 s c op f) := by
  unfold State.instrF1
  try dsimp only
  repeat' (first
    | with_reducible exact hs
    | with_reducible assumption
    | with_reducible refine frame_ite ?_ ?_
    | with_reducible refine State.instrR_frame (within_trans (by decide) hw) ?_
    | dsimp only)

theorem State.instrF2_frame {W : Nat} {zz : State} {s : State} {c op : Nat} {f : Word → Word → Word} (hw : Within 4631696913 W) (hs : Frame W zz s) :
    Frame W zz (State.instrF2 s c op f) := by
  unfold State.instrF2
  try dsimp only
  repeat' (first
    | with_reducible exact hs
    | with_reducible assumption
    | with_reducible refine frame_ite ?_ ?_
    | with_reducible refine State.instrR_frame (within_trans (by decide) hw) ?_
    | dsimp only)

theorem opFtm_frame {W : Nat} {zz : State} {c : Nat} {ex ey : Ecc} {s : State} (hw : Within 4631696915 W) (hs : Frame W zz s) :
    Frame W zz (opFtm c ex ey s) := by
  unfold opFtm
  try dsimp only
  repeat' (first
    | with_reducible exact hs
    | with_reducible assumption
    | with_reducible refine frame_ite ?_ ?_
    | with_reducible refine frame_ite_fst ?_ ?_
    | with_reducible refine frame_ite_snd ?_ ?_
    | with_reducible refine frame_ite_snd2 ?_ ?_
    | with_reducible refine State.coreSt_frame (within_trans (by decide) hw) ?_
    | with_reducible refine State.coreEcc_frame (within_trans (by decide) hw) ?_
    | with_reducible refine State.coreEcc_frame' (by assumption) (within_trans (by decide) hw) ?_
    | with_reducible refine State.instr_frame (within_trans (by decide) hw) ?_ ?_
    | with_reducible refine okFrame_ite ?_ ?_
    | with_reducible refine okFrame_ok ?_
    | with_reducible exact okFrame_error
    | intro _ _ _
    | intro _ _
    | split
    | dsimp only)

theorem State.load_frame {W : Nat} {zz : State} {s : State} {c op n : Nat} {e : Ecc} {ext : Nat → Nat} (hw : Within 4631696913 W) (hs : Frame W zz s) :
    Frame W zz (State.load s c op n e ext) := by
  unfold State.load
  try dsimp only
  repeat' (first
    | with_reducible exact hs
    | with_reducible assumption
    | with_reducible refine frame_ite ?_ ?_
    | with_reducible refine frame_ite_fst ?_ ?_
    | with_reducible refine frame_ite_snd ?_ ?_
    | with_reducible refine frame_ite_snd2 ?_ ?_
    | with_reducible refine State.coreEcc_frame (within_trans (by decide) hw) ?_
    | with_reducible refine State.coreEcc_frame' (by assumption) (within_trans (by decide) hw) ?_
    | with_reducible refine State.instr_frame (within_trans (by decide) hw) ?_ ?_
    | with_reducible refine okFrame_ite ?_ ?_
    | with_reducible refine okFrame_ok ?_
    | with_reducible exact okFrame_error
    | intro _ _ _
    | intro _ _
    | split
    | dsimp only)

theorem State.storeG_frame {W : Nat} {zz : State} {s : State} {c op n : Nat} (hw : Within 4631696915 W) (hs : Frame W zz s) :
    Frame W zz (State.storeG s c op n) := by
  unfold State.storeG
  try dsimp only
  repeat' (first
    | with_reducible exact hs
    | with_reducible assumption
    | with_reducible refine frame_ite ?_ ?_
    | with_reducible refine State.coreSt_frame (within_trans (by decide) hw) ?_
    | with_reducible refine State.instr_frame (within_trans (by decide) hw) ?_ ?_
    | with_reducible refine okFrame_ite ?_ ?_
    | with_reducible refine okFrame_ok ?_
    | with_reducible exact okFrame_error
    | intro _ _ _
    | intro _ _
    | split
    | dsimp only)

theorem State.instrBr_frame {W : Nat} {zz : State} {s : State} {c op : Nat} {cond : Word → Word → Bool} (hw : Within 4631696913 W) (hs : Frame W zz s) :
    Frame W zz (State.instrBr s c op cond) := by
  unfold State.instrBr
  try dsimp only
  repeat' (first
    | with_reducible exact hs
    | with_reducible assumption
    | with_reducible refine frame_ite ?_ ?_
    | with_reducible refine State.instrR_frame (within_trans (by decide) hw) ?_
    | dsimp only)

theorem opRpt_frame {W : Nat} {zz : State} {c : Nat} {s : State} (hw : Within 4631696913 W) (hs : Frame W zz s) :
    Frame W zz (opRpt c s) := by
  unfold opRpt
  try dsimp only
  repeat' (first
    | with_reducible exact hs
    | with_reducible assumption
    | with_reducible refine frame_ite ?_ ?_
    | with_reducible refine State.instr_frame (within_trans (by decide) hw) ?_ ?_
    | with_reducible refine okFrame_ite ?_ ?_
    | with_reducible refine okFrame_ok ?_
    | with_reducible exact okFrame_error
    | intro _ _ _
    | intro _ _
    | ((conv => arg 3; arg 34); with_reducible apply frame_mk)
    | exact fun b => absurd (hw _ b) (by decide)
    | with_reducible exact fun _ => rfl
    | ((with_reducible show NonVol.identity _ = NonVol.identity _); rfl)
    | split
    | dsimp only)

theorem opEnd_frame {W : Nat} {zz : State} {c : Nat} {s : State} (hw : Within 4631696913 W) (hs : Frame W zz s) :
    Frame W zz (opEnd c s) := by
  unfold opEnd
  try dsimp only
  repeat' (first
    | with_reducible exact hs
    | with_reducible assumption
    | with_reducible refine frame_ite ?_ ?_
    | with_reducible refine State.countMod_frame (within_trans (by decide) hw) ?_
    | with_reducible refine State.keepMax_frame (within_trans (by decide) hw) ?_
    | with_reducible refine State.setCore_frame (within_trans (by decide) hw) ?_
    | with_reducible refine State.coreEvent_frame (within_trans (by decide) hw) ?_
    | with_reducible refine State.instrWith_frame (within_trans (by decide) hw) ?_ ?_
    | intro _ _ _
    | intro _ _
    | (with_reducible refine frame_foldl ?_ ?_) | (with_reducible refine frame_foldl_fst ?_ ?_) | (with_reducible refine frame_foldl_snd ?_ ?_) | (intro _ _ _)
    | dsimp only)

theorem opEmit_frame {W : Nat} {zz : State} {c : Nat} {s : State} (hw : Within 4631696913 W) (hs : Frame W zz s) :
    Frame W zz (opEmit c s) := by
  unfold opEmit
  try dsimp only
  repeat' (first
    | with_reducible exact hs
    | with_reducible assumption
    | with_reducible refine frame_ite ?_ ?_
    | with_reducible refine State.instr_frame (within_trans (by decide) hw) ?_ ?_
    | with_reducible refine okFrame_ite ?_ ?_
    | with_reducible refine okFrame_ok ?_
    | with_reducible exact okFrame_error
    | intro _ _ _
    | intro _ _
    | ((conv => arg 3; arg 34); with_reducible apply frame_mk)
    | exact fun b => absurd (hw _ b) (by decide)
    | with_reducible exact fun _ => rfl
    | ((with_reducible show NonVol.identity _ = NonVol.identity _); rfl)
    | split
    | dsimp only)

theorem opDmov_frame {W : Nat} {zz : State} {c : Nat} {s : State} (hw : Within 4631696913 W) (hs : Frame W zz s) :
    Frame W zz (opDmov c s) := by
  unfold opDmov
  try dsimp only
  repeat' (first
    | with_reducible exact hs
    | with_reducible assumption
    | with_reducible refine frame_ite ?_ ?_
    | with_reducible refine State.instr_frame (within_trans (by decide) hw) ?_ ?_
    | with_reducible refine okFrame_ite ?_ ?_
    | with_reducible refine okFrame_ok ?_
    | with_reducible exact okFrame_error
    | intro _ _ _
    | intro _ _
    | ((conv => arg 3; arg 34); with_reducible apply frame_mk)
    | exact fun b => absurd (hw _ b) (by decide)
    | with_reducible exact fun _ => rfl
    | ((with_reducible show NonVol.identity _ = NonVol.identity _); rfl)
    | split
    | dsimp only)

theorem State.coreInj_frame {W : Nat} {zz : State} {s : State} {c : Nat} {y : LpeCore} {v : Word} (hw : Within 4634838017 W) (hs : Frame W zz s) :
    Frame W zz (State.coreInj s c y v).1 := by
  unfold State.coreInj
  try dsimp only
  repeat' (first
    | with_reducible exact hs
    | with_reducible assumption
    | with_reducible refine frame_ite ?_ ?_
    | with_reducible refine frame_ite_fst ?_ ?_
    | with_reducible refine frame_ite_snd ?_ ?_
    | with_reducible refine frame_ite_snd2 ?_ ?_
    | with_reducible refine State.err_frame (within_trans (by decide) hw) ?_
    | with_reducible refine State.setCore_frame (within_trans (by decide) hw) ?_
    | with_reducible refine State.injRequest_frame (within_trans (by decide) hw) ?_
    | ((conv => arg 3; arg 34); with_reducible apply frame_mk)
    | exact fun b => absurd (hw _ b) (by decide)
    | with_reducible exact fun _ => rfl
    | ((with_reducible show NonVol.identity _ = NonVol.identity _); rfl)
    | split
    | dsimp only)

theorem State.coreInj_frame' {W : Nat} {zz u : State} {s : State} {c : Nat} {y : LpeCore} {v : Word} {y_} (he_ : State.coreInj s c y v = (u, y_)) (hw : Within 4634838017 W)
    (hs : Frame W zz s) : Frame W zz u := by
  have k : Frame W zz (State.coreInj s c y v).1 := State.coreInj_frame hw hs
  rw [he_] at k
  exact k

theorem opIow_frame {W : Nat} {zz : State} {c : Nat} {s : State} (hw : Within 4635891217 W) (hs : Frame W zz s) :
    Frame W zz (opIow c s) := by
  unfold opIow
  try dsimp only
  repeat' (first
    | with_reducible exact hs
    | with_reducible assumption
    | with_reducible refine frame_ite ?_ ?_
    | with_reducible refine frame_ite_fst ?_ ?_
    | with_reducible refine frame_ite_snd ?_ ?_
    | with_reducible refine frame_ite_snd2 ?_ ?_
    | with_reducible refine State.instr_frame (within_trans (by decide) hw) ?_ ?_
    | with_reducible refine okFrame_ite ?_ ?_
    | with_reducible refine okFrame_ok ?_
    | with_reducible exact okFrame_error
    | with_reducible refine State.coreInj_frame (within_trans (by decide) hw) ?_
    | with_reducible refine State.coreInj_frame' (by assumption) (within_trans (by decide) hw) ?_
    | intro _ _ _
    | intro _ _
    | ((conv => arg 3; arg 34); with_reducible apply frame_mk)
    | exact fun b => absurd (hw _ b) (by decide)
    | with_reducible exact fun _ => rfl
    | ((with_reducible show NonVol.identity _ = NonVol.identity _); rfl)
    | split
    | dsimp only)

theorem opMovs_frame {W : Nat} {zz : State} {c : Nat} {s : State} (hw : Within 4631696913 W) (hs : Frame W zz s) :
    Frame W zz (opMovs c s) := by
  unfold opMovs
  try dsimp only
  repeat' (first
    | with_reducible exact hs
    | with_reducible assumption
    | with_reducible refine frame_ite ?_ ?_
    | with_reducible refine State.fresh_frame (within_trans (by decide) hw) ?_
    | with_reducible refine State.instr_frame (within_trans (by decide) hw) ?_ ?_
    | with_reducible refine okFrame_ite ?_ ?_
    | with_reducible refine okFrame_ok ?_
    | with_reducible exact okFrame_error
    | intro _ _ _
    | intro _ _
    | split
    | dsimp only)

theorem opIllegal_frame {W : Nat} {zz : State} {c : Nat} {s : State} (hw : Within 4631696913 W) (hs : Frame W zz s) :
    Frame W zz (opIllegal c s) := by
  unfold opIllegal
  try dsimp only
  repeat' (first
    | with_reducible exact hs
    | with_reducible assumption
    | with_reducible refine frame_ite ?_ ?_
    | with_reducible refine State.setCore_frame (within_trans (by decide) hw) ?_
    | with_reducible refine State.overrun_frame (within_trans (by decide) hw) ?_
    | split
    | dsimp only)

end Sys2Proof.Machine
end

