-- ==== Sys2Proof/Laws/FrameOfe.lean ====
section
/-!
SUPPORT. The frame of each operation of Machine/Ofe.lean.
-/

set_option maxRecDepth 4000

namespace Sys2Proof.Machine

set_option linter.all false
set_option Elab.async false

theorem State.setLasEn_frame {W : Nat} {zz : State} {s : State} {v : Bool} (hw : Within 4303355905 W) (hs : Frame W zz s) :
    Frame W zz (State.setLasEn s v) := by
  unfold State.setLasEn
  try dsimp only
  repeat' (first
    | with_reducible exact hs
    | with_reducible assumption
    | with_reducible refine frame_ite ?_ ?_
    | with_reducible refine State.wf_frame (within_trans (by decide) hw) ?_
    | with_reducible refine State.emitOut_frame (within_trans (by decide) hw) ?_
    | ((conv => arg 3; arg 34); with_reducible apply frame_mk)
    | exact fun b => absurd (hw _ b) (by decide)
    | with_reducible exact fun _ => rfl
    | ((with_reducible show NonVol.identity _ = NonVol.identity _); rfl)
    | split
    | dsimp only)

theorem State.setOsw_frame {W : Nat} {zz : State} {s : State} {v : Bool} (hw : Within 4294967297 W) (hs : Frame W zz s) :
    Frame W zz (State.setOsw s v) := by
  unfold State.setOsw
  try dsimp only
  repeat' (first
    | with_reducible exact hs
    | with_reducible assumption
    | with_reducible refine frame_ite ?_ ?_
    | with_reducible refine State.wf_frame (within_trans (by decide) hw) ?_
    | with_reducible refine State.emitOut_frame (within_trans (by decide) hw) ?_
    | split
    | dsimp only)

theorem State.lasUpdate_frame {W : Nat} {zz : State} {s : State} (hw : Within 4303355905 W) (hs : Frame W zz s) :
    Frame W zz (State.lasUpdate s) := by
  unfold State.lasUpdate
  try dsimp only
  repeat' (first
    | with_reducible exact hs
    | with_reducible assumption
    | with_reducible refine frame_ite ?_ ?_
    | with_reducible refine State.setLasEn_frame (within_trans (by decide) hw) ?_
    | dsimp only)

theorem State.hspiSend_frame {W : Nat} {zz : State} {s : State} {t : HspiTx} (hw : Within 4303355905 W) (hs : Frame W zz s) :
    Frame W zz (State.hspiSend s t) := by
  unfold State.hspiSend
  try dsimp only
  repeat' (first
    | with_reducible exact hs
    | with_reducible assumption
    | with_reducible refine frame_ite ?_ ?_
    | with_reducible refine State.wf_frame (within_trans (by decide) hw) ?_
    | with_reducible refine State.emitOut_frame (within_trans (by decide) hw) ?_
    | ((conv => arg 3; arg 34); with_reducible apply frame_mk)
    | exact fun b => absurd (hw _ b) (by decide)
    | with_reducible exact fun _ => rfl
    | ((with_reducible show NonVol.identity _ = NonVol.identity _); rfl)
    | dsimp only)

theorem State.hspiResult_frame {W : Nat} {zz : State} {s : State} {status attempts done : Nat} (hw : Within 1 W) (hs : Frame W zz s) :
    Frame W zz (State.hspiResult s status attempts done) := by
  unfold State.hspiResult
  try dsimp only
  repeat' (first
    | with_reducible exact hs
    | with_reducible assumption
    | with_reducible refine frame_ite ?_ ?_
    | with_reducible refine State.wr_frame (within_trans (by decide) hw) ?_
    | dsimp only)

theorem opHspiGo_frame {W : Nat} {zz : State} {s : State} (hw : Within 4303486977 W) (hs : Frame W zz s) :
    Frame W zz (opHspiGo s) := by
  unfold opHspiGo
  try dsimp only
  repeat' (first
    | with_reducible exact hs
    | with_reducible assumption
    | with_reducible refine frame_ite ?_ ?_
    | with_reducible refine State.wf_frame (within_trans (by decide) hw) ?_
    | with_reducible refine State.raise_frame (within_trans (by decide) hw) ?_
    | with_reducible refine State.err_frame (within_trans (by decide) hw) ?_
    | with_reducible refine State.hspiSend_frame (within_trans (by decide) hw) ?_
    | with_reducible refine State.hspiResult_frame (within_trans (by decide) hw) ?_
    | split
    | dsimp only)

theorem State.scriptDone_frame {W : Nat} {zz : State} {s : State} (hw : Within 4303355905 W) (hs : Frame W zz s) :
    Frame W zz (State.scriptDone s) := by
  unfold State.scriptDone
  try dsimp only
  repeat' (first
    | with_reducible exact hs
    | with_reducible assumption
    | with_reducible refine frame_ite ?_ ?_
    | with_reducible refine State.wr_frame (within_trans (by decide) hw) ?_
    | with_reducible refine State.lasUpdate_frame (within_trans (by decide) hw) ?_
    | ((conv => arg 3; arg 34); with_reducible apply frame_mk)
    | exact fun b => absurd (hw _ b) (by decide)
    | with_reducible exact fun _ => rfl
    | ((with_reducible show NonVol.identity _ = NonVol.identity _); rfl)
    | dsimp only)

theorem State.scriptNext_frame {W : Nat} {zz : State} {s : State} {l : List ScriptEnt} (hw : Within 4303355905 W)
    (hs : Frame W zz s) : Frame W zz (s.scriptNext l) := by
  induction l with
  | nil => exact State.scriptDone_frame (within_trans (by decide) hw) hs
  | cons e es ih =>
    unfold State.scriptNext
    refine frame_ite ih (State.hspiSend_frame (within_trans (by decide) hw) ?_)
    refine frame_trans hs ?_
    constructor <;> first | exact fun _ => rfl | exact fun b => absurd (hw _ b) (by decide) | rfl | exact id

theorem State.runScript_frame {W : Nat} {zz : State} {s : State} (hw : Within 4303355905 W) (hs : Frame W zz s) :
    Frame W zz (State.runScript s) := by
  unfold State.runScript
  try dsimp only
  repeat' (first
    | with_reducible exact hs
    | with_reducible assumption
    | with_reducible refine frame_ite ?_ ?_
    | with_reducible refine State.scriptNext_frame (within_trans (by decide) hw) ?_
    | ((conv => arg 3; arg 34); with_reducible apply frame_mk)
    | exact fun b => absurd (hw _ b) (by decide)
    | with_reducible exact fun _ => rfl
    | ((with_reducible show NonVol.identity _ = NonVol.identity _); rfl)
    | split
    | dsimp only)

theorem State.startScript_frame {W : Nat} {zz : State} {s : State} (hw : Within 4303355905 W) (hs : Frame W zz s) :
    Frame W zz (State.startScript s) := by
  unfold State.startScript
  try dsimp only
  repeat' (first
    | with_reducible exact hs
    | with_reducible assumption
    | with_reducible refine frame_ite ?_ ?_
    | with_reducible refine State.wf_frame (within_trans (by decide) hw) ?_
    | with_reducible refine State.lasUpdate_frame (within_trans (by decide) hw) ?_
    | with_reducible refine State.runScript_frame (within_trans (by decide) hw) ?_
    | ((conv => arg 3; arg 34); with_reducible apply frame_mk)
    | exact fun b => absurd (hw _ b) (by decide)
    | with_reducible exact fun _ => rfl
    | ((with_reducible show NonVol.identity _ = NonVol.identity _); rfl)
    | split
    | dsimp only)

theorem opScript_frame {W : Nat} {zz : State} {s : State} (hw : Within 4303486977 W) (hs : Frame W zz s) :
    Frame W zz (opScript s) := by
  unfold opScript
  try dsimp only
  repeat' (first
    | with_reducible exact hs
    | with_reducible assumption
    | with_reducible refine frame_ite ?_ ?_
    | with_reducible refine State.err_frame (within_trans (by decide) hw) ?_
    | with_reducible refine State.runScript_frame (within_trans (by decide) hw) ?_
    | split
    | dsimp only)

theorem State.hspiEnd_frame {W : Nat} {zz : State} {s : State} {t : HspiTx} {status : Nat} (hw : Within 4303486977 W) (hs : Frame W zz s) :
    Frame W zz (State.hspiEnd s t status) := by
  unfold State.hspiEnd
  try dsimp only
  repeat' (first
    | with_reducible exact hs
    | with_reducible assumption
    | with_reducible refine frame_ite ?_ ?_
    | with_reducible refine State.wr_frame (within_trans (by decide) hw) ?_
    | with_reducible refine State.wf_frame (within_trans (by decide) hw) ?_
    | with_reducible refine State.raise_frame (within_trans (by decide) hw) ?_
    | with_reducible refine State.err_frame (within_trans (by decide) hw) ?_
    | with_reducible refine State.lasUpdate_frame (within_trans (by decide) hw) ?_
    | with_reducible refine State.hspiResult_frame (within_trans (by decide) hw) ?_
    | with_reducible refine State.scriptNext_frame (within_trans (by decide) hw) ?_
    | ((conv => arg 3; arg 34); with_reducible apply frame_mk)
    | exact fun b => absurd (hw _ b) (by decide)
    | with_reducible exact fun _ => rfl
    | ((with_reducible show NonVol.identity _ = NonVol.identity _); rfl)
    | split
    | dsimp only)

theorem State.hspiKeep_frame {W : Nat} {zz : State} {s : State} {body : List Byte} (hw : Within 1 W) (hs : Frame W zz s) :
    Frame W zz (State.hspiKeep s body) := by
  unfold State.hspiKeep
  try dsimp only
  repeat' (first
    | with_reducible exact hs
    | with_reducible assumption
    | with_reducible refine frame_ite ?_ ?_
    | with_reducible refine State.wr_frame (within_trans (by decide) hw) ?_
    | (with_reducible refine frame_iter ?_ ?_) | (with_reducible refine frame_iter_fst ?_ ?_) | (intro _ _ _)
    | split
    | dsimp only)

theorem opHspiDone_frame {W : Nat} {zz : State} {reply : List Byte} {s : State} (hw : Within 4303486977 W) (hs : Frame W zz s) :
    Frame W zz (opHspiDone reply s) := by
  unfold opHspiDone
  try dsimp only
  repeat' (first
    | with_reducible exact hs
    | with_reducible assumption
    | with_reducible refine frame_ite ?_ ?_
    | with_reducible refine State.hspiSend_frame (within_trans (by decide) hw) ?_
    | with_reducible refine State.hspiEnd_frame (within_trans (by decide) hw) ?_
    | with_reducible refine State.hspiKeep_frame (within_trans (by decide) hw) ?_
    | ((conv => arg 3; arg 34); with_reducible apply frame_mk)
    | exact fun b => absurd (hw _ b) (by decide)
    | with_reducible exact fun _ => rfl
    | ((with_reducible show NonVol.identity _ = NonVol.identity _); rfl)
    | split
    | dsimp only)

theorem opHspiTimeout_frame {W : Nat} {zz : State} {s : State} (hw : Within 4303486977 W) (hs : Frame W zz s) :
    Frame W zz (opHspiTimeout s) := by
  unfold opHspiTimeout
  try dsimp only
  repeat' (first
    | with_reducible exact hs
    | with_reducible assumption
    | with_reducible refine frame_ite ?_ ?_
    | with_reducible refine State.hspiSend_frame (within_trans (by decide) hw) ?_
    | with_reducible refine State.hspiEnd_frame (within_trans (by decide) hw) ?_
    | ((conv => arg 3; arg 34); with_reducible apply frame_mk)
    | exact fun b => absurd (hw _ b) (by decide)
    | with_reducible exact fun _ => rfl
    | ((with_reducible show NonVol.identity _ = NonVol.identity _); rfl)
    | split
    | dsimp only)

theorem opLasOn_frame {W : Nat} {zz : State} {s : State} (hw : Within 4303355905 W) (hs : Frame W zz s) :
    Frame W zz (opLasOn s) := by
  unfold opLasOn
  try dsimp only
  repeat' (first
    | with_reducible exact hs
    | with_reducible assumption
    | with_reducible refine frame_ite ?_ ?_
    | with_reducible refine State.wf_frame (within_trans (by decide) hw) ?_
    | with_reducible refine State.lasUpdate_frame (within_trans (by decide) hw) ?_
    | ((conv => arg 3; arg 34); with_reducible apply frame_mk)
    | exact fun b => absurd (hw _ b) (by decide)
    | with_reducible exact fun _ => rfl
    | ((with_reducible show NonVol.identity _ = NonVol.identity _); rfl)
    | split
    | dsimp only)

theorem opLasOff_frame {W : Nat} {zz : State} {s : State} (hw : Within 4303355905 W) (hs : Frame W zz s) :
    Frame W zz (opLasOff s) := by
  unfold opLasOff
  try dsimp only
  repeat' (first
    | with_reducible exact hs
    | with_reducible assumption
    | with_reducible refine frame_ite ?_ ?_
    | with_reducible refine State.wf_frame (within_trans (by decide) hw) ?_
    | with_reducible refine State.lasUpdate_frame (within_trans (by decide) hw) ?_
    | ((conv => arg 3; arg 34); with_reducible apply frame_mk)
    | exact fun b => absurd (hw _ b) (by decide)
    | with_reducible exact fun _ => rfl
    | ((with_reducible show NonVol.identity _ = NonVol.identity _); rfl)
    | dsimp only)

theorem State.dropTrig_frame {W : Nat} {zz : State} {s : State} (hw : Within 4303355904 W) (hs : Frame W zz s) :
    Frame W zz (State.dropTrig s) := by
  unfold State.dropTrig
  try dsimp only
  repeat' (first
    | with_reducible exact hs
    | with_reducible assumption
    | with_reducible refine frame_ite ?_ ?_
    | with_reducible refine State.emitOut_frame (within_trans (by decide) hw) ?_
    | ((conv => arg 3; arg 34); with_reducible apply frame_mk)
    | exact fun b => absurd (hw _ b) (by decide)
    | with_reducible exact fun _ => rfl
    | ((with_reducible show NonVol.identity _ = NonVol.identity _); rfl)
    | split
    | dsimp only)

theorem State.darkenRaman_frame {W : Nat} {zz : State} {s : State} {n : Nat} (hw : Within 42991633 W) (hs : Frame W zz s) :
    Frame W zz (State.darkenRaman s n) := by
  unfold State.darkenRaman
  try dsimp only
  repeat' (first
    | with_reducible exact hs
    | with_reducible assumption
    | with_reducible refine frame_ite ?_ ?_
    | with_reducible refine State.count_frame (within_trans (by decide) hw) ?_
    | ((conv => arg 3; arg 34); with_reducible apply frame_mk)
    | exact fun b => absurd (hw _ b) (by decide)
    | with_reducible exact fun _ => rfl
    | ((with_reducible show NonVol.identity _ = NonVol.identity _); rfl)
    | split
    | dsimp only)

theorem State.darkenShot_frame {W : Nat} {zz : State} {s : State} {n : Nat} (hw : Within 59768849 W) (hs : Frame W zz s) :
    Frame W zz (State.darkenShot s n) := by
  unfold State.darkenShot
  try dsimp only
  repeat' (first
    | with_reducible exact hs
    | with_reducible assumption
    | with_reducible refine frame_ite ?_ ?_
    | with_reducible refine State.darkenRaman_frame (within_trans (by decide) hw) ?_
    | ((conv => arg 3; arg 34); with_reducible apply frame_mk)
    | exact fun b => absurd (hw _ b) (by decide)
    | with_reducible exact fun _ => rfl
    | ((with_reducible show NonVol.identity _ = NonVol.identity _); rfl)
    | split
    | dsimp only)

theorem opIlkAccept_frame {W : Nat} {zz : State} {s : State} (hw : Within 4354867217 W) (hs : Frame W zz s) :
    Frame W zz (opIlkAccept s) := by
  unfold opIlkAccept
  try dsimp only
  repeat' (first
    | with_reducible exact hs
    | with_reducible assumption
    | with_reducible refine frame_ite ?_ ?_
    | with_reducible refine State.wf_frame (within_trans (by decide) hw) ?_
    | with_reducible refine State.count_frame (within_trans (by decide) hw) ?_
    | with_reducible refine State.raise_frame (within_trans (by decide) hw) ?_
    | with_reducible refine State.err_frame (within_trans (by decide) hw) ?_
    | with_reducible refine State.lasUpdate_frame (within_trans (by decide) hw) ?_
    | with_reducible refine State.dropTrig_frame (within_trans (by decide) hw) ?_
    | with_reducible refine State.darkenShot_frame (within_trans (by decide) hw) ?_
    | ((conv => arg 3; arg 34); with_reducible apply frame_mk)
    | exact fun b => absurd (hw _ b) (by decide)
    | with_reducible exact fun _ => rfl
    | ((with_reducible show NonVol.identity _ = NonVol.identity _); rfl)
    | split
    | dsimp only)

theorem opIlkRelease_frame {W : Nat} {zz : State} {s : State} (hw : Within 4303355905 W) (hs : Frame W zz s) :
    Frame W zz (opIlkRelease s) := by
  unfold opIlkRelease
  try dsimp only
  repeat' (first
    | with_reducible exact hs
    | with_reducible assumption
    | with_reducible refine frame_ite ?_ ?_
    | with_reducible refine State.wf_frame (within_trans (by decide) hw) ?_
    | with_reducible refine State.lasUpdate_frame (within_trans (by decide) hw) ?_
    | ((conv => arg 3; arg 34); with_reducible apply frame_mk)
    | exact fun b => absurd (hw _ b) (by decide)
    | with_reducible exact fun _ => rfl
    | ((with_reducible show NonVol.identity _ = NonVol.identity _); rfl)
    | split
    | dsimp only)

theorem State.notReady_frame {W : Nat} {zz : State} {s : State} (hw : Within 131073 W) (hs : Frame W zz s) :
    Frame W zz (State.notReady s) := by
  unfold State.notReady
  try dsimp only
  repeat' (first
    | with_reducible exact hs
    | with_reducible assumption
    | with_reducible refine frame_ite ?_ ?_
    | with_reducible refine State.raise_frame (within_trans (by decide) hw) ?_
    | with_reducible refine State.err_frame (within_trans (by decide) hw) ?_
    | dsimp only)

theorem opLasRise_frame {W : Nat} {zz : State} {s : State} (hw : Within 1 W) (hs : Frame W zz s) :
    Frame W zz (opLasRise s) := by
  unfold opLasRise
  try dsimp only
  repeat' (first
    | with_reducible exact hs
    | with_reducible assumption
    | with_reducible refine frame_ite ?_ ?_
    | with_reducible refine State.wf_frame (within_trans (by decide) hw) ?_
    | dsimp only)

theorem opLasFall_frame {W : Nat} {zz : State} {s : State} (hw : Within 131073 W) (hs : Frame W zz s) :
    Frame W zz (opLasFall s) := by
  unfold opLasFall
  try dsimp only
  repeat' (first
    | with_reducible exact hs
    | with_reducible assumption
    | with_reducible refine frame_ite ?_ ?_
    | with_reducible refine State.wf_frame (within_trans (by decide) hw) ?_
    | with_reducible refine State.notReady_frame (within_trans (by decide) hw) ?_
    | split
    | dsimp only)

theorem opLasTimeout_frame {W : Nat} {zz : State} {s : State} (hw : Within 131073 W) (hs : Frame W zz s) :
    Frame W zz (opLasTimeout s) := by
  unfold opLasTimeout
  try dsimp only
  repeat' (first
    | with_reducible exact hs
    | with_reducible assumption
    | with_reducible refine frame_ite ?_ ?_
    | with_reducible refine State.notReady_frame (within_trans (by decide) hw) ?_
    | split
    | dsimp only)

theorem State.setElems_frame {W : Nat} {zz : State} {s : State} {c : Nat} {e : Elems} (hw : Within 8388608 W) (hs : Frame W zz s) :
    Frame W zz (State.setElems s c e) := by
  unfold State.setElems
  try dsimp only
  repeat' (first
    | with_reducible exact hs
    | with_reducible assumption
    | with_reducible refine frame_ite ?_ ?_
    | ((conv => arg 3; arg 34); with_reducible apply frame_mk)
    | exact fun b => absurd (hw _ b) (by decide)
    | with_reducible exact fun _ => rfl
    | ((with_reducible show NonVol.identity _ = NonVol.identity _); rfl)
    | dsimp only)

theorem State.rxRecal_frame {W : Nat} {zz : State} {s : State} (hw : Within 13762577 W) (hs : Frame W zz s) :
    Frame W zz (State.rxRecal s) := by
  unfold State.rxRecal
  try dsimp only
  repeat' (first
    | with_reducible exact hs
    | with_reducible assumption
    | with_reducible refine frame_ite ?_ ?_
    | with_reducible refine State.calTrigger_frame (within_trans (by decide) hw) ?_
    | dsimp only)

theorem State.elemNext_frame {W : Nat} {zz : State} {s : State} {c : Nat} {last : Option Nat} (hw : Within 8519681 W) (hs : Frame W zz s) :
    Frame W zz (State.elemNext s c last) := by
  unfold State.elemNext
  try dsimp only
  repeat' (first
    | with_reducible exact hs
    | with_reducible assumption
    | with_reducible refine frame_ite ?_ ?_
    | with_reducible refine State.err_frame (within_trans (by decide) hw) ?_
    | with_reducible refine State.setElems_frame (within_trans (by decide) hw) ?_
    | ((conv => arg 3; arg 34); with_reducible apply frame_mk)
    | exact fun b => absurd (hw _ b) (by decide)
    | with_reducible exact fun _ => rfl
    | ((with_reducible show NonVol.identity _ = NonVol.identity _); rfl)
    | split
    | dsimp only)

theorem State.rotationCheck_frame {W : Nat} {zz : State} {s : State} (hw : Within 13762577 W) (hs : Frame W zz s) :
    Frame W zz (State.rotationCheck s) := by
  unfold State.rotationCheck
  try dsimp only
  repeat' (first
    | with_reducible exact hs
    | with_reducible assumption
    | with_reducible refine frame_ite ?_ ?_
    | with_reducible refine State.wf_frame (within_trans (by decide) hw) ?_
    | with_reducible refine State.rxRotDone_frame (within_trans (by decide) hw) ?_
    | with_reducible refine State.mRequest_frame (within_trans (by decide) hw) ?_
    | with_reducible refine State.mEnd_frame (within_trans (by decide) hw) ?_
    | split
    | dsimp only)

theorem State.elemExchange_frame {W : Nat} {zz : State} {s : State} {c : Nat} (hw : Within 8519681 W) (hs : Frame W zz s) :
    Frame W zz (State.elemExchange s c) := by
  unfold State.elemExchange
  try dsimp only
  repeat' (first
    | with_reducible exact hs
    | with_reducible assumption
    | with_reducible refine frame_ite ?_ ?_
    | with_reducible refine State.setElems_frame (within_trans (by decide) hw) ?_
    | with_reducible refine State.elemNext_frame (within_trans (by decide) hw) ?_
    | ((conv => arg 3; arg 34); with_reducible apply frame_mk)
    | exact fun b => absurd (hw _ b) (by decide)
    | with_reducible exact fun _ => rfl
    | ((with_reducible show NonVol.identity _ = NonVol.identity _); rfl)
    | split
    | dsimp only)

theorem State.exchangeIdle_frame {W : Nat} {zz : State} {s : State} (hw : Within 13762577 W) (hs : Frame W zz s) :
    Frame W zz (State.exchangeIdle s) := by
  unfold State.exchangeIdle
  try dsimp only
  repeat' (first
    | with_reducible exact hs
    | with_reducible assumption
    | with_reducible refine frame_ite ?_ ?_
    | with_reducible refine State.rotationCheck_frame (within_trans (by decide) hw) ?_
    | with_reducible refine State.elemExchange_frame (within_trans (by decide) hw) ?_
    | (with_reducible refine frame_iter ?_ ?_) | (with_reducible refine frame_iter_fst ?_ ?_) | (intro _ _ _)
    | split
    | dsimp only)

theorem opSpareCal_frame {W : Nat} {zz : State} {c : Nat} {good : Bool} {s : State} (hw : Within 13762609 W) (hs : Frame W zz s) :
    Frame W zz (opSpareCal c good s) := by
  unfold opSpareCal
  try dsimp only
  repeat' (first
    | with_reducible exact hs
    | with_reducible assumption
    | with_reducible refine frame_ite ?_ ?_
    | with_reducible refine State.err_frame (within_trans (by decide) hw) ?_
    | with_reducible refine State.logFault_frame (within_trans (by decide) hw) ?_
    | with_reducible refine State.setElems_frame (within_trans (by decide) hw) ?_
    | with_reducible refine State.elemNext_frame (within_trans (by decide) hw) ?_
    | with_reducible refine State.rotationCheck_frame (within_trans (by decide) hw) ?_
    | with_reducible refine State.exchangeIdle_frame (within_trans (by decide) hw) ?_
    | ((conv => arg 3; arg 34); with_reducible apply frame_mk)
    | exact fun b => absurd (hw _ b) (by decide)
    | with_reducible exact fun _ => rfl
    | ((with_reducible show NonVol.identity _ = NonVol.identity _); rfl)
    | split
    | dsimp only)

theorem opConvTemp_frame {W : Nat} {zz : State} {temp : Int} {s : State} (hw : Within 13762577 W) (hs : Frame W zz s) :
    Frame W zz (opConvTemp temp s) := by
  unfold opConvTemp
  try dsimp only
  repeat' (first
    | with_reducible exact hs
    | with_reducible assumption
    | with_reducible refine frame_ite ?_ ?_
    | with_reducible refine State.wr_frame (within_trans (by decide) hw) ?_
    | with_reducible refine State.rxRecal_frame (within_trans (by decide) hw) ?_
    | split
    | dsimp only)

theorem opRxPeriod_frame {W : Nat} {zz : State} {s : State} (hw : Within 13762577 W) (hs : Frame W zz s) :
    Frame W zz (opRxPeriod s) := by
  unfold opRxPeriod
  try dsimp only
  repeat' (first
    | with_reducible exact hs
    | with_reducible assumption
    | with_reducible refine frame_ite ?_ ?_
    | with_reducible refine State.rxRecal_frame (within_trans (by decide) hw) ?_
    | split
    | dsimp only)

theorem State.openWindow_frame {W : Nat} {zz : State} {s : State} {L : Time} {last : Bool} (hw : Within 8388608 W) (hs : Frame W zz s) :
    Frame W zz (State.openWindow s L last) := by
  unfold State.openWindow
  try dsimp only
  repeat' (first
    | with_reducible exact hs
    | with_reducible assumption
    | with_reducible refine frame_ite ?_ ?_
    | ((conv => arg 3; arg 34); with_reducible apply frame_mk)
    | exact fun b => absurd (hw _ b) (by decide)
    | with_reducible exact fun _ => rfl
    | ((with_reducible show NonVol.identity _ = NonVol.identity _); rfl)
    | dsimp only)

theorem State.rxRange_frame {W : Nat} {zz : State} {s : State} {rx : List AdcRange} (hw : Within 8388608 W) (hs : Frame W zz s) :
    Frame W zz (State.rxRange s rx) := by
  unfold State.rxRange
  try dsimp only
  repeat' (first
    | with_reducible exact hs
    | with_reducible assumption
    | with_reducible refine frame_ite ?_ ?_
    | ((conv => arg 3; arg 34); with_reducible apply frame_mk)
    | exact fun b => absurd (hw _ b) (by decide)
    | with_reducible exact fun _ => rfl
    | ((with_reducible show NonVol.identity _ = NonVol.identity _); rfl)
    | dsimp only)

theorem State.rxShotEnd_frame {W : Nat} {zz : State} {s : State} (hw : Within 8519681 W) (hs : Frame W zz s) :
    Frame W zz (State.rxShotEnd s) := by
  unfold State.rxShotEnd
  try dsimp only
  repeat' (first
    | with_reducible exact hs
    | with_reducible assumption
    | with_reducible refine frame_ite ?_ ?_
    | with_reducible refine State.wf_frame (within_trans (by decide) hw) ?_
    | with_reducible refine State.raise_frame (within_trans (by decide) hw) ?_
    | with_reducible refine State.err_frame (within_trans (by decide) hw) ?_
    | ((conv => arg 3; arg 34); with_reducible apply frame_mk)
    | exact fun b => absurd (hw _ b) (by decide)
    | with_reducible exact fun _ => rfl
    | ((with_reducible show NonVol.identity _ = NonVol.identity _); rfl)
    | split
    | dsimp only)

theorem opWindowEnd_frame {W : Nat} {zz : State} {rx : List AdcRange} {s : State} (hw : Within 13762581 W) (hs : Frame W zz s) :
    Frame W zz (opWindowEnd rx s) := by
  unfold opWindowEnd
  try dsimp only
  repeat' (first
    | with_reducible exact hs
    | with_reducible assumption
    | with_reducible refine frame_ite ?_ ?_
    | with_reducible refine State.countN_frame (within_trans (by decide) hw) ?_
    | with_reducible refine State.advance_frame (within_trans (by decide) hw) ?_
    | with_reducible refine State.rotationCheck_frame (within_trans (by decide) hw) ?_
    | with_reducible refine State.elemExchange_frame (within_trans (by decide) hw) ?_
    | with_reducible refine State.rxRange_frame (within_trans (by decide) hw) ?_
    | with_reducible refine State.rxShotEnd_frame (within_trans (by decide) hw) ?_
    | (with_reducible refine frame_iter ?_ ?_) | (with_reducible refine frame_iter_fst ?_ ?_) | (intro _ _ _)
    | ((conv => arg 3; arg 34); with_reducible apply frame_mk)
    | exact fun b => absurd (hw _ b) (by decide)
    | with_reducible exact fun _ => rfl
    | ((with_reducible show NonVol.identity _ = NonVol.identity _); rfl)
    | split
    | dsimp only)

end Sys2Proof.Machine
end

