-- ==== Sys2Proof/Laws/FrameDriari.lean ====
section
/-!
SUPPORT. The frame of each operation of Machine/Driari.lean.
-/

set_option maxRecDepth 4000

namespace Sys2Proof.Machine

set_option linter.all false
set_option Elab.async false

theorem State.setPort_frame {W : Nat} {zz : State} {s : State} {q : Nat} {x : DrpPort} (hw : Within 134217728 W) (hs : Frame W zz s) :
    Frame W zz (State.setPort s q x) := by
  unfold State.setPort
  try dsimp only
  repeat' (first
    | with_reducible exact hs
    | with_reducible assumption
    | with_reducible refine frame_ite ?_ ?_
    | ((conv => arg 3; arg 34); with_reducible apply frame_mk)
    | exact fun b => absurd (hw _ b) (by decide)
    | with_reducible exact fun _ => rfl
    | ((with_reducible show NonVol.identity _ = NonVol.identity _); rfl)
    | dsimp only)

theorem State.onPort_frame {W : Nat} {zz : State} {s : State} {q : Nat} {f : DrpPort → DrpPort} (hw : Within 134217728 W) (hs : Frame W zz s) :
    Frame W zz (State.onPort s q f) := by
  unfold State.onPort
  try dsimp only
  repeat' (first
    | with_reducible exact hs
    | with_reducible assumption
    | with_reducible refine frame_ite ?_ ?_
    | with_reducible refine State.setPort_frame (within_trans (by decide) hw) ?_
    | dsimp only)

theorem State.setDrp_frame {W : Nat} {zz : State} {s : State} {q v : Nat} (hw : Within 1 W) (hs : Frame W zz s) :
    Frame W zz (State.setDrp s q v) := by
  unfold State.setDrp
  try dsimp only
  repeat' (first
    | with_reducible exact hs
    | with_reducible assumption
    | with_reducible refine frame_ite ?_ ?_
    | with_reducible refine State.wf_frame (within_trans (by decide) hw) ?_
    | dsimp only)

theorem State.nodeSample_frame {W : Nat} {zz : State} {s : State} {n j k spf : Nat} {w : Word} (hw : Within 4801648145 W) (hs : Frame W zz s) :
    Frame W zz (State.nodeSample s n j k spf w) := by
  unfold State.nodeSample
  try dsimp only
  repeat' (first
    | with_reducible exact hs
    | with_reducible assumption
    | with_reducible refine frame_ite ?_ ?_
    | with_reducible refine frame_ite_fst ?_ ?_
    | with_reducible refine frame_ite_snd ?_ ?_
    | with_reducible refine frame_ite_snd2 ?_ ?_
    | with_reducible refine State.chainIn_frame (within_trans (by decide) hw) ?_
    | with_reducible refine State.setPort_frame (within_trans (by decide) hw) ?_
    | ((conv => arg 3; arg 34); with_reducible apply frame_mk)
    | exact fun b => absurd (hw _ b) (by decide)
    | with_reducible exact fun _ => rfl
    | ((with_reducible show NonVol.identity _ = NonVol.identity _); rfl)
    | split
    | dsimp only)

theorem State.nodeWords_frame {W : Nat} {zz : State} {s : State} {n j : Nat} {ws : List Word} (hw : Within 4801648145 W) (hs : Frame W zz s) :
    Frame W zz (State.nodeWords s n j ws) := by
  unfold State.nodeWords
  try dsimp only
  repeat' (first
    | with_reducible exact hs
    | with_reducible assumption
    | with_reducible refine frame_ite ?_ ?_
    | with_reducible refine State.setChain_frame (within_trans (by decide) hw) ?_
    | with_reducible refine State.resyncChain_frame (within_trans (by decide) hw) ?_
    | with_reducible refine State.nodeSample_frame (within_trans (by decide) hw) ?_
    | (with_reducible refine frame_foldl ?_ ?_) | (with_reducible refine frame_foldl_fst ?_ ?_) | (with_reducible refine frame_foldl_snd ?_ ?_) | (intro _ _ _)
    | ((conv => arg 3; arg 34); with_reducible apply frame_mk)
    | exact fun b => absurd (hw _ b) (by decide)
    | with_reducible exact fun _ => rfl
    | ((with_reducible show NonVol.identity _ = NonVol.identity _); rfl)
    | split
    | dsimp only)

theorem State.forwardNode_frame {W : Nat} {zz : State} {s : State} {n j : Nat} {ws : List Word} (hw : Within 4563403776 W) (hs : Frame W zz s) :
    Frame W zz (State.forwardNode s n j ws) := by
  unfold State.forwardNode
  try dsimp only
  repeat' (first
    | with_reducible exact hs
    | with_reducible assumption
    | with_reducible refine frame_ite ?_ ?_
    | with_reducible refine State.sendTether_frame (within_trans (by decide) hw) ?_
    | split
    | dsimp only)

theorem State.linkUpTo_frame {W : Nat} {zz : State} {s : State} {P c j : Nat} (hw : Within 4801648145 W) (hs : Frame W zz s) :
    Frame W zz (State.linkUpTo s P c j) := by
  unfold State.linkUpTo
  try dsimp only
  repeat' (first
    | with_reducible exact hs
    | with_reducible assumption
    | with_reducible refine frame_ite ?_ ?_
    | with_reducible refine State.onPort_frame (within_trans (by decide) hw) ?_
    | with_reducible refine State.nodeWords_frame (within_trans (by decide) hw) ?_
    | with_reducible refine State.forwardNode_frame (within_trans (by decide) hw) ?_
    | (with_reducible refine frame_iter ?_ ?_) | (with_reducible refine frame_iter_fst ?_ ?_) | (intro _ _ _)
    | ((conv => arg 3; arg 34); with_reducible apply frame_mk)
    | exact fun b => absurd (hw _ b) (by decide)
    | with_reducible exact fun _ => rfl
    | ((with_reducible show NonVol.identity _ = NonVol.identity _); rfl)
    | dsimp only)

theorem State.slotIn_frame {W : Nat} {zz : State} {s : State} {P c j : Nat} {ws : Option (List Word)} (hw : Within 4801648145 W) (hs : Frame W zz s) :
    Frame W zz (State.slotIn s P c j ws) := by
  unfold State.slotIn
  try dsimp only
  repeat' (first
    | with_reducible exact hs
    | with_reducible assumption
    | with_reducible refine frame_ite ?_ ?_
    | with_reducible refine State.onPort_frame (within_trans (by decide) hw) ?_
    | with_reducible refine State.nodeWords_frame (within_trans (by decide) hw) ?_
    | with_reducible refine State.forwardNode_frame (within_trans (by decide) hw) ?_
    | with_reducible refine State.linkUpTo_frame (within_trans (by decide) hw) ?_
    | ((conv => arg 3; arg 34); with_reducible apply frame_mk)
    | exact fun b => absurd (hw _ b) (by decide)
    | with_reducible exact fun _ => rfl
    | ((with_reducible show NonVol.identity _ = NonVol.identity _); rfl)
    | split
    | dsimp only)

theorem State.slotFrom_frame {W : Nat} {zz : State} {s : State} {q P c j : Nat} {ws : Option (List Word)} (hw : Within 4801648145 W) (hs : Frame W zz s) :
    Frame W zz (State.slotFrom s q P c j ws) := by
  unfold State.slotFrom
  try dsimp only
  repeat' (first
    | with_reducible exact hs
    | with_reducible assumption
    | with_reducible refine frame_ite ?_ ?_
    | with_reducible refine State.sendTether_frame (within_trans (by decide) hw) ?_
    | with_reducible refine State.slotIn_frame (within_trans (by decide) hw) ?_
    | split
    | dsimp only)

theorem State.linkFrame_frame {W : Nat} {zz : State} {s : State} {q j : Nat} (hw : Within 4801648145 W) (hs : Frame W zz s) :
    Frame W zz (State.linkFrame s q j) := by
  unfold State.linkFrame
  try dsimp only
  repeat' (first
    | with_reducible exact hs
    | with_reducible assumption
    | with_reducible refine frame_ite ?_ ?_
    | with_reducible refine State.slotFrom_frame (within_trans (by decide) hw) ?_
    | (with_reducible refine frame_iter ?_ ?_) | (with_reducible refine frame_iter_fst ?_ ?_) | (intro _ _ _)
    | split
    | dsimp only)

theorem State.farLate_frame {W : Nat} {zz : State} {s : State} {P j : Nat} (hw : Within 4801648145 W) (hs : Frame W zz s) :
    Frame W zz (State.farLate s P j) := by
  unfold State.farLate
  try dsimp only
  repeat' (first
    | with_reducible exact hs
    | with_reducible assumption
    | with_reducible refine frame_ite ?_ ?_
    | with_reducible refine State.linkUpTo_frame (within_trans (by decide) hw) ?_
    | (with_reducible refine frame_iter ?_ ?_) | (with_reducible refine frame_iter_fst ?_ ?_) | (intro _ _ _)
    | split
    | dsimp only)

theorem State.farWords_frame {W : Nat} {zz : State} {s : State} {n j : Nat} {ws : List Word} (hw : Within 4801648145 W) (hs : Frame W zz s) :
    Frame W zz (State.farWords s n j ws) := by
  unfold State.farWords
  try dsimp only
  repeat' (first
    | with_reducible exact hs
    | with_reducible assumption
    | with_reducible refine frame_ite ?_ ?_
    | with_reducible refine State.slotIn_frame (within_trans (by decide) hw) ?_
    | split
    | dsimp only)

theorem State.takeBlocks_frame {W : Nat} {zz : State} {s : State} {q j : Nat} {f : UpFrame} (hw : Within 4801648145 W) (hs : Frame W zz s) :
    Frame W zz (State.takeBlocks s q j f) := by
  unfold State.takeBlocks
  try dsimp only
  repeat' (first
    | with_reducible exact hs
    | with_reducible assumption
    | with_reducible refine frame_ite ?_ ?_
    | with_reducible refine State.count_frame (within_trans (by decide) hw) ?_
    | with_reducible refine State.countN_frame (within_trans (by decide) hw) ?_
    | with_reducible refine State.slotFrom_frame (within_trans (by decide) hw) ?_
    | (with_reducible refine frame_iter ?_ ?_) | (with_reducible refine frame_iter_fst ?_ ?_) | (intro _ _ _)
    | ((conv => arg 3; arg 34); with_reducible apply frame_mk)
    | exact fun b => absurd (hw _ b) (by decide)
    | with_reducible exact fun _ => rfl
    | ((with_reducible show NonVol.identity _ = NonVol.identity _); rfl)
    | split
    | dsimp only)

theorem State.trainAttempt_frame {W : Nat} {zz : State} {s : State} {P attempt : Nat} (hw : Within 134217729 W) (hs : Frame W zz s) :
    Frame W zz (State.trainAttempt s P attempt) := by
  unfold State.trainAttempt
  try dsimp only
  repeat' (first
    | with_reducible exact hs
    | with_reducible assumption
    | with_reducible refine frame_ite ?_ ?_
    | with_reducible refine State.onPort_frame (within_trans (by decide) hw) ?_
    | with_reducible refine State.setDrp_frame (within_trans (by decide) hw) ?_
    | ((conv => arg 3; arg 34); with_reducible apply frame_mk)
    | exact fun b => absurd (hw _ b) (by decide)
    | with_reducible exact fun _ => rfl
    | ((with_reducible show NonVol.identity _ = NonVol.identity _); rfl)
    | split
    | dsimp only)

theorem State.showSplit_frame {W : Nat} {zz : State} {s : State} {v : Nat} {on : Bool} {last : Nat} (hw : Within 1 W) (hs : Frame W zz s) :
    Frame W zz (State.showSplit s v on last) := by
  unfold State.showSplit
  try dsimp only
  repeat' (first
    | with_reducible exact hs
    | with_reducible assumption
    | with_reducible refine frame_ite ?_ ?_
    | with_reducible refine State.wf_frame (within_trans (by decide) hw) ?_
    | split
    | dsimp only)

theorem State.tellSplit_frame {W : Nat} {zz : State} {s : State} {P : Nat} {on : Bool} {last : Nat} (hw : Within 4563403776 W) (hs : Frame W zz s) :
    Frame W zz (State.tellSplit s P on last) := by
  unfold State.tellSplit
  try dsimp only
  repeat' (first
    | with_reducible exact hs
    | with_reducible assumption
    | with_reducible refine frame_ite ?_ ?_
    | with_reducible refine State.sendLane_frame (within_trans (by decide) hw) ?_
    | split
    | dsimp only)

theorem State.setBreak_frame {W : Nat} {zz : State} {s : State} {P last : Nat} (hw : Within 4563403777 W) (hs : Frame W zz s) :
    Frame W zz (State.setBreak s P last) := by
  unfold State.setBreak
  try dsimp only
  repeat' (first
    | with_reducible exact hs
    | with_reducible assumption
    | with_reducible refine frame_ite ?_ ?_
    | with_reducible refine State.showSplit_frame (within_trans (by decide) hw) ?_
    | with_reducible refine State.tellSplit_frame (within_trans (by decide) hw) ?_
    | split
    | dsimp only)

theorem State.train_frame {W : Nat} {zz : State} {s : State} {P : Nat} {again : Bool} (hw : Within 4698670097 W) (hs : Frame W zz s) :
    Frame W zz (State.train s P again) := by
  unfold State.train
  try dsimp only
  repeat' (first
    | with_reducible exact hs
    | with_reducible assumption
    | with_reducible refine frame_ite ?_ ?_
    | with_reducible refine State.wf_frame (within_trans (by decide) hw) ?_
    | with_reducible refine State.count_frame (within_trans (by decide) hw) ?_
    | with_reducible refine State.onPort_frame (within_trans (by decide) hw) ?_
    | with_reducible refine State.trainAttempt_frame (within_trans (by decide) hw) ?_
    | with_reducible refine State.setBreak_frame (within_trans (by decide) hw) ?_
    | ((conv => arg 3; arg 34); with_reducible apply frame_mk)
    | exact fun b => absurd (hw _ b) (by decide)
    | with_reducible exact fun _ => rfl
    | ((with_reducible show NonVol.identity _ = NonVol.identity _); rfl)
    | split
    | dsimp only)

theorem State.swapEnds_frame {W : Nat} {zz : State} {s : State} (hw : Within 134217728 W) (hs : Frame W zz s) :
    Frame W zz (State.swapEnds s) := by
  unfold State.swapEnds
  try dsimp only
  repeat' (first
    | with_reducible exact hs
    | with_reducible assumption
    | with_reducible refine frame_ite ?_ ?_
    | with_reducible refine State.onPort_frame (within_trans (by decide) hw) ?_
    | (with_reducible refine frame_iter ?_ ?_) | (with_reducible refine frame_iter_fst ?_ ?_) | (intro _ _ _)
    | ((conv => arg 3; arg 34); with_reducible apply frame_mk)
    | exact fun b => absurd (hw _ b) (by decide)
    | with_reducible exact fun _ => rfl
    | ((with_reducible show NonVol.identity _ = NonVol.identity _); rfl)
    | dsimp only)

theorem State.tellNode_frame {W : Nat} {zz : State} {s : State} {P a : Nat} (hw : Within 4563403776 W) (hs : Frame W zz s) :
    Frame W zz (State.tellNode s P a) := by
  unfold State.tellNode
  try dsimp only
  repeat' (first
    | with_reducible exact hs
    | with_reducible assumption
    | with_reducible refine frame_ite ?_ ?_
    | with_reducible refine State.sendLane_frame (within_trans (by decide) hw) ?_
    | split
    | dsimp only)

theorem State.takeBridle_frame {W : Nat} {zz : State} {s : State} {P a : Nat} {b : Bridle} (hw : Within 134217728 W) (hs : Frame W zz s) :
    Frame W zz (State.takeBridle s P a b) := by
  unfold State.takeBridle
  try dsimp only
  repeat' (first
    | with_reducible exact hs
    | with_reducible assumption
    | with_reducible refine frame_ite ?_ ?_
    | with_reducible refine State.onPort_frame (within_trans (by decide) hw) ?_
    | ((conv => arg 3; arg 34); with_reducible apply frame_mk)
    | exact fun b => absurd (hw _ b) (by decide)
    | with_reducible exact fun _ => rfl
    | ((with_reducible show NonVol.identity _ = NonVol.identity _); rfl)
    | dsimp only)

theorem State.reverseBridles_frame {W : Nat} {zz : State} {s : State} {P : Nat} (hw : Within 4697752577 W) (hs : Frame W zz s) :
    Frame W zz (State.reverseBridles s P) := by
  unfold State.reverseBridles
  try dsimp only
  repeat' (first
    | with_reducible exact hs
    | with_reducible assumption
    | with_reducible refine frame_ite ?_ ?_
    | with_reducible refine State.onPort_frame (within_trans (by decide) hw) ?_
    | (with_reducible refine frame_foldl ?_ ?_) | (with_reducible refine frame_foldl_fst ?_ ?_) | (with_reducible refine frame_foldl_snd ?_ ?_) | (intro _ _ _)
    | ((conv => arg 3; arg 34); with_reducible apply frame_mk)
    | exact fun b => absurd (hw _ b) (by decide)
    | with_reducible exact fun _ => rfl
    | ((with_reducible show NonVol.identity _ = NonVol.identity _); rfl)
    | split
    | dsimp only)

theorem State.setTotal_frame {W : Nat} {zz : State} {s : State} {P total : Nat} (hw : Within 4697752577 W) (hs : Frame W zz s) :
    Frame W zz (State.setTotal s P total) := by
  unfold State.setTotal
  try dsimp only
  repeat' (first
    | with_reducible exact hs
    | with_reducible assumption
    | with_reducible refine frame_ite ?_ ?_
    | with_reducible refine State.onPort_frame (within_trans (by decide) hw) ?_
    | with_reducible refine State.reverseBridles_frame (within_trans (by decide) hw) ?_
    | ((conv => arg 3; arg 34); with_reducible apply frame_mk)
    | exact fun b => absurd (hw _ b) (by decide)
    | with_reducible exact fun _ => rfl
    | ((with_reducible show NonVol.identity _ = NonVol.identity _); rfl)
    | split
    | dsimp only)

theorem State.configure_frame {W : Nat} {zz : State} {s : State} {q : Nat} (hw : Within 4697752577 W) (hs : Frame W zz s) :
    Frame W zz (State.configure s q) := by
  unfold State.configure
  try dsimp only
  repeat' (first
    | with_reducible exact hs
    | with_reducible assumption
    | with_reducible refine frame_ite ?_ ?_
    | with_reducible refine State.onPort_frame (within_trans (by decide) hw) ?_
    | with_reducible refine State.reverseBridles_frame (within_trans (by decide) hw) ?_
    | ((conv => arg 3; arg 34); with_reducible apply frame_mk)
    | exact fun b => absurd (hw _ b) (by decide)
    | with_reducible exact fun _ => rfl
    | ((with_reducible show NonVol.identity _ = NonVol.identity _); rfl)
    | split
    | dsimp only)

theorem State.enumDone_frame {W : Nat} {zz : State} {s : State} {q found : Nat} (hw : Within 4697752577 W) (hs : Frame W zz s) :
    Frame W zz (State.enumDone s q found) := by
  unfold State.enumDone
  try dsimp only
  repeat' (first
    | with_reducible exact hs
    | with_reducible assumption
    | with_reducible refine frame_ite ?_ ?_
    | with_reducible refine State.wf_frame (within_trans (by decide) hw) ?_
    | with_reducible refine State.setBreak_frame (within_trans (by decide) hw) ?_
    | with_reducible refine State.configure_frame (within_trans (by decide) hw) ?_
    | split
    | dsimp only)

theorem State.trainFar_frame {W : Nat} {zz : State} {s : State} {q P found : Nat} (hw : Within 134217729 W) (hs : Frame W zz s) :
    Frame W zz (State.trainFar s q P found) := by
  unfold State.trainFar
  try dsimp only
  repeat' (first
    | with_reducible exact hs
    | with_reducible assumption
    | with_reducible refine frame_ite ?_ ?_
    | with_reducible refine State.onPort_frame (within_trans (by decide) hw) ?_
    | with_reducible refine State.setDrp_frame (within_trans (by decide) hw) ?_
    | with_reducible refine State.showSplit_frame (within_trans (by decide) hw) ?_
    | ((conv => arg 3; arg 34); with_reducible apply frame_mk)
    | exact fun b => absurd (hw _ b) (by decide)
    | with_reducible exact fun _ => rfl
    | ((with_reducible show NonVol.identity _ = NonVol.identity _); rfl)
    | split
    | dsimp only)

theorem State.truncate_frame {W : Nat} {zz : State} {s : State} {P found : Nat} {code : Nat} (hw : Within 4697752577 W) (hs : Frame W zz s) :
    Frame W zz (State.truncate s P found code) := by
  unfold State.truncate
  try dsimp only
  repeat' (first
    | with_reducible exact hs
    | with_reducible assumption
    | with_reducible refine frame_ite ?_ ?_
    | with_reducible refine State.raise_frame (within_trans (by decide) hw) ?_
    | with_reducible refine State.err_frame (within_trans (by decide) hw) ?_
    | with_reducible refine State.sendLane_frame (within_trans (by decide) hw) ?_
    | with_reducible refine State.showSplit_frame (within_trans (by decide) hw) ?_
    | with_reducible refine State.enumDone_frame (within_trans (by decide) hw) ?_
    | with_reducible refine State.trainFar_frame (within_trans (by decide) hw) ?_
    | ((conv => arg 3; arg 34); with_reducible apply frame_mk)
    | exact fun b => absurd (hw _ b) (by decide)
    | with_reducible exact fun _ => rfl
    | ((with_reducible show NonVol.identity _ = NonVol.identity _); rfl)
    | split
    | dsimp only)

theorem State.assigned_frame {W : Nat} {zz : State} {s : State} {q rt : Nat} {r : NodeReply} (hw : Within 4697752577 W) (hs : Frame W zz s) :
    Frame W zz (State.assigned s q rt r) := by
  unfold State.assigned
  try dsimp only
  repeat' (first
    | with_reducible exact hs
    | with_reducible assumption
    | with_reducible refine frame_ite ?_ ?_
    | with_reducible refine State.wr_frame (within_trans (by decide) hw) ?_
    | with_reducible refine State.err_frame (within_trans (by decide) hw) ?_
    | with_reducible refine State.onPort_frame (within_trans (by decide) hw) ?_
    | with_reducible refine State.tellNode_frame (within_trans (by decide) hw) ?_
    | with_reducible refine State.enumDone_frame (within_trans (by decide) hw) ?_
    | with_reducible refine State.truncate_frame (within_trans (by decide) hw) ?_
    | ((conv => arg 3; arg 34); with_reducible apply frame_mk)
    | exact fun b => absurd (hw _ b) (by decide)
    | with_reducible exact fun _ => rfl
    | ((with_reducible show NonVol.identity _ = NonVol.identity _); rfl)
    | split
    | dsimp only)

theorem opDsofSend_frame {W : Nat} {zz : State} {q : Nat} {s : State} (hw : Within 4801648149 W) (hs : Frame W zz s) :
    Frame W zz (opDsofSend q s) := by
  unfold opDsofSend
  try dsimp only
  repeat' (first
    | with_reducible exact hs
    | with_reducible assumption
    | with_reducible refine frame_ite ?_ ?_
    | with_reducible refine frame_ite_fst ?_ ?_
    | with_reducible refine frame_ite_snd ?_ ?_
    | with_reducible refine frame_ite_snd2 ?_ ?_
    | with_reducible refine State.advance_frame (within_trans (by decide) hw) ?_
    | with_reducible refine State.emitOut_frame (within_trans (by decide) hw) ?_
    | with_reducible refine State.setPort_frame (within_trans (by decide) hw) ?_
    | with_reducible refine State.setDrp_frame (within_trans (by decide) hw) ?_
    | with_reducible refine State.linkFrame_frame (within_trans (by decide) hw) ?_
    | (with_reducible refine frame_foldl ?_ ?_) | (with_reducible refine frame_foldl_fst ?_ ?_) | (with_reducible refine frame_foldl_snd ?_ ?_) | (intro _ _ _)
    | ((conv => arg 3; arg 34); with_reducible apply frame_mk)
    | exact fun b => absurd (hw _ b) (by decide)
    | with_reducible exact fun _ => rfl
    | ((with_reducible show NonVol.identity _ = NonVol.identity _); rfl)
    | split
    | dsimp only)

theorem State.takeReply_frame {W : Nat} {zz : State} {s : State} {q n rt : Nat} {r : NodeReply} (hw : Within 4697752577 W) (hs : Frame W zz s) :
    Frame W zz (State.takeReply s q n rt r) := by
  unfold State.takeReply
  try dsimp only
  repeat' (first
    | with_reducible exact hs
    | with_reducible assumption
    | with_reducible refine frame_ite ?_ ?_
    | with_reducible refine State.wr_frame (within_trans (by decide) hw) ?_
    | with_reducible refine State.raise_frame (within_trans (by decide) hw) ?_
    | with_reducible refine State.setPort_frame (within_trans (by decide) hw) ?_
    | with_reducible refine State.onPort_frame (within_trans (by decide) hw) ?_
    | with_reducible refine State.tellNode_frame (within_trans (by decide) hw) ?_
    | with_reducible refine State.assigned_frame (within_trans (by decide) hw) ?_
    | ((conv => arg 3; arg 34); with_reducible apply frame_mk)
    | exact fun b => absurd (hw _ b) (by decide)
    | with_reducible exact fun _ => rfl
    | ((with_reducible show NonVol.identity _ = NonVol.identity _); rfl)
    | split
    | dsimp only)

theorem State.takeStatus_frame {W : Nat} {zz : State} {s : State} {q n : Nat} {sl : List (Nat × Bool)} {at_ : Time} (hw : Within 4697752577 W) (hs : Frame W zz s) :
    Frame W zz (State.takeStatus s q n sl at_) := by
  unfold State.takeStatus
  try dsimp only
  repeat' (first
    | with_reducible exact hs
    | with_reducible assumption
    | with_reducible refine frame_ite ?_ ?_
    | with_reducible refine State.onPort_frame (within_trans (by decide) hw) ?_
    | with_reducible refine State.assigned_frame (within_trans (by decide) hw) ?_
    | (with_reducible refine frame_foldl ?_ ?_) | (with_reducible refine frame_foldl_fst ?_ ?_) | (with_reducible refine frame_foldl_snd ?_ ?_) | (intro _ _ _)
    | ((conv => arg 3; arg 34); with_reducible apply frame_mk)
    | exact fun b => absurd (hw _ b) (by decide)
    | with_reducible exact fun _ => rfl
    | ((with_reducible show NonVol.identity _ = NonVol.identity _); rfl)
    | split
    | dsimp only)

theorem State.statusEnd_frame {W : Nat} {zz : State} {s : State} {P n : Nat} (hw : Within 4698805777 W) (hs : Frame W zz s) :
    Frame W zz (State.statusEnd s P n) := by
  unfold State.statusEnd
  try dsimp only
  repeat' (first
    | with_reducible exact hs
    | with_reducible assumption
    | with_reducible refine frame_ite ?_ ?_
    | with_reducible refine State.emit_frame (within_trans (by decide) hw) ?_
    | with_reducible refine State.onPort_frame (within_trans (by decide) hw) ?_
    | with_reducible refine State.assigned_frame (within_trans (by decide) hw) ?_
    | ((conv => arg 3; arg 34); with_reducible apply frame_mk)
    | exact fun b => absurd (hw _ b) (by decide)
    | with_reducible exact fun _ => rfl
    | ((with_reducible show NonVol.identity _ = NonVol.identity _); rfl)
    | split
    | dsimp only)

theorem State.takeEvents_frame {W : Nat} {zz : State} {s : State} {P n : Nat} {es : List NodeEvent} (hw : Within 16384 W) (hs : Frame W zz s) :
    Frame W zz (State.takeEvents s P n es) := by
  unfold State.takeEvents
  try dsimp only
  repeat' (first
    | with_reducible exact hs
    | with_reducible assumption
    | with_reducible refine frame_ite ?_ ?_
    | with_reducible refine State.gatherTrig_frame (within_trans (by decide) hw) ?_
    | (with_reducible refine frame_foldl ?_ ?_) | (with_reducible refine frame_foldl_fst ?_ ?_) | (with_reducible refine frame_foldl_snd ?_ ?_) | (intro _ _ _)
    | split
    | dsimp only)

theorem State.enterLink_frame {W : Nat} {zz : State} {s : State} {q : Nat} (hw : Within 4698801169 W) (hs : Frame W zz s) :
    Frame W zz (State.enterLink s q) := by
  unfold State.enterLink
  try dsimp only
  repeat' (first
    | with_reducible exact hs
    | with_reducible assumption
    | with_reducible refine frame_ite ?_ ?_
    | with_reducible refine State.count_frame (within_trans (by decide) hw) ?_
    | with_reducible refine State.raise_frame (within_trans (by decide) hw) ?_
    | with_reducible refine State.err_frame (within_trans (by decide) hw) ?_
    | with_reducible refine State.onPort_frame (within_trans (by decide) hw) ?_
    | with_reducible refine State.setDrp_frame (within_trans (by decide) hw) ?_
    | with_reducible refine State.setBreak_frame (within_trans (by decide) hw) ?_
    | ((conv => arg 3; arg 34); with_reducible apply frame_mk)
    | exact fun b => absurd (hw _ b) (by decide)
    | with_reducible exact fun _ => rfl
    | ((with_reducible show NonVol.identity _ = NonVol.identity _); rfl)
    | split
    | dsimp only)

theorem State.relock_frame {W : Nat} {zz : State} {s : State} {q rt : Nat} (hw : Within 4563403777 W) (hs : Frame W zz s) :
    Frame W zz (State.relock s q rt) := by
  unfold State.relock
  try dsimp only
  repeat' (first
    | with_reducible exact hs
    | with_reducible assumption
    | with_reducible refine frame_ite ?_ ?_
    | with_reducible refine State.wr_frame (within_trans (by decide) hw) ?_
    | with_reducible refine State.wf_frame (within_trans (by decide) hw) ?_
    | with_reducible refine State.setDrp_frame (within_trans (by decide) hw) ?_
    | with_reducible refine State.setBreak_frame (within_trans (by decide) hw) ?_
    | split
    | dsimp only)

theorem State.frameDone_frame {W : Nat} {zz : State} {s : State} {q n : Nat} (hw : Within 4801648145 W) (hs : Frame W zz s) :
    Frame W zz (State.frameDone s q n) := by
  unfold State.frameDone
  try dsimp only
  repeat' (first
    | with_reducible exact hs
    | with_reducible assumption
    | with_reducible refine frame_ite ?_ ?_
    | with_reducible refine State.farLate_frame (within_trans (by decide) hw) ?_
    | with_reducible refine State.statusEnd_frame (within_trans (by decide) hw) ?_
    | split
    | dsimp only)

theorem opUpstreamFrame_frame {W : Nat} {zz : State} {q : Nat} {f : UpFrame} {s0 : State} (hw : Within 4801648145 W) (hs : Frame W zz s0) :
    Frame W zz (opUpstreamFrame q f s0) := by
  unfold opUpstreamFrame
  try dsimp only
  repeat' (first
    | with_reducible exact hs
    | with_reducible assumption
    | with_reducible refine frame_ite ?_ ?_
    | with_reducible refine State.wr_frame (within_trans (by decide) hw) ?_
    | with_reducible refine State.countN_frame (within_trans (by decide) hw) ?_
    | with_reducible refine State.onPort_frame (within_trans (by decide) hw) ?_
    | with_reducible refine State.linkFrame_frame (within_trans (by decide) hw) ?_
    | with_reducible refine State.takeBlocks_frame (within_trans (by decide) hw) ?_
    | with_reducible refine State.takeReply_frame (within_trans (by decide) hw) ?_
    | with_reducible refine State.takeStatus_frame (within_trans (by decide) hw) ?_
    | with_reducible refine State.takeEvents_frame (within_trans (by decide) hw) ?_
    | with_reducible refine State.enterLink_frame (within_trans (by decide) hw) ?_
    | with_reducible refine State.relock_frame (within_trans (by decide) hw) ?_
    | with_reducible refine State.frameDone_frame (within_trans (by decide) hw) ?_
    | ((conv => arg 3; arg 34); with_reducible apply frame_mk)
    | exact fun b => absurd (hw _ b) (by decide)
    | with_reducible exact fun _ => rfl
    | ((with_reducible show NonVol.identity _ = NonVol.identity _); rfl)
    | split
    | dsimp only)

theorem opUsofMissing_frame {W : Nat} {zz : State} {q bad : Nat} {s0 : State} (hw : Within 4801648145 W) (hs : Frame W zz s0) :
    Frame W zz (opUsofMissing q bad s0) := by
  unfold opUsofMissing
  try dsimp only
  repeat' (first
    | with_reducible exact hs
    | with_reducible assumption
    | with_reducible refine frame_ite ?_ ?_
    | with_reducible refine State.countN_frame (within_trans (by decide) hw) ?_
    | with_reducible refine State.onPort_frame (within_trans (by decide) hw) ?_
    | with_reducible refine State.linkFrame_frame (within_trans (by decide) hw) ?_
    | with_reducible refine State.enterLink_frame (within_trans (by decide) hw) ?_
    | with_reducible refine State.frameDone_frame (within_trans (by decide) hw) ?_
    | ((conv => arg 3; arg 34); with_reducible apply frame_mk)
    | exact fun b => absurd (hw _ b) (by decide)
    | with_reducible exact fun _ => rfl
    | ((with_reducible show NonVol.identity _ = NonVol.identity _); rfl)
    | split
    | dsimp only)

theorem opLinkRetrain_frame {W : Nat} {zz : State} {q : Nat} {s : State} (hw : Within 4698670097 W) (hs : Frame W zz s) :
    Frame W zz (opLinkRetrain q s) := by
  unfold opLinkRetrain
  try dsimp only
  repeat' (first
    | with_reducible exact hs
    | with_reducible assumption
    | with_reducible refine frame_ite ?_ ?_
    | with_reducible refine State.train_frame (within_trans (by decide) hw) ?_
    | split
    | dsimp only)

theorem opTrainTimeout_frame {W : Nat} {zz : State} {q : Nat} {s : State} (hw : Within 134348801 W) (hs : Frame W zz s) :
    Frame W zz (opTrainTimeout q s) := by
  unfold opTrainTimeout
  try dsimp only
  repeat' (first
    | with_reducible exact hs
    | with_reducible assumption
    | with_reducible refine frame_ite ?_ ?_
    | with_reducible refine State.raise_frame (within_trans (by decide) hw) ?_
    | with_reducible refine State.err_frame (within_trans (by decide) hw) ?_
    | with_reducible refine State.onPort_frame (within_trans (by decide) hw) ?_
    | with_reducible refine State.setDrp_frame (within_trans (by decide) hw) ?_
    | with_reducible refine State.trainAttempt_frame (within_trans (by decide) hw) ?_
    | ((conv => arg 3; arg 34); with_reducible apply frame_mk)
    | exact fun b => absurd (hw _ b) (by decide)
    | with_reducible exact fun _ => rfl
    | ((with_reducible show NonVol.identity _ = NonVol.identity _); rfl)
    | split
    | dsimp only)

theorem opNoPartnerRetry_frame {W : Nat} {zz : State} {q : Nat} {s : State} (hw : Within 4698670097 W) (hs : Frame W zz s) :
    Frame W zz (opNoPartnerRetry q s) := by
  unfold opNoPartnerRetry
  try dsimp only
  repeat' (first
    | with_reducible exact hs
    | with_reducible assumption
    | with_reducible refine frame_ite ?_ ?_
    | with_reducible refine State.train_frame (within_trans (by decide) hw) ?_
    | split
    | dsimp only)

theorem opAssignTimeout_frame {W : Nat} {zz : State} {q : Nat} {s : State} (hw : Within 4697752577 W) (hs : Frame W zz s) :
    Frame W zz (opAssignTimeout q s) := by
  unfold opAssignTimeout
  try dsimp only
  repeat' (first
    | with_reducible exact hs
    | with_reducible assumption
    | with_reducible refine frame_ite ?_ ?_
    | with_reducible refine State.setPort_frame (within_trans (by decide) hw) ?_
    | with_reducible refine State.enumDone_frame (within_trans (by decide) hw) ?_
    | with_reducible refine State.truncate_frame (within_trans (by decide) hw) ?_
    | ((conv => arg 3; arg 34); with_reducible apply frame_mk)
    | exact fun b => absurd (hw _ b) (by decide)
    | with_reducible exact fun _ => rfl
    | ((with_reducible show NonVol.identity _ = NonVol.identity _); rfl)
    | split
    | dsimp only)

theorem opRetrain_frame {W : Nat} {zz : State} {q : Nat} {s : State} (hw : Within 4698670097 W) (hs : Frame W zz s) :
    Frame W zz (opRetrain q s) := by
  unfold opRetrain
  try dsimp only
  repeat' (first
    | with_reducible exact hs
    | with_reducible assumption
    | with_reducible refine frame_ite ?_ ?_
    | with_reducible refine State.train_frame (within_trans (by decide) hw) ?_
    | dsimp only)

theorem State.rejoin_frame {W : Nat} {zz : State} {s : State} {P : Nat} (hw : Within 134217728 W) (hs : Frame W zz s) :
    Frame W zz (State.rejoin s P) := by
  unfold State.rejoin
  try dsimp only
  repeat' (first
    | with_reducible exact hs
    | with_reducible assumption
    | with_reducible refine frame_ite ?_ ?_
    | with_reducible refine State.onPort_frame (within_trans (by decide) hw) ?_
    | ((conv => arg 3; arg 34); with_reducible apply frame_mk)
    | exact fun b => absurd (hw _ b) (by decide)
    | with_reducible exact fun _ => rfl
    | ((with_reducible show NonVol.identity _ = NonVol.identity _); rfl)
    | split
    | dsimp only)

theorem opAutoRejoin_frame {W : Nat} {zz : State} {P : Nat} {s : State} (hw : Within 134217728 W) (hs : Frame W zz s) :
    Frame W zz (opAutoRejoin P s) := by
  unfold opAutoRejoin
  try dsimp only
  repeat' (first
    | with_reducible exact hs
    | with_reducible assumption
    | with_reducible refine frame_ite ?_ ?_
    | with_reducible refine State.rejoin_frame (within_trans (by decide) hw) ?_
    | ((conv => arg 3; arg 34); with_reducible apply frame_mk)
    | exact fun b => absurd (hw _ b) (by decide)
    | with_reducible exact fun _ => rfl
    | ((with_reducible show NonVol.identity _ = NonVol.identity _); rfl)
    | split
    | dsimp only)

theorem State.splitBegins_frame {W : Nat} {zz : State} {s : State} {v : Nat} (hw : Within 1179665 W) (hs : Frame W zz s) :
    Frame W zz (State.splitBegins s v) := by
  unfold State.splitBegins
  try dsimp only
  repeat' (first
    | with_reducible exact hs
    | with_reducible assumption
    | with_reducible refine frame_ite ?_ ?_
    | with_reducible refine State.count_frame (within_trans (by decide) hw) ?_
    | with_reducible refine State.raise_frame (within_trans (by decide) hw) ?_
    | with_reducible refine State.err_frame (within_trans (by decide) hw) ?_
    | with_reducible refine State.showSplit_frame (within_trans (by decide) hw) ?_
    | split
    | dsimp only)

theorem State.splitEnds_frame {W : Nat} {zz : State} {s : State} {v : Nat} (hw : Within 4697752577 W) (hs : Frame W zz s) :
    Frame W zz (State.splitEnds s v) := by
  unfold State.splitEnds
  try dsimp only
  repeat' (first
    | with_reducible exact hs
    | with_reducible assumption
    | with_reducible refine frame_ite ?_ ?_
    | with_reducible refine State.wf_frame (within_trans (by decide) hw) ?_
    | with_reducible refine State.showSplit_frame (within_trans (by decide) hw) ?_
    | with_reducible refine State.assigned_frame (within_trans (by decide) hw) ?_
    | split
    | dsimp only)

theorem State.takeSplit_frame {W : Nat} {zz : State} {s : State} {P : Nat} {on : Bool} {last : Nat} (hw : Within 4698801169 W) (hs : Frame W zz s) :
    Frame W zz (State.takeSplit s P on last) := by
  unfold State.takeSplit
  try dsimp only
  repeat' (first
    | with_reducible exact hs
    | with_reducible assumption
    | with_reducible refine frame_ite ?_ ?_
    | with_reducible refine State.showSplit_frame (within_trans (by decide) hw) ?_
    | with_reducible refine State.splitBegins_frame (within_trans (by decide) hw) ?_
    | with_reducible refine State.splitEnds_frame (within_trans (by decide) hw) ?_
    | split
    | dsimp only)

theorem opSplitDetect_frame {W : Nat} {zz : State} {q : Nat} {s : State} (hw : Within 4698801169 W) (hs : Frame W zz s) :
    Frame W zz (opSplitDetect q s) := by
  unfold opSplitDetect
  try dsimp only
  repeat' (first
    | with_reducible exact hs
    | with_reducible assumption
    | with_reducible refine frame_ite ?_ ?_
    | with_reducible refine State.onPort_frame (within_trans (by decide) hw) ?_
    | with_reducible refine State.setDrp_frame (within_trans (by decide) hw) ?_
    | with_reducible refine State.tellSplit_frame (within_trans (by decide) hw) ?_
    | with_reducible refine State.splitBegins_frame (within_trans (by decide) hw) ?_
    | ((conv => arg 3; arg 34); with_reducible apply frame_mk)
    | exact fun b => absurd (hw _ b) (by decide)
    | with_reducible exact fun _ => rfl
    | ((with_reducible show NonVol.identity _ = NonVol.identity _); rfl)
    | split
    | dsimp only)

theorem opDownstreamFrame_frame {W : Nat} {zz : State} {q : Nat} {arr : Time} {sfn : Nat} {valid : Bool} {s : State} (hw : Within 4697752577 W) (hs : Frame W zz s) :
    Frame W zz (opDownstreamFrame q arr sfn valid s) := by
  unfold opDownstreamFrame
  try dsimp only
  repeat' (first
    | with_reducible exact hs
    | with_reducible assumption
    | with_reducible refine frame_ite ?_ ?_
    | with_reducible refine State.emitOut_frame (within_trans (by decide) hw) ?_
    | with_reducible refine State.sendLane_frame (within_trans (by decide) hw) ?_
    | with_reducible refine State.onPort_frame (within_trans (by decide) hw) ?_
    | with_reducible refine State.setDrp_frame (within_trans (by decide) hw) ?_
    | with_reducible refine State.tellSplit_frame (within_trans (by decide) hw) ?_
    | with_reducible refine State.setTotal_frame (within_trans (by decide) hw) ?_
    | with_reducible refine State.splitEnds_frame (within_trans (by decide) hw) ?_
    | ((conv => arg 3; arg 34); with_reducible apply frame_mk)
    | exact fun b => absurd (hw _ b) (by decide)
    | with_reducible exact fun _ => rfl
    | ((with_reducible show NonVol.identity _ = NonVol.identity _); rfl)
    | split
    | dsimp only)

theorem opNodeCmd_frame {W : Nat} {zz : State} {q : Nat} {s : State} (hw : Within 134348801 W) (hs : Frame W zz s) :
    Frame W zz (opNodeCmd q s) := by
  unfold opNodeCmd
  try dsimp only
  repeat' (first
    | with_reducible exact hs
    | with_reducible assumption
    | with_reducible refine frame_ite ?_ ?_
    | with_reducible refine State.wr_frame (within_trans (by decide) hw) ?_
    | with_reducible refine State.err_frame (within_trans (by decide) hw) ?_
    | with_reducible refine State.onPort_frame (within_trans (by decide) hw) ?_
    | ((conv => arg 3; arg 34); with_reducible apply frame_mk)
    | exact fun b => absurd (hw _ b) (by decide)
    | with_reducible exact fun _ => rfl
    | ((with_reducible show NonVol.identity _ = NonVol.identity _); rfl)
    | split
    | dsimp only)

theorem opNodeCmdTimeout_frame {W : Nat} {zz : State} {q : Nat} {s : State} (hw : Within 134348801 W) (hs : Frame W zz s) :
    Frame W zz (opNodeCmdTimeout q s) := by
  unfold opNodeCmdTimeout
  try dsimp only
  repeat' (first
    | with_reducible exact hs
    | with_reducible assumption
    | with_reducible refine frame_ite ?_ ?_
    | with_reducible refine State.wr_frame (within_trans (by decide) hw) ?_
    | with_reducible refine State.raise_frame (within_trans (by decide) hw) ?_
    | with_reducible refine State.setPort_frame (within_trans (by decide) hw) ?_
    | ((conv => arg 3; arg 34); with_reducible apply frame_mk)
    | exact fun b => absurd (hw _ b) (by decide)
    | with_reducible exact fun _ => rfl
    | ((with_reducible show NonVol.identity _ = NonVol.identity _); rfl)
    | split
    | dsimp only)

end Sys2Proof.Machine
end

