-- ==== Sys2Proof/Laws/FrameRaman.lean ====
section
/-!
SUPPORT. The frame of each operation of Machine/Raman.lean.
-/

set_option maxRecDepth 4000

namespace Sys2Proof.Machine

set_option linter.all false
set_option Elab.async false

theorem State.rmnClose_frame {W : Nat} {zz : State} {s : State} {stop : Time} (hw : Within 33554433 W) (hs : Frame W zz s) :
    Frame W zz (State.rmnClose s stop) := by
  unfold State.rmnClose
  try dsimp only
  repeat' (first
    | with_reducible exact hs
    | with_reducible assumption
    | with_reducible refine frame_ite ?_ ?_
    | with_reducible refine State.wr_frame (within_trans (by decide) hw) ?_
    | with_reducible refine State.wf_frame (within_trans (by decide) hw) ?_
    | ((conv => arg 3; arg 34); with_reducible apply frame_mk)
    | exact fun b => absurd (hw _ b) (by decide)
    | with_reducible exact fun _ => rfl
    | ((with_reducible show NonVol.identity _ = NonVol.identity _); rfl)
    | dsimp only)

theorem State.rmnOverdue_frame {W : Nat} {zz : State} {s : State} {n : Nat} (hw : Within 33554433 W) (hs : Frame W zz s) :
    Frame W zz (State.rmnOverdue s n) := by
  unfold State.rmnOverdue
  try dsimp only
  repeat' (first
    | with_reducible exact hs
    | with_reducible assumption
    | with_reducible refine frame_ite ?_ ?_
    | with_reducible refine State.rmnClose_frame (within_trans (by decide) hw) ?_
    | ((conv => arg 3; arg 34); with_reducible apply frame_mk)
    | exact fun b => absurd (hw _ b) (by decide)
    | with_reducible exact fun _ => rfl
    | ((with_reducible show NonVol.identity _ = NonVol.identity _); rfl)
    | split
    | dsimp only)

theorem State.rmnBegin_frame {W : Nat} {zz : State} {s0 : State} {n : Nat} (hw : Within 33554433 W) (hs : Frame W zz s0) :
    Frame W zz (State.rmnBegin s0 n) := by
  unfold State.rmnBegin
  try dsimp only
  repeat' (first
    | with_reducible exact hs
    | with_reducible assumption
    | with_reducible refine frame_ite ?_ ?_
    | with_reducible refine State.rmnOverdue_frame (within_trans (by decide) hw) ?_
    | ((conv => arg 3; arg 34); with_reducible apply frame_mk)
    | exact fun b => absurd (hw _ b) (by decide)
    | with_reducible exact fun _ => rfl
    | ((with_reducible show NonVol.identity _ = NonVol.identity _); rfl)
    | split
    | dsimp only)

theorem State.ramanSkip_frame {W : Nat} {zz : State} {s : State} {n : Nat} {L : Time} {bit : Nat} (hw : Within 33554433 W) (hs : Frame W zz s) :
    Frame W zz (State.ramanSkip s n L bit) := by
  unfold State.ramanSkip
  try dsimp only
  repeat' (first
    | with_reducible exact hs
    | with_reducible assumption
    | with_reducible refine frame_ite ?_ ?_
    | with_reducible refine State.rmnClose_frame (within_trans (by decide) hw) ?_
    | with_reducible refine State.rmnBegin_frame (within_trans (by decide) hw) ?_
    | ((conv => arg 3; arg 34); with_reducible apply frame_mk)
    | exact fun b => absurd (hw _ b) (by decide)
    | with_reducible exact fun _ => rfl
    | ((with_reducible show NonVol.identity _ = NonVol.identity _); rfl)
    | split
    | dsimp only)

theorem State.ramanShot_frame {W : Nat} {zz : State} {s0 : State} {n : Nat} {L : Time} {dark holdover : Bool} (hw : Within 42991633 W) (hs : Frame W zz s0) :
    Frame W zz (State.ramanShot s0 n L dark holdover) := by
  unfold State.ramanShot
  try dsimp only
  repeat' (first
    | with_reducible exact hs
    | with_reducible assumption
    | with_reducible refine frame_ite ?_ ?_
    | with_reducible refine State.count_frame (within_trans (by decide) hw) ?_
    | with_reducible refine State.rmnBegin_frame (within_trans (by decide) hw) ?_
    | ((conv => arg 3; arg 34); with_reducible apply frame_mk)
    | exact fun b => absurd (hw _ b) (by decide)
    | with_reducible exact fun _ => rfl
    | ((with_reducible show NonVol.identity _ = NonVol.identity _); rfl)
    | split
    | dsimp only)

theorem State.rmnRange_frame {W : Nat} {zz : State} {s : State} (hw : Within 8519681 W) (hs : Frame W zz s) :
    Frame W zz (State.rmnRange s) := by
  unfold State.rmnRange
  try dsimp only
  repeat' (first
    | with_reducible exact hs
    | with_reducible assumption
    | with_reducible refine frame_ite ?_ ?_
    | with_reducible refine State.wf_frame (within_trans (by decide) hw) ?_
    | with_reducible refine State.raise_frame (within_trans (by decide) hw) ?_
    | with_reducible refine State.err_frame (within_trans (by decide) hw) ?_
    | ((conv => arg 3; arg 34); with_reducible apply frame_mk)
    | exact fun b => absurd (hw _ b) (by decide)
    | with_reducible exact fun _ => rfl
    | ((with_reducible show NonVol.identity _ = NonVol.identity _); rfl)
    | split
    | dsimp only)

theorem State.ramanEnd_frame {W : Nat} {zz : State} {s : State} {n : Nat} {L : Time} (hw : Within 47317009 W) (hs : Frame W zz s) :
    Frame W zz (State.ramanEnd s n L) := by
  unfold State.ramanEnd
  try dsimp only
  repeat' (first
    | with_reducible exact hs
    | with_reducible assumption
    | with_reducible refine frame_ite ?_ ?_
    | with_reducible refine State.wr_frame (within_trans (by decide) hw) ?_
    | with_reducible refine State.rotationCheck_frame (within_trans (by decide) hw) ?_
    | with_reducible refine State.elemExchange_frame (within_trans (by decide) hw) ?_
    | with_reducible refine State.rmnClose_frame (within_trans (by decide) hw) ?_
    | with_reducible refine State.rmnRange_frame (within_trans (by decide) hw) ?_
    | ((conv => arg 3; arg 34); with_reducible apply frame_mk)
    | exact fun b => absurd (hw _ b) (by decide)
    | with_reducible exact fun _ => rfl
    | ((with_reducible show NonVol.identity _ = NonVol.identity _); rfl)
    | split
    | dsimp only)

theorem State.ramanSample_frame {W : Nat} {zz : State} {s : State} {st as_ : Nat} (hw : Within 47317013 W) (hs : Frame W zz s) :
    Frame W zz (State.ramanSample s st as_) := by
  unfold State.ramanSample
  try dsimp only
  repeat' (first
    | with_reducible exact hs
    | with_reducible assumption
    | with_reducible refine frame_ite ?_ ?_
    | with_reducible refine State.countN_frame (within_trans (by decide) hw) ?_
    | with_reducible refine State.advance_frame (within_trans (by decide) hw) ?_
    | with_reducible refine State.ramanEnd_frame (within_trans (by decide) hw) ?_
    | ((conv => arg 3; arg 34); with_reducible apply frame_mk)
    | exact fun b => absurd (hw _ b) (by decide)
    | with_reducible exact fun _ => rfl
    | ((with_reducible show NonVol.identity _ = NonVol.identity _); rfl)
    | split
    | dsimp only)

theorem opRamanSample_frame {W : Nat} {zz : State} {st as_ : Nat} {s : State} (hw : Within 4610720789 W) (hs : Frame W zz s) :
    Frame W zz (opRamanSample st as_ s) := by
  unfold opRamanSample
  try dsimp only
  repeat' (first
    | with_reducible exact hs
    | with_reducible assumption
    | with_reducible refine frame_ite ?_ ?_
    | with_reducible refine State.sendLane_frame (within_trans (by decide) hw) ?_
    | with_reducible refine State.ramanSample_frame (within_trans (by decide) hw) ?_
    | ((conv => arg 3; arg 34); with_reducible apply frame_mk)
    | exact fun b => absurd (hw _ b) (by decide)
    | with_reducible exact fun _ => rfl
    | ((with_reducible show NonVol.identity _ = NonVol.identity _); rfl)
    | split
    | dsimp only)

theorem State.emitProfile_frame {W : Nat} {zz : State} {s : State} {ref : Time} {profile shots flags : Nat} {tRef : Int}
    {n first : Nat} {bins : List Int} (hw : Within 4564588049 W) (hs : Frame W zz s) :
    Frame W zz (s.emitProfile ref profile shots flags tRef n first bins) := by
  induction n generalizing s first bins with
  | zero => exact hs
  | succ n ih =>
    unfold State.emitProfile
    dsimp only
    exact frame_ite hs (ih (State.emit_frame (within_trans (by decide) hw) hs))

theorem opRamanConversion_frame {W : Nat} {zz : State} {s : State} (hw : Within 4598142481 W) (hs : Frame W zz s) :
    Frame W zz (opRamanConversion s) := by
  unfold opRamanConversion
  try dsimp only
  repeat' (first
    | with_reducible exact hs
    | with_reducible assumption
    | with_reducible refine frame_ite ?_ ?_
    | with_reducible refine State.wr_frame (within_trans (by decide) hw) ?_
    | with_reducible refine State.countN_frame (within_trans (by decide) hw) ?_
    | with_reducible refine State.countMod_frame (within_trans (by decide) hw) ?_
    | with_reducible refine State.raise_frame (within_trans (by decide) hw) ?_
    | with_reducible refine State.err_frame (within_trans (by decide) hw) ?_
    | with_reducible refine State.emitProfile_frame (within_trans (by decide) hw) ?_
    | ((conv => arg 3; arg 34); with_reducible apply frame_mk)
    | exact fun b => absurd (hw _ b) (by decide)
    | with_reducible exact fun _ => rfl
    | ((with_reducible show NonVol.identity _ = NonVol.identity _); rfl)
    | split
    | dsimp only)

theorem State.discardProfile_frame {W : Nat} {zz : State} {s : State} (hw : Within 4598142481 W) (hs : Frame W zz s) :
    Frame W zz (State.discardProfile s) := by
  unfold State.discardProfile
  try dsimp only
  repeat' (first
    | with_reducible exact hs
    | with_reducible assumption
    | with_reducible refine frame_ite ?_ ?_
    | with_reducible refine State.wr_frame (within_trans (by decide) hw) ?_
    | with_reducible refine State.countMod_frame (within_trans (by decide) hw) ?_
    | with_reducible refine State.raise_frame (within_trans (by decide) hw) ?_
    | with_reducible refine State.err_frame (within_trans (by decide) hw) ?_
    | with_reducible refine State.emit_frame (within_trans (by decide) hw) ?_
    | ((conv => arg 3; arg 34); with_reducible apply frame_mk)
    | exact fun b => absurd (hw _ b) (by decide)
    | with_reducible exact fun _ => rfl
    | ((with_reducible show NonVol.identity _ = NonVol.identity _); rfl)
    | split
    | dsimp only)

end Sys2Proof.Machine
end

