-- ==== Sys2Proof/Laws/FrameEngine.lean ====
section
/-!
SUPPORT. The frame of each operation of Machine/Engine.lean.
-/

set_option maxRecDepth 4000

namespace Sys2Proof.Machine

set_option linter.all false
set_option Elab.async false

theorem State.setPoint_frame {W : Nat} {zz : State} {s : State} {p : Nat} {r : PRec} (hw : Within 16777216 W) (hs : Frame W zz s) :
    Frame W zz (State.setPoint s p r) := by
  unfold State.setPoint
  try dsimp only
  repeat' (first
    | with_reducible exact hs
    | with_reducible assumption
    | with_reducible refine frame_ite ?_ ?_
    | ((conv => arg 3; arg 34); with_reducible apply frame_mk)
    | exact fun b => absurd (hw _ b) (by decide)
    | with_reducible exact fun _ => rfl
    | ((with_reducible show NonVol.identity _ = NonVol.identity _); rfl)
    | dsimp only)

theorem State.onShotAcc_frame {W : Nat} {zz : State} {s : State} {f : ShotAcc → ShotAcc} (hw : Within 16777216 W) (hs : Frame W zz s) :
    Frame W zz (State.onShotAcc s f) := by
  unfold State.onShotAcc
  try dsimp only
  repeat' (first
    | with_reducible exact hs
    | with_reducible assumption
    | with_reducible refine frame_ite ?_ ?_
    | ((conv => arg 3; arg 34); with_reducible apply frame_mk)
    | exact fun b => absurd (hw _ b) (by decide)
    | with_reducible exact fun _ => rfl
    | ((with_reducible show NonVol.identity _ = NonVol.identity _); rfl)
    | dsimp only)

theorem State.satShot_frame {W : Nat} {zz : State} {s : State} {n : Nat} (hw : Within 17956881 W) (hs : Frame W zz s) :
    Frame W zz (State.satShot s n) := by
  unfold State.satShot
  try dsimp only
  repeat' (first
    | with_reducible exact hs
    | with_reducible assumption
    | with_reducible refine frame_ite ?_ ?_
    | with_reducible refine State.countN_frame (within_trans (by decide) hw) ?_
    | with_reducible refine State.raise_frame (within_trans (by decide) hw) ?_
    | with_reducible refine State.err_frame (within_trans (by decide) hw) ?_
    | with_reducible refine State.onShotAcc_frame (within_trans (by decide) hw) ?_
    | ((conv => arg 3; arg 34); with_reducible apply frame_mk)
    | exact fun b => absurd (hw _ b) (by decide)
    | with_reducible exact fun _ => rfl
    | ((with_reducible show NonVol.identity _ = NonVol.identity _); rfl)
    | split
    | dsimp only)

theorem State.runSlot_frame {W : Nat} {zz : State} {s : State} {j p : Nat} (hw : Within 17956881 W) (hs : Frame W zz s) :
    Frame W zz (State.runSlot s j p) := by
  unfold State.runSlot
  try dsimp only
  repeat' (first
    | with_reducible exact hs
    | with_reducible assumption
    | with_reducible refine frame_ite ?_ ?_
    | with_reducible refine State.satShot_frame (within_trans (by decide) hw) ?_
    | ((conv => arg 3; arg 34); with_reducible apply frame_mk)
    | exact fun b => absurd (hw _ b) (by decide)
    | with_reducible exact fun _ => rfl
    | ((with_reducible show NonVol.identity _ = NonVol.identity _); rfl)
    | split
    | dsimp only)

end Sys2Proof.Machine
end

