-- ==== Sys2Proof/Laws/FrameZones.lean ====
section
/-!
SUPPORT. The frame of each operation of Machine/Zones.lean.
-/

set_option maxRecDepth 4000

namespace Sys2Proof.Machine

set_option linter.all false
set_option Elab.async false

theorem State.setZst_frame {W : Nat} {zz : State} {s : State} {z : Nat} {v : ZoneSt} (hw : Within 16777216 W) (hs : Frame W zz s) :
    Frame W zz (State.setZst s z v) := by
  unfold State.setZst
  try dsimp only
  repeat' (first
    | with_reducible exact hs
    | with_reducible assumption
    | with_reducible refine frame_ite ?_ ?_
    | ((conv => arg 3; arg 34); with_reducible apply frame_mk)
    | exact fun b => absurd (hw _ b) (by decide)
    | with_reducible exact fun _ => rfl
    | ((with_reducible show NonVol.identity _ = NonVol.identity _); rfl)
    | dsimp only)

theorem State.zoneInterval_frame {W : Nat} {zz : State} {s : State} {z : Zone} (hw : Within 4648490513 W) (hs : Frame W zz s) :
    Frame W zz (State.zoneInterval s z) := by
  unfold State.zoneInterval
  try dsimp only
  repeat' (first
    | with_reducible exact hs
    | with_reducible assumption
    | with_reducible refine frame_ite ?_ ?_
    | with_reducible refine State.count_frame (within_trans (by decide) hw) ?_
    | with_reducible refine State.countMod_frame (within_trans (by decide) hw) ?_
    | with_reducible refine State.raise_frame (within_trans (by decide) hw) ?_
    | with_reducible refine State.err_frame (within_trans (by decide) hw) ?_
    | with_reducible refine State.emit_frame (within_trans (by decide) hw) ?_
    | with_reducible refine State.handZone_frame (within_trans (by decide) hw) ?_
    | with_reducible refine State.gatherTrig_frame (within_trans (by decide) hw) ?_
    | with_reducible refine State.setZst_frame (within_trans (by decide) hw) ?_
    | ((conv => arg 3; arg 34); with_reducible apply frame_mk)
    | exact fun b => absurd (hw _ b) (by decide)
    | with_reducible exact fun _ => rfl
    | ((with_reducible show NonVol.identity _ = NonVol.identity _); rfl)
    | split
    | dsimp only)

theorem State.zonePoint_frame {W : Nat} {zz : State} {s : State} {z : Zone} {p : Nat} (hw : Within 4648490513 W) (hs : Frame W zz s) :
    Frame W zz (State.zonePoint s z p) := by
  unfold State.zonePoint
  try dsimp only
  repeat' (first
    | with_reducible exact hs
    | with_reducible assumption
    | with_reducible refine frame_ite ?_ ?_
    | with_reducible refine State.count_frame (within_trans (by decide) hw) ?_
    | with_reducible refine State.raise_frame (within_trans (by decide) hw) ?_
    | with_reducible refine State.gatherTrig_frame (within_trans (by decide) hw) ?_
    | with_reducible refine State.setZst_frame (within_trans (by decide) hw) ?_
    | with_reducible refine State.zoneInterval_frame (within_trans (by decide) hw) ?_
    | ((conv => arg 3; arg 34); with_reducible apply frame_mk)
    | exact fun b => absurd (hw _ b) (by decide)
    | with_reducible exact fun _ => rfl
    | ((with_reducible show NonVol.identity _ = NonVol.identity _); rfl)
    | split
    | dsimp only)

theorem State.zoneBoundary_frame {W : Nat} {zz : State} {s : State} (hw : Within 16777216 W) (hs : Frame W zz s) :
    Frame W zz (State.zoneBoundary s) := by
  unfold State.zoneBoundary
  try dsimp only
  repeat' (first
    | with_reducible exact hs
    | with_reducible assumption
    | with_reducible refine frame_ite ?_ ?_
    | with_reducible refine State.setZst_frame (within_trans (by decide) hw) ?_
    | (with_reducible refine frame_foldl ?_ ?_) | (with_reducible refine frame_foldl_fst ?_ ?_) | (with_reducible refine frame_foldl_snd ?_ ?_) | (intro _ _ _)
    | ((conv => arg 3; arg 34); with_reducible apply frame_mk)
    | exact fun b => absurd (hw _ b) (by decide)
    | with_reducible exact fun _ => rfl
    | ((with_reducible show NonVol.identity _ = NonVol.identity _); rfl)
    | dsimp only)

theorem State.phaseBlocks_frame {W : Nat} {zz : State} {s : State} {p : Nat} (hw : Within 4564588049 W) (hs : Frame W zz s) :
    Frame W zz (State.phaseBlocks s p) := by
  unfold State.phaseBlocks
  try dsimp only
  repeat' (first
    | with_reducible exact hs
    | with_reducible assumption
    | with_reducible refine frame_ite ?_ ?_
    | with_reducible refine State.emit_frame (within_trans (by decide) hw) ?_
    | (with_reducible refine frame_iter ?_ ?_) | (with_reducible refine frame_iter_fst ?_ ?_) | (intro _ _ _)
    | ((conv => arg 3; arg 34); with_reducible apply frame_mk)
    | exact fun b => absurd (hw _ b) (by decide)
    | with_reducible exact fun _ => rfl
    | ((with_reducible show NonVol.identity _ = NonVol.identity _); rfl)
    | split
    | dsimp only)

theorem State.contactSheets_frame {W : Nat} {zz : State} {s : State} {p : Nat} (hw : Within 4564588049 W) (hs : Frame W zz s) :
    Frame W zz (State.contactSheets s p) := by
  unfold State.contactSheets
  try dsimp only
  repeat' (first
    | with_reducible exact hs
    | with_reducible assumption
    | with_reducible refine frame_ite ?_ ?_
    | with_reducible refine State.emit_frame (within_trans (by decide) hw) ?_
    | (with_reducible refine frame_iter ?_ ?_) | (with_reducible refine frame_iter_fst ?_ ?_) | (intro _ _ _)
    | ((conv => arg 3; arg 34); with_reducible apply frame_mk)
    | exact fun b => absurd (hw _ b) (by decide)
    | with_reducible exact fun _ => rfl
    | ((with_reducible show NonVol.identity _ = NonVol.identity _); rfl)
    | split
    | dsimp only)

theorem State.tapFibre_frame {W : Nat} {zz : State} {s : State} {p : Nat} (hw : Within 4564653585 W) (hs : Frame W zz s) :
    Frame W zz (State.tapFibre s p) := by
  unfold State.tapFibre
  try dsimp only
  repeat' (first
    | with_reducible exact hs
    | with_reducible assumption
    | with_reducible refine frame_ite ?_ ?_
    | with_reducible refine State.capItem_frame (within_trans (by decide) hw) ?_
    | with_reducible refine State.tapUnits_frame (within_trans (by decide) hw) ?_ ?_
    | intro _ _ _
    | intro _ _
    | split
    | dsimp only)

end Sys2Proof.Machine
end

