-- ==== Sys2Proof/Laws/FrameFibre.lean ====
section
/-!
SUPPORT. The frame of each operation of Machine/Fibre.lean.
-/

set_option maxRecDepth 4000

namespace Sys2Proof.Machine

set_option linter.all false
set_option Elab.async false

theorem State.fibreLaunch_frame {W : Nat} {zz : State} {s : State} {n j : Nat} {L : Time} {dark holdover : Bool} (hw : Within 16777216 W) (hs : Frame W zz s) :
    Frame W zz (State.fibreLaunch s n j L dark holdover) := by
  unfold State.fibreLaunch
  try dsimp only
  repeat' (first
    | with_reducible exact hs
    | with_reducible assumption
    | with_reducible refine frame_ite ?_ ?_
    | ((conv => arg 3; arg 34); with_reducible apply frame_mk)
    | exact fun b => absurd (hw _ b) (by decide)
    | with_reducible exact fun _ => rfl
    | ((with_reducible show NonVol.identity _ = NonVol.identity _); rfl)
    | split
    | dsimp only)

theorem State.shotComplete_frame {W : Nat} {zz : State} {s : State} (hw : Within 16777216 W) (hs : Frame W zz s) :
    Frame W zz (State.shotComplete s) := by
  unfold State.shotComplete
  try dsimp only
  repeat' (first
    | with_reducible exact hs
    | with_reducible assumption
    | with_reducible refine frame_ite ?_ ?_
    | ((conv => arg 3; arg 34); with_reducible apply frame_mk)
    | exact fun b => absurd (hw _ b) (by decide)
    | with_reducible exact fun _ => rfl
    | ((with_reducible show NonVol.identity _ = NonVol.identity _); rfl)
    | dsimp only)

theorem State.fibreEnd_frame {W : Nat} {zz : State} {s : State} (hw : Within 16908289 W) (hs : Frame W zz s) :
    Frame W zz (State.fibreEnd s) := by
  unfold State.fibreEnd
  try dsimp only
  repeat' (first
    | with_reducible exact hs
    | with_reducible assumption
    | with_reducible refine frame_ite ?_ ?_
    | with_reducible refine State.wr_frame (within_trans (by decide) hw) ?_
    | with_reducible refine State.countMod_frame (within_trans (by decide) hw) ?_
    | with_reducible refine State.raise_frame (within_trans (by decide) hw) ?_
    | with_reducible refine State.err_frame (within_trans (by decide) hw) ?_
    | with_reducible refine State.shotComplete_frame (within_trans (by decide) hw) ?_
    | ((conv => arg 3; arg 34); with_reducible apply frame_mk)
    | exact fun b => absurd (hw _ b) (by decide)
    | with_reducible exact fun _ => rfl
    | ((with_reducible show NonVol.identity _ = NonVol.identity _); rfl)
    | split
    | dsimp only)

theorem State.wrAll_frame {W : Nat} {zz : State} {s : State} {l : List (Nat × Word)} (hw : Within 1 W) (hs : Frame W zz s) :
    Frame W zz (State.wrAll s l) := by
  unfold State.wrAll
  try dsimp only
  repeat' (first
    | with_reducible exact hs
    | with_reducible assumption
    | with_reducible refine frame_ite ?_ ?_
    | with_reducible refine State.wr_frame (within_trans (by decide) hw) ?_
    | (with_reducible refine frame_foldl ?_ ?_) | (with_reducible refine frame_foldl_fst ?_ ?_) | (with_reducible refine frame_foldl_snd ?_ ?_) | (intro _ _ _)
    | dsimp only)

theorem State.withOld_frame {W : Nat} {zz : State} {s : State} {f : State → State} (hw : Within 1 W) (hs : Frame W zz s) (hf_ : ∀ x0_, Frame W zz x0_ → Frame W zz (f x0_)) :
    Frame W zz (State.withOld s f) := by
  unfold State.withOld
  try dsimp only
  repeat' (first
    | with_reducible exact hs
    | with_reducible assumption
    | with_reducible refine frame_ite ?_ ?_
    | with_reducible apply hf_
    | with_reducible refine State.wrAll_frame (within_trans (by decide) hw) ?_
    | split
    | dsimp only)

theorem State.withRun_frame {W : Nat} {zz : State} {s : State} {j : Nat} {f : State → State} (hw : Within 16777217 W) (hs : Frame W zz s) (hf_ : ∀ x0_, Frame W zz x0_ → Frame W zz (f x0_)) :
    Frame W zz (State.withRun s j f) := by
  unfold State.withRun
  try dsimp only
  repeat' (first
    | with_reducible exact hs
    | with_reducible assumption
    | with_reducible refine frame_ite ?_ ?_
    | with_reducible apply hf_
    | with_reducible refine State.withOld_frame (within_trans (by decide) hw) ?_ ?_
    | intro _ _ _
    | intro _ _
    | ((conv => arg 3; arg 34); with_reducible apply frame_mk)
    | exact fun b => absurd (hw _ b) (by decide)
    | with_reducible exact fun _ => rfl
    | ((with_reducible show NonVol.identity _ = NonVol.identity _); rfl)
    | split
    | dsimp only)

theorem State.pssUncorr_frame {W : Nat} {zz : State} {s : State} {p w : Nat} {scrub snap : Bool} (hw : Within 1179665 W) (hs : Frame W zz s) :
    Frame W zz (State.pssUncorr s p w scrub snap) := by
  unfold State.pssUncorr
  try dsimp only
  repeat' (first
    | with_reducible exact hs
    | with_reducible assumption
    | with_reducible refine frame_ite ?_ ?_
    | with_reducible refine State.wr_frame (within_trans (by decide) hw) ?_
    | with_reducible refine State.count_frame (within_trans (by decide) hw) ?_
    | with_reducible refine State.raise_frame (within_trans (by decide) hw) ?_
    | with_reducible refine State.err_frame (within_trans (by decide) hw) ?_
    | dsimp only)

theorem State.pssRead_frame {W : Nat} {zz : State} {s : State} {p : Nat} {ecc : PssRead} {scrub snap : Bool} (hw : Within 1179665 W) (hs : Frame W zz s) :
    Frame W zz (State.pssRead s p ecc scrub snap) := by
  unfold State.pssRead
  try dsimp only
  repeat' (first
    | with_reducible exact hs
    | with_reducible assumption
    | with_reducible refine frame_ite ?_ ?_
    | with_reducible refine State.countN_frame (within_trans (by decide) hw) ?_
    | with_reducible refine State.raise_frame (within_trans (by decide) hw) ?_
    | with_reducible refine State.pssUncorr_frame (within_trans (by decide) hw) ?_
    | (with_reducible refine frame_foldl ?_ ?_) | (with_reducible refine frame_foldl_fst ?_ ?_) | (with_reducible refine frame_foldl_snd ?_ ?_) | (intro _ _ _)
    | split
    | dsimp only)

theorem State.pssWord_frame {W : Nat} {zz : State} {s : State} {p w : Nat} {ecc : PssRead} {scrub : Bool} (hw : Within 1179665 W) (hs : Frame W zz s) :
    Frame W zz (State.pssWord s p w ecc scrub) := by
  unfold State.pssWord
  try dsimp only
  repeat' (first
    | with_reducible exact hs
    | with_reducible assumption
    | with_reducible refine frame_ite ?_ ?_
    | with_reducible refine State.count_frame (within_trans (by decide) hw) ?_
    | with_reducible refine State.raise_frame (within_trans (by decide) hw) ?_
    | with_reducible refine State.pssUncorr_frame (within_trans (by decide) hw) ?_
    | split
    | dsimp only)

theorem State.matchPoint_frame {W : Nat} {zz : State} {s : State} {p : Nat} (hw : Within 16777216 W) (hs : Frame W zz s) :
    Frame W zz (State.matchPoint s p) := by
  unfold State.matchPoint
  try dsimp only
  repeat' (first
    | with_reducible exact hs
    | with_reducible assumption
    | with_reducible refine frame_ite ?_ ?_
    | (with_reducible refine frame_foldl ?_ ?_) | (with_reducible refine frame_foldl_fst ?_ ?_) | (with_reducible refine frame_foldl_snd ?_ ?_) | (intro _ _ _)
    | ((conv => arg 3; arg 34); with_reducible apply frame_mk)
    | exact fun b => absurd (hw _ b) (by decide)
    | with_reducible exact fun _ => rfl
    | ((with_reducible show NonVol.identity _ = NonVol.identity _); rfl)
    | split
    | dsimp only)

theorem State.afterWrite_frame {W : Nat} {zz : State} {s : State} {p : Nat} (hw : Within 4648556049 W) (hs : Frame W zz s) :
    Frame W zz (State.afterWrite s p) := by
  unfold State.afterWrite
  try dsimp only
  repeat' (first
    | with_reducible exact hs
    | with_reducible assumption
    | with_reducible refine frame_ite ?_ ?_
    | with_reducible refine State.count_frame (within_trans (by decide) hw) ?_
    | with_reducible refine State.zonePoint_frame (within_trans (by decide) hw) ?_
    | with_reducible refine State.phaseBlocks_frame (within_trans (by decide) hw) ?_
    | with_reducible refine State.contactSheets_frame (within_trans (by decide) hw) ?_
    | with_reducible refine State.tapFibre_frame (within_trans (by decide) hw) ?_
    | with_reducible refine State.matchPoint_frame (within_trans (by decide) hw) ?_
    | (with_reducible refine frame_foldl ?_ ?_) | (with_reducible refine frame_foldl_fst ?_ ?_) | (with_reducible refine frame_foldl_snd ?_ ?_) | (intro _ _ _)
    | dsimp only)

theorem State.countFade_frame {W : Nat} {zz : State} {s : State} (hw : Within 1 W) (hs : Frame W zz s) :
    Frame W zz (State.countFade s) := by
  unfold State.countFade
  try dsimp only
  repeat' (first
    | with_reducible exact hs
    | with_reducible assumption
    | with_reducible refine frame_ite ?_ ?_
    | with_reducible refine State.wr_frame (within_trans (by decide) hw) ?_
    | split
    | dsimp only)

theorem State.noisePoint_frame {W : Nat} {zz : State} {s : State} {p : Nat} (hw : Within 16777216 W) (hs : Frame W zz s) :
    Frame W zz (State.noisePoint s p) := by
  unfold State.noisePoint
  try dsimp only
  repeat' (first
    | with_reducible exact hs
    | with_reducible assumption
    | with_reducible refine frame_ite ?_ ?_
    | with_reducible refine State.onShotAcc_frame (within_trans (by decide) hw) ?_
    | ((conv => arg 3; arg 34); with_reducible apply frame_mk)
    | exact fun b => absurd (hw _ b) (by decide)
    | with_reducible exact fun _ => rfl
    | ((with_reducible show NonVol.identity _ = NonVol.identity _); rfl)
    | split
    | dsimp only)

theorem State.feedPoint_frame {W : Nat} {zz : State} {s : State} {p : Nat} {r : List Nat} (hw : Within 4563403776 W) (hs : Frame W zz s) :
    Frame W zz (State.feedPoint s p r) := by
  unfold State.feedPoint
  try dsimp only
  repeat' (first
    | with_reducible exact hs
    | with_reducible assumption
    | with_reducible refine frame_ite ?_ ?_
    | with_reducible refine State.sendLane_frame (within_trans (by decide) hw) ?_
    | split
    | dsimp only)

theorem State.updatePoint_frame {W : Nat} {zz : State} {s : State} {p : Nat} {new : List RawSample} {ecc : PssRead} (hw : Within 4648556053 W) (hs : Frame W zz s) :
    Frame W zz (State.updatePoint s p new ecc) := by
  unfold State.updatePoint
  try dsimp only
  repeat' (first
    | with_reducible exact hs
    | with_reducible assumption
    | with_reducible refine frame_ite ?_ ?_
    | with_reducible refine State.count_frame (within_trans (by decide) hw) ?_
    | with_reducible refine State.advance_frame (within_trans (by decide) hw) ?_
    | with_reducible refine State.setPoint_frame (within_trans (by decide) hw) ?_
    | with_reducible refine State.onShotAcc_frame (within_trans (by decide) hw) ?_
    | with_reducible refine State.runSlot_frame (within_trans (by decide) hw) ?_
    | with_reducible refine State.fibreEnd_frame (within_trans (by decide) hw) ?_
    | with_reducible refine State.pssRead_frame (within_trans (by decide) hw) ?_
    | with_reducible refine State.afterWrite_frame (within_trans (by decide) hw) ?_
    | with_reducible refine State.countFade_frame (within_trans (by decide) hw) ?_
    | with_reducible refine State.noisePoint_frame (within_trans (by decide) hw) ?_
    | with_reducible refine State.feedPoint_frame (within_trans (by decide) hw) ?_
    | (with_reducible refine frame_foldl ?_ ?_) | (with_reducible refine frame_foldl_fst ?_ ?_) | (with_reducible refine frame_foldl_snd ?_ ?_) | (intro _ _ _)
    | ((conv => arg 3; arg 34); with_reducible apply frame_mk)
    | exact fun b => absurd (hw _ b) (by decide)
    | with_reducible exact fun _ => rfl
    | ((with_reducible show NonVol.identity _ = NonVol.identity _); rfl)
    | split
    | dsimp only)

theorem opScrub_frame {W : Nat} {zz : State} {ecc : PssRead} {s : State} (hw : Within 17956881 W) (hs : Frame W zz s) :
    Frame W zz (opScrub ecc s) := by
  unfold opScrub
  try dsimp only
  repeat' (first
    | with_reducible exact hs
    | with_reducible assumption
    | with_reducible refine frame_ite ?_ ?_
    | with_reducible refine State.countMod_frame (within_trans (by decide) hw) ?_
    | with_reducible refine State.raise_frame (within_trans (by decide) hw) ?_
    | with_reducible refine State.setPoint_frame (within_trans (by decide) hw) ?_
    | with_reducible refine State.pssWord_frame (within_trans (by decide) hw) ?_
    | ((conv => arg 3; arg 34); with_reducible apply frame_mk)
    | exact fun b => absurd (hw _ b) (by decide)
    | with_reducible exact fun _ => rfl
    | ((with_reducible show NonVol.identity _ = NonVol.identity _); rfl)
    | split
    | dsimp only)

theorem State.snapWord_frame {W : Nat} {zz : State} {s : State} {x o : Nat} {ecc : PssRead} (hw : Within 17956881 W) (hs : Frame W zz s) :
    Frame W zz (State.snapWord s x o ecc).2 := by
  unfold State.snapWord
  try dsimp only
  repeat' (first
    | with_reducible exact hs
    | with_reducible assumption
    | with_reducible refine frame_ite ?_ ?_
    | with_reducible refine frame_ite_fst ?_ ?_
    | with_reducible refine frame_ite_snd ?_ ?_
    | with_reducible refine frame_ite_snd2 ?_ ?_
    | with_reducible refine State.pssWord_frame (within_trans (by decide) hw) ?_
    | ((conv => arg 3; arg 34); with_reducible apply frame_mk)
    | exact fun b => absurd (hw _ b) (by decide)
    | with_reducible exact fun _ => rfl
    | ((with_reducible show NonVol.identity _ = NonVol.identity _); rfl)
    | split
    | dsimp only)

theorem State.snapWord_frame' {W : Nat} {zz u : State} {s : State} {x o : Nat} {ecc : PssRead} {y_} (he_ : State.snapWord s x o ecc = (y_, u)) (hw : Within 17956881 W)
    (hs : Frame W zz s) : Frame W zz u := by
  have k : Frame W zz (State.snapWord s x o ecc).2 := State.snapWord_frame hw hs
  rw [he_] at k
  exact k

end Sys2Proof.Machine
end

