-- ==== Sys2Proof/Laws/FrameSystem.lean ====
section
/-!
SUPPORT. The frame of each operation of Machine/System.lean.
-/

set_option maxRecDepth 4000

namespace Sys2Proof.Machine

set_option linter.all false
set_option Elab.async false

theorem State.ballsReset_frame {W : Nat} {zz : State} {s : State} (hw : Within 4303355905 W) (hs : Frame W zz s) :
    Frame W zz (State.ballsReset s) := by
  unfold State.ballsReset
  try dsimp only
  repeat' (first
    | with_reducible exact hs
    | with_reducible assumption
    | with_reducible refine frame_ite ?_ ?_
    | with_reducible refine State.emitOut_frame (within_trans (by decide) hw) ?_
    | with_reducible refine State.setLasEn_frame (within_trans (by decide) hw) ?_
    | with_reducible refine State.setOsw_frame (within_trans (by decide) hw) ?_
    | with_reducible refine State.dropTrig_frame (within_trans (by decide) hw) ?_
    | (with_reducible refine frame_iter ?_ ?_) | (with_reducible refine frame_iter_fst ?_ ?_) | (intro _ _ _)
    | split
    | dsimp only)

theorem State.fullReset_frame {W : Nat} {zz : State} {s : State} {cause block : Nat} (hw : Within 8589934591 W)
    (hs : Frame W zz s) : Frame W zz (s.fullReset cause block) := by
  unfold State.fullReset
  dsimp only
  refine State.wr_frame (within_trans (by decide) hw) (State.wr_frame (within_trans (by decide) hw) ?_)
  refine frame_trans hs ?_
  have k := (State.logFault_frame (W := 1048608) (s := s) (err := 0) (page := 0) (data := cause + 65536 * block) (within_refl _)
    (frame_refl _ s)).identity
  constructor <;> first
    | exact fun b => absurd (hw _ b) (by decide)
    | rfl
    | exact fun _ => rfl
    | exact k

theorem State.holdReset_frame {W : Nat} {zz : State} {s : State} {cause : Nat} (hw : Within 8589934591 W) (hs : Frame W zz s) :
    Frame W zz (State.holdReset s cause) := by
  unfold State.holdReset
  try dsimp only
  repeat' (first
    | with_reducible exact hs
    | with_reducible assumption
    | with_reducible refine frame_ite ?_ ?_
    | with_reducible refine State.wr_frame (within_trans (by decide) hw) ?_
    | with_reducible refine State.fullReset_frame (within_trans (by decide) hw) ?_
    | split
    | dsimp only)

theorem opRailOut_frame {W : Nat} {zz : State} {rails : Nat} {s : State} (hw : Within 8589934591 W) (hs : Frame W zz s) :
    Frame W zz (opRailOut rails s) := by
  unfold opRailOut
  try dsimp only
  repeat' (first
    | with_reducible exact hs
    | with_reducible assumption
    | with_reducible refine frame_ite ?_ ?_
    | with_reducible refine State.wr_frame (within_trans (by decide) hw) ?_
    | with_reducible refine State.holdReset_frame (within_trans (by decide) hw) ?_
    | ((conv => arg 3; arg 34); with_reducible apply frame_mk)
    | exact fun b => absurd (hw _ b) (by decide)
    | with_reducible exact fun _ => rfl
    | ((with_reducible show NonVol.identity _ = NonVol.identity _); rfl)
    | split
    | dsimp only)

theorem State.release_frame {W : Nat} {zz : State} {s : State} {st : Straps} (hw : Within 8265 W) (hs : Frame W zz s) :
    Frame W zz (State.release s st) := by
  unfold State.release
  try dsimp only
  repeat' (first
    | with_reducible exact hs
    | with_reducible assumption
    | with_reducible refine frame_ite ?_ ?_
    | with_reducible refine State.wr_frame (within_trans (by decide) hw) ?_
    | with_reducible refine State.wf_frame (within_trans (by decide) hw) ?_
    | with_reducible refine State.takeSource_frame (within_trans (by decide) hw) ?_
    | ((conv => arg 3; arg 34); with_reducible apply frame_mk)
    | exact fun b => absurd (hw _ b) (by decide)
    | with_reducible exact fun _ => rfl
    | ((with_reducible show NonVol.identity _ = NonVol.identity _); rfl)
    | split
    | dsimp only)

theorem opRailValid_frame {W : Nat} {zz : State} {st : Straps} {s : State} (hw : Within 8265 W) (hs : Frame W zz s) :
    Frame W zz (opRailValid st s) := by
  unfold opRailValid
  try dsimp only
  repeat' (first
    | with_reducible exact hs
    | with_reducible assumption
    | with_reducible refine frame_ite ?_ ?_
    | with_reducible refine State.release_frame (within_trans (by decide) hw) ?_
    | ((conv => arg 3; arg 34); with_reducible apply frame_mk)
    | exact fun b => absurd (hw _ b) (by decide)
    | with_reducible exact fun _ => rfl
    | ((with_reducible show NonVol.identity _ = NonVol.identity _); rfl)
    | split
    | dsimp only)

theorem opResetLow_frame {W : Nat} {zz : State} {s : State} (hw : Within 8589934591 W) (hs : Frame W zz s) :
    Frame W zz (opResetLow s) := by
  unfold opResetLow
  try dsimp only
  repeat' (first
    | with_reducible exact hs
    | with_reducible assumption
    | with_reducible refine frame_ite ?_ ?_
    | with_reducible refine State.holdReset_frame (within_trans (by decide) hw) ?_
    | ((conv => arg 3; arg 34); with_reducible apply frame_mk)
    | exact fun b => absurd (hw _ b) (by decide)
    | with_reducible exact fun _ => rfl
    | ((with_reducible show NonVol.identity _ = NonVol.identity _); rfl)
    | dsimp only)

theorem opResetRelease_frame {W : Nat} {zz : State} {st : Straps} {s : State} (hw : Within 8265 W) (hs : Frame W zz s) :
    Frame W zz (opResetRelease st s) := by
  unfold opResetRelease
  try dsimp only
  repeat' (first
    | with_reducible exact hs
    | with_reducible assumption
    | with_reducible refine frame_ite ?_ ?_
    | with_reducible refine State.release_frame (within_trans (by decide) hw) ?_
    | ((conv => arg 3; arg 34); with_reducible apply frame_mk)
    | exact fun b => absurd (hw _ b) (by decide)
    | with_reducible exact fun _ => rfl
    | ((with_reducible show NonVol.identity _ = NonVol.identity _); rfl)
    | split
    | dsimp only)

theorem opMonitorMiss_frame {W : Nat} {zz : State} {f : MonFn} {_inst : Nat} {s : State} (hw : Within 8589934591 W) (hs : Frame W zz s) :
    Frame W zz (opMonitorMiss f _inst s) := by
  unfold opMonitorMiss
  try dsimp only
  repeat' (first
    | with_reducible exact hs
    | with_reducible assumption
    | with_reducible refine frame_ite ?_ ?_
    | with_reducible refine State.fullReset_frame (within_trans (by decide) hw) ?_
    | split
    | dsimp only)

theorem opWatchdog_frame {W : Nat} {zz : State} {s : State} (hw : Within 8589934591 W) (hs : Frame W zz s) :
    Frame W zz (opWatchdog s) := by
  unfold opWatchdog
  try dsimp only
  repeat' (first
    | with_reducible exact hs
    | with_reducible assumption
    | with_reducible refine frame_ite ?_ ?_
    | with_reducible refine State.fullReset_frame (within_trans (by decide) hw) ?_
    | split
    | dsimp only)

theorem opSysReset_frame {W : Nat} {zz : State} {x : Nat} {s : State} (hw : Within 8589934591 W) (hs : Frame W zz s) :
    Frame W zz (opSysReset x s) := by
  unfold opSysReset
  try dsimp only
  repeat' (first
    | with_reducible exact hs
    | with_reducible assumption
    | with_reducible refine frame_ite ?_ ?_
    | with_reducible refine State.err_frame (within_trans (by decide) hw) ?_
    | with_reducible refine State.fullReset_frame (within_trans (by decide) hw) ?_
    | split
    | dsimp only)

theorem State.wipe_frame {W : Nat} {zz : State} {s : State} {cause : Nat} (hw : Within 1179697 W) (hs : Frame W zz s) :
    Frame W zz (State.wipe s cause) := by
  unfold State.wipe
  try dsimp only
  repeat' (first
    | with_reducible exact hs
    | with_reducible assumption
    | with_reducible refine frame_ite ?_ ?_
    | with_reducible refine State.wr64_frame (within_trans (by decide) hw) ?_
    | with_reducible refine State.count_frame (within_trans (by decide) hw) ?_
    | with_reducible refine State.raise_frame (within_trans (by decide) hw) ?_
    | with_reducible refine State.err_frame (within_trans (by decide) hw) ?_
    | with_reducible refine State.logFault_frame (within_trans (by decide) hw) ?_
    | ((conv => arg 3; arg 34); with_reducible apply frame_mk)
    | exact fun b => absurd (hw _ b) (by decide)
    | with_reducible exact fun _ => rfl
    | ((with_reducible show NonVol.identity _ = NonVol.identity _); rfl)
    | dsimp only)

theorem opWipe_frame {W : Nat} {zz : State} {x : Nat} {s : State} (hw : Within 1179697 W) (hs : Frame W zz s) :
    Frame W zz (opWipe x s) := by
  unfold opWipe
  try dsimp only
  repeat' (first
    | with_reducible exact hs
    | with_reducible assumption
    | with_reducible refine frame_ite ?_ ?_
    | with_reducible refine State.err_frame (within_trans (by decide) hw) ?_
    | with_reducible refine State.wipe_frame (within_trans (by decide) hw) ?_
    | split
    | dsimp only)

theorem opTamper_frame {W : Nat} {zz : State} {t : TamperSrc} {s : State} (hw : Within 1179697 W) (hs : Frame W zz s) :
    Frame W zz (opTamper t s) := by
  unfold opTamper
  try dsimp only
  repeat' (first
    | with_reducible exact hs
    | with_reducible assumption
    | with_reducible refine frame_ite ?_ ?_
    | with_reducible refine State.wr_frame (within_trans (by decide) hw) ?_
    | with_reducible refine State.count_frame (within_trans (by decide) hw) ?_
    | with_reducible refine State.raise_frame (within_trans (by decide) hw) ?_
    | with_reducible refine State.err_frame (within_trans (by decide) hw) ?_
    | with_reducible refine State.wipe_frame (within_trans (by decide) hw) ?_
    | ((conv => arg 3; arg 34); with_reducible apply frame_mk)
    | exact fun b => absurd (hw _ b) (by decide)
    | with_reducible exact fun _ => rfl
    | ((with_reducible show NonVol.identity _ = NonVol.identity _); rfl)
    | split
    | dsimp only)

theorem opPfwCommit_frame {W : Nat} {zz : State} {us : Nat} {s : State} (hw : Within 1048577 W) (hs : Frame W zz s) :
    Frame W zz (opPfwCommit us s) := by
  unfold opPfwCommit
  try dsimp only
  repeat' (first
    | with_reducible exact hs
    | with_reducible assumption
    | with_reducible refine frame_ite ?_ ?_
    | with_reducible refine State.wr_frame (within_trans (by decide) hw) ?_
    | with_reducible refine State.wf_frame (within_trans (by decide) hw) ?_
    | ((conv => arg 3; arg 34); with_reducible apply frame_mk)
    | exact fun b => absurd (hw _ b) (by decide)
    | with_reducible exact fun _ => rfl
    | ((with_reducible show NonVol.identity _ = NonVol.identity _); rfl)
    | split
    | dsimp only)

theorem opPfwResume_frame {W : Nat} {zz : State} {s : State} (hw : Within 4564596561 W) (hs : Frame W zz s) :
    Frame W zz (opPfwResume s) := by
  unfold opPfwResume
  try dsimp only
  repeat' (first
    | with_reducible exact hs
    | with_reducible assumption
    | with_reducible refine frame_ite ?_ ?_
    | with_reducible refine State.wf_frame (within_trans (by decide) hw) ?_
    | with_reducible refine State.endPark_frame (within_trans (by decide) hw) ?_
    | ((conv => arg 3; arg 34); with_reducible apply frame_mk)
    | exact fun b => absurd (hw _ b) (by decide)
    | with_reducible exact fun _ => rfl
    | ((with_reducible show NonVol.identity _ = NonVol.identity _); rfl)
    | split
    | dsimp only)

theorem State.setBank_frame {W : Nat} {zz : State} {s : State} {b : Nat} {v : List Byte} (hw : Within 32 W) (hs : Frame W zz s) :
    Frame W zz (State.setBank s b v) := by
  unfold State.setBank
  try dsimp only
  repeat' (first
    | with_reducible exact hs
    | with_reducible assumption
    | with_reducible refine frame_ite ?_ ?_
    | ((conv => arg 3; arg 34); with_reducible apply frame_mk)
    | exact fun b => absurd (hw _ b) (by decide)
    | with_reducible exact fun _ => rfl
    | ((with_reducible show NonVol.identity _ = NonVol.identity _); rfl)
    | split
    | dsimp only)

theorem State.fwWrite_frame {W : Nat} {zz : State} {s : State} {bank : Nat} {confirmed : Bool} {trials : Nat} (hw : Within 32 W) (hs : Frame W zz s) :
    Frame W zz (State.fwWrite s bank confirmed trials) := by
  unfold State.fwWrite
  try dsimp only
  repeat' (first
    | with_reducible exact hs
    | with_reducible assumption
    | with_reducible refine frame_ite ?_ ?_
    | ((conv => arg 3; arg 34); with_reducible apply frame_mk)
    | exact fun b => absurd (hw _ b) (by decide)
    | with_reducible exact fun _ => rfl
    | ((with_reducible show NonVol.identity _ = NonVol.identity _); rfl)
    | split
    | dsimp only)

theorem State.setStage_frame {W : Nat} {zz : State} {s : State} {v : Nat} (hw : Within 131073 W) (hs : Frame W zz s) :
    Frame W zz (State.setStage s v) := by
  unfold State.setStage
  try dsimp only
  repeat' (first
    | with_reducible exact hs
    | with_reducible assumption
    | with_reducible refine frame_ite ?_ ?_
    | with_reducible refine State.wf_frame (within_trans (by decide) hw) ?_
    | with_reducible refine State.raise_frame (within_trans (by decide) hw) ?_
    | split
    | dsimp only)

theorem State.checkReady_frame {W : Nat} {zz : State} {s : State} (hw : Within 131137 W) (hs : Frame W zz s) :
    Frame W zz (State.checkReady s) := by
  unfold State.checkReady
  try dsimp only
  repeat' (first
    | with_reducible exact hs
    | with_reducible assumption
    | with_reducible refine frame_ite ?_ ?_
    | with_reducible refine State.wr_frame (within_trans (by decide) hw) ?_
    | with_reducible refine State.wf_frame (within_trans (by decide) hw) ?_
    | with_reducible refine State.raise_frame (within_trans (by decide) hw) ?_
    | ((conv => arg 3; arg 34); with_reducible apply frame_mk)
    | exact fun b => absurd (hw _ b) (by decide)
    | with_reducible exact fun _ => rfl
    | ((with_reducible show NonVol.identity _ = NonVol.identity _); rfl)
    | split
    | dsimp only)

theorem State.loadSettings_frame {W : Nat} {zz : State} {s : State} {readable : Bool} {fmt : Nat} (hw : Within 4564588145 W) (hs : Frame W zz s) :
    Frame W zz (State.loadSettings s readable fmt) := by
  unfold State.loadSettings
  try dsimp only
  repeat' (first
    | with_reducible exact hs
    | with_reducible assumption
    | with_reducible refine frame_ite ?_ ?_
    | with_reducible refine State.wr_frame (within_trans (by decide) hw) ?_
    | with_reducible refine State.wf_frame (within_trans (by decide) hw) ?_
    | with_reducible refine State.err_frame (within_trans (by decide) hw) ?_
    | with_reducible refine State.logFault_frame (within_trans (by decide) hw) ?_
    | with_reducible refine State.sysMark_frame (within_trans (by decide) hw) ?_
    | (with_reducible refine frame_foldl ?_ ?_) | (with_reducible refine frame_foldl_fst ?_ ?_) | (with_reducible refine frame_foldl_snd ?_ ?_) | (intro _ _ _)
    | ((conv => arg 3; arg 34); with_reducible apply frame_mk)
    | exact fun b => absurd (hw _ b) (by decide)
    | with_reducible exact fun _ => rfl
    | ((with_reducible show NonVol.identity _ = NonVol.identity _); rfl)
    | split
    | dsimp only)

theorem State.untrain_frame {W : Nat} {zz : State} {s : State} {v : Nat} (hw : Within 268435969 W) (hs : Frame W zz s) :
    Frame W zz (State.untrain s v) := by
  unfold State.untrain
  try dsimp only
  repeat' (first
    | with_reducible exact hs
    | with_reducible assumption
    | with_reducible refine frame_ite ?_ ?_
    | with_reducible refine State.wf_frame (within_trans (by decide) hw) ?_
    | (with_reducible refine frame_iter ?_ ?_) | (with_reducible refine frame_iter_fst ?_ ?_) | (intro _ _ _)
    | ((conv => arg 3; arg 34); with_reducible apply frame_mk)
    | exact fun b => absurd (hw _ b) (by decide)
    | with_reducible exact fun _ => rfl
    | ((with_reducible show NonVol.identity _ = NonVol.identity _); rfl)
    | split
    | dsimp only)

theorem State.enterSafelight_frame {W : Nat} {zz : State} {s : State} {fallback : Bool} (hw : Within 4577166049 W) (hs : Frame W zz s) :
    Frame W zz (State.enterSafelight s fallback) := by
  unfold State.enterSafelight
  try dsimp only
  repeat' (first
    | with_reducible exact hs
    | with_reducible assumption
    | with_reducible refine frame_ite ?_ ?_
    | with_reducible refine State.wr_frame (within_trans (by decide) hw) ?_
    | with_reducible refine State.wf_frame (within_trans (by decide) hw) ?_
    | with_reducible refine State.raise_frame (within_trans (by decide) hw) ?_
    | with_reducible refine State.err_frame (within_trans (by decide) hw) ?_
    | with_reducible refine State.logFault_frame (within_trans (by decide) hw) ?_
    | with_reducible refine State.tswBalls_frame (within_trans (by decide) hw) ?_
    | with_reducible refine State.lasUpdate_frame (within_trans (by decide) hw) ?_
    | with_reducible refine State.untrain_frame (within_trans (by decide) hw) ?_
    | ((conv => arg 3; arg 34); with_reducible apply frame_mk)
    | exact fun b => absurd (hw _ b) (by decide)
    | with_reducible exact fun _ => rfl
    | ((with_reducible show NonVol.identity _ = NonVol.identity _); rfl)
    | split
    | dsimp only)

theorem State.loadImage_frame {W : Nat} {zz : State} {s : State} {good readable : Bool} {ver : Word} {fmt : Nat} (hw : Within 4577171185 W) (hs : Frame W zz s) :
    Frame W zz (State.loadImage s good readable ver fmt) := by
  unfold State.loadImage
  try dsimp only
  repeat' (first
    | with_reducible exact hs
    | with_reducible assumption
    | with_reducible refine frame_ite ?_ ?_
    | with_reducible refine State.wr_frame (within_trans (by decide) hw) ?_
    | with_reducible refine State.wf_frame (within_trans (by decide) hw) ?_
    | with_reducible refine State.fwWrite_frame (within_trans (by decide) hw) ?_
    | with_reducible refine State.loadSettings_frame (within_trans (by decide) hw) ?_
    | with_reducible refine State.untrain_frame (within_trans (by decide) hw) ?_
    | with_reducible refine State.enterSafelight_frame (within_trans (by decide) hw) ?_
    | ((conv => arg 3; arg 34); with_reducible apply frame_mk)
    | exact fun b => absurd (hw _ b) (by decide)
    | with_reducible exact fun _ => rfl
    | ((with_reducible show NonVol.identity _ = NonVol.identity _); rfl)
    | split
    | dsimp only)

theorem State.setSlot_frame {W : Nat} {zz : State} {s : State} {i : Nat} {p : PlanSlot} (hw : Within 32 W) (hs : Frame W zz s) :
    Frame W zz (State.setSlot s i p) := by
  unfold State.setSlot
  try dsimp only
  repeat' (first
    | with_reducible exact hs
    | with_reducible assumption
    | with_reducible refine frame_ite ?_ ?_
    | ((conv => arg 3; arg 34); with_reducible apply frame_mk)
    | exact fun b => absurd (hw _ b) (by decide)
    | with_reducible exact fun _ => rfl
    | ((with_reducible show NonVol.identity _ = NonVol.identity _); rfl)
    | split
    | dsimp only)

theorem opStartupCalDone_frame {W : Nat} {zz : State} {tempRx tempFld : Int} {s : State} (hw : Within 12714049 W) (hs : Frame W zz s) :
    Frame W zz (opStartupCalDone tempRx tempFld s) := by
  unfold opStartupCalDone
  try dsimp only
  repeat' (first
    | with_reducible exact hs
    | with_reducible assumption
    | with_reducible refine frame_ite ?_ ?_
    | with_reducible refine State.wr_frame (within_trans (by decide) hw) ?_
    | with_reducible refine State.wf_frame (within_trans (by decide) hw) ?_
    | with_reducible refine State.setConv_frame (within_trans (by decide) hw) ?_
    | with_reducible refine State.checkReady_frame (within_trans (by decide) hw) ?_
    | (with_reducible refine frame_iter ?_ ?_) | (with_reducible refine frame_iter_fst ?_ ?_) | (intro _ _ _)
    | ((conv => arg 3; arg 34); with_reducible apply frame_mk)
    | exact fun b => absurd (hw _ b) (by decide)
    | with_reducible exact fun _ => rfl
    | ((with_reducible show NonVol.identity _ = NonVol.identity _); rfl)
    | split
    | dsimp only)

theorem opWinchRestart_frame {W : Nat} {zz : State} {good readable : Bool} {ver : Word} {fmt : Nat} {s : State} (hw : Within 4577179385 W) (hs : Frame W zz s) :
    Frame W zz (opWinchRestart good readable ver fmt s) := by
  unfold opWinchRestart
  try dsimp only
  repeat' (first
    | with_reducible exact hs
    | with_reducible assumption
    | with_reducible refine frame_ite ?_ ?_
    | with_reducible refine State.takeSource_frame (within_trans (by decide) hw) ?_
    | with_reducible refine State.mPump_frame (within_trans (by decide) hw) ?_
    | with_reducible refine State.setStage_frame (within_trans (by decide) hw) ?_
    | with_reducible refine State.loadImage_frame (within_trans (by decide) hw) ?_
    | ((conv => arg 3; arg 34); with_reducible apply frame_mk)
    | exact fun b => absurd (hw _ b) (by decide)
    | with_reducible exact fun _ => rfl
    | ((with_reducible show NonVol.identity _ = NonVol.identity _); rfl)
    | split
    | dsimp only)

theorem State.updFail_frame {W : Nat} {zz : State} {s : State} {code : Nat} (hw : Within 131137 W) (hs : Frame W zz s) :
    Frame W zz (State.updFail s code) := by
  unfold State.updFail
  try dsimp only
  repeat' (first
    | with_reducible exact hs
    | with_reducible assumption
    | with_reducible refine frame_ite ?_ ?_
    | with_reducible refine State.wr_frame (within_trans (by decide) hw) ?_
    | with_reducible refine State.raise_frame (within_trans (by decide) hw) ?_
    | with_reducible refine State.err_frame (within_trans (by decide) hw) ?_
    | with_reducible refine State.setStage_frame (within_trans (by decide) hw) ?_
    | ((conv => arg 3; arg 34); with_reducible apply frame_mk)
    | exact fun b => absurd (hw _ b) (by decide)
    | with_reducible exact fun _ => rfl
    | ((with_reducible show NonVol.identity _ = NonVol.identity _); rfl)
    | split
    | dsimp only)

theorem State.updActivate_frame {W : Nat} {zz : State} {s : State} (hw : Within 131169 W) (hs : Frame W zz s) :
    Frame W zz (State.updActivate s) := by
  unfold State.updActivate
  try dsimp only
  repeat' (first
    | with_reducible exact hs
    | with_reducible assumption
    | with_reducible refine frame_ite ?_ ?_
    | with_reducible refine State.fwWrite_frame (within_trans (by decide) hw) ?_
    | with_reducible refine State.setStage_frame (within_trans (by decide) hw) ?_
    | ((conv => arg 3; arg 34); with_reducible apply frame_mk)
    | exact fun b => absurd (hw _ b) (by decide)
    | with_reducible exact fun _ => rfl
    | ((with_reducible show NonVol.identity _ = NonVol.identity _); rfl)
    | dsimp only)

theorem State.updStep_frame {W : Nat} {zz : State} {s : State} (hw : Within 1179761 W) (hs : Frame W zz s) :
    Frame W zz (State.updStep s).1 := by
  unfold State.updStep
  try dsimp only
  repeat' (first
    | with_reducible exact hs
    | with_reducible assumption
    | with_reducible refine frame_ite ?_ ?_
    | with_reducible refine frame_ite_fst ?_ ?_
    | with_reducible refine frame_ite_snd ?_ ?_
    | with_reducible refine frame_ite_snd2 ?_ ?_
    | with_reducible refine State.wr_frame (within_trans (by decide) hw) ?_
    | with_reducible refine State.count_frame (within_trans (by decide) hw) ?_
    | with_reducible refine State.setBank_frame (within_trans (by decide) hw) ?_
    | with_reducible refine State.setStage_frame (within_trans (by decide) hw) ?_
    | with_reducible refine State.updFail_frame (within_trans (by decide) hw) ?_
    | with_reducible refine State.updActivate_frame (within_trans (by decide) hw) ?_
    | ((conv => arg 3; arg 34); with_reducible apply frame_mk)
    | exact fun b => absurd (hw _ b) (by decide)
    | with_reducible exact fun _ => rfl
    | ((with_reducible show NonVol.identity _ = NonVol.identity _); rfl)
    | split
    | dsimp only)

theorem State.updStep_frame' {W : Nat} {zz u : State} {s : State} {y_} (he_ : State.updStep s = (u, y_)) (hw : Within 1179761 W)
    (hs : Frame W zz s) : Frame W zz u := by
  have k : Frame W zz (State.updStep s).1 := State.updStep_frame hw hs
  rw [he_] at k
  exact k

theorem opUpdStart_frame {W : Nat} {zz : State} {x : Nat} {s : State} (hw : Within 13762641 W) (hs : Frame W zz s) :
    Frame W zz (opUpdStart x s) := by
  unfold opUpdStart
  try dsimp only
  repeat' (first
    | with_reducible exact hs
    | with_reducible assumption
    | with_reducible refine frame_ite ?_ ?_
    | with_reducible refine State.wr_frame (within_trans (by decide) hw) ?_
    | with_reducible refine State.err_frame (within_trans (by decide) hw) ?_
    | with_reducible refine State.mRequest_frame (within_trans (by decide) hw) ?_
    | with_reducible refine State.setStage_frame (within_trans (by decide) hw) ?_
    | with_reducible refine State.updFail_frame (within_trans (by decide) hw) ?_
    | ((conv => arg 3; arg 34); with_reducible apply frame_mk)
    | exact fun b => absurd (hw _ b) (by decide)
    | with_reducible exact fun _ => rfl
    | ((with_reducible show NonVol.identity _ = NonVol.identity _); rfl)
    | split
    | dsimp only)

theorem opActivate_frame {W : Nat} {zz : State} {x bank : Nat} {use : Bool} {s : State} (hw : Within 13762673 W) (hs : Frame W zz s) :
    Frame W zz (opActivate x bank use s) := by
  unfold opActivate
  try dsimp only
  repeat' (first
    | with_reducible exact hs
    | with_reducible assumption
    | with_reducible refine frame_ite ?_ ?_
    | with_reducible refine State.err_frame (within_trans (by decide) hw) ?_
    | with_reducible refine State.mRequest_frame (within_trans (by decide) hw) ?_
    | with_reducible refine State.setStage_frame (within_trans (by decide) hw) ?_
    | with_reducible refine State.updActivate_frame (within_trans (by decide) hw) ?_
    | ((conv => arg 3; arg 34); with_reducible apply frame_mk)
    | exact fun b => absurd (hw _ b) (by decide)
    | with_reducible exact fun _ => rfl
    | ((with_reducible show NonVol.identity _ = NonVol.identity _); rfl)
    | split
    | dsimp only)

theorem State.confirmFw_frame {W : Nat} {zz : State} {s : State} (hw : Within 33 W) (hs : Frame W zz s) :
    Frame W zz (State.confirmFw s) := by
  unfold State.confirmFw
  try dsimp only
  repeat' (first
    | with_reducible exact hs
    | with_reducible assumption
    | with_reducible refine frame_ite ?_ ?_
    | with_reducible refine State.wf_frame (within_trans (by decide) hw) ?_
    | with_reducible refine State.fwWrite_frame (within_trans (by decide) hw) ?_
    | ((conv => arg 3; arg 34); with_reducible apply frame_mk)
    | exact fun b => absurd (hw _ b) (by decide)
    | with_reducible exact fun _ => rfl
    | ((with_reducible show NonVol.identity _ = NonVol.identity _); rfl)
    | split
    | dsimp only)

theorem opConfirm_frame {W : Nat} {zz : State} {x : Nat} {s : State} (hw : Within 131105 W) (hs : Frame W zz s) :
    Frame W zz (opConfirm x s) := by
  unfold opConfirm
  try dsimp only
  repeat' (first
    | with_reducible exact hs
    | with_reducible assumption
    | with_reducible refine frame_ite ?_ ?_
    | with_reducible refine State.err_frame (within_trans (by decide) hw) ?_
    | with_reducible refine State.confirmFw_frame (within_trans (by decide) hw) ?_
    | split
    | dsimp only)

theorem opAutoConfirm_frame {W : Nat} {zz : State} {s : State} (hw : Within 33 W) (hs : Frame W zz s) :
    Frame W zz (opAutoConfirm s) := by
  unfold opAutoConfirm
  try dsimp only
  repeat' (first
    | with_reducible exact hs
    | with_reducible assumption
    | with_reducible refine frame_ite ?_ ?_
    | with_reducible refine State.confirmFw_frame (within_trans (by decide) hw) ?_
    | ((conv => arg 3; arg 34); with_reducible apply frame_mk)
    | exact fun b => absurd (hw _ b) (by decide)
    | with_reducible exact fun _ => rfl
    | ((with_reducible show NonVol.identity _ = NonVol.identity _); rfl)
    | split
    | dsimp only)

theorem opUpdAbort_frame {W : Nat} {zz : State} {x : Nat} {s : State} (hw : Within 131137 W) (hs : Frame W zz s) :
    Frame W zz (opUpdAbort x s) := by
  unfold opUpdAbort
  try dsimp only
  repeat' (first
    | with_reducible exact hs
    | with_reducible assumption
    | with_reducible refine frame_ite ?_ ?_
    | with_reducible refine State.err_frame (within_trans (by decide) hw) ?_
    | ((conv => arg 3; arg 34); with_reducible apply frame_mk)
    | exact fun b => absurd (hw _ b) (by decide)
    | with_reducible exact fun _ => rfl
    | ((with_reducible show NonVol.identity _ = NonVol.identity _); rfl)
    | split
    | dsimp only)

theorem State.updStop_frame {W : Nat} {zz : State} {s : State} {code : Nat} (hw : Within 13762641 W) (hs : Frame W zz s) :
    Frame W zz (State.updStop s code) := by
  unfold State.updStop
  try dsimp only
  repeat' (first
    | with_reducible exact hs
    | with_reducible assumption
    | with_reducible refine frame_ite ?_ ?_
    | with_reducible refine State.mEnd_frame (within_trans (by decide) hw) ?_
    | with_reducible refine State.mPump_frame (within_trans (by decide) hw) ?_
    | with_reducible refine State.updFail_frame (within_trans (by decide) hw) ?_
    | split
    | dsimp only)

theorem opSdInsert_frame {W : Nat} {zz : State} {c : SdCard} {s : State} (hw : Within 1179729 W) (hs : Frame W zz s) :
    Frame W zz (opSdInsert c s) := by
  unfold opSdInsert
  try dsimp only
  repeat' (first
    | with_reducible exact hs
    | with_reducible assumption
    | with_reducible refine frame_ite ?_ ?_
    | with_reducible refine State.wr_frame (within_trans (by decide) hw) ?_
    | with_reducible refine State.count_frame (within_trans (by decide) hw) ?_
    | with_reducible refine State.raise_frame (within_trans (by decide) hw) ?_
    | with_reducible refine State.err_frame (within_trans (by decide) hw) ?_
    | ((conv => arg 3; arg 34); with_reducible apply frame_mk)
    | exact fun b => absurd (hw _ b) (by decide)
    | with_reducible exact fun _ => rfl
    | ((with_reducible show NonVol.identity _ = NonVol.identity _); rfl)
    | split
    | dsimp only)

theorem opSdRemove_frame {W : Nat} {zz : State} {s : State} (hw : Within 13762641 W) (hs : Frame W zz s) :
    Frame W zz (opSdRemove s) := by
  unfold opSdRemove
  try dsimp only
  repeat' (first
    | with_reducible exact hs
    | with_reducible assumption
    | with_reducible refine frame_ite ?_ ?_
    | with_reducible refine State.wr_frame (within_trans (by decide) hw) ?_
    | with_reducible refine State.raise_frame (within_trans (by decide) hw) ?_
    | with_reducible refine State.updStop_frame (within_trans (by decide) hw) ?_
    | ((conv => arg 3; arg 34); with_reducible apply frame_mk)
    | exact fun b => absurd (hw _ b) (by decide)
    | with_reducible exact fun _ => rfl
    | ((with_reducible show NonVol.identity _ = NonVol.identity _); rfl)
    | split
    | dsimp only)

theorem opSdTimeout_frame {W : Nat} {zz : State} {crc : Bool} {s : State} (hw : Within 13762641 W) (hs : Frame W zz s) :
    Frame W zz (opSdTimeout crc s) := by
  unfold opSdTimeout
  try dsimp only
  repeat' (first
    | with_reducible exact hs
    | with_reducible assumption
    | with_reducible refine frame_ite ?_ ?_
    | with_reducible refine State.count_frame (within_trans (by decide) hw) ?_
    | with_reducible refine State.err_frame (within_trans (by decide) hw) ?_
    | with_reducible refine State.updStop_frame (within_trans (by decide) hw) ?_
    | split
    | dsimp only)

theorem State.clearKeyData_frame {W : Nat} {zz : State} {s : State} (hw : Within 1 W) (hs : Frame W zz s) :
    Frame W zz (State.clearKeyData s) := by
  unfold State.clearKeyData
  try dsimp only
  repeat' (first
    | with_reducible exact hs
    | with_reducible assumption
    | with_reducible refine frame_ite ?_ ?_
    | with_reducible refine State.wr_frame (within_trans (by decide) hw) ?_
    | (with_reducible refine frame_iter ?_ ?_) | (with_reducible refine frame_iter_fst ?_ ?_) | (intro _ _ _)
    | dsimp only)

theorem opInstall_frame {W : Nat} {zz : State} {x slot : Nat} {s : State} (hw : Within 1179697 W) (hs : Frame W zz s) :
    Frame W zz (opInstall x slot s) := by
  unfold opInstall
  try dsimp only
  repeat' (first
    | with_reducible exact hs
    | with_reducible assumption
    | with_reducible refine frame_ite ?_ ?_
    | with_reducible refine State.raise_frame (within_trans (by decide) hw) ?_
    | with_reducible refine State.err_frame (within_trans (by decide) hw) ?_
    | with_reducible refine State.wipe_frame (within_trans (by decide) hw) ?_
    | with_reducible refine State.clearKeyData_frame (within_trans (by decide) hw) ?_
    | ((conv => arg 3; arg 34); with_reducible apply frame_mk)
    | exact fun b => absurd (hw _ b) (by decide)
    | with_reducible exact fun _ => rfl
    | ((with_reducible show NonVol.identity _ = NonVol.identity _); rfl)
    | split
    | dsimp only)

theorem opRemove_frame {W : Nat} {zz : State} {x slot : Nat} {s : State} (hw : Within 131105 W) (hs : Frame W zz s) :
    Frame W zz (opRemove x slot s) := by
  unfold opRemove
  try dsimp only
  repeat' (first
    | with_reducible exact hs
    | with_reducible assumption
    | with_reducible refine frame_ite ?_ ?_
    | with_reducible refine State.err_frame (within_trans (by decide) hw) ?_
    | with_reducible refine State.clearKeyData_frame (within_trans (by decide) hw) ?_
    | ((conv => arg 3; arg 34); with_reducible apply frame_mk)
    | exact fun b => absurd (hw _ b) (by decide)
    | with_reducible exact fun _ => rfl
    | ((with_reducible show NonVol.identity _ = NonVol.identity _); rfl)
    | split
    | dsimp only)

theorem opReturnArm_frame {W : Nat} {zz : State} {x : Nat} {s : State} (hw : Within 131137 W) (hs : Frame W zz s) :
    Frame W zz (opReturnArm x s) := by
  unfold opReturnArm
  try dsimp only
  repeat' (first
    | with_reducible exact hs
    | with_reducible assumption
    | with_reducible refine frame_ite ?_ ?_
    | with_reducible refine State.err_frame (within_trans (by decide) hw) ?_
    | with_reducible refine State.clearKeyData_frame (within_trans (by decide) hw) ?_
    | ((conv => arg 3; arg 34); with_reducible apply frame_mk)
    | exact fun b => absurd (hw _ b) (by decide)
    | with_reducible exact fun _ => rfl
    | ((with_reducible show NonVol.identity _ = NonVol.identity _); rfl)
    | split
    | dsimp only)

theorem opReturn_frame {W : Nat} {zz : State} {x : Nat} {s : State} (hw : Within 8589934591 W) (hs : Frame W zz s) :
    Frame W zz (opReturn x s) := by
  unfold opReturn
  try dsimp only
  repeat' (first
    | with_reducible exact hs
    | with_reducible assumption
    | with_reducible refine frame_ite ?_ ?_
    | with_reducible refine State.raise_frame (within_trans (by decide) hw) ?_
    | with_reducible refine State.err_frame (within_trans (by decide) hw) ?_
    | with_reducible refine State.fullReset_frame (within_trans (by decide) hw) ?_
    | with_reducible refine State.wipe_frame (within_trans (by decide) hw) ?_
    | with_reducible refine State.clearKeyData_frame (within_trans (by decide) hw) ?_
    | ((conv => arg 3; arg 34); with_reducible apply frame_mk)
    | exact fun b => absurd (hw _ b) (by decide)
    | with_reducible exact fun _ => rfl
    | ((with_reducible show NonVol.identity _ = NonVol.identity _); rfl)
    | split
    | dsimp only)

end Sys2Proof.Machine
end

