-- ==== Sys2Proof/Laws/FrameMemory.lean ====
section
/-!
SUPPORT. The frame of each operation of Machine/Memory.lean.
-/

set_option maxRecDepth 4000

namespace Sys2Proof.Machine

set_option linter.all false
set_option Elab.async false

theorem State.telemetry_frame {W : Nat} {zz : State} {s : State} (hw : Within 4577170993 W) (hs : Frame W zz s) :
    Frame W zz (State.telemetry s) := by
  unfold State.telemetry
  try dsimp only
  repeat' (first
    | with_reducible exact hs
    | with_reducible assumption
    | with_reducible refine frame_ite ?_ ?_
    | with_reducible refine State.countMod_frame (within_trans (by decide) hw) ?_
    | with_reducible refine State.raise_frame (within_trans (by decide) hw) ?_
    | with_reducible refine State.emit_frame (within_trans (by decide) hw) ?_
    | with_reducible refine State.mBegin_frame (within_trans (by decide) hw) ?_
    | with_reducible refine State.mEnd_frame (within_trans (by decide) hw) ?_
    | ((conv => arg 3; arg 34); with_reducible apply frame_mk)
    | exact fun b => absurd (hw _ b) (by decide)
    | with_reducible exact fun _ => rfl
    | ((with_reducible show NonVol.identity _ = NonVol.identity _); rfl)
    | split
    | dsimp only)

theorem opTelPeriod_frame {W : Nat} {zz : State} {m : Monitors} {s : State} (hw : Within 4577170993 W) (hs : Frame W zz s) :
    Frame W zz (opTelPeriod m s) := by
  unfold opTelPeriod
  try dsimp only
  repeat' (first
    | with_reducible exact hs
    | with_reducible assumption
    | with_reducible refine frame_ite ?_ ?_
    | with_reducible refine State.telemetry_frame (within_trans (by decide) hw) ?_
    | ((conv => arg 3; arg 34); with_reducible apply frame_mk)
    | exact fun b => absurd (hw _ b) (by decide)
    | with_reducible exact fun _ => rfl
    | ((with_reducible show NonVol.identity _ = NonVol.identity _); rfl)
    | split
    | dsimp only)

theorem State.testNext_frame {W : Nat} {zz : State} {s : State} {i : Nat} (hw : Within 1179649 W) (hs : Frame W zz s) :
    Frame W zz (State.testNext s i) := by
  unfold State.testNext
  try dsimp only
  repeat' (first
    | with_reducible exact hs
    | with_reducible assumption
    | with_reducible refine frame_ite ?_ ?_
    | with_reducible refine State.countMod_frame (within_trans (by decide) hw) ?_
    | with_reducible refine State.mEnd_frame (within_trans (by decide) hw) ?_
    | ((conv => arg 3; arg 34); with_reducible apply frame_mk)
    | exact fun b => absurd (hw _ b) (by decide)
    | with_reducible exact fun _ => rfl
    | ((with_reducible show NonVol.identity _ = NonVol.identity _); rfl)
    | split
    | dsimp only)

theorem State.testStep_frame {W : Nat} {zz : State} {s : State} {fail : Bool} (hw : Within 1179697 W) (hs : Frame W zz s) :
    Frame W zz (State.testStep s fail) := by
  unfold State.testStep
  try dsimp only
  repeat' (first
    | with_reducible exact hs
    | with_reducible assumption
    | with_reducible refine frame_ite ?_ ?_
    | with_reducible refine State.wr_frame (within_trans (by decide) hw) ?_
    | with_reducible refine State.count_frame (within_trans (by decide) hw) ?_
    | with_reducible refine State.raise_frame (within_trans (by decide) hw) ?_
    | with_reducible refine State.err_frame (within_trans (by decide) hw) ?_
    | with_reducible refine State.logFault_frame (within_trans (by decide) hw) ?_
    | with_reducible refine State.mEnd_frame (within_trans (by decide) hw) ?_
    | with_reducible refine State.testNext_frame (within_trans (by decide) hw) ?_
    | ((conv => arg 3; arg 34); with_reducible apply frame_mk)
    | exact fun b => absurd (hw _ b) (by decide)
    | with_reducible exact fun _ => rfl
    | ((with_reducible show NonVol.identity _ = NonVol.identity _); rfl)
    | split
    | dsimp only)

theorem opMaintStep_frame {W : Nat} {zz : State} {k : Nat} {r : StepEnd} {s : State} (hw : Within 13762673 W) (hs : Frame W zz s) :
    Frame W zz (opMaintStep k r s) := by
  unfold opMaintStep
  try dsimp only
  repeat' (first
    | with_reducible exact hs
    | with_reducible assumption
    | with_reducible refine frame_ite ?_ ?_
    | with_reducible refine frame_ite_fst ?_ ?_
    | with_reducible refine frame_ite_snd ?_ ?_
    | with_reducible refine frame_ite_snd2 ?_ ?_
    | with_reducible refine State.count_frame (within_trans (by decide) hw) ?_
    | with_reducible refine State.logFault_frame (within_trans (by decide) hw) ?_
    | with_reducible refine State.mSet_frame (within_trans (by decide) hw) ?_
    | with_reducible refine State.mEnd_frame (within_trans (by decide) hw) ?_
    | with_reducible refine State.mPump_frame (within_trans (by decide) hw) ?_
    | with_reducible refine State.updStep_frame (within_trans (by decide) hw) ?_
    | with_reducible refine State.updStep_frame' (by assumption) (within_trans (by decide) hw) ?_
    | with_reducible refine State.testStep_frame (within_trans (by decide) hw) ?_
    | ((conv => arg 3; arg 34); with_reducible apply frame_mk)
    | exact fun b => absurd (hw _ b) (by decide)
    | with_reducible exact fun _ => rfl
    | ((with_reducible show NonVol.identity _ = NonVol.identity _); rfl)
    | split
    | dsimp only)

theorem opMntStart_frame {W : Nat} {zz : State} {x k : Nat} {s : State} (hw : Within 4577170993 W) (hs : Frame W zz s) :
    Frame W zz (opMntStart x k s) := by
  unfold opMntStart
  try dsimp only
  repeat' (first
    | with_reducible exact hs
    | with_reducible assumption
    | with_reducible refine frame_ite ?_ ?_
    | with_reducible refine State.err_frame (within_trans (by decide) hw) ?_
    | with_reducible refine State.mRequest_frame (within_trans (by decide) hw) ?_
    | with_reducible refine opFldCal_frame (within_trans (by decide) hw) ?_
    | with_reducible refine State.rxRecal_frame (within_trans (by decide) hw) ?_
    | with_reducible refine State.telemetry_frame (within_trans (by decide) hw) ?_
    | split
    | dsimp only)

theorem opMntAbort_frame {W : Nat} {zz : State} {x k : Nat} {s : State} (hw : Within 13762577 W) (hs : Frame W zz s) :
    Frame W zz (opMntAbort x k s) := by
  unfold opMntAbort
  try dsimp only
  repeat' (first
    | with_reducible exact hs
    | with_reducible assumption
    | with_reducible refine frame_ite ?_ ?_
    | with_reducible refine State.err_frame (within_trans (by decide) hw) ?_
    | with_reducible refine State.mEnd_frame (within_trans (by decide) hw) ?_
    | with_reducible refine State.mPump_frame (within_trans (by decide) hw) ?_
    | ((conv => arg 3; arg 34); with_reducible apply frame_mk)
    | exact fun b => absurd (hw _ b) (by decide)
    | with_reducible exact fun _ => rfl
    | ((with_reducible show NonVol.identity _ = NonVol.identity _); rfl)
    | split
    | dsimp only)

theorem opPatrolPeriod_frame {W : Nat} {zz : State} {s : State} (hw : Within 13762577 W) (hs : Frame W zz s) :
    Frame W zz (opPatrolPeriod s) := by
  unfold opPatrolPeriod
  try dsimp only
  repeat' (first
    | with_reducible exact hs
    | with_reducible assumption
    | with_reducible refine frame_ite ?_ ?_
    | with_reducible refine State.mRequest_frame (within_trans (by decide) hw) ?_
    | split
    | dsimp only)

theorem opTestPeriod_frame {W : Nat} {zz : State} {s : State} (hw : Within 13762577 W) (hs : Frame W zz s) :
    Frame W zz (opTestPeriod s) := by
  unfold opTestPeriod
  try dsimp only
  repeat' (first
    | with_reducible exact hs
    | with_reducible assumption
    | with_reducible refine frame_ite ?_ ?_
    | with_reducible refine State.mRequest_frame (within_trans (by decide) hw) ?_
    | split
    | dsimp only)

theorem opTestRestore_frame {W : Nat} {zz : State} {core : Option (Fin 16)} {cycles : Nat} {s : State} (hw : Within 80871441 W) (hs : Frame W zz s) :
    Frame W zz (opTestRestore core cycles s) := by
  unfold opTestRestore
  try dsimp only
  repeat' (first
    | with_reducible exact hs
    | with_reducible assumption
    | with_reducible refine frame_ite ?_ ?_
    | with_reducible refine State.count_frame (within_trans (by decide) hw) ?_
    | with_reducible refine State.countN_frame (within_trans (by decide) hw) ?_
    | with_reducible refine State.setCore_frame (within_trans (by decide) hw) ?_
    | with_reducible refine State.mPump_frame (within_trans (by decide) hw) ?_
    | with_reducible refine State.testNext_frame (within_trans (by decide) hw) ?_
    | ((conv => arg 3; arg 34); with_reducible apply frame_mk)
    | exact fun b => absurd (hw _ b) (by decide)
    | with_reducible exact fun _ => rfl
    | ((with_reducible show NonVol.identity _ = NonVol.identity _); rfl)
    | split
    | dsimp only)

theorem opFlashTimeout_frame {W : Nat} {zz : State} {reserve : Nat} {s : State} (hw : Within 13762609 W) (hs : Frame W zz s) :
    Frame W zz (opFlashTimeout reserve s) := by
  unfold opFlashTimeout
  try dsimp only
  repeat' (first
    | with_reducible exact hs
    | with_reducible assumption
    | with_reducible refine frame_ite ?_ ?_
    | with_reducible refine State.wf_frame (within_trans (by decide) hw) ?_
    | with_reducible refine State.count_frame (within_trans (by decide) hw) ?_
    | with_reducible refine State.raise_frame (within_trans (by decide) hw) ?_
    | with_reducible refine State.err_frame (within_trans (by decide) hw) ?_
    | with_reducible refine State.logFault_frame (within_trans (by decide) hw) ?_
    | with_reducible refine State.mRequest_frame (within_trans (by decide) hw) ?_
    | ((conv => arg 3; arg 34); with_reducible apply frame_mk)
    | exact fun b => absurd (hw _ b) (by decide)
    | with_reducible exact fun _ => rfl
    | ((with_reducible show NonVol.identity _ = NonVol.identity _); rfl)
    | split
    | dsimp only)

theorem State.retain_frame {W : Nat} {zz : State} {s : State} {m : Word} (hw : Within 1 W) (hs : Frame W zz s) :
    Frame W zz (State.retain s m) := by
  unfold State.retain
  try dsimp only
  repeat' (first
    | with_reducible exact hs
    | with_reducible assumption
    | with_reducible refine frame_ite ?_ ?_
    | with_reducible refine State.wr_frame (within_trans (by decide) hw) ?_
    | dsimp only)

theorem State.setBallast_frame {W : Nat} {zz : State} {s : State} {v : Word} (hw : Within 131073 W) (hs : Frame W zz s) :
    Frame W zz (State.setBallast s v) := by
  unfold State.setBallast
  try dsimp only
  repeat' (first
    | with_reducible exact hs
    | with_reducible assumption
    | with_reducible refine frame_ite ?_ ?_
    | with_reducible refine State.wr_frame (within_trans (by decide) hw) ?_
    | with_reducible refine State.raise_frame (within_trans (by decide) hw) ?_
    | with_reducible refine State.err_frame (within_trans (by decide) hw) ?_
    | with_reducible refine State.retain_frame (within_trans (by decide) hw) ?_
    | split
    | dsimp only)

theorem State.wakeFor_frame {W : Nat} {zz : State} {s : State} {p : Plan} (hw : Within 1 W) (hs : Frame W zz s) :
    Frame W zz (State.wakeFor s p) := by
  unfold State.wakeFor
  try dsimp only
  repeat' (first
    | with_reducible exact hs
    | with_reducible assumption
    | with_reducible refine frame_ite ?_ ?_
    | with_reducible refine State.retain_frame (within_trans (by decide) hw) ?_
    | dsimp only)

theorem State.ballastNow_frame {W : Nat} {zz : State} {s : State} (hw : Within 1 W) (hs : Frame W zz s) :
    Frame W zz (State.ballastNow s) := by
  unfold State.ballastNow
  try dsimp only
  repeat' (first
    | with_reducible exact hs
    | with_reducible assumption
    | with_reducible refine frame_ite ?_ ?_
    | with_reducible refine State.wr_frame (within_trans (by decide) hw) ?_
    | with_reducible refine State.retain_frame (within_trans (by decide) hw) ?_
    | dsimp only)

theorem opBallastWake_frame {W : Nat} {zz : State} {b : Nat} {s : State} (hw : Within 1 W) (hs : Frame W zz s) :
    Frame W zz (opBallastWake b s) := by
  unfold opBallastWake
  try dsimp only
  repeat' (first
    | with_reducible exact hs
    | with_reducible assumption
    | with_reducible refine frame_ite ?_ ?_
    | with_reducible refine State.wr_frame (within_trans (by decide) hw) ?_
    | dsimp only)

theorem opMemScrub_frame {W : Nat} {zz : State} {m : Nat} {e : Ecc} {passEnd : Bool} {s : State} (hw : Within 1179697 W) (hs : Frame W zz s) :
    Frame W zz (opMemScrub m e passEnd s) := by
  unfold opMemScrub
  try dsimp only
  repeat' (first
    | with_reducible exact hs
    | with_reducible assumption
    | with_reducible refine frame_ite ?_ ?_
    | with_reducible refine State.count_frame (within_trans (by decide) hw) ?_
    | with_reducible refine State.countMod_frame (within_trans (by decide) hw) ?_
    | with_reducible refine State.wipe_frame (within_trans (by decide) hw) ?_
    | ((conv => arg 3; arg 34); with_reducible apply frame_mk)
    | exact fun b => absurd (hw _ b) (by decide)
    | with_reducible exact fun _ => rfl
    | ((with_reducible show NonVol.identity _ = NonVol.identity _); rfl)
    | split
    | dsimp only)

end Sys2Proof.Machine
end

