-- ==== Sys2Proof/Laws/FramePairOps.lean ====
section
/-!
SUPPORT. The frame of each operation of Machine/PairOps.lean.
-/

set_option maxRecDepth 4000

namespace Sys2Proof.Machine

set_option linter.all false
set_option Elab.async false

theorem State.setTth_frame {W : Nat} {zz : State} {s : State} {v : Nat} (hw : Within 1 W) (hs : Frame W zz s) :
    Frame W zz (State.setTth s v) := by
  unfold State.setTth
  try dsimp only
  repeat' (first
    | with_reducible exact hs
    | with_reducible assumption
    | with_reducible refine frame_ite ?_ ?_
    | with_reducible refine State.wf_frame (within_trans (by decide) hw) ?_
    | dsimp only)

theorem State.setTlane_frame {W : Nat} {zz : State} {s : State} {i : Nat} {l : TethLane} (hw : Within 268435968 W) (hs : Frame W zz s) :
    Frame W zz (State.setTlane s i l) := by
  unfold State.setTlane
  try dsimp only
  repeat' (first
    | with_reducible exact hs
    | with_reducible assumption
    | with_reducible refine frame_ite ?_ ?_
    | ((conv => arg 3; arg 34); with_reducible apply frame_mk)
    | exact fun b => absurd (hw _ b) (by decide)
    | with_reducible exact fun _ => rfl
    | ((with_reducible show NonVol.identity _ = NonVol.identity _); rfl)
    | dsimp only)

theorem State.showLanes_frame {W : Nat} {zz : State} {s : State} (hw : Within 1 W) (hs : Frame W zz s) :
    Frame W zz (State.showLanes s) := by
  unfold State.showLanes
  try dsimp only
  repeat' (first
    | with_reducible exact hs
    | with_reducible assumption
    | with_reducible refine frame_ite ?_ ?_
    | with_reducible refine State.wf_frame (within_trans (by decide) hw) ?_
    | dsimp only)

theorem State.setSync_frame {W : Nat} {zz : State} {s : State} {v : Nat} (hw : Within 268566529 W) (hs : Frame W zz s) :
    Frame W zz (State.setSync s v) := by
  unfold State.setSync
  try dsimp only
  repeat' (first
    | with_reducible exact hs
    | with_reducible assumption
    | with_reducible refine frame_ite ?_ ?_
    | with_reducible refine State.wf_frame (within_trans (by decide) hw) ?_
    | with_reducible refine State.raise_frame (within_trans (by decide) hw) ?_
    | ((conv => arg 3; arg 34); with_reducible apply frame_mk)
    | exact fun b => absurd (hw _ b) (by decide)
    | with_reducible exact fun _ => rfl
    | ((with_reducible show NonVol.identity _ = NonVol.identity _); rfl)
    | split
    | dsimp only)

theorem State.sendHeld_frame {W : Nat} {zz : State} {s : State} {upTo : Nat} (hw : Within 4564582417 W) (hs : Frame W zz s) :
    Frame W zz (State.sendHeld s upTo) := by
  unfold State.sendHeld
  try dsimp only
  repeat' (first
    | with_reducible exact hs
    | with_reducible assumption
    | with_reducible refine frame_ite ?_ ?_
    | with_reducible refine State.sendMsg_frame (within_trans (by decide) hw) ?_
    | (with_reducible refine frame_foldl ?_ ?_) | (with_reducible refine frame_foldl_fst ?_ ?_) | (with_reducible refine frame_foldl_snd ?_ ?_) | (intro _ _ _)
    | ((conv => arg 3; arg 34); with_reducible apply frame_mk)
    | exact fun b => absurd (hw _ b) (by decide)
    | with_reducible exact fun _ => rfl
    | ((with_reducible show NonVol.identity _ = NonVol.identity _); rfl)
    | dsimp only)

theorem State.setRole_frame {W : Nat} {zz : State} {s : State} {r : Nat} (hw : Within 4567728129 W) (hs : Frame W zz s) :
    Frame W zz (State.setRole s r) := by
  unfold State.setRole
  try dsimp only
  repeat' (first
    | with_reducible exact hs
    | with_reducible assumption
    | with_reducible refine frame_ite ?_ ?_
    | with_reducible refine State.wf_frame (within_trans (by decide) hw) ?_
    | with_reducible refine State.raise_frame (within_trans (by decide) hw) ?_
    | with_reducible refine State.tswBalls_frame (within_trans (by decide) hw) ?_
    | with_reducible refine State.setOsw_frame (within_trans (by decide) hw) ?_
    | ((conv => arg 3; arg 34); with_reducible apply frame_mk)
    | exact fun b => absurd (hw _ b) (by decide)
    | with_reducible exact fun _ => rfl
    | ((with_reducible show NonVol.identity _ = NonVol.identity _); rfl)
    | split
    | dsimp only)

theorem State.becomeActive_frame {W : Nat} {zz : State} {s : State} (hw : Within 4567728129 W) (hs : Frame W zz s) :
    Frame W zz (State.becomeActive s) := by
  unfold State.becomeActive
  try dsimp only
  repeat' (first
    | with_reducible exact hs
    | with_reducible assumption
    | with_reducible refine frame_ite ?_ ?_
    | with_reducible refine State.setRole_frame (within_trans (by decide) hw) ?_
    | ((conv => arg 3; arg 34); with_reducible apply frame_mk)
    | exact fun b => absurd (hw _ b) (by decide)
    | with_reducible exact fun _ => rfl
    | ((with_reducible show NonVol.identity _ = NonVol.identity _); rfl)
    | split
    | dsimp only)

theorem State.startSync_frame {W : Nat} {zz : State} {s : State} {v : Nat} (hw : Within 269615121 W) (hs : Frame W zz s) :
    Frame W zz (State.startSync s v) := by
  unfold State.startSync
  try dsimp only
  repeat' (first
    | with_reducible exact hs
    | with_reducible assumption
    | with_reducible refine frame_ite ?_ ?_
    | with_reducible refine State.count_frame (within_trans (by decide) hw) ?_
    | with_reducible refine State.setSync_frame (within_trans (by decide) hw) ?_
    | ((conv => arg 3; arg 34); with_reducible apply frame_mk)
    | exact fun b => absurd (hw _ b) (by decide)
    | with_reducible exact fun _ => rfl
    | ((with_reducible show NonVol.identity _ = NonVol.identity _); rfl)
    | split
    | dsimp only)

theorem State.startChains_frame {W : Nat} {zz : State} {s : State} (hw : Within 4698670097 W) (hs : Frame W zz s) :
    Frame W zz (State.startChains s) := by
  unfold State.startChains
  try dsimp only
  repeat' (first
    | with_reducible exact hs
    | with_reducible assumption
    | with_reducible refine frame_ite ?_ ?_
    | with_reducible refine State.setDrp_frame (within_trans (by decide) hw) ?_
    | with_reducible refine State.train_frame (within_trans (by decide) hw) ?_
    | (with_reducible refine frame_iter ?_ ?_) | (with_reducible refine frame_iter_fst ?_ ?_) | (intro _ _ _)
    | split
    | dsimp only)

theorem State.becomeStandby_frame {W : Nat} {zz : State} {s : State} (hw : Within 4703585297 W) (hs : Frame W zz s) :
    Frame W zz (State.becomeStandby s) := by
  unfold State.becomeStandby
  try dsimp only
  repeat' (first
    | with_reducible exact hs
    | with_reducible assumption
    | with_reducible refine frame_ite ?_ ?_
    | with_reducible refine frame_ite_fst ?_ ?_
    | with_reducible refine frame_ite_snd ?_ ?_
    | with_reducible refine frame_ite_snd2 ?_ ?_
    | with_reducible refine State.setRole_frame (within_trans (by decide) hw) ?_
    | with_reducible refine State.startSync_frame (within_trans (by decide) hw) ?_
    | with_reducible refine State.startChains_frame (within_trans (by decide) hw) ?_
    | ((conv => arg 3; arg 34); with_reducible apply frame_mk)
    | exact fun b => absurd (hw _ b) (by decide)
    | with_reducible exact fun _ => rfl
    | ((with_reducible show NonVol.identity _ = NonVol.identity _); rfl)
    | dsimp only)

theorem State.secondEnds_frame {W : Nat} {zz : State} {s : State} (hw : Within 1 W) (hs : Frame W zz s) :
    Frame W zz (State.secondEnds s) := by
  unfold State.secondEnds
  try dsimp only
  repeat' (first
    | with_reducible exact hs
    | with_reducible assumption
    | with_reducible refine frame_ite ?_ ?_
    | with_reducible refine State.setDrp_frame (within_trans (by decide) hw) ?_
    | (with_reducible refine frame_iter ?_ ?_) | (with_reducible refine frame_iter_fst ?_ ?_) | (intro _ _ _)
    | split
    | dsimp only)

theorem State.stepDown_frame {W : Nat} {zz : State} {s : State} (hw : Within 4710334465 W) (hs : Frame W zz s) :
    Frame W zz (State.stepDown s) := by
  unfold State.stepDown
  try dsimp only
  repeat' (first
    | with_reducible exact hs
    | with_reducible assumption
    | with_reducible refine frame_ite ?_ ?_
    | with_reducible refine State.dropTrig_frame (within_trans (by decide) hw) ?_
    | with_reducible refine State.swapEnds_frame (within_trans (by decide) hw) ?_
    | with_reducible refine State.setSync_frame (within_trans (by decide) hw) ?_
    | with_reducible refine State.setRole_frame (within_trans (by decide) hw) ?_
    | with_reducible refine State.secondEnds_frame (within_trans (by decide) hw) ?_
    | ((conv => arg 3; arg 34); with_reducible apply frame_mk)
    | exact fun b => absurd (hw _ b) (by decide)
    | with_reducible exact fun _ => rfl
    | ((with_reducible show NonVol.identity _ = NonVol.identity _); rfl)
    | dsimp only)

theorem State.depose_frame {W : Nat} {zz : State} {s : State} (hw : Within 4710334465 W) (hs : Frame W zz s) :
    Frame W zz (State.depose s) := by
  unfold State.depose
  try dsimp only
  repeat' (first
    | with_reducible exact hs
    | with_reducible assumption
    | with_reducible refine frame_ite ?_ ?_
    | with_reducible refine State.err_frame (within_trans (by decide) hw) ?_
    | with_reducible refine State.stepDown_frame (within_trans (by decide) hw) ?_
    | dsimp only)

theorem opPfwFall_frame {W : Nat} {zz : State} {s : State} (hw : Within 4711462481 W) (hs : Frame W zz s) :
    Frame W zz (opPfwFall s) := by
  unfold opPfwFall
  try dsimp only
  repeat' (first
    | with_reducible exact hs
    | with_reducible assumption
    | with_reducible refine frame_ite ?_ ?_
    | with_reducible refine State.wf_frame (within_trans (by decide) hw) ?_
    | with_reducible refine State.count_frame (within_trans (by decide) hw) ?_
    | with_reducible refine State.raise_frame (within_trans (by decide) hw) ?_
    | with_reducible refine State.err_frame (within_trans (by decide) hw) ?_
    | with_reducible refine State.enterPark_frame (within_trans (by decide) hw) ?_
    | with_reducible refine State.setSync_frame (within_trans (by decide) hw) ?_
    | with_reducible refine State.stepDown_frame (within_trans (by decide) hw) ?_
    | ((conv => arg 3; arg 34); with_reducible apply frame_mk)
    | exact fun b => absurd (hw _ b) (by decide)
    | with_reducible exact fun _ => rfl
    | ((with_reducible show NonVol.identity _ = NonVol.identity _); rfl)
    | split
    | dsimp only)

theorem State.trainFail_frame {W : Nat} {zz : State} {s : State} {code : Nat} (hw : Within 4702995473 W) (hs : Frame W zz s) :
    Frame W zz (State.trainFail s code) := by
  unfold State.trainFail
  try dsimp only
  repeat' (first
    | with_reducible exact hs
    | with_reducible assumption
    | with_reducible refine frame_ite ?_ ?_
    | with_reducible refine State.err_frame (within_trans (by decide) hw) ?_
    | with_reducible refine State.becomeActive_frame (within_trans (by decide) hw) ?_
    | with_reducible refine State.startChains_frame (within_trans (by decide) hw) ?_
    | split
    | dsimp only)

theorem State.laneUp_frame {W : Nat} {zz : State} {s : State} {i : Nat} {hb : HbMsg} (hw : Within 268567041 W) (hs : Frame W zz s) :
    Frame W zz (State.laneUp s i hb) := by
  unfold State.laneUp
  try dsimp only
  repeat' (first
    | with_reducible exact hs
    | with_reducible assumption
    | with_reducible refine frame_ite ?_ ?_
    | with_reducible refine State.wr_frame (within_trans (by decide) hw) ?_
    | with_reducible refine State.wf_frame (within_trans (by decide) hw) ?_
    | with_reducible refine State.wr64_frame (within_trans (by decide) hw) ?_
    | with_reducible refine State.raise_frame (within_trans (by decide) hw) ?_
    | with_reducible refine State.setTth_frame (within_trans (by decide) hw) ?_
    | with_reducible refine State.setTlane_frame (within_trans (by decide) hw) ?_
    | with_reducible refine State.showLanes_frame (within_trans (by decide) hw) ?_
    | ((conv => arg 3; arg 34); with_reducible apply frame_mk)
    | exact fun b => absurd (hw _ b) (by decide)
    | with_reducible exact fun _ => rfl
    | ((with_reducible show NonVol.identity _ = NonVol.identity _); rfl)
    | split
    | dsimp only)

theorem State.settleRole_frame {W : Nat} {zz : State} {s : State} {hb : HbMsg} (hw : Within 4711973905 W) (hs : Frame W zz s) :
    Frame W zz (State.settleRole s hb) := by
  unfold State.settleRole
  try dsimp only
  repeat' (first
    | with_reducible exact hs
    | with_reducible assumption
    | with_reducible refine frame_ite ?_ ?_
    | with_reducible refine State.becomeActive_frame (within_trans (by decide) hw) ?_
    | with_reducible refine State.startChains_frame (within_trans (by decide) hw) ?_
    | with_reducible refine State.becomeStandby_frame (within_trans (by decide) hw) ?_
    | with_reducible refine State.depose_frame (within_trans (by decide) hw) ?_
    | split
    | dsimp only)

theorem State.trainHb_frame {W : Nat} {zz : State} {s : State} {i : Nat} {hb : HbMsg} (hw : Within 4702995985 W) (hs : Frame W zz s) :
    Frame W zz (State.trainHb s i hb) := by
  unfold State.trainHb
  try dsimp only
  repeat' (first
    | with_reducible exact hs
    | with_reducible assumption
    | with_reducible refine frame_ite ?_ ?_
    | with_reducible refine State.wr_frame (within_trans (by decide) hw) ?_
    | with_reducible refine State.err_frame (within_trans (by decide) hw) ?_
    | with_reducible refine State.setTth_frame (within_trans (by decide) hw) ?_
    | with_reducible refine State.setTlane_frame (within_trans (by decide) hw) ?_
    | with_reducible refine State.trainFail_frame (within_trans (by decide) hw) ?_
    | with_reducible refine State.laneUp_frame (within_trans (by decide) hw) ?_
    | ((conv => arg 3; arg 34); with_reducible apply frame_mk)
    | exact fun b => absurd (hw _ b) (by decide)
    | with_reducible exact fun _ => rfl
    | ((with_reducible show NonVol.identity _ = NonVol.identity _); rfl)
    | split
    | dsimp only)

theorem State.tetherDown_frame {W : Nat} {zz : State} {s : State} (hw : Within 4564582417 W) (hs : Frame W zz s) :
    Frame W zz (State.tetherDown s) := by
  unfold State.tetherDown
  try dsimp only
  repeat' (first
    | with_reducible exact hs
    | with_reducible assumption
    | with_reducible refine frame_ite ?_ ?_
    | with_reducible refine State.raise_frame (within_trans (by decide) hw) ?_
    | with_reducible refine State.err_frame (within_trans (by decide) hw) ?_
    | with_reducible refine State.setTth_frame (within_trans (by decide) hw) ?_
    | with_reducible refine State.setSync_frame (within_trans (by decide) hw) ?_
    | with_reducible refine State.sendHeld_frame (within_trans (by decide) hw) ?_
    | ((conv => arg 3; arg 34); with_reducible apply frame_mk)
    | exact fun b => absurd (hw _ b) (by decide)
    | with_reducible exact fun _ => rfl
    | ((with_reducible show NonVol.identity _ = NonVol.identity _); rfl)
    | split
    | dsimp only)

theorem State.laneLost_frame {W : Nat} {zz : State} {s : State} {i : Nat} {block : Bool} (hw : Within 269615633 W) (hs : Frame W zz s) :
    Frame W zz (State.laneLost s i block) := by
  unfold State.laneLost
  try dsimp only
  repeat' (first
    | with_reducible exact hs
    | with_reducible assumption
    | with_reducible refine frame_ite ?_ ?_
    | with_reducible refine State.count_frame (within_trans (by decide) hw) ?_
    | with_reducible refine State.raise_frame (within_trans (by decide) hw) ?_
    | with_reducible refine State.err_frame (within_trans (by decide) hw) ?_
    | with_reducible refine State.setTth_frame (within_trans (by decide) hw) ?_
    | with_reducible refine State.setTlane_frame (within_trans (by decide) hw) ?_
    | with_reducible refine State.showLanes_frame (within_trans (by decide) hw) ?_
    | ((conv => arg 3; arg 34); with_reducible apply frame_mk)
    | exact fun b => absurd (hw _ b) (by decide)
    | with_reducible exact fun _ => rfl
    | ((with_reducible show NonVol.identity _ = NonVol.identity _); rfl)
    | split
    | dsimp only)

theorem State.gapPlaceholders_frame {W : Nat} {zz : State} {s : State} {k : Nat} (hw : Within 1536 W) (hs : Frame W zz s) :
    Frame W zz (State.gapPlaceholders s k) := by
  unfold State.gapPlaceholders
  try dsimp only
  repeat' (first
    | with_reducible exact hs
    | with_reducible assumption
    | with_reducible refine frame_ite ?_ ?_
    | with_reducible refine State.setLane_frame (within_trans (by decide) hw) ?_
    | with_reducible refine State.bumpSeq_frame (within_trans (by decide) hw) ?_
    | (with_reducible refine frame_foldl ?_ ?_) | (with_reducible refine frame_foldl_fst ?_ ?_) | (with_reducible refine frame_foldl_snd ?_ ?_) | (intro _ _ _)
    | ((conv => arg 3; arg 34); with_reducible apply frame_mk)
    | exact fun b => absurd (hw _ b) (by decide)
    | with_reducible exact fun _ => rfl
    | ((with_reducible show NonVol.identity _ = NonVol.identity _); rfl)
    | split
    | dsimp only)

theorem State.loseZones_frame {W : Nat} {zz : State} {s : State} {p : Nat} (hw : Within 4564588049 W) (hs : Frame W zz s) :
    Frame W zz (State.loseZones s p) := by
  unfold State.loseZones
  try dsimp only
  repeat' (first
    | with_reducible exact hs
    | with_reducible assumption
    | with_reducible refine frame_ite ?_ ?_
    | with_reducible refine State.count_frame (within_trans (by decide) hw) ?_
    | with_reducible refine State.emit_frame (within_trans (by decide) hw) ?_
    | (with_reducible refine frame_foldl ?_ ?_) | (with_reducible refine frame_foldl_fst ?_ ?_) | (with_reducible refine frame_foldl_snd ?_ ?_) | (intro _ _ _)
    | split
    | dsimp only)

theorem State.loseRun_frame {W : Nat} {zz : State} {s : State} {r : FibRun} (hw : Within 4581365265 W) (hs : Frame W zz s) :
    Frame W zz (State.loseRun s r) := by
  unfold State.loseRun
  try dsimp only
  repeat' (first
    | with_reducible exact hs
    | with_reducible assumption
    | with_reducible refine frame_ite ?_ ?_
    | with_reducible refine State.phaseBlocks_frame (within_trans (by decide) hw) ?_
    | with_reducible refine State.contactSheets_frame (within_trans (by decide) hw) ?_
    | with_reducible refine State.loseZones_frame (within_trans (by decide) hw) ?_
    | (with_reducible refine frame_iter ?_ ?_) | (with_reducible refine frame_iter_fst ?_ ?_) | (intro _ _ _)
    | ((conv => arg 3; arg 34); with_reducible apply frame_mk)
    | exact fun b => absurd (hw _ b) (by decide)
    | with_reducible exact fun _ => rfl
    | ((with_reducible show NonVol.identity _ = NonVol.identity _); rfl)
    | dsimp only)

theorem State.loseRuns_frame {W : Nat} {zz : State} {s : State} (hw : Within 4581365265 W) (hs : Frame W zz s) :
    Frame W zz (State.loseRuns s) := by
  unfold State.loseRuns
  try dsimp only
  repeat' (first
    | with_reducible exact hs
    | with_reducible assumption
    | with_reducible refine frame_ite ?_ ?_
    | with_reducible refine State.loseRun_frame (within_trans (by decide) hw) ?_
    | (with_reducible refine frame_foldl ?_ ?_) | (with_reducible refine frame_foldl_fst ?_ ?_) | (with_reducible refine frame_foldl_snd ?_ ?_) | (intro _ _ _)
    | ((conv => arg 3; arg 34); with_reducible apply frame_mk)
    | exact fun b => absurd (hw _ b) (by decide)
    | with_reducible exact fun _ => rfl
    | ((with_reducible show NonVol.identity _ = NonVol.identity _); rfl)
    | split
    | dsimp only)

theorem State.completeFed_frame {W : Nat} {zz : State} {s : State} (hw : Within 4648556053 W) (hs : Frame W zz s) :
    Frame W zz (State.completeFed s) := by
  unfold State.completeFed
  try dsimp only
  repeat' (first
    | with_reducible exact hs
    | with_reducible assumption
    | with_reducible refine frame_ite ?_ ?_
    | with_reducible refine State.withRun_frame (within_trans (by decide) hw) ?_ ?_
    | with_reducible refine State.updatePoint_frame (within_trans (by decide) hw) ?_
    | intro _ _ _
    | intro _ _
    | (with_reducible refine frame_iter ?_ ?_) | (with_reducible refine frame_iter_fst ?_ ?_) | (intro _ _ _)
    | (with_reducible refine frame_foldl ?_ ?_) | (with_reducible refine frame_foldl_fst ?_ ?_) | (with_reducible refine frame_foldl_snd ?_ ?_) | (intro _ _ _)
    | ((conv => arg 3; arg 34); with_reducible apply frame_mk)
    | exact fun b => absurd (hw _ b) (by decide)
    | with_reducible exact fun _ => rfl
    | ((with_reducible show NonVol.identity _ = NonVol.identity _); rfl)
    | dsimp only)

theorem State.settleExc_frame {W : Nat} {zz : State} {s : State} {n : Nat} (hw : Within 4194304 W) (hs : Frame W zz s) :
    Frame W zz (State.settleExc s n) := by
  unfold State.settleExc
  try dsimp only
  repeat' (first
    | with_reducible exact hs
    | with_reducible assumption
    | with_reducible refine frame_ite ?_ ?_
    | with_reducible refine State.setFch_frame (within_trans (by decide) hw) ?_
    | ((conv => arg 3; arg 34); with_reducible apply frame_mk)
    | exact fun b => absurd (hw _ b) (by decide)
    | with_reducible exact fun _ => rfl
    | ((with_reducible show NonVol.identity _ = NonVol.identity _); rfl)
    | split
    | dsimp only)

theorem State.exciteChannel_frame {W : Nat} {zz : State} {s : State} {n mode : Nat} (hw : Within 4341761 W) (hs : Frame W zz s) :
    Frame W zz (State.exciteChannel s n mode) := by
  unfold State.exciteChannel
  try dsimp only
  repeat' (first
    | with_reducible exact hs
    | with_reducible assumption
    | with_reducible refine frame_ite ?_ ?_
    | with_reducible refine State.startHold_frame (within_trans (by decide) hw) ?_
    | with_reducible refine State.settleExc_frame (within_trans (by decide) hw) ?_
    | split
    | dsimp only)

theorem State.exciteAll_frame {W : Nat} {zz : State} {s : State} (hw : Within 4299309057 W) (hs : Frame W zz s) :
    Frame W zz (State.exciteAll s) := by
  unfold State.exciteAll
  try dsimp only
  repeat' (first
    | with_reducible exact hs
    | with_reducible assumption
    | with_reducible refine frame_ite ?_ ?_
    | with_reducible refine State.tswUpdate_frame (within_trans (by decide) hw) ?_
    | with_reducible refine State.exciteChannel_frame (within_trans (by decide) hw) ?_
    | (with_reducible refine frame_iter ?_ ?_) | (with_reducible refine frame_iter_fst ?_ ?_) | (intro _ _ _)
    | dsimp only)

theorem State.resumeLanes_frame {W : Nat} {zz : State} {s : State} (hw : Within 1536 W) (hs : Frame W zz s) :
    Frame W zz (State.resumeLanes s) := by
  unfold State.resumeLanes
  try dsimp only
  repeat' (first
    | with_reducible exact hs
    | with_reducible assumption
    | with_reducible refine frame_ite ?_ ?_
    | with_reducible refine State.setLane_frame (within_trans (by decide) hw) ?_
    | with_reducible refine State.gapPlaceholders_frame (within_trans (by decide) hw) ?_
    | (with_reducible refine frame_iter ?_ ?_) | (with_reducible refine frame_iter_fst ?_ ?_) | (intro _ _ _)
    | ((conv => arg 3; arg 34); with_reducible apply frame_mk)
    | exact fun b => absurd (hw _ b) (by decide)
    | with_reducible exact fun _ => rfl
    | ((with_reducible show NonVol.identity _ = NonVol.identity _); rfl)
    | split
    | dsimp only)

theorem State.masterChains_frame {W : Nat} {zz : State} {s : State} (hw : Within 4697752577 W) (hs : Frame W zz s) :
    Frame W zz (State.masterChains s) := by
  unfold State.masterChains
  try dsimp only
  repeat' (first
    | with_reducible exact hs
    | with_reducible assumption
    | with_reducible refine frame_ite ?_ ?_
    | with_reducible refine State.setPort_frame (within_trans (by decide) hw) ?_
    | with_reducible refine State.setDrp_frame (within_trans (by decide) hw) ?_
    | with_reducible refine State.swapEnds_frame (within_trans (by decide) hw) ?_
    | with_reducible refine State.assigned_frame (within_trans (by decide) hw) ?_
    | (with_reducible refine frame_iter ?_ ?_) | (with_reducible refine frame_iter_fst ?_ ?_) | (intro _ _ _)
    | (with_reducible refine frame_foldl ?_ ?_) | (with_reducible refine frame_foldl_fst ?_ ?_) | (with_reducible refine frame_foldl_snd ?_ ?_) | (intro _ _ _)
    | ((conv => arg 3; arg 34); with_reducible apply frame_mk)
    | exact fun b => absurd (hw _ b) (by decide)
    | with_reducible exact fun _ => rfl
    | ((with_reducible show NonVol.identity _ = NonVol.identity _); rfl)
    | split
    | dsimp only)

theorem State.ownTriggers_frame {W : Nat} {zz : State} {s : State} (hw : Within 4564702737 W) (hs : Frame W zz s) :
    Frame W zz (State.ownTriggers s) := by
  unfold State.ownTriggers
  try dsimp only
  repeat' (first
    | with_reducible exact hs
    | with_reducible assumption
    | with_reducible refine frame_ite ?_ ?_
    | with_reducible refine State.passTrigger_frame (within_trans (by decide) hw) ?_
    | (with_reducible refine frame_foldl ?_ ?_) | (with_reducible refine frame_foldl_fst ?_ ?_) | (with_reducible refine frame_foldl_snd ?_ ?_) | (intro _ _ _)
    | dsimp only)

theorem State.takeRole_frame {W : Nat} {zz : State} {s : State} {t : Time} (hw : Within 4703016465 W) (hs : Frame W zz s) :
    Frame W zz (State.takeRole s t) := by
  unfold State.takeRole
  try dsimp only
  repeat' (first
    | with_reducible exact hs
    | with_reducible assumption
    | with_reducible refine frame_ite ?_ ?_
    | with_reducible refine State.wr64_frame (within_trans (by decide) hw) ?_
    | with_reducible refine State.count_frame (within_trans (by decide) hw) ?_
    | with_reducible refine State.sysMark_frame (within_trans (by decide) hw) ?_
    | with_reducible refine State.becomeActive_frame (within_trans (by decide) hw) ?_
    | with_reducible refine State.exciteAll_frame (within_trans (by decide) hw) ?_
    | with_reducible refine State.masterChains_frame (within_trans (by decide) hw) ?_
    | ((conv => arg 3; arg 34); with_reducible apply frame_mk)
    | exact fun b => absurd (hw _ b) (by decide)
    | with_reducible exact fun _ => rfl
    | ((with_reducible show NonVol.identity _ = NonVol.identity _); rfl)
    | dsimp only)

theorem State.startHandover_frame {W : Nat} {zz : State} {s : State} (hw : Within 268435457 W) (hs : Frame W zz s) :
    Frame W zz (State.startHandover s) := by
  unfold State.startHandover
  try dsimp only
  repeat' (first
    | with_reducible exact hs
    | with_reducible assumption
    | with_reducible refine frame_ite ?_ ?_
    | with_reducible refine State.wf_frame (within_trans (by decide) hw) ?_
    | ((conv => arg 3; arg 34); with_reducible apply frame_mk)
    | exact fun b => absurd (hw _ b) (by decide)
    | with_reducible exact fun _ => rfl
    | ((with_reducible show NonVol.identity _ = NonVol.identity _); rfl)
    | split
    | dsimp only)

theorem State.handoverBoundary_frame {W : Nat} {zz : State} {s : State} (hw : Within 4703016465 W) (hs : Frame W zz s) :
    Frame W zz (State.handoverBoundary s) := by
  unfold State.handoverBoundary
  try dsimp only
  repeat' (first
    | with_reducible exact hs
    | with_reducible assumption
    | with_reducible refine frame_ite ?_ ?_
    | with_reducible refine State.wf_frame (within_trans (by decide) hw) ?_
    | with_reducible refine State.sysMark_frame (within_trans (by decide) hw) ?_
    | with_reducible refine State.swapEnds_frame (within_trans (by decide) hw) ?_
    | with_reducible refine State.setRole_frame (within_trans (by decide) hw) ?_
    | with_reducible refine State.secondEnds_frame (within_trans (by decide) hw) ?_
    | with_reducible refine State.exciteChannel_frame (within_trans (by decide) hw) ?_
    | with_reducible refine State.resumeLanes_frame (within_trans (by decide) hw) ?_
    | with_reducible refine State.takeRole_frame (within_trans (by decide) hw) ?_
    | (with_reducible refine frame_iter ?_ ?_) | (with_reducible refine frame_iter_fst ?_ ?_) | (intro _ _ _)
    | ((conv => arg 3; arg 34); with_reducible apply frame_mk)
    | exact fun b => absurd (hw _ b) (by decide)
    | with_reducible exact fun _ => rfl
    | ((with_reducible show NonVol.identity _ = NonVol.identity _); rfl)
    | split
    | dsimp only)

theorem State.matchShot_frame {W : Nat} {zz : State} {s : State} (hw : Within 285212688 W) (hs : Frame W zz s) :
    Frame W zz (State.matchShot s) := by
  unfold State.matchShot
  try dsimp only
  repeat' (first
    | with_reducible exact hs
    | with_reducible assumption
    | with_reducible refine frame_ite ?_ ?_
    | with_reducible refine State.fresh_frame (within_trans (by decide) hw) ?_
    | ((conv => arg 3; arg 34); with_reducible apply frame_mk)
    | exact fun b => absurd (hw _ b) (by decide)
    | with_reducible exact fun _ => rfl
    | ((with_reducible show NonVol.identity _ = NonVol.identity _); rfl)
    | split
    | dsimp only)

theorem State.healthBit_frame {W : Nat} {zz : State} {s : State} {b : Nat} {v : Bool} (hw : Within 131073 W) (hs : Frame W zz s) :
    Frame W zz (State.healthBit s b v) := by
  unfold State.healthBit
  try dsimp only
  repeat' (first
    | with_reducible exact hs
    | with_reducible assumption
    | with_reducible refine frame_ite ?_ ?_
    | with_reducible refine State.wr_frame (within_trans (by decide) hw) ?_
    | with_reducible refine State.raise_frame (within_trans (by decide) hw) ?_
    | with_reducible refine State.err_frame (within_trans (by decide) hw) ?_
    | split
    | dsimp only)

theorem State.healthReport_frame {W : Nat} {zz : State} {s : State} (hw : Within 268566529 W) (hs : Frame W zz s) :
    Frame W zz (State.healthReport s) := by
  unfold State.healthReport
  try dsimp only
  repeat' (first
    | with_reducible exact hs
    | with_reducible assumption
    | with_reducible refine frame_ite ?_ ?_
    | with_reducible refine State.wr_frame (within_trans (by decide) hw) ?_
    | with_reducible refine State.healthBit_frame (within_trans (by decide) hw) ?_
    | ((conv => arg 3; arg 34); with_reducible apply frame_mk)
    | exact fun b => absurd (hw _ b) (by decide)
    | with_reducible exact fun _ => rfl
    | ((with_reducible show NonVol.identity _ = NonVol.identity _); rfl)
    | split
    | dsimp only)

end Sys2Proof.Machine
end

