-- ==== Sys2Proof/Laws/FrameLanes.lean ====
section
/-!
SUPPORT. The frame of each operation of Machine/Lanes.lean.
-/

set_option maxRecDepth 4000

namespace Sys2Proof.Machine

set_option linter.all false
set_option Elab.async false

theorem opLaneLocked_frame {W : Nat} {zz : State} {n : Nat} {s : State} (hw : Within 4565382737 W) (hs : Frame W zz s) :
    Frame W zz (opLaneLocked n s) := by
  unfold opLaneLocked
  try dsimp only
  repeat' (first
    | with_reducible exact hs
    | with_reducible assumption
    | with_reducible refine frame_ite ?_ ?_
    | with_reducible refine State.wf_frame (within_trans (by decide) hw) ?_
    | with_reducible refine State.portCheck_frame (within_trans (by decide) hw) ?_
    | ((conv => arg 3; arg 34); with_reducible apply frame_mk)
    | exact fun b => absurd (hw _ b) (by decide)
    | with_reducible exact fun _ => rfl
    | ((with_reducible show NonVol.identity _ = NonVol.identity _); rfl)
    | split
    | dsimp only)

theorem State.laneFails_frame {W : Nat} {zz : State} {s : State} {n : Nat} (hw : Within 4565382673 W) (hs : Frame W zz s) :
    Frame W zz (State.laneFails s n) := by
  unfold State.laneFails
  try dsimp only
  repeat' (first
    | with_reducible exact hs
    | with_reducible assumption
    | with_reducible refine frame_ite ?_ ?_
    | with_reducible refine State.wf_frame (within_trans (by decide) hw) ?_
    | with_reducible refine State.portCheck_frame (within_trans (by decide) hw) ?_
    | with_reducible refine State.sourceLost_frame (within_trans (by decide) hw) ?_
    | with_reducible refine State.laneLost_frame (within_trans (by decide) hw) ?_
    | split
    | dsimp only)

theorem opFreqCompare_frame {W : Nat} {zz : State} {n : Nat} {offset : Int} {s : State} (hw : Within 4565382745 W) (hs : Frame W zz s) :
    Frame W zz (opFreqCompare n offset s) := by
  unfold opFreqCompare
  try dsimp only
  repeat' (first
    | with_reducible exact hs
    | with_reducible assumption
    | with_reducible refine frame_ite ?_ ?_
    | with_reducible refine State.wr_frame (within_trans (by decide) hw) ?_
    | with_reducible refine State.wf_frame (within_trans (by decide) hw) ?_
    | with_reducible refine State.count_frame (within_trans (by decide) hw) ?_
    | with_reducible refine State.raise_frame (within_trans (by decide) hw) ?_
    | with_reducible refine State.err_frame (within_trans (by decide) hw) ?_
    | with_reducible refine State.setReady_frame (within_trans (by decide) hw) ?_
    | with_reducible refine State.takeSource_frame (within_trans (by decide) hw) ?_
    | with_reducible refine State.laneFails_frame (within_trans (by decide) hw) ?_
    | ((conv => arg 3; arg 34); with_reducible apply frame_mk)
    | exact fun b => absurd (hw _ b) (by decide)
    | with_reducible exact fun _ => rfl
    | ((with_reducible show NonVol.identity _ = NonVol.identity _); rfl)
    | split
    | dsimp only)

theorem opLosDetect_frame {W : Nat} {zz : State} {n : Nat} {s : State} (hw : Within 4565382673 W) (hs : Frame W zz s) :
    Frame W zz (opLosDetect n s) := by
  unfold opLosDetect
  try dsimp only
  repeat' (first
    | with_reducible exact hs
    | with_reducible assumption
    | with_reducible refine frame_ite ?_ ?_
    | with_reducible refine State.wf_frame (within_trans (by decide) hw) ?_
    | with_reducible refine State.count_frame (within_trans (by decide) hw) ?_
    | with_reducible refine State.raise_frame (within_trans (by decide) hw) ?_
    | with_reducible refine State.err_frame (within_trans (by decide) hw) ?_
    | with_reducible refine State.laneFails_frame (within_trans (by decide) hw) ?_
    | split
    | dsimp only)

theorem opCdrUnlock_frame {W : Nat} {zz : State} {n : Nat} {s : State} (hw : Within 4565382673 W) (hs : Frame W zz s) :
    Frame W zz (opCdrUnlock n s) := by
  unfold opCdrUnlock
  try dsimp only
  repeat' (first
    | with_reducible exact hs
    | with_reducible assumption
    | with_reducible refine frame_ite ?_ ?_
    | with_reducible refine State.wf_frame (within_trans (by decide) hw) ?_
    | with_reducible refine State.count_frame (within_trans (by decide) hw) ?_
    | with_reducible refine State.raise_frame (within_trans (by decide) hw) ?_
    | with_reducible refine State.err_frame (within_trans (by decide) hw) ?_
    | with_reducible refine State.laneFails_frame (within_trans (by decide) hw) ?_
    | split
    | dsimp only)

theorem opBlockLockLoss_frame {W : Nat} {zz : State} {n : Nat} {fec : Bool} {s : State} (hw : Within 4565374481 W) (hs : Frame W zz s) :
    Frame W zz (opBlockLockLoss n fec s) := by
  unfold opBlockLockLoss
  try dsimp only
  repeat' (first
    | with_reducible exact hs
    | with_reducible assumption
    | with_reducible refine frame_ite ?_ ?_
    | with_reducible refine State.wf_frame (within_trans (by decide) hw) ?_
    | with_reducible refine State.portCheck_frame (within_trans (by decide) hw) ?_
    | with_reducible refine State.laneLost_frame (within_trans (by decide) hw) ?_
    | split
    | dsimp only)

end Sys2Proof.Machine
end

