-- ==== Sys2Proof/Laws/FramePlanLoad.lean ====
section
/-!
SUPPORT. The frame of each operation of Machine/PlanLoad.lean.
-/

set_option maxRecDepth 4000

namespace Sys2Proof.Machine

set_option linter.all false
set_option Elab.async false

theorem State.install_frame {W : Nat} {zz : State} {s : State} {p : Plan} (hw : Within 129 W)
    (hs : Frame W zz s) : Frame W zz (s.install p) := by
  unfold State.install
  refine frame_trans hs ?_
  constructor <;> first
    | exact fun _ => rfl
    | exact fun b => absurd (hw _ b) (by decide)
    | rfl
    | exact id
    | skip
  intro h
  refine NMap.wf_foldl _ _ _ (fun m e h => ?_) _ (NMap.wf_filter _ _ _ h)
  split
  · exact h
  · exact NMap.wf_set resetWord m _ _ h

theorem State.setLive_frame {W : Nat} {zz : State} {s : State} {addr : Nat} {v : Word} (hw : Within 4703114769 W) (hs : Frame W zz s) :
    Frame W zz (State.setLive s addr v) := by
  unfold State.setLive
  try dsimp only
  repeat' (first
    | with_reducible exact hs
    | with_reducible assumption
    | with_reducible refine frame_ite ?_ ?_
    | with_reducible refine State.wr_frame (within_trans (by decide) hw) ?_
    | with_reducible refine State.setUnit_frame (within_trans (by decide) hw) ?_
    | with_reducible refine State.schedCfgSet_frame (within_trans (by decide) hw) ?_
    | with_reducible refine State.schedAtSet_frame (within_trans (by decide) hw) ?_
    | with_reducible refine State.liveRange_frame (within_trans (by decide) hw) ?_
    | with_reducible refine State.onPort_frame (within_trans (by decide) hw) ?_
    | ((conv => arg 3; arg 34); with_reducible apply frame_mk)
    | exact fun b => absurd (hw _ b) (by decide)
    | with_reducible exact fun _ => rfl
    | ((with_reducible show NonVol.identity _ = NonVol.identity _); rfl)
    | split
    | dsimp only)

theorem State.showConv_frame {W : Nat} {zz : State} {s : State} (hw : Within 1 W) (hs : Frame W zz s) :
    Frame W zz (State.showConv s) := by
  unfold State.showConv
  try dsimp only
  repeat' (first
    | with_reducible exact hs
    | with_reducible assumption
    | with_reducible refine frame_ite ?_ ?_
    | with_reducible refine State.setConv_frame (within_trans (by decide) hw) ?_
    | (with_reducible refine frame_iter ?_ ?_) | (with_reducible refine frame_iter_fst ?_ ?_) | (intro _ _ _)
    | split
    | dsimp only)

theorem State.showFigures_frame {W : Nat} {zz : State} {s : State} {p : Plan} (hw : Within 1 W) (hs : Frame W zz s) :
    Frame W zz (State.showFigures s p) := by
  unfold State.showFigures
  try dsimp only
  repeat' (first
    | with_reducible exact hs
    | with_reducible assumption
    | with_reducible refine frame_ite ?_ ?_
    | with_reducible refine State.wr_frame (within_trans (by decide) hw) ?_
    | with_reducible refine State.wf_frame (within_trans (by decide) hw) ?_
    | with_reducible refine State.showCap_frame (within_trans (by decide) hw) ?_
    | with_reducible refine State.showConv_frame (within_trans (by decide) hw) ?_
    | (with_reducible refine frame_iter ?_ ?_) | (with_reducible refine frame_iter_fst ?_ ?_) | (intro _ _ _)
    | split
    | dsimp only)

theorem State.startNotch_frame {W : Nat} {zz : State} {s : State} (hw : Within 4567209489 W) (hs : Frame W zz s) :
    Frame W zz (State.startNotch s) := by
  unfold State.startNotch
  try dsimp only
  repeat' (first
    | with_reducible exact hs
    | with_reducible assumption
    | with_reducible refine frame_ite ?_ ?_
    | with_reducible refine State.wf_frame (within_trans (by decide) hw) ?_
    | with_reducible refine State.measured_frame (within_trans (by decide) hw) ?_
    | ((conv => arg 3; arg 34); with_reducible apply frame_mk)
    | exact fun b => absurd (hw _ b) (by decide)
    | with_reducible exact fun _ => rfl
    | ((with_reducible show NonVol.identity _ = NonVol.identity _); rfl)
    | split
    | dsimp only)

theorem State.autoUngate_frame {W : Nat} {zz : State} {s : State} {p : Plan} (hw : Within 8321 W) (hs : Frame W zz s) :
    Frame W zz (State.autoUngate s p) := by
  unfold State.autoUngate
  try dsimp only
  repeat' (first
    | with_reducible exact hs
    | with_reducible assumption
    | with_reducible refine frame_ite ?_ ?_
    | with_reducible refine State.wr_frame (within_trans (by decide) hw) ?_
    | with_reducible refine State.install_frame (within_trans (by decide) hw) ?_
    | (with_reducible refine frame_iter ?_ ?_) | (with_reducible refine frame_iter_fst ?_ ?_) | (intro _ _ _)
    | (with_reducible refine frame_foldl ?_ ?_) | (with_reducible refine frame_foldl_fst ?_ ?_) | (with_reducible refine frame_foldl_snd ?_ ?_) | (intro _ _ _)
    | ((conv => arg 3; arg 34); with_reducible apply frame_mk)
    | exact fun b => absurd (hw _ b) (by decide)
    | with_reducible exact fun _ => rfl
    | ((with_reducible show NonVol.identity _ = NonVol.identity _); rfl)
    | split
    | dsimp only)

theorem State.autoGate_frame {W : Nat} {zz : State} {s : State} (hw : Within 131073 W) (hs : Frame W zz s) :
    Frame W zz (State.autoGate s) := by
  unfold State.autoGate
  try dsimp only
  repeat' (first
    | with_reducible exact hs
    | with_reducible assumption
    | with_reducible refine frame_ite ?_ ?_
    | with_reducible refine opGateWrite_frame (within_trans (by decide) hw) ?_
    | (with_reducible refine frame_iter ?_ ?_) | (with_reducible refine frame_iter_fst ?_ ?_) | (intro _ _ _)
    | (with_reducible refine frame_foldl ?_ ?_) | (with_reducible refine frame_foldl_fst ?_ ?_) | (with_reducible refine frame_foldl_snd ?_ ?_) | (intro _ _ _)
    | split
    | dsimp only)

theorem State.startUnit_frame {W : Nat} {zz : State} {s : State} {u : Nat} {a : Option Time} {c : CapUnit} (hw : Within 65537 W) (hs : Frame W zz s) :
    Frame W zz (State.startUnit s u a c) := by
  unfold State.startUnit
  try dsimp only
  repeat' (first
    | with_reducible exact hs
    | with_reducible assumption
    | with_reducible refine frame_ite ?_ ?_
    | with_reducible refine State.wr_frame (within_trans (by decide) hw) ?_
    | with_reducible refine State.setUnit_frame (within_trans (by decide) hw) ?_
    | ((conv => arg 3; arg 34); with_reducible apply frame_mk)
    | exact fun b => absurd (hw _ b) (by decide)
    | with_reducible exact fun _ => rfl
    | ((with_reducible show NonVol.identity _ = NonVol.identity _); rfl)
    | split
    | dsimp only)

theorem State.startField_frame {W : Nat} {zz : State} {s : State} {n : Nat} {lim : Int} (hw : Within 4341761 W) (hs : Frame W zz s) :
    Frame W zz (State.startField s n lim) := by
  unfold State.startField
  try dsimp only
  repeat' (first
    | with_reducible exact hs
    | with_reducible assumption
    | with_reducible refine frame_ite ?_ ?_
    | with_reducible refine State.wf_frame (within_trans (by decide) hw) ?_
    | with_reducible refine State.setFch_frame (within_trans (by decide) hw) ?_
    | with_reducible refine State.cmpStep_frame (within_trans (by decide) hw) ?_
    | with_reducible refine State.exciteChannel_frame (within_trans (by decide) hw) ?_
    | ((conv => arg 3; arg 34); with_reducible apply frame_mk)
    | exact fun b => absurd (hw _ b) (by decide)
    | with_reducible exact fun _ => rfl
    | ((with_reducible show NonVol.identity _ = NonVol.identity _); rfl)
    | split
    | dsimp only)

theorem State.startScheds_frame {W : Nat} {zz : State} {s : State} (hw : Within 4564702737 W) (hs : Frame W zz s) :
    Frame W zz (State.startScheds s) := by
  unfold State.startScheds
  try dsimp only
  repeat' (first
    | with_reducible exact hs
    | with_reducible assumption
    | with_reducible refine frame_ite ?_ ?_
    | with_reducible refine State.schedCfgSet_frame (within_trans (by decide) hw) ?_
    | (with_reducible refine frame_iter ?_ ?_) | (with_reducible refine frame_iter_fst ?_ ?_) | (intro _ _ _)
    | ((conv => arg 3; arg 34); with_reducible apply frame_mk)
    | exact fun b => absurd (hw _ b) (by decide)
    | with_reducible exact fun _ => rfl
    | ((with_reducible show NonVol.identity _ = NonVol.identity _); rfl)
    | dsimp only)

theorem State.startPlan_frame {W : Nat} {zz : State} {s : State} {p0 : Plan} {slot : Nat} {E : Time} (hw : Within 4831574003 W) (hs : Frame W zz s) :
    Frame W zz (State.startPlan s p0 slot E) := by
  unfold State.startPlan
  try dsimp only
  repeat' (first
    | with_reducible exact hs
    | with_reducible assumption
    | with_reducible refine frame_ite ?_ ?_
    | with_reducible refine State.wf_frame (within_trans (by decide) hw) ?_
    | with_reducible refine State.sysMark_frame (within_trans (by decide) hw) ?_
    | with_reducible refine State.emitTimeMap_frame (within_trans (by decide) hw) ?_
    | with_reducible refine State.setChain_frame (within_trans (by decide) hw) ?_
    | with_reducible refine State.tswUpdate_frame (within_trans (by decide) hw) ?_
    | with_reducible refine State.lasUpdate_frame (within_trans (by decide) hw) ?_
    | with_reducible refine State.startScript_frame (within_trans (by decide) hw) ?_
    | with_reducible refine State.loadCore_frame (within_trans (by decide) hw) ?_
    | with_reducible refine State.checkReady_frame (within_trans (by decide) hw) ?_
    | with_reducible refine State.setSlot_frame (within_trans (by decide) hw) ?_
    | with_reducible refine State.ballastNow_frame (within_trans (by decide) hw) ?_
    | with_reducible refine State.startChains_frame (within_trans (by decide) hw) ?_
    | with_reducible refine State.install_frame (within_trans (by decide) hw) ?_
    | with_reducible refine State.showFigures_frame (within_trans (by decide) hw) ?_
    | with_reducible refine State.startNotch_frame (within_trans (by decide) hw) ?_
    | with_reducible refine State.autoUngate_frame (within_trans (by decide) hw) ?_
    | with_reducible refine State.autoGate_frame (within_trans (by decide) hw) ?_
    | with_reducible refine State.startUnit_frame (within_trans (by decide) hw) ?_
    | with_reducible refine State.startField_frame (within_trans (by decide) hw) ?_
    | with_reducible refine State.startScheds_frame (within_trans (by decide) hw) ?_
    | (with_reducible refine frame_iter ?_ ?_) | (with_reducible refine frame_iter_fst ?_ ?_) | (intro _ _ _)
    | (with_reducible refine frame_foldl ?_ ?_) | (with_reducible refine frame_foldl_fst ?_ ?_) | (with_reducible refine frame_foldl_snd ?_ ?_) | (intro _ _ _)
    | ((conv => arg 3; arg 34); with_reducible apply frame_mk)
    | exact fun b => absurd (hw _ b) (by decide)
    | with_reducible exact fun _ => rfl
    | ((with_reducible show NonVol.identity _ = NonVol.identity _); rfl)
    | split
    | dsimp only)

end Sys2Proof.Machine
end

