-- ==== Sys2Proof/Laws/FramePlanSwitch.lean ====
section
/-!
SUPPORT. The frame of each operation of Machine/PlanSwitch.lean.
-/

set_option maxRecDepth 4000

namespace Sys2Proof.Machine

set_option linter.all false
set_option Elab.async false

theorem State.switchFibre_frame {W : Nat} {zz : State} {t s : State} (hw : Within 16777216 W) (hs : Frame W zz t) :
    Frame W zz (State.switchFibre t s) := by
  unfold State.switchFibre
  try dsimp only
  repeat' (first
    | with_reducible exact hs
    | with_reducible assumption
    | with_reducible refine frame_ite ?_ ?_
    | ((conv => arg 3; arg 34); with_reducible apply frame_mk)
    | exact fun b => absurd (hw _ b) (by decide)
    | with_reducible exact fun _ => rfl
    | ((with_reducible show NonVol.identity _ = NonVol.identity _); rfl)
    | split
    | dsimp only)

theorem State.switchRaman_frame {W : Nat} {zz : State} {t s : State} (hw : Within 33554433 W) (hs : Frame W zz t) :
    Frame W zz (State.switchRaman t s) := by
  unfold State.switchRaman
  try dsimp only
  repeat' (first
    | with_reducible exact hs
    | with_reducible assumption
    | with_reducible refine frame_ite ?_ ?_
    | with_reducible refine State.wr_frame (within_trans (by decide) hw) ?_
    | ((conv => arg 3; arg 34); with_reducible apply frame_mk)
    | exact fun b => absurd (hw _ b) (by decide)
    | with_reducible exact fun _ => rfl
    | ((with_reducible show NonVol.identity _ = NonVol.identity _); rfl)
    | split
    | dsimp only)

theorem State.switchChains_frame {W : Nat} {zz : State} {t s : State} (hw : Within 4633826833 W) (hs : Frame W zz t) :
    Frame W zz (State.switchChains t s) := by
  unfold State.switchChains
  try dsimp only
  repeat' (first
    | with_reducible exact hs
    | with_reducible assumption
    | with_reducible refine frame_ite ?_ ?_
    | with_reducible refine State.setChain_frame (within_trans (by decide) hw) ?_
    | with_reducible refine State.resyncChain_frame (within_trans (by decide) hw) ?_
    | (with_reducible refine frame_foldl ?_ ?_) | (with_reducible refine frame_foldl_fst ?_ ?_) | (with_reducible refine frame_foldl_snd ?_ ?_) | (intro _ _ _)
    | ((conv => arg 3; arg 34); with_reducible apply frame_mk)
    | exact fun b => absurd (hw _ b) (by decide)
    | with_reducible exact fun _ => rfl
    | ((with_reducible show NonVol.identity _ = NonVol.identity _); rfl)
    | split
    | dsimp only)

theorem State.switchField_frame {W : Nat} {zz : State} {t s : State} (hw : Within 5390353 W) (hs : Frame W zz t) :
    Frame W zz (State.switchField t s) := by
  unfold State.switchField
  try dsimp only
  repeat' (first
    | with_reducible exact hs
    | with_reducible assumption
    | with_reducible refine frame_ite ?_ ?_
    | with_reducible refine State.wr_frame (within_trans (by decide) hw) ?_
    | with_reducible refine State.wf_frame (within_trans (by decide) hw) ?_
    | with_reducible refine State.setFch_frame (within_trans (by decide) hw) ?_
    | with_reducible refine State.cmpStep_frame (within_trans (by decide) hw) ?_
    | with_reducible refine State.mapBit_frame (within_trans (by decide) hw) ?_
    | with_reducible refine State.applyRange_frame (within_trans (by decide) hw) ?_
    | with_reducible refine State.settleExc_frame (within_trans (by decide) hw) ?_
    | with_reducible refine State.exciteChannel_frame (within_trans (by decide) hw) ?_
    | with_reducible refine State.startField_frame (within_trans (by decide) hw) ?_
    | (with_reducible refine frame_iter ?_ ?_) | (with_reducible refine frame_iter_fst ?_ ?_) | (intro _ _ _)
    | ((conv => arg 3; arg 34); with_reducible apply frame_mk)
    | exact fun b => absurd (hw _ b) (by decide)
    | with_reducible exact fun _ => rfl
    | ((with_reducible show NonVol.identity _ = NonVol.identity _); rfl)
    | split
    | dsimp only)

theorem State.switchBands_frame {W : Nat} {zz : State} {t : State} (hw : Within 2097153 W) (hs : Frame W zz t) :
    Frame W zz (State.switchBands t) := by
  unfold State.switchBands
  try dsimp only
  repeat' (first
    | with_reducible exact hs
    | with_reducible assumption
    | with_reducible refine frame_ite ?_ ?_
    | with_reducible refine State.wf_frame (within_trans (by decide) hw) ?_
    | ((conv => arg 3; arg 34); with_reducible apply frame_mk)
    | exact fun b => absurd (hw _ b) (by decide)
    | with_reducible exact fun _ => rfl
    | ((with_reducible show NonVol.identity _ = NonVol.identity _); rfl)
    | split
    | dsimp only)

theorem State.switchUnits_frame {W : Nat} {zz : State} {t s : State} {E : Time} (hw : Within 4564653585 W) (hs : Frame W zz t) :
    Frame W zz (State.switchUnits t s E) := by
  unfold State.switchUnits
  try dsimp only
  repeat' (first
    | with_reducible exact hs
    | with_reducible assumption
    | with_reducible refine frame_ite ?_ ?_
    | with_reducible refine State.setUnit_frame (within_trans (by decide) hw) ?_
    | with_reducible refine State.capTrigger_frame (within_trans (by decide) hw) ?_
    | with_reducible refine State.startUnit_frame (within_trans (by decide) hw) ?_
    | (with_reducible refine frame_iter ?_ ?_) | (with_reducible refine frame_iter_fst ?_ ?_) | (intro _ _ _)
    | (with_reducible refine frame_foldl ?_ ?_) | (with_reducible refine frame_foldl_fst ?_ ?_) | (with_reducible refine frame_foldl_snd ?_ ?_) | (intro _ _ _)
    | ((conv => arg 3; arg 34); with_reducible apply frame_mk)
    | exact fun b => absurd (hw _ b) (by decide)
    | with_reducible exact fun _ => rfl
    | ((with_reducible show NonVol.identity _ = NonVol.identity _); rfl)
    | split
    | dsimp only)

theorem State.switchShutter_frame {W : Nat} {zz : State} {t s : State} (hw : Within 4564702737 W) (hs : Frame W zz t) :
    Frame W zz (State.switchShutter t s) := by
  unfold State.switchShutter
  try dsimp only
  repeat' (first
    | with_reducible exact hs
    | with_reducible assumption
    | with_reducible refine frame_ite ?_ ?_
    | with_reducible refine State.startScheds_frame (within_trans (by decide) hw) ?_
    | ((conv => arg 3; arg 34); with_reducible apply frame_mk)
    | exact fun b => absurd (hw _ b) (by decide)
    | with_reducible exact fun _ => rfl
    | ((with_reducible show NonVol.identity _ = NonVol.identity _); rfl)
    | split
    | dsimp only)

theorem State.switchPorts_frame {W : Nat} {zz : State} {t s : State} (hw : Within 4698670097 W) (hs : Frame W zz t) :
    Frame W zz (State.switchPorts t s) := by
  unfold State.switchPorts
  try dsimp only
  repeat' (first
    | with_reducible exact hs
    | with_reducible assumption
    | with_reducible refine frame_ite ?_ ?_
    | with_reducible refine State.wr_frame (within_trans (by decide) hw) ?_
    | with_reducible refine State.setPort_frame (within_trans (by decide) hw) ?_
    | with_reducible refine State.setDrp_frame (within_trans (by decide) hw) ?_
    | with_reducible refine State.showSplit_frame (within_trans (by decide) hw) ?_
    | with_reducible refine State.train_frame (within_trans (by decide) hw) ?_
    | (with_reducible refine frame_iter ?_ ?_) | (with_reducible refine frame_iter_fst ?_ ?_) | (intro _ _ _)
    | ((conv => arg 3; arg 34); with_reducible apply frame_mk)
    | exact fun b => absurd (hw _ b) (by decide)
    | with_reducible exact fun _ => rfl
    | ((with_reducible show NonVol.identity _ = NonVol.identity _); rfl)
    | split
    | dsimp only)

theorem State.switchCores_frame {W : Nat} {zz : State} {t s : State} (hw : Within 4631696915 W) (hs : Frame W zz t) :
    Frame W zz (State.switchCores t s) := by
  unfold State.switchCores
  try dsimp only
  repeat' (first
    | with_reducible exact hs
    | with_reducible assumption
    | with_reducible refine frame_ite ?_ ?_
    | with_reducible refine State.wr_frame (within_trans (by decide) hw) ?_
    | with_reducible refine State.setCore_frame (within_trans (by decide) hw) ?_
    | with_reducible refine State.loadCore_frame (within_trans (by decide) hw) ?_
    | with_reducible refine State.enqueue_frame (within_trans (by decide) hw) ?_
    | (with_reducible refine frame_iter ?_ ?_) | (with_reducible refine frame_iter_fst ?_ ?_) | (intro _ _ _)
    | (with_reducible refine frame_foldl ?_ ?_) | (with_reducible refine frame_foldl_fst ?_ ?_) | (with_reducible refine frame_foldl_snd ?_ ?_) | (intro _ _ _)
    | ((conv => arg 3; arg 34); with_reducible apply frame_mk)
    | exact fun b => absurd (hw _ b) (by decide)
    | with_reducible exact fun _ => rfl
    | ((with_reducible show NonVol.identity _ = NonVol.identity _); rfl)
    | (with_reducible refine frame_regs (within_trans (by decide) hw) ?_ (NMap.wf_filter _ _ _))
    | split
    | dsimp only)

theorem State.switchLanes_frame {W : Nat} {zz : State} {t s : State} (hw : Within 513 W) (hs : Frame W zz t) :
    Frame W zz (State.switchLanes t s) := by
  unfold State.switchLanes
  try dsimp only
  repeat' (first
    | with_reducible exact hs
    | with_reducible assumption
    | with_reducible refine frame_ite ?_ ?_
    | with_reducible refine State.wr_frame (within_trans (by decide) hw) ?_
    | with_reducible refine State.setLane_frame (within_trans (by decide) hw) ?_
    | (with_reducible refine frame_iter ?_ ?_) | (with_reducible refine frame_iter_fst ?_ ?_) | (intro _ _ _)
    | ((conv => arg 3; arg 34); with_reducible apply frame_mk)
    | exact fun b => absurd (hw _ b) (by decide)
    | with_reducible exact fun _ => rfl
    | ((with_reducible show NonVol.identity _ = NonVol.identity _); rfl)
    | split
    | dsimp only)

theorem State.endPlan_frame {W : Nat} {zz : State} {s t : State} {p : Plan} {mark : Rec} (hw : Within 4667414033 W) (hs : Frame W zz s) :
    Frame W zz (State.endPlan s t p mark) := by
  unfold State.endPlan
  try dsimp only
  repeat' (first
    | with_reducible exact hs
    | with_reducible assumption
    | with_reducible refine frame_ite ?_ ?_
    | with_reducible refine State.bumpSeq_frame (within_trans (by decide) hw) ?_
    | with_reducible refine State.push_frame (within_trans (by decide) hw) ?_
    | with_reducible refine State.cutSegment_frame (within_trans (by decide) hw) ?_
    | with_reducible refine State.tapUnits_frame (within_trans (by decide) hw) ?_ ?_
    | with_reducible refine State.coreFlush_frame (within_trans (by decide) hw) ?_
    | with_reducible refine State.closeSamples_frame (within_trans (by decide) hw) ?_
    | with_reducible refine State.closeEnvRec_frame (within_trans (by decide) hw) ?_
    | with_reducible refine State.closeEnv_frame (within_trans (by decide) hw) ?_
    | with_reducible refine State.discardProfile_frame (within_trans (by decide) hw) ?_
    | intro _ _ _
    | intro _ _
    | (with_reducible refine frame_foldl ?_ ?_) | (with_reducible refine frame_foldl_fst ?_ ?_) | (with_reducible refine frame_foldl_snd ?_ ?_) | (intro _ _ _)
    | ((conv => arg 3; arg 34); with_reducible apply frame_mk)
    | exact fun b => absurd (hw _ b) (by decide)
    | with_reducible exact fun _ => rfl
    | ((with_reducible show NonVol.identity _ = NonVol.identity _); rfl)
    | split
    | dsimp only)

theorem State.switchHead_frame {W : Nat} {zz : State} {t s : State} (hw : Within 4308729873 W) (hs : Frame W zz t) :
    Frame W zz (State.switchHead t s) := by
  unfold State.switchHead
  try dsimp only
  repeat' (first
    | with_reducible exact hs
    | with_reducible assumption
    | with_reducible refine frame_ite ?_ ?_
    | with_reducible refine State.wf_frame (within_trans (by decide) hw) ?_
    | with_reducible refine State.lasUpdate_frame (within_trans (by decide) hw) ?_
    | with_reducible refine State.startScript_frame (within_trans (by decide) hw) ?_
    | with_reducible refine State.exchangeIdle_frame (within_trans (by decide) hw) ?_
    | ((conv => arg 3; arg 34); with_reducible apply frame_mk)
    | exact fun b => absurd (hw _ b) (by decide)
    | with_reducible exact fun _ => rfl
    | ((with_reducible show NonVol.identity _ = NonVol.identity _); rfl)
    | split
    | dsimp only)

theorem State.switchClose_frame {W : Nat} {zz : State} {t s : State} {slot : Nat} {E : Time} (hw : Within 268829217 W) (hs : Frame W zz t) :
    Frame W zz (State.switchClose t s slot E) := by
  unfold State.switchClose
  try dsimp only
  repeat' (first
    | with_reducible exact hs
    | with_reducible assumption
    | with_reducible refine frame_ite ?_ ?_
    | with_reducible refine State.wr64_frame (within_trans (by decide) hw) ?_
    | with_reducible refine State.countMod_frame (within_trans (by decide) hw) ?_
    | with_reducible refine State.applyBudget_frame (within_trans (by decide) hw) ?_
    | with_reducible refine State.setSlot_frame (within_trans (by decide) hw) ?_
    | with_reducible refine State.autoGate_frame (within_trans (by decide) hw) ?_
    | ((conv => arg 3; arg 34); with_reducible apply frame_mk)
    | exact fun b => absurd (hw _ b) (by decide)
    | with_reducible exact fun _ => rfl
    | ((with_reducible show NonVol.identity _ = NonVol.identity _); rfl)
    | split
    | dsimp only)

theorem State.switchTo_frame {W : Nat} {zz : State} {s0 : State} {p0 : Plan} {slot : Nat} {E : Time} (hw : Within 4831836083 W) (hs : Frame W zz s0) :
    Frame W zz (State.switchTo s0 p0 slot E) := by
  unfold State.switchTo
  try dsimp only
  repeat' (first
    | with_reducible exact hs
    | with_reducible assumption
    | with_reducible refine frame_ite ?_ ?_
    | with_reducible refine State.wr_frame (within_trans (by decide) hw) ?_
    | with_reducible refine State.push_frame (within_trans (by decide) hw) ?_
    | with_reducible refine State.tswUpdate_frame (within_trans (by decide) hw) ?_
    | with_reducible refine State.ballastNow_frame (within_trans (by decide) hw) ?_
    | with_reducible refine State.install_frame (within_trans (by decide) hw) ?_
    | with_reducible refine State.showFigures_frame (within_trans (by decide) hw) ?_
    | with_reducible refine State.startNotch_frame (within_trans (by decide) hw) ?_
    | with_reducible refine State.autoUngate_frame (within_trans (by decide) hw) ?_
    | with_reducible refine State.switchFibre_frame (within_trans (by decide) hw) ?_
    | with_reducible refine State.switchRaman_frame (within_trans (by decide) hw) ?_
    | with_reducible refine State.switchChains_frame (within_trans (by decide) hw) ?_
    | with_reducible refine State.switchField_frame (within_trans (by decide) hw) ?_
    | with_reducible refine State.switchBands_frame (within_trans (by decide) hw) ?_
    | with_reducible refine State.switchUnits_frame (within_trans (by decide) hw) ?_
    | with_reducible refine State.switchShutter_frame (within_trans (by decide) hw) ?_
    | with_reducible refine State.switchPorts_frame (within_trans (by decide) hw) ?_
    | with_reducible refine State.switchCores_frame (within_trans (by decide) hw) ?_
    | with_reducible refine State.switchLanes_frame (within_trans (by decide) hw) ?_
    | with_reducible refine State.endPlan_frame (within_trans (by decide) hw) ?_
    | with_reducible refine State.switchHead_frame (within_trans (by decide) hw) ?_
    | with_reducible refine State.switchClose_frame (within_trans (by decide) hw) ?_
    | (with_reducible refine frame_foldl ?_ ?_) | (with_reducible refine frame_foldl_fst ?_ ?_) | (with_reducible refine frame_foldl_snd ?_ ?_) | (intro _ _ _)
    | ((conv => arg 3; arg 34); with_reducible apply frame_mk)
    | exact fun b => absurd (hw _ b) (by decide)
    | with_reducible exact fun _ => rfl
    | ((with_reducible show NonVol.identity _ = NonVol.identity _); rfl)
    | split
    | dsimp only)

end Sys2Proof.Machine
end

