-- ==== Sys2Proof/Laws/FramePlanCheck.lean ====
section
/-!
SUPPORT. The frame of each operation of Machine/PlanCheck.lean.
-/

set_option maxRecDepth 4000

namespace Sys2Proof.Machine

set_option linter.all false
set_option Elab.async false

theorem State.trial_frame {W : Nat} {zz : State} {s : State} {p : Plan} (hw : Within 73857 W)
    (hs : Frame W zz s) : Frame W zz (s.trial p) := by
  unfold State.trial
  refine State.wr_frame (within_trans (by decide) hw) (State.install_frame (within_trans (by decide) hw) ?_)
  refine frame_trans hs ?_
  constructor <;> first
    | exact fun _ => rfl
    | exact fun b => absurd (hw _ b) (by decide)
    | rfl
    | exact id
    | exact fun h => NMap.wf_erase _ _ _ (NMap.wf_erase _ _ _ (NMap.wf_erase _ _ _ h))

end Sys2Proof.Machine
end

