-- ==== Sys2Proof/Laws/FramePlan.lean ====
section
/-!
SUPPORT. The frame of each operation of Machine/Plan.lean.
-/

set_option maxRecDepth 4000

namespace Sys2Proof.Machine

set_option linter.all false
set_option Elab.async false

theorem State.startFailed_frame {W : Nat} {zz : State} {s : State} {slot : Nat} (hw : Within 1179681 W) (hs : Frame W zz s) :
    Frame W zz (State.startFailed s slot) := by
  unfold State.startFailed
  try dsimp only
  repeat' (first
    | with_reducible exact hs
    | with_reducible assumption
    | with_reducible refine frame_ite ?_ ?_
    | with_reducible refine State.err_frame (within_trans (by decide) hw) ?_
    | with_reducible refine State.logFault_frame (within_trans (by decide) hw) ?_
    | dsimp only)

theorem State.beginLoad_frame {W : Nat} {zz : State} {s : State} (hw : Within 4303356033 W) (hs : Frame W zz s) :
    Frame W zz s.beginLoad := by
  unfold State.beginLoad
  split
  · exact hs
  · dsimp only
    refine frame_ite hs (State.lasUpdate_frame (within_trans (by decide) hw) (State.startScript_frame
      (within_trans (by decide) hw) ?_))
    refine frame_trans hs ?_
    constructor <;> first
      | exact fun _ => rfl
      | exact fun b => absurd (hw _ b) (by decide)
      | rfl
      | exact id
      | exact NMap.wf_foldl _ _ _ (fun m e h => NMap.wf_set resetWord m _ _ h) _

theorem State.dropLoad_frame {W : Nat} {zz : State} {s : State} (hw : Within 4303356033 W) (hs : Frame W zz s) :
    Frame W zz (State.dropLoad s) := by
  unfold State.dropLoad
  try dsimp only
  repeat' (first
    | with_reducible exact hs
    | with_reducible assumption
    | with_reducible refine frame_ite ?_ ?_
    | with_reducible refine State.lasUpdate_frame (within_trans (by decide) hw) ?_
    | ((conv => arg 3; arg 34); with_reducible apply frame_mk)
    | exact fun b => absurd (hw _ b) (by decide)
    | with_reducible exact fun _ => rfl
    | ((with_reducible show NonVol.identity _ = NonVol.identity _); rfl)
    | split
    | dsimp only)

theorem opFirmwareLoaded_frame {W : Nat} {zz : State} {good readable : Bool} {ver : Word} {fmt : Nat} {s : State} (hw : Within 4577433329 W) (hs : Frame W zz s) :
    Frame W zz (opFirmwareLoaded good readable ver fmt s) := by
  unfold opFirmwareLoaded
  try dsimp only
  repeat' (first
    | with_reducible exact hs
    | with_reducible assumption
    | with_reducible refine frame_ite ?_ ?_
    | with_reducible refine State.wf_frame (within_trans (by decide) hw) ?_
    | with_reducible refine State.takeAddress_frame (within_trans (by decide) hw) ?_
    | with_reducible refine State.setConv_frame (within_trans (by decide) hw) ?_
    | with_reducible refine State.setOsw_frame (within_trans (by decide) hw) ?_
    | with_reducible refine State.checkReady_frame (within_trans (by decide) hw) ?_
    | with_reducible refine State.loadImage_frame (within_trans (by decide) hw) ?_
    | with_reducible refine State.beginLoad_frame (within_trans (by decide) hw) ?_
    | (with_reducible refine frame_iter ?_ ?_) | (with_reducible refine frame_iter_fst ?_ ?_) | (intro _ _ _)
    | ((conv => arg 3; arg 34); with_reducible apply frame_mk)
    | exact fun b => absurd (hw _ b) (by decide)
    | with_reducible exact fun _ => rfl
    | ((with_reducible show NonVol.identity _ = NonVol.identity _); rfl)
    | split
    | dsimp only)

theorem State.startFirst_frame {W : Nat} {zz : State} {s : State} {l : List Nat} (hw : Within 4831574003 W)
    (hs : Frame W zz s) : Frame W zz (s.startFirst l) := by
  induction l generalizing s with
  | nil =>
    unfold State.startFirst
    refine State.checkReady_frame (within_trans (by decide) hw) ?_
    refine frame_trans (State.dropLoad_frame (within_trans (by decide) hw) hs) ?_
    constructor <;> first | exact fun _ => rfl | exact fun b => absurd (hw _ b) (by decide) | rfl | exact id
  | cons i rest ih =>
    unfold State.startFirst
    exact frame_ite (State.startPlan_frame (within_trans (by decide) hw) hs)
      (ih (State.startFailed_frame (within_trans (by decide) hw) (State.dropLoad_frame (within_trans (by decide) hw) hs)))

theorem opPlanLoadDone_frame {W : Nat} {zz : State} {s : State} (hw : Within 4831574003 W) (hs : Frame W zz s) :
    Frame W zz (opPlanLoadDone s) := by
  unfold opPlanLoadDone
  try dsimp only
  repeat' (first
    | with_reducible exact hs
    | with_reducible assumption
    | with_reducible refine frame_ite ?_ ?_
    | with_reducible refine State.startFailed_frame (within_trans (by decide) hw) ?_
    | with_reducible refine State.startFirst_frame (within_trans (by decide) hw) ?_
    | ((conv => arg 3; arg 34); with_reducible apply frame_mk)
    | exact fun b => absurd (hw _ b) (by decide)
    | with_reducible exact fun _ => rfl
    | ((with_reducible show NonVol.identity _ = NonVol.identity _); rfl)
    | split
    | dsimp only)

theorem opPlanData_frame {W : Nat} {zz : State} {m : SlzMsg} {s : State} (hw : Within 4564582577 W) (hs : Frame W zz s) :
    Frame W zz (opPlanData m s) := by
  unfold opPlanData
  try dsimp only
  repeat' (first
    | with_reducible exact hs
    | with_reducible assumption
    | with_reducible refine frame_ite ?_ ?_
    | with_reducible refine frame_ite_fst ?_ ?_
    | with_reducible refine frame_ite_snd ?_ ?_
    | with_reducible refine frame_ite_snd2 ?_ ?_
    | with_reducible refine State.err_frame (within_trans (by decide) hw) ?_
    | with_reducible refine State.slzReceive_frame (within_trans (by decide) hw) ?_ ?_
    | with_reducible refine State.setSlot_frame (within_trans (by decide) hw) ?_
    | intro _ _ _
    | intro _ _
    | ((conv => arg 3; arg 34); with_reducible apply frame_mk)
    | exact fun b => absurd (hw _ b) (by decide)
    | with_reducible exact fun _ => rfl
    | ((with_reducible show NonVol.identity _ = NonVol.identity _); rfl)
    | split
    | dsimp only)

theorem opPlanDataWritten_frame {W : Nat} {zz : State} {s : State} (hw : Within 4564583601 W) (hs : Frame W zz s) :
    Frame W zz (opPlanDataWritten s) := by
  unfold opPlanDataWritten
  try dsimp only
  repeat' (first
    | with_reducible exact hs
    | with_reducible assumption
    | with_reducible refine frame_ite ?_ ?_
    | with_reducible refine State.sendLane_frame (within_trans (by decide) hw) ?_
    | with_reducible refine State.answer_frame (within_trans (by decide) hw) ?_
    | with_reducible refine State.setSlot_frame (within_trans (by decide) hw) ?_
    | ((conv => arg 3; arg 34); with_reducible apply frame_mk)
    | exact fun b => absurd (hw _ b) (by decide)
    | with_reducible exact fun _ => rfl
    | ((with_reducible show NonVol.identity _ = NonVol.identity _); rfl)
    | split
    | dsimp only)

theorem State.planOwner_frame {W : Nat} {zz : State} {s : State} (hw : Within 131073 W) (hs : Frame W zz s) :
    Frame W zz (State.planOwner s) := by
  unfold State.planOwner
  try dsimp only
  repeat' (first
    | with_reducible exact hs
    | with_reducible assumption
    | with_reducible refine frame_ite ?_ ?_
    | with_reducible refine State.err_frame (within_trans (by decide) hw) ?_
    | dsimp only)

theorem State.planSlotErr_frame {W : Nat} {zz : State} {s : State} (hw : Within 131073 W) (hs : Frame W zz s) :
    Frame W zz (State.planSlotErr s) := by
  unfold State.planSlotErr
  try dsimp only
  repeat' (first
    | with_reducible exact hs
    | with_reducible assumption
    | with_reducible refine frame_ite ?_ ?_
    | with_reducible refine State.err_frame (within_trans (by decide) hw) ?_
    | dsimp only)

theorem State.copyPln_frame {W : Nat} {zz : State} {s : State} {op slot : Nat} {at_ : Bool} (hw : Within 4563403776 W) (hs : Frame W zz s) :
    Frame W zz (State.copyPln s op slot at_) := by
  unfold State.copyPln
  try dsimp only
  repeat' (first
    | with_reducible exact hs
    | with_reducible assumption
    | with_reducible refine frame_ite ?_ ?_
    | with_reducible refine State.copyItem_frame (within_trans (by decide) hw) ?_
    | dsimp only)

theorem State.slotTo_frame {W : Nat} {zz : State} {s : State} {i st : Nat} (hw : Within 32 W) (hs : Frame W zz s) :
    Frame W zz (State.slotTo s i st) := by
  unfold State.slotTo
  try dsimp only
  repeat' (first
    | with_reducible exact hs
    | with_reducible assumption
    | with_reducible refine frame_ite ?_ ?_
    | with_reducible refine State.setSlot_frame (within_trans (by decide) hw) ?_
    | ((conv => arg 3; arg 34); with_reducible apply frame_mk)
    | exact fun b => absurd (hw _ b) (by decide)
    | with_reducible exact fun _ => rfl
    | ((with_reducible show NonVol.identity _ = NonVol.identity _); rfl)
    | dsimp only)

theorem opPlnCommit_frame {W : Nat} {zz : State} {ctx slot : Nat} {s : State} (hw : Within 4563535009 W) (hs : Frame W zz s) :
    Frame W zz (opPlnCommit ctx slot s) := by
  unfold opPlnCommit
  try dsimp only
  repeat' (first
    | with_reducible exact hs
    | with_reducible assumption
    | with_reducible refine frame_ite ?_ ?_
    | with_reducible refine State.planOwner_frame (within_trans (by decide) hw) ?_
    | with_reducible refine State.planSlotErr_frame (within_trans (by decide) hw) ?_
    | with_reducible refine State.copyPln_frame (within_trans (by decide) hw) ?_
    | with_reducible refine State.slotTo_frame (within_trans (by decide) hw) ?_
    | ((conv => arg 3; arg 34); with_reducible apply frame_mk)
    | exact fun b => absurd (hw _ b) (by decide)
    | with_reducible exact fun _ => rfl
    | ((with_reducible show NonVol.identity _ = NonVol.identity _); rfl)
    | split
    | dsimp only)

theorem State.sendSlots_frame {W : Nat} {zz : State} {s : State} (hw : Within 4563403776 W) (hs : Frame W zz s) :
    Frame W zz (State.sendSlots s) := by
  unfold State.sendSlots
  try dsimp only
  repeat' (first
    | with_reducible exact hs
    | with_reducible assumption
    | with_reducible refine frame_ite ?_ ?_
    | with_reducible refine State.sendLane_frame (within_trans (by decide) hw) ?_
    | split
    | dsimp only)

theorem opCommitCheckDone_frame {W : Nat} {zz : State} {s : State} (hw : Within 4563535009 W) (hs : Frame W zz s) :
    Frame W zz (opCommitCheckDone s) := by
  unfold opCommitCheckDone
  try dsimp only
  repeat' (first
    | with_reducible exact hs
    | with_reducible assumption
    | with_reducible refine frame_ite ?_ ?_
    | with_reducible refine State.wr_frame (within_trans (by decide) hw) ?_
    | with_reducible refine State.err_frame (within_trans (by decide) hw) ?_
    | with_reducible refine State.slotTo_frame (within_trans (by decide) hw) ?_
    | with_reducible refine State.sendSlots_frame (within_trans (by decide) hw) ?_
    | ((conv => arg 3; arg 34); with_reducible apply frame_mk)
    | exact fun b => absurd (hw _ b) (by decide)
    | with_reducible exact fun _ => rfl
    | ((with_reducible show NonVol.identity _ = NonVol.identity _); rfl)
    | split
    | dsimp only)

theorem State.switchCopied_frame {W : Nat} {zz : State} {s : State} {op slot : Nat} {at_ : Bool} (hw : Within 4563403776 W) (hs : Frame W zz s) :
    Frame W zz (State.switchCopied s op slot at_) := by
  unfold State.switchCopied
  try dsimp only
  repeat' (first
    | with_reducible exact hs
    | with_reducible assumption
    | with_reducible refine frame_ite ?_ ?_
    | with_reducible refine State.copyPln_frame (within_trans (by decide) hw) ?_
    | split
    | dsimp only)

theorem opPlnSwitch_frame {W : Nat} {zz : State} {ctx slot : Nat} {at_ : Bool} {s : State} (hw : Within 4563535009 W) (hs : Frame W zz s) :
    Frame W zz (opPlnSwitch ctx slot at_ s) := by
  unfold opPlnSwitch
  try dsimp only
  repeat' (first
    | with_reducible exact hs
    | with_reducible assumption
    | with_reducible refine frame_ite ?_ ?_
    | with_reducible refine State.err_frame (within_trans (by decide) hw) ?_
    | with_reducible refine State.wakeFor_frame (within_trans (by decide) hw) ?_
    | with_reducible refine State.planOwner_frame (within_trans (by decide) hw) ?_
    | with_reducible refine State.planSlotErr_frame (within_trans (by decide) hw) ?_
    | with_reducible refine State.slotTo_frame (within_trans (by decide) hw) ?_
    | with_reducible refine State.switchCopied_frame (within_trans (by decide) hw) ?_
    | ((conv => arg 3; arg 34); with_reducible apply frame_mk)
    | exact fun b => absurd (hw _ b) (by decide)
    | with_reducible exact fun _ => rfl
    | ((with_reducible show NonVol.identity _ = NonVol.identity _); rfl)
    | split
    | dsimp only)

theorem State.dropSwitch_frame {W : Nat} {zz : State} {s : State} (hw : Within 161 W) (hs : Frame W zz s) :
    Frame W zz (State.dropSwitch s) := by
  unfold State.dropSwitch
  try dsimp only
  repeat' (first
    | with_reducible exact hs
    | with_reducible assumption
    | with_reducible refine frame_ite ?_ ?_
    | with_reducible refine State.retain_frame (within_trans (by decide) hw) ?_
    | with_reducible refine State.slotTo_frame (within_trans (by decide) hw) ?_
    | ((conv => arg 3; arg 34); with_reducible apply frame_mk)
    | exact fun b => absurd (hw _ b) (by decide)
    | with_reducible exact fun _ => rfl
    | ((with_reducible show NonVol.identity _ = NonVol.identity _); rfl)
    | split
    | dsimp only)

theorem opShadowLoadDone_frame {W : Nat} {zz : State} {good : Bool} {s : State} (hw : Within 4563535009 W) (hs : Frame W zz s) :
    Frame W zz (opShadowLoadDone good s) := by
  unfold opShadowLoadDone
  try dsimp only
  repeat' (first
    | with_reducible exact hs
    | with_reducible assumption
    | with_reducible refine frame_ite ?_ ?_
    | with_reducible refine State.err_frame (within_trans (by decide) hw) ?_
    | with_reducible refine State.copyItem_frame (within_trans (by decide) hw) ?_
    | with_reducible refine State.dropSwitch_frame (within_trans (by decide) hw) ?_
    | ((conv => arg 3; arg 34); with_reducible apply frame_mk)
    | exact fun b => absurd (hw _ b) (by decide)
    | with_reducible exact fun _ => rfl
    | ((with_reducible show NonVol.identity _ = NonVol.identity _); rfl)
    | split
    | dsimp only)

theorem State.switchBoundary_frame {W : Nat} {zz : State} {s : State} (hw : Within 128 W) (hs : Frame W zz s) :
    Frame W zz (State.switchBoundary s) := by
  unfold State.switchBoundary
  try dsimp only
  repeat' (first
    | with_reducible exact hs
    | with_reducible assumption
    | with_reducible refine frame_ite ?_ ?_
    | ((conv => arg 3; arg 34); with_reducible apply frame_mk)
    | exact fun b => absurd (hw _ b) (by decide)
    | with_reducible exact fun _ => rfl
    | ((with_reducible show NonVol.identity _ = NonVol.identity _); rfl)
    | split
    | dsimp only)

theorem opSwitchInstant_frame {W : Nat} {zz : State} {s : State} (hw : Within 4831836151 W) (hs : Frame W zz s) :
    Frame W zz (opSwitchInstant s) := by
  unfold opSwitchInstant
  try dsimp only
  repeat' (first
    | with_reducible exact hs
    | with_reducible assumption
    | with_reducible refine frame_ite ?_ ?_
    | with_reducible refine State.wr64_frame (within_trans (by decide) hw) ?_
    | with_reducible refine State.countMod_frame (within_trans (by decide) hw) ?_
    | with_reducible refine State.advance_frame (within_trans (by decide) hw) ?_
    | with_reducible refine State.sysMark_frame (within_trans (by decide) hw) ?_
    | with_reducible refine State.checkReady_frame (within_trans (by decide) hw) ?_
    | with_reducible refine State.startPlan_frame (within_trans (by decide) hw) ?_
    | with_reducible refine State.switchTo_frame (within_trans (by decide) hw) ?_
    | ((conv => arg 3; arg 34); with_reducible apply frame_mk)
    | exact fun b => absurd (hw _ b) (by decide)
    | with_reducible exact fun _ => rfl
    | ((with_reducible show NonVol.identity _ = NonVol.identity _); rfl)
    | split
    | dsimp only)

theorem opActivationRecord_frame {W : Nat} {zz : State} {s : State} (hw : Within 160 W) (hs : Frame W zz s) :
    Frame W zz (opActivationRecord s) := by
  unfold opActivationRecord
  try dsimp only
  repeat' (first
    | with_reducible exact hs
    | with_reducible assumption
    | with_reducible refine frame_ite ?_ ?_
    | ((conv => arg 3; arg 34); with_reducible apply frame_mk)
    | exact fun b => absurd (hw _ b) (by decide)
    | with_reducible exact fun _ => rfl
    | ((with_reducible show NonVol.identity _ = NonVol.identity _); rfl)
    | split
    | dsimp only)

theorem opPlnAbort_frame {W : Nat} {zz : State} {ctx slot : Nat} {s : State} (hw : Within 4563535009 W) (hs : Frame W zz s) :
    Frame W zz (opPlnAbort ctx slot s) := by
  unfold opPlnAbort
  try dsimp only
  repeat' (first
    | with_reducible exact hs
    | with_reducible assumption
    | with_reducible refine frame_ite ?_ ?_
    | with_reducible refine State.planOwner_frame (within_trans (by decide) hw) ?_
    | with_reducible refine State.planSlotErr_frame (within_trans (by decide) hw) ?_
    | with_reducible refine State.switchCopied_frame (within_trans (by decide) hw) ?_
    | with_reducible refine State.dropSwitch_frame (within_trans (by decide) hw) ?_
    | split
    | dsimp only)

theorem opPlnErase_frame {W : Nat} {zz : State} {ctx slot : Nat} {s : State} (hw : Within 4564583601 W) (hs : Frame W zz s) :
    Frame W zz (opPlnErase ctx slot s) := by
  unfold opPlnErase
  try dsimp only
  repeat' (first
    | with_reducible exact hs
    | with_reducible assumption
    | with_reducible refine frame_ite ?_ ?_
    | with_reducible refine State.answer_frame (within_trans (by decide) hw) ?_
    | with_reducible refine State.setSlot_frame (within_trans (by decide) hw) ?_
    | with_reducible refine State.planOwner_frame (within_trans (by decide) hw) ?_
    | with_reducible refine State.planSlotErr_frame (within_trans (by decide) hw) ?_
    | with_reducible refine State.copyPln_frame (within_trans (by decide) hw) ?_
    | (with_reducible refine frame_foldl ?_ ?_) | (with_reducible refine frame_foldl_fst ?_ ?_) | (with_reducible refine frame_foldl_snd ?_ ?_) | (intro _ _ _)
    | ((conv => arg 3; arg 34); with_reducible apply frame_mk)
    | exact fun b => absurd (hw _ b) (by decide)
    | with_reducible exact fun _ => rfl
    | ((with_reducible show NonVol.identity _ = NonVol.identity _); rfl)
    | split
    | dsimp only)

theorem opPlnCmd_frame {W : Nat} {zz : State} {ctx : Nat} {v : Word} {s : State} (hw : Within 4564583601 W) (hs : Frame W zz s) :
    Frame W zz (opPlnCmd ctx v s) := by
  unfold opPlnCmd
  try dsimp only
  repeat' (first
    | with_reducible exact hs
    | with_reducible assumption
    | with_reducible refine frame_ite ?_ ?_
    | with_reducible refine State.planOwner_frame (within_trans (by decide) hw) ?_
    | with_reducible refine State.planSlotErr_frame (within_trans (by decide) hw) ?_
    | with_reducible refine opPlnCommit_frame (within_trans (by decide) hw) ?_
    | with_reducible refine opPlnSwitch_frame (within_trans (by decide) hw) ?_
    | with_reducible refine opPlnAbort_frame (within_trans (by decide) hw) ?_
    | with_reducible refine opPlnErase_frame (within_trans (by decide) hw) ?_
    | ((conv => arg 3; arg 34); with_reducible apply frame_mk)
    | exact fun b => absurd (hw _ b) (by decide)
    | with_reducible exact fun _ => rfl
    | ((with_reducible show NonVol.identity _ = NonVol.identity _); rfl)
    | split
    | dsimp only)

theorem State.keepOld_frame {W : Nat} {zz : State} {s : State} {a : Nat} (hw : Within 16777217 W) (hs : Frame W zz s) :
    Frame W zz (State.keepOld s a) := by
  unfold State.keepOld
  try dsimp only
  repeat' (first
    | with_reducible exact hs
    | with_reducible assumption
    | with_reducible refine frame_ite ?_ ?_
    | ((conv => arg 3; arg 34); with_reducible apply frame_mk)
    | exact fun b => absurd (hw _ b) (by decide)
    | with_reducible exact fun _ => rfl
    | ((with_reducible show NonVol.identity _ = NonVol.identity _); rfl)
    | (with_reducible refine frame_regs (within_trans (by decide) hw) ?_ (NMap.wf_filter _ _ _))
    | split
    | dsimp only)

theorem State.liveBoundaryApply_frame {W : Nat} {zz : State} {s : State} {kind : Nat} {t : Time} {sel : LivePend → Bool} (hw : Within 4719892113 W) (hs : Frame W zz s) :
    Frame W zz (State.liveBoundaryApply s kind t sel) := by
  unfold State.liveBoundaryApply
  try dsimp only
  repeat' (first
    | with_reducible exact hs
    | with_reducible assumption
    | with_reducible refine frame_ite ?_ ?_
    | with_reducible refine State.setLive_frame (within_trans (by decide) hw) ?_
    | with_reducible refine State.keepOld_frame (within_trans (by decide) hw) ?_
    | (with_reducible refine frame_foldl ?_ ?_) | (with_reducible refine frame_foldl_fst ?_ ?_) | (with_reducible refine frame_foldl_snd ?_ ?_) | (intro _ _ _)
    | ((conv => arg 3; arg 34); with_reducible apply frame_mk)
    | exact fun b => absurd (hw _ b) (by decide)
    | with_reducible exact fun _ => rfl
    | ((with_reducible show NonVol.identity _ = NonVol.identity _); rfl)
    | split
    | dsimp only)

theorem State.liveWait_frame {W : Nat} {zz : State} {s : State} {addr : Nat} {e : LiveEnt} {value : Nat} (hw : Within 128 W) (hs : Frame W zz s) :
    Frame W zz (State.liveWait s addr e value) := by
  unfold State.liveWait
  try dsimp only
  repeat' (first
    | with_reducible exact hs
    | with_reducible assumption
    | with_reducible refine frame_ite ?_ ?_
    | ((conv => arg 3; arg 34); with_reducible apply frame_mk)
    | exact fun b => absurd (hw _ b) (by decide)
    | with_reducible exact fun _ => rfl
    | ((with_reducible show NonVol.identity _ = NonVol.identity _); rfl)
    | dsimp only)

end Sys2Proof.Machine
end

