-- ==== Sys2Proof/Laws/FrameBoundary.lean ====
section
/-!
SUPPORT. The frame of each operation of Machine/Boundary.lean.
-/

set_option maxRecDepth 4000

namespace Sys2Proof.Machine

set_option linter.all false
set_option Elab.async false

theorem State.sendCopy_frame {W : Nat} {zz : State} {s : State} (hw : Within 4563403776 W) (hs : Frame W zz s) :
    Frame W zz (State.sendCopy s) := by
  unfold State.sendCopy
  try dsimp only
  repeat' (first
    | with_reducible exact hs
    | with_reducible assumption
    | with_reducible refine frame_ite ?_ ?_
    | with_reducible refine State.sendBoth_frame (within_trans (by decide) hw) ?_
    | ((conv => arg 3; arg 34); with_reducible apply frame_mk)
    | exact fun b => absurd (hw _ b) (by decide)
    | with_reducible exact fun _ => rfl
    | ((with_reducible show NonVol.identity _ = NonVol.identity _); rfl)
    | split
    | dsimp only)

theorem State.releaseBoundary_frame {W : Nat} {zz : State} {s : State} (hw : Within 512 W) (hs : Frame W zz s) :
    Frame W zz (State.releaseBoundary s) := by
  unfold State.releaseBoundary
  try dsimp only
  repeat' (first
    | with_reducible exact hs
    | with_reducible assumption
    | with_reducible refine frame_ite ?_ ?_
    | with_reducible refine State.setLane_frame (within_trans (by decide) hw) ?_
    | (with_reducible refine frame_foldl ?_ ?_) | (with_reducible refine frame_foldl_fst ?_ ?_) | (with_reducible refine frame_foldl_snd ?_ ?_) | (intro _ _ _)
    | split
    | dsimp only)

theorem State.gapsBoundary_frame {W : Nat} {zz : State} {s : State} (hw : Within 1185297 W) (hs : Frame W zz s) :
    Frame W zz (State.gapsBoundary s) := by
  unfold State.gapsBoundary
  try dsimp only
  repeat' (first
    | with_reducible exact hs
    | with_reducible assumption
    | with_reducible refine frame_ite ?_ ?_
    | with_reducible refine State.gapBoundary_frame (within_trans (by decide) hw) ?_
    | (with_reducible refine frame_foldl ?_ ?_) | (with_reducible refine frame_foldl_fst ?_ ?_) | (with_reducible refine frame_foldl_snd ?_ ?_) | (intro _ _ _)
    | dsimp only)

theorem State.mainOpen_frame {W : Nat} {zz : State} {s : State} (hw : Within 4563404288 W) (hs : Frame W zz s) :
    Frame W zz (State.mainOpen s) := by
  unfold State.mainOpen
  try dsimp only
  repeat' (first
    | with_reducible exact hs
    | with_reducible assumption
    | with_reducible refine frame_ite ?_ ?_
    | with_reducible refine State.sendCopy_frame (within_trans (by decide) hw) ?_
    | with_reducible refine State.releaseBoundary_frame (within_trans (by decide) hw) ?_
    | dsimp only)

theorem State.pfwBoundary_frame {W : Nat} {zz : State} {s : State} (hw : Within 4564661777 W) (hs : Frame W zz s) :
    Frame W zz (State.pfwBoundary s) := by
  unfold State.pfwBoundary
  try dsimp only
  repeat' (first
    | with_reducible exact hs
    | with_reducible assumption
    | with_reducible refine frame_ite ?_ ?_
    | with_reducible refine State.enterPark_frame (within_trans (by decide) hw) ?_
    | split
    | dsimp only)

theorem State.parkExchange_frame {W : Nat} {zz : State} {s : State} (hw : Within 13762577 W) (hs : Frame W zz s) :
    Frame W zz (State.parkExchange s) := by
  unfold State.parkExchange
  try dsimp only
  repeat' (first
    | with_reducible exact hs
    | with_reducible assumption
    | with_reducible refine frame_ite ?_ ?_
    | with_reducible refine State.exchangeIdle_frame (within_trans (by decide) hw) ?_
    | split
    | dsimp only)

theorem State.mainClose_frame {W : Nat} {zz : State} {s : State} (hw : Within 4712265361 W) (hs : Frame W zz s) :
    Frame W zz (State.mainClose s) := by
  unfold State.mainClose
  try dsimp only
  repeat' (first
    | with_reducible exact hs
    | with_reducible assumption
    | with_reducible refine frame_ite ?_ ?_
    | with_reducible refine State.mapBoundary_frame (within_trans (by decide) hw) ?_
    | with_reducible refine State.budgetBoundary_frame (within_trans (by decide) hw) ?_
    | with_reducible refine State.parkBoundary_frame (within_trans (by decide) hw) ?_
    | with_reducible refine State.handoverBoundary_frame (within_trans (by decide) hw) ?_
    | with_reducible refine State.switchBoundary_frame (within_trans (by decide) hw) ?_
    | with_reducible refine State.gapsBoundary_frame (within_trans (by decide) hw) ?_
    | with_reducible refine State.pfwBoundary_frame (within_trans (by decide) hw) ?_
    | with_reducible refine State.parkExchange_frame (within_trans (by decide) hw) ?_
    | dsimp only)

theorem State.syncLaunch_frame {W : Nat} {zz : State} {s : State} {n j : Nat} (hw : Within 268435456 W) (hs : Frame W zz s) :
    Frame W zz (State.syncLaunch s n j) := by
  unfold State.syncLaunch
  try dsimp only
  repeat' (first
    | with_reducible exact hs
    | with_reducible assumption
    | with_reducible refine frame_ite ?_ ?_
    | (with_reducible refine frame_foldl ?_ ?_) | (with_reducible refine frame_foldl_fst ?_ ?_) | (with_reducible refine frame_foldl_snd ?_ ?_) | (intro _ _ _)
    | ((conv => arg 3; arg 34); with_reducible apply frame_mk)
    | exact fun b => absurd (hw _ b) (by decide)
    | with_reducible exact fun _ => rfl
    | ((with_reducible show NonVol.identity _ = NonVol.identity _); rfl)
    | split
    | dsimp only)

theorem State.launchSlot_frame {W : Nat} {zz : State} {s : State} {n j : Nat} {L : Time} {dark holdover : Bool} (hw : Within 328204305 W) (hs : Frame W zz s) :
    Frame W zz (State.launchSlot s n j L dark holdover) := by
  unfold State.launchSlot
  try dsimp only
  repeat' (first
    | with_reducible exact hs
    | with_reducible assumption
    | with_reducible refine frame_ite ?_ ?_
    | with_reducible refine State.openWindow_frame (within_trans (by decide) hw) ?_
    | with_reducible refine State.ramanShot_frame (within_trans (by decide) hw) ?_
    | with_reducible refine State.fibreLaunch_frame (within_trans (by decide) hw) ?_
    | with_reducible refine State.syncLaunch_frame (within_trans (by decide) hw) ?_
    | split
    | dsimp only)

theorem State.lostLaunch_frame {W : Nat} {zz : State} {s : State} {n j : Nat} {L : Time} (hw : Within 4614919697 W) (hs : Frame W zz s) :
    Frame W zz (State.lostLaunch s n j L) := by
  unfold State.lostLaunch
  try dsimp only
  repeat' (first
    | with_reducible exact hs
    | with_reducible assumption
    | with_reducible refine frame_ite ?_ ?_
    | with_reducible refine State.ramanSkip_frame (within_trans (by decide) hw) ?_
    | with_reducible refine State.fibreLaunch_frame (within_trans (by decide) hw) ?_
    | with_reducible refine State.loseRuns_frame (within_trans (by decide) hw) ?_
    | split
    | dsimp only)

theorem State.shotLaunch_frame {W : Nat} {zz : State} {s : State} {n : Nat} {t : Time} (hw : Within 4623308305 W) (hs : Frame W zz s) :
    Frame W zz (State.shotLaunch s n t) := by
  unfold State.shotLaunch
  try dsimp only
  repeat' (first
    | with_reducible exact hs
    | with_reducible assumption
    | with_reducible refine frame_ite ?_ ?_
    | with_reducible refine State.wf_frame (within_trans (by decide) hw) ?_
    | with_reducible refine State.count_frame (within_trans (by decide) hw) ?_
    | with_reducible refine State.launchSlot_frame (within_trans (by decide) hw) ?_
    | with_reducible refine State.lostLaunch_frame (within_trans (by decide) hw) ?_
    | ((conv => arg 3; arg 34); with_reducible apply frame_mk)
    | exact fun b => absurd (hw _ b) (by decide)
    | with_reducible exact fun _ => rfl
    | ((with_reducible show NonVol.identity _ = NonVol.identity _); rfl)
    | split
    | dsimp only)

theorem State.setShotNo_frame {W : Nat} {zz : State} {s : State} {n : Nat} (hw : Within 256 W) (hs : Frame W zz s) :
    Frame W zz (State.setShotNo s n) := by
  unfold State.setShotNo
  try dsimp only
  repeat' (first
    | with_reducible exact hs
    | with_reducible assumption
    | with_reducible refine frame_ite ?_ ?_
    | ((conv => arg 3; arg 34); with_reducible apply frame_mk)
    | exact fun b => absurd (hw _ b) (by decide)
    | with_reducible exact fun _ => rfl
    | ((with_reducible show NonVol.identity _ = NonVol.identity _); rfl)
    | dsimp only)

theorem State.shotOrNot_frame {W : Nat} {zz : State} {s : State} {n : Nat} {t : Time} (hw : Within 4623308305 W) (hs : Frame W zz s) :
    Frame W zz (State.shotOrNot s n t) := by
  unfold State.shotOrNot
  try dsimp only
  repeat' (first
    | with_reducible exact hs
    | with_reducible assumption
    | with_reducible refine frame_ite ?_ ?_
    | with_reducible refine State.wf_frame (within_trans (by decide) hw) ?_
    | with_reducible refine State.ramanSkip_frame (within_trans (by decide) hw) ?_
    | with_reducible refine State.shotLaunch_frame (within_trans (by decide) hw) ?_
    | split
    | dsimp only)

theorem opShotBoundary_frame {W : Nat} {zz : State} {s : State} (hw : Within 4762630037 W) (hs : Frame W zz s) :
    Frame W zz (opShotBoundary s) := by
  unfold opShotBoundary
  try dsimp only
  repeat' (first
    | with_reducible exact hs
    | with_reducible assumption
    | with_reducible refine frame_ite ?_ ?_
    | with_reducible refine State.advance_frame (within_trans (by decide) hw) ?_
    | with_reducible refine State.zoneBoundary_frame (within_trans (by decide) hw) ?_
    | with_reducible refine State.matchShot_frame (within_trans (by decide) hw) ?_
    | with_reducible refine State.liveBoundaryApply_frame (within_trans (by decide) hw) ?_
    | with_reducible refine State.mainOpen_frame (within_trans (by decide) hw) ?_
    | with_reducible refine State.mainClose_frame (within_trans (by decide) hw) ?_
    | with_reducible refine State.setShotNo_frame (within_trans (by decide) hw) ?_
    | with_reducible refine State.shotOrNot_frame (within_trans (by decide) hw) ?_
    | split
    | dsimp only)

theorem opRmnTrig_frame {W : Nat} {zz : State} {s : State} (hw : Within 4303355908 W) (hs : Frame W zz s) :
    Frame W zz (opRmnTrig s) := by
  unfold opRmnTrig
  try dsimp only
  repeat' (first
    | with_reducible exact hs
    | with_reducible assumption
    | with_reducible refine frame_ite ?_ ?_
    | with_reducible refine State.advance_frame (within_trans (by decide) hw) ?_
    | with_reducible refine State.emitOut_frame (within_trans (by decide) hw) ?_
    | ((conv => arg 3; arg 34); with_reducible apply frame_mk)
    | exact fun b => absurd (hw _ b) (by decide)
    | with_reducible exact fun _ => rfl
    | ((with_reducible show NonVol.identity _ = NonVol.identity _); rfl)
    | split
    | dsimp only)

theorem opPulseStart_frame {W : Nat} {zz : State} {j : Nat} {s : State} (hw : Within 4303355908 W) (hs : Frame W zz s) :
    Frame W zz (opPulseStart j s) := by
  unfold opPulseStart
  try dsimp only
  repeat' (first
    | with_reducible exact hs
    | with_reducible assumption
    | with_reducible refine frame_ite ?_ ?_
    | with_reducible refine State.advance_frame (within_trans (by decide) hw) ?_
    | with_reducible refine State.emitOut_frame (within_trans (by decide) hw) ?_
    | ((conv => arg 3; arg 34); with_reducible apply frame_mk)
    | exact fun b => absurd (hw _ b) (by decide)
    | with_reducible exact fun _ => rfl
    | ((with_reducible show NonVol.identity _ = NonVol.identity _); rfl)
    | split
    | dsimp only)

theorem opSlotLaunch_frame {W : Nat} {zz : State} {s : State} (hw : Within 4623308309 W) (hs : Frame W zz s) :
    Frame W zz (opSlotLaunch s) := by
  unfold opSlotLaunch
  try dsimp only
  repeat' (first
    | with_reducible exact hs
    | with_reducible assumption
    | with_reducible refine frame_ite ?_ ?_
    | with_reducible refine State.advance_frame (within_trans (by decide) hw) ?_
    | with_reducible refine State.launchSlot_frame (within_trans (by decide) hw) ?_
    | with_reducible refine State.lostLaunch_frame (within_trans (by decide) hw) ?_
    | split
    | dsimp only)

theorem State.forwardField_frame {W : Nat} {zz : State} {s : State} {k : Nat} {hold : Time} (hw : Within 4563403776 W) (hs : Frame W zz s) :
    Frame W zz (State.forwardField s k hold) := by
  unfold State.forwardField
  try dsimp only
  repeat' (first
    | with_reducible exact hs
    | with_reducible assumption
    | with_reducible refine frame_ite ?_ ?_
    | with_reducible refine State.sendLane_frame (within_trans (by decide) hw) ?_
    | ((conv => arg 3; arg 34); with_reducible apply frame_mk)
    | exact fun b => absurd (hw _ b) (by decide)
    | with_reducible exact fun _ => rfl
    | ((with_reducible show NonVol.identity _ = NonVol.identity _); rfl)
    | split
    | dsimp only)

theorem State.chainSnapshot_frame {W : Nat} {zz : State} {s : State} {node : Bool} (hw : Within 4563403776 W) (hs : Frame W zz s) :
    Frame W zz (State.chainSnapshot s node) := by
  unfold State.chainSnapshot
  try dsimp only
  repeat' (first
    | with_reducible exact hs
    | with_reducible assumption
    | with_reducible refine frame_ite ?_ ?_
    | with_reducible refine State.sendLane_frame (within_trans (by decide) hw) ?_
    | ((conv => arg 3; arg 34); with_reducible apply frame_mk)
    | exact fun b => absurd (hw _ b) (by decide)
    | with_reducible exact fun _ => rfl
    | ((with_reducible show NonVol.identity _ = NonVol.identity _); rfl)
    | split
    | dsimp only)

theorem State.chainTick_frame {W : Nat} {zz : State} {s : State} {k : Nat} {t : Time} (hw : Within 4822652561 W) (hs : Frame W zz s) :
    Frame W zz (State.chainTick s k t) := by
  unfold State.chainTick
  try dsimp only
  repeat' (first
    | with_reducible exact hs
    | with_reducible assumption
    | with_reducible refine frame_ite ?_ ?_
    | with_reducible refine State.latchField_frame (within_trans (by decide) hw) ?_
    | with_reducible refine State.resyncField_frame (within_trans (by decide) hw) ?_
    | with_reducible refine State.notchBoundary_frame (within_trans (by decide) hw) ?_
    | with_reducible refine State.fieldPass_frame (within_trans (by decide) hw) ?_
    | with_reducible refine State.liveBoundaryApply_frame (within_trans (by decide) hw) ?_
    | with_reducible refine State.forwardField_frame (within_trans (by decide) hw) ?_
    | dsimp only)

theorem State.noHold_frame {W : Nat} {zz : State} {s : State} (hw : Within 4194305 W) (hs : Frame W zz s) :
    Frame W zz (State.noHold s) := by
  unfold State.noHold
  try dsimp only
  repeat' (first
    | with_reducible exact hs
    | with_reducible assumption
    | with_reducible refine frame_ite ?_ ?_
    | with_reducible refine State.wf_frame (within_trans (by decide) hw) ?_
    | ((conv => arg 3; arg 34); with_reducible apply frame_mk)
    | exact fun b => absurd (hw _ b) (by decide)
    | with_reducible exact fun _ => rfl
    | ((with_reducible show NonVol.identity _ = NonVol.identity _); rfl)
    | dsimp only)

theorem opFieldTick_frame {W : Nat} {zz : State} {obs : List WireObs} {s : State} (hw : Within 4831836053 W) (hs : Frame W zz s) :
    Frame W zz (opFieldTick obs s) := by
  unfold opFieldTick
  try dsimp only
  repeat' (first
    | with_reducible exact hs
    | with_reducible assumption
    | with_reducible refine frame_ite ?_ ?_
    | with_reducible refine State.advance_frame (within_trans (by decide) hw) ?_
    | with_reducible refine State.showCoreInj_frame (within_trans (by decide) hw) ?_
    | with_reducible refine State.showInjected_frame (within_trans (by decide) hw) ?_
    | with_reducible refine State.bandBoundary_frame (within_trans (by decide) hw) ?_
    | with_reducible refine State.fieldHold_frame (within_trans (by decide) hw) ?_
    | with_reducible refine State.liveBoundaryApply_frame (within_trans (by decide) hw) ?_
    | with_reducible refine State.mainOpen_frame (within_trans (by decide) hw) ?_
    | with_reducible refine State.mainClose_frame (within_trans (by decide) hw) ?_
    | with_reducible refine State.chainSnapshot_frame (within_trans (by decide) hw) ?_
    | with_reducible refine State.chainTick_frame (within_trans (by decide) hw) ?_
    | with_reducible refine State.noHold_frame (within_trans (by decide) hw) ?_
    | ((conv => arg 3; arg 34); with_reducible apply frame_mk)
    | exact fun b => absurd (hw _ b) (by decide)
    | with_reducible exact fun _ => rfl
    | ((with_reducible show NonVol.identity _ = NonVol.identity _); rfl)
    | split
    | dsimp only)

theorem State.staleNodes_frame {W : Nat} {zz : State} {s : State} {j : Nat} (hw : Within 4801648145 W) (hs : Frame W zz s) :
    Frame W zz (State.staleNodes s j) := by
  unfold State.staleNodes
  try dsimp only
  repeat' (first
    | with_reducible exact hs
    | with_reducible assumption
    | with_reducible refine frame_ite ?_ ?_
    | with_reducible refine State.onPort_frame (within_trans (by decide) hw) ?_
    | with_reducible refine State.nodeWords_frame (within_trans (by decide) hw) ?_
    | (with_reducible refine frame_iter ?_ ?_) | (with_reducible refine frame_iter_fst ?_ ?_) | (intro _ _ _)
    | ((conv => arg 3; arg 34); with_reducible apply frame_mk)
    | exact fun b => absurd (hw _ b) (by decide)
    | with_reducible exact fun _ => rfl
    | ((with_reducible show NonVol.identity _ = NonVol.identity _); rfl)
    | split
    | dsimp only)

theorem State.nodeBoundary_frame {W : Nat} {zz : State} {s : State} {t : Time} {die : Word} (hw : Within 4721989265 W) (hs : Frame W zz s) :
    Frame W zz (State.nodeBoundary s t die) := by
  unfold State.nodeBoundary
  try dsimp only
  repeat' (first
    | with_reducible exact hs
    | with_reducible assumption
    | with_reducible refine frame_ite ?_ ?_
    | with_reducible refine State.latchNode_frame (within_trans (by decide) hw) ?_
    | with_reducible refine State.notchBoundaryN_frame (within_trans (by decide) hw) ?_
    | with_reducible refine State.liveBoundaryApply_frame (within_trans (by decide) hw) ?_
    | dsimp only)

theorem State.nodeLatch_frame {W : Nat} {zz : State} {s : State} {t : Time} (hw : Within 4721989265 W) (hs : Frame W zz s) :
    Frame W zz (State.nodeLatch s t) := by
  unfold State.nodeLatch
  try dsimp only
  repeat' (first
    | with_reducible exact hs
    | with_reducible assumption
    | with_reducible refine frame_ite ?_ ?_
    | with_reducible refine State.sendLane_frame (within_trans (by decide) hw) ?_
    | with_reducible refine State.nodeBoundary_frame (within_trans (by decide) hw) ?_
    | split
    | dsimp only)

theorem opSuperframe_frame {W : Nat} {zz : State} {s : State} (hw : Within 4831836053 W) (hs : Frame W zz s) :
    Frame W zz (opSuperframe s) := by
  unfold opSuperframe
  try dsimp only
  repeat' (first
    | with_reducible exact hs
    | with_reducible assumption
    | with_reducible refine frame_ite ?_ ?_
    | with_reducible refine State.advance_frame (within_trans (by decide) hw) ?_
    | with_reducible refine State.resyncNode_frame (within_trans (by decide) hw) ?_
    | with_reducible refine State.liveBoundaryApply_frame (within_trans (by decide) hw) ?_
    | with_reducible refine State.mainOpen_frame (within_trans (by decide) hw) ?_
    | with_reducible refine State.mainClose_frame (within_trans (by decide) hw) ?_
    | with_reducible refine State.chainSnapshot_frame (within_trans (by decide) hw) ?_
    | with_reducible refine State.staleNodes_frame (within_trans (by decide) hw) ?_
    | with_reducible refine State.nodeLatch_frame (within_trans (by decide) hw) ?_
    | ((conv => arg 3; arg 34); with_reducible apply frame_mk)
    | exact fun b => absurd (hw _ b) (by decide)
    | with_reducible exact fun _ => rfl
    | ((with_reducible show NonVol.identity _ = NonVol.identity _); rfl)
    | split
    | dsimp only)

end Sys2Proof.Machine
end

