-- ==== Sys2Proof/Laws/FrameAccess.lean ====
section
/-!
SUPPORT. The frame of each operation of Machine/Access.lean.
-/

set_option maxRecDepth 4000

namespace Sys2Proof.Machine

set_option linter.all false
set_option Elab.async false

theorem State.deny_frame {W : Nat} {zz : State} {s : State} (hw : Within 1179665 W) (hs : Frame W zz s) :
    Frame W zz (State.deny s) := by
  unfold State.deny
  try dsimp only
  repeat' (first
    | with_reducible exact hs
    | with_reducible assumption
    | with_reducible refine frame_ite ?_ ?_
    | with_reducible refine State.count_frame (within_trans (by decide) hw) ?_
    | with_reducible refine State.raise_frame (within_trans (by decide) hw) ?_
    | with_reducible refine State.err_frame (within_trans (by decide) hw) ?_
    | dsimp only)

theorem State.writeRefusal_frame {W : Nat} {zz t : State} {s : State} {x addr n : Nat}
    (he : s.writeRefusal x addr = some (n, t)) (hw : Within 1179665 W) (hs : Frame W zz s) :
    Frame W zz t := by
  have h1 : ∀ p c, Frame W zz (s.err p c) := fun p c => State.err_frame (within_trans (by decide) hw) hs
  have h2 : Frame W zz s.deny := State.deny_frame (within_trans (by decide) hw) hs
  unfold State.writeRefusal at he
  dsimp only at he
  repeat' split at he
  all_goals first
    | contradiction
    | (simp only [Option.some.injEq, Prod.mk.injEq] at he; obtain ⟨_, rfl⟩ := he; first | exact hs | exact h2 | exact h1 _ _)

theorem opHandover_frame {W : Nat} {zz : State} {x : Nat} {s : State} (hw : Within 268566529 W) (hs : Frame W zz s) :
    Frame W zz (opHandover x s) := by
  unfold opHandover
  try dsimp only
  repeat' (first
    | with_reducible exact hs
    | with_reducible assumption
    | with_reducible refine frame_ite ?_ ?_
    | with_reducible refine State.err_frame (within_trans (by decide) hw) ?_
    | with_reducible refine State.startHandover_frame (within_trans (by decide) hw) ?_
    | split
    | dsimp only)

theorem opResync_frame {W : Nat} {zz : State} {x : Nat} {s : State} (hw : Within 4564583441 W) (hs : Frame W zz s) :
    Frame W zz (opResync x s) := by
  unfold opResync
  try dsimp only
  repeat' (first
    | with_reducible exact hs
    | with_reducible assumption
    | with_reducible refine frame_ite ?_ ?_
    | with_reducible refine State.err_frame (within_trans (by decide) hw) ?_
    | with_reducible refine State.copyItem_frame (within_trans (by decide) hw) ?_
    | with_reducible refine State.startSync_frame (within_trans (by decide) hw) ?_
    | split
    | dsimp only)

theorem State.command_frame {W : Nat} {zz : State} {s : State} {x addr : Nat} {v : Word} (hw : Within 8589934591 W) (hs : Frame W zz s) :
    Frame W zz (State.command s x addr v) := by
  unfold State.command
  try dsimp only
  repeat' (first
    | with_reducible exact hs
    | with_reducible assumption
    | with_reducible refine frame_ite ?_ ?_
    | with_reducible refine State.wr_frame (within_trans (by decide) hw) ?_
    | with_reducible refine State.err_frame (within_trans (by decide) hw) ?_
    | with_reducible refine opShbTrig_frame (within_trans (by decide) hw) ?_
    | with_reducible refine opSplPop_frame (within_trans (by decide) hw) ?_
    | with_reducible refine opSplLane_frame (within_trans (by decide) hw) ?_
    | with_reducible refine opRestep_frame (within_trans (by decide) hw) ?_
    | with_reducible refine opClkSwitch_frame (within_trans (by decide) hw) ?_
    | with_reducible refine opPrbsInj1_frame (within_trans (by decide) hw) ?_
    | with_reducible refine opPrbsClr_frame (within_trans (by decide) hw) ?_
    | with_reducible refine opChainSync_frame (within_trans (by decide) hw) ?_
    | with_reducible refine State.injRequest_frame (within_trans (by decide) hw) ?_
    | with_reducible refine opFldCal_frame (within_trans (by decide) hw) ?_
    | with_reducible refine opHspiGo_frame (within_trans (by decide) hw) ?_
    | with_reducible refine opScript_frame (within_trans (by decide) hw) ?_
    | with_reducible refine opLasOn_frame (within_trans (by decide) hw) ?_
    | with_reducible refine opLasOff_frame (within_trans (by decide) hw) ?_
    | with_reducible refine State.rxRecal_frame (within_trans (by decide) hw) ?_
    | with_reducible refine opRetrain_frame (within_trans (by decide) hw) ?_
    | with_reducible refine State.rejoin_frame (within_trans (by decide) hw) ?_
    | with_reducible refine opNodeCmd_frame (within_trans (by decide) hw) ?_
    | with_reducible refine opSysReset_frame (within_trans (by decide) hw) ?_
    | with_reducible refine opWipe_frame (within_trans (by decide) hw) ?_
    | with_reducible refine opUpdStart_frame (within_trans (by decide) hw) ?_
    | with_reducible refine opActivate_frame (within_trans (by decide) hw) ?_
    | with_reducible refine opConfirm_frame (within_trans (by decide) hw) ?_
    | with_reducible refine opUpdAbort_frame (within_trans (by decide) hw) ?_
    | with_reducible refine opInstall_frame (within_trans (by decide) hw) ?_
    | with_reducible refine opRemove_frame (within_trans (by decide) hw) ?_
    | with_reducible refine opReturnArm_frame (within_trans (by decide) hw) ?_
    | with_reducible refine opReturn_frame (within_trans (by decide) hw) ?_
    | with_reducible refine opMntStart_frame (within_trans (by decide) hw) ?_
    | with_reducible refine opMntAbort_frame (within_trans (by decide) hw) ?_
    | with_reducible refine opPlnCmd_frame (within_trans (by decide) hw) ?_
    | with_reducible refine opHandover_frame (within_trans (by decide) hw) ?_
    | with_reducible refine opResync_frame (within_trans (by decide) hw) ?_
    | split
    | dsimp only)

theorem State.pageCtrl_frame {W : Nat} {zz : State} {s : State} {page : Nat} {v : Word} (hw : Within 131073 W) (hs : Frame W zz s) :
    Frame W zz (State.pageCtrl s page v) := by
  unfold State.pageCtrl
  try dsimp only
  repeat' (first
    | with_reducible exact hs
    | with_reducible assumption
    | with_reducible refine frame_ite ?_ ?_
    | with_reducible refine State.wr_frame (within_trans (by decide) hw) ?_
    | with_reducible refine State.err_frame (within_trans (by decide) hw) ?_
    | split
    | dsimp only)

theorem State.irqEnable_frame {W : Nat} {zz : State} {s : State} {page x : Nat} {v : Word} (hw : Within 131073 W) (hs : Frame W zz s) :
    Frame W zz (State.irqEnable s page x v) := by
  unfold State.irqEnable
  try dsimp only
  repeat' (first
    | with_reducible exact hs
    | with_reducible assumption
    | with_reducible refine frame_ite ?_ ?_
    | with_reducible refine State.wr_frame (within_trans (by decide) hw) ?_
    | with_reducible refine State.onSession_frame (within_trans (by decide) hw) ?_
    | split
    | dsimp only)

theorem State.storeSetting_frame {W : Nat} {zz : State} {s : State} {key : Nat} (hw : Within 32 W) (hs : Frame W zz s) :
    Frame W zz (State.storeSetting s key) := by
  unfold State.storeSetting
  try dsimp only
  repeat' (first
    | with_reducible exact hs
    | with_reducible assumption
    | with_reducible refine frame_ite ?_ ?_
    | ((conv => arg 3; arg 34); with_reducible apply frame_mk)
    | exact fun b => absurd (hw _ b) (by decide)
    | with_reducible exact fun _ => rfl
    | ((with_reducible show NonVol.identity _ = NonVol.identity _); rfl)
    | split
    | dsimp only)

theorem State.laneService_frame {W : Nat} {zz : State} {s : State} {n : Nat} (hw : Within 4565374481 W) (hs : Frame W zz s) :
    Frame W zz (State.laneService s n) := by
  unfold State.laneService
  try dsimp only
  repeat' (first
    | with_reducible exact hs
    | with_reducible assumption
    | with_reducible refine frame_ite ?_ ?_
    | with_reducible refine State.wf_frame (within_trans (by decide) hw) ?_
    | with_reducible refine State.portCheck_frame (within_trans (by decide) hw) ?_
    | with_reducible refine State.laneLost_frame (within_trans (by decide) hw) ?_
    | split
    | dsimp only)

theorem State.laneWrite_frame {W : Nat} {zz : State} {s : State} {n addr : Nat} {v : Word} (hw : Within 4565382705 W) (hs : Frame W zz s) :
    Frame W zz (State.laneWrite s n addr v).2 := by
  unfold State.laneWrite
  try dsimp only
  repeat' (first
    | with_reducible exact hs
    | with_reducible assumption
    | with_reducible refine frame_ite ?_ ?_
    | with_reducible refine frame_ite_fst ?_ ?_
    | with_reducible refine frame_ite_snd ?_ ?_
    | with_reducible refine frame_ite_snd2 ?_ ?_
    | with_reducible refine State.wr_frame (within_trans (by decide) hw) ?_
    | with_reducible refine State.wf_frame (within_trans (by decide) hw) ?_
    | with_reducible refine State.err_frame (within_trans (by decide) hw) ?_
    | with_reducible refine State.laneFails_frame (within_trans (by decide) hw) ?_
    | with_reducible refine State.storeSetting_frame (within_trans (by decide) hw) ?_
    | with_reducible refine State.laneService_frame (within_trans (by decide) hw) ?_
    | split
    | dsimp only)

theorem State.laneWrite_frame' {W : Nat} {zz u : State} {s : State} {n addr : Nat} {v : Word} {y_} (he_ : State.laneWrite s n addr v = (y_, u)) (hw : Within 4565382705 W)
    (hs : Frame W zz s) : Frame W zz u := by
  have k : Frame W zz (State.laneWrite s n addr v).2 := State.laneWrite_frame hw hs
  rw [he_] at k
  exact k

theorem State.inputConfig_frame {W : Nat} {zz : State} {s : State} {n : Nat} {v : Word} (hw : Within 16385 W) (hs : Frame W zz s) :
    Frame W zz (State.inputConfig s n v) := by
  unfold State.inputConfig
  try dsimp only
  repeat' (first
    | with_reducible exact hs
    | with_reducible assumption
    | with_reducible refine frame_ite ?_ ?_
    | with_reducible refine State.wr_frame (within_trans (by decide) hw) ?_
    | ((conv => arg 3; arg 34); with_reducible apply frame_mk)
    | exact fun b => absurd (hw _ b) (by decide)
    | with_reducible exact fun _ => rfl
    | ((with_reducible show NonVol.identity _ = NonVol.identity _); rfl)
    | dsimp only)

theorem State.lineConfig_frame {W : Nat} {zz : State} {s : State} {n : Nat} {v : Word} (hw : Within 16385 W) (hs : Frame W zz s) :
    Frame W zz (State.lineConfig s n v) := by
  unfold State.lineConfig
  try dsimp only
  repeat' (first
    | with_reducible exact hs
    | with_reducible assumption
    | with_reducible refine frame_ite ?_ ?_
    | with_reducible refine State.wr_frame (within_trans (by decide) hw) ?_
    | ((conv => arg 3; arg 34); with_reducible apply frame_mk)
    | exact fun b => absurd (hw _ b) (by decide)
    | with_reducible exact fun _ => rfl
    | ((with_reducible show NonVol.identity _ = NonVol.identity _); rfl)
    | split
    | dsimp only)

theorem State.setReg_frame {W : Nat} {zz : State} {s : State} {key : Nat} {v : Word} (hw : Within 4703909425 W) (hs : Frame W zz s) :
    Frame W zz (State.setReg s key v).2 := by
  unfold State.setReg
  try dsimp only
  repeat' (first
    | with_reducible exact hs
    | with_reducible assumption
    | with_reducible refine frame_ite ?_ ?_
    | with_reducible refine frame_ite_fst ?_ ?_
    | with_reducible refine frame_ite_snd ?_ ?_
    | with_reducible refine frame_ite_snd2 ?_ ?_
    | with_reducible refine State.wr_frame (within_trans (by decide) hw) ?_
    | with_reducible refine State.ptpSelect_frame (within_trans (by decide) hw) ?_
    | with_reducible refine State.portCheck_frame (within_trans (by decide) hw) ?_
    | with_reducible refine opGateWrite_frame (within_trans (by decide) hw) ?_
    | with_reducible refine State.setBallast_frame (within_trans (by decide) hw) ?_
    | with_reducible refine State.setLive_frame (within_trans (by decide) hw) ?_
    | with_reducible refine State.storeSetting_frame (within_trans (by decide) hw) ?_
    | with_reducible refine State.laneWrite_frame (within_trans (by decide) hw) ?_
    | with_reducible refine State.laneWrite_frame' (by assumption) (within_trans (by decide) hw) ?_
    | with_reducible refine State.inputConfig_frame (within_trans (by decide) hw) ?_
    | with_reducible refine State.lineConfig_frame (within_trans (by decide) hw) ?_
    | split
    | dsimp only)

theorem State.setReg_frame' {W : Nat} {zz u : State} {s : State} {key : Nat} {v : Word} {y_} (he_ : State.setReg s key v = (y_, u)) (hw : Within 4703909425 W)
    (hs : Frame W zz s) : Frame W zz u := by
  have k : Frame W zz (State.setReg s key v).2 := State.setReg_frame hw hs
  rw [he_] at k
  exact k

theorem State.liveField_frame {W : Nat} {zz : State} {s : State} {key : Nat} {v : Word} {e : LiveEnt} (hw : Within 128 W) (hs : Frame W zz s) :
    Frame W zz (State.liveField s key v e) := by
  unfold State.liveField
  try dsimp only
  repeat' (first
    | with_reducible exact hs
    | with_reducible assumption
    | with_reducible refine frame_ite ?_ ?_
    | with_reducible refine State.liveWait_frame (within_trans (by decide) hw) ?_
    | split
    | dsimp only)

theorem State.planWrite_frame {W : Nat} {zz : State} {s : State} {p : Plan} {key addr : Nat} {v0 : Word} (hw : Within 131201 W) (hs : Frame W zz s) :
    Frame W zz (State.planWrite s p key addr v0).2 := by
  unfold State.planWrite
  try dsimp only
  repeat' (first
    | with_reducible exact hs
    | with_reducible assumption
    | with_reducible refine frame_ite ?_ ?_
    | with_reducible refine frame_ite_fst ?_ ?_
    | with_reducible refine frame_ite_snd ?_ ?_
    | with_reducible refine frame_ite_snd2 ?_ ?_
    | with_reducible refine State.err_frame (within_trans (by decide) hw) ?_
    | with_reducible refine State.liveField_frame (within_trans (by decide) hw) ?_
    | (with_reducible refine frame_foldl ?_ ?_) | (with_reducible refine frame_foldl_fst ?_ ?_) | (with_reducible refine frame_foldl_snd ?_ ?_) | (intro _ _ _)
    | split
    | dsimp only)

theorem State.planWrite_frame' {W : Nat} {zz u : State} {s : State} {p : Plan} {key addr : Nat} {v0 : Word} {y_} (he_ : State.planWrite s p key addr v0 = (y_, u)) (hw : Within 131201 W)
    (hs : Frame W zz s) : Frame W zz u := by
  have k : Frame W zz (State.planWrite s p key addr v0).2 := State.planWrite_frame hw hs
  rw [he_] at k
  exact k

theorem State.writeRw_frame {W : Nat} {zz : State} {s : State} {x addr : Nat} {v : Word} (hw : Within 4703909553 W) (hs : Frame W zz s) :
    Frame W zz (State.writeRw s x addr v).2 := by
  unfold State.writeRw
  try dsimp only
  repeat' (first
    | with_reducible exact hs
    | with_reducible assumption
    | with_reducible refine frame_ite ?_ ?_
    | with_reducible refine frame_ite_fst ?_ ?_
    | with_reducible refine frame_ite_snd ?_ ?_
    | with_reducible refine frame_ite_snd2 ?_ ?_
    | with_reducible refine State.wr_frame (within_trans (by decide) hw) ?_
    | with_reducible refine State.err_frame (within_trans (by decide) hw) ?_
    | with_reducible refine State.storeSetting_frame (within_trans (by decide) hw) ?_
    | with_reducible refine State.setReg_frame (within_trans (by decide) hw) ?_
    | with_reducible refine State.setReg_frame' (by assumption) (within_trans (by decide) hw) ?_
    | with_reducible refine State.planWrite_frame (within_trans (by decide) hw) ?_
    | with_reducible refine State.planWrite_frame' (by assumption) (within_trans (by decide) hw) ?_
    | ((conv => arg 3; arg 34); with_reducible apply frame_mk)
    | exact fun b => absurd (hw _ b) (by decide)
    | with_reducible exact fun _ => rfl
    | ((with_reducible show NonVol.identity _ = NonVol.identity _); rfl)
    | split
    | dsimp only)

theorem State.writeRw_frame' {W : Nat} {zz u : State} {s : State} {x addr : Nat} {v : Word} {y_} (he_ : State.writeRw s x addr v = (y_, u)) (hw : Within 4703909553 W)
    (hs : Frame W zz s) : Frame W zz u := by
  have k : Frame W zz (State.writeRw s x addr v).2 := State.writeRw_frame hw hs
  rw [he_] at k
  exact k

theorem State.copyWrite_frame {W : Nat} {zz : State} {s : State} {x addr : Nat} {v : Word} (hw : Within 4563403776 W) (hs : Frame W zz s) :
    Frame W zz (State.copyWrite s x addr v) := by
  unfold State.copyWrite
  try dsimp only
  repeat' (first
    | with_reducible exact hs
    | with_reducible assumption
    | with_reducible refine frame_ite ?_ ?_
    | with_reducible refine State.copyItem_frame (within_trans (by decide) hw) ?_
    | ((conv => arg 3; arg 34); with_reducible apply frame_mk)
    | exact fun b => absurd (hw _ b) (by decide)
    | with_reducible exact fun _ => rfl
    | ((with_reducible show NonVol.identity _ = NonVol.identity _); rfl)
    | split
    | dsimp only)

theorem State.commit_frame {W : Nat} {zz : State} {s : State} {x addr : Nat} {v0 : Word} (hw : Within 8589934591 W) (hs : Frame W zz s) :
    Frame W zz (State.commit s x addr v0) := by
  unfold State.commit
  try dsimp only
  repeat' (first
    | with_reducible exact hs
    | with_reducible assumption
    | with_reducible refine frame_ite ?_ ?_
    | with_reducible refine frame_ite_fst ?_ ?_
    | with_reducible refine frame_ite_snd ?_ ?_
    | with_reducible refine frame_ite_snd2 ?_ ?_
    | with_reducible refine State.wr_frame (within_trans (by decide) hw) ?_
    | with_reducible refine opLatchedRelease_frame (within_trans (by decide) hw) ?_
    | with_reducible refine State.command_frame (within_trans (by decide) hw) ?_
    | with_reducible refine State.pageCtrl_frame (within_trans (by decide) hw) ?_
    | with_reducible refine State.irqEnable_frame (within_trans (by decide) hw) ?_
    | with_reducible refine State.writeRw_frame (within_trans (by decide) hw) ?_
    | with_reducible refine State.writeRw_frame' (by assumption) (within_trans (by decide) hw) ?_
    | with_reducible refine State.copyWrite_frame (within_trans (by decide) hw) ?_
    | ((conv => arg 3; arg 34); with_reducible apply frame_mk)
    | exact fun b => absurd (hw _ b) (by decide)
    | with_reducible exact fun _ => rfl
    | ((with_reducible show NonVol.identity _ = NonVol.identity _); rfl)
    | split
    | dsimp only)

theorem State.ballastHit_frame {W : Nat} {zz : State} {s : State} (hw : Within 131073 W) (hs : Frame W zz s) :
    Frame W zz (State.ballastHit s) := by
  unfold State.ballastHit
  try dsimp only
  repeat' (first
    | with_reducible exact hs
    | with_reducible assumption
    | with_reducible refine frame_ite ?_ ?_
    | with_reducible refine State.raise_frame (within_trans (by decide) hw) ?_
    | with_reducible refine State.err_frame (within_trans (by decide) hw) ?_
    | dsimp only)

theorem State.openBytes_frame {W : Nat} {zz : State} {s : State} {f : Nat → Option Byte} {a : Nat} (hw : Within 16 W) (hs : Frame W zz s) :
    Frame W zz (State.openBytes s f a).2 := by
  unfold State.openBytes
  try dsimp only
  repeat' (first
    | with_reducible exact hs
    | with_reducible assumption
    | with_reducible refine frame_ite ?_ ?_
    | with_reducible refine frame_ite_fst ?_ ?_
    | with_reducible refine frame_ite_snd ?_ ?_
    | with_reducible refine frame_ite_snd2 ?_ ?_
    | with_reducible refine State.fresh_frame (within_trans (by decide) hw) ?_
    | dsimp only)

theorem State.openBytes_frame' {W : Nat} {zz u : State} {s : State} {f : Nat → Option Byte} {a : Nat} {y_} (he_ : State.openBytes s f a = (y_, u)) (hw : Within 16 W)
    (hs : Frame W zz s) : Frame W zz u := by
  have k : Frame W zz (State.openBytes s f a).2 := State.openBytes_frame hw hs
  rw [he_] at k
  exact k

theorem State.gateRead_frame {W : Nat} {zz : State} {s : State} {allowed : Bool} {r : Word × State}
    (hw : Within 1179665 W) (hs : Frame W zz s) (hr : Frame W zz r.2) :
    Frame W zz (s.gateRead allowed r).2.2 := by
  unfold State.gateRead
  exact frame_ite_snd2 hr (State.deny_frame (within_trans (by decide) hw) hs)

theorem State.readWindow_frame {W : Nat} {zz : State} {s : State} {x addr : Nat} {ecc : PssRead} (hw : Within 17956881 W) (hs : Frame W zz s) :
    Frame W zz (State.readWindow s x addr ecc).2.2 := by
  unfold State.readWindow
  try dsimp only
  repeat' (first
    | with_reducible exact hs
    | with_reducible assumption
    | with_reducible refine frame_ite ?_ ?_
    | with_reducible refine frame_ite_fst ?_ ?_
    | with_reducible refine frame_ite_snd ?_ ?_
    | with_reducible refine frame_ite_snd2 ?_ ?_
    | with_reducible refine State.fresh_frame (within_trans (by decide) hw) ?_
    | with_reducible refine State.err_frame (within_trans (by decide) hw) ?_
    | with_reducible refine State.snapWord_frame (within_trans (by decide) hw) ?_
    | with_reducible refine State.snapWord_frame' (by assumption) (within_trans (by decide) hw) ?_
    | with_reducible refine State.deny_frame (within_trans (by decide) hw) ?_
    | with_reducible refine State.ballastHit_frame (within_trans (by decide) hw) ?_
    | with_reducible refine State.openBytes_frame (within_trans (by decide) hw) ?_
    | with_reducible refine State.openBytes_frame' (by assumption) (within_trans (by decide) hw) ?_
    | with_reducible refine State.gateRead_frame (within_trans (by decide) hw) ?_ ?_
    | ((conv => arg 3; arg 34); with_reducible apply frame_mk)
    | exact fun b => absurd (hw _ b) (by decide)
    | with_reducible exact fun _ => rfl
    | ((with_reducible show NonVol.identity _ = NonVol.identity _); rfl)
    | split
    | dsimp only)

theorem State.readWindow_frame' {W : Nat} {zz u : State} {s : State} {x addr : Nat} {ecc : PssRead} {y_} {z_} (he_ : State.readWindow s x addr ecc = (y_, z_, u)) (hw : Within 17956881 W)
    (hs : Frame W zz s) : Frame W zz u := by
  have k : Frame W zz (State.readWindow s x addr ecc).2.2 := State.readWindow_frame hw hs
  rw [he_] at k
  exact k

theorem State.writeScratch_frame {W : Nat} {zz : State} {s : State} {x addr : Nat} {v : Word} (hw : Within 131075 W) (hs : Frame W zz s) :
    Frame W zz (State.writeScratch s x addr v).2 := by
  unfold State.writeScratch
  try dsimp only
  repeat' (first
    | with_reducible exact hs
    | with_reducible assumption
    | with_reducible refine frame_ite ?_ ?_
    | with_reducible refine frame_ite_fst ?_ ?_
    | with_reducible refine frame_ite_snd ?_ ?_
    | with_reducible refine frame_ite_snd2 ?_ ?_
    | with_reducible refine State.err_frame (within_trans (by decide) hw) ?_
    | with_reducible refine State.wrWord_frame (within_trans (by decide) hw) ?_
    | with_reducible refine State.ballastHit_frame (within_trans (by decide) hw) ?_
    | split
    | dsimp only)

theorem State.writeScratch_frame' {W : Nat} {zz u : State} {s : State} {x addr : Nat} {v : Word} {y_} (he_ : State.writeScratch s x addr v = (y_, u)) (hw : Within 131075 W)
    (hs : Frame W zz s) : Frame W zz u := by
  have k : Frame W zz (State.writeScratch s x addr v).2 := State.writeScratch_frame hw hs
  rw [he_] at k
  exact k

theorem State.writeWindow_frame {W : Nat} {zz : State} {s : State} {x addr : Nat} {v : Word} (hw : Within 4563534851 W) (hs : Frame W zz s) :
    Frame W zz (State.writeWindow s x addr v).2 := by
  unfold State.writeWindow
  try dsimp only
  repeat' (first
    | with_reducible exact hs
    | with_reducible assumption
    | with_reducible refine frame_ite ?_ ?_
    | with_reducible refine frame_ite_fst ?_ ?_
    | with_reducible refine frame_ite_snd ?_ ?_
    | with_reducible refine frame_ite_snd2 ?_ ?_
    | with_reducible refine State.err_frame (within_trans (by decide) hw) ?_
    | with_reducible refine State.copyWrite_frame (within_trans (by decide) hw) ?_
    | with_reducible refine State.writeScratch_frame (within_trans (by decide) hw) ?_
    | with_reducible refine State.writeScratch_frame' (by assumption) (within_trans (by decide) hw) ?_
    | ((conv => arg 3; arg 34); with_reducible apply frame_mk)
    | exact fun b => absurd (hw _ b) (by decide)
    | with_reducible exact fun _ => rfl
    | ((with_reducible show NonVol.identity _ = NonVol.identity _); rfl)
    | split
    | dsimp only)

theorem State.writeWindow_frame' {W : Nat} {zz u : State} {s : State} {x addr : Nat} {v : Word} {y_} (he_ : State.writeWindow s x addr v = (y_, u)) (hw : Within 4563534851 W)
    (hs : Frame W zz s) : Frame W zz u := by
  have k : Frame W zz (State.writeWindow s x addr v).2 := State.writeWindow_frame hw hs
  rw [he_] at k
  exact k

theorem State.regRead_frame {W : Nat} {zz : State} {s : State} {x addr : Nat} (hw : Within 1140852753 W)
    (hs : Frame W zz s) : Frame W zz (s.regRead x addr).2 := by
  have latch : ∀ (t : State) (l : List (Nat × Word)), Frame W zz t → Frame W zz { t with latches := l } := by
    intro t l ht
    refine frame_trans ht ?_
    constructor <;> first | exact fun b => absurd (hw _ b) (by decide) | exact fun _ => rfl | rfl | exact id
  have h0 : Frame W zz (if (s.openReg addr).isSome then s.fresh else s) :=
    frame_ite (State.fresh_frame (within_trans (by decide) hw) hs) hs
  unfold State.regRead
  revert h0
  generalize (if (s.openReg addr).isSome then s.fresh else s) = a
  intro h0
  have h1 : ∀ c : Bool, Frame W zz (if c then a.wr (s.accessKey x addr) 0 else a) :=
    fun c => frame_ite (State.wr_frame (within_trans (by decide) hw) h0) h0
  specialize h1 (match rowAt addr with | some r => decide (r.acc = .rc) | none => false)
  revert h1
  dsimp only
  generalize (if (match rowAt addr with | some r => decide (r.acc = .rc) | none => false) = true then
    a.wr (s.accessKey x addr) 0 else a) = b
  intro h1
  have h2 : Frame W zz (if 0x1A0 ≤ addr / 0x1000 ∧ addr = Reg.LPE_OVERRUNS (addr / 0x1000 - 0x1A0) then
      b.setCore (addr / 0x1000 - 0x1A0) { b.core (addr / 0x1000 - 0x1A0) with budSeen := false }
    else if addr = Reg.SPL_DATA then b.setPop x { b.pop x with data := (b.pop x).data.drop 4 } else b) :=
    frame_ite (State.setCore_frame (within_trans (by decide) hw) h1)
      (frame_ite (State.setPop_frame (within_trans (by decide) hw) h1) h1)
  revert h2
  dsimp only
  generalize (if 0x1A0 ≤ addr / 0x1000 ∧ addr = Reg.LPE_OVERRUNS (addr / 0x1000 - 0x1A0) then
      b.setCore (addr / 0x1000 - 0x1A0) { b.core (addr / 0x1000 - 0x1A0) with budSeen := false }
    else if addr = Reg.SPL_DATA then b.setPop x { b.pop x with data := (b.pop x).data.drop 4 } else b) = c
  intro h2
  refine frame_ite_snd (latch _ _ h2) ?_
  split
  · exact latch _ _ h2
  · exact h2

theorem State.readWord_frame {W : Nat} {zz : State} {s : State} {x addr : Nat} {ecc : PssRead} (hw : Within 1158809617 W) (hs : Frame W zz s) :
    Frame W zz (State.readWord s x addr ecc).2.2 := by
  unfold State.readWord
  try dsimp only
  repeat' (first
    | with_reducible exact hs
    | with_reducible assumption
    | with_reducible refine frame_ite ?_ ?_
    | with_reducible refine frame_ite_fst ?_ ?_
    | with_reducible refine frame_ite_snd ?_ ?_
    | with_reducible refine frame_ite_snd2 ?_ ?_
    | with_reducible refine State.deny_frame (within_trans (by decide) hw) ?_
    | with_reducible refine State.readWindow_frame (within_trans (by decide) hw) ?_
    | with_reducible refine State.readWindow_frame' (by assumption) (within_trans (by decide) hw) ?_
    | with_reducible refine State.regRead_frame (within_trans (by decide) hw) ?_
    | with_reducible refine State.regRead_frame' (by assumption) (within_trans (by decide) hw) ?_
    | split
    | dsimp only)

theorem State.readWord_frame' {W : Nat} {zz u : State} {s : State} {x addr : Nat} {ecc : PssRead} {y_} {z_} (he_ : State.readWord s x addr ecc = (y_, z_, u)) (hw : Within 1158809617 W)
    (hs : Frame W zz s) : Frame W zz u := by
  have k : Frame W zz (State.readWord s x addr ecc).2.2 := State.readWord_frame hw hs
  rw [he_] at k
  exact k

theorem State.writeWord_frame {W : Nat} {zz : State} {s : State} {x addr : Nat} {v : Word} (hw : Within 8589934591 W) (hs : Frame W zz s) :
    Frame W zz (State.writeWord s x addr v).2 := by
  unfold State.writeWord
  try dsimp only
  repeat' (first
    | with_reducible exact hs
    | with_reducible assumption
    | with_reducible refine frame_ite ?_ ?_
    | with_reducible refine frame_ite_fst ?_ ?_
    | with_reducible refine frame_ite_snd ?_ ?_
    | with_reducible refine frame_ite_snd2 ?_ ?_
    | with_reducible refine State.writeRefusal_frame (by assumption) (within_trans (by decide) hw) ?_
    | with_reducible refine State.commit_frame (within_trans (by decide) hw) ?_
    | with_reducible refine State.writeWindow_frame (within_trans (by decide) hw) ?_
    | with_reducible refine State.writeWindow_frame' (by assumption) (within_trans (by decide) hw) ?_
    | ((conv => arg 3; arg 34); with_reducible apply frame_mk)
    | exact fun b => absurd (hw _ b) (by decide)
    | with_reducible exact fun _ => rfl
    | ((with_reducible show NonVol.identity _ = NonVol.identity _); rfl)
    | split
    | dsimp only)

theorem State.writeWord_frame' {W : Nat} {zz u : State} {s : State} {x addr : Nat} {v : Word} {y_} (he_ : State.writeWord s x addr v = (y_, u)) (hw : Within 8589934591 W)
    (hs : Frame W zz s) : Frame W zz u := by
  have k : Frame W zz (State.writeWord s x addr v).2 := State.writeWord_frame hw hs
  rw [he_] at k
  exact k

theorem State.accessWrite_frame {W : Nat} {zz : State} {s : State} {who : Accessor} {addr : Nat} {v : Word} (hw : Within 8589934591 W) (hs : Frame W zz s) :
    Frame W zz (State.accessWrite s who addr v) := by
  unfold State.accessWrite
  try dsimp only
  repeat' (first
    | with_reducible exact hs
    | with_reducible assumption
    | with_reducible refine frame_ite ?_ ?_
    | with_reducible refine frame_ite_fst ?_ ?_
    | with_reducible refine frame_ite_snd ?_ ?_
    | with_reducible refine frame_ite_snd2 ?_ ?_
    | with_reducible refine State.writeWord_frame (within_trans (by decide) hw) ?_
    | with_reducible refine State.writeWord_frame' (by assumption) (within_trans (by decide) hw) ?_
    | ((conv => arg 3; arg 34); with_reducible apply frame_mk)
    | exact fun b => absurd (hw _ b) (by decide)
    | with_reducible exact fun _ => rfl
    | ((with_reducible show NonVol.identity _ = NonVol.identity _); rfl)
    | split
    | dsimp only)

theorem State.accessRead_frame {W : Nat} {zz : State} {s : State} {who : Accessor} {addr : Nat} {ecc : PssRead} (hw : Within 3306293265 W) (hs : Frame W zz s) :
    Frame W zz (State.accessRead s who addr ecc) := by
  unfold State.accessRead
  try dsimp only
  repeat' (first
    | with_reducible exact hs
    | with_reducible assumption
    | with_reducible refine frame_ite ?_ ?_
    | with_reducible refine frame_ite_fst ?_ ?_
    | with_reducible refine frame_ite_snd ?_ ?_
    | with_reducible refine frame_ite_snd2 ?_ ?_
    | with_reducible refine State.readWord_frame (within_trans (by decide) hw) ?_
    | with_reducible refine State.readWord_frame' (by assumption) (within_trans (by decide) hw) ?_
    | ((conv => arg 3; arg 34); with_reducible apply frame_mk)
    | exact fun b => absurd (hw _ b) (by decide)
    | with_reducible exact fun _ => rfl
    | ((with_reducible show NonVol.identity _ = NonVol.identity _); rfl)
    | split
    | dsimp only)

theorem opReadClear_frame {W : Nat} {zz : State} {who : Accessor} {addr : Nat} {ev : Word} {s : State} (hw : Within 3306293265 W) (hs : Frame W zz s) :
    Frame W zz (opReadClear who addr ev s) := by
  unfold opReadClear
  try dsimp only
  repeat' (first
    | with_reducible exact hs
    | with_reducible assumption
    | with_reducible refine frame_ite ?_ ?_
    | with_reducible refine State.countN_frame (within_trans (by decide) hw) ?_
    | with_reducible refine State.keepMax_frame (within_trans (by decide) hw) ?_
    | with_reducible refine State.accessRead_frame (within_trans (by decide) hw) ?_
    | ((conv => arg 3; arg 34); with_reducible apply frame_mk)
    | exact fun b => absurd (hw _ b) (by decide)
    | with_reducible exact fun _ => rfl
    | ((with_reducible show NonVol.identity _ = NonVol.identity _); rfl)
    | split
    | dsimp only)

theorem opIrqClr_frame {W : Nat} {zz : State} {who : Accessor} {page : Nat} {v ev : Word} {s : State} (hw : Within 8589934591 W) (hs : Frame W zz s) :
    Frame W zz (opIrqClr who page v ev s) := by
  unfold opIrqClr
  try dsimp only
  repeat' (first
    | with_reducible exact hs
    | with_reducible assumption
    | with_reducible refine frame_ite ?_ ?_
    | with_reducible refine State.wr_frame (within_trans (by decide) hw) ?_
    | with_reducible refine State.raise_frame (within_trans (by decide) hw) ?_
    | with_reducible refine State.accessWrite_frame (within_trans (by decide) hw) ?_
    | (with_reducible refine frame_iter ?_ ?_) | (with_reducible refine frame_iter_fst ?_ ?_) | (intro _ _ _)
    | split
    | dsimp only)

theorem State.readWords_frame {W : Nat} {zz : State} {s : State} {x addr : Nat} {ecc : List PssRead} {n i : Nat} {ws : List Word}
    (hw : Within 1158809617 W) (hs : Frame W zz s) : Frame W zz (s.readWords x addr ecc n i ws).2.2.2 := by
  induction n generalizing s i ws with
  | zero => exact hs
  | succ n ih =>
    unfold State.readWords
    dsimp only
    split
    · exact ih (State.readWord_frame (within_trans (by decide) hw) hs)
    · exact State.readWord_frame (within_trans (by decide) hw) hs

theorem State.writeWords_frame {W : Nat} {zz : State} {s : State} {x addr : Nat} {met : List Met} {l : List Word} {i : Nat}
    (hw : Within 8589934591 W) (hs : Frame W zz s) : Frame W zz (s.writeWords x addr met l i).2.2 := by
  induction l generalizing s i with
  | nil => exact hs
  | cons v ws ih =>
    have one : Frame W zz (if (s.writeWord x (addr + 4 * i) v).1 = stOk then
        (s.writeWord x (addr + 4 * i) v).2.writeWords x addr met ws (i + 1)
      else ((s.writeWord x (addr + 4 * i) v).1, i, (s.writeWord x (addr + 4 * i) v).2)).2.2 := by
      split
      · exact ih (State.writeWord_frame (within_trans (by decide) hw) hs)
      · exact State.writeWord_frame (within_trans (by decide) hw) hs
    unfold State.writeWords
    split
    · exact frame_ite_snd2 (State.count_frame (within_trans (by decide) hw) hs) (frame_ite_snd2 (ih hs) one)
    · exact one

theorem opRegRead_frame {W : Nat} {zz : State} {m : SlzMsg} {ecc : List PssRead} {s : State} (hw : Within 5722212369 W) (hs : Frame W zz s) :
    Frame W zz (opRegRead m ecc s) := by
  unfold opRegRead
  try dsimp only
  repeat' (first
    | with_reducible exact hs
    | with_reducible assumption
    | with_reducible refine frame_ite ?_ ?_
    | with_reducible refine State.slzReceive_frame (within_trans (by decide) hw) ?_ ?_
    | with_reducible refine State.readWords_frame (within_trans (by decide) hw) ?_
    | intro _ _ _
    | intro _ _
    | split
    | dsimp only)

theorem opRegWrite_frame {W : Nat} {zz : State} {m : SlzMsg} {met : List Met} {s : State} (hw : Within 8589934591 W) (hs : Frame W zz s) :
    Frame W zz (opRegWrite m met s) := by
  unfold opRegWrite
  try dsimp only
  repeat' (first
    | with_reducible exact hs
    | with_reducible assumption
    | with_reducible refine frame_ite ?_ ?_
    | with_reducible refine State.slzReceive_frame (within_trans (by decide) hw) ?_ ?_
    | with_reducible refine State.writeWords_frame (within_trans (by decide) hw) ?_
    | intro _ _ _
    | intro _ _
    | split
    | dsimp only)

theorem State.mspiEnd_frame {W : Nat} {zz : State} {s : State} {first : List Byte} {rest : List Byte} {st : Nat} (hw : Within 4294967360 W) (hs : Frame W zz s) :
    Frame W zz (State.mspiEnd s first rest st) := by
  unfold State.mspiEnd
  try dsimp only
  repeat' (first
    | with_reducible exact hs
    | with_reducible assumption
    | with_reducible refine frame_ite ?_ ?_
    | with_reducible refine State.emitOut_frame (within_trans (by decide) hw) ?_
    | ((conv => arg 3; arg 34); with_reducible apply frame_mk)
    | exact fun b => absurd (hw _ b) (by decide)
    | with_reducible exact fun _ => rfl
    | ((with_reducible show NonVol.identity _ = NonVol.identity _); rfl)
    | dsimp only)

theorem opMspiRead_frame {W : Nat} {zz : State} {addr count got : Nat} {s : State} (hw : Within 7601260625 W) (hs : Frame W zz s) :
    Frame W zz (opMspiRead addr count got s) := by
  unfold opMspiRead
  try dsimp only
  repeat' (first
    | with_reducible exact hs
    | with_reducible assumption
    | with_reducible refine frame_ite ?_ ?_
    | with_reducible refine State.readWords_frame (within_trans (by decide) hw) ?_
    | with_reducible refine State.mspiEnd_frame (within_trans (by decide) hw) ?_
    | ((conv => arg 3; arg 34); with_reducible apply frame_mk)
    | exact fun b => absurd (hw _ b) (by decide)
    | with_reducible exact fun _ => rfl
    | ((with_reducible show NonVol.identity _ = NonVol.identity _); rfl)
    | split
    | dsimp only)

theorem opMspiWrite_frame {W : Nat} {zz : State} {addr count : Nat} {data : List Byte} {met : List Met} {s : State} (hw : Within 8589934591 W) (hs : Frame W zz s) :
    Frame W zz (opMspiWrite addr count data met s) := by
  unfold opMspiWrite
  try dsimp only
  repeat' (first
    | with_reducible exact hs
    | with_reducible assumption
    | with_reducible refine frame_ite ?_ ?_
    | with_reducible refine State.writeWords_frame (within_trans (by decide) hw) ?_
    | with_reducible refine State.mspiEnd_frame (within_trans (by decide) hw) ?_
    | ((conv => arg 3; arg 34); with_reducible apply frame_mk)
    | exact fun b => absurd (hw _ b) (by decide)
    | with_reducible exact fun _ => rfl
    | ((with_reducible show NonVol.identity _ = NonVol.identity _); rfl)
    | split
    | dsimp only)

theorem opMspiTimeout_frame {W : Nat} {zz : State} {s : State} (hw : Within 131089 W) (hs : Frame W zz s) :
    Frame W zz (opMspiTimeout s) := by
  unfold opMspiTimeout
  try dsimp only
  repeat' (first
    | with_reducible exact hs
    | with_reducible assumption
    | with_reducible refine frame_ite ?_ ?_
    | with_reducible refine State.fresh_frame (within_trans (by decide) hw) ?_
    | with_reducible refine State.err_frame (within_trans (by decide) hw) ?_
    | split
    | dsimp only)

end Sys2Proof.Machine
end

