-- ==== Sys2Proof/Laws/FramePair.lean ====
section
/-!
SUPPORT. The frame of each operation of Machine/Pair.lean.
-/

set_option maxRecDepth 4000

namespace Sys2Proof.Machine

set_option linter.all false
set_option Elab.async false

theorem State.tetherIn_frame {W : Nat} {zz : State} {s : State} {i : Nat} {crcOk : Bool} {f : State → State} (hw : Within 269484561 W) (hs : Frame W zz s) (hf_ : ∀ x0_, Frame W zz x0_ → Frame W zz (f x0_)) :
    Frame W zz (State.tetherIn s i crcOk f) := by
  unfold State.tetherIn
  try dsimp only
  repeat' (first
    | with_reducible exact hs
    | with_reducible assumption
    | with_reducible refine frame_ite ?_ ?_
    | with_reducible apply hf_
    | with_reducible refine State.count_frame (within_trans (by decide) hw) ?_
    | with_reducible refine State.setTlane_frame (within_trans (by decide) hw) ?_
    | ((conv => arg 3; arg 34); with_reducible apply frame_mk)
    | exact fun b => absurd (hw _ b) (by decide)
    | with_reducible exact fun _ => rfl
    | ((with_reducible show NonVol.identity _ = NonVol.identity _); rfl)
    | split
    | dsimp only)

theorem State.tetherUp_frame {W : Nat} {zz : State} {s : State} {i : Nat} {crcOk : Bool} {f : State → State} (hw : Within 269484561 W) (hs : Frame W zz s) (hf_ : ∀ x0_, Frame W zz x0_ → Frame W zz (f x0_)) :
    Frame W zz (State.tetherUp s i crcOk f) := by
  unfold State.tetherUp
  try dsimp only
  repeat' (first
    | with_reducible exact hs
    | with_reducible assumption
    | with_reducible refine frame_ite ?_ ?_
    | with_reducible apply hf_
    | with_reducible refine State.tetherIn_frame (within_trans (by decide) hw) ?_ ?_
    | intro _ _ _
    | intro _ _
    | split
    | dsimp only)

theorem opTetherBlockLock_frame {W : Nat} {zz : State} {i : Nat} {s : State} (hw : Within 268435968 W) (hs : Frame W zz s) :
    Frame W zz (opTetherBlockLock i s) := by
  unfold opTetherBlockLock
  try dsimp only
  repeat' (first
    | with_reducible exact hs
    | with_reducible assumption
    | with_reducible refine frame_ite ?_ ?_
    | with_reducible refine State.setTlane_frame (within_trans (by decide) hw) ?_
    | ((conv => arg 3; arg 34); with_reducible apply frame_mk)
    | exact fun b => absurd (hw _ b) (by decide)
    | with_reducible exact fun _ => rfl
    | ((with_reducible show NonVol.identity _ = NonVol.identity _); rfl)
    | split
    | dsimp only)

theorem State.holdHandover_frame {W : Nat} {zz : State} {s : State} (hw : Within 268435457 W) (hs : Frame W zz s) :
    Frame W zz (State.holdHandover s) := by
  unfold State.holdHandover
  try dsimp only
  repeat' (first
    | with_reducible exact hs
    | with_reducible assumption
    | with_reducible refine frame_ite ?_ ?_
    | with_reducible refine State.startHandover_frame (within_trans (by decide) hw) ?_
    | split
    | dsimp only)

theorem opHbSend_frame {W : Nat} {zz : State} {s : State} (hw : Within 4563403777 W) (hs : Frame W zz s) :
    Frame W zz (opHbSend s) := by
  unfold opHbSend
  try dsimp only
  repeat' (first
    | with_reducible exact hs
    | with_reducible assumption
    | with_reducible refine frame_ite ?_ ?_
    | with_reducible refine State.emitOut_frame (within_trans (by decide) hw) ?_
    | with_reducible refine State.sendTether_frame (within_trans (by decide) hw) ?_
    | with_reducible refine State.holdHandover_frame (within_trans (by decide) hw) ?_
    | (with_reducible refine frame_iter ?_ ?_) | (with_reducible refine frame_iter_fst ?_ ?_) | (intro _ _ _)
    | split
    | dsimp only)

theorem State.noStandby_frame {W : Nat} {zz : State} {s : State} (hw : Within 4564582417 W) (hs : Frame W zz s) :
    Frame W zz (State.noStandby s) := by
  unfold State.noStandby
  try dsimp only
  repeat' (first
    | with_reducible exact hs
    | with_reducible assumption
    | with_reducible refine frame_ite ?_ ?_
    | with_reducible refine State.setSync_frame (within_trans (by decide) hw) ?_
    | with_reducible refine State.sendHeld_frame (within_trans (by decide) hw) ?_
    | ((conv => arg 3; arg 34); with_reducible apply frame_mk)
    | exact fun b => absurd (hw _ b) (by decide)
    | with_reducible exact fun _ => rfl
    | ((with_reducible show NonVol.identity _ = NonVol.identity _); rfl)
    | dsimp only)

theorem State.sendJoin_frame {W : Nat} {zz : State} {s : State} (hw : Within 4697752577 W) (hs : Frame W zz s) :
    Frame W zz (State.sendJoin s) := by
  unfold State.sendJoin
  try dsimp only
  repeat' (first
    | with_reducible exact hs
    | with_reducible assumption
    | with_reducible refine frame_ite ?_ ?_
    | with_reducible refine State.wr_frame (within_trans (by decide) hw) ?_
    | with_reducible refine State.sendLane_frame (within_trans (by decide) hw) ?_
    | with_reducible refine State.tellNode_frame (within_trans (by decide) hw) ?_
    | with_reducible refine State.assigned_frame (within_trans (by decide) hw) ?_
    | with_reducible refine State.sendSlots_frame (within_trans (by decide) hw) ?_
    | (with_reducible refine frame_iter ?_ ?_) | (with_reducible refine frame_iter_fst ?_ ?_) | (intro _ _ _)
    | (with_reducible refine frame_foldl ?_ ?_) | (with_reducible refine frame_foldl_fst ?_ ?_) | (with_reducible refine frame_foldl_snd ?_ ?_) | (intro _ _ _)
    | ((conv => arg 3; arg 34); with_reducible apply frame_mk)
    | exact fun b => absurd (hw _ b) (by decide)
    | with_reducible exact fun _ => rfl
    | ((with_reducible show NonVol.identity _ = NonVol.identity _); rfl)
    | split
    | dsimp only)

theorem State.hbToActive_frame {W : Nat} {zz : State} {s : State} {hb : HbMsg} (hw : Within 4698801169 W) (hs : Frame W zz s) :
    Frame W zz (State.hbToActive s hb) := by
  unfold State.hbToActive
  try dsimp only
  repeat' (first
    | with_reducible exact hs
    | with_reducible assumption
    | with_reducible refine frame_ite ?_ ?_
    | with_reducible refine State.setSync_frame (within_trans (by decide) hw) ?_
    | with_reducible refine State.sendHeld_frame (within_trans (by decide) hw) ?_
    | with_reducible refine State.startHandover_frame (within_trans (by decide) hw) ?_
    | with_reducible refine State.noStandby_frame (within_trans (by decide) hw) ?_
    | with_reducible refine State.sendJoin_frame (within_trans (by decide) hw) ?_
    | ((conv => arg 3; arg 34); with_reducible apply frame_mk)
    | exact fun b => absurd (hw _ b) (by decide)
    | with_reducible exact fun _ => rfl
    | ((with_reducible show NonVol.identity _ = NonVol.identity _); rfl)
    | split
    | dsimp only)

theorem State.slipCheck_frame {W : Nat} {zz : State} {s : State} {hb : HbMsg} (hw : Within 8589934591 W) (hs : Frame W zz s) :
    Frame W zz (State.slipCheck s hb) := by
  unfold State.slipCheck
  try dsimp only
  repeat' (first
    | with_reducible exact hs
    | with_reducible assumption
    | with_reducible refine frame_ite ?_ ?_
    | with_reducible refine State.logFault_frame (within_trans (by decide) hw) ?_
    | with_reducible refine State.sendBoth_frame (within_trans (by decide) hw) ?_
    | with_reducible refine State.fullReset_frame (within_trans (by decide) hw) ?_
    | with_reducible refine State.healthBit_frame (within_trans (by decide) hw) ?_
    | ((conv => arg 3; arg 34); with_reducible apply frame_mk)
    | exact fun b => absurd (hw _ b) (by decide)
    | with_reducible exact fun _ => rfl
    | ((with_reducible show NonVol.identity _ = NonVol.identity _); rfl)
    | split
    | dsimp only)

theorem State.takeLtc_frame {W : Nat} {zz : State} {s : State} {hb : HbMsg} (hw : Within 268451844 W) (hs : Frame W zz s) :
    Frame W zz (State.takeLtc s hb) := by
  unfold State.takeLtc
  try dsimp only
  repeat' (first
    | with_reducible exact hs
    | with_reducible assumption
    | with_reducible refine frame_ite ?_ ?_
    | ((conv => arg 3; arg 34); with_reducible apply frame_mk)
    | exact fun b => absurd (hw _ b) (by decide)
    | with_reducible exact fun _ => rfl
    | ((with_reducible show NonVol.identity _ = NonVol.identity _); rfl)
    | dsimp only)

theorem State.hbToStandby_frame {W : Nat} {zz : State} {s : State} {hb : HbMsg} (hw : Within 8589934591 W) (hs : Frame W zz s) :
    Frame W zz (State.hbToStandby s hb) := by
  unfold State.hbToStandby
  try dsimp only
  repeat' (first
    | with_reducible exact hs
    | with_reducible assumption
    | with_reducible refine frame_ite ?_ ?_
    | with_reducible refine State.wf_frame (within_trans (by decide) hw) ?_
    | with_reducible refine State.slipCheck_frame (within_trans (by decide) hw) ?_
    | with_reducible refine State.takeLtc_frame (within_trans (by decide) hw) ?_
    | ((conv => arg 3; arg 34); with_reducible apply frame_mk)
    | exact fun b => absurd (hw _ b) (by decide)
    | with_reducible exact fun _ => rfl
    | ((with_reducible show NonVol.identity _ = NonVol.identity _); rfl)
    | split
    | dsimp only)

theorem State.hbKnown_frame {W : Nat} {zz : State} {s : State} {hb : HbMsg} (hw : Within 8589934591 W) (hs : Frame W zz s) :
    Frame W zz (State.hbKnown s hb) := by
  unfold State.hbKnown
  try dsimp only
  repeat' (first
    | with_reducible exact hs
    | with_reducible assumption
    | with_reducible refine frame_ite ?_ ?_
    | with_reducible refine State.wf_frame (within_trans (by decide) hw) ?_
    | with_reducible refine State.holdLn2_frame (within_trans (by decide) hw) ?_
    | with_reducible refine State.hbToActive_frame (within_trans (by decide) hw) ?_
    | with_reducible refine State.hbToStandby_frame (within_trans (by decide) hw) ?_
    | ((conv => arg 3; arg 34); with_reducible apply frame_mk)
    | exact fun b => absurd (hw _ b) (by decide)
    | with_reducible exact fun _ => rfl
    | ((with_reducible show NonVol.identity _ = NonVol.identity _); rfl)
    | split
    | dsimp only)

theorem State.hbTaken_frame {W : Nat} {zz : State} {s : State} {i : Nat} {hb : HbMsg} (hw : Within 8589934591 W) (hs : Frame W zz s) :
    Frame W zz (State.hbTaken s i hb) := by
  unfold State.hbTaken
  try dsimp only
  repeat' (first
    | with_reducible exact hs
    | with_reducible assumption
    | with_reducible refine frame_ite ?_ ?_
    | with_reducible refine State.setTlane_frame (within_trans (by decide) hw) ?_
    | with_reducible refine State.settleRole_frame (within_trans (by decide) hw) ?_
    | with_reducible refine State.trainHb_frame (within_trans (by decide) hw) ?_
    | with_reducible refine State.sendSlots_frame (within_trans (by decide) hw) ?_
    | with_reducible refine State.hbKnown_frame (within_trans (by decide) hw) ?_
    | ((conv => arg 3; arg 34); with_reducible apply frame_mk)
    | exact fun b => absurd (hw _ b) (by decide)
    | with_reducible exact fun _ => rfl
    | ((with_reducible show NonVol.identity _ = NonVol.identity _); rfl)
    | split
    | dsimp only)

theorem opHb_frame {W : Nat} {zz : State} {i : Nat} {crcOk : Bool} {hb : HbMsg} {s : State} (hw : Within 8589934591 W) (hs : Frame W zz s) :
    Frame W zz (opHb i crcOk hb s) := by
  unfold opHb
  try dsimp only
  repeat' (first
    | with_reducible exact hs
    | with_reducible assumption
    | with_reducible refine frame_ite ?_ ?_
    | with_reducible refine State.tetherIn_frame (within_trans (by decide) hw) ?_ ?_
    | with_reducible refine State.hbTaken_frame (within_trans (by decide) hw) ?_
    | intro _ _ _
    | intro _ _
    | dsimp only)

theorem opPairHbBeat_frame {W : Nat} {zz : State} {s : State} (hw : Within 4564582417 W) (hs : Frame W zz s) :
    Frame W zz (opPairHbBeat s) := by
  unfold opPairHbBeat
  try dsimp only
  repeat' (first
    | with_reducible exact hs
    | with_reducible assumption
    | with_reducible refine frame_ite ?_ ?_
    | with_reducible refine State.tetherDown_frame (within_trans (by decide) hw) ?_
    | ((conv => arg 3; arg 34); with_reducible apply frame_mk)
    | exact fun b => absurd (hw _ b) (by decide)
    | with_reducible exact fun _ => rfl
    | ((with_reducible show NonVol.identity _ = NonVol.identity _); rfl)
    | split
    | dsimp only)

theorem State.laneMiss_frame {W : Nat} {zz : State} {s : State} {i : Nat} (hw : Within 269615633 W) (hs : Frame W zz s) :
    Frame W zz (State.laneMiss s i) := by
  unfold State.laneMiss
  try dsimp only
  repeat' (first
    | with_reducible exact hs
    | with_reducible assumption
    | with_reducible refine frame_ite ?_ ?_
    | with_reducible refine State.setTlane_frame (within_trans (by decide) hw) ?_
    | with_reducible refine State.laneLost_frame (within_trans (by decide) hw) ?_
    | ((conv => arg 3; arg 34); with_reducible apply frame_mk)
    | exact fun b => absurd (hw _ b) (by decide)
    | with_reducible exact fun _ => rfl
    | ((with_reducible show NonVol.identity _ = NonVol.identity _); rfl)
    | split
    | dsimp only)

theorem State.missed_frame {W : Nat} {zz : State} {s : State} {l0 l1 beat : Bool} (hw : Within 269615633 W) (hs : Frame W zz s) :
    Frame W zz (State.missed s l0 l1 beat) := by
  unfold State.missed
  try dsimp only
  repeat' (first
    | with_reducible exact hs
    | with_reducible assumption
    | with_reducible refine frame_ite ?_ ?_
    | with_reducible refine State.count_frame (within_trans (by decide) hw) ?_
    | with_reducible refine State.laneMiss_frame (within_trans (by decide) hw) ?_
    | ((conv => arg 3; arg 34); with_reducible apply frame_mk)
    | exact fun b => absurd (hw _ b) (by decide)
    | with_reducible exact fun _ => rfl
    | ((with_reducible show NonVol.identity _ = NonVol.identity _); rfl)
    | split
    | dsimp only)

theorem State.compareField_frame {W : Nat} {zz : State} {s : State} {n : Nat} {w : Word} (hw : Within 272760833 W) (hs : Frame W zz s) :
    Frame W zz (State.compareField s n w) := by
  unfold State.compareField
  try dsimp only
  repeat' (first
    | with_reducible exact hs
    | with_reducible assumption
    | with_reducible refine frame_ite ?_ ?_
    | with_reducible refine State.wr_frame (within_trans (by decide) hw) ?_
    | with_reducible refine State.setFch_frame (within_trans (by decide) hw) ?_
    | with_reducible refine State.healthBit_frame (within_trans (by decide) hw) ?_
    | ((conv => arg 3; arg 34); with_reducible apply frame_mk)
    | exact fun b => absurd (hw _ b) (by decide)
    | with_reducible exact fun _ => rfl
    | ((with_reducible show NonVol.identity _ = NonVol.identity _); rfl)
    | split
    | dsimp only)

theorem State.forwarded_frame {W : Nat} {zz : State} {s : State} {k : Nat} {hold : Time} {e : Nat × Word} (hw : Within 4671624721 W) (hs : Frame W zz s) :
    Frame W zz (State.forwarded s k hold e) := by
  unfold State.forwarded
  try dsimp only
  repeat' (first
    | with_reducible exact hs
    | with_reducible assumption
    | with_reducible refine frame_ite ?_ ?_
    | with_reducible refine State.setFch_frame (within_trans (by decide) hw) ?_
    | with_reducible refine State.passResult_frame (within_trans (by decide) hw) ?_
    | with_reducible refine State.compareField_frame (within_trans (by decide) hw) ?_
    | ((conv => arg 3; arg 34); with_reducible apply frame_mk)
    | exact fun b => absurd (hw _ b) (by decide)
    | with_reducible exact fun _ => rfl
    | ((with_reducible show NonVol.identity _ = NonVol.identity _); rfl)
    | split
    | dsimp only)

theorem State.feedTick_frame {W : Nat} {zz : State} {s : State} {k : Nat} {hold : Time} {die : Word} {results : List (Nat × Word)} (hw : Within 4822652561 W) (hs : Frame W zz s) :
    Frame W zz (State.feedTick s k hold die results) := by
  unfold State.feedTick
  try dsimp only
  repeat' (first
    | with_reducible exact hs
    | with_reducible assumption
    | with_reducible refine frame_ite ?_ ?_
    | with_reducible refine State.latchField_frame (within_trans (by decide) hw) ?_
    | with_reducible refine State.resyncField_frame (within_trans (by decide) hw) ?_
    | with_reducible refine State.tapField_frame (within_trans (by decide) hw) ?_
    | with_reducible refine State.notchBoundary_frame (within_trans (by decide) hw) ?_
    | with_reducible refine State.healthBit_frame (within_trans (by decide) hw) ?_
    | with_reducible refine State.liveBoundaryApply_frame (within_trans (by decide) hw) ?_
    | with_reducible refine State.forwarded_frame (within_trans (by decide) hw) ?_
    | (with_reducible refine frame_foldl ?_ ?_) | (with_reducible refine frame_foldl_fst ?_ ?_) | (with_reducible refine frame_foldl_snd ?_ ?_) | (intro _ _ _)
    | ((conv => arg 3; arg 34); with_reducible apply frame_mk)
    | exact fun b => absurd (hw _ b) (by decide)
    | with_reducible exact fun _ => rfl
    | ((with_reducible show NonVol.identity _ = NonVol.identity _); rfl)
    | split
    | dsimp only)

theorem State.loseTicks_frame {W : Nat} {zz : State} {s : State} (hw : Within 4822652561 W) (hs : Frame W zz s) :
    Frame W zz (State.loseTicks s) := by
  unfold State.loseTicks
  try dsimp only
  repeat' (first
    | with_reducible exact hs
    | with_reducible assumption
    | with_reducible refine frame_ite ?_ ?_
    | with_reducible refine State.feedTick_frame (within_trans (by decide) hw) ?_
    | (with_reducible refine frame_iter ?_ ?_) | (with_reducible refine frame_iter_fst ?_ ?_) | (intro _ _ _)
    | ((conv => arg 3; arg 34); with_reducible apply frame_mk)
    | exact fun b => absurd (hw _ b) (by decide)
    | with_reducible exact fun _ => rfl
    | ((with_reducible show NonVol.identity _ = NonVol.identity _); rfl)
    | split
    | dsimp only)

theorem State.takeover_frame {W : Nat} {zz : State} {s0 : State} (hw : Within 4831041173 W) (hs : Frame W zz s0) :
    Frame W zz (State.takeover s0) := by
  unfold State.takeover
  try dsimp only
  repeat' (first
    | with_reducible exact hs
    | with_reducible assumption
    | with_reducible refine frame_ite ?_ ?_
    | with_reducible refine State.wf_frame (within_trans (by decide) hw) ?_
    | with_reducible refine State.err_frame (within_trans (by decide) hw) ?_
    | with_reducible refine State.capHeld_frame (within_trans (by decide) hw) ?_
    | with_reducible refine State.cutSegment_frame (within_trans (by decide) hw) ?_
    | with_reducible refine State.tapUnits_frame (within_trans (by decide) hw) ?_ ?_
    | with_reducible refine State.ramanEnd_frame (within_trans (by decide) hw) ?_
    | with_reducible refine State.setSync_frame (within_trans (by decide) hw) ?_
    | with_reducible refine State.loseRuns_frame (within_trans (by decide) hw) ?_
    | with_reducible refine State.completeFed_frame (within_trans (by decide) hw) ?_
    | with_reducible refine State.resumeLanes_frame (within_trans (by decide) hw) ?_
    | with_reducible refine State.ownTriggers_frame (within_trans (by decide) hw) ?_
    | with_reducible refine State.takeRole_frame (within_trans (by decide) hw) ?_
    | with_reducible refine State.loseTicks_frame (within_trans (by decide) hw) ?_
    | intro _ _ _
    | intro _ _
    | ((conv => arg 3; arg 34); with_reducible apply frame_mk)
    | exact fun b => absurd (hw _ b) (by decide)
    | with_reducible exact fun _ => rfl
    | ((with_reducible show NonVol.identity _ = NonVol.identity _); rfl)
    | split
    | dsimp only)

theorem opHeartbeatMiss_frame {W : Nat} {zz : State} {l0 l1 beat : Bool} {s : State} (hw : Within 4831041173 W) (hs : Frame W zz s) :
    Frame W zz (opHeartbeatMiss l0 l1 beat s) := by
  unfold opHeartbeatMiss
  try dsimp only
  repeat' (first
    | with_reducible exact hs
    | with_reducible assumption
    | with_reducible refine frame_ite ?_ ?_
    | with_reducible refine State.err_frame (within_trans (by decide) hw) ?_
    | with_reducible refine State.tetherDown_frame (within_trans (by decide) hw) ?_
    | with_reducible refine State.noStandby_frame (within_trans (by decide) hw) ?_
    | with_reducible refine State.missed_frame (within_trans (by decide) hw) ?_
    | with_reducible refine State.takeover_frame (within_trans (by decide) hw) ?_
    | split
    | dsimp only)

theorem opTrainingTimeout_frame {W : Nat} {zz : State} {s : State} (hw : Within 4702995473 W) (hs : Frame W zz s) :
    Frame W zz (opTrainingTimeout s) := by
  unfold opTrainingTimeout
  try dsimp only
  repeat' (first
    | with_reducible exact hs
    | with_reducible assumption
    | with_reducible refine frame_ite ?_ ?_
    | with_reducible refine State.count_frame (within_trans (by decide) hw) ?_
    | with_reducible refine State.setTth_frame (within_trans (by decide) hw) ?_
    | with_reducible refine State.trainFail_frame (within_trans (by decide) hw) ?_
    | split
    | dsimp only)

theorem opTrainingRetry_frame {W : Nat} {zz : State} {s : State} (hw : Within 268435969 W) (hs : Frame W zz s) :
    Frame W zz (opTrainingRetry s) := by
  unfold opTrainingRetry
  try dsimp only
  repeat' (first
    | with_reducible exact hs
    | with_reducible assumption
    | with_reducible refine frame_ite ?_ ?_
    | with_reducible refine State.setTth_frame (within_trans (by decide) hw) ?_
    | with_reducible refine State.setTlane_frame (within_trans (by decide) hw) ?_
    | (with_reducible refine frame_iter ?_ ?_) | (with_reducible refine frame_iter_fst ?_ ?_) | (intro _ _ _)
    | ((conv => arg 3; arg 34); with_reducible apply frame_mk)
    | exact fun b => absurd (hw _ b) (by decide)
    | with_reducible exact fun _ => rfl
    | ((with_reducible show NonVol.identity _ = NonVol.identity _); rfl)
    | split
    | dsimp only)

theorem State.feedFibre_frame {W : Nat} {zz : State} {s : State} {f : FeedF} (hw : Within 332529685 W) (hs : Frame W zz s) :
    Frame W zz (State.feedFibre s f) := by
  unfold State.feedFibre
  try dsimp only
  repeat' (first
    | with_reducible exact hs
    | with_reducible assumption
    | with_reducible refine frame_ite ?_ ?_
    | with_reducible refine frame_ite_fst ?_ ?_
    | with_reducible refine frame_ite_snd ?_ ?_
    | with_reducible refine frame_ite_snd2 ?_ ?_
    | with_reducible refine State.advance_frame (within_trans (by decide) hw) ?_
    | with_reducible refine State.darkenRaman_frame (within_trans (by decide) hw) ?_
    | with_reducible refine State.ramanSample_frame (within_trans (by decide) hw) ?_
    | with_reducible refine State.launchSlot_frame (within_trans (by decide) hw) ?_
    | (with_reducible refine frame_foldl ?_ ?_) | (with_reducible refine frame_foldl_fst ?_ ?_) | (with_reducible refine frame_foldl_snd ?_ ?_) | (intro _ _ _)
    | ((conv => arg 3; arg 34); with_reducible apply frame_mk)
    | exact fun b => absurd (hw _ b) (by decide)
    | with_reducible exact fun _ => rfl
    | ((with_reducible show NonVol.identity _ = NonVol.identity _); rfl)
    | split
    | dsimp only)

theorem opFeedF_frame {W : Nat} {zz : State} {i : Nat} {crcOk : Bool} {f : FeedF} {s : State} (hw : Within 332530197 W) (hs : Frame W zz s) :
    Frame W zz (opFeedF i crcOk f s) := by
  unfold opFeedF
  try dsimp only
  repeat' (first
    | with_reducible exact hs
    | with_reducible assumption
    | with_reducible refine frame_ite ?_ ?_
    | with_reducible refine State.tetherUp_frame (within_trans (by decide) hw) ?_ ?_
    | with_reducible refine State.feedFibre_frame (within_trans (by decide) hw) ?_
    | intro _ _ _
    | intro _ _
    | dsimp only)

theorem State.feedNode_frame {W : Nat} {zz : State} {s : State} {n j : Nat} {ws : List Word} (hw : Within 4801648145 W) (hs : Frame W zz s) :
    Frame W zz (State.feedNode s n j ws) := by
  unfold State.feedNode
  try dsimp only
  repeat' (first
    | with_reducible exact hs
    | with_reducible assumption
    | with_reducible refine frame_ite ?_ ?_
    | with_reducible refine State.onPort_frame (within_trans (by decide) hw) ?_
    | with_reducible refine State.nodeWords_frame (within_trans (by decide) hw) ?_
    | ((conv => arg 3; arg 34); with_reducible apply frame_mk)
    | exact fun b => absurd (hw _ b) (by decide)
    | with_reducible exact fun _ => rfl
    | ((with_reducible show NonVol.identity _ = NonVol.identity _); rfl)
    | split
    | dsimp only)

theorem State.feedWire_frame {W : Nat} {zz : State} {s : State} {f : FeedW} (hw : Within 4822652561 W) (hs : Frame W zz s) :
    Frame W zz (State.feedWire s f) := by
  unfold State.feedWire
  try dsimp only
  repeat' (first
    | with_reducible exact hs
    | with_reducible assumption
    | with_reducible refine frame_ite ?_ ?_
    | with_reducible refine State.nodeBoundary_frame (within_trans (by decide) hw) ?_
    | with_reducible refine State.feedTick_frame (within_trans (by decide) hw) ?_
    | with_reducible refine State.feedNode_frame (within_trans (by decide) hw) ?_
    | (with_reducible refine frame_foldl ?_ ?_) | (with_reducible refine frame_foldl_fst ?_ ?_) | (with_reducible refine frame_foldl_snd ?_ ?_) | (intro _ _ _)
    | ((conv => arg 3; arg 34); with_reducible apply frame_mk)
    | exact fun b => absurd (hw _ b) (by decide)
    | with_reducible exact fun _ => rfl
    | ((with_reducible show NonVol.identity _ = NonVol.identity _); rfl)
    | split
    | dsimp only)

theorem State.farFeed_frame {W : Nat} {zz : State} {s : State} {f : FeedW} (hw : Within 4801648145 W) (hs : Frame W zz s) :
    Frame W zz (State.farFeed s f) := by
  unfold State.farFeed
  try dsimp only
  repeat' (first
    | with_reducible exact hs
    | with_reducible assumption
    | with_reducible refine frame_ite ?_ ?_
    | with_reducible refine State.farWords_frame (within_trans (by decide) hw) ?_
    | (with_reducible refine frame_foldl ?_ ?_) | (with_reducible refine frame_foldl_fst ?_ ?_) | (with_reducible refine frame_foldl_snd ?_ ?_) | (intro _ _ _)
    | dsimp only)

theorem opFeedW_frame {W : Nat} {zz : State} {i : Nat} {crcOk : Bool} {f : FeedW} {s : State} (hw : Within 4822652561 W) (hs : Frame W zz s) :
    Frame W zz (opFeedW i crcOk f s) := by
  unfold opFeedW
  try dsimp only
  repeat' (first
    | with_reducible exact hs
    | with_reducible assumption
    | with_reducible refine frame_ite ?_ ?_
    | with_reducible refine State.tetherUp_frame (within_trans (by decide) hw) ?_ ?_
    | with_reducible refine State.feedWire_frame (within_trans (by decide) hw) ?_
    | with_reducible refine State.farFeed_frame (within_trans (by decide) hw) ?_
    | intro _ _ _
    | intro _ _
    | split
    | dsimp only)

theorem State.partnerLines_frame {W : Nat} {zz : State} {s : State} {t : Trigger} (hw : Within 4564702737 W) (hs : Frame W zz s) :
    Frame W zz (State.partnerLines s t) := by
  unfold State.partnerLines
  try dsimp only
  repeat' (first
    | with_reducible exact hs
    | with_reducible assumption
    | with_reducible refine frame_ite ?_ ?_
    | with_reducible refine State.issue_frame (within_trans (by decide) hw) ?_
    | ((conv => arg 3; arg 34); with_reducible apply frame_mk)
    | exact fun b => absurd (hw _ b) (by decide)
    | with_reducible exact fun _ => rfl
    | ((with_reducible show NonVol.identity _ = NonVol.identity _); rfl)
    | split
    | dsimp only)

theorem State.trigIn_frame {W : Nat} {zz : State} {s : State} {t : Trigger} (hw : Within 4564702737 W) (hs : Frame W zz s) :
    Frame W zz (State.trigIn s t) := by
  unfold State.trigIn
  try dsimp only
  repeat' (first
    | with_reducible exact hs
    | with_reducible assumption
    | with_reducible refine frame_ite ?_ ?_
    | with_reducible refine State.passTrigger_frame (within_trans (by decide) hw) ?_
    | with_reducible refine State.fwdTrigger_frame (within_trans (by decide) hw) ?_
    | with_reducible refine State.partnerLines_frame (within_trans (by decide) hw) ?_
    | ((conv => arg 3; arg 34); with_reducible apply frame_mk)
    | exact fun b => absurd (hw _ b) (by decide)
    | with_reducible exact fun _ => rfl
    | ((with_reducible show NonVol.identity _ = NonVol.identity _); rfl)
    | split
    | dsimp only)

theorem opTrig_frame {W : Nat} {zz : State} {i : Nat} {crcOk : Bool} {ts : List Trigger} {s : State} (hw : Within 4564702737 W) (hs : Frame W zz s) :
    Frame W zz (opTrig i crcOk ts s) := by
  unfold opTrig
  try dsimp only
  repeat' (first
    | with_reducible exact hs
    | with_reducible assumption
    | with_reducible refine frame_ite ?_ ?_
    | with_reducible refine State.tetherUp_frame (within_trans (by decide) hw) ?_ ?_
    | with_reducible refine State.trigIn_frame (within_trans (by decide) hw) ?_
    | intro _ _ _
    | intro _ _
    | (with_reducible refine frame_foldl ?_ ?_) | (with_reducible refine frame_foldl_fst ?_ ?_) | (with_reducible refine frame_foldl_snd ?_ ?_) | (intro _ _ _)
    | dsimp only)

theorem State.applyCopy_frame {W : Nat} {zz : State} {s : State} {o : CopyOp} (hw : Within 8589934591 W) (hs : Frame W zz s) :
    Frame W zz (State.applyCopy s o) := by
  unfold State.applyCopy
  try dsimp only
  repeat' (first
    | with_reducible exact hs
    | with_reducible assumption
    | with_reducible refine frame_ite ?_ ?_
    | with_reducible refine frame_ite_fst ?_ ?_
    | with_reducible refine frame_ite_snd ?_ ?_
    | with_reducible refine frame_ite_snd2 ?_ ?_
    | with_reducible refine State.wr_frame (within_trans (by decide) hw) ?_
    | with_reducible refine State.wf_frame (within_trans (by decide) hw) ?_
    | with_reducible refine State.setLane_frame (within_trans (by decide) hw) ?_
    | with_reducible refine State.setSyncFrom_frame (within_trans (by decide) hw) ?_
    | with_reducible refine State.publish_frame (within_trans (by decide) hw) ?_
    | with_reducible refine State.applyMap_frame (within_trans (by decide) hw) ?_
    | with_reducible refine State.setCore_frame (within_trans (by decide) hw) ?_
    | with_reducible refine State.nextNotch_frame (within_trans (by decide) hw) ?_
    | with_reducible refine State.coreInj_frame (within_trans (by decide) hw) ?_
    | with_reducible refine State.coreInj_frame' (by assumption) (within_trans (by decide) hw) ?_
    | with_reducible refine State.storeSetting_frame (within_trans (by decide) hw) ?_
    | with_reducible refine State.commit_frame (within_trans (by decide) hw) ?_
    | with_reducible refine State.writeWindow_frame (within_trans (by decide) hw) ?_
    | with_reducible refine State.writeWindow_frame' (by assumption) (within_trans (by decide) hw) ?_
    | ((conv => arg 3; arg 34); with_reducible apply frame_mk)
    | exact fun b => absurd (hw _ b) (by decide)
    | with_reducible exact fun _ => rfl
    | ((with_reducible show NonVol.identity _ = NonVol.identity _); rfl)
    | split
    | dsimp only)

theorem State.digestCompare_frame {W : Nat} {zz : State} {s : State} (hw : Within 269615121 W) (hs : Frame W zz s) :
    Frame W zz (State.digestCompare s) := by
  unfold State.digestCompare
  try dsimp only
  repeat' (first
    | with_reducible exact hs
    | with_reducible assumption
    | with_reducible refine frame_ite ?_ ?_
    | with_reducible refine State.wr_frame (within_trans (by decide) hw) ?_
    | with_reducible refine State.count_frame (within_trans (by decide) hw) ?_
    | with_reducible refine State.raise_frame (within_trans (by decide) hw) ?_
    | with_reducible refine State.err_frame (within_trans (by decide) hw) ?_
    | with_reducible refine State.setSync_frame (within_trans (by decide) hw) ?_
    | with_reducible refine State.startSync_frame (within_trans (by decide) hw) ?_
    | ((conv => arg 3; arg 34); with_reducible apply frame_mk)
    | exact fun b => absurd (hw _ b) (by decide)
    | with_reducible exact fun _ => rfl
    | ((with_reducible show NonVol.identity _ = NonVol.identity _); rfl)
    | split
    | dsimp only)

theorem State.digestCheck_frame {W : Nat} {zz : State} {s : State} {d : Option (Nat × Nat)} (hw : Within 269615121 W) (hs : Frame W zz s) :
    Frame W zz (State.digestCheck s d) := by
  unfold State.digestCheck
  try dsimp only
  repeat' (first
    | with_reducible exact hs
    | with_reducible assumption
    | with_reducible refine frame_ite ?_ ?_
    | with_reducible refine State.setSync_frame (within_trans (by decide) hw) ?_
    | with_reducible refine State.digestCompare_frame (within_trans (by decide) hw) ?_
    | ((conv => arg 3; arg 34); with_reducible apply frame_mk)
    | exact fun b => absurd (hw _ b) (by decide)
    | with_reducible exact fun _ => rfl
    | ((with_reducible show NonVol.identity _ = NonVol.identity _); rfl)
    | split
    | dsimp only)

theorem opPointUpdate_frame {W : Nat} {zz : State} {j p : Nat} {new : List RawSample} {ecc : PssRead} {s : State} (hw : Within 4648556053 W) (hs : Frame W zz s) :
    Frame W zz (opPointUpdate j p new ecc s) := by
  unfold opPointUpdate
  try dsimp only
  repeat' (first
    | with_reducible exact hs
    | with_reducible assumption
    | with_reducible refine frame_ite ?_ ?_
    | with_reducible refine State.withRun_frame (within_trans (by decide) hw) ?_ ?_
    | with_reducible refine State.updatePoint_frame (within_trans (by decide) hw) ?_
    | with_reducible refine State.digestCompare_frame (within_trans (by decide) hw) ?_
    | intro _ _ _
    | intro _ _
    | dsimp only)

theorem State.copyIn_frame {W : Nat} {zz : State} {s : State} {c : CopyMsg} (hw : Within 8589934591 W) (hs : Frame W zz s) :
    Frame W zz (State.copyIn s c) := by
  unfold State.copyIn
  try dsimp only
  repeat' (first
    | with_reducible exact hs
    | with_reducible assumption
    | with_reducible refine frame_ite ?_ ?_
    | with_reducible refine State.applyCopy_frame (within_trans (by decide) hw) ?_
    | with_reducible refine State.digestCheck_frame (within_trans (by decide) hw) ?_
    | (with_reducible refine frame_foldl ?_ ?_) | (with_reducible refine frame_foldl_fst ?_ ?_) | (with_reducible refine frame_foldl_snd ?_ ?_) | (intro _ _ _)
    | ((conv => arg 3; arg 34); with_reducible apply frame_mk)
    | exact fun b => absurd (hw _ b) (by decide)
    | with_reducible exact fun _ => rfl
    | ((with_reducible show NonVol.identity _ = NonVol.identity _); rfl)
    | split
    | dsimp only)

theorem opCopy_frame {W : Nat} {zz : State} {i : Nat} {crcOk : Bool} {c : CopyMsg} {s : State} (hw : Within 8589934591 W) (hs : Frame W zz s) :
    Frame W zz (opCopy i crcOk c s) := by
  unfold opCopy
  try dsimp only
  repeat' (first
    | with_reducible exact hs
    | with_reducible assumption
    | with_reducible refine frame_ite ?_ ?_
    | with_reducible refine State.tetherUp_frame (within_trans (by decide) hw) ?_ ?_
    | with_reducible refine State.copyIn_frame (within_trans (by decide) hw) ?_
    | intro _ _ _
    | intro _ _
    | dsimp only)

theorem opHealthSend_frame {W : Nat} {zz : State} {s : State} (hw : Within 4563534849 W) (hs : Frame W zz s) :
    Frame W zz (opHealthSend s) := by
  unfold opHealthSend
  try dsimp only
  repeat' (first
    | with_reducible exact hs
    | with_reducible assumption
    | with_reducible refine frame_ite ?_ ?_
    | with_reducible refine State.sendBoth_frame (within_trans (by decide) hw) ?_
    | with_reducible refine State.healthReport_frame (within_trans (by decide) hw) ?_
    | split
    | dsimp only)

theorem opHealth_frame {W : Nat} {zz : State} {i : Nat} {crcOk : Bool} {h : Word} {s : State} (hw : Within 269484561 W) (hs : Frame W zz s) :
    Frame W zz (opHealth i crcOk h s) := by
  unfold opHealth
  try dsimp only
  repeat' (first
    | with_reducible exact hs
    | with_reducible assumption
    | with_reducible refine frame_ite ?_ ?_
    | with_reducible refine State.wr_frame (within_trans (by decide) hw) ?_
    | with_reducible refine State.tetherUp_frame (within_trans (by decide) hw) ?_ ?_
    | intro _ _ _
    | intro _ _
    | split
    | dsimp only)

theorem State.joinSched_frame {W : Nat} {zz : State} {s : State} {E : Time} (hw : Within 268435712 W) (hs : Frame W zz s) :
    Frame W zz (State.joinSched s E) := by
  unfold State.joinSched
  try dsimp only
  repeat' (first
    | with_reducible exact hs
    | with_reducible assumption
    | with_reducible refine frame_ite ?_ ?_
    | ((conv => arg 3; arg 34); with_reducible apply frame_mk)
    | exact fun b => absurd (hw _ b) (by decide)
    | with_reducible exact fun _ => rfl
    | ((with_reducible show NonVol.identity _ = NonVol.identity _); rfl)
    | dsimp only)

theorem State.joinPlan_frame {W : Nat} {zz : State} {s : State} {E : Time} (hw : Within 4831574003 W) (hs : Frame W zz s) :
    Frame W zz (State.joinPlan s E) := by
  unfold State.joinPlan
  try dsimp only
  repeat' (first
    | with_reducible exact hs
    | with_reducible assumption
    | with_reducible refine frame_ite ?_ ?_
    | with_reducible refine State.startPlan_frame (within_trans (by decide) hw) ?_
    | ((conv => arg 3; arg 34); with_reducible apply frame_mk)
    | exact fun b => absurd (hw _ b) (by decide)
    | with_reducible exact fun _ => rfl
    | ((with_reducible show NonVol.identity _ = NonVol.identity _); rfl)
    | split
    | dsimp only)

theorem State.joinRegs_frame {W : Nat} {zz : State} {s : State} {regs : List (Nat × Word)} (hw : Within 131073 W) (hs : Frame W zz s) :
    Frame W zz (State.joinRegs s regs) := by
  unfold State.joinRegs
  try dsimp only
  repeat' (first
    | with_reducible exact hs
    | with_reducible assumption
    | with_reducible refine frame_ite ?_ ?_
    | with_reducible refine State.wr_frame (within_trans (by decide) hw) ?_
    | with_reducible refine State.setTimState_frame (within_trans (by decide) hw) ?_
    | (with_reducible refine frame_foldl ?_ ?_) | (with_reducible refine frame_foldl_fst ?_ ?_) | (with_reducible refine frame_foldl_snd ?_ ?_) | (intro _ _ _)
    | split
    | dsimp only)

theorem State.joinLane_frame {W : Nat} {zz : State} {s : State} {k rel mark rd wr : Nat} {items : List StoredItem} (hw : Within 512 W) (hs : Frame W zz s) :
    Frame W zz (State.joinLane s k rel mark rd wr items) := by
  unfold State.joinLane
  try dsimp only
  repeat' (first
    | with_reducible exact hs
    | with_reducible assumption
    | with_reducible refine frame_ite ?_ ?_
    | with_reducible refine State.setLane_frame (within_trans (by decide) hw) ?_
    | ((conv => arg 3; arg 34); with_reducible apply frame_mk)
    | exact fun b => absurd (hw _ b) (by decide)
    | with_reducible exact fun _ => rfl
    | ((with_reducible show NonVol.identity _ = NonVol.identity _); rfl)
    | dsimp only)

theorem State.joinItem_frame {W : Nat} {zz : State} {s : State} {k : Nat} {it : StoredItem} (hw : Within 1185297 W) (hs : Frame W zz s) :
    Frame W zz (State.joinItem s k it) := by
  unfold State.joinItem
  try dsimp only
  repeat' (first
    | with_reducible exact hs
    | with_reducible assumption
    | with_reducible refine frame_ite ?_ ?_
    | with_reducible refine State.pushPlaceholder_frame (within_trans (by decide) hw) ?_
    | ((conv => arg 3; arg 34); with_reducible apply frame_mk)
    | exact fun b => absurd (hw _ b) (by decide)
    | with_reducible exact fun _ => rfl
    | ((with_reducible show NonVol.identity _ = NonVol.identity _); rfl)
    | dsimp only)

theorem State.joinChains_frame {W : Nat} {zz : State} {s : State} {node : Bool} {k0 : Nat} {chans : List (Nat × ChainCh)} {fields : List (Nat × FldCh)} (hw : Within 274726912 W) (hs : Frame W zz s) :
    Frame W zz (State.joinChains s node k0 chans fields) := by
  unfold State.joinChains
  try dsimp only
  repeat' (first
    | with_reducible exact hs
    | with_reducible assumption
    | with_reducible refine frame_ite ?_ ?_
    | (with_reducible refine frame_foldl ?_ ?_) | (with_reducible refine frame_foldl_fst ?_ ?_) | (with_reducible refine frame_foldl_snd ?_ ?_) | (intro _ _ _)
    | ((conv => arg 3; arg 34); with_reducible apply frame_mk)
    | exact fun b => absurd (hw _ b) (by decide)
    | with_reducible exact fun _ => rfl
    | ((with_reducible show NonVol.identity _ = NonVol.identity _); rfl)
    | split
    | dsimp only)

theorem State.joinBytes_frame {W : Nat} {zz : State} {s : State} {lo size : Nat} {cells : List (Nat × Byte)}
    (hw : Within 2 W) (hs : Frame W zz s) : Frame W zz (s.joinBytes lo size cells) := by
  unfold State.joinBytes
  exact frame_foldl (fun a e h => State.wrByte_frame (within_trans (by decide) hw) h)
    (frame_mem (within_trans (by decide) hw) hs (NMap.wf_clear memDefault lo (lo + size) s.mem))

theorem State.joinImage_frame {W : Nat} {zz : State} {s : State} {slot offset : Nat} {bytes : List Byte} {last : Bool} (hw : Within 32 W) (hs : Frame W zz s) :
    Frame W zz (State.joinImage s slot offset bytes last) := by
  unfold State.joinImage
  try dsimp only
  repeat' (first
    | with_reducible exact hs
    | with_reducible assumption
    | with_reducible refine frame_ite ?_ ?_
    | with_reducible refine State.setSlot_frame (within_trans (by decide) hw) ?_
    | split
    | dsimp only)

theorem State.bulkToStandby_frame {W : Nat} {zz : State} {s : State} {b : BulkPart} (hw : Within 4831836147 W) (hs : Frame W zz s) :
    Frame W zz (State.bulkToStandby s b) := by
  unfold State.bulkToStandby
  try dsimp only
  repeat' (first
    | with_reducible exact hs
    | with_reducible assumption
    | with_reducible refine frame_ite ?_ ?_
    | with_reducible refine State.applyBudget_frame (within_trans (by decide) hw) ?_
    | with_reducible refine State.setCore_frame (within_trans (by decide) hw) ?_
    | with_reducible refine State.onPort_frame (within_trans (by decide) hw) ?_
    | with_reducible refine State.takeBridle_frame (within_trans (by decide) hw) ?_
    | with_reducible refine State.trainFar_frame (within_trans (by decide) hw) ?_
    | with_reducible refine State.takeSplit_frame (within_trans (by decide) hw) ?_
    | with_reducible refine State.setSync_frame (within_trans (by decide) hw) ?_
    | with_reducible refine State.joinSched_frame (within_trans (by decide) hw) ?_
    | with_reducible refine State.joinPlan_frame (within_trans (by decide) hw) ?_
    | with_reducible refine State.joinRegs_frame (within_trans (by decide) hw) ?_
    | with_reducible refine State.joinLane_frame (within_trans (by decide) hw) ?_
    | with_reducible refine State.joinItem_frame (within_trans (by decide) hw) ?_
    | with_reducible refine State.joinChains_frame (within_trans (by decide) hw) ?_
    | with_reducible refine State.joinBytes_frame (within_trans (by decide) hw) ?_
    | with_reducible refine State.joinImage_frame (within_trans (by decide) hw) ?_
    | (with_reducible refine frame_foldl ?_ ?_) | (with_reducible refine frame_foldl_fst ?_ ?_) | (with_reducible refine frame_foldl_snd ?_ ?_) | (intro _ _ _)
    | ((conv => arg 3; arg 34); with_reducible apply frame_mk)
    | exact fun b => absurd (hw _ b) (by decide)
    | with_reducible exact fun _ => rfl
    | ((with_reducible show NonVol.identity _ = NonVol.identity _); rfl)
    | split
    | dsimp only)

theorem State.bulkToActive_frame {W : Nat} {zz : State} {s : State} {b : BulkPart} (hw : Within 4698801169 W) (hs : Frame W zz s) :
    Frame W zz (State.bulkToActive s b) := by
  unfold State.bulkToActive
  try dsimp only
  repeat' (first
    | with_reducible exact hs
    | with_reducible assumption
    | with_reducible refine frame_ite ?_ ?_
    | with_reducible refine State.takeBridle_frame (within_trans (by decide) hw) ?_
    | with_reducible refine State.setTotal_frame (within_trans (by decide) hw) ?_
    | with_reducible refine State.takeSplit_frame (within_trans (by decide) hw) ?_
    | ((conv => arg 3; arg 34); with_reducible apply frame_mk)
    | exact fun b => absurd (hw _ b) (by decide)
    | with_reducible exact fun _ => rfl
    | ((with_reducible show NonVol.identity _ = NonVol.identity _); rfl)
    | split
    | dsimp only)

theorem opBulk_frame {W : Nat} {zz : State} {i : Nat} {crcOk : Bool} {b : BulkPart} {s : State} (hw : Within 4831836147 W) (hs : Frame W zz s) :
    Frame W zz (opBulk i crcOk b s) := by
  unfold opBulk
  try dsimp only
  repeat' (first
    | with_reducible exact hs
    | with_reducible assumption
    | with_reducible refine frame_ite ?_ ?_
    | with_reducible refine State.tetherUp_frame (within_trans (by decide) hw) ?_ ?_
    | with_reducible refine State.bulkToStandby_frame (within_trans (by decide) hw) ?_
    | with_reducible refine State.bulkToActive_frame (within_trans (by decide) hw) ?_
    | intro _ _ _
    | intro _ _
    | split
    | dsimp only)

theorem opClaimSend_frame {W : Nat} {zz : State} {s : State} (hw : Within 4564451345 W) (hs : Frame W zz s) :
    Frame W zz (opClaimSend s) := by
  unfold opClaimSend
  try dsimp only
  repeat' (first
    | with_reducible exact hs
    | with_reducible assumption
    | with_reducible refine frame_ite ?_ ?_
    | with_reducible refine State.txFrame_frame (within_trans (by decide) hw) ?_
    | (with_reducible refine frame_iter ?_ ?_) | (with_reducible refine frame_iter_fst ?_ ?_) | (intro _ _ _)
    | ((conv => arg 3; arg 34); with_reducible apply frame_mk)
    | exact fun b => absurd (hw _ b) (by decide)
    | with_reducible exact fun _ => rfl
    | ((with_reducible show NonVol.identity _ = NonVol.identity _); rfl)
    | split
    | dsimp only)

theorem opPairClaim_frame {W : Nat} {zz : State} {c : ClaimMsg} {s : State} (hw : Within 4711383057 W) (hs : Frame W zz s) :
    Frame W zz (opPairClaim c s) := by
  unfold opPairClaim
  try dsimp only
  repeat' (first
    | with_reducible exact hs
    | with_reducible assumption
    | with_reducible refine frame_ite ?_ ?_
    | with_reducible refine State.count_frame (within_trans (by decide) hw) ?_
    | with_reducible refine State.depose_frame (within_trans (by decide) hw) ?_
    | split
    | dsimp only)

theorem opRevertPreferred_frame {W : Nat} {zz : State} {s : State} (hw : Within 268435456 W) (hs : Frame W zz s) :
    Frame W zz (opRevertPreferred s) := by
  unfold opRevertPreferred
  try dsimp only
  repeat' (first
    | with_reducible exact hs
    | with_reducible assumption
    | with_reducible refine frame_ite ?_ ?_
    | ((conv => arg 3; arg 34); with_reducible apply frame_mk)
    | exact fun b => absurd (hw _ b) (by decide)
    | with_reducible exact fun _ => rfl
    | ((with_reducible show NonVol.identity _ = NonVol.identity _); rfl)
    | split
    | dsimp only)

theorem opOswSwitch_frame {W : Nat} {zz : State} {s : State} (hw : Within 4294967301 W) (hs : Frame W zz s) :
    Frame W zz (opOswSwitch s) := by
  unfold opOswSwitch
  try dsimp only
  repeat' (first
    | with_reducible exact hs
    | with_reducible assumption
    | with_reducible refine frame_ite ?_ ?_
    | with_reducible refine State.advance_frame (within_trans (by decide) hw) ?_
    | with_reducible refine State.setOsw_frame (within_trans (by decide) hw) ?_
    | ((conv => arg 3; arg 34); with_reducible apply frame_mk)
    | exact fun b => absurd (hw _ b) (by decide)
    | with_reducible exact fun _ => rfl
    | ((with_reducible show NonVol.identity _ = NonVol.identity _); rfl)
    | split
    | dsimp only)

end Sys2Proof.Machine
end

