-- ==== Sys2Proof/Tests/Slice0.lean ====
section
/-!
SUPPORT. Tests: for every statement with hypotheses a state and operands that meet all of them, clause by clause; an ill-formed
command for each check of WellFormed; single commands against values worked out from the spec.
-/

set_option maxRecDepth 4000

namespace Sys2Proof.Tests

open Sys2Proof.Machine Sys2Proof.Claims

/-! ### States for tests -/

/-- A whole register as a field. -/
def all : Fld := ⟨0, 32⟩

/-- A state with fields of registers set. -/
def set (s : State) (l : List (Nat × Fld × Nat)) : State := l.foldl (fun a e => a.wf e.1 e.2.1 e.2.2) s

/-- What a command answers, as a state. -/
def ran (c : Instr) (s : State) : State :=
  match exec c s with
  | .next t => t
  | _ => State.reset

/-- The answer is a next state. -/
def goes (o : Host.Outcome State Fault Refusal) : Bool :=
  match o with
  | .next _ => true
  | _ => false

/-- A hub that has started: register access served, LTC at 10 s. -/
def up : State := { State.reset with
  ltc := 10312500000, ltcRun := true, sys := { State.reset.sys with step := 9, planDone := true, calDone := true } }

/-- The hub in start-up, before its calibrations and its plan. -/
def starting : State := { State.reset with ltc := 5000, sys := { State.reset.sys with step := 5 } }

/-- A plan with shots of 2 ms, field ticks of 5,000 and superframes of 10,000 ticks. -/
def fly : Plan := { Plan.empty with
  id := 4, sections := [1, 2, 4, 5, 6, 7, 8, 9, 10], shotPeriod := 2062500, guardT := 2000, fieldTick := 5000, superframe := 10000 }

/-- A hub that runs this plan, its schedules about to begin. -/
def flying : State := { up with pln := { up.pln with run := some fly }, sched := ⟨10312600000, 0, 0, 0⟩ }

/-- The two hubs of a pair in sync. -/
def active : State := set flying [(Reg.SYS_STAT, Fd.SYS_STAT_STRAP_PAIR, 1), (Reg.PAI_STAT, Fd.PAI_STAT_ROLE, 1), (Reg.PAI_STAT, Fd.PAI_STAT_SYNC, 3)]
def standby : State := set flying [(Reg.SYS_STAT, Fd.SYS_STAT_STRAP_PAIR, 1), (Reg.PAI_STAT, Fd.PAI_STAT_ROLE, 2), (Reg.PAI_STAT, Fd.PAI_STAT_SYNC, 3)]

/-! ### The hub as a whole, start and reset -/

def queued : State := { up with pending := [.ilkAccept, .railOutOfWindow 1] }

theorem witness_IdleStepCountsTheLtc : up.pending = [] ∧ up.ltcRun = true ∧ State.reset.ltcRun = false := by decide

theorem witness_StepsKeepCanonicalForm :
    queued.memWf = true ∧ queued.pending.all Instr.wellFormed = true ∧ goes (step queued) = true ∧
      (ran .ilkAccept queued).pending = queued.pending := by decide

/-- Resets held with a cause: COMMAND, SUPPLY; RESET_N low. -/
def heldCmd : State := set State.reset [(Reg.SYS_RESET_CAUSE, all, 6)]
def heldRst : State := { State.reset with sys := { State.reset.sys with resetLow := true } }
def phase3 : State := { State.reset with sys := { State.reset.sys with step := 3 } }

theorem witness_FullResetByEachCause :
    (511 % 512 ≠ 0 ∧ 1 % 512 ≠ 0 ∧ NotHeld phase3 ∧ NotHeld up) ∧
    (3 ≤ phase3.sys.step) ∧ (5 ≤ starting.sys.step ∧ starting.sys.restarting = false) ∧
    (heldCmd.sys.step = 0 ∧ heldCmd.rd Reg.SYS_RESET_CAUSE ≠ 0 ∧ ¬ NotHeld heldCmd) := by
  unfold NotHeld; decide

/-- A hub of an owner, with keys; RETURN armed. -/
def owned : State := { up with nv := { up.nv with
  life := 1, serial := 7, planKey := some (3, [1, 2]), ctxKeys := [some [1], none, none, some [2]], settings := [(Reg.PWR_CFG, 1)] } }
def armed : State := { owned with sys := { owned.sys with returnArmed := true } }
def retired : State := { up with nv := { up.nv with life := 2 } }

theorem witness_ReturnWipesErasesAndResets : armed.sys.returnArmed = true ∧ armed.nv.life = 1 := by decide

theorem witness_WipesAndKeys :
    (owned.nv.life = 1 ∧ owned.nv.life ≠ 2) ∧ up.nv.life = 0 ∧ retired.nv.life = 2 ∧
    ((1 : Fin 8).val < 5 ∧ 1 ≤ (4 : Fin 8).val ∧ (4 : Fin 8).val < 5 ∧ 5 ≤ (5 : Fin 8).val) := by decide

def straps : Straps := ⟨true, 2, true⟩
def restarting : State := { up with sys := { up.sys with restarting := true } }

theorem witness_StartUpPhases :
    (State.reset.sys.step = 0 ∧ State.reset.sys.resetLow = false ∧ straps.stable = true) ∧
    (heldRst.sys.step = 0 ∧ heldRst.sys.resetLow = true ∧ heldRst.sys.railsBad = 0) ∧ phase3.sys.step = 3 ∧
    (5 ≤ starting.sys.step ∧ starting.sys.calDone = false ∧ starting.sys.planDone = false) ∧
    restarting.sys.restarting = true := by decide

/-- A plan without shots, field ticks or superframes: header, directory, a SHOT and a MEMORY section (R36 to R40). Its signature was
made together with its key. -/
def plainImage : List Byte :=
  beBytes 25 0x504c414e0100a0001001000002002464b00000000000000004 ++
  List.replicate 11 0 ++
  beBytes 32 0x03000000aa4d0ff17d5c1d31a18cb8af158afc07d0166b446afd70ab62d84c27 ++
  beBytes 32 0x0caa5ac7064b24f140379949fad1886386a495dff391d9d40de6fff0661bdb2b ++
  beBytes 32 0x6f335de2064b24f140379949fad1886386a495dff391d9d40de6fff0661bdb2b ++
  beBytes 4 0x6f335de2 ++
  List.replicate 20 0 ++
  beBytes 32 0xfc7c82ae01000100c000000020000000aa36918a0b0001000001000010000000 ++
  beBytes 4 0x01367484 ++
  List.replicate 64 0 ++
  beBytes 1 0x04 ++
  List.replicate 15 0
def plainKey : List Byte := beBytes 32 0x5d4762cd78fa0707d1d4f13ccb5b00b079322c98fde94684ea7062c4c0f45725 ++
  beBytes 32 0x5a5819e127b8ccc4cee920a236b3cf15da9262b9a3059f0dc01025eebbf22f77

/-- A hub that owns the key of that plan. -/
def keyed : State := { up with nv := { up.nv with life := 1, planKey := some (3, plainKey) } }

/-! ### Power, update and card -/

/-- A plan without schedules runs. -/
def idling : State := { up with pln := { up.pln with run := some { fly with shotPeriod := 0, fieldTick := 0, superframe := 0 } } }
/-- PFW_N is low: parked for it alone, for the clock as well, or not yet parked. -/
def pfwPark : State := { flying with sys := { flying.sys with pfw := true }, clk := { flying.clk with parkPfw := true } }
def pfwBoth : State := { pfwPark with clk := { pfwPark.clk with parkClk := true } }
def pfwSoon : State := { pfwPark with clk := { pfwPark.clk with parkPfw := false } }

theorem witness_PowerFailParksAndResumes :
    (up.sys.pfw = false ∧ up.pln.run = none) ∧ (active.sys.pfw = false ∧ active.role = 1 ∧ active.syncState = 3) ∧
    (idling.sys.pfw = false ∧ idling.role = 0 ∧ idling.pln.run.isSome = true ∧ idling.mainBoundary = 0) ∧
    pfwPark.sys.pfw = true ∧ (pfwBoth.sys.pfw = true ∧ pfwBoth.clk.parkClk = true) ∧
    (pfwSoon.sys.pfw = true ∧ pfwSoon.clk.parkPfw = false) := by decide

def card : SdCard := ⟨1, true, some [1, 2, 3]⟩
def carded : State := { up with sys := { up.sys with card := some card } }
/-- The image in bank 1 has been verified. -/
def verified : State := { carded with sys := { carded.sys with verified := true, updBank := 1 } }
/-- An image on trial, due for confirmation; a stage in progress. -/
def trial : State := set { up with sys := { up.sys with planAt := some 0, fwAt := 0 } }
  [(Reg.SYS_STAT, Fd.SYS_STAT_TRIAL, 1), (Reg.UPD_CFG, Fd.UPD_CFG_AUTO_S, 10)]
def loading : State := set carded [(Reg.UPD_STAT, Fd.UPD_STAT_STAGE, 1)]
def checking : State := set carded [(Reg.UPD_STAT, Fd.UPD_STAT_STAGE, 3)]

theorem witness_UpdateStages :
    (UpdateIdle carded ∧ carded.sys.card = some card ∧ card.type.val = 1 ∧ card.fat32 = true ∧ card.file.isSome = true) ∧
    (UpdateIdle carded ∧ carded.sys.verified = false) ∧
    (UpdateIdle verified ∧ verified.sys.verified = true ∧ verified.updTarget = verified.sys.updBank ∧
      verified.fwGov = some (⟨1, 0, true, 0, true⟩, false)) ∧
    (trial.flag Reg.SYS_STAT Fd.SYS_STAT_TRIAL = true ∧ trial.sys.restarting = false ∧ trial.fwGov = some (⟨1, 0, true, 0, true⟩, false)) ∧
    (trial.sys.planAt = some 0 ∧ trial.rf Reg.UPD_CFG Fd.UPD_CFG_AUTO_S ≠ 0 ∧
      trial.sys.fwAt.toNat + trial.rf Reg.UPD_CFG Fd.UPD_CFG_AUTO_S * tickS ≤ trial.ltc.toNat ∧
      (0 : Time).toNat + trial.rf Reg.UPD_CFG Fd.UPD_CFG_AUTO_S * tickS ≤ trial.ltc.toNat) ∧
    loading.updStage = 1 ∧ checking.updStage = 3 := by unfold UpdateIdle; decide

theorem witness_SdCardEvents :
    carded.sys.card.isSome = true ∧ carded.updStage ≠ 1 ∧ loading.sys.card.isSome = true ∧ loading.updStage = 1 ∧
    carded.rd Reg.SDC_CRC_ERR ≠ 0xFFFFFFFF ∧ ((3 : Fin 4).val = 0 ∨ (3 : Fin 4).val = 3) := by decide

/-! ### Lanes and clocks -/

/-- All lanes run, without lock. -/
def lanes : State := set { up with shb := up.shb } [(Reg.LN_CFG 0, Fd.LN_CFG_RX_EN, 1), (Reg.LN_CFG 1, Fd.LN_CFG_RX_EN, 1),
  (Reg.LN_CFG 2, Fd.LN_CFG_RX_EN, 1), (Reg.LN_CFG 3, Fd.LN_CFG_RX_EN, 1)]
/-- The same with lock on every lane. -/
def locked : State := set lanes [(Reg.LN_STAT 0, Fd.LN_STAT_CDR_LOCK, 1), (Reg.LN_STAT 1, Fd.LN_STAT_CDR_LOCK, 1),
  (Reg.LN_STAT 2, Fd.LN_STAT_CDR_LOCK, 1), (Reg.LN_STAT 3, Fd.LN_STAT_CDR_LOCK, 1), (Reg.CLK_STAT, Fd.CLK_STAT_STATE, 1)]

theorem witness_LaneReceiverEvents :
    (lanes.laneRuns 3 = true ∧ lanes.rf (Reg.LN_STAT 3) Fd.LN_STAT_CDR_LOCK = 0 ∧ lanes.rf (Reg.UL_STAT 0) Fd.UL_STAT_IN_SERVICE = 0) ∧
    (lanes.laneRuns 0 = true ∧ locked.rf (Reg.LN_STAT 0) Fd.LN_STAT_LOS = 0 ∧ LaneAlone locked 0 ∧ LaneAlone lanes 3) ∧
    (locked.laneRuns 3 = true ∧ locked.rf (Reg.LN_STAT 3) Fd.LN_STAT_CDR_LOCK = 1 ∧ LaneAlone locked 3) ∧
    locked.rd (Reg.LN_LOS_EVT 0) ≠ 0xFFFFFFFF ∧ lanes.rf (Reg.UL_STAT 1) Fd.UL_STAT_IN_SERVICE = 0 ∧ 2 ≤ (2 : Fin 4).val := by unfold LaneAlone; decide

/-- LN0 selected and locked, LN1 ready; a switch to it in progress; its ramp at 16, at 1; that of a start. -/
def clocked : State := set locked [(Reg.CLK_STAT, Fd.CLK_STAT_VALID, 1), (Reg.CLK_STAT, Fd.CLK_STAT_SEL, 0), (Reg.CLK_STAT, ⟨8, 2⟩, 3),
  (Reg.CLK_CFG, Fd.CLK_CFG_TOL, 5)]
def switching : State := set { clocked with clk := { clocked.clk with frozen := true, target := some 1 } } [(Reg.CLK_STAT, Fd.CLK_STAT_STATE, 2)]
def ramp16 : State := { switching with clk := { switching.clk with ramp := 16, starting := false } }
def ramp1 : State := set { ramp16 with clk := { ramp16.clk with ramp := 1 } } [(Reg.CLK_STAT, Fd.CLK_STAT_STATE, 3)]
def ramp1s : State := { ramp1 with clk := { ramp1.clk with starting := true }, sys := { ramp1.sys with step := 2 } }
/-- LN1 is first in priority and has been ready for 9 s. -/
def revert : State := set { clocked with clk := { clocked.clk with readyFrom := [none, some 1031250000, none] } }
  [(Reg.CLK_PRIO, Fd.CLK_PRIO_FIRST, 1), (Reg.CLK_CFG, Fd.CLK_CFG_REVERT, 1), (Reg.CLK_CFG, Fd.CLK_CFG_REVERT_HOLD, 9)]

def again1 : State := set revert [(Reg.CLK_STAT, Fd.CLK_STAT_STATE, 2)]

theorem witness_SwitchCommandRefusals :
    (switching.clkState = 2 ∧ ramp1.clkState = 3) ∧
    (clocked.rf Reg.CLK_STAT Fd.CLK_STAT_VALID = 1 ∧ clocked.selected = (0 : Fin 4).val ∧ clocked.clkState = 1) ∧
    clocked.srcReady 2 = false ∧
    ((revert.srcReady 1 = true ∧ 1 ∈ revert.prio ∧ revert.clkState = 1 ∧ revert.selected ≠ (1 : Fin 4).val) ∧
      (again1.srcReady 1 = true ∧ 1 ∈ again1.prio ∧ again1.clkState = 2 ∧ again1.selected ≠ (1 : Fin 4).val)) := by decide

/-- PRIO names LN0 alone. -/
def unnamed : State := set clocked [(Reg.CLK_PRIO, all, 0)]

theorem witness_SwitchAndRamp :
    (1 < 3 ∧ switching.clk.target = some 1 ∧ switching.clkState = 2) ∧ 1 < ramp16.clk.ramp ∧
    (ramp1.clk.ramp = 1 ∧ ramp1.clk.starting = false) ∧ (ramp1s.clk.ramp = 1 ∧ ramp1s.clk.starting = true) ∧
    (revert.rf Reg.CLK_PRIO Fd.CLK_PRIO_FIRST = 1 ∧ revert.selected ≠ 1 ∧ revert.srcReady 1 = true ∧
      nth revert.clk.readyFrom 1 none = some 1031250000 ∧
      revert.rf Reg.CLK_CFG Fd.CLK_CFG_REVERT_HOLD * tickS ≤ revert.ltc.toNat - (1031250000 : Time).toNat ∧
      revert.rf Reg.CLK_CFG Fd.CLK_CFG_REVERT = 1 ∧ revert.clkState = 1 ∧ revert.sys.restarting = false) ∧
    ((2 : Fin 4).val ≠ 3 ∧ (2 : Fin 4).val ∉ unnamed.prio ∧ ¬ (unnamed.selected = (2 : Fin 4).val ∧ unnamed.clkState = 1)) := by decide

/-- Two sources lost: LN1 may leave the window alone; holdover of 8 ms without a plan, with shots; the synthesiser frozen. -/
def soleWindow : State := { clocked with clk := { clocked.clk with target := none } }
def frozen : State := { clocked with clk := { clocked.clk with frozen := true } }
def held8 (s : State) : State := set { s with clk := { s.clk with holdFrom := some 10304250000 } } [(Reg.CLK_STAT, Fd.CLK_STAT_STATE, 4)]
def parkedClk : State := { clocked with clk := { clocked.clk with parkClk := true } }
def parkedTwo : State := { parkedClk with clk := { parkedClk.clk with parkPfw := true } }

theorem witness_SourcesHoldoverAndPark :
    (clocked.clkState = 1 ∧ clocked.selected ≠ (1 : Fin 3).val ∧ clocked.parked = false ∧
      clocked.rf (Reg.LN_STAT 1) Fd.LN_STAT_CDR_LOCK = 1 ∧ (-50 : Int).natAbs ≤ 10 * clocked.rf Reg.CLK_CFG Fd.CLK_CFG_TOL ∧
      clocked.clk.held = false) ∧
    (soleWindow.clk.target = none ∧ 10 * soleWindow.rf Reg.CLK_CFG Fd.CLK_CFG_TOL < (-51 : Int).natAbs ∧
      soleWindow.rf (Reg.UL_STAT 1) Fd.UL_STAT_IN_SERVICE = 0 ∧ soleWindow.srcReady 1 = true) ∧
    (frozen.clkState = 1 ∧ frozen.clk.frozen = true ∧ frozen.rd Reg.CLK_HITS ≠ 0xFFFFFFFF) ∧
    ((held8 clocked).clk.holdFrom = some 10304250000 ∧ (held8 clocked).clkState = 4 ∧
      8 * tickMs ≤ (held8 clocked).ltc.toNat - (10304250000 : Time).toNat ∧ (held8 clocked).pln.run = none ∧
      (held8 clocked).mainBoundary = 0 ∧ (held8 clocked).parked = false) ∧
    ((held8 flying).clkState = 4 ∧ (held8 flying).mainBoundary ≠ 0 ∧ (held8 flying).parked = false) ∧
    (parkedTwo.clk.parkClk = true ∧ parkedTwo.clkState = 1 ∧ parkedTwo.clk.parkPfw = true) ∧
    (parkedClk.clk.parkClk = true ∧ parkedClk.clkState = 1 ∧ parkedClk.clk.parkPfw = false) := by decide

/-- A lane generates and checks PRBS, with and without synchronisation, and with frozen adaptation. -/
def prbs : State := set lanes [(Reg.LN_PRBS_CFG 3, Fd.LN_PRBS_CFG_GEN, 1), (Reg.LN_PRBS_CFG 3, Fd.LN_PRBS_CFG_CHK, 1),
  (Reg.LN_PRBS_CFG 3, Fd.LN_PRBS_CFG_INJ_RATE, 10)]
def prbsOn : State := set prbs [(Reg.LN_STAT 3, Fd.LN_STAT_PRBS_SYNC, 1), (Reg.LN_CFG 3, Fd.LN_CFG_ADAPT_FREEZE, 1)]

theorem witness_LaneTestPatterns :
    (prbs.rf (Reg.LN_CFG 3) Fd.LN_CFG_ADAPT_FREEZE = 0 ∧ prbs.rf (Reg.LN_STAT 3) Fd.LN_STAT_PRBS_SYNC = 0 ∧
      prbs.rf (Reg.LN_PRBS_CFG 3) Fd.LN_PRBS_CFG_GEN ≠ 0 ∧ 10 ≤ prbs.rf (Reg.LN_PRBS_CFG 3) Fd.LN_PRBS_CFG_INJ_RATE ∧
      prbs.rf (Reg.LN_PRBS_CFG 3) Fd.LN_PRBS_CFG_CHK ≠ 0) ∧
    (prbsOn.rf (Reg.LN_CFG 3) Fd.LN_CFG_ADAPT_FREEZE = 1 ∧ prbsOn.rf (Reg.LN_STAT 3) Fd.LN_STAT_PRBS_SYNC = 1 ∧
      prbsOn.rf (Reg.LN_PRBS_CFG 3) Fd.LN_PRBS_CFG_CHK ≠ 0) := by decide

/-- Gates: asked for and not in effect, in effect and taken back. -/
def gating : State := set up [(Reg.CLK_GATE1, all, 3)]
def ungating : State := { up with clk := { up.clk with gates := [0, 3, 0] } }

theorem witness_ClockGating :
    (gating.clk.gates.length = 3 ∧ ungating.clk.gates.length = 3) ∧
    (gateBit (0x21000 % 0x1000000 / 0x1000) = some (gateReg 1, 1) ∧ 1 < gateBits 1 ∧ Word.bit (gating.rd (gateReg 1)) 1 = true ∧
      Word.bit (nth gating.clk.gates 1 0) 1 = false) ∧
    (Word.bit (ungating.rd (gateReg 1)) 1 = false ∧ Word.bit (nth ungating.clk.gates 1 0) 1 = true) ∧
    gateBit 0 = none ∧
    (0 < gateBits 0 ∧ Word.bit 1 0 = true ∧ Word.bit (flying.rd (gateReg 0)) 0 = false ∧ flying.gateHeld 0 0 = true) ∧
    NoSourceGated up 0 ∧ NoSourceGated gating 1 ∧ NoSourceGated ungating 1 :=
  ⟨by decide, by decide, by decide, by decide, by decide, show NoSourceGated up 0 from fun _ => by unfold LaneAlone; decide, fun h => absurd h (by decide), fun h => absurd h (by decide)⟩

/-! ### Plan slots and switches -/

/-- A host with a session of context `x` on port 0, and a message of it. -/
def sess (x : Nat) : Session :=
  { ctx := x, ip := 167772161, udp := 4000, macs := [5, 0], home := 0, number := 9, rxSeq := 4, txSeq := 2, limit := 100000, sentBytes := 0,
    lastRx := 10312500000, lastTx := 10312500000, auth := false, noticeNo := 0, acked := 0, notices := [], due := [], recent := [],
    answers := [], sending := [] }
def hosted (x : Nat) (s : State) : State := set { s with sessions := [sess x] } [(Reg.UL_STAT 0, Fd.UL_STAT_IN_SERVICE, 1)]
def msg (x : Nat) (body : List Byte) : SlzMsg :=
  { port := 0, ip := 167772161, udp := 4000, mac := 5, magic := 0x5A53, ver := 1, ctx := x, flags := 0, len := body.length, session := 9, seq := 5,
    ack := 0, boot := 0, body := body, tag := [] }
/-- The same with another sequence number. -/
def again (n : Nat) (m : SlzMsg) : SlzMsg := { m with seq := n }

/-- A message that Accepted describes, but for its body. -/
def accepted (s : State) (type : Nat) (m : SlzMsg) (okBody : List Byte → Bool) : Bool :=
  s.hears m.port.val && slzLayoutOk m okBody && s.authOk type m &&
    (match s.session m.ctx with
     | some q => decide (m.session = q.number) && decide (m.boot = s.nv.boot) && decide (m.ip = q.ip) && decide (m.udp = q.udp) &&
        decide (q.rxSeq < m.seq)
     | none => false)

theorem accepted_iff (s : State) (type : Nat) (m : SlzMsg) (okBody : List Byte → Bool) (h : accepted s type m okBody = true) :
    Accepted s type m okBody := by
  unfold accepted at h
  cases hq : s.session m.ctx with
  | none => simp [hq] at h
  | some q =>
    simp only [hq, Bool.and_eq_true, decide_eq_true_eq] at h
    exact ⟨h.1.1.1, h.1.1.2, h.1.2, q, hq, h.2.1.1.1.1, h.2.1.1.1.2, h.2.1.1.2, h.2.1.2, h.2.2⟩

/-- PLAN_DATA of slot B at offset `o`. -/
def planMsg (o : Nat) (bs : List Byte) : SlzMsg := msg 0 ([1, 0, 0, 0] ++ le4 o ++ bs)
def slotB (n : Nat) (img : List Byte) (s : State) : State := { s with nv := { s.nv with slotB := ⟨n, img⟩ } }

theorem witness_SlotStatesPermitCommands :
    ((up.slot 1).state ≠ 2 ∧ (up.slot 1).state ≠ 4 ∧ (up.slot 1).state ≠ 7 ∧ (up.slot 1).state ∉ [1, 2, 4, 6]) ∧
    (Accepted (hosted 0 (slotB 4 [1] up)) 0x30 (planMsg 0 [7]) planBody ∧ up.role < 2 ∧ (planMsg 0 [7]).ctx = 0 ∧
      byteAt (planMsg 0 [7]).body 0 ≤ 1 ∧ fieldAt (planMsg 0 [7]).body 4 4 = 0 ∧
      ((planMsg 0 [7]).body.drop 8).length ≤ 16777216 ∧ ((hosted 0 (slotB 4 [1] up)).slot 1).state = 4 ∧
      ((slotB 6 [1] up).slot 1).state = 6) :=
  ⟨by decide, accepted_iff _ _ _ _ (by decide), by decide⟩

/-- Bytes on their way to flash; a slot under its checks; a switch pending, its shadow tables loaded, its instant chosen. -/
def writing : State := let s := hosted 0 (slotB 1 [1, 2] up); { s with pln := { s.pln with xfers := [⟨1, 2, [3], true, 0, 5⟩] } }
def judged : State := let s := slotB 3 plainImage keyed; { s with pln := { s.pln with checking := some 1 } }
def judgedBad : State := let s := slotB 3 [1] keyed; { s with pln := { s.pln with checking := some 1 } }
def toSwitch : State := let s := slotB 7 plainImage flying; { s with pln := { s.pln with target := some (1, false) } }
def toSwitchIdle : State := let s := slotB 7 plainImage up; { s with pln := { s.pln with target := some (1, false) } }
def atInstant : State :=
  { toSwitch with pln := { toSwitch.pln with shadow := some { fly with id := 5 }, instant := some 10312600000 } }
def idleInstant : State :=
  { toSwitchIdle with pln := { toSwitchIdle.pln with shadow := some { fly with id := 5 }, instant := some 10312600000 } }
def switched : State := { flying with pln := { flying.pln with slot := 1, recordDue := true } }

/-! The plan of the image passes every commit check; its tables are all at their Reset values. -/

def plainPlan : Plan :=
  { Plan.empty with id := 4, sections := [1, 11], digest := sliceB plainImage 0x28 32, mem := [⟨4, 0, 0, 0, 0⟩] }
theorem plainImage_parse : parsePlan plainImage = plainPlan := by decide +kernel
def onTrial : State := judged.trial plainPlan
theorem onTrial_rd (a c : Nat) : onTrial.rd (copyKey a c) = resetWord a := by
  have h : onTrial.regs = [] := by decide +kernel
  simp only [State.rd, h, NMap.get, resetWord_copyKey]
theorem onTrial_chains (c : Nat) : onTrial.hasChain c = false := by
  have h : (resetWord Reg.FLT_CH_CFG).get Fd.FLT_CH_CFG_M = 0 := by decide +kernel
  simp [State.hasChain, State.chM, State.chCfg, onTrial_rd, h]
theorem onTrial_chain_good (c : Nat) : onTrial.chainBad c = false := by
  have h1 : (resetWord Reg.FLT_CH_CFG).get Fd.FLT_CH_CFG_H = 0 := by decide +kernel
  have h2 : (resetWord Reg.FLT_CH_OUT).get Fd.FLT_CH_OUT_SPC = 0 := by decide +kernel
  have h3 : (List.range 18).any (fun i => !f32Finite (resetWord (Reg.LIN_COEF i))) = false := by decide +kernel
  simp [State.chainBad, State.chH, State.chCfg, onTrial_chains, onTrial_rd, h1, h2, h3]
theorem onTrial_ref_good (c : Nat) : onTrial.chainRefBad plainPlan c = false := by
  have h : (resetWord Reg.ENV_CH_CFG).get Fd.ENV_CH_CFG_N = 0 := by decide +kernel
  simp [State.chainRefBad, onTrial_rd, onTrial_chains, h]
theorem onTrial_field : onTrial.fieldFail plainPlan = none := by
  unfold State.fieldFail; simp only [onTrial_chain_good, onTrial_chains]; decide +kernel
theorem onTrial_refs : onTrial.refFail plainPlan = none := by
  have h : resetWord Reg.FLT_THR_CFG = 0 := by decide +kernel
  unfold State.refFail State.lineUses; simp only [onTrial_ref_good, onTrial_rd, h]; decide +kernel
theorem plainImage_commits : judged.commitCheck 1 plainImage = none := by
  have a1 : formatBad plainImage = false := by decide +kernel
  have a2 : targetBad plainImage = false := by decide +kernel
  have a3 : lengthBad plainImage = false := by decide +kernel
  have a4 : digestBad plainImage = false := by decide +kernel
  have a5 : judged.sigBad plainImage = false := by decide +kernel
  have a6 : sectionFail plainImage = none := by decide +kernel
  have a7 : plainPlan.liveInit = plainPlan := by decide +kernel
  have c1 : onTrial.shotFail plainPlan = none := by decide +kernel
  have c2 : (if waveOver plainImage then some (2, 0) else onTrial.fibreFail plainPlan) = none := by decide +kernel
  have c3 : onTrial.zoneFail plainPlan = none := by decide +kernel
  have c4 : onTrial.shareFail plainPlan = none := by decide +kernel
  have c5 : onTrial.nodeFail plainPlan = none := by decide +kernel
  have c6 : judged.memoryFail onTrial plainPlan = none := by decide +kernel
  have c7 : judged.uplinkFail plainPlan = none := by decide +kernel
  have c8 : onTrial.loupeFail plainPlan = none := by decide +kernel
  have c10 : judged.pairFail onTrial plainPlan 1 = none := by decide +kernel
  have c11 : startOver plainImage = false := by decide +kernel
  have hp : State.trial judged plainPlan = onTrial := rfl
  simp [State.commitCheck, a1, a2, a3, a4, a5, a6, plainImage_parse, a7, hp, c1, c2, c3, onTrial_field, c4, c5, c6, c7, c8,
    onTrial_refs, c10, c11]

theorem witness_PlanTransfersAndCommits :
    (Accepted (hosted 0 (slotB 1 [1, 2] up)) 0x30 (planMsg 2 [7]) planBody ∧ (hosted 0 (slotB 1 [1, 2] up)).role < 2 ∧
      ((hosted 0 (slotB 1 [1, 2] up)).slot 1).state = 1 ∧
      fieldAt (planMsg 2 [7]).body 4 4 = ((hosted 0 (slotB 1 [1, 2] up)).slot 1).image.length ∧
      fieldAt (planMsg 2 [7]).body 4 4 ≠ 0 ∧ fieldAt (planMsg 2 [7]).body 4 4 + ((planMsg 2 [7]).body.drop 8).length ≤ 16777216) ∧
    (writing.pln.xfers = [⟨1, 2, [3], true, 0, 5⟩] ∧ (writing.slot 1).state ∉ [3, 5, 7]) ∧ ((slotB 2 [1] up).slot 1).state = 2 ∧
    (judged.pln.checking = some 1 ∧ judged.commitCheck 1 (judged.slot 1).image = none) ∧
    (judgedBad.pln.checking = some 1 ∧ judgedBad.commitCheck 1 (judgedBad.slot 1).image = some ⟨0x3001, 0, 0⟩) ∧
    ((slotB 6 [1] up).slot 1).state ∈ [1, 2, 4, 6] ∧ ((toSwitch.slot 1).state = 7 ∧ toSwitch.pln.target = some (1, false)) :=
  ⟨⟨accepted_iff _ _ _ _ (by decide), by decide⟩, by decide, by decide, ⟨rfl, plainImage_commits⟩, by decide, by decide, by decide⟩

theorem plainImage_starts : startCheck plainImage = true := by decide +kernel

theorem witness_PlanSwitchRuns :
    (((slotB 4 plainImage flying).slot 1).state = 4 ∧ (slotB 4 plainImage flying).pln.target = none ∧
      (slotB 4 plainImage flying).partnerReady 1 = true ∧
      (slotB 4 plainImage flying).switchBarred (parsePlan ((slotB 4 plainImage flying).slot 1).image) = false) ∧
    (toSwitchIdle.pln.target = some (1, false) ∧ toSwitchIdle.pln.shadow = none ∧ toSwitchIdle.pln.instant = none ∧
      startCheck (toSwitchIdle.slot 1).image = true ∧ toSwitchIdle.switchBarred (parsePlan (toSwitchIdle.slot 1).image) = false ∧
      toSwitchIdle.mainBoundary = 0) ∧
    (atInstant.pln.target = some (1, false) ∧ atInstant.pln.instant = some 10312600000) ∧ (idleInstant.pln.target = some (1, false) ∧ idleInstant.pln.instant = some 10312600000 ∧ idleInstant.pln.run = none) ∧
    switched.pln.recordDue = true := by
  refine ⟨⟨rfl, rfl, by decide, ?_⟩, ⟨rfl, rfl, rfl, plainImage_starts, ?_, by decide⟩, ⟨rfl, rfl⟩, ⟨rfl, rfl, rfl⟩, rfl⟩
  all_goals (show State.switchBarred _ (parsePlan plainImage) = false; rw [plainImage_parse]; decide +kernel)

/-- The record names slot A, which holds this plan. -/
def planned : State :=
  { starting with nv := { starting.nv with planRec0 := ⟨1, 0, true⟩, slotA := ⟨4, plainImage⟩ } }

theorem witness_StartUpPhases_plan :
    5 ≤ planned.sys.step ∧ planned.sys.planDone = false ∧ planned.recordSlot = some 0 ∧ (planned.slot 0).state = 4 ∧
    startCheck (planned.slot 0).image = true := ⟨by decide, rfl, rfl, rfl, plainImage_starts⟩

theorem witness_OwnerCommandsOfOthersDropped : (3 : Fin 4).val ≠ 0 := by decide

/-! ### Register accesses -/

/-- Latches: accessor C0 holds one of 7 for CLK.SW_LTC_HI. -/
def latched : State := { up with latches := [(latchKey 0 (Reg.CLK_SW_LTC_LO + 4), 7), (latchKey 1 8, 9)] }
/-- Pages locked, and disabled. -/
def lockedPage : State := set up [(Reg.HDR_PAGE_CTRL 0x11, all, 3)]
def closedPage : State := set up [(Reg.HDR_PAGE_CTRL 0x11, all, 0)]
/-- IRQ_RAW of a page has bits; a context waits for their notice. -/
def irqs : State := set (hosted 1 up) [(Reg.HDR_IRQ_RAW 0x11, all, 0x8000000C)]

theorem witness_StepsKeepTheShutterBus :
    ShbOk up ∧ goes (step { up with pending := [.shbTrig 0 3 false] }) = true :=
  ⟨⟨by decide, by decide, rfl, rfl⟩, by decide⟩

theorem witness_ReadClearKeepsTheEvent :
    Readable up (.ctx 0) (Reg.UL_RX_FRAMES 0) ∧ (rowAt (Reg.UL_RX_FRAMES 0)).map RegRow.acc = some .rc ∧
    NoLatch up (.ctx 0) (Reg.UL_RX_FRAMES 0) ∧ Readable up .winch (Reg.SHB_STUCK_EVT) := by
  unfold Readable Reached NoLatch; decide

theorem witness_LatchedPairReads :
    (Readable up (.ctx 0) Reg.CLK_SW_LTC_LO ∧ loReg Reg.CLK_SW_LTC_LO = true) ∧
    (Readable latched (.ctx 0) (Reg.CLK_SW_LTC_LO + 4) ∧ loReg (Reg.CLK_SW_LTC_LO + 4) = false ∧
      latched.latches.find? (fun e => e.1 == latchKey (latched.whoIdx (.ctx 0)) (Reg.CLK_SW_LTC_LO + 4)) =
        some (latchKey (latched.whoIdx (.ctx 0)) (Reg.CLK_SW_LTC_LO + 4), 7)) ∧
    (NoLatch up (.ctx 0) (Reg.CLK_SW_LTC_LO + 4) ∧ NoLatch latched .winch (Reg.CLK_SW_LTC_LO + 4)) := by
  unfold Readable Reached NoLatch; decide

theorem witness_HeaderWrites :
    (Writable irqs (.ctx 0) (Reg.HDR_IRQ_CLR 0x11) ∧ 0x11 < 0x1000 ∧ Writable irqs .winch (Reg.HDR_IRQ_CLR 0x1AF)) ∧
    (Writable irqs (.ctx 1) (Reg.HDR_IRQ_EN_C 0x11 1) ∧ Writable irqs (.ctx 0) (Reg.HDR_IRQ_EN_C 0x11 3)) ∧
    (Reached up (Reg.HDR_PAGE_CTRL 0x11) ∧ Word.bit (up.rd (Reg.HDR_PAGE_CTRL 0x11)) 1 = false) ∧
    (Reached lockedPage (Reg.HDR_PAGE_CTRL 0x11) ∧ Word.bit (lockedPage.rd (Reg.HDR_PAGE_CTRL 0x11)) 1 = true) := by
  unfold Writable Reached; decide

theorem up_ShbOk : ShbOk up := ⟨by decide, by decide, rfl, rfl⟩

theorem witness_RegisterWrites :
    (Writable up (.ctx 0) 0x11060 ∧ (rowAt 0x11060).map (fun r => (r.acc, r.mask)) = some (.rw, 0xFF) ∧ plainReg 0x11060 = true ∧
      up.pln.run = none ∧ rangeOk 0x11060 (up.rd (up.accessKey (up.whoIdx (.ctx 0)) 0x11060)) (5 &&& 0xFF) = true ∧
      up.pointsOk 0x11060 (5 &&& 0xFF) = true) ∧
    (Writable up (.ctx 0) Reg.FEN_RVS_CFG ∧ plainReg Reg.FEN_RVS_CFG = true ∧
      (rowAt Reg.FEN_RVS_CFG).map (fun r => (r.acc, rangeOk Reg.FEN_RVS_CFG
        (up.rd (up.accessKey (up.whoIdx (.ctx 0)) Reg.FEN_RVS_CFG)) (3 &&& r.mask))) = some (.rw, false)) ∧
    (Writable up .winch (Reg.UL_RX_FRAMES 0) ∧ (rowAt (Reg.UL_RX_FRAMES 0)).map RegRow.acc = some .rc ∧
      Writable up (.ctx 0) (Reg.UL_STAT 0) ∧ (rowAt (Reg.UL_STAT 0)).map RegRow.acc = some .ro) ∧
    (Reached closedPage 0x11060 ∧ 0x11060 % 0x1000 ≠ 8 ∧ Word.bit (closedPage.rd (Reg.HDR_PAGE_CTRL (0x11060 / 0x1000))) 0 = false) ∧
    (Reached up 0x11060 ∧ (2 : Fin 4).val ≠ 0 ∧ 0x40 ≤ 0x11060 % 0x1000 ∧ ownerError 0x11060 = none ∧
      up.mayAccess 2 (0x11060 / 0x1000) true = false) ∧
    (up.fabricUp = true ∧ 0xFFFFFC % 4 = 0 ∧ 0xFFFFFC < 0x1000000 ∧ pageRows (0xFFFFFC / 0x1000) = none) := by
  unfold Writable Reached; decide

/-- A running plan with one live field: bits 0 to 7 of FEN 0x60, from 0x10 to 0x30. -/
def liveEnt : LiveEnt := ⟨0x11, 0x60, 0, 8, 1, 0x20, 0x10, 0x30⟩
def live : State := { flying with pln := { flying.pln with run := some { fly with live := [liveEnt] } } }

theorem witness_LiveWrites :
    (Writable live (.ctx 0) 0x11060 ∧ (rowAt 0x11060).map RegRow.acc = some .rw ∧ 0x40 ≤ 0x11060 % 0x1000 ∧
      planKey (live.accessKey 0 0x11060) = true ∧ rangeOk 0x11060 (live.rd 0x11060) 0x25 = true ∧
      live.pointsOk 0x11060 0x25 = true) ∧
    ([liveEnt].filter (fun e => 0x1000 * e.page + e.off == 0x11060) = [liveEnt] ∧
      (∀ b, b < 32 → Word.bit (live.rd 0x11060) b ≠ Word.bit 0x40 b → liveEnt.lsb ≤ b ∧ b < liveEnt.lsb + liveEnt.width) ∧
      (0x25 : Word).get ⟨0, 8⟩ ≠ (live.rd 0x11060).get ⟨0, 8⟩ ∧ liveEnt.takes ((0x25 : Word).get ⟨0, 8⟩) = true ∧
      liveEnt.takes 0x30 = true ∧ liveEnt.takes 0x31 = false) ∧
    ([liveEnt].filter (fun e => 0x1000 * e.page + e.off == 0x11064) = [] ∧ Writable live (.ctx 0) 0x11064 ∧
      (rowAt 0x11064).map (fun r => (r.acc, decide (live.rd (live.accessKey 0 0x11064) ≠ 1 &&& r.mask),
        rangeOk 0x11064 (live.rd (live.accessKey 0 0x11064)) (1 &&& r.mask), live.pointsOk 0x11064 (1 &&& r.mask))) =
        some (.rw, true, true, true) ∧ planKey (live.accessKey 0 0x11064) = true) ∧
    (0x11060 ≠ Reg.CTX_MASK_DATA ∧ 0x11064 ≠ Reg.CTX_MASK_DATA ∧ live.pln.run.isSome = true ∧
      (0x31 : Word).get ⟨0, 8⟩ ≠ (live.rd 0x11060).get ⟨0, 8⟩ ∧ live.pointsOk 0x11060 (live.rd (live.accessKey 0 0x11060)) = true) := by
  unfold Writable Reached; decide

/-- A latched record of the snapshot window; popped bytes; banks of scratch memory owned. -/
def snapped : State := { up with
  fib := { up.fib with snap := [(0, (1572863, 5 * 2 ^ 32 + 9))], pss := [(262143, [1, 2, 3, 4, 5, 6])] }
  pops := [(0, { PopView.init with data := [1, 2, 3, 4, 5] })] }
def banks : State := set up [(Reg.MEM_OWN 0, all, 0x10), (Reg.MEM_RETAINED, all, 6)]
/-- The management port serves C0. -/
def mgmt0 : State := set up [(Reg.SYS_STAT, Fd.SYS_STAT_STRAP_MGMT, 3)]

theorem witness_WindowAndSpecialAccesses :
    (snapped.fabricUp = true ∧ (Accessor.ctx 0) ≠ .mgmt ∧ 1572863 < 1572864 ∧
      snapped.mayAccess (snapped.whoIdx (.ctx 0)) 0x12 false = true) ∧
    (NMap.get (fun _ => (2 ^ 32, 0)) up.fib.snap (up.whoIdx (.ctx 0))).1 ≠ 1572863 ∧
    NMap.get (fun _ => (2 ^ 32, 0)) snapped.fib.snap (snapped.whoIdx (.ctx 0)) = (1572863, 5 * 2 ^ 32 + 9) ∧
    (Writable banks (.ctx 0) Reg.MEM_BALLAST ∧ banks.bankFree 0 = false ∧ banks.bankFree 1 = true) := by
  unfold Writable Reached; decide

def readMsg : SlzMsg := msg 0 (le4 0x11010 ++ le2 1 ++ le2 0)
def readTwo : SlzMsg := msg 0 (le4 0x11060 ++ le2 2 ++ le2 0)
def readFar : SlzMsg := msg 0 (le4 0x11011 ++ le2 1 ++ le2 0)
def writeMsg : SlzMsg := msg 0 (le4 0x11060 ++ le2 1 ++ le2 0 ++ le4 0x33)
def writeFar : SlzMsg := msg 0 (le4 0x11061 ++ le2 1 ++ le2 0 ++ le4 0x33)

theorem read_quiet (s : State) (who : Accessor) (h : Readable s who 0x11060 ∧ NoLatch s who 0x11060 ∧ s.openReg 0x11060 = none)
    (h' : Readable s who 0x11064 ∧ NoLatch s who 0x11064 ∧ s.openReg 0x11064 = none) :
    ∀ i, i < 2 → QuietRead s who (0x11060 + 4 * i) := by
  intro i hi
  have acc : ∀ a, (rowAt a).map RegRow.acc = some .rw → ∀ r, rowAt a = some r → r.acc ≠ .rc := by
    intro a e r hr hc; rw [hr] at e; simp [hc] at e
  rcases i with _ | _ | i
  · exact ⟨h.1, h.2.1, by decide, by decide, h.2.2, acc _ (by decide)⟩
  · exact ⟨h'.1, h'.2.1, by decide, by decide, h'.2.2, acc _ (by decide)⟩
  · omega

theorem witness_BlocksOfWords :
    (Accepted (hosted 0 up) 0x10 readTwo readBody ∧ readTwo.ctx = (0 : Fin 4).val ∧
      blockOkay (fieldAt readTwo.body 0 4) (fieldAt readTwo.body 4 2) = true ∧
      (∀ i, i < fieldAt readTwo.body 4 2 → QuietRead (heard (hosted 0 up) readTwo) (.ctx 0) (fieldAt readTwo.body 0 4 + 4 * i))) ∧
    (Accepted (hosted 0 up) 0x10 readMsg readBody ∧ Accepted (hosted 0 up) 0x10 readFar readBody ∧
      blockOkay (fieldAt readFar.body 0 4) (fieldAt readFar.body 4 2) = false) ∧
    (Accepted (hosted 0 up) 0x11 writeMsg writeBody ∧ (hosted 0 up).role < 2 ∧ ShbOk (hosted 0 up) ∧
      blockOkay (fieldAt writeMsg.body 0 4) (fieldAt writeMsg.body 4 2) = true ∧
      ((wordsDone (hosted 0 up) writeMsg []).2.2.session writeMsg.ctx).isSome = true) ∧
    (Accepted (hosted 0 up) 0x11 writeFar writeBody ∧ blockOkay (fieldAt writeFar.body 0 4) (fieldAt writeFar.body 4 2) = false) ∧
    (writeMsg.ctx < 4 ∧ fieldAt writeMsg.body 4 2 = 1 ∧ (∀ c : Fin 4, c.val = writeMsg.ctx → Writable (hosted 0 up) (.ctx c) 0x11060) ∧
      fieldAt writeMsg.body 0 4 = 0x11060 ∧ (rowAt 0x11060).map (fun r => (r.acc, r.mask)) = some (.rw, 0xFF) ∧
      plainReg 0x11060 = true ∧ (hosted 0 up).accessKey writeMsg.ctx 0x11060 = 0x11060 ∧
      rangeOk 0x11060 ((hosted 0 up).rd 0x11060) (w32 (fieldAt writeMsg.body 8 4) &&& 0xFF) = true ∧
      (hosted 0 up).pointsOk 0x11060 (w32 (fieldAt writeMsg.body 8 4) &&& 0xFF) = true ∧ (hosted 0 up).pln.run = none) ∧
    (Accepted (hosted 0 standby) 0x11 writeMsg writeBody ∧ 2 ≤ (hosted 0 standby).role ∧ ShbOk (hosted 0 standby)) ∧
    (mgmt0.fabricUp = true ∧ blockOkay 0x11060 2 = true ∧ blockOkay 0x11061 2 = false ∧ 0x11060 + 4 * 2 ≤ 0x1000000 ∧
      (∀ i, i < min 2 2 → QuietRead mgmt0 .mgmt (0x11060 + 4 * i))) ∧
    (Writable mgmt0 .mgmt 0x11060 ∧ mgmt0.accessKey mgmt0.mgmtCtx 0x11060 = 0x11060 ∧ mgmt0.pln.run = none ∧ ShbOk mgmt0 ∧
      ([5, 0, 0, 0] : List Byte).length = 4 ∧ rangeOk 0x11060 (mgmt0.rd 0x11060) (w32 (leNat [5, 0, 0, 0]) &&& 0xFF) = true ∧
      mgmt0.pointsOk 0x11060 (w32 (leNat [5, 0, 0, 0]) &&& 0xFF) = true) := by
  refine ⟨⟨accepted_iff _ _ _ _ (by decide), rfl, by decide, ?_⟩, ⟨accepted_iff _ _ _ _ (by decide), accepted_iff _ _ _ _ (by decide), by decide⟩,
    ⟨accepted_iff _ _ _ _ (by decide), by decide, ⟨by decide, by decide, rfl, rfl⟩, by decide, by decide⟩,
    ⟨accepted_iff _ _ _ _ (by decide), by decide⟩, ?_, ⟨accepted_iff _ _ _ _ (by decide), by decide, ⟨by decide, by decide, rfl, rfl⟩⟩,
    ⟨by decide, by decide, by decide, by decide, ?_⟩, ?_, by decide, by decide, ⟨by decide, by decide, rfl, rfl⟩, by decide⟩
  · rw [show fieldAt readTwo.body 4 2 = 2 from by decide, show fieldAt readTwo.body 0 4 = 0x11060 from by decide]
    apply read_quiet <;> (dsimp only [Readable, NoLatch, Reached]; decide)
  · dsimp only [Writable, Reached]; decide
  · apply read_quiet <;> (dsimp only [Readable, NoLatch, Reached]; decide)
  · dsimp only [Writable, Reached]; decide

/-! ### Shutter bus and capture -/

/-- Line 3 open for input 1 and scheduler 2; the input's level 0; armed scheduler due now, and one repeating. -/
def lines : State := set flying [(Reg.SHB_LINE_CFG 3, Fd.SHB_LINE_CFG_EN, 1), (Reg.SHB_LINE_CFG 3, Fd.SHB_LINE_CFG_WIDTH, 100),
  (Reg.SHB_IN_CFG 1, Fd.SHB_IN_CFG_EN, 1), (Reg.SHB_IN_CFG 1, Fd.SHB_IN_CFG_EDGE, 3), (Reg.SHB_IN_CFG 1, Fd.SHB_IN_CFG_LINE, 3),
  (Reg.SHB_IN_CFG 1, Fd.SHB_IN_CFG_STUCK, 5), (Reg.SHB_IN_DLY 1, Fd.SHB_IN_DLY_IN_DLY, 0xFFF0)]
def stuckIn : State := { lines with shb := { lines.shb with inState := [false, true, false, false] } }
def stuckOn : State := { stuckIn with shb := { stuckIn.shb with inStuck := [false, true, false, false] } }
def edge : ShutEdge := ⟨1, true, 10312499990⟩

theorem witness_ShutterInputsAndLines :
    (ShbOk lines ∧ (lines.rd (Reg.SHB_IN_CFG 1)).get Fd.SHB_IN_CFG_EN = 1 ∧ true ≠ nth lines.shb.inState 1 false ∧
      nth lines.shb.inStuck 1 false = false ∧ LineOpen lines ((lines.rd (Reg.SHB_IN_CFG 1)).get Fd.SHB_IN_CFG_LINE) ∧
      lines.rf (Reg.SHB_LINE_CFG 3) Fd.SHB_LINE_CFG_WIDTH ≠ 0) ∧
    (ShbOk stuckOn ∧ nth stuckOn.shb.inState 1 false = true) ∧
    (ShbOk stuckIn ∧ stuckIn.flag (Reg.SHB_IN_CFG 1) Fd.SHB_IN_CFG_EN = true ∧ nth stuckIn.shb.inState 1 false = true ∧
      nth stuckIn.shb.inStuck 1 false = false ∧ stuckIn.rf (Reg.SHB_IN_CFG 1) Fd.SHB_IN_CFG_STUCK ≠ 0) ∧
    lines.lineState 15 = false :=
  ⟨⟨⟨by decide, by decide, rfl, rfl⟩, by unfold LineOpen; decide⟩, ⟨⟨by decide, by decide, rfl, rfl⟩, by decide⟩,
    ⟨⟨by decide, by decide, rfl, rfl⟩, by decide⟩, by decide⟩

/-- Scheduler 2 due now with two triggers left, repeating, not enabled yet; a host trigger that waits. -/
def sched : State := set { lines with shb := { lines.shb with armed := [true, true, true, true, true, true, true, true] } }
  [(Reg.SHB_SCHED_CFG 2, Fd.SHB_SCHED_CFG_EN, 1), (Reg.SHB_SCHED_CFG 2, Fd.SHB_SCHED_CFG_LINE, 3), (Reg.SHB_SCHED_LEFT 2, all, 2),
   (Reg.SHB_SCHED_AT 2, all, 10312500024 % 2 ^ 32), (Reg.SHB_SCHED_PER 2, all, 5000), (Reg.SHB_CMD_AT, all, 10312500001 % 2 ^ 32)]
def schedIdle : State := { lines with pln := { lines.pln with run := none } }
def schedRep : State := set schedIdle [(Reg.SHB_SCHED_CFG 2, Fd.SHB_SCHED_CFG_EN, 1), (Reg.SHB_SCHED_CFG 2, Fd.SHB_SCHED_CFG_LINE, 3),
  (Reg.SHB_SCHED_CFG 2, Fd.SHB_SCHED_CFG_REPEAT, 1), (Reg.SHB_SCHED_PER 2, all, 5000)]
def schedNot : State := set schedIdle [(Reg.SHB_SCHED_AT 2, all, 10312500001 % 2 ^ 32), (Reg.SHB_CMD_AT, all, 10312500001 % 2 ^ 32)]
def cmdWait : State := { lines with shb := { lines.shb with cmdAt := [(1, 3, w32 10312500000)] } }
def schedOn : Word := (((0 : Word).put Fd.SHB_SCHED_CFG_EN 1).put Fd.SHB_SCHED_CFG_LINE 3).put Fd.SHB_SCHED_CFG_COUNT 7

theorem witness_SchedulersAndHostTriggers :
    (ShbOk sched ∧ sched.schedReady 2 = true ∧ reached (sched.now + 24) (sched.rd (Reg.SHB_SCHED_AT 2)) = true ∧
      LineOpen sched (sched.rf (Reg.SHB_SCHED_CFG 2) Fd.SHB_SCHED_CFG_LINE)) ∧
    (ShbOk schedNot ∧ Writable schedNot (.ctx 0) (Reg.SHB_SCHED_CFG 2) ∧ schedNot.pln.run = none ∧
      (rowAt (Reg.SHB_SCHED_CFG 2)).map (fun r => schedOn &&& r.mask) = some schedOn ∧
      rangeOk (Reg.SHB_SCHED_CFG 2) (schedNot.rd (Reg.SHB_SCHED_CFG 2)) schedOn = true ∧
      (schedNot.rd (Reg.SHB_SCHED_CFG 2)).get Fd.SHB_SCHED_CFG_EN = 0 ∧ schedOn.get Fd.SHB_SCHED_CFG_EN = 1 ∧
      reached schedNot.now (schedNot.rd (Reg.SHB_SCHED_AT 2)) = false) ∧
    (ShbOk schedNot ∧ Writable schedNot (.ctx 0) (Reg.SHB_SCHED_AT 2) ∧ reached schedNot.now (w32 10312500001) = false) ∧
    (ShbOk schedRep ∧ Writable schedRep (.ctx 0) (Reg.SHB_SCHED_AT 2) ∧ schedRep.pln.run = none ∧
      reached schedRep.now (w32 10312500000) = true ∧ schedRep.flag (Reg.SHB_SCHED_CFG 2) Fd.SHB_SCHED_CFG_EN = true ∧
      schedRep.flag (Reg.SHB_SCHED_CFG 2) Fd.SHB_SCHED_CFG_REPEAT = true ∧
      LineOpen schedRep (schedRep.rf (Reg.SHB_SCHED_CFG 2) Fd.SHB_SCHED_CFG_LINE)) ∧
    (LineOpen lines 3 ∧ reached sched.now (sched.rd Reg.SHB_CMD_AT) = false) ∧
    (ShbOk cmdWait ∧ cmdWait.shb.cmdAt = [(1, 3, w32 10312500000)] ∧ reached cmdWait.now (w32 10312500000) = true ∧
      LineOpen cmdWait 3) := by
  refine ⟨⟨⟨by decide, by decide, rfl, rfl⟩, ?_⟩, ⟨⟨by decide, by decide, rfl, rfl⟩, ?_⟩, ⟨⟨by decide, by decide, rfl, rfl⟩, ?_⟩,
    ⟨⟨by decide, by decide, rfl, rfl⟩, ?_⟩, ?_, ⟨⟨by decide, by decide, rfl, rfl⟩, ?_⟩⟩
  all_goals (dsimp only [LineOpen, Writable, Reached]; decide)

/-- Unit 5 has a segment to copy; its plan gives its SEGMENT record a lane, or there is no plan. -/
def segment : Segment := ⟨List.replicate 32 7, 10312000000, 64, 2, 16, 0⟩
def segRoute : RouteEnt := ⟨6, 5, 0, 32, 0, 0, false⟩
def copying : State := { flying with
  units := [(5, { CapUnit.init with copies := [segment] })]
  pln := { flying.pln with run := some { fly with routes := [segRoute], spools := [⟨0, 1, 0, 0, 0, 0⟩] } } }
def copyingIdle : State := { copying with pln := { copying.pln with run := none } }

theorem witness_SegmentsAreCopied :
    ((copying.unit 5).copies = [segment] ∧ findRoute { fly with routes := [segRoute], spools := [⟨0, 1, 0, 0, 0, 0⟩] } 6 5 5 = some segRoute) ∧
    ((copyingIdle.unit 5).copies = [segment] ∧ copyingIdle.pln.run = none ∧
      ([1, 2].any (fun i => decide (i < segment.items))) = true) ∧ (copying.unit 31).copies = [] := by decide

/-! ### Schedules, launches and the head -/

/-- Before a shot: launching, not launching; parked; on a standby. -/
def shots : State := set flying [(Reg.OFE_STAT, Fd.OFE_STAT_LAS_EN, 1), (Reg.OFE_STAT, Fd.OFE_STAT_LAS_READY, 1),
  (Reg.OFE_STAT, Fd.OFE_STAT_ILK, 0), (Reg.TMP_CFG, Fd.TMP_CFG_DEPTH_EXP, 2),
  (Reg.FEN_POINTS, Fd.FEN_POINTS_N, 4), (Reg.OFE_RMN_TRIG, Fd.OFE_RMN_TRIG_WIDTH, 10), (Reg.OFE_RMN_TRIG, Fd.OFE_RMN_TRIG_LEAD, 5),
  (Reg.TMP_POSITIONS, Fd.TMP_POSITIONS_P, 8), (Reg.PSS_SCRUB_CFG, Fd.PSS_SCRUB_CFG_PERIOD, 9)]
def shotsPark : State := { shots with clk := { shots.clk with parkClk := true } }

theorem witness_BoundariesAdvanceTheSchedules :
    (ShbOk shots ∧ shots.shotPeriod ≠ 0 ∧ shots.pln.instant = none ∧ shots.role = 0 ∧ shots.parked = false ∧
      shots.clk.parkAsk = false ∧ shots.sys.pfw = false ∧ shots.pln.target = none ∧ shots.pln.live = [] ∧
      shots.schedulesShots = true ∧ shots.fenActive = true ∧
      shots.quiet (shots.atPeriod shots.sched.shotNo shots.shotPeriod) = false) ∧
    (ShbOk shotsPark ∧ shotsPark.role = 0 ∧ shotsPark.parked = true) ∧
    (shots.fieldTick ≠ 0 ∧ shots.hasSection 5 = true ∧ shots.superframe ≠ 0) :=
  ⟨⟨⟨by decide, by decide, rfl, rfl⟩, by decide⟩, ⟨⟨by decide, by decide, rfl, rfl⟩, by decide⟩, by decide⟩

/-- Mode Q-stagger after the first slot of shot 0; a shot of the Raman path under way. -/
def stagger : State := set { shots with sched := { shots.sched with shotNo := 1 }, fib := { shots.fib with cur := { FibRun.init with live := true } } }
  [(Reg.FEN_CFG, Fd.FEN_CFG_MODE, 3)]
/-- The windows of a shot that have not ended: the last one, and one before it. -/
def window : State := { shots with ofe := { shots.ofe with wins := [(10312502000, false), (10312503000, true)] } }
def windowLast : State := { shots with ofe := { shots.ofe with wins := [(10312503000, true)], rxLow := [15, 15] } }

def staggerIlk : State := set stagger [(Reg.OFE_STAT, Fd.OFE_STAT_ILK, 1)]

theorem witness_LaunchesAndWindows :
    (ShbOk stagger ∧ stagger.shotPeriod ≠ 0 ∧ stagger.fenMode = 3 ∧ stagger.fenActive = true ∧ stagger.parked = false ∧
      stagger.pln.instant = none ∧ stagger.role < 2 ∧ stagger.fib.cur.slot < 3 ∧ stagger.fib.cur.shotNo + 1 = stagger.sched.shotNo ∧
      stagger.quiet (stagger.slotLaunch (stagger.fib.cur.slot + 1)) = false) ∧
    (shots.schedulesShots = true ∧ shots.parked = false ∧ shots.pln.instant = none ∧ shots.endsAt (shots.slotLaunch 0) = false ∧
      shots.quiet (shots.slotLaunch 0) = false ∧
      (shots.advance (BitVec.ofInt 64 (Int.fdiv (2 * (((shots.slotLaunch 0).toNat : Int) - shots.dTx) - (shots.waveLen 0 / 2 : Nat)) 2))).launches = true) ∧
    (stagger.schedulesShots = true ∧ stagger.quiet (stagger.slotLaunch 2) = false ∧ stagger.ofe.dark = false ∧ stagger.drives = true ∧
      stagger.flag Reg.OFE_STAT Fd.OFE_STAT_ILK = false ∧ staggerIlk.flag Reg.OFE_STAT Fd.OFE_STAT_ILK = true) ∧
    (shots.takesPart shots.sched.shotNo = true ∧ shots.quiet (shots.atPeriod shots.sched.shotNo shots.shotPeriod) = false ∧ shots.rf Reg.OFE_RMN_TRIG Fd.OFE_RMN_TRIG_WIDTH ≠ 0 ∧
      (shots.advance (shots.atPeriod shots.sched.shotNo shots.shotPeriod -
        BitVec.ofNat 64 (shots.rf Reg.OFE_RMN_TRIG Fd.OFE_RMN_TRIG_LEAD))).launches = true ∧
      (shots.advance (shots.atPeriod shots.sched.shotNo shots.shotPeriod -
        BitVec.ofNat 64 (shots.rf Reg.OFE_RMN_TRIG Fd.OFE_RMN_TRIG_LEAD))).endsAt (shots.atPeriod shots.sched.shotNo shots.shotPeriod) = false) ∧
    (window.ofe.wins = [(10312502000, false), (10312503000, true)] ∧ window.mSt mCalRx = 0 ∧ (∀ e ∈ window.ofe.elems, e.ready = none) ∧
      (window.rd Reg.OFE_CLIP_RX).toNat + 3 < 2 ^ 32) ∧
    (windowLast.ofe.wins = [(10312503000, true)] ∧ windowLast.mSt mCalRx = 0 ∧ (∀ e ∈ windowLast.ofe.elems, e.ready = none) ∧
      windowLast.ofe.rxLow.any (fun n => decide (15 ≤ n)) = true ∧ windowLast.flag Reg.OFE_STAT Fd.OFE_STAT_RX_STUCK = false) :=
  ⟨⟨⟨by decide, by decide, rfl, rfl⟩, by decide⟩, by decide, by decide, by decide, by decide, by decide⟩

/-- Shot 0 of Raman: position 1, one shot accumulated; an interval that waits. -/
def raman : State := { shots with tmp := { shots.tmp with shot := some (0, 10312600000), pos := 1, cur := { RmnInt.init with shots := 1 } } }
def ramanLast : State := { raman with tmp := { raman.tmp with pos := 7 } }
def ramanDark : State := { ramanLast with ofe := { ramanLast.ofe with dark := true } }
def rmnWait : State := { shots with tmp := { shots.tmp with conv := [{ RmnInt.init with shots := 1 }] } }
def running : State := { shots with fib := { shots.fib with cur := { FibRun.init with live := true, slot := 0, next := 1, launch := 10312600000 } } }
def scrubEnd : State := { shots with fib := { shots.fib with scrub := scrubWords - 1 } }

theorem witness_FibreAndRamanData :
    (ShbOk running ∧ running.role = 0 ∧ running.pai.digestDue = none ∧ running.fib.older = [] ∧ running.fib.cur.regs = [] ∧ running.fib.cur.live = true ∧
      running.fib.cur.slot = (0 : Fin 4).val ∧ running.fib.cur.next + 1 < running.fenN) ∧
    (shots.rf Reg.PSS_SCRUB_CFG Fd.PSS_SCRUB_CFG_PERIOD ≠ 0 ∧ scrubEnd.fib.scrub + 1 = scrubWords) ∧
    (raman.role = 0 ∧ raman.tmp.shot = some (0, 10312600000) ∧ raman.ofe.dark = false ∧ raman.tmp.pos + 1 ≠ raman.rmnP ∧
      raman.tmp.cur.shots ≠ 0 ∧
      ramanLast.tmp.shot = some (0, 10312600000) ∧ ramanLast.tmp.pos + 1 = ramanLast.rmnP ∧ ramanLast.rmnLast 0 = false ∧
      ramanLast.mSt mCalRx = 0 ∧ (∀ e ∈ ramanLast.ofe.elems, e.ready = none) ∧ ramanDark.ofe.dark = true ∧ 0 < (1 : Fin 4096).val ∧ (4094 : Fin 4096).val < 4095) ∧
    rmnWait.tmp.conv = [{ RmnInt.init with shots := 1 }] :=
  ⟨⟨⟨by decide, by decide, rfl, rfl⟩, by decide⟩, by decide, by decide, by decide⟩

/-- A head SPI transaction of the host, first and second attempt; busy; lengths set. -/
def hspi1 (k : Nat) : State := set { up with ofe := { up.ofe with hspi := some ⟨[1, 2], 4, k, false⟩ } }
  [(Reg.OFE_STAT, Fd.OFE_STAT_HSPI_BUSY, 1), (Reg.OFE_HEAD_CFG, Fd.OFE_HEAD_CFG_HSPI_CHK, 1)]
def hspiSet : State := set up [(Reg.OFE_HSPI_LEN, Fd.OFE_HSPI_LEN_TX_LEN, 2), (Reg.OFE_HSPI_LEN, Fd.OFE_HSPI_LEN_RX_LEN, 4)]
def hspiScript : State := { hspi1 1 with ofe := { up.ofe with hspi := some ⟨[1, 2], 4, 2, true⟩ } }
def scripted : State := { flying with pln := { flying.pln with run := some { fly with script := [⟨2, 0, [1, 2]⟩, ⟨1, 1, [3]⟩] } } }
def goodReply : List Byte := [1, 2, 3, 4] ++ by1 (crc8 [1, 2, 3, 4])

theorem witness_HeadSpiTransactions :
    ((hspi1 1).flag Reg.OFE_STAT Fd.OFE_STAT_HSPI_BUSY = true) ∧
    (up.flag Reg.OFE_STAT Fd.OFE_STAT_HSPI_BUSY = false ∧ up.rf Reg.OFE_HSPI_LEN Fd.OFE_HSPI_LEN_TX_LEN = 0 ∧
      up.rf Reg.OFE_HSPI_LEN Fd.OFE_HSPI_LEN_RX_LEN = 0 ∧ hspiSet.rf Reg.OFE_HSPI_LEN Fd.OFE_HSPI_LEN_TX_LEN ≠ 0) ∧
    ((hspi1 1).ofe.hspi = some ⟨[1, 2], 4, 1, false⟩ ∧ (hspi1 1).ofe.script = [] ∧ byteAt goodReply 4 = crc8 (sliceB goodReply 0 4) ∧
      (hspi1 1).rf Reg.OFE_HEAD_CFG Fd.OFE_HEAD_CFG_HSPI_CHK ≠ 0 ∧ byteAt [1] 4 ≠ crc8 (sliceB [1] 0 4) ∧
      (hspi1 2).ofe.hspi = some ⟨[1, 2], 4, 2, false⟩) ∧
    (hspiScript.ofe.hspi = some ⟨[1, 2], 4, 2, true⟩ ∧ hspiScript.rf Reg.OFE_HEAD_CFG Fd.OFE_HEAD_CFG_HSPI_CHK = 1 ∧
      byteAt [1] 4 ≠ crc8 (sliceB [1] 0 4)) ∧
    (scripted.flag Reg.OFE_STAT Fd.OFE_STAT_HSPI_BUSY = false ∧ scripted.headPlan.isSome = true ∧ scripted.headShots = true) ∧
    (flying.headShots = true ∧ fly.script = []) := by decide

/-- The interlock open; the laser enabled and a pulse being played. -/
def ilkOpen : State := set shots [(Reg.OFE_STAT, Fd.OFE_STAT_ILK, 1)]
def pulsing : State := { running with
  sched := { running.sched with shotNo := 1 }, ofe := { running.ofe with pulseTo := some 10312500100, pulse := some (0, 0) } }
def notReady : State := set shots [(Reg.OFE_STAT, Fd.OFE_STAT_LAS_READY, 0)]

theorem witness_LaserAndInterlock :
    ilkOpen.flag Reg.OFE_STAT Fd.OFE_STAT_ILK = true ∧
    (shots.flag Reg.OFE_STAT Fd.OFE_STAT_ILK = false ∧ shots.ilkCuts = false) ∧
    (pulsing.flag Reg.OFE_STAT Fd.OFE_STAT_ILK = false ∧ pulsing.ilkCuts = true ∧ pulsing.fib.cur.shotNo = pulsing.shotNow ∧
      pulsing.rd Reg.OFE_DARK_SHOTS ≠ 0xFFFFFFFF) ∧
    shots.flag Reg.OFE_STAT Fd.OFE_STAT_LAS_READY = true ∧
    (notReady.flag Reg.OFE_STAT Fd.OFE_STAT_LAS_EN = true ∧ notReady.flag Reg.OFE_STAT Fd.OFE_STAT_LAS_READY = false) := by decide

/-! ### Field die -/

/-- Field ticks with converter 1 at work: channel 10 is excited and used, channel 11 off; an injected request waits for 10. -/
def field : State := set { flying with fld := { flying.fld with lastHold := some 10312495000, inj := [⟨10, 5, 1, none, 0⟩] } }
  [(Reg.FLD_CONV_STAT, ⟨4, 2⟩, 1), (Reg.FCH_CFG 10, Fd.FCH_CFG_CONN, 2), (Reg.FCH_CFG 15, Fd.FCH_CFG_CONN, 2),
   (Reg.THC_OUT_CFG 4, Fd.THC_OUT_CFG_LATCH, 1), (Reg.THC_OUT_CFG 4, Fd.THC_OUT_CFG_MODE, 1), (Reg.THC_LATCHED, all, 16),
   (Reg.THC_CFG, Fd.THC_CFG_BANDS, 1), (Reg.FCH_LIM_CFG 10, all, 1)]

/-- Channel 10 with a loop, powered, of at least 1 mA; a current source at its limit. -/
def loop : State := set field [(Reg.FCH_CFG 10, Fd.FCH_CFG_CONN, 6), (Reg.FCH_CFG 10, Fd.FCH_CFG_LOOP_PWR, 1),
  (Reg.FCH_DIAG 10, Fd.FCH_DIAG_LOOP_MIN, 10)]
def looped : LoopObs := ⟨true, none⟩

theorem witness_FieldConversionsAndWires :
    (ShbOk field ∧ field.fld.lastHold = some 10312495000 ∧ field.parked = false ∧ field.fieldTick ≠ 0 ∧ 9 < field.fieldTick / 500 ∧
      field.convMode 1 = 1 ∧ field.conn (8 * 1 + 2) ≠ 0 ∧ nth field.fld.outTick 1 false = false ∧
      field.convInjRunning 1 = false ∧ field.injFor 1 9 = some ⟨10, 5, 1, none, 0⟩) ∧
    (field.loopFound 10 looped = true ∧ field.role ≠ 2 ∧ (field.fch 10).openL = 0 ∧ field.rd (Reg.FCH_OPEN_EVT 10) ≠ 0xFFFFFFFF) ∧
    (loop.conn 10 = 6 ∧ loop.flag (Reg.FCH_CFG 10) Fd.FCH_CFG_LOOP_PWR = true ∧
      100 * loop.rf (Reg.FCH_DIAG 10) Fd.FCH_DIAG_LOOP_MIN ≤ 5000) ∧
    (field.fch 10).inSafe = false :=
  ⟨⟨⟨by decide, by decide, rfl, rfl⟩, by decide⟩, by decide, by decide⟩

def inject (ch src tag : Nat) : Word := (((0 : Word).put Fd.FLD_INJ_CMD_CH ch).put Fd.FLD_INJ_CMD_SRC src).put Fd.FLD_INJ_CMD_TAG tag
/-- Ticks of eight slots; the injected conversion runs; the class idle, calibrating converter 1, or all from 1 on. -/
def fullTicks : State := { field with pln := { field.pln with run := some { fly with fieldTick := 4000 } } }
def injecting : State := { field with fld := { field.fld with inj := [⟨10, 5, 1, some 10312495000, 0⟩] } }
def injectPair : State := { active with fld := injecting.fld }
def calReady : State := set field [(Reg.MNT_CFG, ⟨8 + mCalFld, 1⟩, 1)]
def calibrating : State := set { field with
    mnt := { field.mnt with st := setAt field.mnt.st mCalFld 2 }, fld := { field.fld with calTurn := 1, calOne := some 1, inj := [] } }
  [(Reg.FLD_CONV_STAT, ⟨4, 2⟩, 2), (Reg.FLD_TEMP_CAL, all, 0), (Reg.FLD_RECAL_CFG, Fd.FLD_RECAL_CFG_DT, 4)]
def calAll : State := { calibrating with fld := { calibrating.fld with calOne := none } }
def recovering : State := { field with fld := { field.fld with
  recovering := setAt field.fld.recovering 1 true, failAt := setAt field.fld.failAt 1 [10312490000, 10312480000] } }

theorem witness_FieldInjectionAndCalibration :
    ((inject 10 3 5).get Fd.FLD_INJ_CMD_SRC = 3 ∧ (inject 10 1 5).get Fd.FLD_INJ_CMD_SRC ≠ 3 ∧ field.role ≠ 2 ∧
      (inject 15 1 5).get Fd.FLD_INJ_CMD_CH = 15 ∧ fullTicks.injSlot 15 = false ∧ fullTicks.role ≠ 2 ∧ field.injSlot 10 = true ∧
      field.fld.inj.any (fun q => q.ch / 8 == 10 / 8) = true ∧ field.injSlot 20 = true ∧
      field.fld.inj.any (fun q => q.ch / 8 == 20 / 8) = false) ∧
    (injecting.fld.inj.find? (fun q => q.ch / 8 == 1 && q.hold.isSome) = some ⟨10, 5, 1, some 10312495000, 0⟩ ∧
      injecting.fld.deferred = false ∧ injecting.rd Reg.FLD_INJ_COUNT ≠ 0xFFFFFFFF ∧ injecting.paired = false ∧
      injecting.convMode 1 ≠ 3) ∧
    (injectPair.paired = true ∧ injectPair.fld.deferred = false ∧ injectPair.fld.inj = injecting.fld.inj) ∧
    (calReady.mEnabled mCalFld = true ∧ calReady.mSt mCalFld = 0 ∧ calReady.mFree mCalFld = true ∧
      calReady.sys.restarting = false ∧ calReady.convInjRunning 1 = false ∧ calReady.convMode 1 ≠ 3) ∧
    (calibrating.mSt mCalFld ≠ 0 ∧ dtReached 5000 (signed 16 (calibrating.rd Reg.FLD_TEMP_CAL).toNat)
        (calibrating.rf Reg.FLD_RECAL_CFG Fd.FLD_RECAL_CFG_DT) = true ∧
      dtReached (signed 16 (calibrating.rd Reg.FLD_TEMP_NOW).toNat) (signed 16 (calibrating.rd Reg.FLD_TEMP_CAL).toNat)
        (calibrating.rf Reg.FLD_RECAL_CFG Fd.FLD_RECAL_CFG_DT) = false) ∧
    (calibrating.mSt mCalFld = 2 ∧ calibrating.fld.deferred = false ∧ calibrating.fld.calTurn < 8 ∧
      calibrating.convMode calibrating.fld.calTurn ≠ 3 ∧ calibrating.fld.calOne = some 1 ∧ calibrating.fld.calWait = [] ∧
      calibrating.flag Reg.FLD_STAT Fd.FLD_STAT_CAL_PEND = false) ∧
    (calAll.mSt mCalFld = 2 ∧ calAll.fld.deferred = false ∧ calAll.fld.calTurn < 8 ∧ calAll.convMode calAll.fld.calTurn ≠ 3 ∧
      calAll.fld.calOne = none ∧
      ((List.range 8).filter (fun d => decide (calAll.fld.calTurn < d) && calAll.convMode d != 3)).head? = some 2 ∧
      calAll.convInjRunning 2 = false) ∧
    (nth recovering.fld.recovering 1 false = true ∧
      2 ≤ ((nth recovering.fld.failAt 1 []).filter (fun t => decide (recovering.ltc.toNat - t.toNat ≤ tickS))).length) := by decide

/-! ### Line frequency, bands, resynchronisation -/

/-- Edges of a 50 Hz mains, newest first, `n` of them before now. -/
def mains (n : Nat) (s : State) : State :=
  { s with flt := { s.flt with edges := (List.range n).map (fun k => 10312500000 - BitVec.ofNat 64 (20625000 * (k + 1))) } }
def fast : State := { up with flt := { up.flt with edges := (List.range 8).map (fun k => 10312500000 - BitVec.ofNat 64 (1000000 * (k + 1))) } }
def atSet : State := set (let s := mains 8 flying; { s with flt := { s.flt with measured := true } }) [(Reg.FLT_NOTCH, Fd.FLT_NOTCH_SET, 100)]
def silent : State := { up with flt := { up.flt with edges := [10312500000 - 51562500] } }
/-- The die chooses between two bands, of which the second begins at 0; at 25 degrees; a channel without a value. -/
def bands : State := set flying [(Reg.FLT_BAND_CFG, Fd.FLT_BAND_CFG_SRC, 1), (Reg.THC_CFG, Fd.THC_CFG_BANDS, 2), (Reg.FLD_TEMP_NOW, all, 2500)]
def oneBand : State := set bands [(Reg.THC_CFG, Fd.THC_CFG_BANDS, 1)]
def noBand : State := set bands [(Reg.FLT_BAND_CFG, Fd.FLT_BAND_CFG_SRC, 2)]
def syncing : State := { up with resync := ⟨some 0, some 0⟩ }

theorem witness_LineFrequencyBandsAndResync :
    ((up.ltc :: up.flt.edges).take 10).length < 9 ∧
    (((mains 9 flying).ltc :: (mains 9 flying).flt.edges).take 10).length = 10 ∧
    32 * ((mains 9 flying).ltc.toNat - (nth (mains 9 flying).flt.edges 0 0).toNat) ≤
      5 * ((nth (mains 9 flying).flt.edges 0 0).toNat - (nth (mains 9 flying).flt.edges 8 0).toNat) ∧
    lineFreq ((mains 9 flying).ltc.toNat - (nth (mains 9 flying).flt.edges 7 0).toNat) = 5000 ∧
    ((mains 9 flying).role ≠ 2 ∧ (mains 9 flying).pln.run.isSome = true ∧ (mains 9 flying).sys.restarting = false ∧
      (mains 9 flying).flt.measured = false ∧ (mains 9 flying).fieldTick ≠ 0 ∧ (mains 9 flying).superframe ≠ 0) ∧
    (((5000 : Int) - (4000 + 10 * atSet.lastNotch : Nat)).natAbs ≤ 7 ∧ atSet.flt.measured = true) ∧
    (7000 < lineFreq (fast.ltc.toNat - (nth fast.flt.edges 7 0).toNat) ∧ fast.flag Reg.FLT_NOTCH Fd.FLT_NOTCH_LOST = false ∧
      ((fast.ltc :: fast.flt.edges).take 10).length = 9) ∧
    (silent.flt.edges = [10312500000 - 51562500] ∧ 50 * tickMs ≤ silent.ltc.toNat - (10312500000 - 51562500 : Time).toNat ∧
      silent.rd Reg.PWR_DIPS ≠ 0xFFFFFFFF) ∧
    (up.flt.edges = [] ∧ 50 * tickMs ≤ up.ltc.toNat ∧ up.flag Reg.FLT_NOTCH Fd.FLT_NOTCH_LOST = false) ∧
    (bands.rf Reg.FLT_BAND_CFG Fd.FLT_BAND_CFG_SRC ≠ 0 ∧ bands.pln.run.isSome = true ∧ bands.role ≠ 2 ∧
      bands.sys.restarting = false ∧ bands.bandSource.1 = some bands.dieC ∧
      bands.ltc.toNat < max (bands.bandSource.2.getD 0).toNat bands.flt.bandAt.toNat + tickS ∧ bands.flt.bandNext = none ∧
      bands.bandDecide bands.activeBand bands.dieC ≠ bands.activeBand) ∧
    (oneBand.bandSource.1 = some oneBand.dieC ∧ oneBand.bandDecide oneBand.activeBand oneBand.dieC = oneBand.activeBand) ∧
    (noBand.rf Reg.FLT_BAND_CFG Fd.FLT_BAND_CFG_SRC ≠ 0 ∧ noBand.pln.run.isSome = true ∧
      max (noBand.bandSource.2.getD 0).toNat noBand.flt.bandAt.toNat + tickS ≤ noBand.ltc.toNat ∧ noBand.flt.bandLost = false) ∧
    (up.resync.field = none ∧ up.resync.node = none) ∧ (syncing.resync.field.isSome = true ∧ syncing.resync.node.isSome = true) := by decide

/-! ### Node chains -/

/-- A used port 3, a single chain of two nodes, in a state; a ring of port 2 whose second end is port 3. -/
def chained (st : Nat) (x : DrpPort) : State := set (flying.setPort 3 x)
  [(Reg.DRP_CFG 3, Fd.DRP_CFG_NODES, 2), (Reg.DRP_STAT 3, Fd.DRP_STAT_STATE, st)]
def ringed (st : Nat) : State := set flying [(Reg.DRP_CFG 2, Fd.DRP_CFG_NODES, 2), (Reg.DRP_CFG 2, Fd.DRP_CFG_MODE, 1),
  (Reg.DRP_STAT 2, Fd.DRP_STAT_STATE, 2), (Reg.DRP_STAT 3, Fd.DRP_STAT_STATE, st)]
def cmdSent : State := chained 2 { DrpPort.init with busy := true, outs := [(4, ⟨1, 2, arg5 0, true⟩)] }
def assigning (k : Nat) : State := chained 1 { DrpPort.init with step := 2, asg := 1, retry := k, outs := [(4, ⟨0, 1, arg5 1, false⟩)] }
def nodeCmd (op : Nat) (s : State) : State := s.wr (Reg.DRP_NCMD0 3) (w32 (256 * op + 1))

theorem witness_NodeChainTraining :
    (chained 3 DrpPort.init).firstEnd 3 = true ∧
    ((chained 3 DrpPort.init).role = 0 ∧ (chained 3 DrpPort.init).drpState 3 = 3 ∧ (chained 4 DrpPort.init).firstEnd 3 = true ∧
      (chained 4 DrpPort.init).drpState 3 = 4) ∧
    (((chained 1 { DrpPort.init with step := 1, attempt := 2 }).port 3).attempt < 3 ∧
      3 ≤ ((chained 1 { DrpPort.init with step := 1, attempt := 3 }).port 3).attempt ∧
      (chained 1 { DrpPort.init with step := 1, attempt := 3 }).drpState 3 = 1 ∧
      ((chained 1 { DrpPort.init with step := 1, attempt := 3 }).port 3).step = 1) ∧
    ((assigning 2).chainPort 3 = 3 ∧ (assigning 2).ownSecond 3 = none ∧ ((assigning 2).port 3).step = 2 ∧
      ((assigning 2).port 3).outs.any (fun o => o.2.op == 1) = true ∧ ((assigning 2).port 3).retry < 3 ∧
      3 ≤ ((assigning 3).port 3).retry) ∧
    (((nodeCmd 7 cmdSent).rd (Reg.DRP_NCMD0 3)).toNat / 256 % 256 = 7 ∧
      ((nodeCmd 9 cmdSent).rd (Reg.DRP_NCMD0 3)).toNat / 256 % 256 = 9 ∧ ((nodeCmd 9 cmdSent).port 3).busy = true ∧
      (nodeCmd 9 (chained 3 DrpPort.init)).drpState 3 ≠ 2 ∧
      ((nodeCmd 9 (chained 2 DrpPort.init)).port 3).busy = false ∧ (nodeCmd 9 (chained 2 DrpPort.init)).drpState 3 = 2 ∧
      (nodeCmd 9 (chained 2 DrpPort.init)).role ≠ 2 ∧
      ((nodeCmd 9 (chained 2 DrpPort.init)).rd (Reg.DRP_NCMD0 3)).toNat / 256 % 256 = 9) ∧
    (cmdSent.role = 0 ∧ (cmdSent.port 3).busy = true ∧ (cmdSent.port 3).outs.any (fun o => o.2.host) = true) := by decide

/-- Port 3 has sent frame 7, and looks for it; the same in LINK after a good one; a ring that is split and one to rejoin. -/
def awaits : State := chained 2 { DrpPort.init with sent := some 7, lastUp := some 6 }
def upFrame (bad : Nat) : UpFrame := ⟨awaits.dsof 7 + 300, 7, true, bad, ⟨0, 0, [], true⟩, [], [], []⟩
def relink : State := chained 3 { DrpPort.init with sent := some 7, good := 1, lastRt := some 300 }
def serving : State := set ((ringed 6).onPort 2 (fun x => x.setNode 1 { DrpNode.init with assigned := true, bSince := some 0 }))
  [(Reg.DRP_STAT 2, Fd.DRP_STAT_SPLIT, 1), (Reg.DRP_STAT 2, Fd.DRP_STAT_BREAK_AT, 1), (Reg.DRP_CFG 2, Fd.DRP_CFG_AUTO_REJOIN, 1)]

def healing : State := serving.onPort 3 (fun x => { x with farGood := 1 })

theorem witness_NodeChainFrames :
    (ShbOk awaits ∧ awaits.role = 0 ∧ awaits.chainPort 3 = 3 ∧ awaits.sends 3 = true ∧ awaits.drpState 3 = 2 ∧
      (awaits.port 3).frameOf (upFrame 0).sfn = some 7 ∧ (upFrame 0).hdrOk = true ∧ (upFrame 0).bad < 4 ∧
      (upFrame 0).reply.addr = 0) ∧
    (ShbOk relink ∧ relink.role = 0 ∧ relink.chainPort 3 = 3 ∧ relink.sends 3 = true ∧
      (relink.port 3).frameOf (upFrame 0).sfn = some 7 ∧ relink.drpState 3 = 3 ∧ 1 ≤ (relink.port 3).good ∧
      (relink.port 3).lastRt = some ((upFrame 0).arr.toNat - (relink.dsof 7).toNat)) ∧
    (4 ≤ (upFrame 4).bad ∧ (awaits.port 3).sent = some 7) ∧
    (((ringed 5).secondOf 3).isSome = true ∧ (ringed 5).drpState 3 = 5) ∧ awaits.secondOf 3 = none ∧
    ((ringed 5).role = 0 ∧ (ringed 5).secondOf 3 = some 2 ∧ (ringed 5).superframe ≠ 0 ∧ (ringed 5).drpState 3 ≠ 6) ∧
    ((serving.role = 0 ∧ serving.secondOf 3 = some 2 ∧ serving.superframe ≠ 0 ∧ serving.drpState 3 = 6 ∧ (serving.port 3).farGood = 0) ∧
      (healing.secondOf 3 = some 2 ∧ healing.superframe ≠ 0 ∧ healing.drpState 3 = 6 ∧ 1 ≤ (healing.port 3).farGood)) ∧
    (serving.firstEnd 2 = true ∧ serving.splitOn 2 = true ∧ serving.breakAt 2 ≠ 0 ∧
      ((serving.port 2).node (serving.breakAt 2)).bSince = some 0 ∧ (0 : Time).toNat + tickS ≤ serving.ltc.toNat ∧
      serving.flag (Reg.DRP_CFG 2) Fd.DRP_CFG_AUTO_REJOIN = true) :=
  ⟨⟨⟨by decide, by decide, rfl, rfl⟩, by decide⟩, ⟨⟨by decide, by decide, rfl, rfl⟩, by decide⟩, by decide⟩

/-! ### Spools -/

/-- Spool 0 is used, with a route for records of capture unit 5 into its lane 1, of 4,096 bytes. -/
def spoolPlan : Plan := { fly with routes := [⟨6, 0, 5, 1, 64, 0, false⟩], spools := [⟨0, 1, 0, 0, 0, 0⟩] }
def spooling : State := set { flying with pln := { flying.pln with run := some spoolPlan } } [(Reg.SPLN_SIZE 0 1, all, 4096)]
def spoolSmall : State := set spooling [(Reg.SPLN_SIZE 0 1, all, 128)]
def raw (n : Nat) : RawRecord := ⟨9, 6, 5, 10312499000, List.replicate n 7⟩
def item (no : Nat) (vis : Option Word) : Item := ⟨no, ⟨9, 6, 5, no, 10312499000, [1, 2, 3]⟩, 48, [1, 2, 3], 0, 0, 0, vis, false⟩
/-- Lane 1 holds three items, of which the first is read, the last one not yet compressed, and MARK_NO at the first. -/
def laned : State := spooling.setLane 1 { Lane.init with items := [item 0 (some 5), item 1 (some 6), item 2 none], rd := 1, wr := 3 }
def job (no : Nat) : Job := ⟨1, no, 4, 0, 10312490000, none, false, false⟩
def jobbed : State := { laned with jobs := [{ job 2 with started := some 10312491000 }] }
def twoJobs : State := { laned with jobs := [{ job 3 with lane := 6, started := some 10312491000 }, job 2] }
def oneJob : State := { laned with jobs := [job 2] }
def staleSoon : State := set laned [(Reg.SPLN_STALE_CFG 0 1, Fd.SPLN_STALE_CFG_STALE, 3)]

theorem witness_SpoolsTakeAndCompress :
    (spooling.pln.run = some spoolPlan ∧ findRoute spoolPlan 6 6 9 = none ∧
      findRoute spoolPlan 6 5 9 = some ⟨6, 0, 5, 1, 64, 0, false⟩ ∧ spooling.syncing = false ∧ spooling.pai.lost = false ∧
      destLane 64 = 1 ∧ spooling.spoolUsed (1 / 4) = true ∧ (spooling.lane 1).retired = false ∧ (spooling.lane 1).shed = false ∧
      spooling.laneSize 1 ≠ 0 ∧ (spooling.lane 1).gaps = [] ∧
      (spooling.lane 1).used + spooling.storedSize (1 / 4) (raw 20).payload.length + 64 ≤ spooling.laneSize 1) ∧
    (spoolSmall.laneSize 1 < (spoolSmall.lane 1).used + spoolSmall.storedSize (1 / 4) (raw 40).payload.length + 64 ∧
      spoolSmall.laneSize 1 ≠ 0 ∧ spoolSmall.rd (Reg.SPLN_DROPS 0 1) = 0) ∧
    (bestJob oneJob.jobs = some (job 2) ∧ runningJob oneJob.jobs = none) ∧
    (bestJob twoJobs.jobs = some (job 2) ∧
      runningJob twoJobs.jobs = some { job 3 with lane := 6, started := some 10312491000 } ∧ (6 : Nat) ≠ 1 ∧
      twoJobs.rd Reg.CMP_FLUSHES ≠ 0xFFFFFFFF) ∧
    runningJob jobbed.jobs = some { job 2 with started := some 10312491000 } ∧
    ((staleSoon.lane (4 * 0 + 1)).stale = false ∧ (staleSoon.lane (4 * 0 + 1)).depth ≠ 0 ∧
      staleSoon.rf (Reg.SPLN_STALE_CFG 0 1) Fd.SPLN_STALE_CFG_STALE ≠ 0 ∧
      staleSoon.rf (Reg.SPLN_STALE_CFG 0 1) Fd.SPLN_STALE_CFG_STALE * tickMs ≤
        staleSoon.ltc.toNat - (staleSoon.lane (4 * 0 + 1)).staleFrom.toNat) := by decide

theorem witness_SpoolPageOperations :
    (laned.splRefusal (.ctx 0) true = none ∧ laned.spoolReadable (laned.selSpool (.ctx 0)) = true ∧
      (laned.lane (4 * laned.selSpool (.ctx 0) + (1 : Fin 4).val)).unread = [item 1 (some 6)] ∧ laned.paired = false ∧
      laned.flag (Reg.SPLN_CFG (laned.selSpool (.ctx 0))) Fd.SPLN_CFG_REL_ON_READ = false) ∧
    (laned.lane (4 * laned.selSpool (.ctx 0) + (2 : Fin 4).val)).unread = [] ∧
    (laned.spoolReadable (laned.selSpool (.ctx 1)) = true ∧
      laned.whoIdx (.ctx 1) ≠ laned.rf (Reg.SPLN_CFG (laned.selSpool (.ctx 1))) Fd.SPLN_CFG_CTX) ∧
    (laned.splRefusal (.ctx 0) false = none ∧ (laned.lane (4 * laned.selSpool (.ctx 0) + 1)).retired = false) := by decide

/-! ### Maintenance -/

/-- All classes enabled; a queued and a running rotation; PERIOD elapsed; DT 4 K. -/
def enabled : State := set up [(Reg.MNT_CFG, ⟨8, 7⟩, 127), (Reg.OFE_RECAL_CFG, Fd.OFE_RECAL_CFG_PERIOD, 3),
  (Reg.OFE_RECAL_CFG, Fd.OFE_RECAL_CFG_DT, 4)]
def mnt (k v : Nat) (b : Bool) (s : State) : State :=
  { s with mnt := { s.mnt with st := setAt s.mnt.st k v, busy := setAt s.mnt.busy k b } }
def stocked : State := { enabled with nv := { enabled.nv with reserve := 8 } }
def disabled : State := set up [(Reg.MNT_CFG, ⟨8, 7⟩, 0), (Reg.OFE_RECAL_CFG, Fd.OFE_RECAL_CFG_PERIOD, 0)]
def elem (spares done : List Nat) : Elems := ⟨[0, 1, 2], spares, some 9, none, done, true⟩
/-- Converter 0 alone calibrates spare 9: other spares left to do, or none. -/
def rotating (spares done : List Nat) : State :=
  { mnt 0 2 true enabled with ofe := { up.ofe with elems := (elem spares done) :: up.ofe.elems.drop 1 } }
def rotatingShots : State := { rotating [8] [] with pln := flying.pln }

theorem witness_ConverterRotations :
    (mnt 0 2 true enabled).mSt 0 ≠ 0 ∧
    (MntOk enabled ∧ SpareLeft enabled ∧ enabled.mSt 0 = 0 ∧ enabled.mEnabled 0 = true ∧ enabled.mFree 0 = true ∧
      enabled.sys.restarting = false ∧ (mnt 5 2 true enabled).mFree 0 = false ∧ disabled.mEnabled 0 = false ∧
      enabled.rf Reg.OFE_RECAL_CFG Fd.OFE_RECAL_CFG_PERIOD ≠ 0 ∧
      enabled.rf Reg.OFE_RECAL_CFG Fd.OFE_RECAL_CFG_PERIOD * tickS ≤ enabled.ltc.toNat - enabled.ofe.calAt.toNat ∧
      disabled.rf Reg.OFE_RECAL_CFG Fd.OFE_RECAL_CFG_PERIOD = 0 ∧
      enabled.ofe.elems[0]? = some ⟨[0, 1, 2, 3, 4, 5, 6, 7], [8, 9], none, none, [], false⟩) ∧
    (dtReached 5000 (signed 16 (enabled.rd Reg.OFE_TEMP_CAL).toNat) (enabled.rf Reg.OFE_RECAL_CFG Fd.OFE_RECAL_CFG_DT) = true ∧
      dtReached (signed 16 (enabled.rd Reg.OFE_TEMP_NOW).toNat) (signed 16 (enabled.rd Reg.OFE_TEMP_CAL).toNat)
        (enabled.rf Reg.OFE_RECAL_CFG Fd.OFE_RECAL_CFG_DT) = false) ∧
    (rotatingShots.ofe.elems[(0 : Fin 4).val]? = some (elem [8] []) ∧ (elem [8] []).cal = some 9 ∧ rotatingShots.schedulesShots = true ∧
      rotatingShots.parked = false ∧ (elem [8] []).active = true ∧ rotatingShots.ofe.elems[4]?.map Elems.ready = some none) ∧
    (MntOk (rotating [8] []) ∧ (rotating [8] []).ofe.elems[(0 : Fin 5).val]? = some (elem [8] []) ∧
      (elem [8] []).serving = 0 :: [1, 2] ∧ (rotating [8] []).schedulesShots = false ∧ ((rotating [8] []).ofe.elems.drop 1).all (fun q => q.ready == none) = true ∧ 0 ∉ (elem [8] []).done ++ [9] ∧
      ((elem [8] []).spares.filter (fun z => !(elem [8] []).done.contains z)).head? = some 8) ∧
    (MntOk (rotating [1] [0, 1]) ∧ (rotating [1] [0, 1]).ofe.elems[(0 : Fin 5).val]? = some (elem [1] [0, 1]) ∧
      (rotating [1] [0, 1]).schedulesShots = false ∧ (elem [1] [0, 1]).active = true ∧
      (∀ y ∈ (elem [1] [0, 1]).spares ++ [0], y ∈ (elem [1] [0, 1]).done ++ [9]) ∧ (rotating [1] [0, 1]).mSt 0 = 2 ∧
      ((rotating [1] [0, 1]).ofe.elems.drop 1).all (fun q => !q.active) = true ∧
      (rotating [1] [0, 1]).flag Reg.OFE_STAT Fd.OFE_STAT_CAL_PEND = false) := by unfold MntOk SpareLeft; decide

theorem witness_MaintenanceRequests :
    (MntOk enabled ∧ enabled.mSt 4 = 0 ∧ enabled.mSt 5 = 0 ∧ enabled.mEnabled 5 = true ∧ enabled.mFree 5 = true ∧
      enabled.sys.restarting = false ∧ (mnt 0 2 true enabled).mFree 5 = false ∧ disabled.mEnabled 5 = false ∧
      (set enabled [(Reg.NVS_CFG, Fd.NVS_CFG_PATROL, 1)]).rf Reg.NVS_CFG Fd.NVS_CFG_PATROL ≠ 0 ∧
      (set enabled [(Reg.MEM_TEST_CFG, Fd.MEM_TEST_CFG_PERIOD, 1)]).rf Reg.MEM_TEST_CFG Fd.MEM_TEST_CFG_PERIOD ≠ 0 ∧
      (mnt 4 2 true enabled).mSt 4 ≠ 0) ∧
    (set enabled [(Reg.NVS_CFG, Fd.NVS_CFG_PATROL, 0)]).rf Reg.NVS_CFG Fd.NVS_CFG_PATROL = 0 ∧
    (set enabled [(Reg.MEM_TEST_CFG, Fd.MEM_TEST_CFG_PERIOD, 0)]).rf Reg.MEM_TEST_CFG Fd.MEM_TEST_CFG_PERIOD = 0 ∧
    (MntOk (mnt 5 2 true enabled) ∧ (mnt 5 2 true enabled).mSt (5 : Fin 8).val ≠ 0 ∧
      (mnt 5 2 true enabled).mBusy (5 : Fin 8).val = true) ∧
    (MntOk (mnt 5 1 false enabled) ∧ (mnt 5 1 false enabled).mSt 5 ≠ 0 ∧ (mnt 5 1 false enabled).mBusy 5 = false ∧
      (List.range 7).all (fun j => decide (j ≠ 5 → (mnt 5 1 false enabled).mSt j = 0)) = true) ∧
    (3 : Fin 4) ≠ 0 := by unfold MntOk; decide

/-- A memory test step on block 3; a patrol step; a low reserve. -/
def borrowing : State := { mnt 5 2 true enabled with mnt := { (mnt 5 2 true enabled).mnt with borrowed := some 3 } }
def scrubbing : State := set enabled [(Reg.MEM_SCRUB_CFG, Fd.MEM_SCRUB_CFG_PERIOD, 5), (Reg.NVS_CFG, Fd.NVS_CFG_RES_WARN, 50),
  (Reg.TEL_CFG, Fd.TEL_CFG_PERIOD, 1)]

theorem aloneOn_of_idle (k v : Nat) (b : Bool) (s : State) (h : s.sys.restarting = false)
    (hs : s.mnt.st = List.replicate 7 0) (hb : s.mnt.busy = List.replicate 7 false) : AloneOn k (mnt k v b s) :=
  ⟨h, fun j hj => by
    unfold State.mSt State.mBusy mnt
    dsimp only
    rw [hs, hb, nth_setAt_ne _ _ _ _ _ hj, nth_setAt_ne _ _ _ _ _ hj, nth_replicate, nth_replicate]
    exact ⟨rfl, rfl⟩⟩

theorem witness_BackgroundStepsAndFindings :
    (MntOk (mnt 4 2 true stocked) ∧ (mnt 4 2 true stocked).mBusy 4 = true ∧ AloneOn 4 (mnt 4 2 true stocked) ∧
      nth (mnt 4 2 true stocked).mnt.abort 4 false = false ∧ (mnt 4 2 true stocked).nv.reserve ≠ 0 ∧
      (mnt 4 2 true stocked).rd Reg.NVS_REFRESHED ≠ 0xFFFFFFFF) ∧
    (MntOk borrowing ∧ borrowing.mBusy 5 = true ∧ AloneOn 5 borrowing ∧ borrowing.mnt.borrowed = some 3 ∧
      (borrowing.rd Reg.MEM_TEST_ABANDON).toNat + 1 < 2 ^ 32 ∧ (borrowing.rd (Reg.LPE_STALL 2)).toNat + 100 < 2 ^ 32) ∧
    enabled.mnt.borrowed = none ∧
    (scrubbing.rf Reg.MEM_SCRUB_CFG Fd.MEM_SCRUB_CFG_PERIOD ≠ 0 ∧
      (set up [(Reg.MEM_SCRUB_CFG, Fd.MEM_SCRUB_CFG_PERIOD, 0)]).rf Reg.MEM_SCRUB_CFG Fd.MEM_SCRUB_CFG_PERIOD = 0) ∧
    (MntOk scrubbing ∧ scrubbing.rd Reg.NVS_FLASH_TO ≠ 0xFFFFFFFF ∧ scrubbing.flag Reg.NVS_STAT Fd.NVS_STAT_RES_WARN = false ∧
      (0 < Config.reserveSize → 100 * 0 < scrubbing.rf Reg.NVS_CFG Fd.NVS_CFG_RES_WARN * Config.reserveSize) ∧
      ¬ 100 * Config.reserveSize < scrubbing.rf Reg.NVS_CFG Fd.NVS_CFG_RES_WARN * Config.reserveSize) ∧
    (scrubbing.rf Reg.TEL_CFG Fd.TEL_CFG_PERIOD ≠ 0 ∧ scrubbing.mEnabled 6 = true ∧ scrubbing.mSt 6 = 0 ∧
      scrubbing.sys.restarting = false ∧ (set up [(Reg.TEL_CFG, Fd.TEL_CFG_PERIOD, 0)]).rf Reg.TEL_CFG Fd.TEL_CFG_PERIOD = 0) := by
  have a4 : AloneOn 4 (mnt 4 2 true stocked) := aloneOn_of_idle 4 2 true enabled rfl rfl rfl
  have a5 : AloneOn 5 borrowing := aloneOn_of_idle 5 2 true enabled rfl rfl rfl
  have warn : scrubbing.rf Reg.NVS_CFG Fd.NVS_CFG_RES_WARN = 50 := by decide
  refine ⟨⟨?_, ?_, a4, ?_⟩, ⟨?_, ?_, a5, ?_⟩, ?_, ?_, ⟨?_, ?_, ?_, fun h => by rw [warn]; omega, by rw [warn]; omega⟩, ?_⟩
  all_goals (try unfold MntOk); decide

/-! ### Loupe -/

/-- A running core, its registers, and core 1 in such a state at an instruction word. -/
def core1 : LpeCore := { LpeCore.init with
  running := true, bud := 1000, pc := 5, g := [0, 0x80000000, 0xFFFF8000, 0x7FFF, 5, 0x01000003, 0x10000010, 64, 0xFFFFFFFB, 0, 9, 0, 0, 0, 0, 0],
  ad := [0x100, 0x10000010, 0x20, 0x1F0, 0x202, 0x20000, 3, 0], of_ := [2, 2, 0xFFFFFFFE, 4, 8, 1, 0, 0], md := [0, 0, 0, 0x10040, 0, 0, 0, 0] }
def lp (x : LpeCore) (op rest : Nat) : State := (up.setCore 1 x).wrWord (corePm 1 + 4 * x.pc) (w32 (op * 2 ^ 26 + rest))
/-- The word's fields at bits 22, 18 and 14. -/
def f3 (d a b : Nat) : Nat := d * 2 ^ 22 + a * 2 ^ 18 + b * 2 ^ 14
/-- The same core owns scratch bank 0. -/
def lpOwn (x : LpeCore) (op rest : Nat) : State := set (lp x op rest) [(Reg.MEM_OWN 0, all, 17)]

theorem straight_at : ((List.range 64).all (fun op => insF ((lp core1 op 3).coreFetch 1) 26 6 == op &&
    decide (core1.cycles ((lp core1 op 3).coreFetch 1) ≤ core1.bud))) = true := by decide

theorem straight (op : Nat) (h : op < 64) : Straight (lp core1 op 3) 1 op := by
  have k := straight_at
  rw [List.all_eq_true] at k
  have m := k op (List.mem_range.mpr h)
  rw [Bool.and_eq_true, beq_iff_eq, decide_eq_true_eq] at m
  exact ⟨⟨rfl, rfl, m.1, m.2⟩, rfl, rfl, rfl, rfl⟩

theorem witness_LoupeArithmetic :
    (∀ op, op < 0x16 → Straight (lp core1 op 3) 1 op) ∧
    (Straight (lp core1 0x09 (f3 2 1 0)) 1 0x09 ∧ nth core1.g (insF ((lp core1 0x09 (f3 2 1 0)).coreFetch 1) 18 4) 0 = 0x80000000) ∧
    (Straight (lp core1 0x09 (f3 2 2 0)) 1 0x09 ∧ nth core1.g (insF ((lp core1 0x09 (f3 2 2 0)).coreFetch 1) 18 4) 0 ≠ 0x80000000) := by
  refine ⟨fun op h => straight op (by omega), ?_⟩
  unfold Straight AtOp; decide

/-- Address register 0 names data bytes, 1 scratch bytes. -/
theorem witness_LoupeMemoryAndSystem :
    (∀ op, op < 64 → Straight (lp core1 op 3) 1 op) ∧
    (∀ os ∈ [(0x18, 2), (0x19, 2), (0x1a, 4), (0x1b, 2), (0x1c, 4)], Straight (lp core1 os.1 (f3 3 0 0)) 1 os.1 ∧
      (lp core1 os.1 (f3 3 0 0)).accessFault 1 (core1.memAt ((lp core1 os.1 (f3 3 0 0)).coreFetch 1)) os.2 = 0 ∧
      core1.memAt ((lp core1 os.1 (f3 3 0 0)).coreFetch 1) < 0x10000000 ∧
      (lp core1 os.1 (f3 3 0 0)).coreAddr 1 (core1.memAt ((lp core1 os.1 (f3 3 0 0)).coreFetch 1)) os.2 = some 0x50050100) ∧
    (Straight (lpOwn core1 0x1a (f3 3 2 0)) 1 0x1a ∧
      0x10000000 ≤ core1.memAt ((lpOwn core1 0x1a (f3 3 2 0)).coreFetch 1) ∧
      (lpOwn core1 0x1a (f3 3 2 0)).accessFault 1 (core1.memAt ((lpOwn core1 0x1a (f3 3 2 0)).coreFetch 1)) 4 = 0) ∧
    (Straight (lp core1 0x16 (2 * 2 ^ 18)) 1 0x16 ∧ (lp core1 0x16 (2 * 2 ^ 18)).coreAddr 1 (0x100 + 2) 2 = some 0x50050102 ∧
      (lp core1 0x16 (2 * 2 ^ 18)).accessFault 1 0x100 2 = 0 ∧ (lp core1 0x16 (2 * 2 ^ 18)).accessFault 1 0x20 2 = 0) ∧
    (Straight (lp core1 0x30 (f3 4 5 0)) 1 0x30 ∧ core1.events.length < 16 ∧ (0x100 : Nat) ≤ 0x01000003 / 65536 ∧
      insF ((lp core1 0x30 (f3 4 5 0)).coreFetch 1) 10 8 ≠ 255 ∧ 0x01000003 % 65536 ≤ 224 ∧
      (nth core1.g 4 0).toNat + 0x01000003 % 65536 ≤ 0x20000) ∧
    (Straight (lp core1 0x31 (f3 4 6 9)) 1 0x31 ∧ core1.dma = none ∧ nth core1.g 9 0 = 0 ∧
      Straight (lpOwn core1 0x31 (f3 4 6 7)) 1 0x31 ∧ nth core1.g 7 0 = 64 ∧ inScratch 5 ≠ inScratch 0x10000010 ∧
      (lpOwn core1 0x31 (f3 4 6 7)).coreAddr 1 5 64 = some 0x50050005 ∧
      (lpOwn core1 0x31 (f3 4 6 7)).coreAddr 1 0x10000010 64 = some 0x10000010) ∧
    (∀ i ∈ [0, 1, 2, 3, 4, 5, 6, 7, 8, 9, 63], Straight (lp core1 0x32 (f3 3 0 0 + i)) 1 0x32 ∧
      insF ((lp core1 0x32 (f3 3 0 0 + i)).coreFetch 1) 0 6 = i) ∧
    (∀ i ∈ [0, 1, 2, 3, 4, 5], Straight (lp core1 0x33 (f3 4 0 0 + i)) 1 0x33 ∧
      insF ((lp core1 0x33 (f3 4 0 0 + i)).coreFetch 1) 0 6 = i) ∧
    (Straight (lp { core1 with injPend := true } 0x33 4) 1 0x33 ∧ core1.injPend = false ∧
      (nth core1.g 4 0).get Fd.FLD_INJ_CMD_SRC ≠ 3 ∧ Straight (lp core1 0x33 (f3 8 0 0 + 4)) 1 0x33 ∧
      insF ((lp core1 0x33 (f3 8 0 0 + 4)).coreFetch 1) 22 4 = 8 ∧ (nth core1.g 8 0).get Fd.FLD_INJ_CMD_SRC = 3) ∧
    (∀ i ∈ [0, 7, 8, 15, 16, 23, 24, 25, 26, 27, 28], Straight (lp core1 0x34 (f3 3 0 0 + 2 ^ 17 * i)) 1 0x34 ∧
      insF ((lp core1 0x34 (f3 3 0 0 + 2 ^ 17 * i)).coreFetch 1) 17 5 = i ∧
      Straight (lp core1 0x35 (f3 3 0 0 + 2 ^ 17 * i)) 1 0x35 ∧
      insF ((lp core1 0x35 (f3 3 0 0 + 2 ^ 17 * i)).coreFetch 1) 17 5 = i) := by
  refine ⟨straight, ?_, ?_, ?_, ?_, ?_, ?_, ?_, ?_, ?_⟩ <;> (try unfold Straight) <;> (try unfold AtOp) <;> decide

/-- RPT of a length and count, of a register. -/
def rpt (g len cmax : Nat) : State := lp core1 0x27 (g * 2 ^ 22 + len * 2 ^ 13 + cmax)
def inSlot : LpeCore := { core1 with br := some (9, 2) }
def lastSlot : LpeCore := { core1 with br := some (9, 1) }
def inBody (l n : Nat) : LpeCore := { core1 with rpt := some (3, l, n) }

theorem witness_LoupeControlFlow :
    (∀ op, op < 64 → Straight (lp core1 op 3) 1 op) ∧
    (insF ((rpt 0 0 3).coreFetch 1) 13 9 = 0 ∧ insF ((rpt 0 256 0).coreFetch 1) 13 9 = 256 ∧
      insF ((rpt 0 256 0).coreFetch 1) 0 13 = 0 ∧ insF ((rpt 0 4 3).coreFetch 1) 0 13 = 3 ∧
      insF ((rpt 4 4 5).coreFetch 1) 22 4 = 4 ∧ nth core1.g 4 0 = 5 ∧ nth core1.g 9 0 = 0 ∧ (nth core1.g 8 0).toInt < 0 ∧
      insF ((rpt 4 257 5).coreFetch 1) 13 9 = 257 ∧ Straight (rpt 4 4 5) 1 0x27 ∧ Straight (rpt 4 4 3) 1 0x27 ∧
      Straight (rpt 4 4 0) 1 0x27 ∧ Straight (rpt 9 4 3) 1 0x27 ∧ Straight (rpt 8 4 3) 1 0x27 ∧ Straight (rpt 4 257 5) 1 0x27) ∧
    (AtOp (lp core1 0x00 0) 1 0x00 ∧ core1.br = none ∧ core1.rpt = none ∧ AtOp (lp inSlot 0x00 0) 1 0x00 ∧ inSlot.br = some (9, 2) ∧
      AtOp (lp lastSlot 0x00 0) 1 0x00 ∧ lastSlot.br = some (9, 1) ∧
      (∀ ln ∈ [(7, 2), (5, 2), (5, 1)], AtOp (lp (inBody ln.1 ln.2) 0x00 0) 1 0x00 ∧ (inBody ln.1 ln.2).rpt = some (3, ln.1, ln.2)) ∧
      AtOp (lp { core1 with late := [(1, 4, 7)] } 0x00 0) 1 0x00 ∧ AtOp (lp { core1 with late := [(2, 4, 7)] } 0x00 0) 1 0x00) ∧
    (AtOp (lp { core1 with accOld := some (0, 7) } 0x14 (f3 3 0 0)) 1 0x14 ∧
      insF ((lp { core1 with accOld := some (0, 7) } 0x14 (f3 3 0 0)).coreFetch 1) 20 2 = 0 ∧
      insF ((lp { core1 with accOld := some (0, 7) } 0x14 (f3 3 0 0)).coreFetch 1) 22 4 ≠ 0) ∧
    (∀ op ∈ [0x20, 0x21, 0x22, 0x23, 0x24, 0x25, 0x26, 0x27, 0x28, 0x29, 0x2a], AtOp (lp inSlot op 0) 1 op ∧
      AtOp (lp (inBody 5 2) op 0) 1 op) ∧
    (∀ op ∈ [0x00, 0x01, 0x12, 0x16, 0x18, 0x1c, 0x24, 0x28, 0x30, 0x33], insF ((lp { core1 with bud := 0 } op 0).coreFetch 1) 26 6 = op ∧
      ({ core1 with bud := 0 } : LpeCore).bud < ({ core1 with bud := 0 } : LpeCore).cycles ((lp { core1 with bud := 0 } op 0).coreFetch 1)) := by
  refine ⟨straight, ?_, ?_, ?_, ?_, ?_⟩ <;> (try unfold Straight) <;> (try unfold AtOp) <;> decide

/-- An item, and the loaded core 1 with a queue of 64 bytes; idle with its init due or an item; with a timer. -/
def lpItem : LpeItem := ⟨2, [1, 2, 3], 5, 6, 7⟩
def loaded (x : LpeCore) (q : Nat) : State := set ((up.setCore 1 x)) [(Reg.LPE_QSIZE 1, all, q), (Reg.LPC_LOADED, all, 2),
  (Reg.LPE_TPER 1, all, 1000), (Reg.LPE_BUD_TMR 1, all, 50), (Reg.LPE_BUD_CHAN 1, all, 60)]
def offered (q : Nat) : State := { loaded LpeCore.init q with lpe := { (loaded LpeCore.init q).lpe with disp := [(1, lpItem)] } }
def idleInit : State := loaded { LpeCore.init with initDue := true } 64
def idleItem : State := loaded { LpeCore.init with queue := [(lpItem, 0)] } 64
def pendIrq : State := loaded { core1 with ie := 9, ip := 1, irqAt := [(0, 0)] } 64
def moving : State := loaded { core1 with dma := some (0x50050000, 0x10000010, 32) } 64
def timed : State := loaded { core1 with waiting := true, ie := 12, tmr := 40 } 64

theorem witness_LoupeActivations :
    up.lpe.disp = [] ∧
    ((offered 64).lpe.disp = [((1 : Fin 16).val, lpItem)] ∧ ((offered 64).core 1).reload = false ∧
      ((offered 64).core 1).fill + lpItem.room ≤ ((offered 64).rd (Reg.LPE_QSIZE 1)).toNat ∧
      0 < ((offered 64).rd (Reg.LPE_QSIZE 1)).toNat ∧
      ((offered 0).rd (Reg.LPE_QSIZE 1)).toNat < ((offered 0).core 1).fill + lpItem.room ∧ ((offered 0).core 1).reload = false) ∧
    (idleInit.coreLoaded 1 = true ∧ idleInit.parked = false ∧ (idleInit.rd (Reg.LPE_TPER 1)).toNat ≠ 0 ∧
      (idleInit.rd (Reg.LPE_BUD_TMR 1)).toNat % 2 ^ 24 ≠ 0 ∧ (idleInit.core 1).reload = false ∧
      (idleInit.core 1).fill + 16 ≤ (idleInit.rd (Reg.LPE_QSIZE 1)).toNat) ∧
    (idleInit.syncing = false ∧ idleInit.coreLoaded 1 = true ∧ (idleInit.core 1).running = false ∧ (idleInit.core 1).g.length = 16 ∧
      (idleInit.core 1).initDue = true ∧ idleItem.syncing = false ∧ idleItem.coreLoaded 1 = true ∧ (idleItem.core 1).running = false ∧
      (idleItem.core 1).g.length = 16 ∧ (idleItem.core 1).initDue = false ∧ (idleItem.core 1).queue = [(lpItem, 0)] ∧
      (offered 64).syncing = false ∧ ((offered 64).core 1).initDue = false ∧ ((offered 64).core 1).queue = [] ∧ up.coreLoaded 1 = false) ∧
    ((timed.core 1).running = true ∧ (timed.core 1).waiting = true ∧ (pendIrq.core 1).bud ≠ 0 ∧ (pendIrq.core 1).waiting = false) ∧
    ((pendIrq.core 1).running = true ∧ (∃ b, b < 3 ∧ Nat.testBit (pendIrq.core 1).ie b = true ∧ Nat.testBit (pendIrq.core 1).ip b = true) ∧
      Nat.testBit (pendIrq.core 1).ie 3 = true ∧ (pendIrq.core 1).br = none ∧ (pendIrq.core 1).rpt = none ∧
      (pendIrq.core 1).loadSlot = false ∧ (pendIrq.core 1).irqAt = [(0, 0)] ∧ (pendIrq.core 1).cyc < 2 ^ 32) ∧
    (up.core 1).dma = none ∧
    ((moving.core 1).dma = some (0x50050000, 0x10000010, 32) ∧ (moving.core 1).waiting = false ∧ (moving.core 1).running = true) ∧
    ((timed.core 1).tmr ≠ 0 ∧ (timed.core 1).tmr < (timed.core 1).bud ∧ (up.core 1).running = false) ∧
    (∀ op ∈ [0x17, 0x1d, 0x1f, 0x2b, 0x2f, 0x36, 0x3f], insF ((lp core1 op 0).coreFetch 1) 26 6 = op) ∧
    (∀ os ∈ [(0x18, 2), (0x19, 2), (0x1a, 4), (0x1b, 2), (0x1c, 4)], AtOp (lp core1 os.1 (f3 3 12 0)) 1 os.1 ∧
      (lp core1 os.1 (f3 3 12 0)).accessFault 1 (core1.memAt ((lp core1 os.1 (f3 3 12 0)).coreFetch 1)) os.2 ≠ 0) ∧
    (AtOp (lp core1 0x30 (f3 4 5 0 + 255 * 1024)) 1 0x30 ∧ insF ((lp core1 0x30 (f3 4 5 0 + 255 * 1024)).coreFetch 1) 10 8 = 255) ∧
    (AtOp (lp { core1 with dma := some (0, 0, 0) } 0x31 0) 1 0x31 ∧ ({ core1 with dma := some (0, 0, 0) } : LpeCore).dma ≠ none) := by
  refine ⟨by decide, by decide, by decide, by decide, by decide, ⟨by decide, ⟨0, by decide⟩, by decide⟩, ?_, ?_, ?_, ?_, ?_, ?_, ?_⟩ <;>
    (try unfold AtOp) <;> decide

/-! ### Uplink, sessions, wall time -/

/-- Link-local and fixed addresses, probing and not; the reply window full; a level that is old; a port about to serve. -/
def fixedIp : State := { up with nv := { up.nv with ip := 167772170 } }
def probing : State := { up with upl := { up.upl with probing := true, candidate := 2851995905 } }
def pinged : State := { up with upl := { up.upl with icmpN := 1000, icmpAt := 10312499000 } }
def pinged3 : State := { up with upl := { up.upl with icmpN := 3, icmpAt := 10312499000 } }
def ssmOld : State := set up [(Reg.UL_SSM 0, Fd.UL_SSM_VALID, 1)]
def readyPort : State := set { up with upl := { up.upl with holdFrom := [some 0, none] } } [(Reg.LN_STAT 0, Fd.LN_STAT_STATE, 4),
  (Reg.UL_STAT 0, Fd.UL_STAT_BLOCK_LOCK, 1), (Reg.UL_CFG 0, Fd.UL_CFG_EN, 1), (Reg.UL_CFG 0, Fd.UL_CFG_RS_FEC, 0)]
def soonPort : State := { readyPort with upl := { readyPort.upl with holdFrom := [some 10312400000, none] } }

def pingable (n : Nat) : State := { hosted 1 up with upl := { up.upl with icmpN := n, icmpAt := 10312499000 } }

theorem witness_UplinkPortFrames :
    up.rd (Reg.UL_RX_FRAMES 0) ≠ 0xFFFFFFFF ∧ (fixedIp.upl.probing = false ∧ fixedIp.nv.ip ≠ 0) ∧
    (up.nv.ip = 0 ∧ 7 ≠ (if (0 : Fin 2) = 0 then up.nv.macA else up.nv.macB) ∧ up.upl.probing = false ∧
      probing.nv.ip = 0 ∧ probing.upl.probing = true) ∧
    (¬ (tickS ≤ pinged.ltc.toNat - pinged.upl.icmpAt.toNat ∨ pinged.upl.icmpN = 0) ∧ 1000 ≤ pinged.upl.icmpN ∧
      ¬ (tickS ≤ pinged3.ltc.toNat - pinged3.upl.icmpAt.toNat ∨ pinged3.upl.icmpN = 0) ∧ pinged3.upl.icmpN < 1000 ∧ up.upl.icmpN = 0) ∧
    (ssmOld.flag (Reg.UL_SSM 0) Fd.UL_SSM_VALID = true ∧ 5 * tickS ≤ ssmOld.ltc.toNat - (nth ssmOld.upl.ssmAt 0 0).toNat ∧
      up.flag (Reg.UL_SSM 0) Fd.UL_SSM_VALID = false ∧ up.rd (Reg.UL_SSM 0) ≠ w32 ((3 : Fin 16).val + 16) ∧
      (ssmOld.rd (Reg.UL_SSM 0) = w32 ((0 : Fin 16).val + 16))) ∧
    (up.hears 0 = false ∧ (pingable 1000).hears 0 = true ∧ (pingable 3).hears 0 = true ∧ (pingable 3).upl.icmpN < 1000 ∧
      ¬ (tickS ≤ (pingable 3).ltc.toNat - (pingable 3).upl.icmpAt.toNat ∨ (pingable 3).upl.icmpN = 0) ∧
      (pingable 0).hears 0 = true ∧ (pingable 0).upl.icmpN = 0 ∧ 1000 ≤ (pingable 1000).upl.icmpN) ∧
    (nth readyPort.upl.holdFrom 0 none = some 0 ∧ readyPort.inService 0 = false ∧ readyPort.portReady 0 = true ∧
      tickS ≤ readyPort.ltc.toNat - (0 : Time).toNat ∧ readyPort.role < 2 ∧ readyPort.upl.probing = false ∧
      nth readyPort.upl.holdFrom 1 none = none ∧ nth soonPort.upl.holdFrom 0 none = some 10312400000 ∧
      ¬ tickS ≤ soonPort.ltc.toNat - (10312400000 : Time).toNat) := by decide

/-- OPEN, and its like for another context; a key in force; sessions at their times. -/
def openMsg (x : Nat) : SlzMsg := { msg x [0, 1, 0, 0] with session := 0 }
def serving1 : State := { hosted 1 up with sessions := [] }
def keyed1 : State := { hosted 1 up with nv := { up.nv with ctxKeys := [none, some [1, 2, 3], none, none] } }
def silent1 (rx tx : Time) : State := { hosted 1 up with sessions := [{ sess 1 with lastRx := rx, lastTx := tx }] }
def noticed : State := { hosted 1 up with sessions := [{ sess 1 with
  due := [(0x10, none), (0x11, some 10312400000)], noticeNo := 3, notices := [⟨3, 0x12, [1], 10100000000⟩] }] }

theorem witness_SessionsAndNotices :
    (serving1.hears (openMsg 1).port.val = true ∧ slzLayoutOk (openMsg 1) (fun b => b.length == 4) = true ∧
      (openMsg 1).session = 0 ∧ (openMsg 1).boot = 0 ∧ serving1.authOk 0x01 (openMsg 1) = true ∧
      (openMsg 1).ctx ≠ serving1.mgmtCtx ∧ serving1.session (openMsg 1).ctx = none ∧ (openMsg serving1.mgmtCtx).ctx = serving1.mgmtCtx ∧
      serving1.authOk 0x01 (openMsg serving1.mgmtCtx) = true) ∧
    ((hosted 1 up).session (msg 1 []).ctx = some (sess 1) ∧ Accepted (hosted 1 up) 0x03 (msg 1 []) (fun b => b.length == 0) ∧
      Accepted (hosted 1 up) 0x04 (msg 1 [0, 0, 2, 0]) (fun b => b.length == 4) ∧
      Accepted (hosted 1 up) 0x02 (msg 1 []) (fun b => b.length == 0)) ∧
    (keyed1.hears (msg 1 []).port.val = true ∧ slzLayoutOk (msg 1 []) (fun b => b.length == 0) = true ∧
      keyed1.authOk 0x03 (msg 1 []) = false ∧ keyed1.session 1 = some (sess 1)) ∧
    ((hosted 1 up).hears (again 4 (msg 1 [])).port.val = true ∧ (hosted 1 up).authOk 0x03 (again 4 (msg 1 [])) = true ∧ (again 4 (msg 1 [])).session = (sess 1).number ∧
      (again 4 (msg 1 [])).boot = (hosted 1 up).nv.boot ∧ (again 4 (msg 1 [])).seq ≤ (sess 1).rxSeq ∧
      (again 4 (msg 1 [])).ip = (sess 1).ip ∧ (again 4 (msg 1 [])).udp = (sess 1).udp ∧
      (sess 1).answers.find? (fun a => a.1 == 4) = none) ∧
    (up.session 3 = none) ∧
    ((silent1 0 0).session 1 = some { sess 1 with lastRx := 0, lastTx := 0 } ∧
      (hosted 1 up).rf Reg.SLZ_CFG Fd.SLZ_CFG_SESS_TO * tickMs ≤ (silent1 0 0).ltc.toNat - (0 : Time).toNat ∧
      (silent1 0 0).rf Reg.SLZ_CFG Fd.SLZ_CFG_SESS_TO * tickMs ≤ 4 * ((silent1 0 0).ltc.toNat - (0 : Time).toNat) ∧
      4 * ((hosted 1 up).ltc.toNat - (sess 1).lastTx.toNat) < (hosted 1 up).rf Reg.SLZ_CFG Fd.SLZ_CFG_SESS_TO * tickMs ∧
      (hosted 1 up).ltc.toNat - (sess 1).lastRx.toNat < (hosted 1 up).rf Reg.SLZ_CFG Fd.SLZ_CFG_SESS_TO * tickMs) ∧
    ((noticed.session 1).map (fun q => decide ((0x10, none) ∈ q.due) && decide ((0x13, none) ∉ q.due)) = some true ∧
      (noticed.session 1).map (fun q => decide ((0x11, some (10312400000 : Time)) ∈ q.due)) = some true ∧
      (10312400000 : Time).toNat ≤ noticed.ltc.toNat ∧
      (noticed.session 1).map (fun q => (q.notices.filter (fun n => decide (100 * tickMs ≤ noticed.ltc.toNat - n.sentAt.toNat))).length) = some 1) :=
  ⟨by decide, ⟨by decide, accepted_iff _ _ _ _ (by decide), accepted_iff _ _ _ _ (by decide), accepted_iff _ _ _ _ (by decide)⟩,
    by decide, by decide, by decide, by decide, by decide⟩

/-- The spool of context 1, lane 1 as before, without push and with it; a session of contexts 1 and 2. -/
def offering (x : Nat) : State := set { hosted x laned with ltc := laned.ltc } [(Reg.SPLN_CFG 0, Fd.SPLN_CFG_CTX, 1)]
def pushing : State := set (offering 1) [(Reg.SPLN_CFG 0, Fd.SPLN_CFG_PUSH, 1)]
def spoolMsg (x op lane n : Nat) : SlzMsg := msg x [0, BitVec.ofNat 8 op, BitVec.ofNat 8 lane, BitVec.ofNat 8 n]

theorem witness_SpoolDeliveryToHosts :
    (∀ op ∈ [2, 3, 4, 5], accepted (offering 1) 0x20 (spoolMsg 1 op 1 0) (fun b => b.length == 4 && byteAt b 1 == op) = true ∧
      accepted (offering 2) 0x20 (spoolMsg 2 op 1 0) (fun b => b.length == 4 && byteAt b 1 == op) = true) ∧
    Accepted (offering 1) 0x20 (spoolMsg 1 1 9 1) (fun b => b.length == 4 && byteAt b 1 == 1) ∧
    ((offering 1).session 1 = some (sess 1) ∧ (offering 1).role = 0 ∧ (offering 2).session 2 = some (sess 2) ∧
      byteAt (spoolMsg 1 1 9 1).body 2 = 8 + byteAt (spoolMsg 1 1 9 1).body 2 % 4 ∧ byteAt (spoolMsg 1 1 9 1).body 3 = 1 ∧
      byteAt (spoolMsg 1 2 1 0).body 2 = byteAt (spoolMsg 1 2 1 0).body 2 % 4 ∧ (offering 1).spoolReadable 0 = true ∧
      (offering 1).rf (Reg.SPLN_CFG 0) Fd.SPLN_CFG_CTX = 1 ∧ (offering 2).rf (Reg.SPLN_CFG 0) Fd.SPLN_CFG_CTX ≠ 2 ∧
      ((offering 1).lane 1).retired = false ∧ (offering 1).flag (Reg.SPLN_CFG 0) Fd.SPLN_CFG_PUSH = false ∧
      (offering 1).flag (Reg.SPLN_CFG 0) Fd.SPLN_CFG_REL_ON_READ = false ∧ ((offering 1).lane 1).unread = [item 1 (some 6)] ∧
      ((offering 1).lane 2).unread = [] ∧
      (sess 1).creditFor ((sess 1).queued ((offering 1).maxChunk 0) +
        itemCost ((offering 1).maxChunk 0) ((item 1 (some 6)).delivered 1).length) = true) ∧
    ((offering 1).inService 1 = false ∧ (offering 1).inService 0 = true ∧ (offering 1).role < 2 ∧
      (List.range 64).all (fun sp => !(hosted 1 up).servable 0 sp) = true ∧ pushing.servable 0 0 = true) :=
  ⟨by decide, accepted_iff _ _ _ _ (by decide), by decide, by decide⟩

/-- A selected master, its Sync with and without an origin time, a request on its way; states of the mapping. -/
def announce : Announce := ⟨0, 0, 77, 128, 6, 33, 20000, 128, 99, 0, 37, 1⟩
def ptp (st : Nat) (t1 : Option Int) : State := set { hosted 1 up with tim := { up.tim with
    masters := [⟨announce, 10312000000⟩], sel := some ⟨announce, 10312000000⟩, sync := some ⟨3, t1, 0, 164990000000, 5⟩,
    req := some (4, 164999000000, 10312400000), reqAt := some 10312400000 } }
  [(Reg.TIM_STAT, Fd.TIM_STAT_STATE, st), (Reg.TIM_CFG, Fd.TIM_CFG_DOMAIN, 0), (Reg.TIM_CFG, Fd.TIM_CFG_PTP_PORT, 0)]
def head (n : Nat) : PtpHead := ⟨0, 0, 77, n⟩
def ptpOld : State := { ptp 1 none with tim := { (ptp 1 none).tim with
  masters := [⟨announce, 0⟩], sel := some ⟨announce, 0⟩, req := some (4, 0, 0), reqAt := some 0 } }
def restep : State := set (ptp 1 (some 5)) [(Reg.TIM_STAT, Fd.TIM_STAT_RESTEP_PEND, 1)]
def noMaster : State := { ptp 2 none with tim := up.tim }
def agree3 : State := { ptp 0 (some 5) with tim := { (ptp 0 (some 5)).tim with offs := [0, 0, 0] } }
def ptpFly : State := { ptp 1 none with pln := flying.pln }
/-- The offset of an exchange with Sync at 164,990,000,000 in 1/16 tick of origin 0, Delay_Req at 164,999,000,000, which
the master received at 10^10 ns. -/
def offsetOf (s : State) : Int :=
  roundShr (s.tai16 164990000000 - 0 * 2 ^ 28 - ((s.tai16 164990000000 - 0 * 2 ^ 28) +
    ((65536 * ((10000000000 : Nat) : Int) - 0) * 2 ^ 28 - s.tai16 164999000000)) / 2 -
    signed 32 (s.rd Reg.TIM_ASYM).toNat * 2 ^ 44) 44
def agreed : State := { ptp 0 (some 0) with tim := { (ptp 0 (some 0)).tim with offs := List.replicate 7 (offsetOf (ptp 0 (some 0))) } }

theorem witness_WallTimeFollowsTheMaster :
    ((ptp 1 none).fromMaster (head 3) = true ∧ up.fromMaster (head 3) = false ∧ up.rd (Reg.UL_RX_FRAMES 0) ≠ 0xFFFFFFFF) ∧
    (ptp 1 none).tim.sync = some ⟨3, none, 0, 164990000000, 5⟩ ∧
    ((ptp 1 none).tim.sel = some ⟨announce, 10312000000⟩ ∧ (ptp 1 none).tim.reqAt = some 10312400000 ∧
      (ptp 1 none).ltc.toNat - (10312400000 : Time).toNat < (ptp 1 none).reqInterval ∧ ptpOld.tim.reqAt = some 0 ∧
      ¬ ptpOld.ltc.toNat - (0 : Time).toNat < ptpOld.reqInterval) ∧
    ((ptp 1 none).tim.req = some (4, 164999000000, 10312400000) ∧ (ptp 1 none).ltc.toNat - (10312400000 : Time).toNat < tickS ∧
      ptpOld.tim.req = some (4, 0, 0) ∧ tickS ≤ ptpOld.ltc.toNat - (0 : Time).toNat) ∧
    ((ptp 1 (some 5)).tim.sync = some ⟨3, some 5, 0, 164990000000, 5⟩ ∧
      (ptp 1 (some 5)).tim.req = some ((head 4).seq, 164999000000, 10312400000) ∧ (ptp 1 (some 5)).fromMaster (head 4) = true ∧
      (ptp 1 (some 5)).role = 0 ∧ (ptp 1 (some 5)).timState ≠ 0 ∧ (ptp 1 (some 5)).flag Reg.TIM_STAT Fd.TIM_STAT_RESTEP_PEND = false ∧
      restep.flag Reg.TIM_STAT Fd.TIM_STAT_RESTEP_PEND = true ∧ restep.timState ≠ 0 ∧ agree3.timState = 0 ∧ agree3.tim.offs.length = 3 ∧
      agreed.timState = 0 ∧ ((offsetOf agreed :: agreed.tim.offs).take 8).length = 8 ∧
      (∀ a ∈ (offsetOf agreed :: agreed.tim.offs).take 8, ∀ b ∈ (offsetOf agreed :: agreed.tim.offs).take 8, (a - b).natAbs ≤ 1000)) ∧
    ({ announce with domain := 9 }.domain ≠ noMaster.rf Reg.TIM_CFG Fd.TIM_CFG_DOMAIN ∧
      announce.domain = noMaster.rf Reg.TIM_CFG Fd.TIM_CFG_DOMAIN ∧ noMaster.tim.masters = [] ∧ noMaster.tim.sel = none ∧
      noMaster.inService announce.port.val = true ∧ noMaster.ptpPortOk announce.port.val = true ∧ announce.gm < 2 ^ 64 ∧
      noMaster.annExpired ⟨announce, noMaster.ltc⟩ = false) ∧
    ((∃ m ∈ (ptp 1 none).tim.masters, m.ann.src = announce.src ∧ m.ann.port = announce.port ∧ (ptp 1 none).annExpired m = false) ∧
      ptpOld.tim.sel = some ⟨announce, 0⟩ ∧ (∀ m ∈ ptpOld.tim.masters, ptpOld.annExpired m = true)) ∧
    ((ptp 1 none).timState = 1 ∧
      (ptp 1 none).rf Reg.TIM_UPD Fd.TIM_UPD_UPD_MS * tickMs ≤ (ptp 1 none).ltc.toNat - (ptp 1 none).tim.updAt.toNat ∧
      (ptp 1 none).role ≠ 2 ∧ (ptp 1 none).sys.restarting = false ∧ (ptp 1 none).mainBoundary = 0 ∧ ptpFly.mainBoundary ≠ 0 ∧
      1066063393761 + 1066063393761 * (ptp 1 none).rf Reg.TIM_CFG Fd.TIM_CFG_SLEW_MAX / 1000000 < 2 ^ 64 ∧ ptpFly.timState = 1 ∧
      up.timState = 0) := by
  refine ⟨?_, ?_, ?_, ?_, ?_, ?_, ?_, ?_⟩ <;> decide

/-! ### Pair operation -/

/-- A trained lane; one in training whose sixteenth heartbeat is due; a hub of a pair with its role, SYNC and tether state. -/
def laneOn : TethLane := ⟨true, 16, 3, true, true, 0, some 5, 10312400000⟩
def laneSoon : TethLane := ⟨true, 15, 3, true, false, 0, some 5, 10312400000⟩
def tether (role sync st : Nat) (l : TethLane) (s : State) : State := set { s with pai := { s.pai with lanes := [l, l] } }
  [(Reg.SYS_STAT, Fd.SYS_STAT_STRAP_PAIR, 1), (Reg.PAI_STAT, Fd.PAI_STAT_ROLE, role), (Reg.PAI_STAT, Fd.PAI_STAT_SYNC, sync),
   (Reg.TTH_STAT, Fd.TTH_STAT_STATE, st)]
def onPai (f : PaiState → PaiState) (s : State) : State := { s with pai := f s.pai }

/-- Active and standby with a trained tether; a hub that looks for its partner; lanes with lock and no tether lane yet. -/
def pairA : State := tether 1 3 2 laneOn flying
def pairS : State := tether 2 3 2 laneOn flying
def joining : State := tether 2 1 2 laneOn flying
def seeking : State := tether 0 0 1 laneSoon up
def locking : State := set (tether 0 0 1 TethLane.init up) [(Reg.LN_STAT 2, Fd.LN_STAT_CDR_LOCK, 1)]
def missing (t p : Nat) (s : State) : State := onPai (fun x => { x with tMiss := t, pMiss := p }) s
def hbOf (role sync : Nat) : HbMsg :=
  ⟨role, sync, 3, false, 0, false, false, 0, 10312499900, some 10312490000, 9000, 7, 0, none, false, 0, 0⟩
def claim : ClaimMsg := ⟨0, 0x5450, 3, 10312000000, []⟩
def claimed : State := onPai (fun x => { x with serial := 3 }) (missing 4 4 (tether 1 0 4 TethLane.init flying))
def claiming (t : Time) : State := onPai (fun x => { x with claimTo := some t }) pairA
def revertDue : State := set (onPai (fun x => { x with syncAt := some 0 }) pairS) [(Reg.PAI_CFG, Fd.PAI_CFG_PREF, 1),
  (Reg.PAI_CFG, Fd.PAI_CFG_REVERT, 1), (Reg.PAI_CFG, Fd.PAI_CFG_REVERT_HOLD, 2)]

theorem shbOk (s : State) (h : s.shb = up.shb) : ShbOk s := by
  constructor <;> rw [h] <;> decide

theorem witness_TetherRolesAndTakeover :
    (locking.isPair = true ∧ locking.laneOut 2 = false ∧ locking.flag (Reg.LN_STAT 2) Fd.LN_STAT_CDR_LOCK = true ∧
      (locking.tlane 0).block = false) ∧
    (pairA.isPair = true ∧ pairA.pai.silent = false ∧ pairA.inHoldover = false ∧ (pairA.tlane 0).block = true ∧ up.isPair = false) ∧
    (Heard pairA 0 ∧ (pairA.tlane 0).up = true ∧ pairA.pai.lanes.length = 2 ∧ pairA.role = 1 ∧ pairA.syncState = 3 ∧
      (hbOf 2 3).role = 2 ∧ (hbOf 2 3).sync = 3 ∧ (hbOf 2 3).ask = false) ∧
    (Heard seeking 0 ∧ (seeking.tlane 0).up = false ∧ (seeking.tlane 1).up = false ∧ seeking.pai.lanes.length = 2 ∧
      seeking.tthState = 1 ∧ seeking.role = 0 ∧ seeking.syncState = 0 ∧ (seeking.tlane 0).serial = (hbOf 4 0).serial ∧
      15 ≤ (seeking.tlane 0).run ∧ (hbOf 4 0).echo = some 10312490000 ∧
      (seeking.ltc.toNat - (10312490000 : Time).toNat - (hbOf 4 0).hold) / 2 ≤ 2063 ∧ (hbOf 4 0).role = 4 ∧ (hbOf 4 0).since = 0 ∧
      (hbOf 4 0).pref = seeking.flag Reg.PAI_CFG Fd.PAI_CFG_PREF ∧ (hbOf 4 0).serial < 2 ^ 64 ∧ seeking.nv.serial < (hbOf 4 0).serial) ∧
    (pairA.pai.tMiss < 4 ∧ 4 ≤ claimed.pai.tMiss ∧ claimed.anyLane = false ∧ 2 ≤ claimed.tthState ∧ claimed.pai.down = false ∧
      claimed.role = 1) ∧
    (pairS.isPair = true ∧ 2 ≤ pairS.tthState ∧ (missing 3 3 pairS).pai.lanes.length = 2 ∧ (missing 3 3 pairS).role = 2 ∧
      (missing 3 3 pairS).syncState ≠ 0 ∧ (missing 3 3 pairS).pai.tMiss = 3 ∧ (missing 3 3 pairS).pai.pMiss = 3 ∧
      (missing 0 3 pairS).pai.tMiss = 0 ∧ (missing 0 3 pairS).pai.pMiss = 3 ∧ (missing 0 3 pairS).tlane 0 = laneOn) ∧
    (seeking.isPair = true ∧ seeking.anyLane = false ∧ (tether 0 0 0 laneSoon up).tthState = 0 ∧
      (tether 0 0 0 laneSoon up).anyLane = false) ∧
    (up.pai.claimTo = none ∧ (claiming 10312499999).pai.claimTo = some 10312499999 ∧
      (10312499999 : Time).toNat < (claiming 10312499999).ltc.toNat ∧
      (claiming 10312500000).ltc.toNat ≤ (10312500000 : Time).toNat) ∧
    (claimed.claimValid claim = true ∧ pairA.claimValid claim = false) ∧
    ((3 : Fin 4).val ≠ 0 ∧ up.role ≠ 1 ∧ pairA.pai.handover = none ∧ pairA.mainPeriod ≠ 0 ∧ pairS.role = 2 ∧ 2 ≤ pairS.syncState ∧
      pairA.unscheduled = false ∧ (tether 1 0 2 laneOn flying).syncState = 0) ∧
    (revertDue.role = 2 ∧ revertDue.syncState = 3 ∧ revertDue.flag Reg.PAI_CFG Fd.PAI_CFG_PREF = true ∧
      revertDue.flag Reg.PAI_CFG Fd.PAI_CFG_REVERT = true ∧ revertDue.pai.syncAt = some 0 ∧
      (0 : Time).toNat + revertDue.rf Reg.PAI_CFG Fd.PAI_CFG_REVERT_HOLD * tickS ≤ revertDue.ltc.toNat) ∧
    (onPai (fun x => { x with handover := some 10312600000 }) pairS).pai.handover = some 10312600000 := by
  refine ⟨?_, ?_, ?_, ?_, ?_, ?_, ?_, ?_, ?_, ?_, ?_, ?_⟩ <;> (try unfold Heard) <;> decide

theorem witness_TetherRolesAndTakeover_bus : ShbOk pairS ∧ ShbOk seeking ∧ ShbOk (missing 3 3 pairS) :=
  ⟨shbOk _ rfl, shbOk _ rfl, shbOk _ rfl⟩

/-- A standby with the engine at work on a launch, a used node channel, and a copied mapping. -/
def shadowF : State := set { pairS with fib := { pairS.fib with
  cur := { FibRun.init with live := true, launch := 10312490000 }, digests := [(4, 9)] } } [(Reg.FEN_POINTS, Fd.FEN_POINTS_N, 4)]
def feed : FeedF := ⟨0, 0, 10312490000, false, false, false, [(0, 2, -7, 9)], []⟩
def shadowN : State := set pairS [(Reg.DRP_CFG 3, Fd.DRP_CFG_NODES, 2), (Reg.DRP_CH_CFG 3 1, Fd.DRP_CH_CFG_NODE, 1)]
def fwdTrig : Trigger := ⟨3, 0x2001, 10312499990, 10312500000, 0, false, false⟩
def view : TimeView := pairS.timeView 1
def copyOf (n : Nat) (ops : List CopyOp) : CopyMsg := ⟨n, 10312499000, none, ops⟩
def idlePair : State := tether 2 1 2 laneOn idling

theorem witness_StandbyShadowsAndCopies :
    (pairS.isPair = true ∧ (pairS.tlane 0).block = true ∧ (seeking.tlane 0).up = false ∧ seeking.isPair = true ∧
      (tether 2 0 2 laneOn flying).shadows = false ∧ (tether 2 0 2 laneOn flying).role ≠ 1) ∧
    (Shadowed shadowF 0 ∧ shadowF.fenActive = true ∧ shadowF.fib.cur.live = true ∧ shadowF.fib.cur.launch = feed.launch ∧
      shadowF.fib.cur.slot = feed.slot ∧ feed.z = [(feed.slot, 2, -7, 9)] ∧ feed.raman = []) ∧
    (Shadowed pairS 0 ∧ pairS.fieldTick ≠ 0) ∧
    (Shadowed shadowN 1 ∧ (96 : Nat) < 512 ∧ (97 : Nat) < 512 ∧ (shadowN.port (97 / 32)).nextIn.length = 32 ∧
      shadowN.slotNode (96 / 32) (96 % 32) = 0 ∧ shadowN.slotNode (97 / 32) (97 % 32) ≠ 0 ∧
      nth (shadowN.port (97 / 32)).nextIn (97 % 32) 0 ≤ 5) ∧
    (pairS.role = 2 ∧ pairS.syncState ≠ 0 ∧ nth pairS.shb.lineCycle fwdTrig.line 0 < fwdTrig.arr.toNat / 2 + 1 ∧
      fwdTrig.arr.toNat / 2 + 1 ≤ nth (setAt pairS.shb.lineCycle 3 6000000000) fwdTrig.line 0 ∧
      (tether 2 0 2 laneOn flying).syncState = 0) ∧
    (Shadowed joining 0 ∧ (copyOf 0 []).no ≤ joining.pai.acked ∧ joining.pai.acked < (copyOf 1 []).no ∧ joining.syncState = 1 ∧
      joining.unscheduled = false ∧ Shadowed idlePair 0 ∧ idlePair.unscheduled = true ∧
      (copyOf 1 [.timeState view 10312500000]).ops = [.timeState view 10312500000]) ∧
    (Shadowed shadowF 0 ∧ shadowF.syncState = 3 ∧ (shadowF.fib.digests.find? (fun d => d.1 == 4)).map (·.2) = some 9) ∧
    (pairS.shadows = true ∧ up.shadows = false ∧ pairS.pai.rxN = 0) ∧ (Heard pairA 0 ∧ (pairA.tlane 0).up = true ∧ pairA.role = 1) ∧
    joining.syncState = 1 ∧ pairS.syncState ≠ 1 ∧ ([(5, 1), (6, 2)].map (·.1) : List Nat).Nodup := by
  refine ⟨?_, ?_, ?_, ?_, ?_, ?_, ?_, ?_, ?_, ?_, ?_, ?_⟩ <;> (try unfold Shadowed) <;> (try unfold Heard) <;> decide

theorem witness_StandbyShadowsAndCopies_bus : ShbOk pairS ∧ ShbOk shadowF ∧ ShbOk shadowN ∧ ShbOk joining :=
  ⟨shbOk _ rfl, shbOk _ rfl, shbOk _ rfl, shbOk _ rfl⟩

/-! ### Operands that cannot arrive, table words, single commands -/

/-- Of these commands each breaks one check of WellFormed. -/
def illFormed : List Instr :=
  [.railOutOfWindow 0, .railOutOfWindow 512, .progressMonitorMiss .driariPort 16, .progressMonitorMiss .compression 1,
   .freqCompareDone 0 (2 ^ 31), .rampComplete (-2 ^ 63 - 1), .eyeMeasure 0 ⟨256, 0, 0, 0, 0, 0, 0⟩, .eyeMeasure 0 ⟨0, 0, 0, 0, 0, 1, 2⟩,
   .firmwareLoaded true true 0 65536, .startupCalDone 32768 0, .startupCalDone 0 (-32769), .planData { msg 0 [] with udp := 65536 }] ++
  [.liveWrite .winch 0x11061 0, .registerWrite .winch 0x11062 0, .readClear .winch (2 ^ 32) 0, .loRead .winch 0x11063, .hiRead .winch 1,
   .irqClrWrite .winch 0x1B0 0 0, .irqEnWrite .winch 0x1B0 0 0, .pageCtrlWrite .winch 0x1B0 0, .snapshotRead .winch 0x20000001 .clean,
   .snapshotRead .winch 0x20000000 (.corrected 2), .acquisitionWindowEnd [], .acquisitionWindowEnd (List.replicate 4 ⟨0, 5, 4⟩),
   .pointUpdate 0 (2 ^ 18) [] .clean, .pointUpdate 0 0 [⟨8192, 0, 0, 0⟩] .clean, .pointUpdate 0 0 [] (.mixed 6 [0]), .pssScrub (.mixed 0 [1, 1])] ++
  [.hspiTransactionDone (List.replicate 257 0), .convTempRead 32768, .fieldTickHold (List.replicate 2 ⟨3, 0, ⟨false, none⟩, none, false, false, false⟩),
   .conversionSlot 0 103 0 false, .conversionSlot 0 0 131072 false, .injectedConversionDone 0 (-131073) ⟨0, false⟩, .fieldRecalTrigger (-32769),
   .comparatorCrossing 0 (2 ^ 43), .upstreamFrame 0 { upFrame 0 with sfn := 256 }, .upstreamFrame 0 { upFrame 0 with status := [(65536, true)] },
   .upstreamFrame 0 { upFrame 0 with events := [⟨0, 0, 2 ^ 20, true⟩] }, .upstreamFrame 0 { upFrame 0 with blocks := [(32, none)] },
   .uSofMissing 0 65536, .shutInEdge [], .shutInEdge [edge, edge], .segmentCopyDone 0 [1, 1]] ++
  [.spoolPush { raw 16 with kind := 14 }, .spoolPush { raw 16 with cls := 0 }, .spoolPush (raw 15), .dmaDone 0 (2 ^ 32), .arpRequest 0 (2 ^ 48) 0 0,
   .icmpEchoRequest 0 (2 ^ 48) [], .sessOpen { msg 0 [] with mac := 2 ^ 48 }, .sessClose { msg 0 [] with magic := 65536 },
   .sessKeepalive { msg 0 [] with flags := 256 }, .sessCredit { msg 0 [] with seq := 2 ^ 32 }, .regRead ⟨msg 0 [], [.corrected 2]⟩,
   .regRead ⟨{ msg 0 [] with boot := 2 ^ 32 }, []⟩, .regWrite (msg 0 []) [⟨256, 0, true⟩], .spoolOpPop { msg 0 [] with len := 65536 } [],
   .spoolOpMark { msg 0 [] with ver := 256 }, .spoolOpRewind { msg 0 [] with ip := 2 ^ 32 }, .spoolOpReleaseMark { msg 0 [] with ack := 2 ^ 32 },
   .spoolOpReleaseRead { msg 0 [] with session := 2 ^ 32 }, .noticeSend 0 0x1B0, .noticeHoldExpiry 0 0x1B0] ++
  [.mspiRead 0 1 2, .mspiRead 0 65536 0, .mspiWrite 0 0 [1] [], .mspiWrite 0 1 [] [⟨1, 0, true⟩], .ptpSync ⟨0, 256, 0, 0⟩ 0 0 0 0 false,
   .ptpFollowUp ⟨0, 0, 0, 65536⟩ 0 0, .ptpDelayResp ⟨0, 0, 0, 0⟩ 0 0 128, .ptpAnnounce { announce with gm := 2 ^ 64 }, .mappingUpdate 0,
   .tetherHb 0 true { hbOf 1 1 with source := 4 }, .tetherFeedF 0 true { feed with slot := 4 }, .tetherFeedW 0 true ⟨none, [(64, 0)], [], none⟩,
   .tetherTrig 0 true [{ fwdTrig with line := 16 }], .tetherCopy 0 true (copyOf 1 [.notch 301 0]), .tetherCopy 0 true (copyOf 1 [.free 256 0]),
   .tetherBulk 0 true (.record 0 []), .tetherBulk 0 true (.core 16 LpeCore.init), .tetherBulk 0 true (.lane 0 1 0 0 0 []),
   .pairClaim { claim with serial := 2 ^ 64 }, .memtestBlockRestore none (2 ^ 32), .flashTimeout (2 ^ 32),
   .telPeriod ⟨[], 0, 0, 0⟩, .telPeriod ⟨List.replicate 9 0, 32768, 0, 0⟩]

theorem test_illFormed_refused : illFormed.all (fun c => !c.wellFormed) = true := by decide

theorem test_wellFormed_accepted : ([.railOutOfWindow 1, .freqCompareDone 0 (2 ^ 31 - 1), .readClear .winch (Reg.UL_RX_FRAMES 0) 1,
    .snapshotRead .winch 0x21FFFFFC .clean, .upstreamFrame 3 (upFrame 0), .spoolPush (raw 16), .regRead ⟨readMsg, []⟩,
    .tetherCopy 0 true (copyOf 1 [.notch 300 0]), .ptpAnnounce announce, .shutInEdge [edge]] : List Instr).all Instr.wellFormed = true := by decide

theorem test_no_word_spells_a_command : decodeTableWord 16 0 = none ∧ State.reset.withFetchWord 16 0xFFFF = State.reset := ⟨rfl, rfl⟩

/-- R30, R429: a watchdog that expires resets with cause 5 and counts the boot. -/
theorem test_watchdog : (ran .watchdogExpiry up).rd Reg.SYS_RESET_CAUSE = 5 ∧ (ran .watchdogExpiry up).nv.boot = 1 := by decide
/-- R334: SRC 0b11 of SWITCH is out of range. -/
theorem test_switch_range : (ran (.clkSwitch 0 3) clocked).rd (Reg.HDR_ERR_CODE 1) = w32 Err.CLK_RANGE := by decide
/-- R7: the read answers the value before, the event of the cycle stays. -/
theorem test_read_clear : let t := ran (.readClear (.ctx 0) (Reg.UL_RX_FRAMES 0) 3) (set up [(Reg.UL_RX_FRAMES 0, all, 9)])
    t.ans.words = [9] ∧ t.rd (Reg.UL_RX_FRAMES 0) = 3 := by decide
/-- R304: ADD wraps modulo 2^32; MUL lands behind the following instruction. -/
theorem test_lpAdd_wraps : nth ((ran (.lpAdd 1) (lp core1 0x01 (f3 4 1 1))).core 1).g 4 9 = 0 := by decide
theorem test_lpMul_late : ((ran (.lpMul 1) (lp core1 0x10 (f3 4 2 3))).core 1).late = [(1, 4, 0xC0008000)] := by decide
/-- R66: a truncated pulse makes its shot dark. -/
theorem test_drive_ilk : (ran .ilkAccept pulsing).ofe.dark = true ∧ (ran .ilkAccept shots).ofe.dark = false := by decide
/-- R251: a scheduler with PER 5,000 moves on by its period. -/
theorem test_scheduler : (ran (.schedulerFire 2) sched).rd (Reg.SHB_SCHED_AT 2) = w32 (10312500024 + 5000) := by decide
/-- R204: nine edges of 50.00 Hz. -/
theorem test_lsync : (ran .lsyncEdge (mains 9 flying)).rd Reg.FLT_LINE_FREQ = 5000 := by decide
/-- R277: REWIND puts RD_NO back to MARK_NO. -/
theorem test_rewind : ((ran (.laneRewind (.ctx 0) 1 false) laned).lane 1).rd = 0 := by decide

end Sys2Proof.Tests
end

section
/-!
What one command does to the state as a whole: whatever the command and the state, it completes, and its frame holds.
-/

namespace Sys2Proof.Machine

/-- Every field of State, in the frames' coding of sets of fields by bits. -/
abbrev allFields : Nat := 2 ^ 33 - 1

theorem within_allFields {M : Nat} (h : M &&& allFields = M := by decide) : Within M allFields := within_of_land h

theorem frame_flushTrig {s t : State} (h : Frame allFields s t) : Frame allFields s t.flushTrig :=
  State.flushTrig_frame within_allFields h

/-- IOR reads a register of the core and writes a general register of it: the state beside the core is as before. -/
theorem execLpIor_frame (c : Fin 16) (s : State) : ∃ t, execLpIor c s = .next t ∧ Frame allFields s t :=
  ⟨_, rfl, State.instr_frame within_allFields (frame_refl _ s) fun _ _ _ => okFrame_ok (frame_refl _ s)⟩

theorem returnArmed_frame (s : State) (b : Bool) :
    Frame allFields s { s with sys := { s.sys with returnArmed := b } } :=
  { frame_refl allFields s with sys := fun outside => absurd outside (by decide) }

/-- Every command completes, and keeps the waiting commands, the identity block and the canonical form of the maps: one
arm of the dispatch after the other, by the frame of the operation that is its meaning. -/
theorem exec_frame (c : Instr) (s : State) : ∃ t, exec c s = .next t ∧ Frame allFields s t := by
  have same : Frame allFields s s := frame_refl allFields s
  cases c with
  | railOutOfWindow => exact ⟨_, rfl, opRailOut_frame within_allFields same⟩
  | railValidTimer => exact ⟨_, rfl, opRailValid_frame within_allFields same⟩
  | resetNLow => exact ⟨_, rfl, opResetLow_frame within_allFields same⟩
  | progressMonitorMiss => exact ⟨_, rfl, opMonitorMiss_frame within_allFields same⟩
  | watchdogExpiry => exact ⟨_, rfl, opWatchdog_frame within_allFields same⟩
  | sysReset => exact ⟨_, rfl, opSysReset_frame within_allFields same⟩
  | pfwFall => exact ⟨_, rfl, opPfwFall_frame within_allFields same⟩
  | pfwCommitDone => exact ⟨_, rfl, opPfwCommit_frame within_allFields same⟩
  | pfwResume => exact ⟨_, rfl, opPfwResume_frame within_allFields same⟩
  | tamperTrip => exact ⟨_, rfl, opTamper_frame within_allFields same⟩
  | jtagTapReset => exact ⟨_, rfl, same⟩
  | laneLocked => exact ⟨_, rfl, opLaneLocked_frame within_allFields same⟩
  | losDetect => exact ⟨_, rfl, opLosDetect_frame within_allFields same⟩
  | cdrUnlockTimeout => exact ⟨_, rfl, opCdrUnlock_frame within_allFields same⟩
  | freqCompareDone => exact ⟨_, rfl, opFreqCompare_frame within_allFields same⟩
  | synthTrouble => exact ⟨_, rfl, opSynthTrouble_frame within_allFields same⟩
  | holdoverTimeout => exact ⟨_, rfl, opHoldoverTimeout_frame within_allFields same⟩
  | clkResume => exact ⟨_, rfl, opClkResume_frame within_allFields same⟩
  | clkSwitch => exact ⟨_, rfl, opClkSwitch_frame within_allFields same⟩
  | switchHandshake | switchHandshakeTimeout => exact ⟨_, rfl, State.switchDone_frame within_allFields same⟩
  | rampStep => exact ⟨_, rfl, opRampStep_frame within_allFields same⟩
  | rampComplete => exact ⟨_, rfl, opRampComplete_frame within_allFields same⟩
  | revertHoldElapsed => exact ⟨_, rfl, opRevertHold_frame within_allFields same⟩
  | eyeMeasure => exact ⟨_, rfl, opEyeMeasure_frame within_allFields same⟩
  | prbsInj1 => exact ⟨_, rfl, opPrbsInj1_frame within_allFields same⟩
  | prbsClr => exact ⟨_, rfl, opPrbsClr_frame within_allFields same⟩
  | prbsRateInject => exact ⟨_, rfl, opPrbsRate_frame within_allFields same⟩
  | prbsSync | prbsSyncLoss => exact ⟨_, rfl, State.setPrbsSync_frame within_allFields same⟩
  | gateWrite => exact ⟨_, rfl, opGateWrite_frame within_allFields same⟩
  | gateEffective | ungateDone => exact ⟨_, rfl, State.gateApply_frame within_allFields same⟩
  | firmwareLoaded => exact ⟨_, rfl, opFirmwareLoaded_frame within_allFields same⟩
  | startupCalDone => exact ⟨_, rfl, opStartupCalDone_frame within_allFields same⟩
  | planLoadDone => exact ⟨_, rfl, frame_flushTrig (opPlanLoadDone_frame within_allFields same)⟩
  | planData => exact ⟨_, rfl, opPlanData_frame within_allFields same⟩
  | planDataWritten => exact ⟨_, rfl, opPlanDataWritten_frame within_allFields same⟩
  | plnCommit => exact ⟨_, rfl, opPlnCommit_frame within_allFields same⟩
  | commitCheckDone => exact ⟨_, rfl, opCommitCheckDone_frame within_allFields same⟩
  | plnSwitch => exact ⟨_, rfl, opPlnSwitch_frame within_allFields same⟩
  | shadowLoadDone => exact ⟨_, rfl, opShadowLoadDone_frame within_allFields same⟩
  | switchInstant => exact ⟨_, rfl, frame_flushTrig (opSwitchInstant_frame within_allFields same)⟩
  | activationRecordWritten => exact ⟨_, rfl, opActivationRecord_frame within_allFields same⟩
  | plnAbort => exact ⟨_, rfl, opPlnAbort_frame within_allFields same⟩
  | plnErase => exact ⟨_, rfl, opPlnErase_frame within_allFields same⟩
  | liveWrite | registerWrite | schedCfgWrite | schedAtWrite =>
    exact ⟨_, rfl, frame_flushTrig (State.accessWrite_frame within_allFields same)⟩
  | readClear => exact ⟨_, rfl, opReadClear_frame within_allFields same⟩
  | loRead | hiRead | snapshotRead => exact ⟨_, rfl, State.accessRead_frame within_allFields same⟩
  | irqClrWrite => exact ⟨_, rfl, opIrqClr_frame within_allFields same⟩
  | irqEnWrite | pageCtrlWrite | ballastWrite => exact ⟨_, rfl, State.accessWrite_frame within_allFields same⟩
  | popDataRead => exact ⟨_, rfl, opPopData_frame within_allFields same⟩
  | shotBoundary => exact ⟨_, rfl, frame_flushTrig (opShotBoundary_frame within_allFields same)⟩
  | slotLaunch => exact ⟨_, rfl, frame_flushTrig (opSlotLaunch_frame within_allFields same)⟩
  | pulseStart => exact ⟨_, rfl, opPulseStart_frame within_allFields same⟩
  | rmnTrigRise => exact ⟨_, rfl, opRmnTrig_frame within_allFields same⟩
  | acquisitionWindowEnd => exact ⟨_, rfl, opWindowEnd_frame within_allFields same⟩
  | pointUpdate => exact ⟨_, rfl, frame_flushTrig (opPointUpdate_frame within_allFields same)⟩
  | pssScrub => exact ⟨_, rfl, opScrub_frame within_allFields same⟩
  | ramanConversion => exact ⟨_, rfl, opRamanConversion_frame within_allFields same⟩
  | hspiGo => exact ⟨_, rfl, opHspiGo_frame within_allFields same⟩
  | hspiTransactionDone => exact ⟨_, rfl, opHspiDone_frame within_allFields same⟩
  | hspiStartByteTimeout => exact ⟨_, rfl, opHspiTimeout_frame within_allFields same⟩
  | ofeRecal => exact ⟨_, rfl, State.rxRecal_frame within_allFields same⟩
  | lasOn => exact ⟨_, rfl, opLasOn_frame within_allFields same⟩
  | lasOff => exact ⟨_, rfl, opLasOff_frame within_allFields same⟩
  | headScript => exact ⟨_, rfl, opScript_frame within_allFields same⟩
  | ilkAccept => exact ⟨_, rfl, opIlkAccept_frame within_allFields same⟩
  | ilkRelease => exact ⟨_, rfl, opIlkRelease_frame within_allFields same⟩
  | lasStatRise => exact ⟨_, rfl, opLasRise_frame within_allFields same⟩
  | lasStatFall => exact ⟨_, rfl, opLasFall_frame within_allFields same⟩
  | lasStatTimeout => exact ⟨_, rfl, opLasTimeout_frame within_allFields same⟩
  | convTempRead => exact ⟨_, rfl, opConvTemp_frame within_allFields same⟩
  | rxRecalPeriod => exact ⟨_, rfl, opRxPeriod_frame within_allFields same⟩
  | spareCalibrated => exact ⟨_, rfl, opSpareCal_frame within_allFields same⟩
  | fieldTickHold => exact ⟨_, rfl, frame_flushTrig (opFieldTick_frame within_allFields same)⟩
  | conversionSlot => exact ⟨_, rfl, frame_flushTrig (opConversion_frame within_allFields same)⟩
  | complianceLatch => exact ⟨_, rfl, frame_flushTrig (opCompliance_frame within_allFields same)⟩
  | startHoldEnd => exact ⟨_, rfl, frame_flushTrig (opStartHoldEnd_frame within_allFields same)⟩
  | injCmd => exact ⟨_, rfl, State.injRequest_frame within_allFields same⟩
  | injectedConversionDone => exact ⟨_, rfl, opInjDone_frame within_allFields same⟩
  | fldCal => exact ⟨_, rfl, opFldCal_frame within_allFields same⟩
  | fieldRecalTrigger => exact ⟨_, rfl, opFieldRecal_frame within_allFields same⟩
  | fieldConverterCalDone => exact ⟨_, rfl, opConvCalDone_frame within_allFields same⟩
  | recoveryDone => exact ⟨_, rfl, opRecoveryDone_frame within_allFields same⟩
  | comparatorCrossing => exact ⟨_, rfl, frame_flushTrig (opCrossing_frame within_allFields same)⟩
  | latchedRelease => exact ⟨_, rfl, opLatchedRelease_frame within_allFields same⟩
  | bandSelect => exact ⟨_, rfl, opBandSelect_frame within_allFields same⟩
  | lsyncEdge => exact ⟨_, rfl, opLsyncEdge_frame within_allFields same⟩
  | lsyncLost => exact ⟨_, rfl, opLsyncLost_frame within_allFields same⟩
  | chainSync => exact ⟨_, rfl, opChainSync_frame within_allFields same⟩
  | superframeBoundary => exact ⟨_, rfl, frame_flushTrig (opSuperframe_frame within_allFields same)⟩
  | dSofSend => exact ⟨_, rfl, frame_flushTrig (opDsofSend_frame within_allFields same)⟩
  | upstreamFrame => exact ⟨_, rfl, frame_flushTrig (opUpstreamFrame_frame within_allFields same)⟩
  | uSofMissing => exact ⟨_, rfl, frame_flushTrig (opUsofMissing_frame within_allFields same)⟩
  | linkRetrainTimeout => exact ⟨_, rfl, opLinkRetrain_frame within_allFields same⟩
  | trainingAttemptTimeout => exact ⟨_, rfl, opTrainTimeout_frame within_allFields same⟩
  | noPartnerRetry => exact ⟨_, rfl, opNoPartnerRetry_frame within_allFields same⟩
  | assignReplyTimeout => exact ⟨_, rfl, opAssignTimeout_frame within_allFields same⟩
  | drpRetrain => exact ⟨_, rfl, opRetrain_frame within_allFields same⟩
  | drpRejoin => exact ⟨_, rfl, State.rejoin_frame within_allFields same⟩
  | nodeCmd => exact ⟨_, rfl, opNodeCmd_frame within_allFields same⟩
  | nodeCmdTimeout => exact ⟨_, rfl, opNodeCmdTimeout_frame within_allFields same⟩
  | splitDetect => exact ⟨_, rfl, opSplitDetect_frame within_allFields same⟩
  | autoRejoin => exact ⟨_, rfl, opAutoRejoin_frame within_allFields same⟩
  | shutInEdge => exact ⟨_, rfl, opShutInEdge_frame within_allFields same⟩
  | shutInStuck => exact ⟨_, rfl, opShutInStuck_frame within_allFields same⟩
  | lineStateExpiry => exact ⟨_, rfl, opLineExpiry_frame within_allFields same⟩
  | schedulerFire => exact ⟨_, rfl, opSchedulerFire_frame within_allFields same⟩
  | shbTrig => exact ⟨_, rfl, opShbTrig_frame within_allFields same⟩
  | cmdAtReached => exact ⟨_, rfl, opCmdAtReached_frame within_allFields same⟩
  | segmentCopyDone => exact ⟨_, rfl, opSegmentCopy_frame within_allFields same⟩
  | spoolPush => exact ⟨_, rfl, opSpoolPush_frame within_allFields same⟩
  | compressionJobStart => exact ⟨_, rfl, opJobStart_frame within_allFields same⟩
  | compressionJobDone => exact ⟨_, rfl, opJobDone_frame within_allFields same⟩
  | staleExpiry => exact ⟨_, rfl, opStaleExpiry_frame within_allFields same⟩
  | lanePop => exact ⟨_, rfl, opSplPop_frame within_allFields same⟩
  | laneMark | laneRewind | laneReleaseMark | laneReleaseRead => exact ⟨_, rfl, opSplLane_frame within_allFields same⟩
  | loupeItemDispatch => exact ⟨_, rfl, opLoupeItemDispatch_frame within_allFields same⟩
  | loupeTimerItem => exact ⟨_, rfl, opLoupeTimerItem_frame within_allFields same⟩
  | activationStart => exact ⟨_, rfl, opActivationStart_frame within_allFields same⟩
  | budgetExpiry => exact ⟨_, rfl, opBudgetExpiry_frame within_allFields same⟩
  | interruptEntry => exact ⟨_, rfl, opInterruptEntry_frame within_allFields same⟩
  | dmaDone => exact ⟨_, rfl, opDmaDone_frame within_allFields same⟩
  | tmrExpiry => exact ⟨_, rfl, opTmrExpiry_frame within_allFields same⟩
  | lpNop | lpAbs | lpMul | lpMpy | lpMac | lpMsu | lpMova | lpMovta | lpCall | lpJr | lpWait | lpReti
    | lpMovts => exact ⟨_, rfl, State.instrR_frame within_allFields same⟩
  | lpAdd | lpSub | lpAnd | lpOr | lpXor | lpSlt | lpMin | lpMax =>
    exact ⟨_, rfl, State.instrF1_frame within_allFields same⟩
  | lpAddi | lpLui | lpOri | lpShl | lpShr | lpSra => exact ⟨_, rfl, State.instrF2_frame within_allFields same⟩
  | lpFtm => exact ⟨_, rfl, opFtm_frame within_allFields same⟩
  | lpLdh | lpLdhu | lpLdw => exact ⟨_, rfl, State.load_frame within_allFields same⟩
  | lpSth | lpStw => exact ⟨_, rfl, State.storeG_frame within_allFields same⟩
  | lpBeq | lpBne | lpBlt | lpBge | lpBr => exact ⟨_, rfl, State.instrBr_frame within_allFields same⟩
  | lpRpt => exact ⟨_, rfl, opRpt_frame within_allFields same⟩
  | lpEnd => exact ⟨_, rfl, opEnd_frame within_allFields same⟩
  | lpEmit => exact ⟨_, rfl, opEmit_frame within_allFields same⟩
  | lpDmov => exact ⟨_, rfl, opDmov_frame within_allFields same⟩
  | lpIor => exact execLpIor_frame _ s
  | lpIow => exact ⟨_, rfl, opIow_frame within_allFields same⟩
  | lpMovs => exact ⟨_, rfl, opMovs_frame within_allFields same⟩
  | illegalInstruction => exact ⟨_, rfl, opIllegal_frame within_allFields same⟩
  | pauseFrame => exact ⟨_, rfl, opPauseFrame_frame within_allFields same⟩
  | arpRequest => exact ⟨_, rfl, opArpRequest_frame within_allFields same⟩
  | icmpEchoRequest => exact ⟨_, rfl, opIcmpEcho_frame within_allFields same⟩
  | esmcPdu => exact ⟨_, rfl, opEsmc_frame within_allFields same⟩
  | ssmExpiry => exact ⟨_, rfl, opSsmExpiry_frame within_allFields same⟩
  | portInService => exact ⟨_, rfl, opPortInService_frame within_allFields same⟩
  | sessOpen => exact ⟨_, rfl, opSessOpen_frame within_allFields same⟩
  | sessClose => exact ⟨_, rfl, opSessClose_frame within_allFields same⟩
  | sessKeepalive => exact ⟨_, rfl, opSessKeepalive_frame within_allFields same⟩
  | sessCredit => exact ⟨_, rfl, opSessCredit_frame within_allFields same⟩
  | regRead => exact ⟨_, rfl, opRegRead_frame within_allFields same⟩
  | regWrite => exact ⟨_, rfl, frame_flushTrig (opRegWrite_frame within_allFields same)⟩
  | spoolOpPop | spoolOpMark | spoolOpRewind | spoolOpReleaseMark | spoolOpReleaseRead =>
    exact ⟨_, rfl, State.spoolOp_frame within_allFields same⟩
  | itemSend => exact ⟨_, rfl, opItemSend_frame within_allFields same⟩
  | keepaliveSend => exact ⟨_, rfl, opKeepaliveSend_frame within_allFields same⟩
  | sessionExpiry => exact ⟨_, rfl, opSessionExpiry_frame within_allFields same⟩
  | noticeSend => exact ⟨_, rfl, opNoticeSend_frame within_allFields same⟩
  | noticeHoldExpiry => exact ⟨_, rfl, opNoticeHold_frame within_allFields same⟩
  | noticeRepeat => exact ⟨_, rfl, opNoticeRepeat_frame within_allFields same⟩
  | mspiRead => exact ⟨_, rfl, opMspiRead_frame within_allFields same⟩
  | mspiWrite => exact ⟨_, rfl, frame_flushTrig (opMspiWrite_frame within_allFields same)⟩
  | mspiTimeout => exact ⟨_, rfl, opMspiTimeout_frame within_allFields same⟩
  | ptpSync => exact ⟨_, rfl, opPtpSync_frame within_allFields same⟩
  | ptpFollowUp => exact ⟨_, rfl, opPtpFollowUp_frame within_allFields same⟩
  | ptpDelayResp => exact ⟨_, rfl, opDelayResp_frame within_allFields same⟩
  | ptpAnnounce => exact ⟨_, rfl, opPtpAnnounce_frame within_allFields same⟩
  | delayReqSend => exact ⟨_, rfl, opDelayReq_frame within_allFields same⟩
  | delayRespMiss => exact ⟨_, rfl, opDelayRespMiss_frame within_allFields same⟩
  | announceTimeout => exact ⟨_, rfl, opAnnTimeout_frame within_allFields same⟩
  | mappingUpdate => exact ⟨_, rfl, opMappingUpdate_frame within_allFields same⟩
  | timRestep => exact ⟨_, rfl, opRestep_frame within_allFields same⟩
  | tetherBlockLock => exact ⟨_, rfl, opTetherBlockLock_frame within_allFields same⟩
  | hbSend => exact ⟨_, rfl, opHbSend_frame within_allFields same⟩
  | tetherHb => exact ⟨_, rfl, opHb_frame within_allFields same⟩
  | pairHbBeat => exact ⟨_, rfl, opPairHbBeat_frame within_allFields same⟩
  | heartbeatMiss => exact ⟨_, rfl, frame_flushTrig (opHeartbeatMiss_frame within_allFields same)⟩
  | tetherTrainTimeout => exact ⟨_, rfl, frame_flushTrig (opTrainingTimeout_frame within_allFields same)⟩
  | tetherTrainRetry => exact ⟨_, rfl, opTrainingRetry_frame within_allFields same⟩
  | tetherFeedF => exact ⟨_, rfl, frame_flushTrig (opFeedF_frame within_allFields same)⟩
  | tetherFeedW => exact ⟨_, rfl, frame_flushTrig (opFeedW_frame within_allFields same)⟩
  | tetherTrig => exact ⟨_, rfl, opTrig_frame within_allFields same⟩
  | tetherCopy => exact ⟨_, rfl, frame_flushTrig (opCopy_frame within_allFields same)⟩
  | healthSend => exact ⟨_, rfl, opHealthSend_frame within_allFields same⟩
  | tetherHealth => exact ⟨_, rfl, opHealth_frame within_allFields same⟩
  | tetherBulk => exact ⟨_, rfl, frame_flushTrig (opBulk_frame within_allFields same)⟩
  | claimSend => exact ⟨_, rfl, opClaimSend_frame within_allFields same⟩
  | pairClaim => exact ⟨_, rfl, opPairClaim_frame within_allFields same⟩
  | pairHandover => exact ⟨_, rfl, opHandover_frame within_allFields same⟩
  | handoverRevertHold => exact ⟨_, rfl, opRevertPreferred_frame within_allFields same⟩
  | handoverOswSwitch => exact ⟨_, rfl, opOswSwitch_frame within_allFields same⟩
  | pairResync => exact ⟨_, rfl, opResync_frame within_allFields same⟩
  | ballastWakeDone => exact ⟨_, rfl, opBallastWake_frame within_allFields same⟩
  | memScrub => exact ⟨_, rfl, opMemScrub_frame within_allFields same⟩
  | dkrWipe => exact ⟨_, rfl, opWipe_frame within_allFields same⟩
  | maintenanceStepStart => exact ⟨_, rfl, opMaintStep_frame within_allFields same⟩
  | mntStart => exact ⟨_, rfl, opMntStart_frame within_allFields same⟩
  | mntAbort => exact ⟨_, rfl, opMntAbort_frame within_allFields same⟩
  | memtestBlockRestore => exact ⟨_, rfl, opTestRestore_frame within_allFields same⟩
  | flashTimeout => exact ⟨_, rfl, opFlashTimeout_frame within_allFields same⟩
  | telPeriod => exact ⟨_, rfl, opTelPeriod_frame within_allFields same⟩
  | updStart => exact ⟨_, rfl, opUpdStart_frame within_allFields same⟩
  | updActivate => exact ⟨_, rfl, opActivate_frame within_allFields same⟩
  | updConfirm => exact ⟨_, rfl, opConfirm_frame within_allFields same⟩
  | updAbort => exact ⟨_, rfl, opUpdAbort_frame within_allFields same⟩
  | autoConfirm => exact ⟨_, rfl, opAutoConfirm_frame within_allFields same⟩
  | winchRestartDone => exact ⟨_, rfl, opWinchRestart_frame within_allFields same⟩
  | sdCardInsert => exact ⟨_, rfl, opSdInsert_frame within_allFields same⟩
  | sdCardRemove => exact ⟨_, rfl, opSdRemove_frame within_allFields same⟩
  | sdTimeout => exact ⟨_, rfl, opSdTimeout_frame within_allFields same⟩
  | keyInstall => exact ⟨_, rfl, opInstall_frame within_allFields same⟩
  | keyRemove => exact ⟨_, rfl, opRemove_frame within_allFields same⟩
  | returnArm => exact ⟨_, rfl, opReturnArm_frame within_allFields same⟩
  | returnArmExpiry => exact ⟨_, rfl, returnArmed_frame s false⟩
  | partReturn => exact ⟨_, rfl, opReturn_frame within_allFields same⟩
  | blockLockLoss => exact ⟨_, rfl, opBlockLockLoss_frame within_allFields same⟩
  | uplinkBlockLock => exact ⟨_, rfl, opUplinkBlockLock_frame within_allFields same⟩
  | downstreamFrame => exact ⟨_, rfl, opDownstreamFrame_frame within_allFields same⟩
  | ramanSample => exact ⟨_, rfl, opRamanSample_frame within_allFields same⟩
  | sourceRecovers => exact ⟨_, rfl, opSourceRecovers_frame within_allFields same⟩
  | resetNRelease => exact ⟨_, rfl, opResetRelease_frame within_allFields same⟩
  | rxFrameDropped => exact ⟨_, rfl, opFrameDropped_frame within_allFields same⟩
  | flashPatrolPeriod => exact ⟨_, rfl, opPatrolPeriod_frame within_allFields same⟩
  | memtestPeriod => exact ⟨_, rfl, opTestPeriod_frame within_allFields same⟩
  | linkLocalProbeEnd => exact ⟨_, rfl, opProbeEnd_frame within_allFields same⟩

end Sys2Proof.Machine
end

section
/-!
How the register commands act: which key an access finds its register under, when the trigger flush at a command's end
changes nothing, and what an allowed read, an allowed write and a refused one make of the state.
-/

namespace Sys2Proof.Machine

open Sys2Proof.Claims

theorem tick_eq (s : State) : s.tick = { s with ltc := if s.ltcRun then s.ltc + 1 else s.ltc } := by
  unfold State.tick
  split <;> rfl

/-! ### Keys of registers -/

/-- The access key is the address itself or that of a copy of it. -/
theorem accessKey_cases (s : State) (x addr : Nat) :
    s.accessKey x addr = addr ∨ ∃ i, s.accessKey x addr = copyKey addr i := by
  unfold State.accessKey
  split
  · exact .inr ⟨_, rfl⟩
  · split
    · split
      · exact .inr ⟨_, rfl⟩
      · exact .inl rfl
    · exact .inl rfl

theorem accessKey_mod (s : State) (x addr : Nat) : s.accessKey x addr % 0x1000000 = addr % 0x1000000 := by
  obtain h | ⟨i, h⟩ := accessKey_cases s x addr <;> rw [h]
  unfold copyKey
  omega

/-- The register that chooses a page's channel is one of the three channel indices (R462). -/
theorem chanWindow_index {page r a b : Nat} (e : chanWindow page = some (r, a, b)) :
    r ∈ [Reg.FLT_CH_INDEX, Reg.LIN_CH_INDEX, Reg.ENV_CH_INDEX] := by
  unfold chanWindow at e
  split at e
  · cases e; decide
  · split at e
    · cases e; decide
    · split at e
      · cases e; decide
      · cases e

/-- The access key is read off the channel indices alone. -/
theorem accessKey_congr {s t : State} (x addr : Nat)
    (h : ∀ r ∈ [Reg.FLT_CH_INDEX, Reg.LIN_CH_INDEX, Reg.ENV_CH_INDEX], t.rd (copyKey r x) = s.rd (copyKey r x)) :
    t.accessKey x addr = s.accessKey x addr := by
  unfold State.accessKey
  split
  · rfl
  · split
    · next r a b e => rw [h r (chanWindow_index e)]
    · rfl

/-- The context of an access is read off SYS.STAT alone. -/
theorem whoIdx_congr {s t : State} (who : Accessor) (h : t.rd Reg.SYS_STAT = s.rd Reg.SYS_STAT) :
    t.whoIdx who = s.whoIdx who := by
  cases who <;> simp [State.whoIdx, State.mgmtCtx, State.flag, State.rf, h]

/-! ### Event registers -/

theorem errCode_ne (p : Nat) : Reg.HDR_ERR_CODE p ≠ Reg.HDR_IRQ_RAW p ∧ Reg.HDR_ERR_CODE p ≠ Reg.HDR_SEQ p := by
  simp only [Reg.HDR_ERR_CODE, Reg.HDR_IRQ_RAW, Reg.HDR_SEQ]
  omega

theorem err_reports (s : State) (p c : Nat) : Reports (s.err p c) p c := by
  refine ⟨State.err_code s p c, ?_⟩
  unfold IrqSet
  rw [State.err_raw]
  exact Word.bit_setBit_same _ 31 (by decide)

theorem err_regsBut (s : State) (p c : Nat) : RegsBut (eventRegs p) s (s.err p c) := by
  intro a ha
  simp only [eventRegs, List.mem_cons, List.not_mem_nil, or_false, not_or] at ha
  obtain ⟨raw, seq, code, count⟩ := ha
  exact State.err_rd_ne s c (Ne.symm code) (Ne.symm count) (Ne.symm raw) (Ne.symm seq)

/-- An event of the same page keeps an error report: ERR_CODE is not its register, and no bit of IRQ_RAW falls. -/
theorem raise_reports {s : State} {p c : Nat} (b : Nat) (h : Reports s p c) : Reports (s.raise p b) p c := by
  obtain ⟨code, raw⟩ := h
  constructor
  · rw [State.raise_rd, if_neg (errCode_ne p).1, if_neg (fun e => (errCode_ne p).2 e.1), code]
  · unfold IrqSet at raw ⊢
    rw [State.raise_rd, if_pos rfl, Word.bit_setBit _ _ _ (by decide), raw, Bool.true_or]

theorem raise_regsBut (s : State) (p b : Nat) : RegsBut (eventRegs p) s (s.raise p b) := by
  intro a ha
  simp only [eventRegs, List.mem_cons, not_or] at ha
  obtain ⟨raw, seq, -⟩ := ha
  rw [State.raise_rd, if_neg raw, if_neg (fun e => seq e.1)]

theorem regsBut_trans {l : List Nat} {s t u : State} (h : RegsBut l s t) (k : RegsBut l t u) : RegsBut l s u :=
  fun a ha => (k a ha).trans (h a ha)

theorem regsBut_mono {l m : List Nat} {s t : State} (sub : l ⊆ m) (h : RegsBut l s t) : RegsBut m s t :=
  fun a ha => h a (fun hl => ha (sub hl))

/-- A refusal by a mask: the report of CTX_DENIED, the DENIED event, and one more in CTX.DENIED (R362). -/
theorem deny_reports (s : State) : Reports s.deny 0x8 Err.CTX_DENIED := raise_reports 0 (err_reports _ _ _)

theorem deny_regsBut (s : State) : RegsBut (Reg.CTX_DENIED :: eventRegs 0x8) s s.deny := by
  have counted : RegsBut (Reg.CTX_DENIED :: eventRegs 0x8) s (s.count Reg.CTX_DENIED) := by
    intro a ha
    rw [State.count_rd, if_neg (List.ne_of_not_mem_cons ha)]
  have events : RegsBut (eventRegs 0x8) (s.count Reg.CTX_DENIED) s.deny :=
    regsBut_trans (err_regsBut _ _ _) (raise_regsBut _ _ _)
  exact regsBut_trans counted (regsBut_mono (List.subset_cons_self _ _) events)

@[simp] theorem deny_shb (s : State) : s.deny.shb = s.shb := by simp [State.deny]

/-! ### Triggers at the end of a command -/

theorem iter_fixed {σ : Type} {f : Nat → σ → σ} {a : σ} (n : Nat) (h : ∀ i, f i a = a) : iter n f a = a := by
  unfold iter
  induction List.range n with
  | nil => rfl
  | cons i l ih => rw [List.foldl_cons, h, ih]

theorem issue_nil (s : State) : s.issue [] = s := by
  have fixed := iter_fixed (a := (s, ([] : List Trigger))) 16
    (f := fun l a => ((a.1.issueLine l []).1, (a.1.issueLine l []).2.foldl (fun x t => insertTrig t x) a.2))
    (fun _ => rfl)
  unfold State.issue
  simp only [List.filter_nil]
  rw [fixed]
  rfl

/-- A command that issues no trigger ends without one. -/
theorem flushTrig_of_gather_nil {s : State} (h : s.shb.gather = []) : s.flushTrig = s := by
  unfold State.flushTrig
  rw [h, issue_nil, ← h]

/-! ### Reads -/

theorem accessRead_of_readable {s : State} {who : Accessor} {addr : Nat} (h : Readable s who addr) (ecc : PssRead) :
    s.accessRead who addr ecc =
      { (s.regRead (s.whoIdx who) addr).2 with ans := ⟨stOk, 0, [(s.regRead (s.whoIdx who) addr).1]⟩ } := by
  obtain ⟨⟨up, aligned, low, assigned, ungated⟩, may⟩ := h
  have word : s.readWord (s.whoIdx who) addr ecc = (stOk, s.regRead (s.whoIdx who) addr) := by
    simp only [State.readWord, aligned, low, Option.isNone_eq_false_iff.2 assigned, ungated, may]
    rfl
  unfold State.accessRead
  rw [word]
  simp [up, Nat.not_le.2 low]

/-- A read of an RC register without a latch answers its value and clears it, and changes no other register (R5). -/
theorem regRead_rc {s : State} {x addr : Nat} {r : RegRow} (row : rowAt addr = some r) (rc : r.acc = .rc)
    (noLatch : ∀ e ∈ s.latches, e.1 ≠ latchKey x addr) :
    (s.regRead x addr).1 = s.regValue x addr ∧
    (s.regRead x addr).2.regs = (s.wr (s.accessKey x addr) 0).regs := by
  have unlatched : s.latches.find? (fun e => e.1 == latchKey x addr) = none := by
    simpa [List.find?_eq_none] using noLatch
  unfold State.regRead
  extract_lets v s0 key clears s1 page core view s2
  have kept0 : s0.regs = s.regs ∧ s0.latches = s.latches := by
    simp only [s0]
    split <;> exact ⟨rfl, rfl⟩
  have cleared : s1 = s0.wr key 0 := by simp only [s1, clears, row, rc, decide_true, if_true]
  have kept2 : s2.regs = s1.regs ∧ s2.latches = s1.latches := by
    simp only [s2]
    split
    · exact ⟨rfl, rfl⟩
    · split <;> exact ⟨rfl, rfl⟩
  have regs : s2.regs = (s.wr key 0).regs := by
    rw [kept2.1, cleared]
    simp only [State.wr, kept0.1]
  have latches : s2.latches = s.latches := by rw [kept2.2, cleared, State.wr_latches, kept0.2]
  split
  · exact ⟨rfl, regs⟩
  · rw [latches, unlatched]
    exact ⟨rfl, regs⟩

/-- A register of one access type is not a register of another one. -/
theorem ne_of_acc {addr b : Nat} {r : RegRow} (row : rowAt addr = some r)
    (other : (rowAt b).map RegRow.acc ≠ some r.acc) : b ≠ addr := by
  rintro rfl
  exact other (by rw [row]; rfl)

/-- The key of an access lies apart from every key of a register whose address is another one. -/
theorem accessKey_ne (s : State) (x : Nat) {addr b : Nat} (low : addr < 0x1000000) (ne : b % 0x1000000 ≠ addr) :
    b ≠ s.accessKey x addr := by
  intro e
  have key := accessKey_mod s x addr
  rw [← e, Nat.mod_eq_of_lt low] at key
  exact ne key

/-- A state that differs from `s` at the key of an RC register alone has the same accessors and keys: neither SYS.STAT
nor a channel index is such a register. -/
theorem accessKey_of_regsBut_rc {s t : State} {addr : Nat} {r : RegRow} (who : Accessor) (low : addr < 0x1000000)
    (row : rowAt addr = some r) (rc : r.acc = .rc) (k : RegsBut [s.accessKey (s.whoIdx who) addr] s t) :
    t.accessKey (t.whoIdx who) addr = s.accessKey (s.whoIdx who) addr := by
  have kept : ∀ b, b % 0x1000000 ≠ addr → t.rd b = s.rd b := fun b hb =>
    k b (fun h => accessKey_ne s _ low hb (List.mem_singleton.1 h))
  have stat : Reg.SYS_STAT ≠ addr := ne_of_acc row (by rw [rc]; decide)
  rw [whoIdx_congr who (kept _ stat)]
  apply accessKey_congr
  intro i hi
  have index : i % 0x1000000 = i ∧ (rowAt i).map RegRow.acc = some .rw := by
    revert i
    decide
  have ne : i ≠ addr := ne_of_acc row (by rw [rc, index.2]; decide)
  apply kept
  unfold copyKey
  omega

/-- What an event of the cycle brings to a register that a read has cleared: its count or amount, or its maximum (R7). -/
theorem event_after_clear {s : State} {key : Nat} (max : Bool) {ev : Word} (clear : s.rd key = 0) (event : ev ≠ 0) (a : Nat) :
    (if max then s.keepMax key ev.toNat else s.countN key ev.toNat).rd a = if a = key then ev else s.rd a := by
  have bound : ev.toNat < 4294967296 := ev.isLt
  cases max
  · rw [if_neg Bool.false_ne_true, State.countN_rd, clear]
    simp [bound, w32]
  · have positive : 0 < ev.toNat := Nat.pos_of_ne_zero (fun h => event (BitVec.eq_of_toNat_eq h))
    rw [if_pos rfl, State.keepMax_rd, clear, Nat.min_eq_left (by omega)]
    simp [positive, w32]

/-- The read of an RC register: the value before as answer, the register at 0, every other register as before (R5). -/
theorem accessRead_rc {s : State} {who : Accessor} {addr : Nat} {r : RegRow} (readable : Readable s who addr)
    (row : rowAt addr = some r) (rc : r.acc = .rc) (noLatch : NoLatch s who addr) :
    Answered (s.accessRead who addr .clean) stOk [s.regValue (s.whoIdx who) addr] ∧
    (∀ a, (s.accessRead who addr .clean).rd a = if a = s.accessKey (s.whoIdx who) addr then 0 else s.rd a) := by
  obtain ⟨value, regs⟩ := regRead_rc row rc noLatch
  rw [accessRead_of_readable readable, value]
  refine ⟨rfl, fun a => ?_⟩
  refine (State.rd_congr regs a).trans ?_
  rw [State.rd_wr]
  simp only [eq_comm]

/-- READ_CLEAR of an RC register: what the event of the cycle brings is what the register then holds (R7). -/
theorem opReadClear_rc {s : State} {who : Accessor} {addr : Nat} {r : RegRow} (ev : Word) (readable : Readable s who addr)
    (row : rowAt addr = some r) (rc : r.acc = .rc) (noLatch : NoLatch s who addr) :
    Answered (opReadClear who addr ev s) stOk [s.regValue (s.whoIdx who) addr] ∧
    (∀ a, (opReadClear who addr ev s).rd a = if a = s.accessKey (s.whoIdx who) addr then ev else s.rd a) := by
  obtain ⟨answered, cleared⟩ := accessRead_rc readable row rc noLatch
  have ⟨⟨up, _, low, _⟩, _⟩ := readable
  unfold opReadClear
  simp only [row, rc, up]
  generalize s.accessRead who addr .clean = s1 at answered cleared ⊢
  have sameKey : s1.accessKey (s1.whoIdx who) addr = s.accessKey (s.whoIdx who) addr :=
    accessKey_of_regsBut_rc who low row rc fun a ha => by rw [cleared, if_neg (List.ne_of_not_mem_cons ha)]
  rw [sameKey]
  by_cases event : ev = 0
  · subst event
    simpa using ⟨answered, cleared⟩
  · have clear : s1.rd (s.accessKey (s.whoIdx who) addr) = 0 := by rw [cleared, if_pos rfl]
    simp only [event, Bool.not_true, Bool.false_eq_true, or_self, if_false, ne_eq, not_true_eq_false]
    constructor
    · unfold Answered at answered ⊢
      split <;> simpa using answered
    · intro a
      rw [event_after_clear _ clear event, cleared]
      split <;> rfl

theorem opReadClear_sameBytes (who : Accessor) (addr : Nat) (ev : Word) (s : State) :
    SameBytes s (opReadClear who addr ev s) :=
  State.rdByte_congr ((opReadClear_frame (within_refl _) (frame_refl _ s)).mem (by decide))

/-! ### Writes -/

@[simp] theorem storeSetting_regs (s : State) (key : Nat) : (s.storeSetting key).regs = s.regs :=
  (State.storeSetting_frame (within_refl _) (frame_refl _ s)).regs (by decide)
@[simp] theorem storeSetting_mem (s : State) (key : Nat) : (s.storeSetting key).mem = s.mem :=
  (State.storeSetting_frame (within_refl _) (frame_refl _ s)).mem (by decide)
@[simp] theorem storeSetting_shb (s : State) (key : Nat) : (s.storeSetting key).shb = s.shb :=
  (State.storeSetting_frame (within_refl _) (frame_refl _ s)).shb (by decide)
@[simp] theorem copyWrite_regs (s : State) (x addr : Nat) (v : Word) : (s.copyWrite x addr v).regs = s.regs :=
  (State.copyWrite_frame (within_refl _) (frame_refl _ s)).regs (by decide)
@[simp] theorem copyWrite_mem (s : State) (x addr : Nat) (v : Word) : (s.copyWrite x addr v).mem = s.mem :=
  (State.copyWrite_frame (within_refl _) (frame_refl _ s)).mem (by decide)
@[simp] theorem copyWrite_shb (s : State) (x addr : Nat) (v : Word) : (s.copyWrite x addr v).shb = s.shb :=
  (State.copyWrite_frame (within_refl _) (frame_refl _ s)).shb (by decide)

/-- A write that an access rule refuses leaves what the rule says of it (R355). -/
theorem accessWrite_of_refused {s t : State} {who : Accessor} {addr st : Nat} (h : Reached s addr)
    (refused : s.writeRefusal (s.whoIdx who) addr = some (st, t)) (v : Word) :
    s.accessWrite who addr v = { t with ans := ⟨st, 0, []⟩ } := by
  obtain ⟨up, aligned, low, assigned, ungated⟩ := h
  have word : s.writeWord (s.whoIdx who) addr v = (st, t) := by
    simp [State.writeWord, aligned, low, Option.isNone_eq_false_iff.2 assigned, ungated, refused]
  simp [State.accessWrite, word, up, Nat.not_le.2 low]

/-- A write that no access rule refuses acts on its register (R5). -/
theorem accessWrite_of_writable {s : State} {who : Accessor} {addr : Nat} (h : Writable s who addr) (v : Word) :
    s.accessWrite who addr v = { s.commit (s.whoIdx who) addr v with ans := ⟨stOk, 0, []⟩ } := by
  obtain ⟨⟨up, aligned, low, assigned, ungated⟩, allowed⟩ := h
  have word : s.writeWord (s.whoIdx who) addr v = (stOk, s.commit (s.whoIdx who) addr v) := by
    simp [State.writeWord, aligned, low, Option.isNone_eq_false_iff.2 assigned, ungated, allowed]
  simp [State.accessWrite, word, up, Nat.not_le.2 low]

/-- A write at an address of a page that does not exist answers RANGE (R355, R453). -/
theorem accessWrite_of_unassigned {s : State} {addr : Nat} (up : s.fabricUp = true) (aligned : addr % 4 = 0)
    (low : addr < 0x1000000) (unassigned : pageRows (addr / 0x1000) = none) (who : Accessor) (v : Word) :
    s.accessWrite who addr v = { s with ans := ⟨stRange, 0, []⟩ } := by
  have word : s.writeWord (s.whoIdx who) addr v = (stRange, s) := by
    simp [State.writeWord, aligned, low, unassigned]
  simp [State.accessWrite, word, up, Nat.not_le.2 low]

/-- REGISTER_WRITE is the access alone where the access issues no trigger. -/
theorem exec_registerWrite_of_accessWrite {s t : State} {who : Accessor} {addr : Nat} {v : Word}
    (h : s.accessWrite who addr v = t) (gathered : t.shb.gather = []) : exec (.registerWrite who addr v) s = .next t := by
  show Host.Outcome.next (s.accessWrite who addr v).flushTrig = .next t
  rw [h, flushTrig_of_gather_nil gathered]

/-- No access rule but EN of the page refuses a write of C0 outside PAGE_CTRL (R361, R457). -/
theorem writeRefusal_of_disabled {s : State} {addr : Nat} (off : addr % 0x1000 ≠ 8)
    (disabled : Word.bit (s.rd (Reg.HDR_PAGE_CTRL (addr / 0x1000))) 0 = false) :
    s.writeRefusal 0 addr = some (stDenied, s.err (addr / 0x1000) Err.PAGE_DISABLED) := by
  simp [State.writeRefusal, State.mayAccess, off, disabled]

/-- A write outside the header that neither an owner rule nor a mask of the context allows is refused and counted (R362). -/
theorem writeRefusal_of_masked {s : State} {x addr : Nat} (notC0 : x ≠ 0) (notWinch : x ≠ 4) (body : 0x40 ≤ addr % 0x1000)
    (unowned : ownerError addr = none) (masked : s.mayAccess x (addr / 0x1000) true = false) :
    s.writeRefusal x addr = some (stDenied, s.deny) := by
  have notEnable : ¬ (addr % 0x1000 < 0x28) := by omega
  have notCtrl : addr % 0x1000 ≠ 8 := by omega
  simp [State.writeRefusal, notC0, notWinch, notEnable, notCtrl, unowned, masked]

theorem commit_ignored {s : State} {x addr : Nat} {r : RegRow} (row : rowAt addr = some r) (acc : r.acc = .ro ∨ r.acc = .rc)
    (v : Word) : s.commit x addr v = s := by
  obtain h | h := acc <;> simp [State.commit, row, h]

/-- Registers outside the blocks' own ranges whose write does more than set them (R339, R362, R378, R381, R407, R422). -/
abbrev actingRegs : List Nat :=
  [Reg.CLK_GATE0, Reg.CLK_GATE1, Reg.CLK_GATE2, Reg.MEM_BALLAST, Reg.MNT_CFG, Reg.CTX_MASK_DATA, Reg.UL_CFG 0, Reg.UL_CFG 1,
    Reg.TIM_CFG]

theorem plainReg_iff (a : Nat) :
    plainReg a = true ↔
      0x40 ≤ a % 0x1000 ∧ a / 0x1000 ≠ 0x30 ∧ ¬ (0x50 ≤ a / 0x1000 ∧ a / 0x1000 < 0x54) ∧
      ¬ (0x20 ≤ a / 0x1000 ∧ a / 0x1000 < 0x30) ∧ ¬ (0x140 ≤ a / 0x1000 ∧ a / 0x1000 < 0x160) ∧
      ¬ (0x100 ≤ a / 0x1000 ∧ a / 0x1000 < 0x140) ∧ a ∉ actingRegs := by
  simp only [plainReg, Bool.and_eq_true, Bool.not_eq_true', Bool.and_eq_false_iff, decide_eq_true_eq, decide_eq_false_iff_not,
    bne_iff_ne, ne_eq, List.contains_eq_mem, and_assoc,
    Classical.not_and_iff_not_or_not]

/-- The key of a copy lies above every page, where no write does more than set its register. -/
theorem plainReg_copyKey {addr : Nat} (h : plainReg addr = true) (i : Nat) : plainReg (copyKey addr i) = true := by
  obtain ⟨body, -⟩ := (plainReg_iff addr).1 h
  have acting : ∀ b ∈ actingRegs, b < 0x1000000 := by decide
  have above : copyKey addr i ∉ actingRegs := fun mem => by
    have := acting _ mem
    unfold copyKey at this
    omega
  rw [plainReg_iff]
  unfold copyKey at above ⊢
  refine ⟨?_, ?_, ?_, ?_, ?_, ?_, above⟩ <;> omega

theorem plainReg_accessKey {addr : Nat} (h : plainReg addr = true) (s : State) (x : Nat) :
    plainReg (s.accessKey x addr) = true := by
  obtain e | ⟨i, e⟩ := accessKey_cases s x addr <;> rw [e]
  · exact h
  · exact plainReg_copyKey h i

theorem setLive_plain (s : State) {key : Nat} (h : plainReg key = true) (v : Word) : s.setLive key v = s.wr key v := by
  obtain ⟨-, shb, -, drp, scu, fch, -⟩ := (plainReg_iff key).1 h
  simp only [State.setLive, shb, false_and, if_false]
  rw [if_neg (c := 0x20 ≤ key / 0x1000 ∧ _) (fun c => drp ⟨c.1, c.2.1⟩),
    if_neg (c := 0x140 ≤ key / 0x1000 ∧ _) (fun c => scu ⟨c.1, c.2.1⟩),
    if_neg (c := 0x100 ≤ key / 0x1000 ∧ _) (fun c => fch ⟨c.1, c.2.1⟩), ite_self]

/-- A register that only holds its value is set, with the settings partition following (R41). -/
theorem setReg_plain (s : State) {key : Nat} (h : plainReg key = true) (v : Word) :
    s.setReg key v = (true, (s.wr key v).storeSetting key) := by
  obtain ⟨-, shb, lane, -, -, -, acting⟩ := (plainReg_iff key).1 h
  simp only [List.mem_cons, List.not_mem_nil, or_false, not_or] at acting
  obtain ⟨gate0, gate1, gate2, ballast, mnt, -, ul0, ul1, tim⟩ := acting
  have notLane : ¬ (0x50 ≤ key / 0x1000 ∧ key / 0x1000 < 0x54 ∧ (key % 0x1000 = 0x40 ∨ key % 0x1000 = 0x5C)) :=
    fun c => lane ⟨c.1, c.2.1⟩
  simp only [State.setReg, gate0, gate1, gate2, ballast, mnt, ul0, ul1, tim, shb, notLane, false_and, if_false,
    setLive_plain s h]

/-- With no plan in force a write of a register that only holds its value is tested against its ranges, and sets it (R355). -/
theorem writeRw_plain {s : State} {x addr : Nat} {v : Word} (h : plainReg addr = true) (idle : s.pln.run = none) :
    s.writeRw x addr v =
      if rangeOk addr (s.rd (s.accessKey x addr)) v = true ∧ s.pointsOk addr v = true then
        (true, (s.wr (s.accessKey x addr) v).storeSetting (s.accessKey x addr))
      else (false, s.err (addr / 0x1000) (rangeError (addr / 0x1000))) := by
  have notMask : addr ≠ Reg.CTX_MASK_DATA := by
    rintro rfl
    exact absurd h (by decide)
  simp only [State.writeRw, notMask, idle, setReg_plain s (plainReg_accessKey h s x), if_false]
  cases rangeOk addr (s.rd (s.accessKey x addr)) v <;> cases s.pointsOk addr v <;> rfl

theorem commit_plain {s : State} {x addr : Nat} {r : RegRow} (row : rowAt addr = some r) (isRw : r.acc = .rw)
    (h : plainReg addr = true) (v : Word) :
    s.commit x addr v =
      if (s.writeRw x addr (v &&& r.mask)).1 then (s.writeRw x addr (v &&& r.mask)).2.copyWrite x addr (v &&& r.mask)
      else (s.writeRw x addr (v &&& r.mask)).2 := by
  have body : 0x40 ≤ addr % 0x1000 := ((plainReg_iff addr).1 h).1
  have notCtrl : addr % 0x1000 ≠ 8 := by omega
  have notEnable : ¬ (0x18 ≤ addr % 0x1000 ∧ addr % 0x1000 < 0x28) := by omega
  simp only [State.commit, row, isRw, notCtrl, notEnable, if_false]

theorem commit_plain_in_range {s : State} {x addr : Nat} {v : Word} {r : RegRow} (row : rowAt addr = some r)
    (isRw : r.acc = .rw) (h : plainReg addr = true) (idle : s.pln.run = none)
    (range : rangeOk addr (s.rd (s.accessKey x addr)) (v &&& r.mask) = true) (points : s.pointsOk addr (v &&& r.mask) = true) :
    s.commit x addr v =
      ((s.wr (s.accessKey x addr) (v &&& r.mask)).storeSetting (s.accessKey x addr)).copyWrite x addr (v &&& r.mask) := by
  simp only [commit_plain row isRw h, writeRw_plain h idle, range, points, and_self, if_true]

theorem commit_plain_out_of_range {s : State} {x addr : Nat} {v : Word} {r : RegRow} (row : rowAt addr = some r)
    (isRw : r.acc = .rw) (h : plainReg addr = true) (idle : s.pln.run = none)
    (range : rangeOk addr (s.rd (s.accessKey x addr)) (v &&& r.mask) = false) :
    s.commit x addr v = s.err (addr / 0x1000) (rangeError (addr / 0x1000)) := by
  simp only [commit_plain row isRw h, writeRw_plain h idle, range, Bool.false_eq_true, false_and, if_false]

/-! ### What REGISTER_WRITE answers -/

/-- A value in range stands in its register, and nowhere else (R5, R355). -/
theorem registerWrite_sets {who : Accessor} {addr : Nat} {v : Word} {r : RegRow} {s : State} (allowed : Writable s who addr)
    (row : rowAt addr = some r) (isRw : r.acc = .rw) (plain : plainReg addr = true) (idle : s.pln.run = none) (shb : ShbOk s)
    (range : rangeOk addr (s.rd (s.accessKey (s.whoIdx who) addr)) (v &&& r.mask) = true)
    (points : s.pointsOk addr (v &&& r.mask) = true) :
    ∃ t, exec (.registerWrite who addr v) s = .next t ∧ Answered t stOk [] ∧
      t.rd (s.accessKey (s.whoIdx who) addr) = v &&& r.mask ∧ RegsBut [s.accessKey (s.whoIdx who) addr] s t ∧
      SameBytes s t := by
  have access := accessWrite_of_writable allowed v
  rw [commit_plain_in_range row isRw plain idle range points] at access
  generalize s.accessKey (s.whoIdx who) addr = key at access ⊢
  generalize v &&& r.mask = w at access ⊢
  have regs := (copyWrite_regs ((s.wr key w).storeSetting key) (s.whoIdx who) addr w).trans (storeSetting_regs (s.wr key w) key)
  refine ⟨_, exec_registerWrite_of_accessWrite access (by simp [shb.gathered]), rfl, ?_, fun a ha => ?_, ?_⟩
  · exact (State.rd_congr regs key).trans (State.rd_wr_same s key w)
  · exact (State.rd_congr regs a).trans (State.rd_wr_ne s w (Ne.symm (List.ne_of_not_mem_cons ha)))
  · exact State.rdByte_congr (by simp)

/-- A value out of range is dropped, with the range error of the page (R355). -/
theorem registerWrite_out_of_range {who : Accessor} {addr : Nat} {v : Word} {r : RegRow} {s : State}
    (allowed : Writable s who addr) (row : rowAt addr = some r) (isRw : r.acc = .rw) (plain : plainReg addr = true)
    (idle : s.pln.run = none) (shb : ShbOk s)
    (range : rangeOk addr (s.rd (s.accessKey (s.whoIdx who) addr)) (v &&& r.mask) = false) :
    ∃ t, exec (.registerWrite who addr v) s = .next t ∧ Answered t stOk [] ∧
      Reports t (addr / 0x1000) (rangeError (addr / 0x1000)) ∧ RegsBut (eventRegs (addr / 0x1000)) s t ∧ SameBytes s t := by
  have access := accessWrite_of_writable allowed v
  rw [commit_plain_out_of_range row isRw plain idle range] at access
  have gathered : (s.err (addr / 0x1000) (rangeError (addr / 0x1000))).shb.gather = [] := by simp [shb.gathered]
  exact ⟨_, exec_registerWrite_of_accessWrite access gathered, rfl, err_reports s _ _, err_regsBut s _ _,
    State.rdByte_congr (State.err_mem s _ _)⟩

/-- A refused write answers the status of its rule and leaves the rule's state. -/
theorem registerWrite_refused {s t : State} {who : Accessor} {addr st : Nat} (reached : Reached s addr)
    (refused : s.writeRefusal (s.whoIdx who) addr = some (st, t)) (gathered : t.shb.gather = []) (v : Word) :
    exec (.registerWrite who addr v) s = .next { t with ans := ⟨st, 0, []⟩ } :=
  exec_registerWrite_of_accessWrite (accessWrite_of_refused reached refused v) gathered

end Sys2Proof.Machine
end

section
/-!
The obligations on single steps and on register accesses.
-/

namespace Sys2Proof.Claims

open Sys2Proof.Machine

/-- Settles O2: the tick of an empty queue. -/
theorem idleStepCountsTheLtc : Obligations.IdleStepCountsTheLtc := by
  intro s empty
  have ticks : step s = .next s.tick := by simp only [step, empty]
  rw [ticks, tick_eq]

/-- Settles O7, by the frame of each command's meaning. -/
theorem everyCommandRuns : Obligations.EveryCommandRuns := by
  intro c s
  obtain ⟨t, ht, frame⟩ := exec_frame c s
  exact ⟨t, ht, frame.pending⟩

/-- Settles O26, by the read that clears the register and the event that falls on the cleared one. -/
theorem readClearKeepsTheEvent : Obligations.ReadClearKeepsTheEvent := by
  intro who addr r ev s readable row rc noLatch
  obtain ⟨answered, regs⟩ := opReadClear_rc ev readable row rc noLatch
  refine ⟨opReadClear who addr ev s, rfl, answered, ?_, fun a ha => ?_, opReadClear_sameBytes who addr ev s⟩
  · rw [regs, if_pos rfl]
  · rw [regs, if_neg (List.ne_of_not_mem_cons ha)]

/-- Settles O29, by the access that each class of writes makes. -/
theorem registerWrites : Obligations.RegisterWrites := by
  refine ⟨?set, ?ignored, ?disabled, ?masked, ?unassigned⟩
  case set =>
    intro who addr v r s allowed row isRw plain idle shb
    exact ⟨registerWrite_sets allowed row isRw plain idle shb, registerWrite_out_of_range allowed row isRw plain idle shb⟩
  case ignored =>
    intro who addr v r s allowed row acc shb
    have access := accessWrite_of_writable allowed v
    rw [commit_ignored row acc] at access
    exact exec_registerWrite_of_accessWrite access shb.gathered
  case disabled =>
    intro addr v s reached off disabled shb
    have gathered : (s.err (addr / 0x1000) Err.PAGE_DISABLED).shb.gather = [] := by simp [shb.gathered]
    have refused := writeRefusal_of_disabled off disabled
    exact ⟨_, registerWrite_refused (who := .ctx 0) reached refused gathered v, rfl, err_reports s _ _, err_regsBut s _ _⟩
  case masked =>
    intro x addr v s reached notC0 body unowned masked shb
    have refused := writeRefusal_of_masked notC0 (by omega) body unowned masked
    have gathered : s.deny.shb.gather = [] := by simp [shb.gathered]
    exact ⟨_, registerWrite_refused (who := .ctx x) reached refused gathered v, rfl, deny_reports s, deny_regsBut s⟩
  case unassigned =>
    intro who addr v s up aligned low unassigned shb
    exact exec_registerWrite_of_accessWrite (accessWrite_of_unassigned up aligned low unassigned who v) shb.gathered

end Sys2Proof.Claims
end

section
/-!
How the accesses with effects of their own act: the snapshot window's latch, SPL.DATA, the banks in Ballast, and the ends
of management port transactions.
-/

namespace Sys2Proof.Machine

open Sys2Proof.Claims

/-! ### Snapshot window -/

/-- Word `n` of the record store as a read delivers it: 0 where the word is uncorrectable (R116). -/
def State.pssDelivered (s : State) (n : Nat) (ecc : PssRead) : Nat :=
  if ecc.lost ≠ [] then 0 else nth (s.point (n / 6)) (n % 6) 0

/-- The low part of a word comes from the store. -/
theorem snapWord_low (s : State) (x n : Nat) (ecc : PssRead) :
    (s.snapWord x (16 * n) ecc).1 = w32 (s.pssDelivered n ecc) := by
  have word : 16 * n / 16 = n := by omega
  have part : 16 * n % 16 / 4 = 0 := by omega
  simp only [State.snapWord, State.pssDelivered, word, part, if_true]

/-- A later part comes from the reader's latch where that is a latch of the word (R119). -/
theorem snapWord_latched {s : State} {x n w i : Nat} (later : 1 ≤ i) (inWord : i < 4)
    (latch : NMap.get (fun _ => (2 ^ 32, 0)) s.fib.snap x = (n, w)) (ecc : PssRead) :
    s.snapWord x (16 * n + 4 * i) ecc = (w32 (w / 2 ^ (32 * i)), s) := by
  have word : (16 * n + 4 * i) / 16 = n := by omega
  have part : (16 * n + 4 * i) % 16 / 4 = i := by omega
  simp only [State.snapWord, word, part, latch, if_true, if_neg (Nat.ne_of_gt later)]

/-- Without a latch of the word a later part shows the store (log entry 143). -/
theorem snapWord_unlatched {s : State} {x n i : Nat} (later : 1 ≤ i) (inWord : i < 4)
    (noLatch : (NMap.get (fun _ => (2 ^ 32, 0)) s.fib.snap x).1 ≠ n) (ecc : PssRead) :
    (s.snapWord x (16 * n + 4 * i) ecc).1 = w32 (s.pssDelivered n ecc / 2 ^ (32 * i)) := by
  have word : (16 * n + 4 * i) / 16 = n := by omega
  have part : (16 * n + 4 * i) % 16 / 4 = i := by omega
  simp only [State.snapWord, State.pssDelivered, word, part, if_neg noLatch, if_neg (Nat.ne_of_gt later)]

/-- A read that the masks allow, at an offset of the snapshot window, is a read of the record store (R119, R452). -/
theorem exec_snapshotRead {s : State} {who : Accessor} {o : Nat} (up : s.fabricUp = true) (host : who ≠ .mgmt)
    (inside : o < 0x1800000) (aligned : o % 4 = 0) (may : s.mayAccess (s.whoIdx who) 0x12 false = true) (ecc : PssRead) :
    exec (.snapshotRead who (0x20000000 + o) ecc) s =
      .next { (s.snapWord (s.whoIdx who) o ecc).2 with ans := ⟨stOk, 0, [(s.snapWord (s.whoIdx who) o ecc).1]⟩ } := by
  have noPage : ¬ 0x20000000 + o < 0x1000000 := by omega
  have noScratch : ¬ 0x20000000 + o < 0x10800000 := by omega
  have noDarkroom : ¬ 0x20000000 + o < 0x10840000 := by omega
  have window : 0x20000000 ≤ 0x20000000 + o ∧ 0x20000000 + o < 0x21800000 := by omega
  have word : s.readWord (s.whoIdx who) (0x20000000 + o) ecc = (stOk, s.snapWord (s.whoIdx who) o ecc) := by
    simp only [State.readWord, State.readWindow, State.gateRead, noPage, noScratch, noDarkroom, window, may, and_false,
      and_self, if_true, if_false, Nat.add_sub_cancel_left, show (0x20000000 + o) % 4 = 0 by omega, ne_eq,
      not_true_eq_false]
  show Host.Outcome.next (s.accessRead who (0x20000000 + o) ecc) = _
  simp [State.accessRead, word, up, host]

theorem accessRead_sameBytes (s : State) (who : Accessor) (addr : Nat) (ecc : PssRead) :
    SameBytes s (s.accessRead who addr ecc) :=
  State.rdByte_congr ((State.accessRead_frame (within_refl _) (frame_refl _ s)).mem (by decide))

/-- A snapshot read that the masks allow answers the part of the word that the window shows, and writes no memory. -/
theorem snapshotRead_answers {s : State} {who : Accessor} {o : Nat} {ecc : PssRead} {v : Word} (up : s.fabricUp = true)
    (host : who ≠ .mgmt) (inside : o < 0x1800000) (aligned : o % 4 = 0)
    (may : s.mayAccess (s.whoIdx who) 0x12 false = true) (shown : (s.snapWord (s.whoIdx who) o ecc).1 = v) :
    ∃ t, exec (.snapshotRead who (0x20000000 + o) ecc) s = .next t ∧ Answered t stOk [v] ∧ SameBytes s t := by
  refine ⟨s.accessRead who (0x20000000 + o) ecc, rfl, ?_, accessRead_sameBytes s who _ ecc⟩
  have read : s.accessRead who (0x20000000 + o) ecc = _ :=
    Host.Outcome.next.inj (exec_snapshotRead up host inside aligned may ecc)
  rw [read, ← shown]
  rfl

/-! ### Popped data -/

@[simp] theorem pop_setPop (s : State) (x : Nat) (v : PopView) : (s.setPop x v).pop x = v :=
  NMap.get_set_same _ s.pops x v

/-! ### Banks in Ballast -/

/-- The number whose bits below `n` are the values of `f`. -/
def bitSum (f : Nat → Bool) (n : Nat) : Nat := (List.range n).foldl (fun a b => a + b2n (f b) * 2 ^ b) 0

theorem bitSum_succ (f : Nat → Bool) (n : Nat) : bitSum f (n + 1) = 2 ^ n * b2n (f n) + bitSum f n := by
  simp only [bitSum, List.range_succ, List.foldl_append, List.foldl_cons, List.foldl_nil]
  rw [Nat.add_comm, Nat.mul_comm]

theorem bitSum_lt (f : Nat → Bool) (n : Nat) : bitSum f n < 2 ^ n := by
  induction n with
  | zero => exact Nat.one_pos
  | succ n ih =>
    rw [bitSum_succ, Nat.pow_succ]
    cases f n <;> simp only [b2n, if_true, Bool.false_eq_true, if_false] <;> omega

theorem testBit_bitSum (f : Nat → Bool) (n i : Nat) : (bitSum f n).testBit i = (decide (i < n) && f i) := by
  induction n with
  | zero => simp [bitSum]
  | succ n ih =>
    rw [bitSum_succ, Nat.testBit_two_pow_mul_add _ (bitSum_lt f n), ih]
    obtain below | rfl | above := Nat.lt_trichotomy i n
    · simp [below, Nat.lt_succ_of_lt below]
    · cases f i <;> simp [b2n]
    · have high : (b2n (f n)).testBit (i - n) = false := by
        obtain ⟨k, hk⟩ := Nat.exists_eq_add_of_lt above
        rw [show i - n = k + 1 by omega, Nat.testBit_succ]
        cases f n <;> simp [b2n]
      rw [if_neg (by omega), high, decide_eq_false (by omega), Bool.false_and]

/-- The bits of a word whose banks are free (R405). -/
theorem bit_freeBanks (s : State) (v : Word) {b : Nat} (hb : b < 32) :
    Word.bit (s.freeBanks v) b = (Word.bit v b && s.bankFree b) := by
  have sum : s.freeBanks v = w32 (bitSum (fun b => Word.bit v b && s.bankFree b) 32) := rfl
  rw [sum, Word.bit, w32, BitVec.getLsbD_ofNat, testBit_bitSum]
  simp [hb]

theorem retain_retained (s : State) (m : Word) : (s.retain m).rd Reg.MEM_RETAINED = m := by
  unfold State.retain
  rw [State.rd_wr_ne _ _ (by decide), State.rd_wr_same]

/-- The banks that wake are those that woke or were in Ballast, but the ones in Ballast from now. -/
theorem bit_retain_waking (s : State) (m : Word) {b : Nat} (hb : b < 32) :
    Word.bit ((s.retain m).rd Reg.MEM_WAKING) b =
      (!Word.bit m b && (Word.bit (s.rd Reg.MEM_WAKING) b || Word.bit (s.rd Reg.MEM_RETAINED) b)) := by
  simp only [State.retain, State.rd_wr_same, Word.bit, BitVec.getLsbD_and, BitVec.getLsbD_or, BitVec.getLsbD_not, hb,
    decide_true, Bool.true_and]
  cases m.getLsbD b <;> simp

theorem retain_regsBut (s : State) (m : Word) : RegsBut [Reg.MEM_RETAINED, Reg.MEM_WAKING] s (s.retain m) := by
  intro a ha
  simp only [List.mem_cons, List.not_mem_nil, or_false, not_or] at ha
  obtain ⟨retained, waking⟩ := ha
  unfold State.retain
  rw [State.rd_wr_ne _ _ (Ne.symm waking), State.rd_wr_ne _ _ (Ne.symm retained)]

/-- MEM.BALLAST holds the written word, bits of owned banks too (log entry 154), and its free banks are in Ballast (R407). -/
def State.takeBallast (s : State) (v : Word) : State := (s.wr Reg.MEM_BALLAST v).retain (s.freeBanks v)

theorem takeBallast_ballast (s : State) (v : Word) : (s.takeBallast v).rd Reg.MEM_BALLAST = v := by
  unfold State.takeBallast
  rw [retain_regsBut _ _ Reg.MEM_BALLAST (by decide), State.rd_wr_same]

theorem bit_takeBallast_retained (s : State) (v : Word) {b : Nat} (hb : b < 32) :
    Word.bit ((s.takeBallast v).rd Reg.MEM_RETAINED) b = (Word.bit v b && s.bankFree b) := by
  rw [State.takeBallast, retain_retained, bit_freeBanks s v hb]

theorem bit_takeBallast_waking (s : State) (v : Word) {b : Nat} (hb : b < 32) :
    Word.bit ((s.takeBallast v).rd Reg.MEM_WAKING) b =
      (!(Word.bit v b && s.bankFree b) && (Word.bit (s.rd Reg.MEM_WAKING) b || Word.bit (s.rd Reg.MEM_RETAINED) b)) := by
  rw [State.takeBallast, bit_retain_waking _ _ hb, bit_freeBanks s v hb, State.rd_wr_ne _ _ (by decide),
    State.rd_wr_ne _ _ (by decide)]

theorem takeBallast_regsBut (s : State) (v : Word) :
    RegsBut [Reg.MEM_BALLAST, Reg.MEM_RETAINED, Reg.MEM_WAKING] s (s.takeBallast v) := by
  intro a ha
  rw [State.takeBallast, retain_regsBut _ _ a (fun h => ha (List.mem_cons_of_mem _ h)),
    State.rd_wr_ne _ _ (Ne.symm (List.ne_of_not_mem_cons ha))]

/-- A set bit of the word is that of an owned bank. -/
def State.ballastUsed (s : State) (v : Word) : Bool := (List.range 32).any (fun b => Word.bit v b && !s.bankFree b)

theorem ballastUsed_iff (s : State) (v : Word) :
    s.ballastUsed v = true ↔ ∃ b, b < 32 ∧ Word.bit v b = true ∧ s.bankFree b = false := by
  simp [State.ballastUsed]

/-- A write of MEM.BALLAST takes the free banks; where a bit of an owned bank is set it reports that too (R407). -/
theorem setBallast_eq (s : State) (v : Word) :
    s.setBallast v =
      if s.ballastUsed v then ((s.takeBallast v).err 0x58 Err.MEM_BALLAST_USED).raise 0x58 2 else s.takeBallast v := rfl

/-- The report is all that a write of MEM.BALLAST does beside taking banks. -/
theorem setBallast_regsBut_takeBallast (s : State) (v : Word) :
    RegsBut (eventRegs 0x58) (s.takeBallast v) (s.setBallast v) := by
  rw [setBallast_eq]
  split
  · exact regsBut_trans (err_regsBut _ _ _) (raise_regsBut _ _ _)
  · exact fun _ _ => rfl

theorem setBallast_regsBut (s : State) (v : Word) :
    RegsBut ([Reg.MEM_BALLAST, Reg.MEM_RETAINED, Reg.MEM_WAKING] ++ eventRegs 0x58) s (s.setBallast v) :=
  regsBut_trans (regsBut_mono (List.subset_append_left _ _) (takeBallast_regsBut s v))
    (regsBut_mono (List.subset_append_right _ _) (setBallast_regsBut_takeBallast s v))

theorem raise_irqSet (s : State) (p : Nat) {b : Nat} (hb : b < 32) : IrqSet (s.raise p b) p b := by
  rw [IrqSet, State.raise_rd, if_pos rfl]
  exact Word.bit_setBit_same _ b hb

/-- The set bit of an owned bank is reported, and is a MEM event (R407, log entry 114). -/
theorem setBallast_reports {s : State} {v : Word} (used : s.ballastUsed v = true) :
    Reports (s.setBallast v) 0x58 Err.MEM_BALLAST_USED ∧ IrqSet (s.setBallast v) 0x58 2 := by
  rw [setBallast_eq, if_pos used]
  exact ⟨raise_reports 2 (err_reports _ _ _), raise_irqSet _ _ (by decide)⟩

@[simp] theorem setBallast_mem (s : State) (v : Word) : (s.setBallast v).mem = s.mem :=
  (State.setBallast_frame (within_refl _) (frame_refl _ s)).mem (by decide)

/-- MEM.BALLAST takes any word, under a plan too: it is no register that a plan loads. -/
theorem writeRw_ballast (s : State) (x : Nat) (v : Word) : s.writeRw x Reg.MEM_BALLAST v = (true, s.setBallast v) := by
  have key : s.accessKey x Reg.MEM_BALLAST = Reg.MEM_BALLAST := rfl
  have unplanned : planKey Reg.MEM_BALLAST = false := by decide
  have range : rangeOk Reg.MEM_BALLAST (s.rd Reg.MEM_BALLAST) v = true := rfl
  have points : s.pointsOk Reg.MEM_BALLAST v = true := rfl
  have set : s.setReg Reg.MEM_BALLAST v = (true, s.setBallast v) := rfl
  have notMask : Reg.MEM_BALLAST ≠ Reg.CTX_MASK_DATA := by decide
  simp only [State.writeRw, notMask, key, unplanned, range, points, set, if_false]
  cases s.pln.run <;> rfl

theorem commit_ballast (s : State) (x : Nat) (v : Word) :
    s.commit x Reg.MEM_BALLAST v = (s.setBallast v).copyWrite x Reg.MEM_BALLAST v := by
  have row : rowAt Reg.MEM_BALLAST = some ⟨0x60, 1, 4, 1, .rw, 0x0, 0xffffffff⟩ := by decide
  have mask : v &&& 0xffffffff = v := BitVec.and_allOnes
  simp only [State.commit, row, mask, writeRw_ballast]
  rfl

/-- An allowed write of MEM.BALLAST makes of registers and memories what setBallast makes of them. -/
theorem exec_ballastWrite {s : State} {who : Accessor} (allowed : Writable s who Reg.MEM_BALLAST) (v : Word) :
    ∃ t, exec (.ballastWrite who v) s = .next t ∧ Answered t stOk [] ∧ t.regs = (s.setBallast v).regs ∧
      t.mem = s.mem := by
  refine ⟨s.accessWrite who Reg.MEM_BALLAST v, rfl, ?_⟩
  rw [accessWrite_of_writable allowed, commit_ballast]
  exact ⟨rfl, copyWrite_regs _ _ _ _, (copyWrite_mem _ _ _ _).trans (setBallast_mem s v)⟩

/-! ### Management port -/

theorem opMspiRead_of_count_zero {s : State} (up : s.fabricUp = true) (addr got : Nat) :
    opMspiRead addr 0 got s = s.mspiEnd s.mspiStatus (List.replicate 6 0) stOk := by
  simp [opMspiRead, up]

theorem opMspiWrite_of_count_zero {s : State} (up : s.fabricUp = true) (addr : Nat) (data : List Byte) (met : List Met) :
    opMspiWrite addr 0 data met s = s.mspiEnd s.mspiStatus (List.replicate 6 0) stOk := by
  simp [opMspiWrite, up]

theorem opMspiTimeout_of_fabricUp {s : State} (up : s.fabricUp = true) :
    opMspiTimeout s = (s.err 0x8 (0x6000 + (Config.openWord s.free).toNat % 0x1000)).fresh := by
  simp [opMspiTimeout, up]

end Sys2Proof.Machine
end

section
/-!
The obligation on window reads and the accesses with effects of their own.
-/

namespace Sys2Proof.Claims

open Sys2Proof.Machine

/-- Settles O31, by the word that the snapshot window shows, the banks that MEM.BALLAST takes, and the transaction's end. -/
theorem windowAndSpecialAccesses : Obligations.WindowAndSpecialAccesses := by
  refine ⟨?low, ?unlatched, ?latched, ?pop, ?ballast, ?wake, ?read, ?write, ?timeout⟩
  case low =>
    intro who n ecc s up host inside may
    exact snapshotRead_answers up host (by omega) (by omega) may (snapWord_low s _ n ecc)
  case unlatched =>
    intro who n i ecc s up host inside may later part noLatch
    rw [Nat.add_assoc]
    exact snapshotRead_answers up host (by omega) (by omega) may (snapWord_unlatched later part noLatch ecc)
  case latched =>
    intro who n w i ecc s up host inside may later part latch
    rw [Nat.add_assoc, exec_snapshotRead up host (by omega) (by omega) may, snapWord_latched later part latch]
  case pop =>
    intro who s
    exact ⟨opPopData who s, rfl, rfl, congrArg PopView.data (pop_setPop s _ _), rfl⟩
  case ballast =>
    intro who v s allowed
    have taken : ∀ a ∉ eventRegs 0x58, (s.setBallast v).rd a = (s.takeBallast v).rd a :=
      setBallast_regsBut_takeBallast s v
    obtain ⟨t, run, answered, regs, mem⟩ := exec_ballastWrite allowed v
    have rd : ∀ a, t.rd a = (s.setBallast v).rd a := State.rd_congr regs
    refine ⟨t, run, answered, ?_, fun b hb => ⟨?_, ?_⟩, fun used => ?_, fun a ha => ?_, State.rdByte_congr mem⟩
    · rw [rd, taken _ (by decide), takeBallast_ballast]
    · rw [rd, taken _ (by decide), bit_takeBallast_retained s v hb, Bool.and_eq_true]
    · rw [rd, taken _ (by decide), bit_takeBallast_waking s v hb, Bool.and_eq_true, Bool.or_eq_true, Bool.not_eq_true',
        ← Bool.not_eq_true, Bool.and_eq_true]
    · simpa only [Reports, IrqSet, rd] using setBallast_reports ((ballastUsed_iff s v).2 used)
    · exact (rd a).trans (setBallast_regsBut s v a ha)
  case wake =>
    intro bank s
    refine ⟨opBallastWake bank.val s, rfl, State.rd_wr_same s _ _, fun a ha => ?_, rfl⟩
    exact State.rd_wr_ne s _ (Ne.symm (List.ne_of_not_mem_cons ha))
  case read =>
    intro addr got s up
    refine ⟨opMspiRead addr 0 got s, rfl, ?_⟩
    rw [opMspiRead_of_count_zero up]
    exact ⟨rfl, rfl, fun _ _ => rfl, fun _ => rfl⟩
  case write =>
    intro addr data met s up shb
    have gathered : (s.mspiEnd s.mspiStatus (List.replicate 6 0) stOk).shb.gather = [] := shb.gathered
    refine ⟨(opMspiWrite addr 0 data met s).flushTrig, rfl, ?_⟩
    rw [opMspiWrite_of_count_zero up, flushTrig_of_gather_nil gathered]
    exact ⟨rfl, fun _ _ => rfl, fun _ => rfl⟩
  case timeout =>
    intro s up
    refine ⟨opMspiTimeout s, rfl, ?_⟩
    rw [opMspiTimeout_of_fabricUp up]
    exact ⟨(err_reports s 0x8 _).2, err_regsBut s 0x8 _, State.err_sys s _ _, State.rdByte_congr (State.err_mem s _ _)⟩

end Sys2Proof.Claims
end

section
/-!
SYNC on the active hub of a pair while no schedule runs: its request goes to the standby at once, as a COPY of its own.
-/

namespace Sys2Proof.Machine

@[simp] theorem sendBoth_copyNo (s : State) (kind : Nat) (m : TethMsg) :
    (s.sendBoth kind m).pai.copyNo = s.pai.copyNo := by
  simp only [State.sendBoth]
  split <;> split <;> rfl

/-- Without a shot end an item for the standby is a COPY of its own, with the next number (log entry 141). -/
theorem copyItem_copyNo_of_unscheduled {s : State} (standby : s.hasStandby = true) (idle : s.unscheduled = true)
    (o : CopyOp) : (s.copyItem o).pai.copyNo = s.pai.copyNo + 1 := by
  simp only [State.copyItem, standby, idle, Bool.not_true, Bool.false_eq_true, if_false, if_true, sendBoth_copyNo]

/-- A request of resynchronisation that no request waits for is copied to the standby (R207, R205). -/
theorem requestSync_eq_copyItem {s : State} (free : s.resync.field = none ∨ s.resync.node = none) :
    s.requestSync = (s.setSyncFrom s.changeFrom).copyItem (.resync s.changeFrom) := by
  obtain h | h := free <;> simp [State.requestSync, h]

/-- SYNC on an active hub with a standby, while no schedule runs, sends a COPY. -/
theorem exec_chainSync_copyNo {s t : State} (standby : s.hasStandby = true) (idle : s.unscheduled = true)
    (free : s.resync.field = none ∨ s.resync.node = none) (run : exec .chainSync s = .next t) :
    t.pai.copyNo = s.pai.copyNo + 1 := by
  obtain rfl : s.requestSync = t := Host.Outcome.next.inj run
  rw [requestSync_eq_copyItem free]
  exact copyItem_copyNo_of_unscheduled (s := s.setSyncFrom s.changeFrom) standby idle _

/-- An active hub whose standby is in sync, with no plan in force. -/
def activeWithoutPlan : State :=
  (State.reset.wf Reg.PAI_STAT Fd.PAI_STAT_ROLE 1).wf Reg.PAI_STAT Fd.PAI_STAT_SYNC 3

end Sys2Proof.Machine
end

section
/-!
The obligation on the line frequency, the bands and resynchronisation.
-/

namespace Sys2Proof.Claims

open Sys2Proof.Machine

/-- Refutes O43: its fifth clause lets SYNC change no part of the pair's state but the gathered items, while an active
hub without a plan copies the request to its standby at once, in a COPY with the next number (log entry 141). -/
theorem not_lineFrequencyBandsAndResync : ¬ Obligations.LineFrequencyBandsAndResync := by
  rintro ⟨-, -, -, -, sync, -⟩
  have standby : activeWithoutPlan.hasStandby = true := by decide
  have idle : activeWithoutPlan.unscheduled = true := by decide
  have free : activeWithoutPlan.resync.field = none ∨ activeWithoutPlan.resync.node = none := by decide
  obtain ⟨t, run, -, frame⟩ := sync activeWithoutPlan free
  have counted : t.pai.copyNo = activeWithoutPlan.pai.copyNo + 1 := exec_chainSync_copyNo standby idle free run
  have kept : t.pai.copyNo = activeWithoutPlan.pai.copyNo := by rw [frame]
  omega

end Sys2Proof.Claims
end

section
/-!
Driari ports and the fields of their STAT registers: what each operation of a training changes of them (R233, R234).
-/

namespace Sys2Proof.Machine

open Sys2Proof.Claims

/-! ### Ports -/

@[simp] theorem onPort_regs (s : State) (q : Nat) (f : DrpPort → DrpPort) : (s.onPort q f).regs = s.regs := rfl
@[simp] theorem setPort_rd (s : State) (q : Nat) (x : DrpPort) (a : Nat) : (s.setPort q x).rd a = s.rd a := rfl

@[simp] theorem port_setPort_same (s : State) (q : Nat) (x : DrpPort) : (s.setPort q x).port q = x :=
  NMap.get_set_same _ _ _ _

@[simp] theorem port_onPort_same (s : State) (q : Nat) (f : DrpPort → DrpPort) : (s.onPort q f).port q = f (s.port q) :=
  port_setPort_same s q _

theorem port_onPort_ne (s : State) {q p : Nat} (f : DrpPort → DrpPort) (ne : p ≠ q) : (s.onPort q f).port p = s.port p :=
  NMap.get_set_ne _ _ _ ne.symm

/-- A port is read off the port table alone. -/
theorem port_congr {s t : State} (h : t.drp = s.drp) (q : Nat) : t.port q = s.port q := by
  unfold State.port
  rw [h]

/-- A change of every entry of a map that gives each value a property, which unlisted keys have, gives it to every key. -/
theorem NMap.get_map_prop {α : Type} {p : α → Prop} {d : Nat → α} {f : α → α} (hd : ∀ k, p (d k)) (hf : ∀ v, p (f v))
    (m : List (Nat × α)) (k : Nat) : p (NMap.get d (m.map (fun e => (e.1, f e.2))) k) := by
  induction m with
  | nil => exact hd k
  | cons e m ih =>
    simp only [List.map_cons, NMap.get]
    split
    · exact hf e.2
    · exact ih

/-! ### Registers of a port's page -/

/-- A register of the page's body is none that an event of the page writes. -/
theorem drpReg_not_event (q : Nat) {r : Nat} (body : 0x40 ≤ r) (inside : r < 0x1000) :
    0x20000 + 0x1000 * q + r ∉ eventRegs (0x20 + q) := by
  simp only [eventRegs, Reg.HDR_IRQ_RAW, Reg.HDR_SEQ, Reg.HDR_ERR_CODE, Reg.HDR_ERR_COUNT, List.mem_cons, List.not_mem_nil,
    or_false]
  omega

theorem drpStat_not_event (q : Nat) : Reg.DRP_STAT q ∉ eventRegs (0x20 + q) :=
  drpReg_not_event q (by decide) (by decide)

theorem wr_regsBut (s : State) (a : Nat) (w : Word) : RegsBut [a] s (s.wr a w) := fun _ h =>
  State.rd_wr_ne s w (Ne.symm (List.ne_of_not_mem_cons h))

theorem wf_regsBut (s : State) (a : Nat) (f : Fld) (v : Nat) : RegsBut [a] s (s.wf a f v) := wr_regsBut s a _

theorem regsBut_of_regs_eq {s t : State} (l : List Nat) (h : t.regs = s.regs) : RegsBut l s t :=
  fun a _ => State.rd_congr h a

theorem drpState_congr {s t : State} {q : Nat} (h : t.rd (Reg.DRP_STAT q) = s.rd (Reg.DRP_STAT q)) :
    t.drpState q = s.drpState q := congrArg (Word.get · _) h

theorem splitOn_congr {s t : State} {q : Nat} (h : t.rd (Reg.DRP_STAT q) = s.rd (Reg.DRP_STAT q)) :
    t.splitOn q = s.splitOn q := congrArg (fun w => Word.get w Fd.DRP_STAT_SPLIT != 0) h

theorem breakAt_congr {s t : State} {q : Nat} (h : t.rd (Reg.DRP_STAT q) = s.rd (Reg.DRP_STAT q)) :
    t.breakAt q = s.breakAt q := congrArg (Word.get · _) h

@[simp] theorem drpState_setDrp (s : State) (q v : Nat) : (s.setDrp q v).drpState q = v % 8 :=
  State.rf_wf_same s _ _ _ (by decide)

@[simp] theorem splitOn_setDrp (s : State) (q v : Nat) : (s.setDrp q v).splitOn q = s.splitOn q :=
  congrArg (· != 0) (State.rf_wf_above s _ _ _ _ (by decide) (by decide))

theorem drpState_wf_above (s : State) (q v : Nat) {f : Fld} (inside : f.lsb + f.width ≤ 32) (above : 3 ≤ f.lsb) :
    (s.wf (Reg.DRP_STAT q) f v).drpState q = s.drpState q :=
  State.rf_wf_below s _ _ _ _ inside above

@[simp] theorem splitOn_wf_found (s : State) (q v : Nat) :
    (s.wf (Reg.DRP_STAT q) Fd.DRP_STAT_FOUND v).splitOn q = s.splitOn q :=
  congrArg (· != 0) (State.rf_wf_above s _ _ _ _ (by decide) (by decide))

/-! ### Splits as the page shows them (R240) -/

@[simp] theorem showSplit_drp (s : State) (v : Nat) (on : Bool) (last : Nat) : (s.showSplit v on last).drp = s.drp := by
  simp [State.showSplit]

theorem showSplit_regsBut (s : State) (v : Nat) (on : Bool) (last : Nat) :
    RegsBut [Reg.DRP_STAT v] s (s.showSplit v on last) :=
  regsBut_trans (wf_regsBut _ _ _ _) (wf_regsBut _ _ _ _)

@[simp] theorem showSplit_drpState (s : State) (v : Nat) (on : Bool) (last : Nat) :
    (s.showSplit v on last).drpState v = s.drpState v := by
  unfold State.showSplit
  rw [drpState_wf_above _ _ _ (by decide) (by decide), drpState_wf_above _ _ _ (by decide) (by decide)]

@[simp] theorem showSplit_splitOn (s : State) (v : Nat) (on : Bool) (last : Nat) : (s.showSplit v on last).splitOn v = on := by
  unfold State.showSplit State.splitOn State.flag
  rw [State.rf_wf_above _ _ _ _ _ (by decide) (by decide), State.rf_wf_same _ _ _ _ (by decide)]
  cases on <;> rfl

@[simp] theorem showSplit_breakAt (s : State) (v last : Nat) : (s.showSplit v true last).breakAt v = last % 256 :=
  State.rf_wf_same _ _ _ _ (by decide)

@[simp] theorem tellSplit_regs (s : State) (P : Nat) (on : Bool) (last : Nat) : (s.tellSplit P on last).regs = s.regs :=
  (State.tellSplit_frame (within_refl _) (frame_refl _ s)).regs (by decide)
@[simp] theorem tellSplit_drp (s : State) (P : Nat) (on : Bool) (last : Nat) : (s.tellSplit P on last).drp = s.drp :=
  (State.tellSplit_frame (within_refl _) (frame_refl _ s)).drp (by decide)

@[simp] theorem setBreak_drp (s : State) (P last : Nat) : (s.setBreak P last).drp = s.drp := by
  unfold State.setBreak
  split <;> simp

theorem setBreak_regsBut (s : State) (P last : Nat) : RegsBut [Reg.DRP_STAT P] s (s.setBreak P last) := by
  unfold State.setBreak
  split
  · exact regsBut_trans (showSplit_regsBut s P true last) (regsBut_of_regs_eq _ (tellSplit_regs _ _ _ _))
  · exact fun _ _ => rfl

/-- The last node on the first end's side changes neither the state of the port nor whether its chain is split. -/
theorem setBreak_drpState (s : State) (P last : Nat) : (s.setBreak P last).drpState P = s.drpState P := by
  unfold State.setBreak
  split
  · exact (State.rf_congr (tellSplit_regs _ _ _ _) _ _).trans (showSplit_drpState s P true last)
  · rfl

theorem setBreak_splitOn (s : State) (P last : Nat) : (s.setBreak P last).splitOn P = s.splitOn P := by
  unfold State.setBreak
  split
  · next split =>
    exact (splitOn_congr (State.rd_congr (tellSplit_regs _ _ _ _) _)).trans ((showSplit_splitOn s P true last).trans split.symm)
  · rfl

theorem setBreak_breakAt {s : State} {P : Nat} (last : Nat) (split : s.splitOn P = true) :
    (s.setBreak P last).breakAt P = last % 256 := by
  unfold State.setBreak
  rw [if_pos split]
  exact (State.rf_congr (tellSplit_regs _ _ _ _) _ _).trans (showSplit_breakAt s P last)

/-! ### Training (R233) -/

theorem trainAttempt_regsBut (s : State) (q n : Nat) : RegsBut [Reg.DRP_STAT q] s (s.trainAttempt q n) :=
  wf_regsBut (s.onPort q _) (Reg.DRP_STAT q) Fd.DRP_STAT_STATE 1

theorem trainAttempt_drpState (s : State) (q n : Nat) : (s.trainAttempt q n).drpState q = 1 := drpState_setDrp _ _ _

theorem trainAttempt_splitOn (s : State) (q n : Nat) : (s.trainAttempt q n).splitOn q = s.splitOn q := splitOn_setDrp _ _ _

theorem trainAttempt_port_ne (s : State) {q p : Nat} (n : Nat) (ne : p ≠ q) : (s.trainAttempt q n).port p = s.port p :=
  (port_congr (State.wf_drp _ _ _ _) p).trans (port_onPort_ne s _ ne)

/-- What an attempt makes of its port: step 1 with the broadcast that forwards nothing waiting, and of what was sent and
waited only a NODE_CMD. -/
theorem trainAttempt_port (s : State) (q n : Nat) :
    ((s.trainAttempt q n).port q).step = 1 ∧ ((s.trainAttempt q n).port q).attempt = n ∧
    ((s.trainAttempt q n).port q).queue = [⟨0xFF, 8, arg5 0, false⟩] ∧
    ((s.trainAttempt q n).port q).outs = (s.port q).dropped ∧ ((s.trainAttempt q n).port q).busy = (s.port q).busy := by
  unfold State.trainAttempt State.setDrp
  rw [port_congr (State.wf_drp _ _ _ _), port_onPort_same]
  exact ⟨rfl, rfl, rfl, rfl, rfl⟩

theorem trainAttempt_unassigned {s : State} {q : Nat} (n : Nat) (whole : s.splitOn q = false) (a : Nat) :
    (((s.trainAttempt q n).port q).node a).assigned = false := by
  unfold State.trainAttempt State.setDrp
  rw [port_congr (State.wf_drp _ _ _ _), port_onPort_same]
  simp only [whole, Bool.false_eq_true, if_false]
  exact NMap.get_map_prop (p := fun nd : DrpNode => nd.assigned = false)
    (f := fun nd => { nd with assigned := false, far := false, typeBad := false, bSince := none })
    (fun _ => rfl) (fun _ => rfl) _ a

/-- A training that counts, but for the LINK it notes for the status cycle of a port in RUN. -/
def State.retrain (s : State) (q : Nat) : State :=
  (((s.trainAttempt q 1).wf (Reg.DRP_STAT q) Fd.DRP_STAT_FOUND 0).setBreak q 0).count (Reg.DRP_RETRAINS q)

theorem train_again {s : State} {q : Nat} (first : s.firstEnd q = true) :
    s.train q true =
      if s.drpState q = 2 then (s.retrain q).onPort q (fun x => { x with linkCyc := true }) else s.retrain q := by
  simp [State.train, State.retrain, first]

theorem train_again_regs {s : State} {q : Nat} (first : s.firstEnd q = true) :
    (s.train q true).regs = (s.retrain q).regs := by
  rw [train_again first]
  split <;> rfl

theorem retrain_port (s : State) (q p : Nat) : (s.retrain q).port p = (s.trainAttempt q 1).port p :=
  port_congr (by simp [State.retrain]) p

theorem train_again_port {s : State} {q : Nat} (first : s.firstEnd q = true) :
    ∃ cyc, (s.train q true).port q = { (s.trainAttempt q 1).port q with linkCyc := cyc } := by
  rw [train_again first]
  split
  · exact ⟨true, by rw [port_onPort_same, retrain_port]⟩
  · exact ⟨_, retrain_port s q q⟩

theorem train_again_port_ne {s : State} {q p : Nat} (first : s.firstEnd q = true) (ne : p ≠ q) :
    (s.train q true).port p = s.port p := by
  have kept : (s.retrain q).port p = s.port p := (retrain_port s q p).trans (trainAttempt_port_ne s 1 ne)
  rw [train_again first]
  split
  · exact (port_onPort_ne _ _ ne).trans kept
  · exact kept

theorem retrain_rd_stat (s : State) (q : Nat) : (s.retrain q).rd (Reg.DRP_STAT q) =
    (((s.trainAttempt q 1).wf (Reg.DRP_STAT q) Fd.DRP_STAT_FOUND 0).setBreak q 0).rd (Reg.DRP_STAT q) := by
  unfold State.retrain
  rw [State.count_rd, if_neg (by simp only [Reg.DRP_STAT, Reg.DRP_RETRAINS]; omega)]

theorem retrain_drpState (s : State) (q : Nat) : (s.retrain q).drpState q = 1 := by
  rw [drpState_congr (retrain_rd_stat s q), setBreak_drpState, drpState_wf_above _ _ _ (by decide) (by decide),
    trainAttempt_drpState]

theorem retrain_splitOn (s : State) (q : Nat) : (s.retrain q).splitOn q = s.splitOn q := by
  rw [splitOn_congr (retrain_rd_stat s q), setBreak_splitOn, splitOn_wf_found, trainAttempt_splitOn]

theorem retrain_breakAt {s : State} {q : Nat} (split : s.splitOn q = true) : (s.retrain q).breakAt q = 0 := by
  rw [breakAt_congr (retrain_rd_stat s q),
    setBreak_breakAt 0 ((splitOn_wf_found _ _ _).trans ((trainAttempt_splitOn s q 1).trans split))]

theorem retrain_counts {s : State} {q : Nat} (room : s.rd (Reg.DRP_RETRAINS q) ≠ 0xFFFFFFFF) :
    (s.retrain q).rd (Reg.DRP_RETRAINS q) = s.rd (Reg.DRP_RETRAINS q) + 1 := by
  have other : Reg.DRP_RETRAINS q ∉ [Reg.DRP_STAT q] := by
    simp only [List.mem_singleton, Reg.DRP_STAT, Reg.DRP_RETRAINS]
    omega
  have kept : RegsBut [Reg.DRP_STAT q] s
      (((s.trainAttempt q 1).wf (Reg.DRP_STAT q) Fd.DRP_STAT_FOUND 0).setBreak q 0) :=
    regsBut_trans (trainAttempt_regsBut s q 1) (regsBut_trans (wf_regsBut _ _ _ _) (setBreak_regsBut _ _ _))
  unfold State.retrain
  rw [State.count_rd, if_pos rfl, kept _ other, if_neg room]

theorem train_sameBytes (s : State) (q : Nat) (again : Bool) : SameBytes s (s.train q again) :=
  State.rdByte_congr ((State.train_frame (within_refl _) (frame_refl _ s)).mem (by decide))

/-- A used first-end port that is to train again begins step 1 of a first attempt (R233). -/
theorem train_retrained {s : State} {q : Nat} (first : s.firstEnd q = true) : Retrained s (s.train q true) q := by
  have rd : ∀ a, (s.train q true).rd a = (s.retrain q).rd a := State.rd_congr (train_again_regs first)
  obtain ⟨cyc, port⟩ := train_again_port first
  obtain ⟨step, attempt, queue, outs, busy⟩ := trainAttempt_port s q 1
  refine ⟨?_, ?_, ?_, ?_, ?_, ?_, ?_, fun whole a => ?_, fun split => ?_, fun room => ?_,
    fun p ne => train_again_port_ne first ne, train_sameBytes s q true⟩
  · exact (drpState_congr (rd _)).trans (retrain_drpState s q)
  · rw [port, step]
  · rw [port, attempt]
  · rw [port, queue]
  · rw [port, outs]
  · rw [port, busy]
  · exact (splitOn_congr (rd _)).trans (retrain_splitOn s q)
  · rw [port]
    exact trainAttempt_unassigned 1 whole a
  · exact (breakAt_congr (rd _)).trans (retrain_breakAt split)
  · exact (rd _).trans (retrain_counts room)

end Sys2Proof.Machine
end

section
/-!
The ends of a training: attempts that run out, an ASSIGN without a reply, a chain that is truncated; and the commands that
a host sends to nodes (R233, R234, R244).
-/

namespace Sys2Proof.Machine

open Sys2Proof.Claims

/-- A hub that is alone masters each chain from the chain's own port. -/
theorem masterPort_of_alone {s : State} (alone : s.role = 0) (q : Nat) : s.masterPort q = q := by
  simp [State.masterPort, alone]

/-- On a hub that is alone the ends of waiting act on the port they name. -/
theorem exec_portTimeouts_of_alone {s : State} (alone : s.role = 0) (q : Fin 16) :
    exec (.linkRetrainTimeout q) s = .next (opLinkRetrain q.val s) ∧
    exec (.noPartnerRetry q) s = .next (opNoPartnerRetry q.val s) ∧
    exec (.trainingAttemptTimeout q) s = .next (opTrainTimeout q.val s) ∧
    exec (.assignReplyTimeout q) s = .next (opAssignTimeout q.val s) := by
  have master := masterPort_of_alone alone q.val
  refine ⟨?_, ?_, ?_, ?_⟩
  · exact congrArg (fun p => Host.Outcome.next (opLinkRetrain p s)) master
  · exact congrArg (fun p => Host.Outcome.next (opNoPartnerRetry p s)) master
  · exact congrArg (fun p => Host.Outcome.next (opTrainTimeout p s)) master
  · exact congrArg (fun p => Host.Outcome.next (opAssignTimeout p s)) master

/-- A hub that is alone has no standby. -/
theorem hasStandby_of_alone {s : State} (alone : s.role = 0) : s.hasStandby = false := by
  simp [State.hasStandby, alone]

/-- A port that stands for a chain of its own on a hub that is alone is that chain's first end (R239). -/
theorem atFirst_of_chainPort_self {s : State} {q : Nat} (alone : s.role = 0) (own : s.chainPort q = q) :
    s.atFirst q = true := by
  unfold State.chainPort State.secondOf at own
  unfold State.atFirst State.secondOf
  simp only [alone, if_true] at own ⊢
  split at own
  · next below =>
    have odd : q % 2 = 1 := by simpa using (Bool.and_eq_true_iff.1 (Bool.and_eq_true_iff.1 below).1).1
    simp only [Option.getD_some] at own
    omega
  · next alone => simp [alone]

theorem err_raise_regsBut (s : State) (p c b : Nat) : RegsBut (eventRegs p) s ((s.err p c).raise p b) :=
  regsBut_trans (err_regsBut s p c) (raise_regsBut _ p b)

theorem reports_congr {s t : State} {p c : Nat} (code : t.rd (Reg.HDR_ERR_CODE p) = s.rd (Reg.HDR_ERR_CODE p))
    (raw : t.rd (Reg.HDR_IRQ_RAW p) = s.rd (Reg.HDR_IRQ_RAW p)) (h : Reports s p c) : Reports t p c := by
  unfold Reports IrqSet at h ⊢
  rwa [code, raw]

/-! ### Attempts -/

theorem opTrainTimeout_again {s : State} {q : Nat} (training : s.drpState q = 1) (step : (s.port q).step = 1)
    (left : (s.port q).attempt < 3) : opTrainTimeout q s = s.trainAttempt q ((s.port q).attempt + 1) := by
  simp [opTrainTimeout, training, step, left]

/-- A port that gives up training: of what was sent and waited only a NODE_CMD is left. -/
def DrpPort.gaveUp (x : DrpPort) : DrpPort := { x with step := 0, queue := [], outs := x.dropped }

theorem opTrainTimeout_last {s : State} {q : Nat} (training : s.drpState q = 1) (step : (s.port q).step = 1)
    (out : 3 ≤ (s.port q).attempt) :
    opTrainTimeout q s =
      (((s.onPort q DrpPort.gaveUp).setDrp q 4).err (0x20 + q) Err.DRP_NO_PARTNER).raise (0x20 + q) 2 := by
  have gaveUp : (fun y : DrpPort => { y with step := 0, queue := [], outs := y.dropped }) = DrpPort.gaveUp := rfl
  simp [opTrainTimeout, gaveUp, training, step, Nat.not_lt.2 out]

/-- A first attempt or a second one that has taken 10 ms makes room for the next (R233). -/
theorem trainTimeout_begins_next {s : State} {q : Nat} (training : s.drpState q = 1) (step : (s.port q).step = 1)
    (left : (s.port q).attempt < 3) :
    (opTrainTimeout q s).drpState q = 1 ∧ ((opTrainTimeout q s).port q).attempt = (s.port q).attempt + 1 ∧
    ((opTrainTimeout q s).port q).step = 1 ∧ RegsBut [Reg.DRP_STAT q] s (opTrainTimeout q s) := by
  rw [opTrainTimeout_again training step left]
  obtain ⟨step1, attempt, -⟩ := trainAttempt_port s q ((s.port q).attempt + 1)
  exact ⟨trainAttempt_drpState s q _, attempt, step1, trainAttempt_regsBut s q _⟩

/-- The third attempt ends in NO_PARTNER (R233). -/
theorem trainTimeout_no_partner {s : State} {q : Nat} (training : s.drpState q = 1) (step : (s.port q).step = 1)
    (out : 3 ≤ (s.port q).attempt) :
    (opTrainTimeout q s).drpState q = 4 ∧ ((opTrainTimeout q s).port q).step = 0 ∧
    Reports (opTrainTimeout q s) (0x20 + q) Err.DRP_NO_PARTNER ∧ IrqSet (opTrainTimeout q s) (0x20 + q) 2 ∧
    RegsBut (Reg.DRP_STAT q :: eventRegs (0x20 + q)) s (opTrainTimeout q s) := by
  rw [opTrainTimeout_last training step out]
  have stat : RegsBut [Reg.DRP_STAT q] s ((s.onPort q DrpPort.gaveUp).setDrp q 4) :=
    wf_regsBut (s.onPort q _) (Reg.DRP_STAT q) Fd.DRP_STAT_STATE 4
  have events := err_raise_regsBut ((s.onPort q DrpPort.gaveUp).setDrp q 4) (0x20 + q) Err.DRP_NO_PARTNER 2
  have drp : ((((s.onPort q DrpPort.gaveUp).setDrp q 4).err (0x20 + q) Err.DRP_NO_PARTNER).raise (0x20 + q) 2).drp =
      (s.onPort q DrpPort.gaveUp).drp := by simp [State.setDrp]
  refine ⟨?_, ?_, raise_reports 2 (err_reports _ _ _), raise_irqSet _ _ (by decide), ?_⟩
  · rw [drpState_congr (events _ (drpStat_not_event q)), drpState_setDrp]
  · rw [port_congr drp, port_onPort_same]
    rfl
  · exact regsBut_trans (regsBut_mono (by simp) stat) (regsBut_mono (List.subset_cons_self _ _) events)

/-! ### Configuration, and chains that end early (R234) -/

/-- Reverse offsets change no register, and no port but its commands and its bridle table. -/
@[simp] theorem reverseBridles_regs (s : State) (P : Nat) : (s.reverseBridles P).regs = s.regs := by
  unfold State.reverseBridles
  split <;> rfl

theorem reverseBridles_step (s : State) (q : Nat) : ((s.reverseBridles q).port q).step = (s.port q).step := by
  unfold State.reverseBridles
  split
  · rfl
  · rw [port_onPort_same]
    refine List.foldlRecOn (motive := fun y : DrpPort => y.step = (s.port q).step) _ _ rfl fun y kept e _ => ?_
    simp only
    split
    · exact kept
    · exact kept

@[simp] theorem configure_regs (s : State) (q : Nat) : (s.configure q).regs = s.regs := by
  simp only [State.configure, onPort_regs]
  split <;> simp

/-- Configuration is step 3 of a first end's training (R233). -/
theorem configure_step {s : State} {q : Nat} (own : s.chainPort q = q) (first : s.atFirst q = true) :
    ((s.configure q).port q).step = 3 := by
  simp only [State.configure, own, first, if_true, port_onPort_same]
  rw [reverseBridles_step, port_onPort_same]

theorem enumDone_of_first {s : State} {q : Nat} (own : s.chainPort q = q) (first : s.atFirst q = true) (found : Nat) :
    s.enumDone q found = ((s.wf (Reg.DRP_STAT q) Fd.DRP_STAT_FOUND found).setBreak q found).configure q := by
  simp only [State.enumDone, own, first, if_true]

theorem enumDone_regsBut {s : State} {q : Nat} (own : s.chainPort q = q) (first : s.atFirst q = true) (found : Nat) :
    RegsBut [Reg.DRP_STAT q] s (s.enumDone q found) := by
  rw [enumDone_of_first own first]
  exact regsBut_trans (wf_regsBut _ _ _ _)
    (regsBut_trans (setBreak_regsBut _ _ _) (regsBut_of_regs_eq _ (configure_regs _ _)))

/-- What of a chain is read off registers that neither an event of its page nor a change of its STAT writes: the role of the
hub, and MODE and NODES of every port. -/
structure SameChains (s t : State) : Prop where
  role : t.role = s.role
  mode : ∀ p, t.drpMode p = s.drpMode p
  nodes : ∀ p, t.drpN p = s.drpN p

theorem sameChains_of_regsBut {s t : State} {q : Nat} (h : RegsBut (Reg.DRP_STAT q :: eventRegs (0x20 + q)) s t) :
    SameChains s t := by
  have role : Reg.PAI_STAT ∉ Reg.DRP_STAT q :: eventRegs (0x20 + q) := by
    simp only [eventRegs, Reg.PAI_STAT, Reg.DRP_STAT, Reg.HDR_IRQ_RAW, Reg.HDR_SEQ, Reg.HDR_ERR_CODE, Reg.HDR_ERR_COUNT,
      List.mem_cons, List.not_mem_nil, or_false]
    omega
  have cfg (p : Nat) : Reg.DRP_CFG p ∉ Reg.DRP_STAT q :: eventRegs (0x20 + q) := by
    simp only [eventRegs, Reg.DRP_CFG, Reg.DRP_STAT, Reg.HDR_IRQ_RAW, Reg.HDR_SEQ, Reg.HDR_ERR_CODE, Reg.HDR_ERR_COUNT,
      List.mem_cons, List.not_mem_nil, or_false]
    omega
  exact ⟨congrArg (Word.get · _) (h _ role), fun p => congrArg (Word.get · _) (h _ (cfg p)),
    fun p => congrArg (Word.get · _) (h _ (cfg p))⟩

theorem secondOf_congr {s t : State} (h : SameChains s t) (q : Nat) : t.secondOf q = s.secondOf q := by
  simp only [State.secondOf, h.role, h.mode, h.nodes]

theorem ownSecond_congr {s t : State} (h : SameChains s t) (q : Nat) : t.ownSecond q = s.ownSecond q := by
  simp only [State.ownSecond, h.role, h.mode, h.nodes]

theorem chainPort_congr {s t : State} (h : SameChains s t) (q : Nat) : t.chainPort q = s.chainPort q :=
  congrArg (Option.getD · q) (secondOf_congr h q)

theorem enumDone_step {s : State} {q : Nat} (own : s.chainPort q = q) (first : s.atFirst q = true) (found : Nat) :
    ((s.enumDone q found).port q).step = 3 := by
  have stat : RegsBut [Reg.DRP_STAT q] s ((s.wf (Reg.DRP_STAT q) Fd.DRP_STAT_FOUND found).setBreak q found) :=
    regsBut_trans (wf_regsBut _ _ _ _) (setBreak_regsBut _ _ _)
  have chains := sameChains_of_regsBut (q := q) (regsBut_mono (by simp) stat)
  rw [enumDone_of_first own first]
  exact configure_step ((chainPort_congr chains q).trans own) ((congrArg Option.isNone (secondOf_congr chains q)).trans first)

/-- The reported end of a chain on a hub that is alone: its first end configures the nodes found (R234). -/
theorem truncate_of_single {s : State} {q : Nat} (alone : s.role = 0) (own : s.chainPort q = q)
    (single : s.ownSecond q = none) (found code : Nat) :
    ((s.truncate q found code).port q).step = 3 ∧ Reports (s.truncate q found code) (0x20 + q) code ∧
    IrqSet (s.truncate q found code) (0x20 + q) 3 ∧
    RegsBut (Reg.DRP_STAT q :: eventRegs (0x20 + q)) s (s.truncate q found code) := by
  have reported : RegsBut (Reg.DRP_STAT q :: eventRegs (0x20 + q)) s ((s.err (0x20 + q) code).raise (0x20 + q) 3) :=
    regsBut_mono (List.subset_cons_self _ _) (err_raise_regsBut s _ _ _)
  have chains := sameChains_of_regsBut reported
  have own1 := (chainPort_congr chains q).trans own
  have first1 := atFirst_of_chainPort_self (chains.role.trans alone) own1
  have stat := enumDone_regsBut own1 first1 found
  have done := regsBut_trans reported (regsBut_mono (by simp) stat)
  have chains2 := sameChains_of_regsBut done
  have ends : s.truncate q found code = ((s.err (0x20 + q) code).raise (0x20 + q) 3).enumDone q found := by
    simp only [State.truncate, (ownSecond_congr chains2 q).trans single, hasStandby_of_alone (chains2.role.trans alone),
      Bool.false_eq_true, false_and, if_false]
  have event : ∀ a ∈ eventRegs (0x20 + q), a ∉ [Reg.DRP_STAT q] := fun a ha hs =>
    drpStat_not_event q (List.mem_singleton.1 hs ▸ ha)
  rw [ends]
  refine ⟨enumDone_step own1 first1 found, ?_, ?_, done⟩
  · exact reports_congr (stat _ (event _ (by simp [eventRegs]))) (stat _ (event _ (by simp [eventRegs])))
      (raise_reports 3 (err_reports s _ _))
  · unfold IrqSet
    rw [stat _ (event _ (by simp [eventRegs]))]
    exact raise_irqSet _ _ (by decide)

/-- An ASSIGN that its node has not answered is sent again, three times (R234). -/
theorem opAssignTimeout_retries {s : State} {q : Nat} (assigning : (s.port q).step = 2)
    (sent : (s.port q).outs.any (fun o => o.2.op == 1) = true) (left : (s.port q).retry < 3) :
    opAssignTimeout q s = s.setPort q { s.port q with
      outs := (s.port q).outs.filter (fun o => o.2.op != 1), retry := (s.port q).retry + 1
      queue := (s.port q).queue ++ [⟨0, 1, arg5 (s.port q).asg, false⟩] } := by
  simp only [opAssignTimeout, assigning, sent, left, ne_eq, not_true_eq_false, Bool.not_true, Bool.false_eq_true, or_self,
    if_false, if_true]

/-- After the third retry the chain ends before the address that was to be assigned (R234). -/
theorem opAssignTimeout_truncates {s : State} {q : Nat} (alone : s.role = 0) (own : s.chainPort q = q)
    (assigning : (s.port q).step = 2) (sent : (s.port q).outs.any (fun o => o.2.op == 1) = true)
    (out : 3 ≤ (s.port q).retry) :
    opAssignTimeout q s =
      (s.setPort q { s.port q with outs := (s.port q).outs.filter (fun o => o.2.op != 1) }).truncate q
        ((s.port q).asg - 1) Err.DRP_TRUNCATED := by
  simp only [opAssignTimeout, assigning, sent, Nat.not_lt.2 out, own, atFirst_of_chainPort_self alone own, ne_eq,
    not_true_eq_false, Bool.not_true, Bool.false_eq_true, or_self, if_false, if_true]

/-! ### Host commands to nodes (R244) -/

/-- OP of the node command that NCMD0 holds, and the OPs that a host may give. -/
def State.nodeOp (s : State) (q : Nat) : Nat := (s.rd (Reg.DRP_NCMD0 q)).toNat / 256 % 256
abbrev HostOp (op : Nat) : Prop := op = 2 ∨ op = 9 ∨ op = 0xA

theorem opNodeCmd_unknown {s : State} {q : Nat} (unknown : ¬ HostOp (s.nodeOp q)) :
    opNodeCmd q s = s.err (0x20 + q) Err.DRP_RANGE := by
  obtain ⟨ident, read, write⟩ := (by simpa only [not_or] using unknown : s.nodeOp q ≠ 2 ∧ s.nodeOp q ≠ 9 ∧ s.nodeOp q ≠ 0xA)
  have other : (!(s.nodeOp q == 2 || s.nodeOp q == 9 || s.nodeOp q == 0xA)) = true := by simp [ident, read, write]
  exact if_pos other

theorem hostOp_tested {s : State} {q : Nat} (known : HostOp (s.nodeOp q)) :
    ¬ (!(s.nodeOp q == 2 || s.nodeOp q == 9 || s.nodeOp q == 0xA)) = true := by
  obtain op | op | op := known <;> simp [op]

theorem opNodeCmd_busy {s : State} {q : Nat} (known : HostOp (s.nodeOp q))
    (busy : (s.port q).busy = true ∨ s.drpState q ≠ 2) : opNodeCmd q s = s.err (0x20 + q) Err.DRP_BUSY := by
  have refused : ((s.port q).busy || s.drpState q != 2 || s.role == 2) = true := by
    obtain busy | notRun := busy
    · simp [busy]
    · simp [notRun]
  exact (if_neg (hostOp_tested known)).trans (if_pos refused)

/-- The command that NCMD0 and NCMD1 hold. -/
def State.hostCmd (s : State) (q : Nat) : DrpCmd :=
  ⟨(s.rd (Reg.DRP_NCMD0 q)).toNat % 256, s.nodeOp q,
    leBytes 2 ((s.rd (Reg.DRP_NCMD0 q)).toNat / 65536) ++ leBytes 3 (s.rd (Reg.DRP_NCMD1 q)).toNat, true⟩

theorem opNodeCmd_queues {s : State} {q : Nat} (known : HostOp (s.nodeOp q)) (free : (s.port q).busy = false)
    (runs : s.drpState q = 2) (serves : s.role ≠ 2) :
    opNodeCmd q s = (s.onPort q (fun x => { x with busy := true, queue := s.hostCmd q :: x.queue })).wr (Reg.DRP_NRSP1 q)
      (w32 ((s.rd (Reg.DRP_NRSP1 q)).toNat % 2 ^ 24)) := by
  have taken : ¬ ((s.port q).busy || s.drpState q != 2 || s.role == 2) = true := by simp [free, runs, serves]
  exact (if_neg (hostOp_tested known)).trans (if_neg taken)

/-- The port without the NODE_CMD that it has sent. -/
def DrpPort.hostTimedOut (x : DrpPort) : DrpPort := { x with busy := false, outs := x.outs.filter (fun o => !o.2.host) }

theorem opNodeCmdTimeout_ends {s : State} {q : Nat} (busy : (s.port q).busy = true)
    (sent : (s.port q).outs.any (fun o => o.2.host) = true) :
    opNodeCmdTimeout q s =
      ((s.setPort q (s.port q).hostTimedOut).wr (Reg.DRP_NRSP1 q)
        (w32 ((s.rd (Reg.DRP_NRSP1 q)).toNat % 2 ^ 24 + 2 ^ 25))).raise (0x20 + q) 4 := by
  have waits : ¬ (!(s.port q).busy || !(s.port q).outs.any (fun o => o.2.host)) = true := by simp only [busy, sent]; decide
  exact if_neg waits

/-- A NODE_CMD without a reply in time: TIMEOUT in NRSP1, the event, and the port free again. -/
theorem nodeCmdTimeout_reports {s : State} {q : Nat} (busy : (s.port q).busy = true)
    (sent : (s.port q).outs.any (fun o => o.2.host) = true) :
    IrqSet (opNodeCmdTimeout q s) (0x20 + q) 4 ∧
    (opNodeCmdTimeout q s).rd (Reg.DRP_NRSP1 q) = w32 ((s.rd (Reg.DRP_NRSP1 q)).toNat % 2 ^ 24 + 2 ^ 25) ∧
    (opNodeCmdTimeout q s).port q = (s.port q).hostTimedOut ∧
    RegsBut [Reg.DRP_NRSP1 q, Reg.HDR_IRQ_RAW (0x20 + q), Reg.HDR_SEQ (0x20 + q)] s (opNodeCmdTimeout q s) := by
  rw [opNodeCmdTimeout_ends busy sent]
  have body : Reg.DRP_NRSP1 q ∉ eventRegs (0x20 + q) := drpReg_not_event q (by decide) (by decide)
  refine ⟨raise_irqSet _ _ (by decide), ?_, ?_, fun a ha => ?_⟩
  · rw [raise_regsBut _ _ _ _ body, State.rd_wr_same]
  · exact (port_congr ((State.raise_drp _ _ _).trans (State.wr_drp _ _ _)) q).trans (port_setPort_same s q _)
  · simp only [List.mem_cons, List.not_mem_nil, or_false, not_or] at ha
    obtain ⟨reply, raw, seq⟩ := ha
    rw [State.raise_rd, if_neg raw, if_neg (fun e => seq e.1), State.rd_wr_ne _ _ (Ne.symm reply), setPort_rd]

end Sys2Proof.Machine
end

section
/-!
The obligation on the training of node chains.
-/

namespace Sys2Proof.Claims

open Sys2Proof.Machine

/-- Settles O44, by what a training, an attempt's end, an ASSIGN's end and a NODE_CMD make of their port. -/
theorem nodeChainTraining : Obligations.NodeChainTraining := by
  refine ⟨?retrain, ?link, ?noPartner, ?attempt, ?assign, ?command, ?timeout⟩
  case retrain => exact fun q s first => ⟨s.train q.val true, rfl, train_retrained first⟩
  case link =>
    intro q s alone first link
    obtain ⟨run, -⟩ := exec_portTimeouts_of_alone alone q
    have trains : opLinkRetrain q.val s = s.train q.val true := if_pos link
    exact ⟨_, run.trans (congrArg _ trains), train_retrained first⟩
  case noPartner =>
    intro q s alone first waits
    obtain ⟨-, run, -⟩ := exec_portTimeouts_of_alone alone q
    have trains : opNoPartnerRetry q.val s = s.train q.val true := if_pos waits
    exact ⟨_, run.trans (congrArg _ trains), train_retrained first⟩
  case attempt =>
    intro q s alone training step
    obtain ⟨-, -, run, -⟩ := exec_portTimeouts_of_alone alone q
    exact ⟨fun left => ⟨_, run, trainTimeout_begins_next training step left⟩,
      fun out => ⟨_, run, trainTimeout_no_partner training step out⟩⟩
  case assign =>
    intro q s alone own single assigning sent
    obtain ⟨-, -, -, run⟩ := exec_portTimeouts_of_alone alone q
    refine ⟨fun left => ⟨_, run, ?_⟩, fun out => ⟨_, run, ?_⟩⟩
    · rw [opAssignTimeout_retries assigning sent left]
      exact ⟨port_setPort_same _ _ _, fun _ _ => rfl⟩
    · rw [opAssignTimeout_truncates alone own assigning sent out]
      exact truncate_of_single (s := s.setPort q.val _) alone own single _ _
  case command =>
    intro q s
    refine ⟨fun unknown => ⟨opNodeCmd q.val s, rfl, ?_⟩, fun known busy => ⟨opNodeCmd q.val s, rfl, ?_⟩,
      fun known free runs serves => ⟨opNodeCmd q.val s, rfl, ?_⟩⟩
    · rw [opNodeCmd_unknown unknown]
      exact ⟨err_reports _ _ _, State.err_drp _ _ _, err_regsBut _ _ _⟩
    · rw [opNodeCmd_busy known busy]
      exact ⟨err_reports _ _ _, State.err_drp _ _ _, err_regsBut _ _ _⟩
    · rw [opNodeCmd_queues known free runs serves]
      exact ⟨(port_congr (State.wr_drp _ _ _) _).trans (port_onPort_same _ _ _), wr_regsBut (s.onPort q.val _) _ _⟩
  case timeout => exact fun q s _ busy sent => ⟨opNodeCmdTimeout q.val s, rfl, nodeCmdTimeout_reports busy sent⟩

end Sys2Proof.Claims
end

section
/-!
The downstream frame that carries a waiting command, and a state whose next frame has fewer symbols than the 15 of R227.
-/

namespace Sys2Proof.Machine

/-- A port in RUN sends its waiting command in one frame, whose symbols up to FILL are ten beside the command's ARG bytes:
D_SOF, SFN and CTL with their CRC, ADDR and OP, the CRC of the command, and the lines with theirs (R227). -/
theorem opDsofSend_of_pick {s : State} {q : Nat} {c : DrpCmd} {rest : List DrpCmd} (sends : s.sends q = true)
    (runs : s.drpState q = 2) (picked : (s.port q).pick = some (c, rest)) (notStart : c.op ≠ 7) :
    ∃ at_ x wire sof syms fill,
      opDsofSend q s = ((s.advance at_).setPort q x).emitOut (.driari wire 1 sof syms fill) ∧
      syms.length = 10 + c.args.length := by
  have port (at_ : Time) : (s.advance at_).port q = s.port q := port_congr (State.advance_drp s at_) q
  have stays (at_ : Time) (x : DrpPort) (o : Out) : (((s.advance at_).setPort q x).emitOut o).drpState q = 2 :=
    (drpState_congr (State.advance_rd s at_ _)).trans runs
  simp only [opDsofSend, sends, port, picked, stays, notStart, Option.any_some, Option.map_some, beq_iff_eq, Bool.not_true,
    Bool.false_eq_true, Nat.reduceEqDiff, or_self, false_and, if_false]
  refine ⟨_, _, _, _, _, _, rfl, ?_⟩
  simp only [List.length_cons, List.length_map, List.length_append, by1, le2, leBytes, List.length_nil]
  omega

/-- D_SOF_SEND with no trigger left over sends that frame and nothing else. -/
theorem exec_dSofSend_of_pick {s t : State} {q : Fin 16} {c : DrpCmd} {rest : List DrpCmd} (gathered : s.shb.gather = [])
    (alone : s.role = 0) (sends : s.sends q.val = true) (runs : s.drpState q.val = 2)
    (picked : (s.port q.val).pick = some (c, rest)) (notStart : c.op ≠ 7) (run : exec (.dSofSend q) s = .next t) :
    ∃ wire sof syms fill, t.sent = s.sent ++ [.driari wire 1 sof syms fill] ∧ syms.length = 10 + c.args.length := by
  obtain ⟨at_, x, wire, sof, syms, fill, sent, length⟩ := opDsofSend_of_pick sends runs picked notStart
  obtain rfl : (opDsofSend (s.masterPort q.val) s).flushTrig = t := Host.Outcome.next.inj run
  have quiet : (opDsofSend q.val s).shb.gather = [] := by
    rw [sent, State.emitOut_shb]
    exact (congrArg ShbState.gather (State.advance_shb s at_)).trans gathered
  refine ⟨wire, sof, syms, fill, ?_, length⟩
  rw [masterPort_of_alone alone, flushTrig_of_gather_nil quiet, sent]
  exact congrArg (· ++ _) (State.advance_sent s at_)

/-- A hub that is alone with port 0, a chain of one node, in RUN: a command without ARG bytes waits, as no operation of the
hub queues one. -/
def bareCommandWaits : State :=
  ((State.reset.wf (Reg.DRP_CFG 0) Fd.DRP_CFG_NODES 1).setDrp 0 2).setPort 0
    { DrpPort.init with queue := [⟨1, 3, [], false⟩] }

/-- The same under a plan with superframes. -/
def sendsBareCommand : State :=
  { bareCommandWaits with pln := { bareCommandWaits.pln with run := some { Plan.empty with superframe := 10000 } } }

end Sys2Proof.Machine
end

section
/-!
The obligation on the frames of node chains.
-/

namespace Sys2Proof.Claims

open Sys2Proof.Machine

/-- Refutes O45: its first clause gives every frame of a port in RUN 15 symbols before FILL, in any state; nothing in its
premises says that a waiting command has the five ARG bytes of R232, and the frame of one without any has ten. -/
theorem not_nodeChainFrames : ¬ Obligations.NodeChainFrames := by
  rintro ⟨send, -⟩
  have shb : ShbOk sendsBareCommand := ⟨by decide, by decide, rfl, rfl⟩
  have alone : sendsBareCommand.role = 0 := by decide
  have own : sendsBareCommand.chainPort (0 : Fin 16).val = (0 : Fin 16).val := by decide
  have sends : sendsBareCommand.sends (0 : Fin 16).val = true := by decide
  have runs : sendsBareCommand.drpState (0 : Fin 16).val = 2 := by decide
  have picked : (sendsBareCommand.port (0 : Fin 16).val).pick = some (⟨1, 3, [], false⟩, []) := by decide
  obtain ⟨t, syms, run, -, claimed, fifteen, -⟩ := send 0 sendsBareCommand shb alone own sends runs
  obtain ⟨wire, sof, syms', fill, sent, ten⟩ :=
    exec_dSofSend_of_pick shb.gathered alone sends runs picked (by decide) run
  have same : [Out.driari wire 1 sof syms' fill] = [Out.driari 0 1 _ syms _] := List.append_cancel_left (sent.symm.trans claimed)
  injection same with frame
  injection frame with _ _ _ symbols
  rw [symbols, fifteen] at ten
  exact absurd ten (by decide)

end Sys2Proof.Claims
end

section
/-!
The shutter bus from command to command (R246): the invariant, the operations that leave the bus alone, and the
triggers themselves.
-/

namespace Sys2Proof.Machine

open Sys2Proof.Claims

/-! ### The invariant -/

/-- The shutter bus has its size (R246, R251); while `quiet`, nothing is gathered on it. -/
structure BusOk (quiet : Prop) (b : ShbState) : Prop where
  lineUntil : b.lineUntil.length = 16
  lineCycle : b.lineCycle.length = 16
  inState : b.inState.length = 4
  inStuck : b.inStuck.length = 4
  armed : b.armed.length = 8
  gathered : quiet → b.gather = []

theorem shbOk_iff (s : State) : ShbOk s ↔ BusOk True s.shb := by
  constructor
  · rintro ⟨⟨lu, lc⟩, ⟨is, ik⟩, ar, ga⟩
    exact ⟨lu, lc, is, ik, ar, fun _ => ga⟩
  · rintro ⟨lu, lc, is, ik, ar, ga⟩
    exact ⟨⟨lu, lc⟩, ⟨is, ik⟩, ar, ga trivial⟩

theorem BusOk.loud {q : Prop} {b : ShbState} (h : BusOk q b) : BusOk False b := { h with gathered := False.elim }

/-! ### Operations off the bus -/

/-- Every field of State but the shutter bus, in the frames' coding. -/
abbrev fieldsOffBus : Nat := allFields - 2 ^ 14

theorem offBus {M : Nat} (h : M &&& fieldsOffBus = M) : Within M fieldsOffBus := within_of_land h

/-- A state keeps every field of its own: `frame_refl` with both arguments left to unification. -/
theorem same {W : Nat} {s : State} : Frame W s s := frame_refl W s

@[simp] theorem length_setAt {α : Type} (l : List α) (i : Nat) (v : α) : (setAt l i v).length = l.length := by
  simp [setAt]

variable {q : Prop} {s t : State}

theorem busOk_of_frame (f : Frame fieldsOffBus s t) (h : BusOk q s.shb) : BusOk q t.shb := by
  rwa [f.shb (by decide)]

theorem busOk_ite {c : Prop} [Decidable c] {a b : State} (ha : BusOk q a.shb) (hb : BusOk q b.shb) :
    BusOk q (if c then a else b).shb := by
  split
  · exact ha
  · exact hb

theorem busOk_foldl {α : Type} {f : State → α → State} (l : List α)
    (hf : ∀ a x, BusOk q a.shb → BusOk q (f a x).shb) (h : BusOk q s.shb) : BusOk q (l.foldl f s).shb := by
  induction l generalizing s with
  | nil => exact h
  | cons x l ih => exact ih (hf s x h)

theorem busOk_foldl_fst {α β : Type} {f : State × β → α → State × β} (l : List α) {p : State × β}
    (hf : ∀ a x, BusOk q a.1.shb → BusOk q (f a x).1.shb) (h : BusOk q p.1.shb) : BusOk q (l.foldl f p).1.shb := by
  induction l generalizing p with
  | nil => exact h
  | cons x l ih => exact ih (hf p x h)

theorem busOk_iter {f : Nat → State → State} (n : Nat) (hf : ∀ i a, BusOk q a.shb → BusOk q (f i a).shb)
    (h : BusOk q s.shb) : BusOk q (iter n f s).shb :=
  busOk_foldl (List.range n) (fun a i => hf i a) h

/-! ### Triggers -/

theorem lineTrigger_busOk (t : Trigger) (h : BusOk q s.shb) : BusOk q (s.lineTrigger t).shb := by
  obtain ⟨lu, lc, is, ik, ar, ga⟩ := h
  unfold State.lineTrigger
  extract_lets w bus s1 s2
  have on : BusOk q s1.shb := by
    refine ⟨?_, ?_, is, ik, ar, ga⟩
    · simp only [s1, apply_ite List.length, length_setAt, lu, ite_self]
    · simp only [s1, length_setAt, lc]
  have marked : BusOk q s2.shb :=
    busOk_of_frame (State.triggerMark_frame (offBus rfl)
      (State.raise_frame (offBus rfl) (State.count_frame (offBus rfl) same))) on
  exact busOk_ite (busOk_of_frame (State.requestSync_frame (offBus rfl) same) marked) marked

theorem passTrigger_busOk (t : Trigger) (h : BusOk q s.shb) : BusOk q (s.passTrigger t).shb :=
  busOk_of_frame (State.unitTrigger_frame (offBus rfl) same) (lineTrigger_busOk t h)

theorem issueLine_busOk (line : Nat) (ts : List Trigger) (h : BusOk q s.shb) : BusOk q (s.issueLine line ts).1.shb := by
  unfold State.issueLine
  split
  · exact h
  · split
    · exact h
    · split
      · exact busOk_of_frame (State.countN_frame (offBus rfl) same) h
      · extract_lets t1 bus s1 s2
        have noted : BusOk q s1.shb := ⟨h.1, h.2, h.3, h.4, h.5, h.6⟩
        have sent : BusOk q s2.shb :=
          busOk_ite noted (busOk_of_frame (State.sendBoth_frame (offBus rfl) same) noted)
        split
        · exact busOk_of_frame (State.ownTrigger_frame (offBus rfl) same) sent
        · exact lineTrigger_busOk t1 (busOk_of_frame (State.countN_frame (offBus rfl) same) sent)

theorem issue_busOk (ts : List Trigger) (h : BusOk q s.shb) : BusOk q (s.issue ts).shb :=
  busOk_foldl _ (fun _ _ => busOk_of_frame (State.unitTrigger_frame (offBus rfl) same))
    (busOk_foldl_fst (List.range 16) (fun _ _ => issueLine_busOk _ _) h)

theorem gatherTrig_busOk (t : Trigger) (h : BusOk q s.shb) : BusOk False (s.gatherTrig t).shb :=
  { h with gathered := False.elim }

/-- What is gathered reaches the lines, and nothing is left gathered. -/
theorem flushTrig_busOk (h : BusOk q s.shb) : BusOk True s.flushTrig.shb :=
  issue_busOk s.shb.gather { h with gathered := fun _ => rfl }

end Sys2Proof.Machine
end

section
/-!
The bus invariant through the shutter inputs, the output lines, the schedulers and the host triggers.
-/

namespace Sys2Proof.Machine

open Sys2Proof.Claims

variable {q : Prop} {s t : State}

/-! ### Inputs -/

theorem inputEdge_busOk (e : ShutEdge) (h : BusOk q s.shb) : BusOk q (s.inputEdge e).1.shb := by
  obtain ⟨lu, lc, is, ik, ar, ga⟩ := h
  unfold State.inputEdge
  extract_lets n cfg on was stuck bus s1
  have seen : BusOk q s1.shb := by
    refine ⟨lu, lc, ?_, ?_, ar, ga⟩
    · simp only [s1, length_setAt, is]
    · simp only [s1, apply_ite List.length, length_setAt, ik, ite_self]
  split <;> exact seen

theorem opShutInEdge_busOk (edges : List ShutEdge) (h : BusOk q s.shb) : BusOk q (opShutInEdge edges s).shb :=
  issue_busOk _ (busOk_foldl_fst edges (fun _ _ => inputEdge_busOk _) h)

theorem opShutInStuck_busOk (n : Nat) (h : BusOk q s.shb) : BusOk q (opShutInStuck n s).shb := by
  have stuck : BusOk q { s.shb with inStuck := setAt s.shb.inStuck n true } :=
    { h with inStuck := (length_setAt _ _ _).trans h.inStuck }
  exact busOk_ite (busOk_of_frame (State.raise_frame (offBus rfl)
    (State.err_frame (offBus rfl) (State.count_frame (offBus rfl) same))) stuck) h

theorem lineUntil_busOk (n : Nat) (v : Time) (h : BusOk q s.shb) :
    BusOk q { s.shb with lineUntil := setAt s.shb.lineUntil n v } :=
  { h with lineUntil := (length_setAt _ _ _).trans h.lineUntil }

theorem opLineExpiry_busOk (n : Nat) (h : BusOk q s.shb) : BusOk q (opLineExpiry n s).shb :=
  busOk_ite h (lineUntil_busOk n 0 h)

theorem inputConfig_busOk (n : Nat) (v : Word) (h : BusOk q s.shb) : BusOk q (s.inputConfig n v).shb :=
  { h with inState := (length_setAt _ _ _).trans h.inState }

theorem lineConfig_busOk (n : Nat) (v : Word) (h : BusOk q s.shb) : BusOk q (s.lineConfig n v).shb :=
  busOk_ite h (lineUntil_busOk n 0 h)

/-! ### Schedulers and host triggers -/

theorem armed_busOk (k : Nat) (b : Bool) (h : BusOk q s.shb) : BusOk q { s.shb with armed := setAt s.shb.armed k b } :=
  { h with armed := (length_setAt _ _ _).trans h.armed }

theorem schedIssue_busOk (k steps : Nat) (h : BusOk q s.shb) : BusOk q (s.schedIssue k steps).shb := by
  unfold State.schedIssue
  extract_lets v per line t s1 bus s2
  have counted : BusOk q s1.shb := busOk_ite h (busOk_of_frame (State.wr_frame (offBus rfl) same) h)
  exact issue_busOk _ (busOk_ite (armed_busOk k false counted)
    (busOk_of_frame (State.wr_frame (offBus rfl) same) counted))

theorem schedLate_busOk (k : Nat) (h : BusOk q s.shb) : BusOk q (s.schedLate k).shb :=
  busOk_ite (schedIssue_busOk k _ h) h

theorem schedAtSet_busOk (k : Nat) (h : BusOk q s.shb) : BusOk q (s.schedAtSet k).shb :=
  schedLate_busOk k (armed_busOk k true h)

theorem schedCfgSet_busOk (k : Nat) (old : Word) (h : BusOk q s.shb) : BusOk q (s.schedCfgSet k old).shb := by
  unfold State.schedCfgSet
  extract_lets w rise chg s1 bus
  have loaded : BusOk q s1.shb := busOk_ite (busOk_of_frame (State.wr_frame (offBus rfl) same) h) h
  exact busOk_ite (schedLate_busOk k (armed_busOk k true loaded)) loaded

theorem startScheds_busOk (h : BusOk q s.shb) : BusOk q s.startScheds.shb :=
  busOk_iter 8 (fun k _ => schedCfgSet_busOk k 0) { h with armed := List.length_replicate }

theorem opSchedulerFire_busOk (k : Nat) (h : BusOk q s.shb) : BusOk q (opSchedulerFire k s).shb :=
  busOk_ite (schedIssue_busOk k 1 h) h

theorem opShbTrig_busOk (x line : Nat) (useAt : Bool) (h : BusOk q s.shb) : BusOk q (opShbTrig x line useAt s).shb :=
  busOk_ite (issue_busOk _ h) (busOk_ite (issue_busOk _ h) ⟨h.1, h.2, h.3, h.4, h.5, h.6⟩)

theorem opCmdAtReached_busOk (h : BusOk q s.shb) : BusOk q (opCmdAtReached s).shb :=
  issue_busOk _ ⟨h.1, h.2, h.3, h.4, h.5, h.6⟩

end Sys2Proof.Machine
end

section
/-!
The bus invariant through the comparators and the results of a channel, which gather the triggers of what they find.
-/

namespace Sys2Proof.Machine

open Sys2Proof.Claims

variable {q : Prop} {s t : State}

/-! ### Filter chains -/

theorem thresholds_busOk (c : Nat) (y : Word) (inst : Time) (h : BusOk False s.shb) :
    BusOk False (s.thresholds c y inst).shb := by
  unfold State.thresholds
  extract_lets cfg hys one
  have one_busOk : ∀ a b, BusOk False a.shb → BusOk False (one a b).shb := by
    intro a b ha
    have set (x : ChainCh) : BusOk False (a.setChain c x).shb :=
      busOk_of_frame (State.setChain_frame (offBus rfl) same) ha
    exact busOk_ite ha (busOk_ite
      (busOk_of_frame (State.raise_frame (offBus rfl) (State.count_frame (offBus rfl) same))
        (gatherTrig_busOk _ (set _))) (set _))
  exact one_busOk _ true (one_busOk s false h)

theorem chainOut_busOk (c : Nat) (x : Int) (sum : TagSum) (k : Nat) (inst0 : Time) (per : Nat) (h : BusOk False s.shb) :
    BusOk False (s.chainOut c x sum k inst0 per).shb := by
  have filtered : BusOk False (s.stages34 c x).2.shb := busOk_of_frame (State.stages34_frame (offBus rfl) same) h
  unfold State.chainOut
  extract_lets M H span dc inst further
  generalize s.stages34 c x = r at filtered ⊢
  obtain ⟨y4, s⟩ := r
  dsimp -zeta only
  extract_lets xv l t y osc q big fin ch settleTo settling base clamped res tag sub w ch1 s1 s2 nonfinite s3 s4 x4 s5 s6
  have set : BusOk False s1.shb := busOk_of_frame (State.setChain_frame (offBus rfl) same) filtered
  have latched : BusOk False s2.shb := by
    simp only [s2]
    generalize t = latch
    cases latch with
    | some _ => exact busOk_of_frame (State.wr_frame (offBus rfl) same) set
    | none => exact set
  have counted : BusOk False s3.shb :=
    busOk_ite
      (busOk_of_frame (State.raise_frame (offBus rfl) (State.count_frame (offBus rfl) same))
        (busOk_ite (busOk_of_frame (State.err_frame (offBus rfl) same) latched) latched))
      (busOk_ite (busOk_of_frame (State.count_frame (offBus rfl) same) latched) latched)
  have compared : BusOk False s4.shb :=
    busOk_ite (busOk_of_frame (State.ramanRef_frame (offBus rfl) same) (thresholds_busOk c y inst counted)) counted
  exact busOk_of_frame (State.tapChain_frame (offBus rfl)
    (State.addEnv_frame (offBus rfl) (State.addSample_frame (offBus rfl)
    (State.coreSample_frame (offBus rfl) (State.wr_frame (offBus rfl) same))))) compared

theorem halfBands_busOk (c k : Nat) (inst0 : Time) (per left i n : Nat) (x : Int) (sum : TagSum)
    (h : BusOk False s.shb) : BusOk False (s.halfBands c k inst0 per left i n x sum).shb := by
  induction left generalizing s i n x sum with
  | zero => exact chainOut_busOk c x sum k inst0 per h
  | succ left ih =>
    unfold State.halfBands
    extract_lets ch hist full h23 hb s1 y ys s2
    have kept : BusOk False s1.shb :=
      busOk_of_frame (State.setChain_frame (offBus rfl) same)
        (busOk_ite (busOk_of_frame (State.fresh_frame (offBus rfl) same) h) h)
    exact busOk_ite kept (ih _ _ _ _ (busOk_ite kept (busOk_of_frame (State.count_frame (offBus rfl) same) kept)))

theorem chainIn_busOk (c k k0 : Nat) (inst : Time) (per : Nat) (v : Int) (tag sub rem : Nat) (h : BusOk False s.shb) :
    BusOk False (s.chainIn c k k0 inst per v tag sub rem).shb := by
  unfold State.chainIn
  extract_lets ch subst val M sum box s1 s2
  have summed : BusOk False s1.shb := busOk_of_frame (State.setChain_frame (offBus rfl) same) h
  exact busOk_ite h (busOk_ite summed (halfBands_busOk _ _ _ _ _ _ _ _ _
    (busOk_of_frame (State.setChain_frame (offBus rfl) same) summed)))

/-! ### Field channels -/

theorem setCmp_busOk (i : Nat) (v : Bool) (inst : Time) (h : BusOk False s.shb) :
    BusOk False (s.setCmp i v inst).shb := by
  unfold State.setCmp
  extract_lets n w x s1 s2 s3
  have shown : BusOk False s2.shb :=
    busOk_of_frame (State.wr_frame (offBus rfl) (State.wr_frame (offBus rfl) (State.setFch_frame (offBus rfl) same))) h
  have raised : BusOk False s3.shb := busOk_of_frame
    (State.raise_frame (offBus rfl) (State.raise_frame (offBus rfl) same)) shown
  exact busOk_ite h (busOk_ite shown (busOk_ite (gatherTrig_busOk _ raised) raised))

theorem cmpStep_busOk (n : Nat) (inst : Time) (h : BusOk False s.shb) : BusOk False (s.cmpStep n inst).shb :=
  busOk_of_frame (State.wf_frame (offBus rfl) same) (setCmp_busOk _ _ inst (setCmp_busOk _ _ inst h))

theorem cmpRefresh_busOk (n : Nat) (inst : Time) (h : BusOk False s.shb) : BusOk False (s.cmpRefresh n inst).shb :=
  busOk_of_frame (State.tswUpdate_frame (offBus rfl) same) (cmpStep_busOk n inst h)

theorem latchOpen_busOk (n bits : Nat) (test : Option Nat) (h : BusOk False s.shb) :
    BusOk False (s.latchOpen n bits test).shb :=
  busOk_ite (busOk_of_frame (State.showGood_frame (offBus rfl) (State.setFch_frame (offBus rfl) same)) h)
    (cmpRefresh_busOk _ _ (busOk_of_frame (State.raise_frame (offBus rfl)
      (State.raise_frame (offBus rfl) (State.err_frame (offBus rfl)
      (State.count_frame (offBus rfl) (State.mapBit_frame (offBus rfl)
        (State.showGood_frame (offBus rfl) (State.wf_frame (offBus rfl)
        (State.setFch_frame (offBus rfl) (State.cmpKeep_frame (offBus rfl) same))))))))) h))

theorem latchShort_busOk (n bits : Nat) (h : BusOk False s.shb) : BusOk False (s.latchShort n bits).shb :=
  busOk_ite (busOk_of_frame (State.showGood_frame (offBus rfl) (State.setFch_frame (offBus rfl) same)) h)
    (cmpRefresh_busOk _ _ (busOk_of_frame (State.raise_frame (offBus rfl)
      (State.raise_frame (offBus rfl) (State.err_frame (offBus rfl)
      (State.count_frame (offBus rfl) (State.mapBit_frame (offBus rfl)
        (State.showGood_frame (offBus rfl) (State.wf_frame (offBus rfl)
        (State.setFch_frame (offBus rfl) (State.cmpKeep_frame (offBus rfl) same))))))))) h))

theorem clearOpen_busOk (n : Nat) (h : BusOk False s.shb) : BusOk False (s.clearOpen n).shb :=
  cmpRefresh_busOk _ _ (busOk_of_frame (State.mapBit_frame (offBus rfl)
    (State.wf_frame (offBus rfl) (State.setFch_frame (offBus rfl) same))) h)

theorem clearShort_busOk (n : Nat) (h : BusOk False s.shb) : BusOk False (s.clearShort n).shb :=
  cmpRefresh_busOk _ _ (busOk_of_frame (State.mapBit_frame (offBus rfl)
    (State.wf_frame (offBus rfl) (State.setFch_frame (offBus rfl) same))) h)

theorem goodTick_busOk (n : Nat) (h : BusOk False s.shb) : BusOk False (s.goodTick n).shb := by
  unfold State.goodTick
  extract_lets x gO gS s1 s2
  have counted : BusOk False s1.shb := busOk_of_frame (State.setFch_frame (offBus rfl) same) h
  have opened : BusOk False s2.shb := busOk_ite (clearOpen_busOk n counted) counted
  exact busOk_ite h (busOk_of_frame (State.showGood_frame (offBus rfl) same)
    (busOk_ite (clearShort_busOk n opened) opened))

theorem passResult_busOk (n k : Nat) (inst : Time) (code : Int) (r tag sub rem : Nat) (h : BusOk False s.shb) :
    BusOk False (s.passResult n k inst code r tag sub rem).shb := by
  unfold State.passResult
  extract_lets val last ovf st st1 pai s0 s1 s2 s3 ch s4
  have told : BusOk False s0.shb := busOk_ite h h
  have shown : BusOk False s1.shb :=
    busOk_of_frame (State.mapBit_frame (offBus rfl)
      (State.wr_frame (offBus rfl) (State.wr_frame (offBus rfl) same))) told
  have raised : BusOk False s2.shb := busOk_ite (busOk_of_frame (State.raise_frame (offBus rfl) same) shown) shown
  have counted : BusOk False s3.shb := busOk_ite (busOk_of_frame (State.count_frame (offBus rfl) same) raised) raised
  have held : BusOk False s4.shb := busOk_ite (busOk_of_frame (State.setFch_frame (offBus rfl) same) counted) counted
  exact chainIn_busOk _ _ _ _ _ _ _ _ _ (busOk_of_frame (State.autorange_frame (offBus rfl) same) held)

theorem passChannel_busOk (n k : Nat) (inst : Time) (h : BusOk False s.shb) :
    BusOk False (s.passChannel n k inst).shb := by
  unfold State.passChannel
  extract_lets s' x c out cal s1 rem
  have ticked : BusOk False s'.shb := goodTick_busOk n h
  have settled : BusOk False s1.shb := busOk_of_frame (State.setFch_frame (offBus rfl) same) ticked
  have passes (code : Int) (r tag sub rem : Nat) := passResult_busOk n k inst code r tag sub rem settled
  split
  · exact ticked
  · extract_lets v
    iterate 7 refine busOk_ite (passes _ _ _ _ _) ?_
    exact passes _ _ _ _ _

end Sys2Proof.Machine
end

section
/-!
The bus invariant through the holds of the field chain, the reports of the nodes and the updates of a point.
-/

namespace Sys2Proof.Machine

open Sys2Proof.Claims

variable {q : Prop} {s t : State}

theorem holdChannel_busOk (n k : Nat) (o : Option WireObs) (h : BusOk False s.shb) :
    BusOk False (s.holdChannel n k o).shb := by
  unfold State.holdChannel
  extract_lets x c ovf loop i ohm term limit test leads sens s1 s2
  have seen : BusOk False s1.shb := busOk_of_frame (State.setFch_frame (offBus rfl) same) h
  have opened : BusOk False s2.shb :=
    busOk_ite (latchOpen_busOk n _ _ seen) (busOk_ite (latchOpen_busOk n _ _ seen) seen)
  exact busOk_ite (latchShort_busOk n _ opened) opened

theorem bandBoundary_busOk (h : BusOk False s.shb) : BusOk False s.bandBoundary.shb := by
  unfold State.bandBoundary
  split
  · refine busOk_ite (busOk_of_frame (State.tswUpdate_frame (offBus rfl) same) ?_) h
    refine busOk_iter 64 (fun n a ha => busOk_ite ha (cmpStep_busOk n _ ha)) ?_
    exact busOk_of_frame (State.raise_frame (offBus rfl) (State.countMod_frame (offBus rfl)
      (State.wf_frame (offBus rfl) (State.wf_frame (offBus rfl) same)))) h
  · exact h

theorem fieldPass_busOk (h : BusOk False s.shb) : BusOk False s.fieldPass.shb := by
  unfold State.fieldPass
  split
  · exact h
  · exact busOk_ite h (busOk_of_frame (State.tapField_frame (offBus rfl) same)
      (busOk_foldl _ (fun _ n => passChannel_busOk n _ _) h))

theorem fieldHold_busOk (obs : List WireObs) (h : BusOk False s.shb) : BusOk False (s.fieldHold obs).shb := by
  unfold State.fieldHold
  extract_lets k used s2 s3
  have due : BusOk False s2.shb :=
    busOk_foldl used (fun _ _ => busOk_of_frame (State.dueRange_frame (offBus rfl) same))
      (busOk_of_frame (State.calSettle_frame (offBus rfl) same) h)
  have held : BusOk False s3.shb := busOk_ite due (busOk_foldl used (fun _ n => holdChannel_busOk n k _) due)
  exact busOk_of_frame (State.wf_frame (offBus rfl) (State.wr_frame (offBus rfl) same)) held

theorem opCompliance_busOk (n : Nat) (o : LoopObs) (h : BusOk False s.shb) : BusOk False (opCompliance n o s).shb :=
  busOk_ite h (latchOpen_busOk n 1 none (busOk_of_frame (State.setFch_frame (offBus rfl) same) h))

theorem startHold_busOk (n mode : Nat) (h : BusOk False s.shb) : BusOk False (s.startHold n mode).shb :=
  cmpStep_busOk n _ (busOk_of_frame
    (State.wf_frame (offBus rfl) (State.setFch_frame (offBus rfl) (State.cmpKeep_frame (offBus rfl) same))) h)

theorem opStartHoldEnd_busOk (h : BusOk False s.shb) : BusOk False (opStartHoldEnd s).shb := by
  refine busOk_of_frame (State.tswUpdate_frame (offBus rfl) (State.wf_frame (offBus rfl) same))
    (busOk_iter 64 (fun n a ha => ?_) h)
  exact busOk_ite (cmpStep_busOk n _ (busOk_of_frame (State.setFch_frame (offBus rfl) same) ha)) ha

theorem opCrossing_busOk (n : Nat) (v : Int) (h : BusOk False s.shb) : BusOk False (opCrossing n v s).shb :=
  cmpRefresh_busOk n _ (busOk_of_frame (State.setFch_frame (offBus rfl) same) h)

theorem exciteChannel_busOk (n mode : Nat) (h : BusOk False s.shb) : BusOk False (s.exciteChannel n mode).shb :=
  busOk_ite h (busOk_of_frame (State.settleExc_frame (offBus rfl) same) (busOk_ite h (startHold_busOk n mode h)))

theorem exciteAll_busOk (h : BusOk False s.shb) : BusOk False s.exciteAll.shb :=
  busOk_of_frame (State.tswUpdate_frame (offBus rfl) same) (busOk_iter 64 (fun n _ => exciteChannel_busOk n 2) h)

theorem startField_busOk (n : Nat) (lim : Int) (h : BusOk False s.shb) : BusOk False (s.startField n lim).shb :=
  busOk_ite (busOk_of_frame (State.setFch_frame (offBus rfl) same) h)
    (cmpStep_busOk n _ (exciteChannel_busOk n 1
      (busOk_of_frame (State.wf_frame (offBus rfl) (State.setFch_frame (offBus rfl) same)) h)))

/-! ### Node chains -/

theorem nodeSample_busOk (n j k spf : Nat) (w : Word) (h : BusOk False s.shb) :
    BusOk False (s.nodeSample n j k spf w).shb := by
  unfold State.nodeSample
  extract_lets P x tag left v sub per inst
  split
  exact chainIn_busOk _ _ _ _ _ _ _ _ _ (busOk_of_frame (State.setPort_frame (offBus rfl) same) h)

theorem nodeWords_busOk (n j : Nat) (ws : List Word) (h : BusOk False s.shb) :
    BusOk False (s.nodeWords n j ws).shb := by
  unfold State.nodeWords
  extract_lets b ch a
  have synced : BusOk False a.shb := by
    simp only [a]
    split
    · exact busOk_ite (busOk_of_frame (State.setChain_frame (offBus rfl)
      (State.resyncChain_frame (offBus rfl) same)) h) h
    · exact h
  exact busOk_ite synced (busOk_foldl _ (fun _ _ => nodeSample_busOk _ _ _ _ _) synced)

theorem linkUpTo_busOk (P c j : Nat) (h : BusOk False s.shb) : BusOk False (s.linkUpTo P c j).shb := by
  unfold State.linkUpTo
  refine busOk_of_frame (State.onPort_frame (offBus rfl) same) (busOk_iter _ (fun i a ha => ?_) h)
  exact busOk_of_frame (State.forwardNode_frame (offBus rfl) same) (nodeWords_busOk _ _ _ ha)

theorem slotIn_busOk (P c j : Nat) (ws : Option (List Word)) (h : BusOk False s.shb) :
    BusOk False (s.slotIn P c j ws).shb :=
  busOk_ite (linkUpTo_busOk P c j h) (busOk_of_frame
    (State.onPort_frame (offBus rfl) (State.forwardNode_frame (offBus rfl) same))
    (nodeWords_busOk _ j _ (linkUpTo_busOk P c j h)))

theorem slotFrom_busOk (p P c j : Nat) (ws : Option (List Word)) (h : BusOk False s.shb) :
    BusOk False (s.slotFrom p P c j ws).shb :=
  busOk_ite (slotIn_busOk P c j ws h) (busOk_ite h (busOk_of_frame (State.sendTether_frame (offBus rfl) same) h))

theorem linkFrame_busOk (p j : Nat) (h : BusOk False s.shb) : BusOk False (s.linkFrame p j).shb :=
  busOk_iter 32 (fun c _ ha => busOk_ite (slotFrom_busOk p _ c j none ha) ha) h

theorem farLate_busOk (P j : Nat) (h : BusOk False s.shb) : BusOk False (s.farLate P j).shb :=
  busOk_ite h (busOk_iter 32 (fun c _ ha => busOk_ite (linkUpTo_busOk P c _ ha) ha) h)

theorem farWords_busOk (n j : Nat) (ws : List Word) (h : BusOk False s.shb) : BusOk False (s.farWords n j ws).shb :=
  busOk_ite h (slotIn_busOk _ _ j _ h)

theorem takeBlocks_busOk (p j : Nat) (f : UpFrame) (h : BusOk False s.shb) : BusOk False (s.takeBlocks p j f).shb := by
  unfold State.takeBlocks
  extract_lets P
  refine busOk_iter 32 (fun c a ha => ?_) h
  extract_lets nd n blk failed a1 running
  have counted : BusOk False a1.shb := busOk_ite (busOk_of_frame (State.count_frame (offBus rfl) same) ha) ha
  refine busOk_ite ha (busOk_ite (slotFrom_busOk p P c j none counted) ?_)
  generalize blk = words
  cases words with
  | none => exact slotFrom_busOk p P c j none counted
  | some ws => exact slotFrom_busOk p P c j _ (busOk_of_frame (State.countN_frame (offBus rfl) same) counted)

theorem takeEvents_busOk (P n : Nat) (es : List NodeEvent) (h : BusOk False s.shb) :
    BusOk False (s.takeEvents P n es).shb :=
  busOk_foldl es (fun _ _ ha => busOk_ite ha (gatherTrig_busOk _ ha)) h

theorem frameDone_busOk (p n : Nat) (h : BusOk False s.shb) : BusOk False (s.frameDone p n).shb := by
  have ended : BusOk False (s.statusEnd p n).shb := busOk_of_frame (State.statusEnd_frame (offBus rfl) same) h
  exact busOk_ite h (busOk_ite (farLate_busOk p _ ended) ended)

theorem opDsofSend_busOk (p : Nat) (h : BusOk False s.shb) : BusOk False (opDsofSend p s).shb := by
  unfold opDsofSend
  extract_lets P SF low n s1 x meas head lines
  refine busOk_ite h ?_
  split
  next cmd x1 _ =>
    extract_lets starts cmd1 x2 x3 s2 s3 slot s4
    have placed : BusOk False s2.shb :=
      busOk_of_frame (State.setPort_frame (offBus rfl) same) (busOk_of_frame (State.advance_frame (offBus rfl) same) h)
    have started : BusOk False s3.shb := busOk_ite (busOk_of_frame (State.setDrp_frame (offBus rfl) same) placed) placed
    have sent : BusOk False s4.shb := busOk_of_frame (State.emitOut_frame (offBus rfl) same) started
    exact busOk_ite (linkFrame_busOk p _ sent) sent

theorem opUpstreamFrame_busOk (p : Nat) (f : UpFrame) (h : BusOk False s.shb) :
    BusOk False (opUpstreamFrame p f s).shb := by
  unfold opUpstreamFrame
  extract_lets s' P valid
  have counted : BusOk False s'.shb := busOk_of_frame (State.countN_frame (offBus rfl) same) h
  split
  case h_1 => exact counted
  case h_2 n _ =>
    extract_lets s1 rt near linked x first good s2 s3 s5 s4
    have noted : BusOk False s1.shb := busOk_of_frame (State.onPort_frame (offBus rfl) same) counted
    have timed : BusOk False s2.shb := busOk_of_frame (State.onPort_frame (offBus rfl) same) noted
    have linked_busOk (a : State) (ha : BusOk False a.shb) : BusOk False (linked a).shb :=
      busOk_ite (linkFrame_busOk p _ ha) ha
    have taken : BusOk False s3.shb :=
      takeEvents_busOk P n _ (busOk_of_frame (State.takeStatus_frame (offBus rfl)
        (State.takeReply_frame (offBus rfl) same)) timed)
    have placed : BusOk False s5.shb := busOk_of_frame (State.wr_frame (offBus rfl) same) taken
    have served : BusOk False s4.shb :=
      busOk_ite (busOk_ite (busOk_of_frame (State.relock_frame (offBus rfl) same) (linked_busOk _ taken))
        (linked_busOk _ taken))
        (busOk_ite (busOk_ite (takeBlocks_busOk p _ f placed) placed) taken)
    have invalid : BusOk False (if 4 ≤ f.bad ∨ s1.drpState p ≠ 2 then s1.enterLink p else s1).shb :=
      busOk_ite (busOk_of_frame (State.enterLink_frame (offBus rfl) same) noted) noted
    have trained : BusOk False (if 2 ≤ good then s2.onPort p (fun y => y.assign 1) else s2).shb :=
      busOk_ite (busOk_of_frame (State.onPort_frame (offBus rfl) same) timed) timed
    exact busOk_ite counted (busOk_ite (frameDone_busOk p n (linked_busOk _ invalid))
      (busOk_ite (frameDone_busOk p n trained) (frameDone_busOk p n served)))

theorem opUsofMissing_busOk (p bad : Nat) (h : BusOk False s.shb) : BusOk False (opUsofMissing p bad s).shb := by
  unfold opUsofMissing
  extract_lets s' x
  have counted : BusOk False s'.shb := busOk_of_frame (State.countN_frame (offBus rfl) same) h
  refine busOk_ite h ?_
  split
  · exact counted
  · extract_lets n s1
    have linked : BusOk False s1.shb :=
      busOk_of_frame (State.enterLink_frame (offBus rfl) (State.onPort_frame (offBus rfl) same)) counted
    exact frameDone_busOk p n (busOk_ite (linkFrame_busOk p _ linked) linked)

/-! ### Zones and points -/

theorem zoneInterval_busOk (z : Zone) (h : BusOk False s.shb) : BusOk False (s.zoneInterval z).shb := by
  unfold State.zoneInterval
  extract_lets f st pay item s1 s2 v
  have made : BusOk False s1.shb :=
    busOk_ite (busOk_of_frame (State.countMod_frame (offBus rfl) (State.emit_frame (offBus rfl) same)) h) h
  have reported : BusOk False s2.shb :=
    busOk_ite (busOk_of_frame (State.raise_frame (offBus rfl) same)
      (busOk_ite made (busOk_of_frame (State.err_frame (offBus rfl) same) made))) made
  split
  extract_lets on s3
  have set (x : ZoneSt) : BusOk False (s2.setZst z.z x).shb :=
    busOk_of_frame (State.setZst_frame (offBus rfl) same) reported
  have tested : BusOk False s3.shb :=
    busOk_ite (busOk_of_frame (State.raise_frame (offBus rfl) (State.count_frame (offBus rfl) same))
      (gatherTrig_busOk _ (set _)))
      (busOk_ite (set _) reported)
  exact busOk_ite (busOk_of_frame (State.handZone_frame (offBus rfl) same) tested) tested

theorem zonePoint_busOk (z : Zone) (p : Nat) (h : BusOk False s.shb) : BusOk False (s.zonePoint z p).shb := by
  unfold State.zonePoint
  extract_lets st f0 f a fib ivl
  split
  extract_lets on sets hot seen st1 s1 s2 c s3
  have noted : BusOk False s1.shb := busOk_of_frame (State.setZst_frame (offBus rfl) same) h
  have tested : BusOk False s2.shb :=
    busOk_ite (busOk_of_frame (State.raise_frame (offBus rfl) (State.count_frame (offBus rfl) same))
      (gatherTrig_busOk _ noted)) noted
  have counted : BusOk False s3.shb := busOk_of_frame (State.setZst_frame (offBus rfl) same) tested
  exact busOk_ite (busOk_ite (zoneInterval_busOk z counted) counted) tested

theorem afterWrite_busOk (p : Nat) (h : BusOk False s.shb) : BusOk False (s.afterWrite p).shb :=
  busOk_of_frame (State.matchPoint_frame (offBus rfl)
    (State.tapFibre_frame (offBus rfl) (State.contactSheets_frame (offBus rfl)
    (State.phaseBlocks_frame (offBus rfl) same)))) (busOk_foldl _ (fun _ z => zonePoint_busOk z p) h)

theorem updatePoint_busOk (p : Nat) (new : List RawSample) (ecc : PssRead) (h : BusOk False s.shb) :
    BusOk False (s.updatePoint p new ecc).shb := by
  unfold State.updatePoint
  extract_lets s0 f0 dim fib s1 sated s1a s2 s3 forced r0 o fade r1 own r2 s4 f4 fib' s5 s6 s7
  have begun : BusOk False s0.shb := busOk_of_frame (State.advance_frame (offBus rfl) same) h
  have flagged : BusOk False s1a.shb := busOk_ite (busOk_of_frame (State.onShotAcc_frame (offBus rfl) same) begun) begun
  have run : BusOk False s2.shb := busOk_foldl _ (fun _ _ => busOk_of_frame
    (State.runSlot_frame (offBus rfl) same)) flagged
  have updated : BusOk False s4.shb :=
    busOk_of_frame (State.onShotAcc_frame (offBus rfl)
      (State.noisePoint_frame (offBus rfl) (State.setPoint_frame (offBus rfl)
      (State.pssRead_frame (offBus rfl) same)))) run
  have counted : BusOk False s6.shb := busOk_ite (busOk_of_frame (State.count_frame (offBus rfl) same) updated) updated
  have written : BusOk False s7.shb :=
    busOk_of_frame (State.feedPoint_frame (offBus rfl) same)
      (afterWrite_busOk p (busOk_ite (busOk_of_frame (State.countFade_frame (offBus rfl) same) counted) counted))
  exact busOk_ite h (busOk_ite (busOk_of_frame (State.fibreEnd_frame (offBus rfl) same) written) written)

theorem withOld_busOk {f : State → State} (hf : ∀ a, BusOk q a.shb → BusOk q (f a).shb) (h : BusOk q s.shb) :
    BusOk q (s.withOld f).shb :=
  busOk_ite (hf s h) (busOk_of_frame (State.wrAll_frame (offBus rfl) same)
    (hf _ (busOk_of_frame (State.wrAll_frame (offBus rfl) same) h)))

theorem withRun_busOk (j : Nat) {f : State → State} (hf : ∀ a, BusOk q a.shb → BusOk q (f a).shb) (h : BusOk q s.shb) :
    BusOk q (s.withRun j f).shb := by
  unfold State.withRun
  split
  · exact withOld_busOk hf h
  · exact busOk_ite (withOld_busOk hf h) h

theorem opPointUpdate_busOk (j p : Nat) (new : List RawSample) (ecc : PssRead) (h : BusOk False s.shb) :
    BusOk False (opPointUpdate j p new ecc s).shb :=
  busOk_of_frame (State.digestCompare_frame (offBus rfl) same)
    (withRun_busOk j (fun _ => updatePoint_busOk p new ecc) h)

theorem completeFed_busOk (h : BusOk False s.shb) : BusOk False s.completeFed.shb :=
  busOk_foldl _ (fun _ r => busOk_iter _ (fun p _ => withRun_busOk r.slot (fun _ => updatePoint_busOk p [] .clean))) h

end Sys2Proof.Machine
end

section
/-!
The bus invariant through resets, changes of role, plans and the boundaries of the schedule.
-/

namespace Sys2Proof.Machine

open Sys2Proof.Claims

variable {q : Prop} {s t : State}

/-! ### Resets -/

theorem fullReset_busOk (s : State) (cause block : Nat) : BusOk q (s.fullReset cause block).shb := by
  unfold State.fullReset
  extract_lets l0 l r
  have reset : BusOk q r.shb := ⟨rfl, rfl, rfl, rfl, rfl, fun _ => rfl⟩
  exact busOk_of_frame (State.wr_frame (offBus rfl) (State.wr_frame (offBus rfl) same)) reset

theorem holdReset_busOk (cause : Nat) (h : BusOk q s.shb) : BusOk q (s.holdReset cause).shb :=
  busOk_ite h (busOk_ite (busOk_of_frame (State.wr_frame (offBus rfl) same) h) (fullReset_busOk s cause 0))

theorem opRailOut_busOk (rails : Nat) (h : BusOk q s.shb) : BusOk q (opRailOut rails s).shb :=
  busOk_ite h (busOk_of_frame (State.wr_frame (offBus rfl) same) (holdReset_busOk _ h))

theorem opResetLow_busOk (h : BusOk q s.shb) : BusOk q (opResetLow s).shb := holdReset_busOk 3 h

theorem opMonitorMiss_busOk (f : MonFn) (inst : Nat) (h : BusOk q s.shb) : BusOk q (opMonitorMiss f inst s).shb :=
  busOk_ite h (fullReset_busOk s 4 _)

theorem opWatchdog_busOk (h : BusOk q s.shb) : BusOk q (opWatchdog s).shb := busOk_ite h (fullReset_busOk s 5 0)

theorem opSysReset_busOk (x : Nat) (h : BusOk q s.shb) : BusOk q (opSysReset x s).shb :=
  busOk_ite (busOk_of_frame (State.err_frame (offBus rfl) same) h) (fullReset_busOk s 6 0)

theorem opReturn_busOk (x : Nat) (h : BusOk q s.shb) : BusOk q (opReturn x s).shb :=
  busOk_ite (busOk_of_frame (State.err_frame (offBus rfl) same) h)
    (busOk_ite (busOk_of_frame (State.clearKeyData_frame (offBus rfl) (State.err_frame (offBus rfl) same)) h)
      (fullReset_busOk _ 7 0))

/-! ### Roles -/

theorem ownTriggers_busOk (h : BusOk q s.shb) : BusOk q s.ownTriggers.shb :=
  busOk_foldl _ (fun _ t => passTrigger_busOk t) h

theorem takeRole_busOk (t : Time) (h : BusOk False s.shb) : BusOk False (s.takeRole t).shb := by
  unfold State.takeRole
  extract_lets s1 s2
  have taken : BusOk False s2.shb :=
    busOk_of_frame (State.wr64_frame (offBus rfl) (State.count_frame (offBus rfl)
      (State.masterChains_frame (offBus rfl) same)))
      (exciteAll_busOk (busOk_of_frame (State.becomeActive_frame (offBus rfl) same) h))
  exact busOk_of_frame (State.sysMark_frame (offBus rfl) same) taken

theorem handoverBoundary_busOk (h : BusOk False s.shb) : BusOk False s.handoverBoundary.shb := by
  unfold State.handoverBoundary
  split
  case h_1 => exact h
  case h_2 b _ =>
    extract_lets pai s0 s1 s1' pai' s2
    have begun : BusOk False s0.shb := busOk_of_frame (State.wf_frame (offBus rfl) same) h
    have took : BusOk False s1.shb :=
      takeRole_busOk b (busOk_of_frame (State.resumeLanes_frame (offBus rfl) same) begun)
    have gave : BusOk False s1'.shb :=
      busOk_of_frame (State.secondEnds_frame (offBus rfl) (State.swapEnds_frame (offBus rfl) same))
        (busOk_iter 64 (fun n _ => exciteChannel_busOk n 2)
          (busOk_of_frame (State.setRole_frame (offBus rfl) (State.sysMark_frame (offBus rfl) same)) begun))
    exact busOk_ite h (busOk_ite (busOk_of_frame (State.wf_frame (offBus rfl) same) took)
      (busOk_ite (busOk_of_frame (State.wf_frame (offBus rfl) same) gave) begun))

/-! ### Register values and plans -/

theorem setLive_busOk (addr : Nat) (v : Word) (h : BusOk q s.shb) : BusOk q (s.setLive addr v).shb := by
  unfold State.setLive
  extract_lets old s1 page o c u c'
  have written : BusOk q s1.shb := busOk_of_frame (State.wr_frame (offBus rfl) same) h
  refine busOk_ite written (busOk_ite (schedCfgSet_busOk _ old written) (busOk_ite (schedAtSet_busOk _ written)
    (busOk_ite ?node (busOk_ite ?unit (busOk_ite ?field written)))))
  case node => exact busOk_ite written (busOk_of_frame (State.onPort_frame (offBus rfl) same) written)
  case unit =>
    exact busOk_ite (busOk_ite (busOk_of_frame (State.setUnit_frame (offBus rfl) same) written)
      (busOk_of_frame (State.wr_frame (offBus rfl) (State.setUnit_frame (offBus rfl) same)) written)) written
  case field => exact busOk_ite (busOk_of_frame (State.liveRange_frame (offBus rfl) same) written) written

theorem startPlan_busOk (p : Plan) (slot : Nat) (E : Time) (h : BusOk False s.shb) :
    BusOk False (s.startPlan p slot E).shb := by
  unfold State.startPlan
  extract_lets p' s1 pln flt fld fib s2 s3 s4 ch s5 s6 s7 s8 s9 slot' s10 sys s11 sys'
  have installed : BusOk False s1.shb :=
    busOk_of_frame (State.ballastNow_frame (offBus rfl)
      (State.install_frame (offBus rfl) (State.autoUngate_frame (offBus rfl) same))) h
  have cores : BusOk False s3.shb :=
    busOk_iter (s := s2) 16 (fun _ _ => busOk_of_frame (State.loadCore_frame (offBus rfl) same)) installed
  have figures : BusOk False s4.shb :=
    busOk_of_frame (State.startNotch_frame (offBus rfl) (State.showFigures_frame (offBus rfl) same)) cores
  have chains : BusOk False s5.shb :=
    busOk_foldl _ (fun _ _ => busOk_of_frame (State.setChain_frame (offBus rfl) same)) figures
  have fields : BusOk False s6.shb :=
    busOk_of_frame (State.tswUpdate_frame (offBus rfl) same) (busOk_iter 64 (fun n _ => startField_busOk n _) chains)
  have units : BusOk False s7.shb :=
    busOk_iter 32 (fun _ _ ha => busOk_ite ha (busOk_of_frame (State.startUnit_frame (offBus rfl) same) ha)) fields
  have gates : BusOk False s8.shb :=
    busOk_of_frame (State.autoGate_frame (offBus rfl) (State.startChains_frame (offBus rfl) same)) units
  have lasers : BusOk False s9.shb :=
    busOk_ite (busOk_of_frame (State.lasUpdate_frame (offBus rfl) same) gates)
      (busOk_of_frame (State.lasUpdate_frame (offBus rfl)
        (State.startScript_frame (offBus rfl) (State.wf_frame (offBus rfl) same))) gates)
  have mapped : BusOk False s10.shb :=
    busOk_of_frame (State.emitTimeMap_frame (offBus rfl) (State.setSlot_frame (offBus rfl) same)) lasers
  have marked : BusOk False s11.shb := by
    unfold s11
    split
    · exact busOk_of_frame (State.sysMark_frame (offBus rfl) same) mapped
    · exact mapped
  exact busOk_of_frame (State.checkReady_frame (offBus rfl) same) (startScheds_busOk marked)

theorem switchField_busOk (s : State) (h : BusOk False t.shb) : BusOk False (t.switchField s).shb := by
  unfold State.switchField
  extract_lets fld t0
  have begun : BusOk False t0.shb := busOk_of_frame (s := { t with fld := { fld with lastHold := none } })
    (State.wf_frame (offBus rfl) same) h
  refine busOk_iter 64 (fun n a ha => ?_) begun
  extract_lets old new_ a' fld off clear moved b b1 x' x a1 a2 exc
  have written : BusOk False a'.shb := busOk_of_frame (State.wr_frame (offBus rfl) same) ha
  have cleared : BusOk False clear.shb :=
    busOk_of_frame (s := off)
      (State.mapBit_frame (offBus rfl) (State.mapBit_frame (offBus rfl) (State.mapBit_frame (offBus rfl) same))) written
  have started : BusOk False b.shb := startField_busOk n _ cleared
  have settled : BusOk False b1.shb := busOk_ite started
    (busOk_of_frame (State.settleExc_frame (offBus rfl) same) started)
  have ranged : BusOk False a2.shb :=
    busOk_of_frame (State.applyRange_frame (offBus rfl) (State.setFch_frame (offBus rfl) same)) ha
  exact busOk_ite (cmpStep_busOk n _ (busOk_of_frame (State.setFch_frame (offBus rfl) same) settled))
    (busOk_ite ha (cmpStep_busOk n _ (busOk_ite ranged
      (busOk_of_frame (State.settleExc_frame (offBus rfl) same) (exciteChannel_busOk n 1 ranged)))))

theorem switchShutter_busOk (s : State) (h : BusOk q t.shb) : BusOk q (t.switchShutter s).shb := by
  refine startScheds_busOk { h with lineUntil := ?_, inState := ?_ } <;> simp

theorem switchTo_busOk (p0 : Plan) (slot : Nat) (E : Time) (h : BusOk False s.shb) :
    BusOk False (s.switchTo p0 slot E).shb := by
  unfold State.switchTo
  split
  case h_1 => exact h
  case h_2 =>
    extract_lets s' p t mark s1 a0 pln pai a1 a2 a3 a4 a5 a6 a7
    have live : BusOk False s'.shb := busOk_foldl _ (fun _ _ => busOk_of_frame (State.wr_frame (offBus rfl) same)) h
    have ended : BusOk False s1.shb := busOk_of_frame (State.endPlan_frame (offBus rfl) same) live
    have installed : BusOk False a0.shb :=
      busOk_of_frame (State.ballastNow_frame (offBus rfl)
        (State.install_frame (offBus rfl) (State.autoUngate_frame (offBus rfl) same))) ended
    have lanes : BusOk False a2.shb := busOk_of_frame (s := a1) (State.switchLanes_frame (offBus rfl) same) installed
    have marked : BusOk False a3.shb :=
      busOk_foldl _ (fun _ _ => busOk_of_frame (State.push_frame (offBus rfl) same)) lanes
    have cores : BusOk False a4.shb :=
      busOk_of_frame (State.switchCores_frame (offBus rfl) (State.switchChains_frame (offBus rfl)
        (State.switchRaman_frame (offBus rfl) (State.switchFibre_frame (offBus rfl) same)))) marked
    have fields : BusOk False a5.shb :=
      busOk_of_frame (State.tswUpdate_frame (offBus rfl) same)
        (switchField_busOk s' (busOk_of_frame (State.switchBands_frame (offBus rfl) same) cores))
    have ports : BusOk False a6.shb :=
      busOk_of_frame (State.switchPorts_frame (offBus rfl) same)
        (switchShutter_busOk s' (busOk_of_frame (State.switchUnits_frame (offBus rfl) same) fields))
    have figures : BusOk False a7.shb :=
      busOk_of_frame (State.startNotch_frame (offBus rfl) (State.showFigures_frame (offBus rfl) same)) ports
    exact busOk_of_frame (State.switchClose_frame (offBus rfl) (State.switchHead_frame (offBus rfl) same)) figures

theorem startFirst_busOk (l : List Nat) (h : BusOk False s.shb) : BusOk False (s.startFirst l).shb := by
  induction l generalizing s with
  | nil =>
    have dropped : BusOk False s.dropLoad.shb := busOk_of_frame (State.dropLoad_frame (offBus rfl) same) h
    exact busOk_of_frame (State.checkReady_frame (offBus rfl) same) dropped
  | cons i rest ih =>
    exact busOk_ite (startPlan_busOk _ i _ h)
      (ih (busOk_of_frame (State.startFailed_frame (offBus rfl) (State.dropLoad_frame (offBus rfl) same)) h))

theorem opPlanLoadDone_busOk (h : BusOk False s.shb) : BusOk False (opPlanLoadDone s).shb := by
  unfold opPlanLoadDone
  refine busOk_ite h ?_
  split
  · exact startFirst_busOk [] h
  · exact startFirst_busOk _ (busOk_ite h (busOk_of_frame (State.startFailed_frame (offBus rfl) same) h))

theorem opSwitchInstant_busOk (h : BusOk False s.shb) : BusOk False (opSwitchInstant s).shb := by
  unfold opSwitchInstant
  split
  · extract_lets s1 p s2 s3
    have advanced : BusOk False s1.shb := busOk_of_frame (State.advance_frame (offBus rfl) same) h
    split
    · exact busOk_of_frame (State.checkReady_frame (offBus rfl) same) (switchTo_busOk p _ _ advanced)
    · exact busOk_of_frame (State.countMod_frame (offBus rfl)
      (State.wr64_frame (offBus rfl) (State.sysMark_frame (offBus rfl) same)))
        (startPlan_busOk p _ _ advanced)
  · exact h

theorem liveBoundaryApply_busOk (kind : Nat) (t : Time) (sel : LivePend → Bool) (h : BusOk q s.shb) :
    BusOk q (s.liveBoundaryApply kind t sel).shb :=
  busOk_foldl _ (fun _ _ ha => setLive_busOk _ _ (busOk_ite
    (busOk_of_frame (State.keepOld_frame (offBus rfl) same) ha) ha)) h

/-! ### Boundaries -/

theorem mainClose_busOk (h : BusOk False s.shb) : BusOk False s.mainClose.shb :=
  busOk_of_frame (State.parkExchange_frame (offBus rfl)
    (State.pfwBoundary_frame (offBus rfl) (State.parkBoundary_frame (offBus rfl)
    (State.switchBoundary_frame (offBus rfl) same)))) (handoverBoundary_busOk
      (busOk_of_frame (State.gapsBoundary_frame (offBus rfl) (State.budgetBoundary_frame (offBus rfl)
        (State.mapBoundary_frame (offBus rfl) same))) h))

theorem opShotBoundary_busOk (h : BusOk False s.shb) : BusOk False (opShotBoundary s).shb := by
  unfold opShotBoundary
  extract_lets n t s1 s2
  have opened : BusOk False s1.shb :=
    busOk_of_frame (State.matchShot_frame (offBus rfl)
      (State.mainOpen_frame (offBus rfl) (State.advance_frame (offBus rfl) same))) h
  have closed : BusOk False s2.shb :=
    mainClose_busOk (busOk_of_frame (State.zoneBoundary_frame (offBus rfl) same)
      (liveBoundaryApply_busOk 1 _ anyLive opened))
  exact busOk_ite h (busOk_of_frame (State.shotOrNot_frame (offBus rfl)
    (State.setShotNo_frame (offBus rfl) same)) closed)

theorem chainTick_busOk (k : Nat) (t : Time) (h : BusOk False s.shb) : BusOk False (s.chainTick k t).shb := by
  unfold State.chainTick
  extract_lets s1 s2
  have passed : BusOk False s1.shb := fieldPass_busOk (busOk_of_frame (State.latchField_frame (offBus rfl) same) h)
  exact busOk_of_frame (State.notchBoundary_frame (offBus rfl) (State.resyncField_frame (offBus rfl) same))
    (liveBoundaryApply_busOk 2 t chainLive (busOk_of_frame (State.forwardField_frame (offBus rfl) same) passed))

theorem opFieldTick_busOk (obs : List WireObs) (h : BusOk False s.shb) : BusOk False (opFieldTick obs s).shb := by
  unfold opFieldTick
  extract_lets k t main s0 s1 s2 s3 s4 s5 s6 s7
  have advanced : BusOk False s0.shb := busOk_of_frame (State.advance_frame (offBus rfl) same) h
  have opened : BusOk False s1.shb := busOk_ite (busOk_of_frame
    (State.mainOpen_frame (offBus rfl) same) advanced) advanced
  have ticked : BusOk False s2.shb := busOk_ite opened (chainTick_busOk k t opened)
  have banded : BusOk False s4.shb :=
    busOk_of_frame (State.showCoreInj_frame (offBus rfl) (State.showInjected_frame (offBus rfl) same))
      (bandBoundary_busOk (liveBoundaryApply_busOk 2 t _ ticked))
  have closed : BusOk False s5.shb := busOk_ite (mainClose_busOk banded) banded
  have held : BusOk False s6.shb :=
    busOk_ite (fieldHold_busOk obs closed) (busOk_of_frame (State.noHold_frame (offBus rfl) same) closed)
  have shown : BusOk False s7.shb := busOk_of_frame (State.chainSnapshot_frame (offBus rfl) same) held
  exact busOk_ite h shown

theorem staleNodes_busOk (j : Nat) (h : BusOk False s.shb) : BusOk False (s.staleNodes j).shb := by
  unfold State.staleNodes
  refine busOk_ite h (busOk_iter 512 (fun n a ha => ?_) h)
  exact busOk_ite ha (busOk_of_frame (State.onPort_frame (offBus rfl) same)
    (busOk_iter _ (fun _ _ => nodeWords_busOk n _ _) ha))

theorem nodeBoundary_busOk (t : Time) (die : Word) (h : BusOk q s.shb) : BusOk q (s.nodeBoundary t die).shb :=
  busOk_of_frame (State.notchBoundaryN_frame (offBus rfl) same)
    (liveBoundaryApply_busOk 3 t chainLive (busOk_of_frame (State.latchNode_frame (offBus rfl) same) h))

theorem nodeLatch_busOk (t : Time) (h : BusOk q s.shb) : BusOk q (s.nodeLatch t).shb :=
  busOk_ite h (busOk_ite (busOk_of_frame (State.sendLane_frame (offBus rfl) same) (nodeBoundary_busOk t _ h))
    (nodeBoundary_busOk t _ h))

theorem opSuperframe_busOk (h : BusOk False s.shb) : BusOk False (opSuperframe s).shb := by
  unfold opSuperframe
  extract_lets j t main s0 s1 s2 s3 s4 s5
  have advanced : BusOk False s0.shb := busOk_of_frame (State.advance_frame (offBus rfl) same) h
  have opened : BusOk False s1.shb := busOk_ite (busOk_of_frame
    (State.mainOpen_frame (offBus rfl) same) advanced) advanced
  have latched : BusOk False s2.shb := liveBoundaryApply_busOk 3 t _ (nodeLatch_busOk t opened)
  have synced : BusOk False s3.shb := staleNodes_busOk j
    (busOk_of_frame (State.resyncNode_frame (offBus rfl) same) latched)
  have closed : BusOk False s4.shb := busOk_ite (mainClose_busOk synced) synced
  have shown : BusOk False s5.shb := busOk_of_frame (State.chainSnapshot_frame (offBus rfl) same) closed
  exact busOk_ite h shown

end Sys2Proof.Machine
end

section
/-!
The bus invariant through register writes and the messages of the tether.
-/

namespace Sys2Proof.Machine

open Sys2Proof.Claims

variable {q : Prop} {s t : State}

theorem busOk_ite_snd {α : Type} {c : Prop} [Decidable c] {a b : α × State} (ha : BusOk q a.2.shb)
    (hb : BusOk q b.2.shb) : BusOk q (if c then a else b).2.shb := by
  split
  · exact ha
  · exact hb

/-! ### Register writes -/

theorem command_busOk (x addr : Nat) (v : Word) (h : BusOk q s.shb) : BusOk q (s.command x addr v).shb := by
  unfold State.command
  extract_lets page op bad c k s1
  have refused : BusOk q bad.shb := busOk_of_frame (State.err_frame (offBus rfl) same) h
  have injected : BusOk q s1.shb := busOk_ite (busOk_of_frame (opPrbsInj1_frame (offBus rfl) same) h) h
  have plan : BusOk q (opPlnCmd c v s).shb := busOk_of_frame (opPlnCmd_frame (offBus rfl) same) h
  have inject : BusOk q (s.injRequest v 0).shb := busOk_of_frame (State.injRequest_frame (offBus rfl) same) h
  have written : BusOk q (s.wr addr v).shb := busOk_of_frame (State.wr_frame (offBus rfl) same) h
  refine busOk_ite plan (busOk_ite ?laser (busOk_ite ?fieldCal (busOk_ite inject (busOk_ite ?chains (busOk_ite ?node
    (busOk_ite ?trig (busOk_ite ?pop (busOk_ite ?mark (busOk_ite ?clock (busOk_ite ?prbs (busOk_ite ?time
    (busOk_ite ?pair (busOk_ite ?wipe (busOk_ite ?maint (busOk_ite ?reset (busOk_ite ?update
    (busOk_ite ?keys written)))))))))))))))))
  case laser =>
    exact busOk_ite (busOk_of_frame (opHspiGo_frame (offBus rfl) same) h)
      (busOk_ite (busOk_of_frame (State.rxRecal_frame (offBus rfl) same) h)
      (busOk_ite (busOk_of_frame (opLasOn_frame (offBus rfl) same) h)
      (busOk_ite (busOk_of_frame (opLasOff_frame (offBus rfl) same) h)
      (busOk_ite (busOk_of_frame (opScript_frame (offBus rfl) same) h) refused))))
  case fieldCal => exact busOk_ite (busOk_of_frame (opFldCal_frame (offBus rfl) same) h) refused
  case chains => exact busOk_ite (busOk_of_frame (opChainSync_frame (offBus rfl) same) h) refused
  case node =>
    exact busOk_ite (busOk_of_frame (opRetrain_frame (offBus rfl) same) h)
      (busOk_ite (busOk_of_frame (State.rejoin_frame (offBus rfl) same) h)
      (busOk_ite (busOk_of_frame (opNodeCmd_frame (offBus rfl) same) h) refused))
  case trig => exact busOk_ite (opShbTrig_busOk _ _ _ h) refused
  case pop => exact busOk_ite h (busOk_of_frame (opSplPop_frame (offBus rfl) same) h)
  case mark => exact busOk_ite (busOk_of_frame (opSplLane_frame (offBus rfl) same) h) refused
  case clock => exact busOk_ite (busOk_of_frame (opClkSwitch_frame (offBus rfl) same) h) refused
  case prbs => exact busOk_ite (busOk_of_frame (opPrbsClr_frame (offBus rfl) same) injected) injected
  case time => exact busOk_ite (busOk_of_frame (opRestep_frame (offBus rfl) same) h) refused
  case pair =>
    exact busOk_ite (busOk_of_frame (opHandover_frame (offBus rfl) same) h)
      (busOk_ite (busOk_of_frame (opResync_frame (offBus rfl) same) h) refused)
  case wipe => exact busOk_ite (busOk_of_frame (opWipe_frame (offBus rfl) same) h) refused
  case maint =>
    exact busOk_ite (busOk_of_frame (opMntStart_frame (offBus rfl) same) h)
      (busOk_ite (busOk_of_frame (opMntAbort_frame (offBus rfl) same) h) refused)
  case reset => exact busOk_ite (opSysReset_busOk _ h) refused
  case update =>
    exact busOk_ite (busOk_of_frame (opUpdStart_frame (offBus rfl) same) h)
      (busOk_ite (busOk_of_frame (opActivate_frame (offBus rfl) same) h)
      (busOk_ite (busOk_of_frame (opConfirm_frame (offBus rfl) same) h)
      (busOk_ite (busOk_of_frame (opUpdAbort_frame (offBus rfl) same) h) refused)))
  case keys =>
    exact busOk_ite (busOk_of_frame (opInstall_frame (offBus rfl) same) h)
      (busOk_ite (busOk_of_frame (opRemove_frame (offBus rfl) same) h)
      (busOk_ite (busOk_of_frame (opReturnArm_frame (offBus rfl) same) h) (busOk_ite (opReturn_busOk _ h) refused)))

theorem setReg_busOk (key : Nat) (v : Word) (h : BusOk q s.shb) : BusOk q (s.setReg key v).2.shb := by
  unfold State.setReg
  extract_lets page o
  have gate : ∀ n, BusOk q (opGateWrite n v s).shb := fun n => busOk_of_frame (opGateWrite_frame (offBus rfl) same) h
  have port : ∀ n, BusOk q (((s.wr key v).portCheck n).storeSetting key).shb := fun n =>
    busOk_of_frame (State.storeSetting_frame (offBus rfl)
      (State.portCheck_frame (offBus rfl) (State.wr_frame (offBus rfl) same))) h
  have live : BusOk q ((s.setLive key v).storeSetting key).shb :=
    busOk_of_frame (State.storeSetting_frame (offBus rfl) same) (setLive_busOk key v h)
  exact busOk_ite_snd (gate 0) (busOk_ite_snd (gate 1) (busOk_ite_snd (gate 2)
    (busOk_ite_snd (busOk_of_frame (State.setBallast_frame (offBus rfl) same) h)
    (busOk_ite_snd (busOk_of_frame (State.wr_frame (offBus rfl) same) h)
    (busOk_ite_snd (busOk_of_frame (State.laneWrite_frame (offBus rfl) same) h)
    (busOk_ite_snd (port 0) (busOk_ite_snd (port 1)
    (busOk_ite_snd (busOk_of_frame (State.ptpSelect_frame (offBus rfl) (State.wr_frame (offBus rfl) same)) h)
    (busOk_ite_snd (inputConfig_busOk _ v h) (busOk_ite_snd (lineConfig_busOk _ v h)
    live))))))))))

theorem writeRw_busOk (x addr : Nat) (v : Word) (h : BusOk q s.shb) : BusOk q (s.writeRw x addr v).2.shb := by
  unfold State.writeRw
  extract_lets page sel g fix key' key plain
  have set : BusOk q plain.2.shb :=
    busOk_ite_snd (busOk_of_frame (State.err_frame (offBus rfl) same) h) (setReg_busOk key v h)
  have mask : BusOk q ((s.wr key' (fix ^^^ maskDefault g)).storeSetting key').shb :=
    busOk_of_frame (State.storeSetting_frame (offBus rfl) (State.wr_frame (offBus rfl) same)) h
  refine busOk_ite_snd mask ?_
  split
  · exact busOk_ite_snd (busOk_of_frame (State.planWrite_frame (offBus rfl) same) h) set
  · exact set

theorem commit_busOk (x addr : Nat) (v : Word) (h : BusOk q s.shb) : BusOk q (s.commit x addr v).shb := by
  unfold State.commit
  split
  case h_1 => exact h
  case h_2 r _ =>
    extract_lets v' page o w
    have copied : ∀ {a : State}, BusOk q a.shb → BusOk q (a.copyWrite x addr v').shb :=
      busOk_of_frame (State.copyWrite_frame (offBus rfl) same)
    have written : BusOk q w.2.shb := writeRw_busOk x addr v' h
    split
    · exact h
    · exact h
    · exact copied (command_busOk x addr v' h)
    · exact busOk_ite (copied (busOk_of_frame (State.wr_frame (offBus rfl) same) h))
        (copied (busOk_of_frame (opLatchedRelease_frame (offBus rfl) same) h))
    · exact busOk_ite (copied (busOk_of_frame (State.pageCtrl_frame (offBus rfl) same) h))
        (busOk_ite (copied (busOk_of_frame (State.irqEnable_frame (offBus rfl) same) h))
          (busOk_ite (copied written) written))

theorem writeWord_busOk (x addr : Nat) (v : Word) (h : BusOk q s.shb) : BusOk q (s.writeWord x addr v).2.shb := by
  unfold State.writeWord
  extract_lets page
  have writes : BusOk q (match s.writeRefusal x addr with
      | some r => r
      | none => (stOk, s.commit x addr v)).2.shb := by
    split
    case h_1 r refusal => exact busOk_of_frame (State.writeRefusal_frame refusal (offBus rfl) same) h
    case h_2 => exact commit_busOk x addr v h
  exact busOk_ite_snd h (busOk_ite_snd (busOk_ite_snd h (busOk_ite_snd h writes))
    (busOk_of_frame (State.writeWindow_frame (offBus rfl) same) h))

theorem accessWrite_busOk (who : Accessor) (addr : Nat) (v : Word) (h : BusOk q s.shb) :
    BusOk q (s.accessWrite who addr v).shb :=
  busOk_ite h (busOk_ite h (writeWord_busOk _ addr v h))

theorem opIrqClr_busOk (who : Accessor) (page : Nat) (v ev : Word) (h : BusOk q s.shb) :
    BusOk q (opIrqClr who page v ev s).shb := by
  unfold opIrqClr
  extract_lets raw s1 s2
  have cleared : BusOk q s1.shb := accessWrite_busOk who _ v h
  have kept : BusOk q s2.shb := busOk_of_frame (State.wr_frame (offBus rfl) same) cleared
  exact busOk_ite cleared
    (busOk_iter 32 (fun _ _ ha => busOk_ite (busOk_of_frame (State.raise_frame (offBus rfl) same) ha) ha) kept)

theorem writeWords_busOk (x addr : Nat) (met : List Met) (l : List Word) (i : Nat) (h : BusOk q s.shb) :
    BusOk q (s.writeWords x addr met l i).2.2.shb := by
  induction l generalizing s i with
  | nil => exact h
  | cons w ws ih =>
    have wrote : BusOk q (s.writeWord x (addr + 4 * i) w).2.shb := writeWord_busOk x _ w h
    unfold State.writeWords
    extract_lets r
    split
    · split
      · exact busOk_of_frame (State.count_frame (offBus rfl) same) h
      · split
        · exact ih _ h
        · split
          · exact ih _ wrote
          · exact wrote
    · split
      · exact ih _ wrote
      · exact wrote

theorem slzReceive_busOk (type : Nat) (m : SlzMsg) (okBody : List Byte → Bool) {run : State → State × Nat × List Byte}
    (hold : Bool) (hrun : ∀ a, BusOk q a.shb → BusOk q (run a).1.shb) (h : BusOk q s.shb) :
    BusOk q (s.slzReceive type m okBody run hold).shb := by
  unfold State.slzReceive
  extract_lets s0 s1 r
  have counted : BusOk q s0.shb := busOk_of_frame (State.count_frame (offBus rfl) same) h
  have bad : ∀ {n}, BusOk q (s0.count n).shb := busOk_of_frame (State.count_frame (offBus rfl) same) counted
  refine busOk_ite h (busOk_ite bad ?_)
  split
  case h_1 => exact bad
  case h_2 q' _ =>
    have taken : BusOk q s1.shb := busOk_of_frame (State.onSession_frame (offBus rfl) same) counted
    have ran : BusOk q r.1.shb := hrun s1 taken
    refine busOk_ite (busOk_of_frame (State.authFail_frame (offBus rfl) same) counted)
      (busOk_ite (busOk_of_frame (State.sendBare_frame (offBus rfl) same) counted) (busOk_ite ?_ (busOk_ite ran
        (busOk_ite (busOk_of_frame (State.answerHeld_frame (offBus rfl) same) ran)
          (busOk_of_frame (State.answer_frame (offBus rfl) same) ran)))))
    split
    · exact busOk_ite (busOk_ite counted (busOk_of_frame (State.sendMsg_frame (offBus rfl) same) counted)) bad
    · exact bad

theorem opRegWrite_busOk (m : SlzMsg) (met : List Met) (h : BusOk q s.shb) : BusOk q (opRegWrite m met s).shb := by
  refine slzReceive_busOk _ m _ true (fun a ha => ?_) h
  extract_lets addr n r
  split
  · exact ha
  · split
    · exact ha
    · exact writeWords_busOk _ _ met _ _ ha

theorem opMspiWrite_busOk (addr count : Nat) (data : List Byte) (met : List Met) (h : BusOk q s.shb) :
    BusOk q (opMspiWrite addr count data met s).shb := by
  unfold opMspiWrite
  extract_lets head ws n miso fit r ended
  have wrote : BusOk q r.2.2.shb := writeWords_busOk _ _ met _ _ h
  have closed : ∀ {c}, BusOk q (s.mspiEnd head miso c).shb := busOk_of_frame (State.mspiEnd_frame (offBus rfl) same) h
  have done : BusOk q ended.shb := busOk_of_frame (State.mspiEnd_frame (offBus rfl) same) wrote
  exact busOk_ite h (busOk_ite closed (busOk_ite closed done))

/-! ### The tether -/

theorem tetherIn_busOk (i : Nat) (crcOk : Bool) {f : State → State} (hf : ∀ a, BusOk q a.shb → BusOk q (f a).shb)
    (h : BusOk q s.shb) : BusOk q (s.tetherIn i crcOk f).shb :=
  busOk_ite h (busOk_ite (busOk_of_frame (State.setTlane_frame (offBus rfl) (State.count_frame (offBus rfl) same)) h)
    (hf s h))

theorem tetherUp_busOk (i : Nat) (crcOk : Bool) {f : State → State} (hf : ∀ a, BusOk q a.shb → BusOk q (f a).shb)
    (h : BusOk q s.shb) : BusOk q (s.tetherUp i crcOk f).shb :=
  tetherIn_busOk i crcOk (fun a ha => busOk_ite (hf a ha) ha) h

theorem slipCheck_busOk (hb : HbMsg) (h : BusOk q s.shb) : BusOk q (s.slipCheck hb).shb := by
  unfold State.slipCheck
  extract_lets mine pai s1
  have slipped : BusOk q s1.shb := busOk_of_frame (s := { s with pai := { s.pai with slip := s.pai.slip + 1 } })
    (State.healthBit_frame (offBus rfl) same) h
  exact busOk_ite (busOk_of_frame (s := { s with pai := { s.pai with slip := 0 } })
    (State.healthBit_frame (offBus rfl) same) h)
    (busOk_ite slipped (fullReset_busOk _ 8 0))

theorem takeLtc_busOk (hb : HbMsg) (h : BusOk q s.shb) : BusOk q (s.takeLtc hb).shb :=
  { h with lineUntil := List.length_replicate, lineCycle := List.length_replicate }

theorem hbToStandby_busOk (hb : HbMsg) (h : BusOk q s.shb) : BusOk q (s.hbToStandby hb).shb := by
  unfold State.hbToStandby
  extract_lets pai s1
  have noted : BusOk q s1.shb := by
    unfold s1
    split
    · exact busOk_of_frame (State.wf_frame (offBus rfl) same) h
    · exact h
  exact busOk_ite h (busOk_ite (slipCheck_busOk hb noted) (busOk_ite (takeLtc_busOk hb noted) noted))

theorem hbKnown_busOk (hb : HbMsg) (h : BusOk q s.shb) : BusOk q (s.hbKnown hb).shb := by
  unfold State.hbKnown
  extract_lets s1 pai s2 s3
  have shown : BusOk q s1.shb := busOk_ite (busOk_of_frame (State.wf_frame (offBus rfl) same) h) h
  have held : BusOk q s3.shb := busOk_of_frame (s := s2) (State.holdLn2_frame (offBus rfl) same) shown
  exact busOk_ite (busOk_of_frame (State.hbToActive_frame (offBus rfl) same) held)
    (busOk_ite (hbToStandby_busOk hb held) held)

theorem hbTaken_busOk (i : Nat) (hb : HbMsg) (h : BusOk q s.shb) : BusOk q (s.hbTaken i hb).shb := by
  unfold State.hbTaken
  extract_lets l same' l1 a pai s1 s2 s3 s4
  have lane : BusOk q a.shb := busOk_of_frame (State.setTlane_frame (offBus rfl) same) h
  have trained : BusOk q s2.shb := busOk_ite lane
    (busOk_of_frame (s := s1) (State.trainHb_frame (offBus rfl) same) lane)
  have settled : BusOk q s3.shb := busOk_of_frame (State.settleRole_frame (offBus rfl) same) trained
  have slots : BusOk q s4.shb := busOk_ite (busOk_of_frame (State.sendSlots_frame (offBus rfl) same) settled) settled
  exact busOk_ite trained (hbKnown_busOk hb slots)

theorem opHb_busOk (i : Nat) (crcOk : Bool) (hb : HbMsg) (h : BusOk q s.shb) : BusOk q (opHb i crcOk hb s).shb :=
  tetherIn_busOk i crcOk (fun _ => hbTaken_busOk i hb) h

theorem partnerLines_busOk (t : Trigger) (h : BusOk q s.shb) : BusOk q (s.partnerLines t).shb :=
  busOk_ite (issue_busOk _ h) h

theorem trigIn_busOk (t : Trigger) (h : BusOk q s.shb) : BusOk q (s.trigIn t).shb := by
  unfold State.trigIn
  extract_lets bus s1
  have noted : BusOk q s1.shb := ⟨h.1, h.2, h.3, h.4, h.5, h.6⟩
  exact busOk_ite (partnerLines_busOk t h) (busOk_ite h (partnerLines_busOk t
    (passTrigger_busOk t (busOk_of_frame (State.fwdTrigger_frame (offBus rfl) same) noted))))

theorem opTrig_busOk (i : Nat) (crcOk : Bool) (ts : List Trigger) (h : BusOk q s.shb) :
    BusOk q (opTrig i crcOk ts s).shb :=
  tetherUp_busOk i crcOk (fun _ => busOk_foldl ts (fun _ t => trigIn_busOk t)) h

theorem applyCopy_busOk (o : CopyOp) (h : BusOk q s.shb) : BusOk q (s.applyCopy o).shb := by
  unfold State.applyCopy
  cases o with
  | write who addr v =>
    exact busOk_ite (commit_busOk _ addr v h) (busOk_of_frame (State.writeWindow_frame (offBus rfl) same) h)
  | free k n =>
    exact busOk_ite (busOk_of_frame (State.setLane_frame (offBus rfl) same) h)
      (busOk_of_frame (State.setLane_frame (offBus rfl) same) h)
  | ctx key v => exact busOk_of_frame (State.storeSetting_frame (offBus rfl) (State.wr_frame (offBus rfl) same)) h
  | mapping m => exact busOk_ite (busOk_of_frame (State.applyMap_frame (offBus rfl) same) h) h
  | timeState v t => exact busOk_ite (busOk_of_frame (State.publish_frame (offBus rfl) same) h) h
  | inj d => exact h
  | coreInj c i => exact busOk_of_frame (State.setCore_frame (offBus rfl) same) h
  | notch n t => exact busOk_of_frame (State.nextNotch_frame (offBus rfl) same) h
  | band b t =>
    exact busOk_of_frame (s := { s with flt := { s.flt with bandNext := some (b, t) } })
      (State.wf_frame (offBus rfl) (State.wf_frame (offBus rfl) same)) h
  | resync t => exact busOk_of_frame (State.setSyncFrom_frame (offBus rfl) same) h
  | budget two t => exact h
  | switchAt t => exact busOk_ite h h

theorem copyIn_busOk (c : CopyMsg) (h : BusOk q s.shb) : BusOk q (s.copyIn c).shb := by
  unfold State.copyIn
  extract_lets pai s1 s2 pai'
  have applied : BusOk q s2.shb := busOk_foldl (s := s1) c.ops (fun _ o => applyCopy_busOk o) h
  exact busOk_ite h (busOk_of_frame (s := { s2 with pai := { s2.pai with copyEnd := none, acked := c.no } })
    (State.digestCheck_frame (offBus rfl) same) applied)

theorem opCopy_busOk (i : Nat) (crcOk : Bool) (c : CopyMsg) (h : BusOk q s.shb) : BusOk q (opCopy i crcOk c s).shb :=
  tetherUp_busOk i crcOk (fun _ => copyIn_busOk c) h

end Sys2Proof.Machine
end

section
/-!
The bus invariant through what a standby takes over, is fed and joins with.
-/

namespace Sys2Proof.Machine

open Sys2Proof.Claims

variable {q : Prop} {s t : State}

/-! ### The standby's feed -/

theorem forwarded_busOk (k : Nat) (hold : Time) (e : Nat × Word) (h : BusOk False s.shb) :
    BusOk False (s.forwarded k hold e).shb :=
  passResult_busOk _ _ _ _ _ _ _ _
    (busOk_of_frame (State.compareField_frame (offBus rfl) (State.setFch_frame (offBus rfl) same)) h)

theorem feedTick_busOk (k : Nat) (hold : Time) (die : Word) (results : List (Nat × Word)) (h : BusOk False s.shb) :
    BusOk False (s.feedTick k hold die results).shb := by
  unfold State.feedTick
  extract_lets t k' s1 s2 pai s2' s3
  have latched : BusOk False s1.shb := busOk_of_frame (State.latchField_frame (offBus rfl) same) h
  have fed : BusOk False s2.shb :=
    busOk_ite latched (busOk_of_frame (State.tapField_frame (offBus rfl) same)
      (busOk_foldl results (fun _ e => forwarded_busOk k' hold e) latched))
  have judged : BusOk False s3.shb := busOk_of_frame (s := s2') (State.healthBit_frame (offBus rfl) same) fed
  exact busOk_ite h (busOk_of_frame (State.notchBoundary_frame (offBus rfl) (State.resyncField_frame (offBus rfl) same))
    (liveBoundaryApply_busOk 2 t chainLive judged))

theorem loseTicks_busOk (h : BusOk False s.shb) : BusOk False s.loseTicks.shb := by
  unfold State.loseTicks
  split
  case h_1 => exact h
  case h_2 h0 _ =>
    extract_lets from_ pai s1 pai'
    have fed : BusOk False s1.shb :=
      busOk_iter (s := { s with pai := { s.pai with lost := true } }) _ (fun _ _ => feedTick_busOk _ _ _ _) h
    exact fed

theorem takeover_busOk (h : BusOk False s.shb) : BusOk False s.takeover.shb := by
  unfold State.takeover
  extract_lets s0 t pai s1 s2 s3 s4 tmp s5 s6
  have lost : BusOk False s0.shb := loseTicks_busOk (completeFed_busOk h)
  have resumed : BusOk False (s1.wf Reg.PAI_STAT Fd.PAI_STAT_HANDOVER_PEND 0).resumeLanes.shb :=
    busOk_of_frame (s := s1) (State.resumeLanes_frame (offBus rfl) (State.wf_frame (offBus rfl) same)) lost
  have told : BusOk False s3.shb :=
    busOk_of_frame (State.err_frame (offBus rfl) (State.wf_frame (offBus rfl) (State.setSync_frame (offBus rfl) same)))
      (takeRole_busOk t resumed)
  have dropped : BusOk False s4.shb := busOk_of_frame (State.loseRuns_frame (offBus rfl) same) told
  have ended : BusOk False s5.shb := by
    unfold s5
    split
    · exact busOk_of_frame (State.ramanEnd_frame (offBus rfl) same) dropped
    · exact dropped
  refine ownTriggers_busOk (busOk_of_frame (State.tapUnits_frame (offBus rfl) same fun u a ha => ?_) ended)
  exact frame_ite (State.capHeld_frame (offBus rfl) (State.cutSegment_frame (offBus rfl) ha)) ha

theorem opHeartbeatMiss_busOk (l0 l1 beat : Bool) (h : BusOk False s.shb) :
    BusOk False (opHeartbeatMiss l0 l1 beat s).shb := by
  unfold opHeartbeatMiss
  extract_lets a t p
  have missed : BusOk False a.shb := busOk_of_frame (State.missed_frame (offBus rfl) same) h
  have down : BusOk False a.tetherDown.shb := busOk_of_frame (State.tetherDown_frame (offBus rfl) same) missed
  refine busOk_ite h (busOk_ite ?both (busOk_ite down
    (busOk_ite (busOk_of_frame (State.err_frame (offBus rfl) same) missed) missed)))
  exact busOk_ite (busOk_of_frame (State.tetherDown_frame (offBus rfl) same) (takeover_busOk missed))
    (busOk_ite (busOk_of_frame (State.tetherDown_frame (offBus rfl)
      (State.noStandby_frame (offBus rfl) same)) missed) missed)

theorem feedNode_busOk (n j : Nat) (ws : List Word) (h : BusOk False s.shb) : BusOk False (s.feedNode n j ws).shb :=
  busOk_ite h (busOk_of_frame (State.onPort_frame (offBus rfl) same) (nodeWords_busOk n j ws h))

theorem feedWire_busOk (f : FeedW) (h : BusOk False s.shb) : BusOk False (s.feedWire f).shb := by
  unfold State.feedWire
  extract_lets s1 s2
  have fed : BusOk False s1.shb := by
    unfold s1
    split
    · exact feedTick_busOk _ _ _ _ h
    · exact h
  have latched : BusOk False s2.shb := by
    unfold s2
    split
    · exact nodeBoundary_busOk _ _ fed
    · exact fed
  exact busOk_ite h (busOk_foldl f.nodes (fun _ e => feedNode_busOk e.1 e.2.1 e.2.2) latched)

theorem farFeed_busOk (f : FeedW) (h : BusOk False s.shb) : BusOk False (s.farFeed f).shb :=
  busOk_foldl f.nodes (fun _ e => farWords_busOk e.1 e.2.1 e.2.2) h

theorem opFeedW_busOk (i : Nat) (crcOk : Bool) (f : FeedW) (h : BusOk False s.shb) :
    BusOk False (opFeedW i crcOk f s).shb :=
  tetherUp_busOk i crcOk (fun _ ha => busOk_ite (farFeed_busOk f ha) (feedWire_busOk f ha)) h

/-! ### Joining the active hub -/

theorem joinPlan_busOk (E : Time) (h : BusOk False s.shb) : BusOk False (s.joinPlan E).shb := by
  unfold State.joinPlan
  split
  · exact busOk_ite h (startPlan_busOk _ _ E h)
  · exact h

theorem bulkToStandby_busOk (b : BulkPart) (h : BusOk False s.shb) : BusOk False (s.bulkToStandby b).shb := by
  unfold State.bulkToStandby
  cases b with
  | plan slot offset bytes last => exact busOk_of_frame (State.joinImage_frame (offBus rfl) same) h
  | slots a b r => exact h
  | join epoch regs seqs cycles two =>
    dsimp -zeta only
    extract_lets s1 s2
    have joined : BusOk False s1.shb :=
      busOk_of_frame (State.joinSched_frame (offBus rfl) (State.joinRegs_frame (offBus rfl) same))
        (joinPlan_busOk epoch h)
    have counted : BusOk False s2.shb :=
      busOk_foldl cycles (fun _ _ ha => busOk_ite ha (busOk_of_frame (State.onPort_frame (offBus rfl) same) ha)) joined
    exact busOk_ite h (busOk_of_frame (s := { s2 with seqs := seqs, lanes := [] })
      (State.applyBudget_frame (offBus rfl) same) counted)
  | lane k rel mark rd wr items => exact busOk_ite (busOk_of_frame (State.joinLane_frame (offBus rfl) same) h) h
  | lanesEnd => exact busOk_ite (busOk_of_frame (t := s.setSync 2) (State.setSync_frame (offBus rfl) same) h) h
  | item k it => exact busOk_of_frame (State.joinItem_frame (offBus rfl) same) h
  | record p ws => exact h
  | chains node k0 chans fields => exact busOk_of_frame (State.joinChains_frame (offBus rfl) same) h
  | bytes lo size cells => exact busOk_of_frame (State.joinBytes_frame (offBus rfl) same) h
  | core n c => exact busOk_of_frame (t := s.setCore n c) (State.setCore_frame (offBus rfl) same) h
  | dTotal P n => exact h
  | bridle P a b => exact busOk_of_frame (State.takeBridle_frame (offBus rfl) same) h
  | split P on last => exact busOk_of_frame (State.takeSplit_frame (offBus rfl) same) h
  | farTrain P found => exact busOk_of_frame (State.trainFar_frame (offBus rfl) same) h

theorem opBulk_busOk (i : Nat) (crcOk : Bool) (b : BulkPart) (h : BusOk False s.shb) :
    BusOk False (opBulk i crcOk b s).shb :=
  tetherUp_busOk i crcOk (fun _ ha => busOk_ite (busOk_of_frame (State.bulkToActive_frame (offBus rfl) same) ha)
    (busOk_ite (bulkToStandby_busOk b ha) ha)) h

end Sys2Proof.Machine
end

section
/-!
The bus invariant of every command, and of every step.
-/

namespace Sys2Proof.Machine

open Sys2Proof.Claims

/-- Every command completes and keeps the bus: a command off the bus by its frame, one that gathers triggers by the flush
at its end. -/
theorem exec_busOk (c : Instr) {s : State} (h : BusOk True s.shb) : ∃ t, exec c s = .next t ∧ BusOk True t.shb := by
  have off : ∀ {t : State}, Frame fieldsOffBus s t → BusOk True t.shb := fun f => busOk_of_frame f h
  have loud : BusOk False s.shb := h.loud
  have flush : ∀ {t : State}, BusOk False t.shb → BusOk True t.flushTrig.shb := flushTrig_busOk
  cases c with
  | railOutOfWindow => exact ⟨_, rfl, opRailOut_busOk _ h⟩
  | railValidTimer => exact ⟨_, rfl, off (opRailValid_frame (offBus rfl) same)⟩
  | resetNLow => exact ⟨_, rfl, opResetLow_busOk h⟩
  | progressMonitorMiss => exact ⟨_, rfl, opMonitorMiss_busOk _ _ h⟩
  | watchdogExpiry => exact ⟨_, rfl, opWatchdog_busOk h⟩
  | sysReset => exact ⟨_, rfl, opSysReset_busOk _ h⟩
  | pfwFall => exact ⟨_, rfl, off (opPfwFall_frame (offBus rfl) same)⟩
  | pfwCommitDone => exact ⟨_, rfl, off (opPfwCommit_frame (offBus rfl) same)⟩
  | pfwResume => exact ⟨_, rfl, off (opPfwResume_frame (offBus rfl) same)⟩
  | tamperTrip => exact ⟨_, rfl, off (opTamper_frame (offBus rfl) same)⟩
  | jtagTapReset => exact ⟨_, rfl, h⟩
  | laneLocked => exact ⟨_, rfl, off (opLaneLocked_frame (offBus rfl) same)⟩
  | losDetect => exact ⟨_, rfl, off (opLosDetect_frame (offBus rfl) same)⟩
  | cdrUnlockTimeout => exact ⟨_, rfl, off (opCdrUnlock_frame (offBus rfl) same)⟩
  | freqCompareDone => exact ⟨_, rfl, off (opFreqCompare_frame (offBus rfl) same)⟩
  | synthTrouble => exact ⟨_, rfl, off (opSynthTrouble_frame (offBus rfl) same)⟩
  | holdoverTimeout => exact ⟨_, rfl, off (opHoldoverTimeout_frame (offBus rfl) same)⟩
  | clkResume => exact ⟨_, rfl, off (opClkResume_frame (offBus rfl) same)⟩
  | clkSwitch => exact ⟨_, rfl, off (opClkSwitch_frame (offBus rfl) same)⟩
  | switchHandshake | switchHandshakeTimeout => exact ⟨_, rfl, off (State.switchDone_frame (offBus rfl) same)⟩
  | rampStep => exact ⟨_, rfl, off (opRampStep_frame (offBus rfl) same)⟩
  | rampComplete => exact ⟨_, rfl, off (opRampComplete_frame (offBus rfl) same)⟩
  | revertHoldElapsed => exact ⟨_, rfl, off (opRevertHold_frame (offBus rfl) same)⟩
  | eyeMeasure => exact ⟨_, rfl, off (opEyeMeasure_frame (offBus rfl) same)⟩
  | prbsInj1 => exact ⟨_, rfl, off (opPrbsInj1_frame (offBus rfl) same)⟩
  | prbsClr => exact ⟨_, rfl, off (opPrbsClr_frame (offBus rfl) same)⟩
  | prbsRateInject => exact ⟨_, rfl, off (opPrbsRate_frame (offBus rfl) same)⟩
  | prbsSync | prbsSyncLoss => exact ⟨_, rfl, off (State.setPrbsSync_frame (offBus rfl) same)⟩
  | gateWrite => exact ⟨_, rfl, off (opGateWrite_frame (offBus rfl) same)⟩
  | gateEffective | ungateDone => exact ⟨_, rfl, off (State.gateApply_frame (offBus rfl) same)⟩
  | firmwareLoaded => exact ⟨_, rfl, off (opFirmwareLoaded_frame (offBus rfl) same)⟩
  | startupCalDone => exact ⟨_, rfl, off (opStartupCalDone_frame (offBus rfl) same)⟩
  | planLoadDone => exact ⟨_, rfl, flush (opPlanLoadDone_busOk loud)⟩
  | planData => exact ⟨_, rfl, off (opPlanData_frame (offBus rfl) same)⟩
  | planDataWritten => exact ⟨_, rfl, off (opPlanDataWritten_frame (offBus rfl) same)⟩
  | plnCommit => exact ⟨_, rfl, off (opPlnCommit_frame (offBus rfl) same)⟩
  | commitCheckDone => exact ⟨_, rfl, off (opCommitCheckDone_frame (offBus rfl) same)⟩
  | plnSwitch => exact ⟨_, rfl, off (opPlnSwitch_frame (offBus rfl) same)⟩
  | shadowLoadDone => exact ⟨_, rfl, off (opShadowLoadDone_frame (offBus rfl) same)⟩
  | switchInstant => exact ⟨_, rfl, flush (opSwitchInstant_busOk loud)⟩
  | activationRecordWritten => exact ⟨_, rfl, off (opActivationRecord_frame (offBus rfl) same)⟩
  | plnAbort => exact ⟨_, rfl, off (opPlnAbort_frame (offBus rfl) same)⟩
  | plnErase => exact ⟨_, rfl, off (opPlnErase_frame (offBus rfl) same)⟩
  | liveWrite | registerWrite | schedCfgWrite | schedAtWrite => exact ⟨_, rfl, flush (accessWrite_busOk _ _ _ loud)⟩
  | readClear => exact ⟨_, rfl, off (opReadClear_frame (offBus rfl) same)⟩
  | loRead | hiRead | snapshotRead => exact ⟨_, rfl, off (State.accessRead_frame (offBus rfl) same)⟩
  | irqClrWrite => exact ⟨_, rfl, opIrqClr_busOk _ _ _ _ h⟩
  | irqEnWrite | pageCtrlWrite | ballastWrite => exact ⟨_, rfl, accessWrite_busOk _ _ _ h⟩
  | popDataRead => exact ⟨_, rfl, off (opPopData_frame (offBus rfl) same)⟩
  | shotBoundary => exact ⟨_, rfl, flush (opShotBoundary_busOk loud)⟩
  | slotLaunch => exact ⟨_, rfl, flush (busOk_of_frame (opSlotLaunch_frame (offBus rfl) same) loud)⟩
  | pulseStart => exact ⟨_, rfl, off (opPulseStart_frame (offBus rfl) same)⟩
  | rmnTrigRise => exact ⟨_, rfl, off (opRmnTrig_frame (offBus rfl) same)⟩
  | acquisitionWindowEnd => exact ⟨_, rfl, off (opWindowEnd_frame (offBus rfl) same)⟩
  | pointUpdate => exact ⟨_, rfl, flush (opPointUpdate_busOk _ _ _ _ loud)⟩
  | pssScrub => exact ⟨_, rfl, off (opScrub_frame (offBus rfl) same)⟩
  | ramanConversion => exact ⟨_, rfl, off (opRamanConversion_frame (offBus rfl) same)⟩
  | hspiGo => exact ⟨_, rfl, off (opHspiGo_frame (offBus rfl) same)⟩
  | hspiTransactionDone => exact ⟨_, rfl, off (opHspiDone_frame (offBus rfl) same)⟩
  | hspiStartByteTimeout => exact ⟨_, rfl, off (opHspiTimeout_frame (offBus rfl) same)⟩
  | ofeRecal => exact ⟨_, rfl, off (State.rxRecal_frame (offBus rfl) same)⟩
  | lasOn => exact ⟨_, rfl, off (opLasOn_frame (offBus rfl) same)⟩
  | lasOff => exact ⟨_, rfl, off (opLasOff_frame (offBus rfl) same)⟩
  | headScript => exact ⟨_, rfl, off (opScript_frame (offBus rfl) same)⟩
  | ilkAccept => exact ⟨_, rfl, off (opIlkAccept_frame (offBus rfl) same)⟩
  | ilkRelease => exact ⟨_, rfl, off (opIlkRelease_frame (offBus rfl) same)⟩
  | lasStatRise => exact ⟨_, rfl, off (opLasRise_frame (offBus rfl) same)⟩
  | lasStatFall => exact ⟨_, rfl, off (opLasFall_frame (offBus rfl) same)⟩
  | lasStatTimeout => exact ⟨_, rfl, off (opLasTimeout_frame (offBus rfl) same)⟩
  | convTempRead => exact ⟨_, rfl, off (opConvTemp_frame (offBus rfl) same)⟩
  | rxRecalPeriod => exact ⟨_, rfl, off (opRxPeriod_frame (offBus rfl) same)⟩
  | spareCalibrated => exact ⟨_, rfl, off (opSpareCal_frame (offBus rfl) same)⟩
  | fieldTickHold => exact ⟨_, rfl, flush (opFieldTick_busOk _ loud)⟩
  | conversionSlot => exact ⟨_, rfl, flush (busOk_of_frame (opConversion_frame (offBus rfl) same) loud)⟩
  | complianceLatch => exact ⟨_, rfl, flush (opCompliance_busOk _ _ loud)⟩
  | startHoldEnd => exact ⟨_, rfl, flush (opStartHoldEnd_busOk loud)⟩
  | injCmd => exact ⟨_, rfl, off (State.injRequest_frame (offBus rfl) same)⟩
  | injectedConversionDone => exact ⟨_, rfl, off (opInjDone_frame (offBus rfl) same)⟩
  | fldCal => exact ⟨_, rfl, off (opFldCal_frame (offBus rfl) same)⟩
  | fieldRecalTrigger => exact ⟨_, rfl, off (opFieldRecal_frame (offBus rfl) same)⟩
  | fieldConverterCalDone => exact ⟨_, rfl, off (opConvCalDone_frame (offBus rfl) same)⟩
  | recoveryDone => exact ⟨_, rfl, off (opRecoveryDone_frame (offBus rfl) same)⟩
  | comparatorCrossing => exact ⟨_, rfl, flush (opCrossing_busOk _ _ loud)⟩
  | latchedRelease => exact ⟨_, rfl, off (opLatchedRelease_frame (offBus rfl) same)⟩
  | bandSelect => exact ⟨_, rfl, off (opBandSelect_frame (offBus rfl) same)⟩
  | lsyncEdge => exact ⟨_, rfl, off (opLsyncEdge_frame (offBus rfl) same)⟩
  | lsyncLost => exact ⟨_, rfl, off (opLsyncLost_frame (offBus rfl) same)⟩
  | chainSync => exact ⟨_, rfl, off (opChainSync_frame (offBus rfl) same)⟩
  | superframeBoundary => exact ⟨_, rfl, flush (opSuperframe_busOk loud)⟩
  | dSofSend => exact ⟨_, rfl, flush (opDsofSend_busOk _ loud)⟩
  | upstreamFrame => exact ⟨_, rfl, flush (opUpstreamFrame_busOk _ _ loud)⟩
  | uSofMissing => exact ⟨_, rfl, flush (opUsofMissing_busOk _ _ loud)⟩
  | linkRetrainTimeout => exact ⟨_, rfl, off (opLinkRetrain_frame (offBus rfl) same)⟩
  | trainingAttemptTimeout => exact ⟨_, rfl, off (opTrainTimeout_frame (offBus rfl) same)⟩
  | noPartnerRetry => exact ⟨_, rfl, off (opNoPartnerRetry_frame (offBus rfl) same)⟩
  | assignReplyTimeout => exact ⟨_, rfl, off (opAssignTimeout_frame (offBus rfl) same)⟩
  | drpRetrain => exact ⟨_, rfl, off (opRetrain_frame (offBus rfl) same)⟩
  | drpRejoin => exact ⟨_, rfl, off (State.rejoin_frame (offBus rfl) same)⟩
  | nodeCmd => exact ⟨_, rfl, off (opNodeCmd_frame (offBus rfl) same)⟩
  | nodeCmdTimeout => exact ⟨_, rfl, off (opNodeCmdTimeout_frame (offBus rfl) same)⟩
  | splitDetect => exact ⟨_, rfl, off (opSplitDetect_frame (offBus rfl) same)⟩
  | autoRejoin => exact ⟨_, rfl, off (opAutoRejoin_frame (offBus rfl) same)⟩
  | shutInEdge => exact ⟨_, rfl, opShutInEdge_busOk _ h⟩
  | shutInStuck => exact ⟨_, rfl, opShutInStuck_busOk _ h⟩
  | lineStateExpiry => exact ⟨_, rfl, opLineExpiry_busOk _ h⟩
  | schedulerFire => exact ⟨_, rfl, opSchedulerFire_busOk _ h⟩
  | shbTrig => exact ⟨_, rfl, opShbTrig_busOk _ _ _ h⟩
  | cmdAtReached => exact ⟨_, rfl, opCmdAtReached_busOk h⟩
  | segmentCopyDone => exact ⟨_, rfl, off (opSegmentCopy_frame (offBus rfl) same)⟩
  | spoolPush => exact ⟨_, rfl, off (opSpoolPush_frame (offBus rfl) same)⟩
  | compressionJobStart => exact ⟨_, rfl, off (opJobStart_frame (offBus rfl) same)⟩
  | compressionJobDone => exact ⟨_, rfl, off (opJobDone_frame (offBus rfl) same)⟩
  | staleExpiry => exact ⟨_, rfl, off (opStaleExpiry_frame (offBus rfl) same)⟩
  | lanePop => exact ⟨_, rfl, off (opSplPop_frame (offBus rfl) same)⟩
  | laneMark | laneRewind | laneReleaseMark | laneReleaseRead => exact ⟨_, rfl, off (opSplLane_frame (offBus rfl) same)⟩
  | loupeItemDispatch => exact ⟨_, rfl, off (opLoupeItemDispatch_frame (offBus rfl) same)⟩
  | loupeTimerItem => exact ⟨_, rfl, off (opLoupeTimerItem_frame (offBus rfl) same)⟩
  | activationStart => exact ⟨_, rfl, off (opActivationStart_frame (offBus rfl) same)⟩
  | budgetExpiry => exact ⟨_, rfl, off (opBudgetExpiry_frame (offBus rfl) same)⟩
  | interruptEntry => exact ⟨_, rfl, off (opInterruptEntry_frame (offBus rfl) same)⟩
  | dmaDone => exact ⟨_, rfl, off (opDmaDone_frame (offBus rfl) same)⟩
  | tmrExpiry => exact ⟨_, rfl, off (opTmrExpiry_frame (offBus rfl) same)⟩
  | lpNop | lpAbs | lpMul | lpMpy | lpMac | lpMsu | lpMova | lpMovta | lpCall | lpJr | lpWait | lpReti | lpMovts =>
    exact ⟨_, rfl, off (State.instrR_frame (offBus rfl) same)⟩
  | lpAdd | lpSub | lpAnd | lpOr | lpXor | lpSlt | lpMin | lpMax =>
    exact ⟨_, rfl, off (State.instrF1_frame (offBus rfl) same)⟩
  | lpAddi | lpLui | lpOri | lpShl | lpShr | lpSra => exact ⟨_, rfl, off (State.instrF2_frame (offBus rfl) same)⟩
  | lpFtm => exact ⟨_, rfl, off (opFtm_frame (offBus rfl) same)⟩
  | lpLdh | lpLdhu | lpLdw => exact ⟨_, rfl, off (State.load_frame (offBus rfl) same)⟩
  | lpSth | lpStw => exact ⟨_, rfl, off (State.storeG_frame (offBus rfl) same)⟩
  | lpBeq | lpBne | lpBlt | lpBge | lpBr => exact ⟨_, rfl, off (State.instrBr_frame (offBus rfl) same)⟩
  | lpRpt => exact ⟨_, rfl, off (opRpt_frame (offBus rfl) same)⟩
  | lpEnd => exact ⟨_, rfl, off (opEnd_frame (offBus rfl) same)⟩
  | lpEmit => exact ⟨_, rfl, off (opEmit_frame (offBus rfl) same)⟩
  | lpDmov => exact ⟨_, rfl, off (opDmov_frame (offBus rfl) same)⟩
  | lpIor => exact ⟨_, rfl, off (State.instr_frame (offBus rfl) (frame_refl _ s) fun _ _ _ =>
      okFrame_ok (frame_refl _ s))⟩
  | lpIow => exact ⟨_, rfl, off (opIow_frame (offBus rfl) same)⟩
  | lpMovs => exact ⟨_, rfl, off (opMovs_frame (offBus rfl) same)⟩
  | illegalInstruction => exact ⟨_, rfl, off (opIllegal_frame (offBus rfl) same)⟩
  | pauseFrame => exact ⟨_, rfl, off (opPauseFrame_frame (offBus rfl) same)⟩
  | arpRequest => exact ⟨_, rfl, off (opArpRequest_frame (offBus rfl) same)⟩
  | icmpEchoRequest => exact ⟨_, rfl, off (opIcmpEcho_frame (offBus rfl) same)⟩
  | esmcPdu => exact ⟨_, rfl, off (opEsmc_frame (offBus rfl) same)⟩
  | ssmExpiry => exact ⟨_, rfl, off (opSsmExpiry_frame (offBus rfl) same)⟩
  | portInService => exact ⟨_, rfl, off (opPortInService_frame (offBus rfl) same)⟩
  | sessOpen => exact ⟨_, rfl, off (opSessOpen_frame (offBus rfl) same)⟩
  | sessClose => exact ⟨_, rfl, off (opSessClose_frame (offBus rfl) same)⟩
  | sessKeepalive => exact ⟨_, rfl, off (opSessKeepalive_frame (offBus rfl) same)⟩
  | sessCredit => exact ⟨_, rfl, off (opSessCredit_frame (offBus rfl) same)⟩
  | regRead => exact ⟨_, rfl, off (opRegRead_frame (offBus rfl) same)⟩
  | regWrite => exact ⟨_, rfl, flush (opRegWrite_busOk _ _ loud)⟩
  | spoolOpPop | spoolOpMark | spoolOpRewind | spoolOpReleaseMark | spoolOpReleaseRead =>
    exact ⟨_, rfl, off (State.spoolOp_frame (offBus rfl) same)⟩
  | itemSend => exact ⟨_, rfl, off (opItemSend_frame (offBus rfl) same)⟩
  | keepaliveSend => exact ⟨_, rfl, off (opKeepaliveSend_frame (offBus rfl) same)⟩
  | sessionExpiry => exact ⟨_, rfl, off (opSessionExpiry_frame (offBus rfl) same)⟩
  | noticeSend => exact ⟨_, rfl, off (opNoticeSend_frame (offBus rfl) same)⟩
  | noticeHoldExpiry => exact ⟨_, rfl, off (opNoticeHold_frame (offBus rfl) same)⟩
  | noticeRepeat => exact ⟨_, rfl, off (opNoticeRepeat_frame (offBus rfl) same)⟩
  | mspiRead => exact ⟨_, rfl, off (opMspiRead_frame (offBus rfl) same)⟩
  | mspiWrite => exact ⟨_, rfl, flush (opMspiWrite_busOk _ _ _ _ loud)⟩
  | mspiTimeout => exact ⟨_, rfl, off (opMspiTimeout_frame (offBus rfl) same)⟩
  | ptpSync => exact ⟨_, rfl, off (opPtpSync_frame (offBus rfl) same)⟩
  | ptpFollowUp => exact ⟨_, rfl, off (opPtpFollowUp_frame (offBus rfl) same)⟩
  | ptpDelayResp => exact ⟨_, rfl, off (opDelayResp_frame (offBus rfl) same)⟩
  | ptpAnnounce => exact ⟨_, rfl, off (opPtpAnnounce_frame (offBus rfl) same)⟩
  | delayReqSend => exact ⟨_, rfl, off (opDelayReq_frame (offBus rfl) same)⟩
  | delayRespMiss => exact ⟨_, rfl, off (opDelayRespMiss_frame (offBus rfl) same)⟩
  | announceTimeout => exact ⟨_, rfl, off (opAnnTimeout_frame (offBus rfl) same)⟩
  | mappingUpdate => exact ⟨_, rfl, off (opMappingUpdate_frame (offBus rfl) same)⟩
  | timRestep => exact ⟨_, rfl, off (opRestep_frame (offBus rfl) same)⟩
  | tetherBlockLock => exact ⟨_, rfl, off (opTetherBlockLock_frame (offBus rfl) same)⟩
  | hbSend => exact ⟨_, rfl, off (opHbSend_frame (offBus rfl) same)⟩
  | tetherHb => exact ⟨_, rfl, opHb_busOk _ _ _ h⟩
  | pairHbBeat => exact ⟨_, rfl, off (opPairHbBeat_frame (offBus rfl) same)⟩
  | heartbeatMiss => exact ⟨_, rfl, flush (opHeartbeatMiss_busOk _ _ _ loud)⟩
  | tetherTrainTimeout => exact ⟨_, rfl, flush (busOk_of_frame (opTrainingTimeout_frame (offBus rfl) same) loud)⟩
  | tetherTrainRetry => exact ⟨_, rfl, off (opTrainingRetry_frame (offBus rfl) same)⟩
  | tetherFeedF => exact ⟨_, rfl, flush (busOk_of_frame (opFeedF_frame (offBus rfl) same) loud)⟩
  | tetherFeedW => exact ⟨_, rfl, flush (opFeedW_busOk _ _ _ loud)⟩
  | tetherTrig => exact ⟨_, rfl, opTrig_busOk _ _ _ h⟩
  | tetherCopy => exact ⟨_, rfl, flush (opCopy_busOk _ _ _ loud)⟩
  | healthSend => exact ⟨_, rfl, off (opHealthSend_frame (offBus rfl) same)⟩
  | tetherHealth => exact ⟨_, rfl, off (opHealth_frame (offBus rfl) same)⟩
  | tetherBulk => exact ⟨_, rfl, flush (opBulk_busOk _ _ _ loud)⟩
  | claimSend => exact ⟨_, rfl, off (opClaimSend_frame (offBus rfl) same)⟩
  | pairClaim => exact ⟨_, rfl, off (opPairClaim_frame (offBus rfl) same)⟩
  | pairHandover => exact ⟨_, rfl, off (opHandover_frame (offBus rfl) same)⟩
  | handoverRevertHold => exact ⟨_, rfl, off (opRevertPreferred_frame (offBus rfl) same)⟩
  | handoverOswSwitch => exact ⟨_, rfl, off (opOswSwitch_frame (offBus rfl) same)⟩
  | pairResync => exact ⟨_, rfl, off (opResync_frame (offBus rfl) same)⟩
  | ballastWakeDone => exact ⟨_, rfl, off (opBallastWake_frame (offBus rfl) same)⟩
  | memScrub => exact ⟨_, rfl, off (opMemScrub_frame (offBus rfl) same)⟩
  | dkrWipe => exact ⟨_, rfl, off (opWipe_frame (offBus rfl) same)⟩
  | maintenanceStepStart => exact ⟨_, rfl, off (opMaintStep_frame (offBus rfl) same)⟩
  | mntStart => exact ⟨_, rfl, off (opMntStart_frame (offBus rfl) same)⟩
  | mntAbort => exact ⟨_, rfl, off (opMntAbort_frame (offBus rfl) same)⟩
  | memtestBlockRestore => exact ⟨_, rfl, off (opTestRestore_frame (offBus rfl) same)⟩
  | flashTimeout => exact ⟨_, rfl, off (opFlashTimeout_frame (offBus rfl) same)⟩
  | telPeriod => exact ⟨_, rfl, off (opTelPeriod_frame (offBus rfl) same)⟩
  | updStart => exact ⟨_, rfl, off (opUpdStart_frame (offBus rfl) same)⟩
  | updActivate => exact ⟨_, rfl, off (opActivate_frame (offBus rfl) same)⟩
  | updConfirm => exact ⟨_, rfl, off (opConfirm_frame (offBus rfl) same)⟩
  | updAbort => exact ⟨_, rfl, off (opUpdAbort_frame (offBus rfl) same)⟩
  | autoConfirm => exact ⟨_, rfl, off (opAutoConfirm_frame (offBus rfl) same)⟩
  | winchRestartDone => exact ⟨_, rfl, off (opWinchRestart_frame (offBus rfl) same)⟩
  | sdCardInsert => exact ⟨_, rfl, off (opSdInsert_frame (offBus rfl) same)⟩
  | sdCardRemove => exact ⟨_, rfl, off (opSdRemove_frame (offBus rfl) same)⟩
  | sdTimeout => exact ⟨_, rfl, off (opSdTimeout_frame (offBus rfl) same)⟩
  | keyInstall => exact ⟨_, rfl, off (opInstall_frame (offBus rfl) same)⟩
  | keyRemove => exact ⟨_, rfl, off (opRemove_frame (offBus rfl) same)⟩
  | returnArm => exact ⟨_, rfl, off (opReturnArm_frame (offBus rfl) same)⟩
  | returnArmExpiry => exact ⟨_, rfl, h⟩
  | partReturn => exact ⟨_, rfl, opReturn_busOk _ h⟩
  | blockLockLoss => exact ⟨_, rfl, off (opBlockLockLoss_frame (offBus rfl) same)⟩
  | uplinkBlockLock => exact ⟨_, rfl, off (opUplinkBlockLock_frame (offBus rfl) same)⟩
  | downstreamFrame => exact ⟨_, rfl, off (opDownstreamFrame_frame (offBus rfl) same)⟩
  | ramanSample => exact ⟨_, rfl, off (opRamanSample_frame (offBus rfl) same)⟩
  | sourceRecovers => exact ⟨_, rfl, off (opSourceRecovers_frame (offBus rfl) same)⟩
  | resetNRelease => exact ⟨_, rfl, off (opResetRelease_frame (offBus rfl) same)⟩
  | rxFrameDropped => exact ⟨_, rfl, off (opFrameDropped_frame (offBus rfl) same)⟩
  | flashPatrolPeriod => exact ⟨_, rfl, off (opPatrolPeriod_frame (offBus rfl) same)⟩
  | memtestPeriod => exact ⟨_, rfl, off (opTestPeriod_frame (offBus rfl) same)⟩
  | linkLocalProbeEnd => exact ⟨_, rfl, off (opProbeEnd_frame (offBus rfl) same)⟩

end Sys2Proof.Machine

namespace Sys2Proof.Claims

open Sys2Proof.Machine

/-- Settles O25, by the bus invariant of every command and the idle tick, which leaves the bus alone. -/
theorem stepsKeepTheShutterBus : Obligations.StepsKeepTheShutterBus := by
  unfold Obligations.StepsKeepTheShutterBus
  intro s t ok run
  rw [shbOk_iff] at ok ⊢
  unfold step at run
  split at run
  case h_1 =>
    obtain rfl : s.tick = t := by simpa using run
    rw [tick_eq]
    exact ok
  case h_2 c rest _ =>
    obtain ⟨u, next, kept⟩ := exec_busOk c (s := { s with pending := rest }) ok
    obtain rfl : u = t := by simpa [next] using run
    exact kept

end Sys2Proof.Claims
end

section
/-!
What one trigger on an open line makes of the bus (R246, R250).
-/

namespace Sys2Proof.Machine

open Sys2Proof.Claims

variable {s t : State}

/-- A step function that acts at one number alone acts once. -/
theorem iter_only {σ : Type} {f : Nat → σ → σ} {k : Nat} (other : ∀ i a, i ≠ k → f i a = a) (n : Nat) (a : σ) :
    iter n f a = if k < n then f k a else a := by
  unfold iter
  induction n with
  | zero => rfl
  | succ n ih =>
    rw [List.range_succ, List.foldl_append, ih, List.foldl_cons, List.foldl_nil]
    by_cases last : k = n
    · subst last
      rw [if_neg (Nat.lt_irrefl k), if_pos (Nat.lt_succ_self k)]
    · rw [other n _ (Ne.symm last)]
      congr 1
      simp only [eq_iff_iff]
      omega

/-- A trigger alone is issued on its own line, and what that line passes reaches the units. -/
theorem issue_one (s : State) {t : Trigger} (line : t.line < 16) :
    s.issue [t] = ((s.issueLine t.line [t]).2.foldl (fun l t => insertTrig t l) []).foldl
      (fun a t => a.unitTrigger t) (s.issueLine t.line [t]).1 := by
  unfold State.issue
  rw [iter_only (k := t.line), if_pos line]
  · simp
  · intro l a other
    have none_here : [t].filter (fun t => t.line == l) = [] := by simp [Ne.symm other]
    rw [none_here]
    rfl

/-- A trigger's arrival at its line: the line's state holds for `width` ticks, and the line has its trigger of the ECK
cycle (R246, R250). -/
def ShbState.arrive (b : ShbState) (t : Trigger) (width : Nat) : ShbState :=
  { b with
    lineUntil := if width = 0 then b.lineUntil else setAt b.lineUntil t.line (t.arr + BitVec.ofNat 64 width)
    lineCycle := setAt b.lineCycle t.line (t.arr.toNat / 2 + 1) }

theorem lineTrigger_shb (s : State) (t : Trigger) :
    (s.lineTrigger t).shb = s.shb.arrive t (s.rf (Reg.SHB_LINE_CFG t.line) Fd.SHB_LINE_CFG_WIDTH) := by
  have mark : ∀ a : State, (a.triggerMark t).shb = a.shb := fun a =>
    (State.triggerMark_frame (within_refl _) (frame_refl _ a)).shb (by decide)
  have sync : ∀ a : State, a.requestSync.shb = a.shb := fun a =>
    (State.requestSync_frame (within_refl _) (frame_refl _ a)).shb (by decide)
  unfold State.lineTrigger
  extract_lets w bus s1 s2
  have marked : s2.shb = s1.shb := by rw [mark, State.raise_shb, State.count_shb]
  split
  · rw [sync, marked]
    rfl
  · rw [marked]
    rfl

/-- A trigger of this hub that passes alone, noted and told to the partner before it reaches its line. -/
def State.noteTrig (s : State) (t : Trigger) : State :=
  ({ s with shb := { s.shb with recent := (t :: s.shb.recent).take 64 } }.sendBoth 0x04 (.trig [t])).countN
    Reg.SHB_MERGED 0

theorem noteTrig_shb (s : State) (t : Trigger) :
    (s.noteTrig t).shb = { s.shb with recent := (t :: s.shb.recent).take 64 } := by
  simp [State.noteTrig]

theorem noteTrig_rd (s : State) (t : Trigger) {a : Nat} (other : a ≠ Reg.SHB_MERGED) :
    (s.noteTrig t).rd a = s.rd a := by
  unfold State.noteTrig
  rw [State.countN_rd, if_neg other, State.rd_congr (State.sendBoth_regs _ _ _), State.rd_mk, State.get_regs]

/-- An open line passes a trigger that arrives now, alone. -/
theorem issueLine_of_open {line : Nat} (line_open : LineOpen s line) (src : Nat) (inst : Time) (arg0 : Nat) :
    s.issueLine line [s.mkTrigger line src inst arg0] =
      ((s.noteTrig (s.mkTrigger line src inst arg0)).lineTrigger (s.mkTrigger line src inst arg0),
        [s.mkTrigger line src inst arg0]) := by
  obtain ⟨-, on, free, hub⟩ := line_open
  simp [State.issueLine, earliest, State.noteTrig, on, free, hub, State.mkTrigger]

theorem unitTrigger_shb (s : State) (t : Trigger) : (s.unitTrigger t).shb = s.shb :=
  (State.unitTrigger_frame (within_refl _) (frame_refl _ s)).shb (by decide)

/-- The trigger of one source on an open line: noted, taken by the line, then given to the units. -/
theorem issue_of_open {line : Nat} (line_open : LineOpen s line) (src : Nat) (inst : Time) (arg0 : Nat) :
    s.issue [s.mkTrigger line src inst arg0] =
      ((s.noteTrig (s.mkTrigger line src inst arg0)).lineTrigger (s.mkTrigger line src inst arg0)).unitTrigger
        (s.mkTrigger line src inst arg0) := by
  have own : (s.mkTrigger line src inst arg0).line = line := rfl
  rw [issue_one s (own ▸ line_open.1), own, issueLine_of_open line_open]
  rfl

theorem issue_of_open_shb {line : Nat} (line_open : LineOpen s line) (src : Nat) (inst : Time) (arg0 : Nat) :
    (s.issue [s.mkTrigger line src inst arg0]).shb =
      { s.shb with recent := (s.mkTrigger line src inst arg0 :: s.shb.recent).take 64 }.arrive
        (s.mkTrigger line src inst arg0) (s.rf (Reg.SHB_LINE_CFG line) Fd.SHB_LINE_CFG_WIDTH) := by
  have width : (s.noteTrig (s.mkTrigger line src inst arg0)).rd (Reg.SHB_LINE_CFG line) =
      s.rd (Reg.SHB_LINE_CFG line) := by
    have inside := line_open.1
    exact noteTrig_rd s _ (by simp only [Reg.SHB_LINE_CFG, Reg.SHB_MERGED]; omega)
  rw [issue_of_open line_open, unitTrigger_shb, lineTrigger_shb, noteTrig_shb, State.rf_eq,
    show (s.mkTrigger line src inst arg0).line = line from rfl, width, State.rf_eq]

/-- A trigger on an open line passes it. -/
theorem issue_passed {line : Nat} (line_open : LineOpen s line) (size : s.shb.lineUntil.length = 16) (src : Nat)
    (inst : Time) (arg0 : Nat) : Passed s (s.issue [s.mkTrigger line src inst arg0]) line src inst arg0 := by
  unfold Passed
  rw [issue_of_open_shb line_open]
  refine ⟨rfl, fun width => ?_⟩
  simp only [ShbState.arrive, if_neg width]
  exact nth_setAt_same _ _ _ _ (size ▸ line_open.1)

/-- A line is open as before where its configuration, its ECK cycle, the time and the role are as before. -/
theorem lineOpen_congr {line : Nat} (cfg : t.rd (Reg.SHB_LINE_CFG line) = s.rd (Reg.SHB_LINE_CFG line))
    (cycle : t.shb.lineCycle = s.shb.lineCycle) (ltc : t.ltc = s.ltc) (role : t.rd Reg.PAI_STAT = s.rd Reg.PAI_STAT)
    (h : LineOpen s line) : LineOpen t line := by
  unfold LineOpen State.role State.flag State.rf at h ⊢
  rwa [cfg, cycle, ltc, role]

theorem passed_congr {u : State} {line src arg0 : Nat} {inst : Time}
    (cfg : t.rd (Reg.SHB_LINE_CFG line) = s.rd (Reg.SHB_LINE_CFG line)) (ltc : t.ltc = s.ltc)
    (h : Passed t u line src inst arg0) : Passed s u line src inst arg0 := by
  unfold Passed State.rf at h ⊢
  rwa [cfg, ltc] at h

theorem passed_of_shb {u : State} {line src arg0 : Nat} {inst : Time} (same : u.shb = t.shb)
    (h : Passed s t line src inst arg0) : Passed s u line src inst arg0 := by
  unfold Passed at h ⊢
  rwa [same]

end Sys2Proof.Machine
end

section
/-!
The shutter inputs and the output lines: edges, stuck inputs and the end of a line's state (R247, R248, R250).
-/

namespace Sys2Proof.Machine

open Sys2Proof.Claims

variable {s t : State}

/-! ### Inputs -/

/-- Whether an edge makes its input's state active (R247). -/
def State.inputOn (s : State) (e : ShutEdge) : Bool :=
  e.level != ((s.rd (Reg.SHB_IN_CFG e.n.val)).get Fd.SHB_IN_CFG_POL == 1)

/-- Whether an edge to a state of input `n` issues a trigger: enabled, a change, not stuck, and of the chosen edge
(R247, R248). -/
def State.EdgeHits (s : State) (n : Nat) (on : Bool) : Prop :=
  (s.rd (Reg.SHB_IN_CFG n)).get Fd.SHB_IN_CFG_EN = 1 ∧ on ≠ nth s.shb.inState n false ∧
    nth s.shb.inStuck n false = false ∧
    (if on then (s.rd (Reg.SHB_IN_CFG n)).get Fd.SHB_IN_CFG_EDGE % 2 = 1
      else (s.rd (Reg.SHB_IN_CFG n)).get Fd.SHB_IN_CFG_EDGE / 2 = 1)

/-- The input's state as an edge leaves it; a release ends the stuck state (R248). -/
def State.seeInput (s : State) (n : Nat) (on : Bool) : State :=
  { s with shb := { s.shb with
    inState := setAt s.shb.inState n on, inStuck := if on then s.shb.inStuck else setAt s.shb.inStuck n false } }

/-- The trigger of an edge: its instant is the edge less IN_DLY (R246). -/
def State.edgeTrigger (s : State) (e : ShutEdge) : Trigger :=
  s.mkTrigger ((s.rd (Reg.SHB_IN_CFG e.n.val)).get Fd.SHB_IN_CFG_LINE) e.n.val
    (e.t - BitVec.ofInt 64 (signed 16 (s.rf (Reg.SHB_IN_DLY e.n.val) Fd.SHB_IN_DLY_IN_DLY))) 0

theorem edge_chosen_iff (on : Bool) (sel : Nat) :
    (if on then sel % 2 == 1 else sel / 2 == 1) = true ↔ if on then sel % 2 = 1 else sel / 2 = 1 := by
  cases on <;> simp

theorem inputEdge_of_hit {e : ShutEdge} (hit : s.EdgeHits e.n.val (s.inputOn e)) :
    s.inputEdge e = (s.seeInput e.n.val (s.inputOn e), [(s.seeInput e.n.val (s.inputOn e)).edgeTrigger e]) := by
  obtain ⟨en, change, free, edge⟩ := hit
  exact if_pos ⟨en, change, free, (edge_chosen_iff _ _).2 edge⟩

theorem inputEdge_of_not_hit {e : ShutEdge} (miss : ¬ s.EdgeHits e.n.val (s.inputOn e)) :
    s.inputEdge e = (s.seeInput e.n.val (s.inputOn e), []) := by
  refine if_neg fun hit => miss ?_
  obtain ⟨en, change, free, edge⟩ := hit
  exact ⟨en, change, free, (edge_chosen_iff _ _).1 edge⟩

/-- One edge alone is seen, and then issues what it hits. -/
theorem opShutInEdge_one (s : State) (e : ShutEdge) :
    opShutInEdge [e] s = (s.inputEdge e).1.issue (s.inputEdge e).2 := rfl

theorem nth_inState_seeInput (ok : ShbOk s) (n : Fin 4) (on : Bool) :
    nth (s.seeInput n on).shb.inState n false = on :=
  nth_setAt_same _ _ _ _ (lt_of_lt_of_eq n.isLt ok.inputs.1.symm)

theorem nth_inStuck_seeInput (ok : ShbOk s) (n : Fin 4) (on : Bool) :
    nth (s.seeInput n on).shb.inStuck n false = (on && nth s.shb.inStuck n false) := by
  cases on with
  | true => rfl
  | false => exact nth_setAt_same _ _ _ _ (lt_of_lt_of_eq n.isLt ok.inputs.2.symm)

/-- An edge that hits an open line passes it (R246). -/
theorem edge_passes {e : ShutEdge} (ok : ShbOk s) (hit : s.EdgeHits e.n.val (s.inputOn e))
    (line_open : LineOpen s ((s.rd (Reg.SHB_IN_CFG e.n.val)).get Fd.SHB_IN_CFG_LINE)) :
    nth (opShutInEdge [e] s).shb.inState e.n.val false = s.inputOn e ∧
    Passed s (opShutInEdge [e] s) ((s.rd (Reg.SHB_IN_CFG e.n.val)).get Fd.SHB_IN_CFG_LINE) e.n.val
      (e.t - BitVec.ofInt 64 (signed 16 (s.rf (Reg.SHB_IN_DLY e.n.val) Fd.SHB_IN_DLY_IN_DLY))) 0 := by
  have seen_open : LineOpen (s.seeInput e.n.val (s.inputOn e)) _ := line_open
  rw [opShutInEdge_one, inputEdge_of_hit hit]
  constructor
  · dsimp only
    rw [State.edgeTrigger, show (s.seeInput _ _).rd _ = s.rd _ from rfl, issue_of_open_shb seen_open]
    exact nth_inState_seeInput ok e.n _
  · exact issue_passed seen_open ok.lines.1 _ _ _

/-- An edge that does not hit changes the input's state and its stuck mark alone. -/
theorem edge_seen {e : ShutEdge} (miss : ¬ s.EdgeHits e.n.val (s.inputOn e)) :
    opShutInEdge [e] s = s.seeInput e.n.val (s.inputOn e) := by
  rw [opShutInEdge_one, inputEdge_of_not_hit miss, issue_nil]

/-! ### Stuck inputs -/

/-- An input marked stuck (R248). -/
def State.markStuck (s : State) (n : Nat) : State :=
  { s with shb := { s.shb with inStuck := setAt s.shb.inStuck n true } }

theorem opShutInStuck_of_stuck {n : Nat} (en : s.flag (Reg.SHB_IN_CFG n) Fd.SHB_IN_CFG_EN = true)
    (on : nth s.shb.inState n false = true) (free : nth s.shb.inStuck n false = false)
    (limit : s.rf (Reg.SHB_IN_CFG n) Fd.SHB_IN_CFG_STUCK ≠ 0) :
    opShutInStuck n s = (((s.markStuck n).count Reg.SHB_STUCK_EVT).err 0x30 Err.SHUT_STUCK).raise 0x30 1 :=
  if_pos (by simp [en, on, free, limit])

theorem stuckEvt_not_event : Reg.SHB_STUCK_EVT ∉ eventRegs 0x30 := by decide

theorem count_regsBut (s : State) (a : Nat) : RegsBut [a] s (s.count a) := fun b other => by
  rw [State.count_rd, if_neg (List.ne_of_not_mem_cons other)]

/-- A counted error with its event: the counter goes up below its largest value, and nothing else but the page's event
registers changes. -/
theorem count_err_raise_rd (s : State) {a p : Nat} (outside : a ∉ eventRegs p) (c b : Nat) :
    (s.rd a ≠ 0xFFFFFFFF → (((s.count a).err p c).raise p b).rd a = s.rd a + 1) ∧
    RegsBut (a :: eventRegs p) s (((s.count a).err p c).raise p b) := by
  have events := err_raise_regsBut (s.count a) p c b
  constructor
  · intro room
    rw [events a outside, State.count_rd, if_pos rfl, if_neg room]
  · exact regsBut_trans (regsBut_mono (by simp) (count_regsBut s a)) (regsBut_mono (List.subset_cons_self _ _) events)

/-- An input that stays active too long becomes stuck, is counted and reported (R248). -/
theorem stuck_reported (ok : ShbOk s) {n : Fin 4} (en : s.flag (Reg.SHB_IN_CFG n.val) Fd.SHB_IN_CFG_EN = true)
    (on : nth s.shb.inState n.val false = true) (free : nth s.shb.inStuck n.val false = false)
    (limit : s.rf (Reg.SHB_IN_CFG n.val) Fd.SHB_IN_CFG_STUCK ≠ 0) :
    nth (opShutInStuck n s).shb.inStuck n.val false = true ∧ Reports (opShutInStuck n s) 0x30 Err.SHUT_STUCK ∧
    IrqSet (opShutInStuck n s) 0x30 1 ∧
    (s.rd Reg.SHB_STUCK_EVT ≠ 0xFFFFFFFF → (opShutInStuck n s).rd Reg.SHB_STUCK_EVT = s.rd Reg.SHB_STUCK_EVT + 1) ∧
    RegsBut (Reg.SHB_STUCK_EVT :: eventRegs 0x30) s (opShutInStuck n s) ∧ SameBytes s (opShutInStuck n s) := by
  rw [opShutInStuck_of_stuck en on free limit]
  obtain ⟨counted, kept⟩ := count_err_raise_rd (s.markStuck n) stuckEvt_not_event Err.SHUT_STUCK 1
  refine ⟨?_, raise_reports 1 (err_reports _ _ _), raise_irqSet _ _ (by decide), counted, kept, fun a => ?_⟩
  · rw [State.raise_shb, State.err_shb, State.count_shb]
    exact nth_setAt_same _ _ _ _ (lt_of_lt_of_eq n.isLt ok.inputs.2.symm)
  · exact State.rdByte_congr (by rw [State.raise_mem, State.err_mem, State.count_mem, State.markStuck]) a

/-! ### Lines -/

/-- The state of a line at rest. -/
def State.restLine (s : State) (n : Nat) : State :=
  { s with shb := { s.shb with lineUntil := setAt s.shb.lineUntil n 0 } }

theorem opLineExpiry_of_ended {n : Nat} (ended : s.lineState n = false) : opLineExpiry n s = s.restLine n :=
  if_neg (by simp [ended])

theorem nth_lineUntil_restLine (ok : ShbOk s) (n : Fin 16) : nth (s.restLine n).shb.lineUntil n 0 = 0 :=
  nth_setAt_same _ _ _ _ (lt_of_lt_of_eq n.isLt ok.lines.1.symm)

theorem lineState_of_until_zero {n : Nat} (rest : nth s.shb.lineUntil n 0 = 0) : s.lineState n = false := by
  unfold State.lineState
  rw [rest]
  simp

end Sys2Proof.Machine

namespace Sys2Proof.Claims

open Sys2Proof.Machine

/-- Settles O33: an edge is seen and issues what it hits, a stuck input and an ended line each by the equation of its
command. -/
theorem shutterInputsAndLines : Obligations.ShutterInputsAndLines := by
  unfold Obligations.ShutterInputsAndLines
  refine ⟨?edge, ?stuck, ?line⟩
  case edge =>
    intro e s ok n cfg on hit
    constructor
    · intro h line_open
      exact ⟨_, rfl, edge_passes ok h line_open⟩
    · intro miss
      have seen : opShutInEdge [e] s = s.seeInput n on := edge_seen miss
      refine ⟨_, rfl, ?_⟩
      rw [seen]
      exact ⟨nth_inState_seeInput ok e.n on, nth_inStuck_seeInput ok e.n on, rfl⟩
  case stuck =>
    intro n s ok en on free limit
    exact ⟨_, rfl, stuck_reported ok en on free limit⟩
  case line =>
    intro n s ok ended
    have atRest := nth_lineUntil_restLine ok n
    refine ⟨s.restLine n, congrArg Host.Outcome.next (opLineExpiry_of_ended ended), atRest,
      lineState_of_until_zero atRest, rfl⟩

end Sys2Proof.Claims
end

section
/-!
The registers of the schedulers through an issued trigger: neither its line nor a unit that captures on it writes them.
-/

namespace Sys2Proof.Machine

open Sys2Proof.Claims

variable {z s t : State}

/-- The registers of the schedulers hold what they held. -/
def SchedKept (s t : State) : Prop := ∀ a, 0x30100 ≤ a → a < 0x30180 → t.rd a = s.rd a

theorem sched_of_regs (e : t.regs = s.regs) (h : SchedKept z s) : SchedKept z t := fun a lo hi =>
  (State.rd_congr e a).trans (h a lo hi)

theorem sched_ite {c : Prop} [Decidable c] {a b : State} (ha : SchedKept z a) (hb : SchedKept z b) :
    SchedKept z (if c then a else b) := by
  split
  · exact ha
  · exact hb

theorem sched_foldl {α : Type} {f : State → α → State} (l : List α) (hf : ∀ a x, SchedKept z a → SchedKept z (f a x))
    (h : SchedKept z s) : SchedKept z (l.foldl f s) := by
  induction l generalizing s with
  | nil => exact h
  | cons x l ih => exact ih (hf s x h)

theorem sched_iter {f : Nat → State → State} (n : Nat) (hf : ∀ i a, SchedKept z a → SchedKept z (f i a))
    (h : SchedKept z s) : SchedKept z (iter n f s) :=
  sched_foldl (List.range n) (fun a i => hf i a) h

/-! ### Writes and counters -/

theorem wr_sched {k : Nat} (v : Word) (out : k < 0x30100 ∨ 0x30180 ≤ k) (h : SchedKept z s) :
    SchedKept z (s.wr k v) := by
  intro a lo hi
  rw [State.rd_wr_ne s v (by omega), h a lo hi]

theorem count_sched {k : Nat} (out : k < 0x30100 ∨ 0x30180 ≤ k) (h : SchedKept z s) : SchedKept z (s.count k) := by
  intro a lo hi
  rw [State.count_rd, if_neg (by omega), h a lo hi]

theorem countN_sched {k : Nat} (n : Nat) (out : k < 0x30100 ∨ 0x30180 ≤ k) (h : SchedKept z s) :
    SchedKept z (s.countN k n) := by
  intro a lo hi
  rw [State.countN_rd, if_neg (by omega), h a lo hi]

theorem eventRegs_outside_sched {p a : Nat} (lo : 0x30100 ≤ a) (hi : a < 0x30180) : a ∉ eventRegs p := by
  simp only [eventRegs, Reg.HDR_IRQ_RAW, Reg.HDR_SEQ, Reg.HDR_ERR_CODE, Reg.HDR_ERR_COUNT, List.mem_cons,
    List.not_mem_nil, or_false, not_or]
  omega

theorem raise_sched (p b : Nat) (h : SchedKept z s) : SchedKept z (s.raise p b) := fun a lo hi =>
  (raise_regsBut s p b a (eventRegs_outside_sched lo hi)).trans (h a lo hi)

theorem err_sched (p c : Nat) (h : SchedKept z s) : SchedKept z (s.err p c) := fun a lo hi =>
  (err_regsBut s p c a (eventRegs_outside_sched lo hi)).trans (h a lo hi)

/-! ### Items of a spool -/

theorem dropItem_sched (k cause : Nat) (r : Rec) (h : SchedKept z s) : SchedKept z (s.dropItem k cause r) := by
  unfold State.dropItem
  extract_lets sp L l size gaps firstDrop s1 s2 s3
  have counted : SchedKept z s2 :=
    count_sched (by decide) (countN_sched size (by simp only [Reg.SPLN_LOST_BYTES]; omega)
      (count_sched (s := s1) (by simp only [Reg.SPLN_DROPS]; omega) h))
  have raised : SchedKept z s3 := sched_ite (raise_sched _ _ counted) counted
  exact sched_ite (err_sched _ _ raised) raised

theorem storeItem_sched (k : Nat) (r : Rec) (h : SchedKept z s) : SchedKept z (s.storeItem k r) := by
  unfold State.storeItem
  extract_lets sp l n job held vis bypass it s1 s2
  have counted : SchedKept z s2 := sched_ite (count_sched (s := s1) (by decide) h) h
  exact sched_ite counted counted

theorem writeGap_sched (k : Nat) (h : SchedKept z s) : SchedKept z (s.writeGap k) := by
  unfold State.writeGap
  split
  · exact h
  · extract_lets r l s1
    have stored : SchedKept z s1 := storeItem_sched k r h
    exact raise_sched _ _ (wr_sched _ (by decide) (count_sched (by simp only [Reg.SPLN_GAPS]; omega) stored))

theorem pushOwn_sched (k : Nat) (r : Rec) (h : SchedKept z s) : SchedKept z (s.pushOwn k r) := by
  unfold State.pushOwn
  extract_lets l need s1 full
  have stored : SchedKept z s1 := storeItem_sched k r (sched_iter _ (fun _ _ => writeGap_sched k) h)
  exact sched_ite h (sched_ite (dropItem_sched k 3 r h) (sched_ite (dropItem_sched k 2 r h)
    (sched_ite stored (dropItem_sched k 1 r h))))

theorem push_sched (k : Nat) (r : Rec) (h : SchedKept z s) : SchedKept z (s.push k r) :=
  sched_ite (pushOwn_sched k r h)
    (sched_ite h (sched_of_regs (State.sendLane_regs _ _ _ _) (pushOwn_sched k r h)))

/-! ### Lines and capture units -/

theorem triggerMark_sched (t : Trigger) (h : SchedKept z s) : SchedKept z (s.triggerMark t) :=
  sched_ite h (sched_foldl (s := s.bumpSeq 0x8 (0x100 + t.line) 0x6) _ (fun _ k => push_sched k _) h)

theorem requestSync_sched (h : SchedKept z s) : SchedKept z s.requestSync :=
  sched_of_regs ((State.requestSync_frame (within_refl _) (frame_refl _ s)).regs (by decide)) h

theorem lineTrigger_sched (t : Trigger) (h : SchedKept z s) : SchedKept z (s.lineTrigger t) := by
  unfold State.lineTrigger
  extract_lets w bus s1 s2
  have marked : SchedKept z s2 :=
    triggerMark_sched t (raise_sched _ _ (count_sched (s := s1) (by simp only [Reg.SHB_TRIG]; omega) h))
  exact sched_ite (requestSync_sched marked) marked

theorem closeSegment_sched (u period : Nat) (t : Trigger) (anchorInst : Time) (pre post : List RingItem)
    (flags : Nat) (lastInst : Time) (rest : List RingItem) (h : SchedKept z s) :
    SchedKept z (s.closeSegment u period t anchorInst pre post flags lastInst rest) := by
  unfold State.closeSegment
  extract_lets c items end_ arm all payload size addr rot seg c' s1 s2 s3
  have counted : SchedKept z s1 :=
    wr_sched _ (by decide) (wr_sched (s := s.setUnit u c') _ (by simp only [Reg.SCUN_SEGS]; omega) h)
  have dead : SchedKept z s2 :=
    wr_sched _ (by simp only [Reg.SCUN_DEAD_HI]; omega) (wr_sched _ (by simp only [Reg.SCUN_DEAD_LO]; omega) counted)
  have shown : SchedKept z s3 :=
    wr_sched _ (by simp only [Reg.SCUN_STAT]; omega) (wr_sched _ (by simp only [Reg.SCUN_LAST_ROT]; omega)
      (wr_sched _ (by simp only [Reg.SCUN_LAST_BUF]; omega) (wr_sched _ (by simp only [Reg.SCUN_ARM_AT]; omega) dead)))
  exact raise_sched _ _ (wr_sched _ (by simp only [Reg.SCUN_STAT]; omega) shown)

theorem capTry_sched (u period : Nat) (h : SchedKept z s) : SchedKept z (s.capTry u period) := by
  unfold State.capTry
  extract_lets c
  split
  · exact h
  · extract_lets from_ before after pres pre short flags prior anchor its anchor' last
    refine sched_ite ?_ (sched_ite (closeSegment_sched _ _ _ _ _ _ _ _ _ h) h)
    generalize anchor = found
    cases found with
    | some n => exact closeSegment_sched _ _ _ _ _ _ _ _ _ h
    | none => exact h

theorem capTrigger_sched (u period : Nat) (t : Trigger) (h : SchedKept z s) :
    SchedKept z (s.capTrigger u period t) := by
  unfold State.capTrigger
  extract_lets c known early left late first s1 s2 late' r
  have begun : SchedKept z (((s.setUnit u { c with acc := some (t, late), parked := s.parked }).wr
      (Reg.SCUN_LAST_TRIG u) (loW t.inst)).capTry u period) :=
    capTry_sched u period (wr_sched _ (by simp only [Reg.SCUN_LAST_TRIG]; omega) h)
  have counted : SchedKept z s1 :=
    count_sched (by decide) (count_sched (s := s.setUnit u { c with blind := c.blind + 1, blindAll := c.blindAll + 1 })
      (by simp only [Reg.SCUN_BLIND]; omega) h)
  have blind : SchedKept z s2 := raise_sched _ _ (sched_ite (err_sched _ _ counted) counted)
  refine sched_ite h (sched_ite (count_sched (by simp only [Reg.SCUN_IGNORED]; omega) h)
    (sched_ite begun (sched_ite h ?_)))
  split
  · exact blind
  · exact push_sched (s := s2.bumpSeq 0x6 u 0x6) _ r blind

theorem unitTrigger_sched (t : Trigger) (h : SchedKept z s) : SchedKept z (s.unitTrigger t) :=
  sched_iter 32 (fun u _ ha => sched_ite (capTrigger_sched u _ t ha) ha) h

theorem noteTrig_sched (t : Trigger) (h : SchedKept z s) : SchedKept z (s.noteTrig t) := fun a lo hi =>
  (noteTrig_rd s t (by simp only [Reg.SHB_MERGED]; omega)).trans (h a lo hi)

end Sys2Proof.Machine
end

section
/-!
A scheduler's trigger: what it issues, counts and advances (R251).
-/

namespace Sys2Proof.Machine

open Sys2Proof.Claims

variable {s t : State}

/-! ### What a scheduler issues -/

/-- An issued trigger leaves the registers of the schedulers. -/
theorem issue_of_open_sched {line : Nat} (line_open : LineOpen s line) (src : Nat) (inst : Time) (arg0 : Nat) :
    SchedKept s (s.issue [s.mkTrigger line src inst arg0]) := by
  rw [issue_of_open line_open]
  exact unitTrigger_sched _ (lineTrigger_sched _ (noteTrig_sched _ fun _ _ _ => rfl))

/-- A scheduler with one trigger less to go, unless it repeats (R251). -/
def State.schedCount (s : State) (k : Nat) : State :=
  if s.flag (Reg.SHB_SCHED_CFG k) Fd.SHB_SCHED_CFG_REPEAT then s
  else s.wr (Reg.SHB_SCHED_LEFT k) (s.rd (Reg.SHB_SCHED_LEFT k) - 1)

/-- A scheduler at its next compare value, or spent with a period of 0 (R251). -/
def State.schedNext (s : State) (k steps per : Nat) (v : Word) : State :=
  if per = 0 then { s with shb := { s.shb with armed := setAt s.shb.armed k false } }
  else s.wr (Reg.SHB_SCHED_AT k) (v + w32 (steps * per))

/-- A scheduler past a trigger: counted and advanced by `steps` periods. -/
def State.schedAdvance (s : State) (k steps : Nat) : State :=
  (s.schedCount k).schedNext k steps (s.rd (Reg.SHB_SCHED_PER k)).toNat (s.rd (Reg.SHB_SCHED_AT k))

theorem schedCount_rd (s : State) (k a : Nat) :
    (s.schedCount k).rd a =
      if a = Reg.SHB_SCHED_LEFT k ∧ s.flag (Reg.SHB_SCHED_CFG k) Fd.SHB_SCHED_CFG_REPEAT = false then
        s.rd (Reg.SHB_SCHED_LEFT k) - 1
      else s.rd a := by
  unfold State.schedCount
  cases s.flag (Reg.SHB_SCHED_CFG k) Fd.SHB_SCHED_CFG_REPEAT <;> simp [State.rd_wr, eq_comm]

theorem schedCount_shb (s : State) (k : Nat) : (s.schedCount k).shb = s.shb := by
  unfold State.schedCount
  split <;> rfl

theorem schedCount_ltc (s : State) (k : Nat) : (s.schedCount k).ltc = s.ltc := by
  unfold State.schedCount
  split <;> rfl

theorem schedNext_rd (s : State) (k steps per : Nat) (v : Word) (a : Nat) :
    (s.schedNext k steps per v).rd a =
      if a = Reg.SHB_SCHED_AT k ∧ per ≠ 0 then v + w32 (steps * per) else s.rd a := by
  unfold State.schedNext
  by_cases single : per = 0
  · simp [single]
  · simp [single, State.rd_wr, eq_comm]

theorem schedNext_shb (s : State) (k steps per : Nat) (v : Word) :
    (s.schedNext k steps per v).shb = { s.shb with
      armed := if per = 0 then setAt s.shb.armed k false else s.shb.armed } := by
  unfold State.schedNext
  split <;> rfl

theorem schedNext_ltc (s : State) (k steps per : Nat) (v : Word) : (s.schedNext k steps per v).ltc = s.ltc := by
  unfold State.schedNext
  split <;> rfl

theorem schedAdvance_ltc (s : State) (k steps : Nat) : (s.schedAdvance k steps).ltc = s.ltc :=
  (schedNext_ltc _ _ _ _ _).trans (schedCount_ltc s k)

theorem schedAdvance_shb (s : State) (k steps : Nat) :
    (s.schedAdvance k steps).shb = { s.shb with
      armed := if (s.rd (Reg.SHB_SCHED_PER k)).toNat = 0 then setAt s.shb.armed k false else s.shb.armed } := by
  rw [State.schedAdvance, schedNext_shb, schedCount_shb]

theorem schedAdvance_regsBut (s : State) (k steps : Nat) :
    RegsBut [Reg.SHB_SCHED_LEFT k, Reg.SHB_SCHED_AT k] s (s.schedAdvance k steps) := by
  intro a other
  simp only [List.mem_cons, List.not_mem_nil, or_false, not_or] at other
  rw [State.schedAdvance, schedNext_rd, if_neg (fun h => other.2 h.1), schedCount_rd, if_neg (fun h => other.1 h.1)]

theorem schedIssue_eq (s : State) (k steps : Nat) :
    s.schedIssue k steps = (s.schedAdvance k steps).issue [(s.schedAdvance k steps).mkTrigger
      (s.rf (Reg.SHB_SCHED_CFG k) Fd.SHB_SCHED_CFG_LINE) (0x7000 + k) (s.fullTime (s.rd (Reg.SHB_SCHED_AT k))) 0] := by
  have now : ∀ line src inst arg0, (s.schedAdvance k steps).mkTrigger line src inst arg0 = s.mkTrigger line src inst arg0 :=
    fun _ _ _ _ => by rw [State.mkTrigger, schedAdvance_ltc, State.mkTrigger]
  rw [now]
  rfl

theorem lineCfg_not_sched {line : Nat} (inside : line < 16) (k : Nat) :
    Reg.SHB_LINE_CFG line ∉ [Reg.SHB_SCHED_LEFT k, Reg.SHB_SCHED_AT k] := by
  simp only [Reg.SHB_LINE_CFG, Reg.SHB_SCHED_LEFT, Reg.SHB_SCHED_AT, List.mem_cons, List.not_mem_nil, or_false, not_or]
  omega

theorem pairStat_not_sched {k : Nat} (inside : k < 8) : Reg.PAI_STAT ∉ [Reg.SHB_SCHED_LEFT k, Reg.SHB_SCHED_AT k] := by
  simp only [Reg.PAI_STAT, Reg.SHB_SCHED_LEFT, Reg.SHB_SCHED_AT, List.mem_cons, List.not_mem_nil, or_false, not_or]
  omega

theorem schedAdvance_open {k line : Nat} (inside : k < 8) (steps : Nat) (line_open : LineOpen s line) :
    LineOpen (s.schedAdvance k steps) line :=
  lineOpen_congr (schedAdvance_regsBut s k steps _ (lineCfg_not_sched line_open.1 k)) (by rw [schedAdvance_shb])
    (schedAdvance_ltc s k steps) (schedAdvance_regsBut s k steps _ (pairStat_not_sched inside)) line_open

/-- A scheduler's trigger passes its open line, with the compare value as instant (R251). -/
theorem schedIssue_passed {k : Nat} (inside : k < 8) (size : s.shb.lineUntil.length = 16) (steps : Nat)
    (line_open : LineOpen s (s.rf (Reg.SHB_SCHED_CFG k) Fd.SHB_SCHED_CFG_LINE)) :
    Passed s (s.schedIssue k steps) (s.rf (Reg.SHB_SCHED_CFG k) Fd.SHB_SCHED_CFG_LINE) (0x7000 + k)
      (s.fullTime (s.rd (Reg.SHB_SCHED_AT k))) 0 := by
  rw [schedIssue_eq]
  exact passed_congr (schedAdvance_regsBut s k steps _ (lineCfg_not_sched line_open.1 k)) (schedAdvance_ltc s k steps)
    (issue_passed (schedAdvance_open inside steps line_open) (by rw [schedAdvance_shb]; exact size) _ _ _)

/-- Of the bus, a scheduler's trigger on an open line changes nothing gathered, and the arming only where the period is 0. -/
theorem schedIssue_shb {k : Nat} (inside : k < 8) (steps : Nat)
    (line_open : LineOpen s (s.rf (Reg.SHB_SCHED_CFG k) Fd.SHB_SCHED_CFG_LINE)) :
    (s.schedIssue k steps).shb.gather = s.shb.gather ∧
    (s.schedIssue k steps).shb.armed =
      if (s.rd (Reg.SHB_SCHED_PER k)).toNat = 0 then setAt s.shb.armed k false else s.shb.armed := by
  rw [schedIssue_eq, issue_of_open_shb (schedAdvance_open inside steps line_open), schedAdvance_shb]
  exact ⟨rfl, rfl⟩

theorem schedIssue_rd {k a : Nat} (inside : k < 8) (steps : Nat)
    (line_open : LineOpen s (s.rf (Reg.SHB_SCHED_CFG k) Fd.SHB_SCHED_CFG_LINE)) (lo : 0x30100 ≤ a) (hi : a < 0x30180) :
    (s.schedIssue k steps).rd a = (s.schedAdvance k steps).rd a := by
  rw [schedIssue_eq]
  exact issue_of_open_sched (schedAdvance_open inside steps line_open) _ _ _ a lo hi

theorem schedLeft_ne_at (k j : Nat) : Reg.SHB_SCHED_LEFT k ≠ Reg.SHB_SCHED_AT j := by
  simp only [Reg.SHB_SCHED_LEFT, Reg.SHB_SCHED_AT]
  omega

theorem schedAdvance_left (s : State) (k steps : Nat) :
    (s.schedAdvance k steps).rd (Reg.SHB_SCHED_LEFT k) =
      if s.flag (Reg.SHB_SCHED_CFG k) Fd.SHB_SCHED_CFG_REPEAT = true then s.rd (Reg.SHB_SCHED_LEFT k)
      else s.rd (Reg.SHB_SCHED_LEFT k) - 1 := by
  rw [State.schedAdvance, schedNext_rd, if_neg (fun h => schedLeft_ne_at k k h.1), schedCount_rd]
  cases s.flag (Reg.SHB_SCHED_CFG k) Fd.SHB_SCHED_CFG_REPEAT <;> simp

/-- The compare value goes on by one period; a period of 0 adds nothing. -/
theorem schedAdvance_at (s : State) (k : Nat) :
    (s.schedAdvance k 1).rd (Reg.SHB_SCHED_AT k) = s.rd (Reg.SHB_SCHED_AT k) + s.rd (Reg.SHB_SCHED_PER k) := by
  rw [State.schedAdvance, schedNext_rd, schedCount_rd, if_neg (c := _ = Reg.SHB_SCHED_LEFT k ∧ _)
    (fun h => schedLeft_ne_at k k h.1.symm)]
  by_cases single : (s.rd (Reg.SHB_SCHED_PER k)).toNat = 0
  · have zero : s.rd (Reg.SHB_SCHED_PER k) = 0 := BitVec.eq_of_toNat_eq single
    simp [zero]
  · rw [if_pos ⟨rfl, single⟩, Nat.one_mul, w32, BitVec.ofNat_toNat, BitVec.setWidth_eq]

/-- A ready scheduler at 24 ticks before its compare value issues, counts and advances (R251). -/
theorem schedulerFire_issues {k : Fin 8} (ok : ShbOk s) (ready : s.schedReady k.val = true)
    (line_open : LineOpen s (s.rf (Reg.SHB_SCHED_CFG k.val) Fd.SHB_SCHED_CFG_LINE)) :
    (s.schedIssue k.val 1).rd (Reg.SHB_SCHED_LEFT k.val) =
      (if s.flag (Reg.SHB_SCHED_CFG k.val) Fd.SHB_SCHED_CFG_REPEAT = true then s.rd (Reg.SHB_SCHED_LEFT k.val)
        else s.rd (Reg.SHB_SCHED_LEFT k.val) - 1) ∧
    (s.schedIssue k.val 1).rd (Reg.SHB_SCHED_AT k.val) =
      s.rd (Reg.SHB_SCHED_AT k.val) + s.rd (Reg.SHB_SCHED_PER k.val) ∧
    nth (s.schedIssue k.val 1).shb.armed k.val false = (s.rd (Reg.SHB_SCHED_PER k.val) != 0) := by
  have inside := k.isLt
  refine ⟨?_, ?_, ?_⟩
  · rw [schedIssue_rd inside 1 line_open (by simp only [Reg.SHB_SCHED_LEFT]; omega)
      (by simp only [Reg.SHB_SCHED_LEFT]; omega), schedAdvance_left]
  · rw [schedIssue_rd inside 1 line_open (by simp only [Reg.SHB_SCHED_AT]; omega)
      (by simp only [Reg.SHB_SCHED_AT]; omega), schedAdvance_at]
  · have armed : nth s.shb.armed k.val false = true := by
      simp only [State.schedReady, Bool.and_eq_true] at ready
      exact ready.1.2
    rw [(schedIssue_shb inside 1 line_open).2]
    by_cases single : (s.rd (Reg.SHB_SCHED_PER k.val)).toNat = 0
    · have zero : s.rd (Reg.SHB_SCHED_PER k.val) = 0 := BitVec.eq_of_toNat_eq single
      rw [if_pos single, nth_setAt_same _ _ _ _ (lt_of_lt_of_eq k.isLt ok.schedulers.symm), zero]
      rfl
    · have some_period : s.rd (Reg.SHB_SCHED_PER k.val) ≠ 0 := fun zero => single (by rw [zero]; rfl)
      rw [if_neg single, armed]
      exact (bne_iff_ne.2 some_period).symm

end Sys2Proof.Machine
end

section
/-!
Writes of the schedulers' registers: what an allowed write of SCHED_CFG or SCHED_AT sets (R251, R355).
-/

namespace Sys2Proof.Machine

open Sys2Proof.Claims

variable {s t : State}

/-! ### Writes of the schedulers' registers -/

theorem accessKey_shutter (s : State) (x : Nat) {addr : Nat} (page : addr / 0x1000 = 0x30) :
    s.accessKey x addr = addr := by
  have pages : ∀ b ∈ [Reg.FLT_CH_INDEX, Reg.LIN_CH_INDEX, Reg.ENV_CH_INDEX, Reg.SPL_SPOOL, Reg.TEL_RAIL_SEL],
      b / 0x1000 ≠ 0x30 := by decide
  unfold State.accessKey
  rw [if_neg (fun mem => pages addr (by simpa using mem) page), page]
  rfl

/-- A register of the schedulers is set as a live one, with the settings partition following (R41). -/
theorem setReg_sched (s : State) {addr : Nat} (page : addr / 0x1000 = 0x30) (off : 0x100 ≤ addr % 0x1000) (v : Word) :
    s.setReg addr v = (true, (s.setLive addr v).storeSetting addr) := by
  have acting : ∀ b ∈ actingRegs, b / 0x1000 ≠ 0x30 := by decide
  have elsewhere : addr ∉ actingRegs := fun mem => acting addr mem page
  simp only [List.mem_cons, List.not_mem_nil, or_false, not_or] at elsewhere
  obtain ⟨gate0, gate1, gate2, ballast, mnt, -, ul0, ul1, tim⟩ := elsewhere
  have notIn : ¬ (0x40 ≤ addr % 0x1000 ∧ addr % 0x1000 < 0x50) := by omega
  have notLine : ¬ (0xB0 ≤ addr % 0x1000 ∧ addr % 0x1000 < 0xF0) := by omega
  simp [State.setReg, gate0, gate1, gate2, ballast, mnt, ul0, ul1, tim, page, notIn, notLine]

/-- With no plan in force a value in range stands in its scheduler's register (R251, R355). -/
theorem commit_sched {x addr : Nat} {v : Word} {r : RegRow} (page : addr / 0x1000 = 0x30) (off : 0x100 ≤ addr % 0x1000)
    (row : rowAt addr = some r) (isRw : r.acc = .rw) (idle : s.pln.run = none) (fits : v &&& r.mask = v)
    (range : rangeOk addr (s.rd addr) v = true) :
    s.commit x addr v = ((s.setLive addr v).storeSetting addr).copyWrite x addr v := by
  have notMask : addr ≠ Reg.CTX_MASK_DATA := by
    rintro rfl
    exact absurd page (by decide)
  have notPoints : addr ≠ Reg.FEN_POINTS := by
    rintro rfl
    exact absurd page (by decide)
  have points : s.pointsOk addr v = true := if_neg notPoints
  have notCtrl : addr % 0x1000 ≠ 8 := by omega
  have notEnable : ¬ (0x18 ≤ addr % 0x1000 ∧ addr % 0x1000 < 0x28) := by omega
  have set : s.writeRw x addr v = (true, (s.setLive addr v).storeSetting addr) := by
    simp [State.writeRw, notMask, accessKey_shutter s x page, range, points, idle, setReg_sched s page off]
  simp only [State.commit, row, isRw, fits, notCtrl, notEnable, set, if_true, if_false]

/-- An access that is allowed to set a scheduler's register: what it sets, with the answer, and the end of the command. -/
theorem schedWrite_state {who : Accessor} {addr : Nat} {v : Word} {r : RegRow} (page : addr / 0x1000 = 0x30)
    (off : 0x100 ≤ addr % 0x1000) (allowed : Writable s who addr) (row : rowAt addr = some r) (isRw : r.acc = .rw)
    (idle : s.pln.run = none) (fits : v &&& r.mask = v) (range : rangeOk addr (s.rd addr) v = true)
    (quiet : (s.setLive addr v).shb.gather = []) :
    ∃ t, (s.accessWrite who addr v).flushTrig = t ∧ Answered t stOk [] ∧ t.regs = (s.setLive addr v).regs ∧
      t.mem = (s.setLive addr v).mem ∧ t.shb = (s.setLive addr v).shb := by
  refine ⟨_, rfl, ?_⟩
  rw [accessWrite_of_writable allowed, commit_sched page off row isRw idle fits range, flushTrig_of_gather_nil]
  · exact ⟨rfl, (copyWrite_regs _ _ _ _).trans (storeSetting_regs _ _),
    (copyWrite_mem _ _ _ _).trans (storeSetting_mem _ _),
      (copyWrite_shb _ _ _ _).trans (storeSetting_shb _ _)⟩
  · show (State.copyWrite _ _ _ _).shb.gather = []
    rw [copyWrite_shb, storeSetting_shb, quiet]

theorem schedCfg_page (k : Fin 8) :
    Reg.SHB_SCHED_CFG k.val / 0x1000 = 0x30 ∧ 0x100 ≤ Reg.SHB_SCHED_CFG k.val % 0x1000 := by
  revert k
  decide

theorem schedAt_page (k : Fin 8) :
    Reg.SHB_SCHED_AT k.val / 0x1000 = 0x30 ∧ 0x100 ≤ Reg.SHB_SCHED_AT k.val % 0x1000 := by
  revert k
  decide

theorem schedCfg_rw (k : Fin 8) : (rowAt (Reg.SHB_SCHED_CFG k.val)).map RegRow.acc = some .rw := by
  revert k
  decide

theorem schedAt_row (k : Fin 8) : ∃ r, rowAt (Reg.SHB_SCHED_AT k.val) = some r ∧ r.acc = .rw ∧ r.mask = 0xFFFFFFFF := by
  have rows : ∀ k : Fin 8, (rowAt (Reg.SHB_SCHED_AT k.val)).any
    (fun r => r.acc == .rw && r.mask == 0xFFFFFFFF) = true := by
    decide
  obtain ⟨r, row, kind⟩ := (Option.any_eq_true _ _).1 (rows k)
  simp only [Bool.and_eq_true, beq_iff_eq] at kind
  exact ⟨r, row, kind⟩

theorem schedAt_range (k : Fin 8) (old new : Word) : rangeOk (Reg.SHB_SCHED_AT k.val) old new = true := by
  obtain ⟨page, off⟩ := schedAt_page k
  have notIn : ¬ (0x40 ≤ Reg.SHB_SCHED_AT k.val % 0x1000 ∧ Reg.SHB_SCHED_AT k.val % 0x1000 < 0x50) := by omega
  have free : fieldRanges (Reg.SHB_SCHED_AT k.val) = [] := by
    unfold fieldRanges
    simp only [page, notIn]
    rfl
  have notPrio : Reg.SHB_SCHED_AT k.val ≠ Reg.CLK_PRIO := fun e => absurd (e ▸ page) (by decide)
  simp [rangeOk, free, notPrio]

theorem setLive_schedCfg (s : State) (k : Fin 8) (v : Word) :
    s.setLive (Reg.SHB_SCHED_CFG k.val) v =
      (s.wr (Reg.SHB_SCHED_CFG k.val) v).schedCfgSet k.val (s.rd (Reg.SHB_SCHED_CFG k.val)) := by
  have own : ∀ k : Fin 8, (List.range 8).any (fun j => Reg.SHB_SCHED_CFG j == Reg.SHB_SCHED_CFG k.val) = true ∧
      ((List.range 8).find? (fun j => Reg.SHB_SCHED_CFG j == Reg.SHB_SCHED_CFG k.val)).getD 0 = k.val ∧
      ¬ 0x1000000 ≤ Reg.SHB_SCHED_CFG k.val := by decide
  obtain ⟨found, first, low⟩ := own k
  unfold State.setLive
  rw [if_neg low, if_pos ⟨(schedCfg_page k).1, found⟩, first]

theorem setLive_schedAt (s : State) (k : Fin 8) (v : Word) :
    s.setLive (Reg.SHB_SCHED_AT k.val) v = (s.wr (Reg.SHB_SCHED_AT k.val) v).schedAtSet k.val := by
  have own : ∀ k : Fin 8, (List.range 8).any (fun j => Reg.SHB_SCHED_AT j == Reg.SHB_SCHED_AT k.val) = true ∧
      ((List.range 8).find? (fun j => Reg.SHB_SCHED_AT j == Reg.SHB_SCHED_AT k.val)).getD 0 = k.val ∧
      ¬ 0x1000000 ≤ Reg.SHB_SCHED_AT k.val ∧
      (List.range 8).any (fun j => Reg.SHB_SCHED_CFG j == Reg.SHB_SCHED_AT k.val) = false := by decide
  obtain ⟨found, first, low, notCfg⟩ := own k
  unfold State.setLive
  rw [if_neg low, if_neg (by simp [notCfg]), if_pos ⟨(schedAt_page k).1, found⟩, first]

end Sys2Proof.Machine
end

section
/-!
The arming of a scheduler, and what SCHED_LEFT reads (R251).
-/

namespace Sys2Proof.Machine

open Sys2Proof.Claims

variable {s t : State}

/-! ### Arming -/

/-- A scheduler armed, with its next compare value ahead. -/
def State.armSched (s : State) (k : Nat) : State := { s with shb := { s.shb with armed := setAt s.shb.armed k true } }

@[simp] theorem armSched_rd (s : State) (k a : Nat) : (s.armSched k).rd a = s.rd a := rfl
@[simp] theorem armSched_flag (s : State) (k a : Nat) (f : Fld) : (s.armSched k).flag a f = s.flag a f := rfl
@[simp] theorem armSched_now (s : State) (k : Nat) : (s.armSched k).now = s.now := rfl
@[simp] theorem wr_now (s : State) (a : Nat) (v : Word) : (s.wr a v).now = s.now := rfl

theorem schedAtSet_eq (s : State) (k : Nat) : s.schedAtSet k = (s.armSched k).schedLate k := rfl

theorem schedLate_of_ahead {k : Nat} (ahead : reached s.now (s.rd (Reg.SHB_SCHED_AT k)) = false) : s.schedLate k = s :=
  if_neg (by simp [ahead])

theorem schedLate_of_due {k : Nat} (ready : s.schedReady k = true)
    (due : reached s.now (s.rd (Reg.SHB_SCHED_AT k)) = true) : ∃ steps, s.schedLate k = s.schedIssue k steps :=
  ⟨_, if_pos (by simp [ready, due])⟩

theorem schedCfgSet_of_rise {k : Nat} {old : Word} (was : old.get Fd.SHB_SCHED_CFG_EN = 0)
    (en : (s.rd (Reg.SHB_SCHED_CFG k)).get Fd.SHB_SCHED_CFG_EN = 1) :
    s.schedCfgSet k old = ((s.wr (Reg.SHB_SCHED_LEFT k)
      (w32 ((s.rd (Reg.SHB_SCHED_CFG k)).get Fd.SHB_SCHED_CFG_COUNT))).armSched k).schedLate k := by
  simp only [State.schedCfgSet, was, en, and_self, true_or, if_true]
  rfl

theorem schedCfg_ne_at (k j : Nat) : Reg.SHB_SCHED_CFG k ≠ Reg.SHB_SCHED_AT j := by
  simp only [Reg.SHB_SCHED_CFG, Reg.SHB_SCHED_AT]
  omega

/-- A rise of EN loads SCHED_LEFT with COUNT and arms the scheduler (R251). -/
theorem setLive_rise {k : Fin 8} {v : Word} (was : (s.rd (Reg.SHB_SCHED_CFG k.val)).get Fd.SHB_SCHED_CFG_EN = 0)
    (en : v.get Fd.SHB_SCHED_CFG_EN = 1) (ahead : reached s.now (s.rd (Reg.SHB_SCHED_AT k.val)) = false) :
    s.setLive (Reg.SHB_SCHED_CFG k.val) v =
      ((s.wr (Reg.SHB_SCHED_CFG k.val) v).wr (Reg.SHB_SCHED_LEFT k.val)
        (w32 (v.get Fd.SHB_SCHED_CFG_COUNT))).armSched k.val := by
  rw [setLive_schedCfg, schedCfgSet_of_rise was (by rw [State.rd_wr_same]; exact en), State.rd_wr_same]
  apply schedLate_of_ahead
  rw [armSched_rd, State.rd_wr_ne _ _ (schedLeft_ne_at k k), State.rd_wr_ne _ _ (schedCfg_ne_at k k), armSched_now,
    wr_now, wr_now, ahead]

/-- A compare value ahead arms its scheduler (R251). -/
theorem setLive_schedAt_ahead {k : Fin 8} {v : Word} (ahead : reached s.now v = false) :
    s.setLive (Reg.SHB_SCHED_AT k.val) v = (s.wr (Reg.SHB_SCHED_AT k.val) v).armSched k.val := by
  rw [setLive_schedAt, schedAtSet_eq]
  apply schedLate_of_ahead
  rw [armSched_rd, State.rd_wr_same, armSched_now, wr_now, ahead]

/-- A compare value already reached gives one late trigger at once (R251). -/
theorem setLive_schedAt_late {k : Fin 8} {v : Word} (ok : ShbOk s) (due : reached s.now v = true)
    (en : s.flag (Reg.SHB_SCHED_CFG k.val) Fd.SHB_SCHED_CFG_EN = true)
    (again : s.flag (Reg.SHB_SCHED_CFG k.val) Fd.SHB_SCHED_CFG_REPEAT = true) :
    ∃ steps, s.setLive (Reg.SHB_SCHED_AT k.val) v =
      ((s.wr (Reg.SHB_SCHED_AT k.val) v).armSched k.val).schedIssue k.val steps := by
  have cfg : ∀ f, (s.wr (Reg.SHB_SCHED_AT k.val) v).flag (Reg.SHB_SCHED_CFG k.val) f =
      s.flag (Reg.SHB_SCHED_CFG k.val) f := fun f => by
    rw [State.flag, State.rf, State.rd_wr_ne _ _ (schedCfg_ne_at k k).symm, State.flag, State.rf]
  have armed : nth ((s.wr (Reg.SHB_SCHED_AT k.val) v).armSched k.val).shb.armed k.val false = true :=
    nth_setAt_same _ _ _ _ (lt_of_lt_of_eq k.isLt ok.schedulers.symm)
  rw [setLive_schedAt, schedAtSet_eq]
  exact schedLate_of_due (by simp [State.schedReady, cfg, en, again, armed]) (by simp [due])

/-! ### What SCHED_LEFT reads -/

theorem schedLeft_row (k : Fin 8) : ∃ r, rowAt (Reg.SHB_SCHED_LEFT k.val) = some r ∧ r.acc ≠ .wo := by
  have rows : ∀ k : Fin 8, (rowAt (Reg.SHB_SCHED_LEFT k.val)).any (fun r => r.acc != .wo) = true := by decide
  obtain ⟨r, row, kind⟩ := (Option.any_eq_true _ _).1 (rows k)
  exact ⟨r, row, bne_iff_ne.1 kind⟩

theorem regValue_schedLeft (s : State) (x : Nat) (k : Fin 8) :
    s.regValue x (Reg.SHB_SCHED_LEFT k.val) = s.schedLeft k.val := by
  obtain ⟨r, row, readable⟩ := schedLeft_row k
  have place : ∀ k : Fin 8, Reg.SHB_SCHED_LEFT k.val / 0x1000 = 0x30 ∧ ¬ Reg.SHB_SCHED_LEFT k.val % 0x1000 < 0x40 ∧
      Reg.SHB_SCHED_LEFT k.val % 0x1000 ≠ 0x188 ∧
      (List.range 8).find? (fun j => Reg.SHB_SCHED_LEFT j == 0x1000 * 0x30 + Reg.SHB_SCHED_LEFT k.val % 0x1000) =
        some k.val := by decide
  obtain ⟨page, body, notStat, own⟩ := place k
  have view : s.view x (Reg.SHB_SCHED_LEFT k.val / 0x1000) (Reg.SHB_SCHED_LEFT k.val % 0x1000) =
      some (s.schedLeft k.val) := by
    rw [page]
    unfold State.view
    rw [if_neg body]
    show s.shutterView 0x30 _ = _
    unfold State.shutterView
    rw [if_pos rfl, if_neg notStat, own]
    rfl
  simp only [State.regValue, row, readable, view, if_false]

end Sys2Proof.Machine
end

section
/-!
The commands of the schedulers and of host triggers (R251).
-/

namespace Sys2Proof.Machine

open Sys2Proof.Claims

variable {s t : State}

/-! ### The commands of the schedulers and of host triggers -/

/-- The word of SCHED_LEFT as read, by the REPEAT bit written (R251). -/
theorem schedLeft_of_cfg {k : Nat} {v : Word} (cfg : s.rd (Reg.SHB_SCHED_CFG k) = v) :
    s.schedLeft k = if v.get Fd.SHB_SCHED_CFG_REPEAT = 1 then 0xFFFF else s.rd (Reg.SHB_SCHED_LEFT k) := by
  have bit : v.get Fd.SHB_SCHED_CFG_REPEAT < 2 := Nat.mod_lt _ (by decide)
  unfold State.schedLeft State.flag State.rf
  rw [cfg]
  by_cases again : v.get Fd.SHB_SCHED_CFG_REPEAT = 1
  · simp [again]
  · have once : v.get Fd.SHB_SCHED_CFG_REPEAT = 0 := by omega
    simp [once]

/-- A SCHED_CFG write that raises EN (R251). -/
theorem schedCfgWrite_arms {who : Accessor} {k : Fin 8} {v : Word} {r : RegRow} (ok : ShbOk s)
    (allowed : Writable s who (Reg.SHB_SCHED_CFG k.val)) (idle : s.pln.run = none)
    (row : rowAt (Reg.SHB_SCHED_CFG k.val) = some r) (fits : v &&& r.mask = v)
    (range : rangeOk (Reg.SHB_SCHED_CFG k.val) (s.rd (Reg.SHB_SCHED_CFG k.val)) v = true)
    (was : (s.rd (Reg.SHB_SCHED_CFG k.val)).get Fd.SHB_SCHED_CFG_EN = 0) (en : v.get Fd.SHB_SCHED_CFG_EN = 1)
    (ahead : reached s.now (s.rd (Reg.SHB_SCHED_AT k.val)) = false) :
    ∃ t, exec (.schedCfgWrite who k v) s = .next t ∧ Answered t stOk [] ∧ t.rd (Reg.SHB_SCHED_CFG k.val) = v ∧
      t.rd (Reg.SHB_SCHED_LEFT k.val) = w32 (v.get Fd.SHB_SCHED_CFG_COUNT) ∧
      t.regValue 0 (Reg.SHB_SCHED_LEFT k.val) =
        (if v.get Fd.SHB_SCHED_CFG_REPEAT = 1 then 0xFFFF else w32 (v.get Fd.SHB_SCHED_CFG_COUNT)) ∧
      nth t.shb.armed k.val false = true ∧
      RegsBut [Reg.SHB_SCHED_CFG k.val, Reg.SHB_SCHED_LEFT k.val] s t ∧ SameBytes s t := by
  have isRw : r.acc = .rw := by simpa [row] using schedCfg_rw k
  have set := setLive_rise was en ahead
  obtain ⟨page, off⟩ := schedCfg_page k
  obtain ⟨t, run, answer, regs, mem, shb⟩ := schedWrite_state page off allowed row isRw idle fits range
    (by rw [set]; exact ok.gathered)
  rw [set] at regs mem shb
  have cfg : t.rd (Reg.SHB_SCHED_CFG k.val) = v := by
    rw [State.rd_congr regs, armSched_rd, State.rd_wr_ne _ _
      (by simp only [Reg.SHB_SCHED_LEFT, Reg.SHB_SCHED_CFG]; omega),
      State.rd_wr_same]
  have left : t.rd (Reg.SHB_SCHED_LEFT k.val) = w32 (v.get Fd.SHB_SCHED_CFG_COUNT) := by
    rw [State.rd_congr regs, armSched_rd, State.rd_wr_same]
  refine ⟨t, congrArg Host.Outcome.next run, answer, cfg, left, ?_, ?_, fun a other => ?_, State.rdByte_congr mem⟩
  · rw [regValue_schedLeft, schedLeft_of_cfg cfg, left]
  · rw [shb]
    exact nth_setAt_same _ _ _ _ (lt_of_lt_of_eq k.isLt ok.schedulers.symm)
  · simp only [List.mem_cons, List.not_mem_nil, or_false, not_or] at other
    rw [State.rd_congr regs, armSched_rd, State.rd_wr_ne _ _ (Ne.symm other.2), State.rd_wr_ne _ _ (Ne.symm other.1)]

/-- A SCHED_AT write, by what it sets. -/
theorem schedAtWrite_state {who : Accessor} {k : Fin 8} {v : Word} (allowed : Writable s who (Reg.SHB_SCHED_AT k.val))
    (idle : s.pln.run = none) (quiet : (s.setLive (Reg.SHB_SCHED_AT k.val) v).shb.gather = []) :
    ∃ t, exec (.schedAtWrite who k v) s = .next t ∧ Answered t stOk [] ∧
      t.regs = (s.setLive (Reg.SHB_SCHED_AT k.val) v).regs ∧ t.mem = (s.setLive (Reg.SHB_SCHED_AT k.val) v).mem ∧
      t.shb = (s.setLive (Reg.SHB_SCHED_AT k.val) v).shb := by
  obtain ⟨page, off⟩ := schedAt_page k
  obtain ⟨r, row, isRw, mask⟩ := schedAt_row k
  have fits : v &&& r.mask = v := by
    rw [mask]
    exact BitVec.and_allOnes
  obtain ⟨t, run, rest⟩ := schedWrite_state page off allowed row isRw idle fits (schedAt_range k _ _) quiet
  exact ⟨t, congrArg Host.Outcome.next run, rest⟩

/-- A SCHED_AT write with its value ahead (R251). -/
theorem schedAtWrite_arms {who : Accessor} {k : Fin 8} {v : Word} (ok : ShbOk s)
    (allowed : Writable s who (Reg.SHB_SCHED_AT k.val)) (idle : s.pln.run = none) (ahead : reached s.now v = false) :
    ∃ t, exec (.schedAtWrite who k v) s = .next t ∧ Answered t stOk [] ∧ t.rd (Reg.SHB_SCHED_AT k.val) = v ∧
      nth t.shb.armed k.val false = true ∧ RegsBut [Reg.SHB_SCHED_AT k.val] s t ∧ SameBytes s t := by
  have set := setLive_schedAt_ahead (k := k) ahead
  obtain ⟨t, run, answer, regs, mem, shb⟩ := schedAtWrite_state allowed idle (by rw [set]; exact ok.gathered)
  rw [set] at regs mem shb
  refine ⟨t, run, answer, ?_, ?_, fun a other => ?_, State.rdByte_congr mem⟩
  · rw [State.rd_congr regs, armSched_rd, State.rd_wr_same]
  · rw [shb]
    exact nth_setAt_same _ _ _ _ (lt_of_lt_of_eq k.isLt ok.schedulers.symm)
  · rw [State.rd_congr regs, armSched_rd, State.rd_wr_ne _ _ (Ne.symm (List.ne_of_not_mem_cons other))]

theorem armedAt_regsBut (s : State) (k : Nat) (v : Word) :
    RegsBut [Reg.SHB_SCHED_AT k] s ((s.wr (Reg.SHB_SCHED_AT k) v).armSched k) := wr_regsBut s _ v

theorem armedAt_line (s : State) (k : Nat) (v : Word) :
    ((s.wr (Reg.SHB_SCHED_AT k) v).armSched k).rf (Reg.SHB_SCHED_CFG k) Fd.SHB_SCHED_CFG_LINE =
      s.rf (Reg.SHB_SCHED_CFG k) Fd.SHB_SCHED_CFG_LINE :=
  congrArg (Word.get · _) (armedAt_regsBut s k v _ (by simp))

theorem armedAt_lineCfg {line : Nat} (inside : line < 16) (k : Nat) (v : Word) :
    ((s.wr (Reg.SHB_SCHED_AT k) v).armSched k).rd (Reg.SHB_LINE_CFG line) = s.rd (Reg.SHB_LINE_CFG line) :=
  armedAt_regsBut s k v _ fun at_mem => lineCfg_not_sched inside k (List.mem_cons_of_mem _ at_mem)

theorem armedAt_open {k line : Nat} (inside : k < 8) (v : Word) (line_open : LineOpen s line) :
    LineOpen ((s.wr (Reg.SHB_SCHED_AT k) v).armSched k) line :=
  lineOpen_congr (armedAt_lineCfg line_open.1 k v) rfl rfl
    (armedAt_regsBut s k v _ fun at_mem => pairStat_not_sched inside (List.mem_cons_of_mem _ at_mem)) line_open

/-- The late trigger of a scheduler armed with a value already reached (R251). -/
theorem lateIssue_passed {k : Nat} (inside : k < 8) (ok : ShbOk s) (v : Word) (steps : Nat)
    (line_open : LineOpen s (s.rf (Reg.SHB_SCHED_CFG k) Fd.SHB_SCHED_CFG_LINE)) :
    Passed s (((s.wr (Reg.SHB_SCHED_AT k) v).armSched k).schedIssue k steps)
      (s.rf (Reg.SHB_SCHED_CFG k) Fd.SHB_SCHED_CFG_LINE) (0x7000 + k) (s.fullTime v) 0 ∧
    (((s.wr (Reg.SHB_SCHED_AT k) v).armSched k).schedIssue k steps).shb.gather = [] := by
  have armed_open : LineOpen ((s.wr (Reg.SHB_SCHED_AT k) v).armSched k)
      (((s.wr (Reg.SHB_SCHED_AT k) v).armSched k).rf (Reg.SHB_SCHED_CFG k) Fd.SHB_SCHED_CFG_LINE) := by
    rw [armedAt_line]
    exact armedAt_open inside v line_open
  have passed := schedIssue_passed (s := (s.wr (Reg.SHB_SCHED_AT k) v).armSched k) inside ok.lines.1 steps armed_open
  rw [armedAt_line, armSched_rd, State.rd_wr_same] at passed
  exact ⟨passed_congr (armedAt_lineCfg line_open.1 k v) rfl passed,
    (schedIssue_shb inside steps armed_open).1.trans ok.gathered⟩

/-- A SCHED_AT write with its value already reached (R251). -/
theorem schedAtWrite_late {who : Accessor} {k : Fin 8} {v : Word} (ok : ShbOk s)
    (allowed : Writable s who (Reg.SHB_SCHED_AT k.val)) (idle : s.pln.run = none) (due : reached s.now v = true)
    (en : s.flag (Reg.SHB_SCHED_CFG k.val) Fd.SHB_SCHED_CFG_EN = true)
    (again : s.flag (Reg.SHB_SCHED_CFG k.val) Fd.SHB_SCHED_CFG_REPEAT = true)
    (line_open : LineOpen s (s.rf (Reg.SHB_SCHED_CFG k.val) Fd.SHB_SCHED_CFG_LINE)) :
    ∃ t, exec (.schedAtWrite who k v) s = .next t ∧
      Passed s t (s.rf (Reg.SHB_SCHED_CFG k.val) Fd.SHB_SCHED_CFG_LINE) (0x7000 + k.val) (s.fullTime v) 0 := by
  obtain ⟨steps, set⟩ := setLive_schedAt_late ok due en again
  obtain ⟨passed, quiet⟩ := lateIssue_passed k.isLt ok v steps line_open
  obtain ⟨t, run, -, -, -, shb⟩ := schedAtWrite_state allowed idle (by rw [set]; exact quiet)
  exact ⟨t, run, passed_of_shb (shb.trans (by rw [set])) passed⟩

theorem opSchedulerFire_of_ready {k : Nat} (ready : s.schedReady k = true)
    (due : reached (s.now + 24) (s.rd (Reg.SHB_SCHED_AT k)) = true) : opSchedulerFire k s = s.schedIssue k 1 :=
  if_pos (by rw [ready, due]; rfl)

theorem opShbTrig_waits {x line : Nat} (ahead : reached s.now (s.rd Reg.SHB_CMD_AT) = false) :
    opShbTrig x line true s = { s with shb := { s.shb with
      cmdAt := s.shb.cmdAt ++ [(x, line, s.rd Reg.SHB_CMD_AT)] } } := by
  simp [opShbTrig, ahead]

/-- No host trigger waits any more. -/
def State.cmdTaken (s : State) : State := { s with shb := { s.shb with cmdAt := [] } }

theorem opCmdAtReached_one {x line : Nat} {v : Word} (waits : s.shb.cmdAt = [(x, line, v)])
    (due : reached s.now v = true) :
    opCmdAtReached s =
      s.cmdTaken.issue [s.cmdTaken.mkTrigger line (0x6000 + x) (s.cmdTaken.fullTime v) 0] := by
  simp [opCmdAtReached, waits, due, State.cmdTaken]

/-- A host trigger at its instant passes its open line, and waits no longer. -/
theorem cmdAtReached_issues {x line : Nat} {v : Word} (ok : ShbOk s) (waits : s.shb.cmdAt = [(x, line, v)])
    (due : reached s.now v = true) (line_open : LineOpen s line) :
    (opCmdAtReached s).shb.cmdAt = [] ∧ Passed s (opCmdAtReached s) line (0x6000 + x) (s.fullTime v) 0 := by
  have taken_open : LineOpen s.cmdTaken line := line_open
  rw [opCmdAtReached_one waits due]
  constructor
  · rw [issue_of_open_shb taken_open]
    rfl
  · exact issue_passed taken_open ok.lines.1 _ _ _

end Sys2Proof.Machine

namespace Sys2Proof.Claims

open Sys2Proof.Machine

/-- Settles O34, each clause by the equation of its command and by what an open line passes. -/
theorem schedulersAndHostTriggers : Obligations.SchedulersAndHostTriggers := by
  unfold Obligations.SchedulersAndHostTriggers
  refine ⟨?fire, ?cfg, ?ahead, ?late, ?atOnce, ?waits, ?reached⟩
  case fire =>
    intro k s ok ready due line_open
    refine ⟨s.schedIssue k.val 1, congrArg Host.Outcome.next (opSchedulerFire_of_ready ready due),
      schedIssue_passed k.isLt ok.lines.1 1 line_open, schedulerFire_issues ok ready line_open⟩
  case cfg =>
    intro who k v r s ok allowed idle row fits range was en ahead
    exact schedCfgWrite_arms ok allowed idle row fits range was en ahead
  case ahead =>
    intro who k v s ok allowed idle ahead
    exact schedAtWrite_arms ok allowed idle ahead
  case late =>
    intro who k v s ok allowed idle due en again line_open
    exact schedAtWrite_late ok allowed idle due en again line_open
  case atOnce =>
    intro x line s ok line_open
    exact ⟨_, rfl, issue_passed line_open ok.lines.1 _ _ _⟩
  case waits =>
    intro x line s ahead
    exact congrArg Host.Outcome.next (opShbTrig_waits ahead)
  case reached =>
    intro x line v s ok waits due line_open
    exact ⟨_, rfl, cmdAtReached_issues ok waits due line_open⟩

end Sys2Proof.Claims
end
